-- ==== Sys2Proof/Word.lean ====
section
/-!
DEFINITION. Sys2Proof/Word.lean: the word types of the block.
A port is a bounded index; a register written whole by a command is a bit vector of its width; a value of the object
dictionary is a natural number below 2^(8·SIZE), little-endian when it is a byte string (R12, R352).
-/
namespace Sys2Proof

/-- A 32-bit word. -/
abbrev Word := BitVec 32

/-- One byte. -/
abbrev Byte := BitVec 8

/-- A time stamp of a command, in nanoseconds (R18). -/
abbrev Stamp := Nat

/-- A downstream port D0 to D15 (R8). -/
abbrev Dn := Fin 16

/-- A port with a cable: D0 to D15 are 0 to 15, UA is 16 and UB is 17 (R8). -/
abbrev Cable := Fin 18

/-- A switch port: the cable ports, 18 (Flint) and 19 (host link) (R8, R29, R30). -/
abbrev SwPort := Fin 20

/-- A trunk: 0 is UA and 1 is UB. -/
abbrev Trunk := Fin 2

/-- The port number of a trunk (R8). -/
abbrev Trunk.port (u : Trunk) : Nat := 16 + u.val

/-- A byte string held as a list of bytes, first byte first. -/
abbrev Bytes := List Nat

end Sys2Proof
end

