-- ==== Sys2Proof/Syntax.lean ====
section
/-!
DEFINITION. Sys2Proof/Syntax.lean: the commands of the block.
-/
namespace Sys2Proof

/-- The readings that come with a command: the two rails and, for a downstream port, VBUS, in mV, its current in mA,
and the linear pair's running total of R119 in µJ (Table 5-1; log entry 5). -/
structure Sense where
  railA : BitVec 16
  railB : BitVec 16
  vbus : BitVec 16
  ibus : BitVec 16
  energy : BitVec 32
  deriving DecidableEq, Repr

/-- A reflection that the reflectometer resolves in a trace: round-trip time in ns and ρ in thousandths (R58, R59). -/
structure Echo where
  time : Nat
  rho : Int
  deriving DecidableEq, Repr

/-- What the monitor's bridge gives at the end of an hour window (Table 2-5, R50, R51): the present reading and the hourly mean
of VBUS to D+, D−, CF1 and CF2 and of D+ to D−, in Ω, and the mean leakage of CF1 and CF2 in units of 10 nA. -/
structure HourReadings where
  dp : Word
  dn : Word
  cf1 : Word
  cf2 : Word
  dpdn : Word
  meanDp : Word
  meanDn : Word
  meanCf1 : Word
  meanCf2 : Word
  meanDpdn : Word
  leak1 : BitVec 16
  leak2 : BitVec 16
  deriving DecidableEq, Repr

/-- A requester of the dictionary other than the host link (R365): the control transfers and link-local CONTROL frames of a trunk,
or the routed CONTROL frames of one SRC hub ID. -/
inductive Requester where
  | trunk (u : Trunk)
  | routed (hub : BitVec 12)
  deriving DecidableEq, Repr

/-- The requester's number: the trunk's switch port, or 0x1000 plus the hub ID. -/
def Requester.code : Requester → Nat
  | .trunk u => 16 + u.val
  | .routed hub => 0x1000 + hub.toNat

/-- What is wrong with a received packet or frame (Table 6-10). -/
inductive LineFault where
  /-- Nothing: it passes its checks. -/
  | good
  /-- The PID check failed, or the CODE is reserved. -/
  | pid
  /-- A CRC failed. -/
  | crc
  /-- A stuffing, 8b/10b code or disparity error. -/
  | code
  /-- A DATA packet longer than MAX. -/
  | long
  deriving DecidableEq, Repr

/-- A DATA packet of a burst, as received (R182): SEQ, its payload, and its fault. -/
structure Packet where
  seq : Fin 16
  len : Nat
  payload : Nat
  fault : LineFault
  deriving DecidableEq, Repr

/-- The tokens of a packet link that name an endpoint without a setup record (Table 6-6). -/
inductive Token where
  | out | in_ | ping
  deriving DecidableEq, Repr

/-- The handshakes of a packet link (Table 6-6). -/
inductive Handshake where
  | ack | nak | stall | nyet
  deriving DecidableEq, Repr

/-- How a frame in reception ends (R198, R199, R293): with /T/ or EOP, with /P/ or the poisoned EOP, or with its link, which left ACTIVE, detached
or was reset. -/
inductive FrameFin where
  | normal | poisoned | truncated
  deriving DecidableEq, Repr

/-- The commands of the block, one for each row of spec/opcode_table.json, in its order. Every command carries the time stamp
at which it comes (R18). -/
inductive Instr where
  /-- FAST_TRIP (R144): The shunt current passes the fast-trip threshold; the power die opens both pairs within tFastTrip and
  the trip sequence of R147 runs. -/
  | fastTrip (t : Stamp) (p : Dn) (m : Sense) (peak : BitVec 16) (busy ovr : Bool)
  /-- ACTIVE_LIMITING_ENTRY (R144): The shunt current reaches the active limit; the power die regulates the pair at the limit
  and starts counting LIMIT_TIME. -/
  | activeLimitingEntry (t : Stamp) (p : Dn) (left : Stamp) (m : Sense)
  /-- TIMED_LIMIT_TRIP (R144): Limiting lasts LIMIT_TIME without a 1 ms break; the port trips with cause OVERLOAD. -/
  | timedLimitTrip (t : Stamp) (p : Dn) (last : Stamp) (m : Sense) (peak : BitVec 16) (busy ovr : Bool)
  /-- LIMITING_GUARD_TRIP (R144): The energy or power guard fires during active limiting; the port trips with cause OVERLOAD. -/
  | limitingGuardTrip (t : Stamp) (p : Dn) (last : Stamp) (m : Sense) (peak : BitVec 16) (busy ovr : Bool)
  /-- REVERSE_TRIP (R145): Reverse current of 100 mA or more lasts tReverse while the port is ON; the port trips with cause
  REVERSE. -/
  | reverseTrip (t : Stamp) (p : Dn) (since : Stamp) (m : Sense) (peak : BitVec 16) (busy ovr : Bool)
  /-- RETRY_HOLDOFF_EXPIRY (R147): The RETRY_HOLDOFF window after a trip runs out, so RESTORE_DEFAULT may pass its holdoff
  check. -/
  | retryHoldoffExpiry (t : Stamp) (p : Dn)
  /-- DISCHARGE_COMPLETE (R148): VBUS falls below 1.0 V and the discharge path is switched off. -/
  | dischargeComplete (t : Stamp) (p : Dn) (m : Sense)
  /-- VBUS_BELOW_5V (R148): VBUS falls below 5 V in DISCHARGING and the port enters OFF. -/
  | vbusBelow5v (t : Stamp) (p : Dn) (m : Sense)
  /-- DISCHARGE_TIMEOUT (R148): tDischargeMax ends with VBUS still at 5 V or more; discharge is switched off, DISCHARGE_FAILS
  increments and a PORTPWR event is raised. -/
  | dischargeTimeout (t : Stamp) (p : Dn) (m : Sense)
  /-- INRUSH_SETTLED (R141): VBUS stays within 5 % of the rail for tVbusSettle during a power-on and the port enters ON. -/
  | inrushSettled (t : Stamp) (p : Dn) (since : Stamp) (m : Sense)
  /-- POWER_CMD_OFF (R149): A write of POWER_CMD OFF withdraws a queued power-on or turns off a powered port, unless a
  contract is in force. -/
  | powerCmdOff (t : Stamp) (p : Dn)
  /-- POWER_CMD_RESTORE_DEFAULT (R149): A write of POWER_CMD RESTORE_DEFAULT runs the checks of R149 and asks Slate for the
  power-on cost. -/
  | powerCmdRestoreDefault (t : Stamp) (p : Dn) (m : Sense)
  /-- LIMIT_SET_WRITE (R142): A write of LIMIT_SET takes effect at once, or at entry to ON when the port is in INRUSH or
  MOVING. -/
  | limitSetWrite (t : Stamp) (p : Dn) (v : BitVec 16)
  /-- OC_GROUP_ASSERT (R151): An enabled OC_Gk_N input stays low past its filter; the status bit is set, the group counter
  increments and a PORTPWR event is raised. -/
  | ocGroupAssert (t : Stamp) (g : Fin 4)
  /-- OC_GROUP_RELEASE (R151): An OC_Gk_N input returns high and its status bit clears. -/
  | ocGroupRelease (t : Stamp) (g : Fin 4)
  /-- BUDGET_TICK (R153): At each budget tick Slate lowers every supply level by its recovery and releases queued entries that
  fit, in order. -/
  | budgetTick (t : Stamp)
  /-- SCREEN_READING (R45): A 10 s period of screen injection ends and the screen insulation and fault group are written. -/
  | screenReading (t : Stamp) (p : Dn) (r mean : Word) (m : Sense)
  /-- HOURLY_MEAN (R50): An hour window closes; hourly means, the trend, CF_LEAK_BASE and LINE_STATE are updated. -/
  | hourlyMean (t : Stamp) (p : Dn) (r : HourReadings) (overlap : Bool)
  /-- FORCED_MONITOR_SLOT (R47): No monitor slot has occurred in 64 micro-frames, so the engine holds off transactions for 15
  µs after the next SOF. -/
  | forcedMonitorSlot (t : Stamp) (p : Dn)
  /-- TDR_TRACE_COMPLETE (R57): The 256th shot of a trace is averaged; the trace is stored and fault events, distance and
  cable length are derived. -/
  | tdrTraceComplete (t : Stamp) (p : Dn) (trace : BitVec 16384) (echoes : List Echo)
  /-- TDR_INTERVAL_EXPIRY (R57): TDR_INTERVAL elapses and a new reflectometry trace begins. -/
  | tdrIntervalExpiry (t : Stamp) (p : Dn)
  /-- TDR_START (R57): A write of 1 to TDR_START begins a reflectometry trace. -/
  | tdrStart (t : Stamp) (p : Dn)
  /-- TRIP_LOCATION_TRACE (R60): After a trip has discharged VBUS below 5 V and the PHY group is ON, the hub takes a trace as
  the trip's location record. -/
  | tripLocationTrace (t : Stamp) (p : Dn)
  /-- CAPTURE_BASELINE (R50): A write of 1 stores present readings and the last trace as the baseline, keeping the hourly
  means. -/
  | captureBaseline (t : Stamp) (p : Dn)
  /-- PROBE_START (R52): A write of 1 to PROBE_START starts a polarity probe unless one of the refusal conditions holds. -/
  | probeStart (t : Stamp) (p : Dn)
  /-- PROBE_PHASE_END (R52): A polarity-probe phase ends; the next phase starts, or after the reverse phase the result is
  classified under R54. -/
  | probePhaseEnd (t : Stamp) (p : Dn) (v cur : BitVec 16) (m : Sense)
  /-- SNIFF_SAMPLE (R67): The attach watcher samples each CF wire at tSniffSample; two candidate samples move the port to
  ATTACH_WAIT. -/
  | sniffSample (t : Stamp) (p : Cable) (cf1 cf2 : BitVec 16)
  /-- CLASSIFY_STAGE_END (R70): A 2 ms stage of PERMIT on one CF wire ends and that wire is classified. -/
  | classifyStageEnd (t : Stamp) (p : Cable) (v : BitVec 16)
  /-- ATTACH_DEBOUNCE_DONE (R70): A classification or source presence holds for tAttachDebounce and the port enters its
  attached state, FAULT_LOCK or UNATTACHED. -/
  | attachDebounceDone (t : Stamp) (p : Cable)
  /-- CANDIDATE_BACKOFF_END (R68): tCandidateBackoff expires; candidates are accepted again and an excluded Ra wire is
  rechecked. -/
  | candidateBackoffEnd (t : Stamp) (p : Cable) (cf1 cf2 : BitVec 16)
  /-- TOGGLE_PHASE_END (R71): A dual-role port's source or sink phase ends and it switches phase with a new random share. -/
  | togglePhaseEnd (t : Stamp) (p : Cable)
  /-- TRY_DEBOUNCE_DONE (R72): Rd holds on one wire for tTryDebounce in TRY_SOURCE and the port enters ATTACHED_SOURCE. -/
  | tryDebounceDone (t : Stamp) (p : Cable)
  /-- TRY_TIMEOUT (R72): tTry expires in TRY_SOURCE and the port enters TRY_WAIT_SINK. -/
  | tryTimeout (t : Stamp) (p : Cable)
  /-- TRY_WAIT_TIMEOUT (R72): tTryWait expires in TRY_WAIT_SINK and the port returns to UNATTACHED. -/
  | tryWaitTimeout (t : Stamp) (p : Cable)
  /-- DETACH (R74): The message wire reads open, or the source is absent, for tDetach; the port enters UNATTACHED and traffic,
  contract and power are ended. -/
  | detach (t : Stamp) (p : Cable) (opened : Stamp)
  /-- CF_OVERVOLTAGE (R75): A CF wire stays in the overvoltage band for tCfOver and the port enters FAULT_LOCK. -/
  | cfOvervoltage (t : Stamp) (p : Cable) (mv : BitVec 16) (since : Stamp)
  /-- ATTACH_RELEASE (R75): A write of 1 to ATTACH_RELEASE returns a FAULT_LOCK port to UNATTACHED, and is refused otherwise. -/
  | attachRelease (t : Stamp) (p : Cable)
  /-- CF_MESSAGE_RECEIVED (R90): A whole CF message is received; framing, CRC, duplicate and collision checks run, GOOD_ACK is
  sent and the message is delivered to Flint. -/
  | cfMessageReceived (t : Stamp) (p : Cable) (header : BitVec 16) (objs : List Word) (crc : Word) (pre : Stamp)
  /-- GOOD_ACK_RECEIVED (R91): The matching GOOD_ACK of a sent message arrives; the transmit MSG_ID advances and the exchange
  proceeds. -/
  | goodAckReceived (t : Stamp) (p : Cable) (id : Fin 8) (tag : Bool)
  /-- CF_RECEIVE_TIMEOUT (R91): tReceive expires with no GOOD_ACK; the message is retried, or after the second retry reported
  UNDELIVERED with NO_ACK. -/
  | cfReceiveTimeout (t : Stamp) (p : Cable) (mv : BitVec 16) (busy : Bool)
  /-- HARD_RESET_RECEIVED (R88): A HARD_RESET line signal is recognised; every exchange ends, MSG_IDs reset and the contract
  layer enters HARD_RESETTING. -/
  | hardResetReceived (t : Stamp) (p : Cable)
  /-- HOLD_LEAD_EXPIRY (R95): tHoldLead after HOLD elapses and the hub starts the preamble of its exchange. -/
  | holdLeadExpiry (t : Stamp) (p : Cable) (busy : Bool)
  /-- WAIT_RETRY_EXPIRY (R97): The wait-and-retry time after a WAIT passes and a held request may be sent. -/
  | waitRetryExpiry (t : Stamp) (p : Cable) (type : Fin 16) (busy : Bool)
  /-- NEW_EXCHANGE_START (R111): The conditions of R111 all hold and a pending NEW_EXCHANGE is sent. -/
  | newExchangeStart (t : Stamp) (p : Cable) (mv : BitVec 16) (busy : Bool)
  /-- CF_ANSWER_NEW_EXCHANGE (R108): A CF_ANSWER write of ACTION NEW_EXCHANGE is checked and made pending for the port. -/
  | cfAnswerNewExchange (t : Stamp) (p : Cable) (type dest numDo : Byte) (objs : BitVec 224) (busy : Bool)
  /-- CF_ANSWER_ANSWER (R116): A CF_ANSWER write of ACTION ANSWER is checked against the awaited message and, for ACCEPT to a
  REQUEST, against offer, rail, dissipation and budget. -/
  | cfAnswerAnswer (t : Stamp) (p : Cable) (type dest numDo : Byte) (ref : Word) (fallback : Byte) (objs : BitVec 224) (m : Sense) (busy : Bool)
  /-- CF_ANSWER_HARD_RESET (R108): A CF_ANSWER write of ACTION HARD_RESET makes the hub send HARD_RESET on the port. -/
  | cfAnswerHardReset (t : Stamp) (p : Cable) (busy : Bool)
  /-- ANSWER_DEADLINE (R109): tAnswerDeadline passes with no answer; the miss is counted, the exchange ends for the hub and
  the contract state returns to the prior state. -/
  | answerDeadline (t : Stamp) (p : Cable) (busy : Bool)
  /-- FIRST_CAPS_EXPIRY (R114): tFirstCaps after the default-power, HUB_TRUNK or trunk-attach condition expires and the hub
  applies HOLD for the default offer. -/
  | firstCapsExpiry (t : Stamp) (p : Cable) (busy : Bool)
  /-- SINK_REQUEST_TIMEOUT (R112): tSinkRequest expires after SOURCE_CAPS with no REQUEST and the contract returns to the
  prior state with a NO_REQUEST record. -/
  | sinkRequestTimeout (t : Stamp) (p : Cable) (busy : Bool)
  /-- RESPONSE_TIMEOUT (R104): tResponse passes with no answer; the message counts as answered WAIT, or an unanswered
  SOFT_RESET leads to HARD_RESET. -/
  | responseTimeout (t : Stamp) (p : Cable) (busy : Bool)
  /-- READY_WAIT_TIMEOUT (R104): tReadyWait expires; a sink awaiting READY sends HARD_RESET, and a former CFS supplier reports
  the swap undone. -/
  | readyWaitTimeout (t : Stamp) (p : Cable) (busy : Bool)
  /-- MOVE_RAIL_REACHED (R117): VBUS nears or reaches the target rail during a move and the incoming pair is driven fully on. -/
  | moveRailReached (t : Stamp) (p : Dn) (m : Sense)
  /-- MOVE_SETTLED (R117): After tVbusSettle with VBUS within 5 % and the outgoing pair open, the new limit applies and READY
  is sent. -/
  | moveSettled (t : Stamp) (p : Dn) (since : Stamp) (m : Sense)
  /-- SLEW_GUARD_ABORT (R119): The slew energy or power guard fires during a move or power-on; both pairs open, the contract
  is discarded and HARD_RESET is sent. -/
  | slewGuardAbort (t : Stamp) (p : Dn) (since : Stamp) (m : Sense) (busy ovr : Bool)
  /-- TRANSITION_DETACH_ABORT (R121): The message wire crosses the open threshold during a move or inrush; the power die opens
  both pairs within tAbortOff and the abort is recorded. -/
  | transitionDetachAbort (t : Stamp) (p : Dn) (m : Sense) (ovr : Bool)
  /-- DETACH_GLITCH (R122): The message wire reads Rd again before tDetach after a detach abort; the port stays attached,
  unpowered, with cause DETACH_GLITCH. -/
  | detachGlitch (t : Stamp) (p : Dn) (busy : Bool)
  /-- SRC_RECOVER_EXPIRY (R124): VBUS has stayed below 5 V for tSrcRecover; default power is requested when the cause allows
  and the default offer follows. -/
  | srcRecoverExpiry (t : Stamp) (p : Cable) (m : Sense)
  /-- SOFT_RESET_RECEIVED (R127): A SOFT_RESET ends open exchanges, resets MSG_IDs, keeps the contract and is forwarded to the
  manager. -/
  | softResetReceived (t : Stamp) (p : Cable) (id : Fin 8) (pre : Stamp)
  /-- CFS_FAULT (R128): The cable-electronics supply holds its current limit for 1 ms, turns off and CFS_STATE becomes FAULT. -/
  | cfsFault (t : Stamp) (p : Cable)
  /-- CFS_RESTART (R128): A write of 1 to CFS_RESTART restores the cable-electronics supply. -/
  | cfsRestart (t : Stamp) (p : Cable)
  /-- CFS_ENABLE_WRITE (R129): A write of CFS_ENABLE; a write of 0 removes the hub's cable-electronics supply at once. -/
  | cfsEnableWrite (t : Stamp) (p : Cable) (v : Byte)
  /-- CFS_STABLE (R130): The new supplier's supply has been stable for tCfsStable during a swap and it sends READY with WHAT
  CFS. -/
  | cfsStable (t : Stamp) (p : Cable)
  /-- SERIAL_FRAME_CLOSE (R135): ALT_SERIAL_GAP bit times of idle pass, or 256 characters arrive, and the received serial
  frame enters Granite for port 18. -/
  | serialFrameClose (t : Stamp) (p : Dn) (flags : Byte) (count : Fin 257) (first : BitVec 64) (chars : BitVec 2048)
  /-- SERIAL_TX_START (R135): A frame for serial transmission starts once the line has been idle for ALT_SERIAL_GAP. -/
  | serialTxStart (t : Stamp) (p : Dn)
  /-- LINE_TEST_TRACE (R136): A LINE_TEST trace of 256 shots completes and is written, with the loop resistance for a shorted
  far end. -/
  | lineTestTrace (t : Stamp) (p : Dn) (trace : BitVec 16384) (loop : Word)
  /-- PULLUP_DETECTED (R168): The upstream end sees a data line go high and starts the tConnect debounce. -/
  | pullupDetected (t : Stamp) (p : Cable) (dMinus : Bool)
  /-- PULLUP_LOST (R174): The presence pull-up disappears and the link returns to DOWN. -/
  | pullupLost (t : Stamp) (p : Cable)
  /-- CONNECT_DEBOUNCE_DONE (R168): A data line has held high for tConnect and the upstream end resets the link. -/
  | connectDebounceDone (t : Stamp) (p : Cable)
  /-- RESET_SE0_END (R169): tResetSE0 of driven SE0 ends and the upstream end opens the offer window. -/
  | resetSe0End (t : Stamp) (p : Cable)
  /-- LINK_RESET_SEEN (R169): A downstream end sees SE0 of at least 10 µs or a RESET frame and resets its address, sequence
  states, transfers and halts. -/
  | linkResetSeen (t : Stamp) (p : Cable)
  /-- OFFER_END (R170): The line has held J for tOfferEnd after an offer run and the upstream end grants the lower class. -/
  | offerEnd (t : Stamp) (p : Cable) (ts : Bool)
  /-- OFFER_WINDOW_END (R171): tOfferWindow passes with no offer and the link runs at the class of its pull-up. -/
  | offerWindowEnd (t : Stamp) (p : Cable)
  /-- GRANT_RECEIVED (R171): The downstream end has counted the grant runs and within tSwitch removes its pull-up and enters
  HS or TS training. -/
  | grantReceived (t : Stamp) (p : Cable) (runs : Nat)
  /-- TRAINING_LOCKED (R172): An end has received the required training symbols and sets polarity, sends /TR2/ or enters
  ACTIVE. -/
  | trainingLocked (t : Stamp) (p : Cable) (active inverted inverted2 : Bool)
  /-- TRAIN_TIMEOUT (R172): tTrain passes without ACTIVE; the upstream end resets and caps at HS, the downstream end returns
  to FS. -/
  | trainTimeout (t : Stamp) (p : Cable)
  /-- SOF_BOUNDARY (R175): A micro-frame or frame boundary arrives and the upstream end sends SOF, extended SOF or TICK. -/
  | sofBoundary (t : Stamp) (p : Cable)
  /-- TOKEN_RECEIVED (R179): An OUT, IN or PING token arrives at a downstream end and is answered per endpoint state. -/
  | tokenReceived (t : Stamp) (p : Cable) (k : Token) (dev : Byte) (ep : Fin 16) (count : Fin 8) (time : Bool) (fault : LineFault)
  /-- PING_TIME_ECHO (R177): A downstream hub answers a PING with TIME exactly tTimeEcho after its end. -/
  | pingTimeEcho (t : Stamp) (p : Cable)
  /-- SOF_RECEIVED (R180): A downstream end receives SOF; an extended SOF on the control upstream is used as a time message. -/
  | sofReceived (t : Stamp) (p : Cable) (body : BitVec 96) (fault : LineFault)
  /-- DATA_BURST_RECEIVED (R187): A burst of DATA packets is received, accepted or discarded by sequence, and answered with
  NEXT. -/
  | dataBurstReceived (t : Stamp) (p : Cable) (packets : List Packet) (ended : Bool)
  /-- HANDSHAKE_RECEIVED (R185): The upstream end receives ACK, NAK, NYET or STALL and the transaction ends with that result. -/
  | handshakeReceived (t : Stamp) (p : Cable) (k : Handshake) (next : Fin 16) (echo : Option Nat) (fault : LineFault)
  /-- LINK_RESPONSE_TIMEOUT (R188): tResponse passes without a valid answer; the transaction is repeated up to three times and
  then ends in error. -/
  | linkResponseTimeout (t : Stamp) (p : Cable)
  /-- SETUP_RECEIVED (R192): A SETUP and its record arrive; any open transfer ends, sequence states reset and ACK is answered.
  -/
  | setupReceived (t : Stamp) (p : Cable) (dev : Byte) (record : BitVec 64) (fault : LineFault)
  /-- GET_STATUS (R194): The standard request GET_STATUS returns an endpoint's halt state and reason. -/
  | getStatus (t : Stamp) (p : Cable) (index : BitVec 16)
  /-- CLEAR_HALT (R197): At its status stage CLEAR_HALT clears the named halt and resets sequences if its cause is absent, or
  is stalled. -/
  | clearHalt (t : Stamp) (p : Cable) (index : BitVec 16)
  /-- SET_ADDRESS (R194): SET_ADDRESS sets a new device address that takes effect at the ACK of its status stage. -/
  | setAddress (t : Stamp) (p : Cable) (addr : BitVec 16)
  /-- IDENTIFY (R225): The IDENTIFY request returns the 32-byte identity record. -/
  | identify (t : Stamp) (p : Cable)
  /-- TRUNK_FRAME_RECEIVED (R201): A trunk frame arrives whole and is checked for HCHECK, poisoning, CRC, ENC and sequence. -/
  | trunkFrameReceived (t : Stamp) (p : Cable) (header : BitVec 128) (len data : Nat) (tag : BitVec 128) (crc : Word) (poisoned code : Bool)
  /-- LINK_CREDIT (R204): A CREDIT frame updates the cumulative credit limits per class. -/
  | linkCredit (t : Stamp) (u : Trunk) (limits : BitVec 64)
  /-- LINK_TICK (R268): A TICK frame on the control upstream is used as a time message. -/
  | linkTick (t : Stamp) (u : Trunk) (time : BitVec 64)
  /-- LINK_PROBE (R203): A PROBE frame arrives at the upstream end, which answers ECHO within 10 µs. -/
  | linkProbe (t : Stamp) (u : Trunk) (t1 : BitVec 64)
  /-- LINK_ECHO (R203): An ECHO frame arrives and the downstream end computes CABLE_DELAY. -/
  | linkEcho (t : Stamp) (u : Trunk) (t1 t2 t3 : BitVec 64)
  /-- LINK_STATUS (R203): A STATUS frame carrying the peer's endpoint halt reasons arrives. -/
  | linkStatus (t : Stamp) (u : Trunk) (reasons : BitVec 32)
  /-- LINK_SUSPEND (R211): A SUSPEND frame arrives; the downstream end answers SUSPEND and both turn transmitters off. -/
  | linkSuspend (t : Stamp) (u : Trunk)
  /-- LINK_RESET_FRAME (R169): A LINK frame of kind RESET arrives and the downstream end resets. -/
  | linkResetFrame (t : Stamp) (u : Trunk)
  /-- CREDIT_TIMER (R204): 100 µs pass since the last CREDIT and the receiver sends CREDIT again. -/
  | creditTimer (t : Stamp) (u : Trunk)
  /-- LINK_STATUS_TIMER (R203): 100 ms pass and a STATUS frame is sent. -/
  | linkStatusTimer (t : Stamp) (u : Trunk)
  /-- CONTROL_FRAME_REQUEST (R205): A CONTROL REQUEST frame arrives and is served, answered from the stored RESPONSE or
  ignored as a repeat. -/
  | controlFrameRequest (t : Stamp) (link : Option Trunk) (src : BitVec 24) (tag : BitVec 16) (len data : Nat) (busy good : Bool)
  /-- LOSS_OF_LOCK (R206): A TS receiver sees four code errors in 16 symbols or no valid symbol for 50 µs and enters TRAINING.
  -/
  | lossOfLock (t : Stamp) (u : Trunk)
  /-- SUSPEND_DETECTED (R208): A downstream end sees no packet for tSuspend and enters SUSPENDED, or takes SE0 as reset. -/
  | suspendDetected (t : Stamp) (p : Cable) (se0 : Bool)
  /-- RESUME_K_END (R209): tResume of driven K ends and the upstream end sends the LS EOP before its first SOF. -/
  | resumeKEnd (t : Stamp) (p : Cable)
  /-- WAKE_DETECTED (R210): An upstream end reads K for tWakeDetect, or TS activity, and takes over the wake. -/
  | wakeDetected (t : Stamp) (p : Cable) (onset : Stamp) (present : Bool)
  /-- PORT_CMD_DISABLE (R218): PORT_CMD DISABLE moves the port to DISABLED with cause COMMAND. -/
  | portCmdDisable (t : Stamp) (p : Cable)
  /-- PORT_CMD_ENABLE (R218): PORT_CMD ENABLE moves a DISABLED or ERROR_HOLD port to RESETTING or DISCONNECTED. -/
  | portCmdEnable (t : Stamp) (p : Cable)
  /-- PORT_CMD_RESET (R218): PORT_CMD RESET moves an ENABLED or SUSPENDED port to RESETTING and resets its link. -/
  | portCmdReset (t : Stamp) (p : Cable)
  /-- PORT_CMD_SUSPEND (R238): PORT_CMD SUSPEND stops SOF and tokens from the next SOF time and the port enters SUSPENDED. -/
  | portCmdSuspend (t : Stamp) (p : Cable)
  /-- PORT_CMD_RESUME (R240): PORT_CMD RESUME starts the resume listen window on a suspended port. -/
  | portCmdResume (t : Stamp) (p : Cable)
  /-- HUB_PORT_TURN (R220): A port finishes its previous transaction and takes its next work in the order of R220. -/
  | hubPortTurn (t : Stamp) (p : Cable) (activity : Bool)
  /-- PORT_TRANSACTION_END (R222): A hub-engine transaction ends; errors are counted and ERROR_LIMIT can send the port to
  ERROR_HOLD. -/
  | portTransactionEnd (t : Stamp) (p : Cable)
  /-- BABBLE_DETECTED (R223): A far end still transmits at the guard and the port enters ERROR_HOLD with cause BABBLE. -/
  | babbleDetected (t : Stamp) (p : Cable)
  /-- ENUM_START (R224): tEnumStart after ACTIVE expires and the enumeration IDENTIFY attempt runs. -/
  | enumStart (t : Stamp) (p : Cable)
  /-- DELIVERY_TIMEOUT (R232): A delivery has not completed within DELIVERY_TIMEOUT of reaching egress and is dropped. -/
  | deliveryTimeout (t : Stamp) (p : Cable)
  /-- SPLIT_START_TOKEN (R234): A SPLIT_START creates a QUEUED slot or is answered NAK or STALL. -/
  | splitStartToken (t : Stamp) (u : Cable) (body : Word) (seq : Fin 16) (len data : Nat)
  /-- SPLIT_COMPLETE_TOKEN (R234): A SPLIT_COMPLETE is answered NYET, the held result, or STALL. -/
  | splitCompleteToken (t : Stamp) (u : Cable) (body : Word)
  /-- SPLIT_REQUEST_FRAME (R235): A DATA frame to hub:0:14 creates a slot, returns a stored completion, or is answered at
  once. -/
  | splitRequestFrame (t : Stamp) (src : BitVec 24) (cls : Fin 4) (len payload : Nat)
  /-- SPLIT_RUN_TIMEOUT (R236): A slot still QUEUED after tSplitRun becomes DONE with TIMEOUT. -/
  | splitRunTimeout (t : Stamp) (slot : Fin 128)
  /-- SPLIT_HOLD_EXPIRY (R234): tSplitHold expires and a DONE slot is freed. -/
  | splitHoldExpiry (t : Stamp) (slot : Fin 128)
  /-- RESUME_LISTEN_END (R240): The 2 µs resume listen ends; the hub drives resume or training, settles any coincident wake
  and the port enters RESUMING. -/
  | resumeListenEnd (t : Stamp) (p : Cable)
  /-- WAKE_TAKEN (R241): A remote wake on a SUSPENDED port with WAKE_ENABLE is taken over and passed upstream. -/
  | wakeTaken (t : Stamp) (p : Cable)
  /-- UPSTREAM_RESUMED (R239): The control upstream returns to ACTIVE and ports suspended by UPSTREAM are resumed in order. -/
  | upstreamResumed (t : Stamp)
  /-- UPSTREAM_RESET (R243): A reset of the control upstream is recognised at t_x and exactly the items of Table 7-11 are
  aborted. -/
  | upstreamReset (t : Stamp)
  /-- MANAGER_PATH_ON (R230): The path to the manager comes ON and held port, CF, hierarchy and fault records are sent in
  order. -/
  | managerPathOn (t : Stamp)
  /-- POLL_ENTRY_WRITE (R251): A poll-entry write is checked and takes effect at the next micro-frame start, clearing the
  entry's state. -/
  | pollEntryWrite (t : Stamp) (e : Fin 4096) (v : BitVec 256)
  /-- MICROFRAME_START (R252): A micro-frame begins; due poll entries are queued or skipped and overruns counted. -/
  | microframeStart (t : Stamp)
  /-- POLL_COMPLETE (R256): A poll ends with an outcome, is judged by its policy and may produce a report. -/
  | pollComplete (t : Stamp) (p : Dn)
  /-- REPORT_WINDOW_END (R262): A report window ends and the open batch closes and enters Granite. -/
  | reportWindowEnd (t : Stamp)
  /-- QUARTZ_START (R264): QUARTZ_CMD START makes Quartz RUNNING from the next micro-frame. -/
  | quartzStart (t : Stamp)
  /-- QUARTZ_STOP (R264): QUARTZ_CMD STOP leaves RUNNING or PAUSED for STOPPED under R265. -/
  | quartzStop (t : Stamp)
  /-- QUARTZ_PAUSE (R264): QUARTZ_CMD PAUSE moves Quartz to PAUSED with cause COMMAND. -/
  | quartzPause (t : Stamp)
  /-- TIME_SET (R267): A write of TIME_SET on the source steps the timebase at the next micro-frame boundary. -/
  | timeSet (t : Stamp) (v : BitVec 64)
  /-- TIME_TRIM (R267): A write of TIME_TRIM on the source trims its rate. -/
  | timeTrim (t : Stamp) (v : BitVec 32)
  /-- PROBE_INTERVAL_EXPIRY (R268): PROBE_INTERVAL passes and a PING with TIME or a PROBE frame is sent. -/
  | probeIntervalExpiry (t : Stamp) (p : Cable)
  /-- SYNC_MESSAGE_TIMEOUT (R269): No accepted time message arrives within 16 ms and the hub enters HOLDOVER. -/
  | syncMessageTimeout (t : Stamp)
  /-- TIMEBASE_SLEW_TICK (R269): Each 16 µs the timebase adds or omits one tick while an offset is worked off. -/
  | timebaseSlewTick (t : Stamp)
  /-- TIMEBASE_STEP (R272): A decided step is applied at the next micro-frame boundary, skipping passed micro-frames and
  closing windows. -/
  | timebaseStep (t : Stamp)
  /-- FRAME_HEADER_RECEIVED (R284): A frame's header is in Shale and Granite performs the lookup and admission. -/
  | frameHeaderReceived (t : Stamp) (p : SwPort) (header : BitVec 128) (payload : Nat) (named : SwPort)
  /-- FRAME_VERDICT (R293): A frame ends and its verdict becomes GOOD or BAD; STORE copies are queued or copies poisoned or
  dropped. -/
  | frameVerdict (t : Stamp) (p : Cable) (ep : Fin 3) (len data : Nat) (tag : BitVec 128) (crc : Word) (fin : FrameFin)
  /-- EGRESS_COPY_START (R292): An eligible copy reaches the head of its class queue and begins on its egress. -/
  | egressCopyStart (t : Stamp) (p : SwPort) (cutReady : Bool)
  /-- EGRESS_COPY_END (R294): A copy finishes sending, normally or poisoned, releasing its share of cells. -/
  | egressCopyEnd (t : Stamp) (p : SwPort)
  /-- CUT_STALL_TIMEOUT (R297): No byte of a CUT copy's frame arrives within CUT_STALL and the copy ends truncated with
  STALLED. -/
  | cutStallTimeout (t : Stamp) (p : Cable)
  /-- ECC_ERROR (R279): A Shale read finds a single or double bit error; it is corrected or the cell's frame becomes BAD, and
  a MEM event follows. -/
  | eccError (t : Stamp) (bank : Fin 52) (cell : Fin 512) (double : Bool)
  /-- REJOIN_HOLD_EXPIRY (R301): REJOIN_HOLD passes after a PATH member returns to ACTIVE and it becomes a candidate again. -/
  | rejoinHoldExpiry (t : Stamp) (p : Cable)
  /-- PUBLISH (R313): A write of 1 to PUBLISH is checked and, if DONE, scheduled to take effect. -/
  | publish (t : Stamp)
  /-- PUBLISH_EFFECT (R313): At t_p the shadow becomes live, the epoch advances and the old epoch starts draining. -/
  | publishEffect (t : Stamp)
  /-- REVERT (R312): A write of 1 to REVERT copies every live entry into the shadow. -/
  | revert (t : Stamp)
  /-- RING_CLEAR (R319): A write of 1 to RING_CLEAR sets every ring record and RING_WRITTEN to 0. -/
  | ringClear (t : Stamp)
  /-- AUDIT_START (R320): At each 10 ms stamp the auditor starts walking free lists and queues. -/
  | auditStart (t : Stamp)
  /-- AUDIT_COMPLETE (R321): An audit completes; orphans seen twice are reclaimed and double links are raised as faults. -/
  | auditComplete (t : Stamp) (orphans doubles : List Nat)
  /-- ASSIGN (R326): A write of ASSIGN gives an unassigned worker its hub ID, tier, parent and control upstream. -/
  | assign (t : Stamp) (via : SwPort) (v : BitVec 64)
  /-- RELEASE_ID (R327): A write of 1 to RELEASE_ID returns the worker to the unassigned state. -/
  | releaseId (t : Stamp)
  /-- RELAY_REQUEST (R329): A relay request to hub:0:13 is checked and carried to the child as a control transfer or CONTROL
  frame. -/
  | relayRequest (t : Stamp) (src : BitVec 24) (len payload : Nat)
  /-- RELAY_CHILD_ANSWER (R329): The child's answer arrives and the relay completion is sent to the requester. -/
  | relayChildAnswer (t : Stamp) (p : Cable) (stall : Bool) (len data : Nat)
  /-- RELAY_TIMEOUT (R329): No answer arrives within 600 ms and the relay ends with TIMEOUT. -/
  | relayTimeout (t : Stamp) (p : Cable)
  /-- CONTROL_UPSTREAM_LOST (R334): The control upstream leaves ACTIVE; control moves to the standby or the worker becomes
  isolated. -/
  | controlUpstreamLost (t : Stamp)
  /-- STANDBY_UP (R333): The other trunk reaches ACTIVE as a sink and becomes the standby upstream. -/
  | standbyUp (t : Stamp) (u : Trunk)
  /-- RECONNECTED (R335): An isolated worker's first trunk to reach ACTIVE as a sink becomes the control upstream. -/
  | reconnected (t : Stamp) (u : Trunk)
  /-- NOTICE_RECEIVED (R338): A reach notice arrives and replaces the port's reach set unless it is older. -/
  | noticeReceived (t : Stamp) (p : Cable) (len payload : Nat)
  /-- NOTICE_SEND_ON_CHANGE (R338): What the hub declares changes and notices are sent on every hub port within 200 µs. -/
  | noticeSendOnChange (t : Stamp)
  /-- NOTICE_TIMER (R338): 100 ms pass and the hub sends notices on every hub port. -/
  | noticeTimer (t : Stamp)
  /-- NOTICES_EXPIRED (R336): No notice arrives on a port within 350 ms and its reach set is cleared. -/
  | noticesExpired (t : Stamp) (p : Cable)
  /-- HELLO_TIMER (R341): The HELLO interval passes and a HELLO is sent on every fabric link. -/
  | helloTimer (t : Stamp)
  /-- HELLO_RECEIVED (R341): A HELLO arrives and the neighbour becomes or stays heard or two-way. -/
  | helloReceived (t : Stamp) (p : Cable) (node : BitVec 16) (serial : BitVec 64) (heard : List Nat)
  /-- NEIGHBOUR_HOLD_EXPIRY (R341): No HELLO from a neighbour within 1,000 ms and the neighbour is lost. -/
  | neighbourHoldExpiry (t : Stamp) (p : Cable)
  /-- LSA_ORIGINATE (R342): Within 50 ms of a neighbour or cost change, or at refresh, the node originates an LSA. -/
  | lsaOriginate (t : Stamp)
  /-- LSA_RECEIVED (R342): An LSA arrives and is stored and flooded, acknowledged, or answered with the stored one. -/
  | lsaReceived (t : Stamp) (p : Cable) (node : BitVec 16) (seq : BitVec 32) (serial : BitVec 64) (links : List (Nat × Nat))
  /-- LSA_ACK_RECEIVED (R342): An LSA_ACK stops retransmission of that LSA on its link. -/
  | lsaAckReceived (t : Stamp) (p : Cable) (node : BitVec 16) (seq : BitVec 32)
  /-- LSA_RETRANSMIT (R342): 1 s passes without acknowledgement and the LSA is sent again on that link. -/
  | lsaRetransmit (t : Stamp) (p : Cable) (node : BitVec 16)
  /-- LSA_LIFETIME_EXPIRY (R342): A stored LSA not refreshed within 60 minutes is removed. -/
  | lsaLifetimeExpiry (t : Stamp) (node : BitVec 16)
  /-- PATH_COMPUTE (R344): Within 50 ms of a change the node computes shortest paths to every originator. -/
  | pathCompute (t : Stamp)
  /-- FABRIC_DATA_RECEIVED (R344): An Eclin-1 DATA frame is forwarded on its next hop, mapped to the tree, or dropped. -/
  | fabricDataReceived (t : Stamp) (p : Cable) (header : BitVec 96) (payload : Nat)
  /-- FABRIC_EVENT_RECEIVED (R343): A coordinator passes an EVENT frame to its host or GATEWAY_UP_DEST. -/
  | fabricEventReceived (t : Stamp) (p : Cable) (header : BitVec 96) (payload : Nat)
  /-- MCAST_DISCARD (R345): MCAST_JOIN or MCAST_DATA frames are discarded and counted. -/
  | mcastDiscard (t : Stamp) (p : Cable)
  /-- GATEWAY_TREE_FRAME (R346): A frame for a mapped device goes to the fabric as Eclin-1 DATA. -/
  | gatewayTreeFrame (t : Stamp) (header : BitVec 128) (payload : Nat)
  /-- OD_READ (R361): OD_READ returns the entry's bytes from the chunk, or its staged value to its own requester. -/
  | odRead (t : Stamp) (who : Requester) (idx val : BitVec 16) (len : Fin 1017)
  /-- OD_WRITE (R364): OD_WRITE is authenticated and checked and takes effect live or is staged in the open transaction. -/
  | odWrite (t : Stamp) (who : Requester) (idx val : BitVec 16) (len : Fin 1017) (data : Nat) (busy good : Bool)
  /-- OD_BEGIN (R365): OD_BEGIN opens a transaction for the requester. -/
  | odBegin (t : Stamp) (who : Requester) (idx val : BitVec 16) (len : Fin 1017) (data : Nat)
  /-- OD_COMMIT (R368): OD_COMMIT checks its trailer, begins COMMIT_IN_PROGRESS and validates every staged write. -/
  | odCommit (t : Stamp) (who : Requester) (idx val : BitVec 16) (len : Fin 1017) (data : Nat)
  /-- OD_ABORT (R371): OD_ABORT with a valid trailer ends the transaction ABORTED. -/
  | odAbort (t : Stamp) (who : Requester) (idx val : BitVec 16) (len : Fin 1017) (data : Nat)
  /-- OD_STATUS (R362): OD_STATUS returns the requester's last result, halt, staging and transaction record. -/
  | odStatus (t : Stamp) (who : Requester)
  /-- OD_DESCRIBE (R549): OD_DESCRIBE returns the entry's descriptor from the map. -/
  | odDescribe (t : Stamp) (who : Requester) (idx val : BitVec 16)
  /-- COMMIT_POINT (R368): Validation ends; the commit point is reached or the transaction is refused, and the staged writes
  are applied. -/
  | commitPoint (t : Stamp) (busy good : Bool)
  /-- APPLY_END (R370): Apply ends and window writes held against the transaction's entries are applied. -/
  | applyEnd (t : Stamp)
  /-- TXN_IDLE_EXPIRY (R371): No request from the requester within TXN_IDLE_TIMEOUT and the transaction ends EXPIRED. -/
  | txnIdleExpiry (t : Stamp) (who : Option Requester)
  /-- REGISTER_WRITE (R364): A write to an entry that has no row of its own is checked and takes effect. -/
  | registerWrite (t : Stamp) (idx : BitVec 16) (sub : Byte) (len : BitVec 16) (v : Nat) (owner busy good : Bool)
  /-- SAVE (R373): A write of 1 to SAVE takes live SAVED values and begins the save under COMMIT_IN_PROGRESS. -/
  | save (t : Stamp)
  /-- SAVE_COMPLETE (R375): The target copy is written and checked, retried once, and becomes the copy in use or NV_FAIL. -/
  | saveComplete (t : Stamp) (first second : Fin 8)
  /-- FACTORY_DEFAULTS (R379): Every SAVED entry takes its default live, in index order. -/
  | factoryDefaults (t : Stamp)
  /-- CLEAR_STORE (R379): Both configuration copies are erased and STORE_STATE reads FACTORY. -/
  | clearStore (t : Stamp)
  /-- FULL_RESET (R379): A write of FULL_RESET schedules a full reset 10 ms after the answer. -/
  | fullReset (t : Stamp)
  /-- FULL_RESET_DELAY (R492): 10 ms after the answer, and after any save under way, the COMMAND reset takes effect. -/
  | fullResetDelay (t : Stamp)
  /-- READ_STATUS (R386): The host-link READ_STATUS command returns HL_STATUS. -/
  | readStatus (t : Stamp) (n : Byte)
  /-- WIN_READ (R393): A WIN_READ burst returns window words of an entry, each sampled in its slot. -/
  | winRead (t : Stamp) (idx : BitVec 16) (sub word : Byte) (count : BitVec 16)
  /-- WIN_WRITE (R395): A WIN_WRITE writes an entry through the direct window with Operator rights, live at the end of its
  last word. -/
  | winWrite (t : Stamp) (idx : BitVec 16) (sub word : Byte) (words : List Word)
  /-- OD_REQUEST (R389): An OD_REQUEST frame is taken into the mailbox, answered BAD_LENGTH, or discarded as an overrun. -/
  | odRequest (t : Stamp) (bytes : List Byte)
  /-- OD_RESPONSE_READY (R390): Flint finishes serving a host-link request and the response is held with OD_STATE DONE. -/
  | odResponseReady (t : Stamp)
  /-- OD_RESPONSE (R390): The host reads the held response from a byte offset. -/
  | odResponse (t : Stamp) (offset n : BitVec 16)
  /-- FIFO_READ (R397): A FIFO_READ burst returns and consumes words of RXQ0, RXQ1 or EVQ. -/
  | fifoRead (t : Stamp) (sel : Fin 3) (n : BitVec 16)
  /-- FIFO_WRITE (R399): A FIFO_WRITE burst places words into TXQ; a packet's EOP word is checked and the frame handed to
  Granite. -/
  | fifoWrite (t : Stamp) (words : List (BitVec 40))
  /-- ENTER_QUAD (R384): ENTER_QUAD selects 4-4-4 mode from the next frame. -/
  | enterQuad (t : Stamp)
  /-- EXIT_QUAD (R384): EXIT_QUAD selects 1-1-1 mode from the next frame. -/
  | exitQuad (t : Stamp)
  /-- BAD_COMMAND (R387): An unlisted command or selector is ignored and BAD_COMMANDS increments. -/
  | badCommand (t : Stamp)
  /-- DOMAIN_CMD (R409): A write of DOMAIN_CMD is checked and begins a group command. -/
  | domainCmd (t : Stamp) (v : BitVec 256)
  /-- DOMAIN_CANCEL (R421): A write of 1 to DOMAIN_CANCEL ends a running command with rollback and outcome CANCELLED. -/
  | domainCancel (t : Stamp)
  /-- ARMED_UPSTREAM_TRIGGER (R427): Bedrock sees activity on the suspended control upstream and the armed command runs. -/
  | armedUpstreamTrigger (t : Stamp)
  /-- ARMED_HOST_SELECT_TRIGGER (R427): A falling HL_CS_N while PD12 is not ON runs the armed command. -/
  | armedHostSelectTrigger (t : Stamp)
  /-- SEQUENCER_VISIT (R412): At a 32.768 kHz edge the sequencer visits the next listed domain and parks it, wakes it or
  refuses. -/
  | sequencerVisit (t : Stamp)
  /-- DOMAIN_DELAY_END (R411): A domain's restore or park delay ends and it becomes HELD or PARKED, or the command ends. -/
  | domainDelayEnd (t : Stamp)
  /-- LF_CRYSTAL_LOSS (R423): The 32.768 kHz crystal gives no edge for 4 RC periods and Bedrock changes over to the RC
  oscillator. -/
  | lfCrystalLoss (t : Stamp)
  /-- CLOCK_GOOD (R424): A started fast clock becomes good and the waiting wake proceeds. -/
  | clockGood (t : Stamp) (c : Fin 3)
  /-- CLOCK_START_TIMEOUT (R425): A clock is not good by its maximum; the visit refuses with CLOCK_FAIL and a CLK fault is
  logged. -/
  | clockStartTimeout (t : Stamp)
  /-- CLOCK_LOCK_LOSS (R425): A running PLL or trunk reference loses lock and a CLK fault is raised. -/
  | clockLockLoss (t : Stamp) (trunkRef : Bool)
  /-- FW_LOAD_COMPLETE (R426): A firmware load ends; FW_STATE becomes RUNNING or the other slot is tried under R446. -/
  | fwLoadComplete (t : Stamp)
  /-- ATTEST_NONCE (R433): A write of ATTEST_NONCE builds and signs the attestation report. -/
  | attestNonce (t : Stamp) (v : BitVec 256)
  /-- OWNER_CLAIM (R435): A write of OWNER_CLAIM is verified and, if accepted, installs the owner and saves the security
  region. -/
  | ownerClaim (t : Stamp) (v : BitVec 1024)
  /-- TRANSFER (R436): A write of TRANSFER starts or cancels an ownership transfer. -/
  | transfer (t : Stamp) (v : BitVec 288)
  /-- TRANSFER_DEADLINE (R436): TRANSFER_DEADLINE passes and SEC_STATE returns to OWNED. -/
  | transferDeadline (t : Stamp)
  /-- SLOT_INSTALL (R437): SLOT_CMD INSTALL makes a key slot ACTIVE. -/
  | slotInstall (t : Stamp) (slot : Fin 12) (key : BitVec 512)
  /-- SLOT_REVOKE (R437): SLOT_CMD REVOKE makes a key slot REVOKED and closes its sessions. -/
  | slotRevoke (t : Stamp) (slot : Fin 12)
  /-- SESSION_OPEN (R441): A SESSION_OPEN write is verified and opens an authenticated session. -/
  | sessionOpen (t : Stamp) (v : BitVec 1696)
  /-- SESSION_CLOSE (R443): A write of SESSION_CLOSE closes the named session. -/
  | sessionClose (t : Stamp) (writer id : BitVec 16)
  /-- SESSION_IDLE_EXPIRY (R443): No request passes R440 within SESSION_IDLE and the session closes. -/
  | sessionIdleExpiry (t : Stamp) (id : Fin 8)
  /-- FW_WRITE_DATA (R447): 512 bytes are written at FW_WRITE_AT in the inactive slot, read back and the offset advanced. -/
  | fwWriteData (t : Stamp) (v : BitVec 4096) (good : Bool)
  /-- ERASE_INACTIVE (R447): FW_CMD ERASE_INACTIVE erases the inactive firmware slot. -/
  | eraseInactive (t : Stamp)
  /-- CHECK_INACTIVE (R447): FW_CMD CHECK_INACTIVE verifies the inactive slot under R445. -/
  | checkInactive (t : Stamp)
  /-- FW_CHECK_COMPLETE (R445): The verification of the inactive slot completes within tFwCheck and FW_RESULT is written. -/
  | fwCheckComplete (t : Stamp)
  /-- PREFER_INACTIVE (R447): FW_CMD PREFER_INACTIVE makes the checked inactive slot preferred. -/
  | preferInactive (t : Stamp)
  /-- COMMIT_SVN (R447): FW_CMD COMMIT_SVN writes MIN_SVN irreversibly. -/
  | commitSvn (t : Stamp)
  /-- KEYX_START (R448): Within 1 ms after the child's IDENTIFY the upstream end begins an AGREE exchange. -/
  | keyxStart (t : Stamp) (u : Trunk)
  /-- LINK_KEYX_AGREE (R449): A LINK_KEYX write of OP AGREE makes the child verify and derive next keys. -/
  | linkKeyxAgree (t : Stamp) (u : Trunk) (body : BitVec 1152)
  /-- LINK_KEYX_REKEY (R452): A LINK_KEYX write of OP REKEY derives new keys and raises KEY_ROTATION. -/
  | linkKeyxRekey (t : Stamp) (u : Trunk) (body : BitVec 1152)
  /-- KEYX_REPLY_READY (R449): The child fills LINK_KEYX_REPLY within tKeyReply. -/
  | keyxReplyReady (t : Stamp) (u : Trunk) (cert ca : BitVec 6144)
  /-- REKEY_DUE (R452): REKEY_INTERVAL passes, or 2^30 frames are sent under one key, and a REKEY exchange starts. -/
  | rekeyDue (t : Stamp) (u : Trunk)
  /-- KEY_AGREE_TIMEOUT (R453): Under REQUIRED, no keys tKeyAgree after IDENTIFY and the link is reset. -/
  | keyAgreeTimeout (t : Stamp) (u : Trunk)
  /-- KEYX_RETRY_TIMER (R453): Under PREFERRED, 60 s pass and AGREE is tried again. -/
  | keyxRetryTimer (t : Stamp) (u : Trunk)
  /-- ZEROISE (R454): A write of ZEROISE erases keys, slots and configuration and ends in a full reset. -/
  | zeroise (t : Stamp)
  /-- FAULT_REPORT (R462): A detector reports to Garnet, which stamps, classes, levels and logs the record and starts the
  reaction and self-test. -/
  | faultReport (t : Stamp) (src : Byte) (detail value : Word)
  /-- LINK_ERROR_BURST_WINDOW (R460): A burst window ends, opening a new window for the LINK_ERROR_BURST count. -/
  | linkErrorBurstWindow (t : Stamp)
  /-- TEMP_THRESHOLD (R460): A die temperature reaches or falls past its warning or critical threshold. -/
  | tempThreshold (t : Stamp) (powerDie : Bool) (v : BitVec 16)
  /-- SUPPLY_LOW (R460): VIN or VAUX stays below its low threshold for 1 ms. -/
  | supplyLow (t : Stamp) (aux : Bool) (mv : BitVec 16)
  /-- RAIL_LOST (R460): A rail that powers a port reads below 5.0 V. -/
  | railLost (t : Stamp) (rail : Fin 2)
  /-- DIE_LINK_LOST (R460): No valid transfer from the power die for 100 µs or 500 µs. -/
  | dieLinkLost (t : Stamp)
  /-- LOCKSTEP (R460): Flint's lockstep cores differ in a compared output. -/
  | lockstep (t : Stamp)
  /-- WATCHDOG (R460): Flint leaves its watchdog unserved for 100 ms. -/
  | watchdog (t : Stamp)
  /-- NV_READ_ERROR (R460): A non-volatile array read finds an ECC error. -/
  | nvReadError (t : Stamp) (row : Word)
  /-- FAULT_ACK (R473): A write of FAULT_ACK acknowledges a class's faults through THROUGH_SEQ. -/
  | faultAck (t : Stamp) (v : BitVec 64)
  /-- SAFE_EXIT (R470): A write of SAFE_EXIT returns to NORMAL if no L4 or L5 fault is unacknowledged and the die is cool. -/
  | safeExit (t : Stamp)
  /-- SOURCE_FORCE (R474): Setting a source's FORCE bit makes Garnet take one forced report. -/
  | sourceForce (t : Stamp) (id : Byte) (level : Fin 8)
  /-- SOURCE_LEVEL_WRITE (R487): A write of a source's LEVEL field sets its configured reaction level. -/
  | sourceLevelWrite (t : Stamp) (id : Byte) (level : Fin 8)
  /-- SHADOW_EXPIRY (R475): A consequence shadow's window ends and its dependent reports are handled normally again. -/
  | shadowExpiry (t : Stamp)
  /-- BANK_COPY_DONE (R478): A bank copy to or from a spare completes and the logical bank is switched. -/
  | bankCopyDone (t : Stamp) (b : Fin 52)
  /-- BANK_MARCH_DONE (R478): The march of a bank ends with a TRANSIENT or LASTING verdict. -/
  | bankMarchDone (t : Stamp) (b : Fin 52) (lasting : Bool)
  /-- CORE_TEST_DONE (R480): The core self-test ends; a core may be retired and Flint restarts. -/
  | coreTestDone (t : Stamp) (ok0 ok1 ok2 : Bool)
  /-- LOOPBACK_DONE (R481): A port loopback ends and a bit error marks the PHY failed. -/
  | loopbackDone (t : Stamp) (p : Cable) (bitError : Bool)
  /-- NV_REREAD_DONE (R482): Re-reads of an array row end with a scrub or a row replacement. -/
  | nvRereadDone (t : Stamp) (row : Word) (clean correctable : Bool) (copy : Fin 7)
  /-- REPAIR_MAP_SAVED (R483): A new repair-map copy is written within tRepairSave. -/
  | repairMapSaved (t : Stamp)
  /-- L5_RESET_DELAY (R471): 1 ms after an L5 record a FAULT full reset takes effect. -/
  | l5ResetDelay (t : Stamp)
  /-- VIN_POWER_ON (R490): VIN rises through reset release from below retention and the logic die resets with cause POWER_ON. -/
  | vinPowerOn (t : Stamp)
  /-- BROWNOUT (R490): VIN stays below the brownout threshold for the filter time and the logic die resets. -/
  | brownout (t : Stamp)
  /-- RST_N_RESET (R490): RST_N is held low for 10 µs or more and the logic die resets. -/
  | rstNReset (t : Stamp)
  /-- BOOT_STAGE_COMPLETE (R493): A start-up stage completes and the next stage begins. -/
  | bootStageComplete (t : Stamp) (cfgA cfgB secA secB mapA mapB : Fin 8)
  /-- LF_CRYSTAL_GOOD (R493): The crystal has given 1,024 edges and Bedrock changes from RC to the crystal. -/
  | lfCrystalGood (t : Stamp)
  /-- LF_CRYSTAL_START_TIMEOUT (R493): The crystal is not good within 2 s of reset and LF_TO_RC fires. -/
  | lfCrystalStartTimeout (t : Stamp)
  /-- HOLD_DETACH (R496): A held port's message wire reads open for tDetach and the power die opens its pairs. -/
  | holdDetach (t : Stamp) (p : Dn) (opened : Stamp)
  /-- POWER_DIE_ANSWER (R499): The power die answers on the die link, the hub enters READY and releases hold, adopting
  qualifying ports. -/
  | powerDieAnswer (t : Stamp) (wires : BitVec 16)
  /-- VAUX_LOCKOUT (R500): VAUX falls through its lockout and the power die resets, opening every pair. -/
  | vauxLockout (t : Stamp)
  /-- POWER_DIE_RESET_REPORT (R500): The die link returns with a power-die reset report and every attached port is treated as
  detached. -/
  | powerDieResetReport (t : Stamp)
  /-- UPSTREAM_PULLUP (R501): Within tPullup after READY and ATTACHED_SINK the hub applies its trunk presence pull-up. -/
  | upstreamPullup (t : Stamp) (u : Trunk)
  /-- SOURCE_PRESENT (R70): A port presenting Rd sees the voltage across its Rd rise to 0.60 V or more (or fall below it
  during ATTACH_WAIT), so it enters ATTACH_WAIT as sink or returns to UNATTACHED. -/
  | sourcePresent (t : Stamp) (p : Cable) (v : BitVec 16)
  /-- RD_SEEN (R71): A dual-role port in its source phase sees Rd on either CF wire and enters ATTACH_WAIT as source. -/
  | rdSeen (t : Stamp) (p : Cable) (cf1 cf2 : BitVec 16)
  /-- SE0_ENDED (R170): At the hub as downstream end the reset SE0 ends, and the hub releases the pair and begins its class
  offer within tOfferStart. -/
  | se0Ended (t : Stamp) (p : Cable)
  /-- NO_VALID_SYMBOL_TIMEOUT (R206): A TS downstream end that receives no valid symbol within 1 ms returns to FS signalling
  and restores its pull-up. -/
  | noValidSymbolTimeout (t : Stamp) (u : Trunk)
  /-- BURST_END_TIMEOUT (R186): In an IN transaction no packet carrying END arrives, so the upstream end answers ACK with NEXT
  within tBurstEnd after the last packet. -/
  | burstEndTimeout (t : Stamp) (p : Cable)
  /-- IDENTITY_DERIVED (R432): After PD11 enters ON, the device identity key is re-derived within tDerive, DEVICE_PUBKEY
  becomes valid and SECURITY_BUSY ends. -/
  | identityDerived (t : Stamp)
  /-- CONTROL_RESPONSE_RECEIVED (R449): A CONTROL RESPONSE arrives for a link-local request that the hub itself sent, such as
  a certificate read or the LINK_KEYX_REPLY read of a key exchange, and the exchange advances or fails. -/
  | controlResponseReceived (t : Stamp) (u : Trunk) (tag : BitVec 16) (stall : Bool) (len data : Nat)
  /-- DIE_LINK_RESTORED (R500): The die link returns without a reset of the power die, and the ports continue as they stood
  with commands flowing again. -/
  | dieLinkRestored (t : Stamp)
  /-- RESUME_DETECTED (R209): The hub as downstream end on its suspended upstream link sees the upstream end's resume K, or
  /TR1/ on TS, and its LINK_STATE enters RESUMING. -/
  | resumeDetected (t : Stamp) (p : Cable)
  deriving DecidableEq, Repr

end Sys2Proof
end

