-- ==== Sys2Proof/Decode.lean ====
section
/-!
DEFINITION. Sys2Proof/Decode.lean: the words of the opcode table. The hardware is a block: spec/opcode_table.json gives no row a word or
a field, since a command is an event on the hub's pins, links, timers or registers, so no word spells a command.
-/
namespace Sys2Proof

/-- The command that a word of the table spells: none, for the table gives no row any bits. -/
def decodeTableWord (_nbits _w : Nat) : Option Instr := none

end Sys2Proof
end

