-- ==== Sys2Proof/Config.lean ====
section
/-!
DEFINITION. Sys2Proof/Config.lean: what one chip fixes (its variant and the values set at manufacture), the free values
that the spec leaves open, and the cryptographic primitives that R15 takes from published standards without restating
them. None of them has a body, so no proof can rest on a value of theirs (log entries 2, 3 and 6).
-/
namespace Sys2Proof.Config

/-- The n-th free value: a random number or another value the spec leaves open, used in order (log entry 2). -/
opaque free : Nat → Nat

/-- The chip is the NH1680-X of Table 0-1 (R3). -/
opaque extendedRange : Bool
/-- TEMP_GRADE: 0 for NH1680, 1 for NH1680-X (Table 0-1, OD 0x1000.03). -/
def tempGrade : Nat := if extendedRange then 1 else 0
/-- SERIAL, 8 bytes, set at manufacture (OD 0x1000.05). -/
opaque serial : Nat
/-- DEVICE_CERT, 768 bytes, set at manufacture (OD 0x7000.03). -/
opaque deviceCert : Nat
/-- CA_CERT, 768 bytes, set at manufacture (OD 0x7000.04). -/
opaque caCert : Nat
/-- FW_ROOT_HASH, 32 bytes, set at manufacture (OD 0x7000.05). -/
opaque fwRootHash : Nat
/-- ID_ROOT_HASH, 32 bytes, set at manufacture (OD 0x7000.06). -/
opaque idRootHash : Nat
/-- The device public key that derivation from the unique secret gives (R432). -/
opaque devicePubkey : Nat

/-- The external flash as delivered: block slot × 1,024 + i of 512 bytes (R444); log entry 6. -/
opaque flashAtMake : Nat → Nat
/-- MIN_SVN in one-time memory as delivered (OD 0x7030.03). -/
opaque minSvn : Nat

/-- SHA-256 over a byte string (R15). -/
opaque sha256 : List Nat → Nat
/-- HMAC-SHA-256: key and message (R15). -/
opaque hmac : Nat → List Nat → Nat
/-- ECDSA on P-256, verification: public key, message, signature (R15). -/
opaque ecdsaVerify : Nat → List Nat → Nat → Bool
/-- ECDSA on P-256, signature by the device key over a message; the second argument is the free value used (R15). -/
opaque ecdsaSign : List Nat → Nat → Nat
/-- ECDH on P-256: ephemeral secret number and peer's public value (R15). -/
opaque ecdh : Nat → Nat → Nat
/-- The public value of an ephemeral secret number (R15). -/
opaque ecdhPublic : Nat → Nat
/-- A public value is a point of P-256 (R441). -/
opaque onCurve : Nat → Bool
/-- The chain of an X.509 certificate by its CA certificate to the root key of the given hash verifies (R432). -/
opaque certValid : Nat → Nat → Nat → Bool
/-- The public key in a certificate (R432). -/
opaque certKey : Nat → Nat
/-- SERIAL in a certificate's subject (R432). -/
opaque certSerial : Nat → Nat
/-- A block of 512 bytes of the external flash after an erase (R447; log entry 6). -/
opaque flashErased : Nat
/-- AES-128-GCM tag: key, nonce, associated and encrypted bytes (R15). -/
opaque gcmTag : Nat → Nat → List Nat → Nat
/-- AES-128-GCM encryption, and decryption, of a string of bytes: key, nonce, number of bytes, the bytes (R15). -/
opaque gcmCrypt : Nat → Nat → Nat → Nat → Nat

end Sys2Proof.Config
end

