-- ==== Sys2Proof/Machine/Fields.lean ====
section
/-!
DEFINITION. Sys2Proof/Machine/Fields.lean: bit fields, byte strings, saturating and serial-number arithmetic, and the
three CRCs. All plain arithmetic on natural numbers, so that the kernel evaluates it.
-/
namespace Sys2Proof.Machine

/-- Bits [hi:lo] of a value. -/
def bits (v hi lo : Nat) : Nat := v / 2 ^ lo % 2 ^ (hi + 1 - lo)

/-- Bit i of a value, as 0 or 1. -/
def bit (v i : Nat) : Nat := v / 2 ^ i % 2

/-- Bit i of a value is set. -/
def hasBit (v i : Nat) : Bool := bit v i == 1

/-- The value with bit i set. -/
def setBit (v i : Nat) : Nat := if hasBit v i then v else v + 2 ^ i

/-- The value with bit i clear. -/
def clearBit (v i : Nat) : Nat := if hasBit v i then v - 2 ^ i else v

/-- The value with bit i as the Boolean says. -/
def putBit (v i : Nat) (b : Bool) : Nat := if b then setBit v i else clearBit v i

/-- Byte i of a little-endian byte string (R12). -/
def byteAt (v i : Nat) : Nat := v / 256 ^ i % 256

/-- The little-endian field of len bytes at byte offset off. -/
def field (v off len : Nat) : Nat := v / 256 ^ off % 256 ^ len

/-- The byte string with the field of len bytes at offset off replaced. -/
def putField (v off len x : Nat) : Nat :=
  v % 256 ^ off + (x % 256 ^ len) * 256 ^ off + v / 256 ^ (off + len) * 256 ^ (off + len)

/-- A record laid out from fields (length in bytes, value), first field at byte 0. -/
def pack : List (Nat × Nat) → Nat
  | [] => 0
  | (len, x) :: r => x % 256 ^ len + 256 ^ len * pack r

/-- The number a list of bytes spells, first byte least significant. -/
def ofBytes : Bytes → Nat
  | [] => 0
  | b :: r => b % 256 + 256 * ofBytes r

/-- The first n bytes of a little-endian value. -/
def toBytes : Nat → Nat → Bytes
  | 0, _ => []
  | n + 1, v => v % 256 :: toBytes n (v / 256)

/-- One more, saturating at the maximum of w bits (R22). -/
def satInc (w v : Nat) : Nat := min (v + 1) (2 ^ w - 1)

/-- n more, saturating at the maximum of w bits (R22). -/
def satAdd (w v n : Nat) : Nat := min (v + n) (2 ^ w - 1)

/-- Serial-number arithmetic of n bits: a is newer than b (R14). -/
def newer (n a b : Nat) : Bool :=
  let d := (a % 2 ^ n + 2 ^ n - b % 2 ^ n) % 2 ^ n
  decide (1 ≤ d ∧ d < 2 ^ (n - 1))

/-- The signed reading of a w-bit value in two's complement. -/
def toSigned (w v : Nat) : Int := if v % 2 ^ w < 2 ^ (w - 1) then (v % 2 ^ w : Nat) else (v % 2 ^ w : Nat) - (2 ^ w : Nat)

/-- The two's complement of w bits of a signed number. -/
def ofSigned (w : Nat) (i : Int) : Nat := (i % (2 ^ w : Nat)).toNat

/-- A signed number held between two bounds. -/
def clampInt (lo hi i : Int) : Int := max lo (min hi i)

/-- One reflected CRC step over the low bit, for a reflected generator g. -/
def crcBit (g c : Nat) : Nat := if c % 2 = 1 then (c / 2) ^^^ g else c / 2

/-- k reflected CRC steps. -/
def crcSteps (g : Nat) : Nat → Nat → Nat
  | 0, c => c
  | k + 1, c => crcSteps g k (crcBit g c)

/-- A reflected CRC over bytes, before the final exclusive-or. -/
def crcReflected (g : Nat) : Nat → Bytes → Nat
  | c, [] => c
  | c, b :: r => crcReflected g (crcSteps g 8 (c ^^^ (b % 256))) r

/-- CRC-32 with the IEEE 802.3 parameters (R15); 0xEDB88320 is the generator 0x04C1_1DB7 reflected. -/
def crc32 (bs : Bytes) : Nat := crcReflected 0xEDB88320 0xFFFFFFFF bs ^^^ 0xFFFFFFFF

/-- Ceiling division. -/
def ceilDiv (a b : Nat) : Nat := (a + b - 1) / b

/-- Replaces element i of a list by the result of f; outside the list nothing changes. -/
def modAt {α : Type} (l : List α) (i : Nat) (f : α → α) : List α :=
  match l, i with
  | [], _ => []
  | x :: r, 0 => f x :: r
  | x :: r, i + 1 => x :: modAt r i f

/-- Integer square root by search from below, for n up to the fuel squared. -/
def isqrt (n : Nat) : Nat := Nat.sqrt n

end Sys2Proof.Machine
end

