-- ==== Sys2Proof/Machine/OdKeys.lean ====
section
/-!
DEFINITION. Sys2Proof/Machine/OdKeys.lean: the address of every entry of the object dictionary under its own name
(the tables that R537 cites). An entry index.subindex has the key 256·index + subindex. A port entry takes the port
number p: 0 to 15 for D0 to D15, 16 for UA, 17 for UB, since block base 0x2n00 is 0x2000 + 0x100·n and the trunk
bases 0x3000 and 0x3100 continue that line (Table 20-2).
-/
namespace Sys2Proof.Machine.Od

/-- The key of entry index.subindex. -/
abbrev key (idx sub : Nat) : Nat := idx * 256 + sub

abbrev LINE_STATE (p : Nat) : Nat := key (0x2020 + 0x100 * p) 0x01
abbrev PROBE_RESULT (p : Nat) : Nat := key (0x2020 + 0x100 * p) 0x02
abbrev VBUS_PRE_V (p : Nat) : Nat := key (0x2020 + 0x100 * p) 0x03
abbrev PROBE_CURRENTS (p : Nat) : Nat := key (0x2020 + 0x100 * p) 0x04
abbrev LEAK_VBUS_VRET (p : Nat) : Nat := key (0x2020 + 0x100 * p) 0x05
abbrev INSUL_SCREEN (p : Nat) : Nat := key (0x2020 + 0x100 * p) 0x06
abbrev SCREEN_FAULT_GROUP (p : Nat) : Nat := key (0x2020 + 0x100 * p) 0x07
abbrev LEAK_VBUS_DP (p : Nat) : Nat := key (0x2020 + 0x100 * p) 0x08
abbrev LEAK_VBUS_DN (p : Nat) : Nat := key (0x2020 + 0x100 * p) 0x09
abbrev LEAK_VBUS_CF1 (p : Nat) : Nat := key (0x2020 + 0x100 * p) 0x0A
abbrev LEAK_VBUS_CF2 (p : Nat) : Nat := key (0x2020 + 0x100 * p) 0x0B
abbrev LEAK_DP_DN (p : Nat) : Nat := key (0x2020 + 0x100 * p) 0x0C
abbrev CF_LEAK_BASE (p : Nat) : Nat := key (0x2020 + 0x100 * p) 0x0D
abbrev BASELINE_TIME (p : Nat) : Nat := key (0x2020 + 0x100 * p) 0x0E
abbrev CAPTURE_BASELINE (p : Nat) : Nat := key (0x2020 + 0x100 * p) 0x0F
abbrev TREND_HORIZON (p : Nat) : Nat := key (0x2020 + 0x100 * p) 0x11
abbrev WARN_THRESHOLD (p : Nat) : Nat := key (0x2020 + 0x100 * p) 0x12
abbrev FAULT_THRESHOLD (p : Nat) : Nat := key (0x2020 + 0x100 * p) 0x13
abbrev PROBE_START (p : Nat) : Nat := key (0x2020 + 0x100 * p) 0x14
abbrev TDR_START (p : Nat) : Nat := key (0x2020 + 0x100 * p) 0x15
abbrev CABLE_LENGTH (p : Nat) : Nat := key (0x2020 + 0x100 * p) 0x16
abbrev FAULT_DISTANCE (p : Nat) : Nat := key (0x2020 + 0x100 * p) 0x17
abbrev FAULT_KIND (p : Nat) : Nat := key (0x2020 + 0x100 * p) 0x18
abbrev VELOCITY_FACTOR (p : Nat) : Nat := key (0x2020 + 0x100 * p) 0x19
abbrev TDR_TRACE (p : Nat) : Nat := key (0x2020 + 0x100 * p) 0x1A
abbrev MONITOR_ENABLE (p : Nat) : Nat := key (0x2020 + 0x100 * p) 0x1B
abbrev REACH_EXCEEDED (p : Nat) : Nat := key (0x2020 + 0x100 * p) 0x1C
abbrev TDR_INTERVAL (p : Nat) : Nat := key (0x2020 + 0x100 * p) 0x1D
abbrev MEAS_DISCARDED (p : Nat) : Nat := key (0x2020 + 0x100 * p) 0x1E
abbrev ATTACH_STATE (p : Nat) : Nat := key (0x2000 + 0x100 * p) 0x01
abbrev CF_CONFIG (p : Nat) : Nat := key (0x2000 + 0x100 * p) 0x02
abbrev ORIENTATION (p : Nat) : Nat := key (0x2000 + 0x100 * p) 0x03
abbrev FAULT_LOCK_CAUSE (p : Nat) : Nat := key (0x2000 + 0x100 * p) 0x04
abbrev ATTACH_RELEASE (p : Nat) : Nat := key (0x2000 + 0x100 * p) 0x05
abbrev ATTACH_COUNT (p : Nat) : Nat := key (0x2000 + 0x100 * p) 0x06
abbrev FALSE_CANDIDATES (p : Nat) : Nat := key (0x2000 + 0x100 * p) 0x07
abbrev ATTACH_TIME (p : Nat) : Nat := key (0x2000 + 0x100 * p) 0x08
abbrev DETACH_TIME (p : Nat) : Nat := key (0x2000 + 0x100 * p) 0x09
abbrev ATTACH_PREF (p : Nat) : Nat := key (0x2000 + 0x100 * p) 0x10
abbrev ATTACH_PREF_ACTIVE (p : Nat) : Nat := key (0x2000 + 0x100 * p) 0x11
abbrev WAIT_RETRY_TIME (p : Nat) : Nat := key (0x2000 + 0x100 * p) 0x12
abbrev FLAP_LIMIT (p : Nat) : Nat := key (0x2000 + 0x100 * p) 0x13
abbrev FLAP_WINDOW (p : Nat) : Nat := key (0x2000 + 0x100 * p) 0x14
abbrev CF_TX_MESSAGES (p : Nat) : Nat := key (0x2000 + 0x100 * p) 0x15
abbrev CF_TX_RETRIES (p : Nat) : Nat := key (0x2000 + 0x100 * p) 0x16
abbrev CF_TX_FAILED (p : Nat) : Nat := key (0x2000 + 0x100 * p) 0x17
abbrev CF_RX_MESSAGES (p : Nat) : Nat := key (0x2000 + 0x100 * p) 0x18
abbrev CF_RX_CRC_ERR (p : Nat) : Nat := key (0x2000 + 0x100 * p) 0x19
abbrev CF_RX_DISCARDED (p : Nat) : Nat := key (0x2000 + 0x100 * p) 0x1A
abbrev CF_RX_DUPLICATES (p : Nat) : Nat := key (0x2000 + 0x100 * p) 0x1B
abbrev CF_COLLISIONS (p : Nat) : Nat := key (0x2000 + 0x100 * p) 0x1C
abbrev HARD_RESETS_RX (p : Nat) : Nat := key (0x2000 + 0x100 * p) 0x1D
abbrev HARD_RESETS_TX (p : Nat) : Nat := key (0x2000 + 0x100 * p) 0x1E
abbrev CF_LEVEL (p : Nat) : Nat := key (0x2000 + 0x100 * p) 0x1F
abbrev CF_WIRE_MV (p : Nat) : Nat := key (0x2000 + 0x100 * p) 0x20
abbrev CONTRACT_STATE (p : Nat) : Nat := key (0x2030 + 0x100 * p) 0x01
abbrev CONTRACT_RAIL (p : Nat) : Nat := key (0x2030 + 0x100 * p) 0x02
abbrev CONTRACT_OP_CURRENT (p : Nat) : Nat := key (0x2030 + 0x100 * p) 0x03
abbrev CONTRACT_LIMIT (p : Nat) : Nat := key (0x2030 + 0x100 * p) 0x04
abbrev CONTRACT_TIME (p : Nat) : Nat := key (0x2030 + 0x100 * p) 0x05
abbrev LAST_CAPS (p : Nat) : Nat := key (0x2030 + 0x100 * p) 0x06
abbrev LAST_REQUEST (p : Nat) : Nat := key (0x2030 + 0x100 * p) 0x07
abbrev SLEW_RATE (p : Nat) : Nat := key (0x2030 + 0x100 * p) 0x08
abbrev LOAD_CAP (p : Nat) : Nat := key (0x2030 + 0x100 * p) 0x09
abbrev CFS_STATE (p : Nat) : Nat := key (0x2030 + 0x100 * p) 0x0A
abbrev CFS_ENABLE (p : Nat) : Nat := key (0x2030 + 0x100 * p) 0x0B
abbrev CFS_RESTART (p : Nat) : Nat := key (0x2030 + 0x100 * p) 0x0C
abbrev ALT_STATE (p : Nat) : Nat := key (0x2030 + 0x100 * p) 0x0D
abbrev ALT_SERIAL_TERM (p : Nat) : Nat := key (0x2030 + 0x100 * p) 0x0E
abbrev ALT_SERIAL_GAP (p : Nat) : Nat := key (0x2030 + 0x100 * p) 0x0F
abbrev CF_ANSWER (p : Nat) : Nat := key (0x2030 + 0x100 * p) 0x10
abbrev CF_ANSWER_RESULT (p : Nat) : Nat := key (0x2030 + 0x100 * p) 0x11
abbrev ABORT_VBUS_MV (p : Nat) : Nat := key (0x2030 + 0x100 * p) 0x12
abbrev ABORT_CAUSE (p : Nat) : Nat := key (0x2030 + 0x100 * p) 0x13
abbrev HARD_RESET_CAUSE (p : Nat) : Nat := key (0x2030 + 0x100 * p) 0x14
abbrev TRANSITION_ENERGY (p : Nat) : Nat := key (0x2030 + 0x100 * p) 0x15
abbrev TRANSITIONS (p : Nat) : Nat := key (0x2030 + 0x100 * p) 0x16
abbrev TRANSITION_ABORTS (p : Nat) : Nat := key (0x2030 + 0x100 * p) 0x17
abbrev MALFORMED (p : Nat) : Nat := key (0x2030 + 0x100 * p) 0x18
abbrev ANSWERS_LATE (p : Nat) : Nat := key (0x2030 + 0x100 * p) 0x19
abbrev HELD_EXPIRED (p : Nat) : Nat := key (0x2030 + 0x100 * p) 0x1A
abbrev LOOP_RESISTANCE (p : Nat) : Nat := key (0x2030 + 0x100 * p) 0x1B
abbrev LAST_SINK_CAPS (p : Nat) : Nat := key (0x2030 + 0x100 * p) 0x1C
abbrev RAIL_A_MV : Nat := key 0x3800 0x01
abbrev RAIL_B_MV : Nat := key 0x3800 0x02
abbrev DEFAULT_CAPS : Nat := key 0x3800 0x03
abbrev DEFAULT_LIMIT : Nat := key 0x3800 0x04
abbrev SLEW_ENERGY_MAX : Nat := key 0x3800 0x05
abbrev SLEW_POWER_MAX : Nat := key 0x3800 0x06
abbrev POWER_STATE (p : Nat) : Nat := key (0x2040 + 0x100 * p) 0x01
abbrev POWER_OFF_CAUSE (p : Nat) : Nat := key (0x2040 + 0x100 * p) 0x02
abbrev LIMIT_SET (p : Nat) : Nat := key (0x2040 + 0x100 * p) 0x03
abbrev LIMIT_ACTIVE (p : Nat) : Nat := key (0x2040 + 0x100 * p) 0x04
abbrev FAST_TRIP_MULT (p : Nat) : Nat := key (0x2040 + 0x100 * p) 0x05
abbrev LIMIT_TIME (p : Nat) : Nat := key (0x2040 + 0x100 * p) 0x06
abbrev RETRY_HOLDOFF (p : Nat) : Nat := key (0x2040 + 0x100 * p) 0x07
abbrev POWER_CMD (p : Nat) : Nat := key (0x2040 + 0x100 * p) 0x08
abbrev POWER_CMD_RESULT (p : Nat) : Nat := key (0x2040 + 0x100 * p) 0x09
abbrev VBUS_MV (p : Nat) : Nat := key (0x2040 + 0x100 * p) 0x0A
abbrev IBUS_MA (p : Nat) : Nat := key (0x2040 + 0x100 * p) 0x0B
abbrev LAST_COST (p : Nat) : Nat := key (0x2040 + 0x100 * p) 0x0C
abbrev LAST_QUEUE_TIME (p : Nat) : Nat := key (0x2040 + 0x100 * p) 0x0D
abbrev FAST_TRIPS (p : Nat) : Nat := key (0x2040 + 0x100 * p) 0x0E
abbrev TIMED_TRIPS (p : Nat) : Nat := key (0x2040 + 0x100 * p) 0x0F
abbrev LIMIT_EVENTS (p : Nat) : Nat := key (0x2040 + 0x100 * p) 0x10
abbrev REVERSE_TRIPS (p : Nat) : Nat := key (0x2040 + 0x100 * p) 0x11
abbrev TRIP_TIME (p : Nat) : Nat := key (0x2040 + 0x100 * p) 0x12
abbrev TRIP_PEAK_MA (p : Nat) : Nat := key (0x2040 + 0x100 * p) 0x13
abbrev DISCHARGE_FAILS (p : Nat) : Nat := key (0x2040 + 0x100 * p) 0x14
abbrev OVERRIDDEN_CMDS (p : Nat) : Nat := key (0x2040 + 0x100 * p) 0x15
abbrev OC_GROUP_STATE : Nat := key 0x3810 0x01
abbrev OC_G0_COUNT : Nat := key 0x3810 0x02
abbrev OC_G1_COUNT : Nat := key 0x3810 0x03
abbrev OC_G2_COUNT : Nat := key 0x3810 0x04
abbrev OC_G3_COUNT : Nat := key 0x3810 0x05
abbrev OC_GROUP_ENABLE : Nat := key 0x3810 0x06
abbrev CAP_RAIL_A : Nat := key 0x6100 0x01
abbrev RECOVERY_RAIL_A : Nat := key 0x6100 0x02
abbrev LEVEL_RAIL_A : Nat := key 0x6100 0x03
abbrev CAP_RAIL_B : Nat := key 0x6100 0x04
abbrev RECOVERY_RAIL_B : Nat := key 0x6100 0x05
abbrev LEVEL_RAIL_B : Nat := key 0x6100 0x06
abbrev CAP_VIN : Nat := key 0x6100 0x07
abbrev RECOVERY_VIN : Nat := key 0x6100 0x08
abbrev LEVEL_VIN : Nat := key 0x6100 0x09
abbrev QUEUE_DEPTH : Nat := key 0x6100 0x0A
abbrev QUEUE_BUSY : Nat := key 0x6100 0x0B
abbrev QUEUE_MAX_WAIT : Nat := key 0x6100 0x0C
abbrev QUEUE_RELEASED : Nat := key 0x6100 0x0D
abbrev QUEUE_WITHDRAWN : Nat := key 0x6100 0x0E
abbrev BUDGET_ENABLE : Nat := key 0x6100 0x0F
abbrev QUEUE_SNAPSHOT : Nat := key 0x6100 0x10
abbrev LINK_STATE (p : Nat) : Nat := key (0x2010 + 0x100 * p) 0x01
abbrev LINK_CLASS (p : Nat) : Nat := key (0x2010 + 0x100 * p) 0x02
abbrev PULLUP (p : Nat) : Nat := key (0x2010 + 0x100 * p) 0x03
abbrev CLASS_MAX (p : Nat) : Nat := key (0x2010 + 0x100 * p) 0x04
abbrev RX_PACKETS (p : Nat) : Nat := key (0x2010 + 0x100 * p) 0x05
abbrev RX_CRC_ERR (p : Nat) : Nat := key (0x2010 + 0x100 * p) 0x06
abbrev RX_PID_ERR (p : Nat) : Nat := key (0x2010 + 0x100 * p) 0x07
abbrev RX_CODE_ERR (p : Nat) : Nat := key (0x2010 + 0x100 * p) 0x08
abbrev RX_DUPLICATES (p : Nat) : Nat := key (0x2010 + 0x100 * p) 0x09
abbrev RX_SEQ_GAP (p : Nat) : Nat := key (0x2010 + 0x100 * p) 0x0A
abbrev TIMEOUTS (p : Nat) : Nat := key (0x2010 + 0x100 * p) 0x0B
abbrev RETRIES (p : Nat) : Nat := key (0x2010 + 0x100 * p) 0x0C
abbrev BABBLE (p : Nat) : Nat := key (0x2010 + 0x100 * p) 0x0D
abbrev RX_POISONED (p : Nat) : Nat := key (0x2010 + 0x100 * p) 0x0E
abbrev HDR_CHECK_ERR (p : Nat) : Nat := key (0x2010 + 0x100 * p) 0x0F
abbrev RESETS (p : Nat) : Nat := key (0x2010 + 0x100 * p) 0x10
abbrev TRAIN_FAILS (p : Nat) : Nat := key (0x2010 + 0x100 * p) 0x11
abbrev LINK_DROPS (p : Nat) : Nat := key (0x2010 + 0x100 * p) 0x12
abbrev SUSPENDS (p : Nat) : Nat := key (0x2010 + 0x100 * p) 0x13
abbrev WAKES_RX (p : Nat) : Nat := key (0x2010 + 0x100 * p) 0x14
abbrev CABLE_DELAY (p : Nat) : Nat := key (0x2010 + 0x100 * p) 0x15
abbrev LINK_UP_TIME (p : Nat) : Nat := key (0x2010 + 0x100 * p) 0x16
abbrev HOPS_EXCEEDED (p : Nat) : Nat := key (0x2010 + 0x100 * p) 0x17
abbrev FRAMES_REFUSED (p : Nat) : Nat := key (0x2010 + 0x100 * p) 0x18
abbrev EP0_OD_HALT : Nat := key 0x1020 0x01
abbrev EP1_OUT_HALT : Nat := key 0x1020 0x02
abbrev EP1_IN_HALT : Nat := key 0x1020 0x03
abbrev EP2_IN_HALT : Nat := key 0x1020 0x04
abbrev STALLS_SENT : Nat := key 0x1020 0x05
abbrev LINK_ADDRESS : Nat := key 0x1020 0x06
abbrev PORT_STATE (p : Nat) : Nat := key (0x2050 + 0x100 * p) 0x01
abbrev PORT_CMD (p : Nat) : Nat := key (0x2050 + 0x100 * p) 0x02
abbrev PORT_CMD_RESULT (p : Nat) : Nat := key (0x2050 + 0x100 * p) 0x03
abbrev HOLD_CAUSE (p : Nat) : Nat := key (0x2050 + 0x100 * p) 0x04
abbrev ERROR_LIMIT (p : Nat) : Nat := key (0x2050 + 0x100 * p) 0x05
abbrev WAKE_ENABLE (p : Nat) : Nat := key (0x2050 + 0x100 * p) 0x06
abbrev ADDR_PIN (p : Nat) : Nat := key (0x2050 + 0x100 * p) 0x07
abbrev DEVICE_BASE (p : Nat) : Nat := key (0x2050 + 0x100 * p) 0x08
abbrev DEVICE_FUNCTIONS (p : Nat) : Nat := key (0x2050 + 0x100 * p) 0x09
abbrev IDENTITY (p : Nat) : Nat := key (0x2050 + 0x100 * p) 0x0A
abbrev SUSPEND_CAUSE (p : Nat) : Nat := key (0x2050 + 0x100 * p) 0x0B
abbrev RESUME_CAUSE (p : Nat) : Nat := key (0x2050 + 0x100 * p) 0x0C
abbrev COINCIDENT_WAKE (p : Nat) : Nat := key (0x2050 + 0x100 * p) 0x0D
abbrev SLOT_LIMIT (p : Nat) : Nat := key (0x2050 + 0x100 * p) 0x0E
abbrev SLOTS_OPEN (p : Nat) : Nat := key (0x2050 + 0x100 * p) 0x0F
abbrev ENUM_ATTEMPTS (p : Nat) : Nat := key (0x2050 + 0x100 * p) 0x10
abbrev TRANSACTION_ERRORS (p : Nat) : Nat := key (0x2050 + 0x100 * p) 0x11
abbrev CONSECUTIVE_ERRORS (p : Nat) : Nat := key (0x2050 + 0x100 * p) 0x12
abbrev DELIVERED (p : Nat) : Nat := key (0x2050 + 0x100 * p) 0x13
abbrev DELIVERY_DROPPED (p : Nat) : Nat := key (0x2050 + 0x100 * p) 0x14
abbrev DELIVERY_TRUNCATED (p : Nat) : Nat := key (0x2050 + 0x100 * p) 0x15
abbrev WAKES_TAKEN (p : Nat) : Nat := key (0x2050 + 0x100 * p) 0x16
abbrev WAKES_IGNORED (p : Nat) : Nat := key (0x2050 + 0x100 * p) 0x17
abbrev COINCIDENT_WAKES (p : Nat) : Nat := key (0x2050 + 0x100 * p) 0x18
abbrev DELIVERY_TIMEOUT (p : Nat) : Nat := key (0x2050 + 0x100 * p) 0x19
abbrev ENABLE_TIME (p : Nat) : Nat := key (0x2050 + 0x100 * p) 0x1A
abbrev DISABLE_CAUSE (p : Nat) : Nat := key (0x2050 + 0x100 * p) 0x1B
abbrev SLOTS_TOTAL : Nat := key 0x4800 0x01
abbrev SLOTS_FREE : Nat := key 0x4800 0x02
abbrev SPLIT_RUN_MAX : Nat := key 0x4800 0x03
abbrev SPLIT_HOLD : Nat := key 0x4800 0x04
abbrev SPLITS_STARTED : Nat := key 0x4800 0x05
abbrev SPLITS_COMPLETED : Nat := key 0x4800 0x06
abbrev SPLITS_NO_SLOT : Nat := key 0x4800 0x07
abbrev SPLITS_TIMEOUT : Nat := key 0x4800 0x08
abbrev SPLITS_EXPIRED : Nat := key 0x4800 0x09
abbrev SPLITS_ABORTED : Nat := key 0x4800 0x0A
abbrev SLOT_SNAPSHOT : Nat := key 0x4800 0x0B
abbrev DEVICES_ASSIGNED : Nat := key 0x4800 0x0C
abbrev UPSTREAM_RESETS : Nat := key 0x4800 0x0D
abbrev LAST_UPSTREAM_RESET : Nat := key 0x4800 0x0E
abbrev RESET_ABORTS : Nat := key 0x4800 0x0F
abbrev UPSTREAM_WAKE : Nat := key 0x4800 0x10
abbrev QUARTZ_STATE : Nat := key 0x5000 0x01
abbrev QUARTZ_CMD : Nat := key 0x5000 0x02
abbrev QUARTZ_CMD_RESULT : Nat := key 0x5000 0x03
abbrev PAUSE_CAUSE : Nat := key 0x5000 0x04
abbrev REPORT_DEST : Nat := key 0x5000 0x05
abbrev REPORT_WINDOW : Nat := key 0x5000 0x06
abbrev REPORT_BUDGET : Nat := key 0x5000 0x07
abbrev SEQ_RESYNC_LIMIT : Nat := key 0x5000 0x08
abbrev ENTRIES_ENABLED : Nat := key 0x5000 0x09
abbrev BATCH_SEQ : Nat := key 0x5000 0x0A
abbrev POLLS_DONE : Nat := key 0x5000 0x0B
abbrev REPORTS_SENT : Nat := key 0x5000 0x0C
abbrev BATCHES_SENT : Nat := key 0x5000 0x0D
abbrev REPORTS_SUPPRESSED : Nat := key 0x5000 0x0E
abbrev SKIP_TIME_STEP : Nat := key 0x5000 0x0F
abbrev SKIP_DOMAIN : Nat := key 0x5000 0x10
abbrev SKIP_UPSTREAM : Nat := key 0x5000 0x11
abbrev SKIP_NOT_ASSIGNED : Nat := key 0x5000 0x12
abbrev SKIP_HUB_PORT : Nat := key 0x5000 0x13
abbrev SKIP_PORT_STATE : Nat := key 0x5000 0x14
abbrev OVERRUNS : Nat := key 0x5000 0x15
abbrev LATE_POLLS : Nat := key 0x5000 0x16
abbrev SEQ_RESYNCS : Nat := key 0x5000 0x17
abbrev TIMEBASE : Nat := key 0x5400 0x01
abbrev SYNC_STATE : Nat := key 0x5400 0x02
abbrev LAST_OFFSET : Nat := key 0x5400 0x03
abbrev FREQ_CORR : Nat := key 0x5400 0x04
abbrev STEP_THRESHOLD : Nat := key 0x5400 0x05
abbrev TIME_STEPS : Nat := key 0x5400 0x06
abbrev LAST_STEP : Nat := key 0x5400 0x07
abbrev PROBE_INTERVAL : Nat := key 0x5400 0x08
abbrev TIME_SET : Nat := key 0x5400 0x09
abbrev TIME_TRIM : Nat := key 0x5400 0x0A
abbrev LOCK_LOSSES : Nat := key 0x5400 0x0B
abbrev TIME_MSGS_IGNORED : Nat := key 0x5400 0x0C
abbrev DUE_PEAK (p : Nat) : Nat := key (0x2060 + 0x100 * p) 0x01
abbrev PORT_POLLS (p : Nat) : Nat := key (0x2060 + 0x100 * p) 0x02
abbrev PORT_OVERRUNS (p : Nat) : Nat := key (0x2060 + 0x100 * p) 0x03
abbrev PORT_LATE (p : Nat) : Nat := key (0x2060 + 0x100 * p) 0x04
abbrev CUT_THROUGH_ENABLE : Nat := key 0x4000 0x01
abbrev C0_RESERVE : Nat := key 0x4000 0x02
abbrev CREDIT_HOLD : Nat := key 0x4000 0x03
abbrev INGRESS_CREDIT : Nat := key 0x4000 0x04
abbrev CUT_STALL : Nat := key 0x4000 0x05
abbrev REJOIN_HOLD : Nat := key 0x4000 0x06
abbrev CELLS_TOTAL : Nat := key 0x4100 0x01
abbrev ALLOC_MASK : Nat := key 0x4100 0x02
abbrev FREE_PD3 : Nat := key 0x4100 0x03
abbrev FREE_PD4 : Nat := key 0x4100 0x04
abbrev FREE_MIN : Nat := key 0x4100 0x05
abbrev ECC_CORRECTED : Nat := key 0x4100 0x06
abbrev ECC_UNCORRECTED : Nat := key 0x4100 0x07
abbrev BANK_MAP : Nat := key 0x4100 0x08
abbrev SPARES_FREE : Nat := key 0x4100 0x09
abbrev DEPTH_C0 (p : Nat) : Nat := key (0x4200 + p) 0x01
abbrev DEPTH_C1 (p : Nat) : Nat := key (0x4200 + p) 0x02
abbrev DEPTH_C2 (p : Nat) : Nat := key (0x4200 + p) 0x03
abbrev DEPTH_C3 (p : Nat) : Nat := key (0x4200 + p) 0x04
abbrev QMAX_C0 (p : Nat) : Nat := key (0x4200 + p) 0x05
abbrev QMAX_C1 (p : Nat) : Nat := key (0x4200 + p) 0x06
abbrev QMAX_C2 (p : Nat) : Nat := key (0x4200 + p) 0x07
abbrev QMAX_C3 (p : Nat) : Nat := key (0x4200 + p) 0x08
abbrev CM_THR_C0 (p : Nat) : Nat := key (0x4200 + p) 0x09
abbrev CM_THR_C1 (p : Nat) : Nat := key (0x4200 + p) 0x0A
abbrev CM_THR_C2 (p : Nat) : Nat := key (0x4200 + p) 0x0B
abbrev CM_THR_C3 (p : Nat) : Nat := key (0x4200 + p) 0x0C
abbrev CM_MARKS (p : Nat) : Nat := key (0x4200 + p) 0x0D
abbrev CUT_THROUGH_TX (p : Nat) : Nat := key (0x4200 + p) 0x0E
abbrev POISONED_TX (p : Nat) : Nat := key (0x4200 + p) 0x0F
abbrev DEPTH_PEAK (p : Nat) : Nat := key (0x4200 + p) 0x10
abbrev DROP_NO_ROUTE (p : Nat) : Nat := key (0x4300 + p) 0x01
abbrev DROP_RESERVED_DEST (p : Nat) : Nat := key (0x4300 + p) 0x02
abbrev DROP_NOT_ASSIGNED (p : Nat) : Nat := key (0x4300 + p) 0x03
abbrev DROP_REFLECTED (p : Nat) : Nat := key (0x4300 + p) 0x04
abbrev DROP_NO_PATH (p : Nat) : Nat := key (0x4300 + p) 0x05
abbrev DROP_QUEUE_FULL (p : Nat) : Nat := key (0x4300 + p) 0x06
abbrev DROP_BUFFER_FULL (p : Nat) : Nat := key (0x4300 + p) 0x07
abbrev DROP_FIFO_FULL (p : Nat) : Nat := key (0x4300 + p) 0x08
abbrev DROP_BAD_FRAME (p : Nat) : Nat := key (0x4300 + p) 0x09
abbrev DROP_ECC (p : Nat) : Nat := key (0x4300 + p) 0x0A
abbrev DROP_DOMAIN_NOT_ON (p : Nat) : Nat := key (0x4300 + p) 0x0B
abbrev DROP_EGRESS_GONE (p : Nat) : Nat := key (0x4300 + p) 0x0C
abbrev DROP_STALLED (p : Nat) : Nat := key (0x4300 + p) 0x0D
abbrev DROP_HOPS (p : Nat) : Nat := key (0x4300 + p) 0x0E
abbrev DROP_SAFE_STATE (p : Nat) : Nat := key (0x4300 + p) 0x0F
abbrev FRAMES_IN (p : Nat) : Nat := key (0x4300 + p) 0x10
abbrev FRAMES_OUT (p : Nat) : Nat := key (0x4300 + p) 0x11
abbrev BYTES_IN (p : Nat) : Nat := key (0x4300 + p) 0x12
abbrev BYTES_OUT (p : Nat) : Nat := key (0x4300 + p) 0x13
abbrev MIRRORED (p : Nat) : Nat := key (0x4300 + p) 0x14
abbrev PUBLISH : Nat := key 0x4010 0x01
abbrev PUBLISH_RESULT : Nat := key 0x4010 0x02
abbrev EPOCH_LIVE : Nat := key 0x4010 0x03
abbrev EPOCH_DRAINING : Nat := key 0x4010 0x04
abbrev DRAIN_COUNT : Nat := key 0x4010 0x05
abbrev LIVE_COUNT : Nat := key 0x4010 0x06
abbrev PUBLISH_TIME : Nat := key 0x4010 0x07
abbrev RETIRE_TIME : Nat := key 0x4010 0x08
abbrev PUBLISHES : Nat := key 0x4010 0x09
abbrev SHADOW_DIFF : Nat := key 0x4010 0x0A
abbrev REVERT : Nat := key 0x4010 0x0B
abbrev DRAIN_PORTS : Nat := key 0x4010 0x0C
abbrev LAST_DRAIN_TIME : Nat := key 0x4010 0x0D
abbrev MIRROR_MODE : Nat := key 0x4020 0x01
abbrev MIRROR_N : Nat := key 0x4020 0x02
abbrev MIRROR_SRC : Nat := key 0x4020 0x03
abbrev MIRROR_CLASSES : Nat := key 0x4020 0x04
abbrev MIRROR_SCOPE : Nat := key 0x4020 0x05
abbrev MIRROR_DEST : Nat := key 0x4020 0x06
abbrev MIRROR_SAMPLES : Nat := key 0x4020 0x07
abbrev MIRROR_TO_RING : Nat := key 0x4020 0x08
abbrev RING_WRITTEN : Nat := key 0x4021 0x01
abbrev RING_READ_AT : Nat := key 0x4021 0x02
abbrev RING_READ : Nat := key 0x4021 0x03
abbrev RING_CLEAR : Nat := key 0x4021 0x04
abbrev AUDIT_ENABLE : Nat := key 0x4030 0x01
abbrev AUDITS : Nat := key 0x4030 0x02
abbrev LAST_AUDIT_TIME : Nat := key 0x4030 0x03
abbrev ORPHANS_LAST : Nat := key 0x4030 0x04
abbrev ORPHANS_RECLAIMED : Nat := key 0x4030 0x05
abbrev DOUBLE_LINKS : Nat := key 0x4030 0x06
abbrev HUB_ROLE : Nat := key 0x9000 0x01
abbrev HUB_ID : Nat := key 0x9000 0x02
abbrev HUB_ID_ASSIGNED : Nat := key 0x9000 0x03
abbrev TIER : Nat := key 0x9000 0x04
abbrev HUB_ROLE_ACTIVE : Nat := key 0x9000 0x05
abbrev ASSIGN : Nat := key 0x9000 0x06
abbrev RELEASE_ID : Nat := key 0x9000 0x07
abbrev PARENT_ID : Nat := key 0x9000 0x08
abbrev CONTROL_UPSTREAM : Nat := key 0x9000 0x09
abbrev STANDBY_UPSTREAM : Nat := key 0x9000 0x0A
abbrev CONTROL_MOVES : Nat := key 0x9000 0x0B
abbrev LAST_CONTROL_MOVE : Nat := key 0x9000 0x0C
abbrev ASSIGN_RESULT : Nat := key 0x9000 0x0D
abbrev RELAYS : Nat := key 0x9000 0x10
abbrev RELAY_FAILS : Nat := key 0x9000 0x11
abbrev NOTICES_TX : Nat := key 0x9000 0x12
abbrev NOTICES_RX : Nat := key 0x9000 0x13
abbrev NOTICES_EXPIRED : Nat := key 0x9000 0x14
abbrev LOCAL_DISCARDED : Nat := key 0x9000 0x15
abbrev FABRIC_NODE_ID : Nat := key 0x9100 0x01
abbrev FABRIC_PORTS : Nat := key 0x9100 0x02
abbrev FABRIC_STATE : Nat := key 0x9100 0x03
abbrev COORDINATOR : Nat := key 0x9100 0x04
abbrev NODES : Nat := key 0x9100 0x05
abbrev FABRIC_COST : Nat := key 0x9100 0x06
abbrev HELLOS_TX : Nat := key 0x9100 0x07
abbrev LSAS_RX : Nat := key 0x9100 0x08
abbrev MCAST_DISCARDED : Nat := key 0x9100 0x09
abbrev TRANSIT_FRAMES : Nat := key 0x9100 0x0A
abbrev FABRIC_DROPPED : Nat := key 0x9100 0x0B
abbrev GATEWAY_UP_DEST : Nat := key 0x9100 0x0C
abbrev UNMAPPED_DROPPED : Nat := key 0x9100 0x0D
abbrev NEIGHBOURS : Nat := key 0x9100 0x0E
abbrev CMD_SAVE : Nat := key 0xF000 0x01
abbrev CMD_FACTORY_DEFAULTS : Nat := key 0xF000 0x02
abbrev CMD_CLEAR_STORE : Nat := key 0xF000 0x03
abbrev CMD_FULL_RESET : Nat := key 0xF000 0x04
abbrev TXN_OPEN : Nat := key 0x1030 0x01
abbrev TXN_IDLE_TIMEOUT : Nat := key 0x1030 0x02
abbrev COMMITS : Nat := key 0x1030 0x03
abbrev COMMITS_REFUSED : Nat := key 0x1030 0x04
abbrev TXN_DISCARDED : Nat := key 0x1030 0x05
abbrev LAST_COMMITS : Nat := key 0x1030 0x06
abbrev OD_WRITES : Nat := key 0x1030 0x07
abbrev OD_REFUSED : Nat := key 0x1030 0x08
abbrev AUTH_REFUSED : Nat := key 0x1030 0x09
abbrev WINDOW_WRITES : Nat := key 0x1030 0x10
abbrev WINDOW_REFUSED : Nat := key 0x1030 0x11
abbrev WINDOW_LAST_REFUSED : Nat := key 0x1030 0x12
abbrev STORE_STATE : Nat := key 0x1040 0x01
abbrev SEQ_IN_USE : Nat := key 0x1040 0x02
abbrev COPY_A_STATUS : Nat := key 0x1040 0x03
abbrev COPY_B_STATUS : Nat := key 0x1040 0x04
abbrev COPY_A_SEQ : Nat := key 0x1040 0x05
abbrev COPY_B_SEQ : Nat := key 0x1040 0x06
abbrev SAVE_RESULT : Nat := key 0x1040 0x07
abbrev WRITES_A : Nat := key 0x1040 0x08
abbrev WRITES_B : Nat := key 0x1040 0x09
abbrev LAST_SAVE_TIME : Nat := key 0x1040 0x0A
abbrev ENTRIES_LOADED : Nat := key 0x1040 0x0B
abbrev ENTRIES_SKIPPED : Nat := key 0x1040 0x0C
abbrev UNSAVED : Nat := key 0x1040 0x0D
abbrev STORE_USED : Nat := key 0x1040 0x0E
abbrev HL_STATUS : Nat := key 0xA000 0x01
abbrev HINT_MASK : Nat := key 0xA000 0x02
abbrev DUMMY_CLOCKS : Nat := key 0xA000 0x03
abbrev TXQ_ROOM_LEVEL : Nat := key 0xA000 0x04
abbrev RXQ0_WORDS : Nat := key 0xA000 0x05
abbrev RXQ1_WORDS : Nat := key 0xA000 0x06
abbrev EVQ_WORDS : Nat := key 0xA000 0x07
abbrev TXQ_FREE : Nat := key 0xA000 0x08
abbrev RXQ0_PACKETS : Nat := key 0xA000 0x09
abbrev RXQ1_PACKETS : Nat := key 0xA000 0x0A
abbrev EVQ_PACKETS : Nat := key 0xA000 0x0B
abbrev EVQ_HELD_COUNT : Nat := key 0xA000 0x0C
abbrev BAD_COMMANDS : Nat := key 0xA000 0x0D
abbrev OD_OVERRUNS : Nat := key 0xA000 0x0E
abbrev OD_REQUESTS : Nat := key 0xA000 0x0F
abbrev TX_PACKETS : Nat := key 0xA000 0x10
abbrev TX_DISCARDED : Nat := key 0xA000 0x11
abbrev TX_LAST_DISCARD : Nat := key 0xA000 0x12
abbrev RX_LOST : Nat := key 0xA000 0x13
abbrev HL_RX_POISONED : Nat := key 0xA000 0x14
abbrev DOMAIN_CMD : Nat := key 0x6000 0x01
abbrev DOMAIN_CANCEL : Nat := key 0x6000 0x02
abbrev DOMAIN_RESULT : Nat := key 0x6000 0x03
abbrev DOMAIN_STATES : Nat := key 0x6000 0x04
abbrev ARMED_CMD : Nat := key 0x6000 0x05
abbrev CLOCK_STATE : Nat := key 0x6000 0x06
abbrev LF_SOURCE : Nat := key 0x6000 0x07
abbrev COMMANDS : Nat := key 0x6000 0x08
abbrev COMMANDS_REFUSED : Nat := key 0x6000 0x09
abbrev COMMANDS_CANCELLED : Nat := key 0x6000 0x0A
abbrev XO_STARTS : Nat := key 0x6000 0x0B
abbrev CLOCK_FAILS : Nat := key 0x6000 0x0C
abbrev FW_STATE : Nat := key 0x6000 0x0D
abbrev ARMED_RUNS : Nat := key 0x6000 0x0E
abbrev ARMED_DROPPED : Nat := key 0x6000 0x0F
abbrev DOMAIN_RECORD (d : Nat) : Nat := key 0x6020 (0x00 + d)
abbrev SEC_STATE : Nat := key 0x7000 0x01
abbrev DEVICE_PUBKEY : Nat := key 0x7000 0x02
abbrev DEVICE_CERT : Nat := key 0x7000 0x03
abbrev CA_CERT : Nat := key 0x7000 0x04
abbrev FW_ROOT_HASH : Nat := key 0x7000 0x05
abbrev ID_ROOT_HASH : Nat := key 0x7000 0x06
abbrev ATTEST_NONCE : Nat := key 0x7000 0x07
abbrev ATTEST_REPORT : Nat := key 0x7000 0x08
abbrev CLAIM_CHALLENGE : Nat := key 0x7000 0x09
abbrev OWNER_CLAIM : Nat := key 0x7000 0x0A
abbrev CLAIM_RESULT : Nat := key 0x7000 0x0B
abbrev TRANSFER : Nat := key 0x7000 0x0C
abbrev TRANSFER_WINDOW : Nat := key 0x7000 0x0D
abbrev TRANSFER_DEADLINE : Nat := key 0x7000 0x0E
abbrev OWNER_DIGEST : Nat := key 0x7000 0x0F
abbrev ZEROISE : Nat := key 0x7000 0x10
abbrev KEY_SLOT (d : Nat) : Nat := key 0x7010 (0x00 + d)
abbrev SLOT_CMD : Nat := key 0x7010 0x0D
abbrev SLOT_RESULT : Nat := key 0x7010 0x0E
abbrev SESSION_CHALLENGE : Nat := key 0x7020 0x01
abbrev SESSION_OPEN : Nat := key 0x7020 0x02
abbrev SESSION_CLOSE : Nat := key 0x7020 0x03
abbrev SESSION_IDLE : Nat := key 0x7020 0x04
abbrev SESSIONS_OPEN : Nat := key 0x7020 0x05
abbrev SESSIONS_OPENED : Nat := key 0x7020 0x06
abbrev SESSION_OPEN_FAILS : Nat := key 0x7020 0x07
abbrev SESSION_RECORD (d : Nat) : Nat := key 0x7020 (0x10 + d)
abbrev FW_VERSION : Nat := key 0x7030 0x01
abbrev FW_SVN : Nat := key 0x7030 0x02
abbrev MIN_SVN : Nat := key 0x7030 0x03
abbrev FW_SLOT : Nat := key 0x7030 0x04
abbrev FW_PREFERRED : Nat := key 0x7030 0x05
abbrev FW_DIGEST : Nat := key 0x7030 0x06
abbrev ENDORSE_REQUIRED : Nat := key 0x7030 0x07
abbrev FW_WRITE_AT : Nat := key 0x7030 0x08
abbrev FW_WRITE_DATA : Nat := key 0x7030 0x09
abbrev FW_CMD : Nat := key 0x7030 0x0A
abbrev FW_RESULT : Nat := key 0x7030 0x0B
abbrev FW_LOAD_FAILS : Nat := key 0x7030 0x0C
abbrev FW_LAST_FAIL : Nat := key 0x7030 0x0D
abbrev LINK_KEYX : Nat := key 0x7040 0x01
abbrev LINK_KEYX_REPLY : Nat := key 0x7040 0x02
abbrev TRUNK_ENC : Nat := key 0x7040 0x03
abbrev REKEY_INTERVAL : Nat := key 0x7040 0x04
abbrev UA_SEC_STATE : Nat := key 0x7040 0x05
abbrev UB_SEC_STATE : Nat := key 0x7040 0x06
abbrev KEYX_FAILS : Nat := key 0x7040 0x07
abbrev TAG_FAILS : Nat := key 0x7040 0x08
abbrev CLEAR_DISCARDED : Nat := key 0x7040 0x09
abbrev REKEYS : Nat := key 0x7040 0x0A
abbrev LOG_WRITTEN : Nat := key 0x8000 0x01
abbrev LOG_READ_AT : Nat := key 0x8000 0x02
abbrev LOG_READ : Nat := key 0x8000 0x03
abbrev FAULT_ACK : Nat := key 0x8000 0x04
abbrev SAFE_STATE : Nat := key 0x8000 0x05
abbrev SAFE_EXIT : Nat := key 0x8000 0x06
abbrev SAFE_EXIT_RESULT : Nat := key 0x8000 0x07
abbrev FORCE_DETAIL : Nat := key 0x8000 0x08
abbrev BURST_COUNT : Nat := key 0x8000 0x09
abbrev BURST_WINDOW : Nat := key 0x8000 0x0A
abbrev SBE_HOLDOFF : Nat := key 0x8000 0x0B
abbrev EVQ_PENDING : Nat := key 0x8000 0x0C
abbrev MANAGER_PENDING : Nat := key 0x8000 0x0D
abbrev LOG_OVERRUN : Nat := key 0x8000 0x0E
abbrev ESCALATIONS : Nat := key 0x8000 0x0F
abbrev CONSEQUENTIAL : Nat := key 0x8000 0x10
abbrev FORCED : Nat := key 0x8000 0x11
abbrev SHADOWS_OPEN : Nat := key 0x8000 0x12
abbrev SHADOWS_REFUSED : Nat := key 0x8000 0x13
abbrev DIE_TEMP : Nat := key 0x8000 0x14
abbrev POWER_DIE_TEMP : Nat := key 0x8000 0x15
abbrev THERM_WARN : Nat := key 0x8000 0x16
abbrev THERM_CRIT : Nat := key 0x8000 0x17
abbrev VIN_LOW_MV : Nat := key 0x8000 0x18
abbrev VAUX_LOW_MV : Nat := key 0x8000 0x19
abbrev FAILSAFE_POLICY : Nat := key 0x8000 0x1A
abbrev SAFE_TIME : Nat := key 0x8000 0x1B
abbrev CLASS_STATUS (d : Nat) : Nat := key 0x8010 (0x00 + d)
abbrev ESC_CEILING (d : Nat) : Nat := key 0x8020 (0x00 + d)
abbrev REPAIR_MAP : Nat := key 0x8200 0x01
abbrev FENCED_CELLS : Nat := key 0x8200 0x02
abbrev REPAIR_STORE : Nat := key 0x8200 0x03
abbrev BANK_TESTS : Nat := key 0x8200 0x04
abbrev BANK_REMAPS : Nat := key 0x8200 0x05
abbrev CORE_TESTS : Nat := key 0x8200 0x06
abbrev CORE_RETIREMENTS : Nat := key 0x8200 0x07
abbrev LOOPBACK_TESTS : Nat := key 0x8200 0x08
abbrev NV_SCRUBS : Nat := key 0x8200 0x09
abbrev TESTS_TRANSIENT : Nat := key 0x8200 0x0A
abbrev TESTS_LASTING : Nat := key 0x8200 0x0B
abbrev CELLS_FENCED : Nat := key 0x8200 0x0C
abbrev REPAIR_RUNNING : Nat := key 0x8200 0x0D
abbrev RESET_CAUSE : Nat := key 0x1050 0x01
abbrev BOOT_STAGE : Nat := key 0x1050 0x02
abbrev BOOT_TIME : Nat := key 0x1050 0x03
abbrev RESET_COUNT : Nat := key 0x1050 0x04
abbrev PORTS_ADOPTED : Nat := key 0x1050 0x05
abbrev LAST_RESET_TIME : Nat := key 0x1050 0x06
abbrev POWER_DIE_RESETS : Nat := key 0x1050 0x07
abbrev UPSTREAM_READY_TIME : Nat := key 0x1050 0x08
abbrev BROWNOUTS : Nat := key 0x1050 0x09
abbrev DEVICE_TYPE : Nat := key 0x1000 0x01
abbrev SILICON_REVISION : Nat := key 0x1000 0x02
abbrev TEMP_GRADE : Nat := key 0x1000 0x03
abbrev VENDOR_ID : Nat := key 0x1000 0x04
abbrev SERIAL : Nat := key 0x1000 0x05
abbrev MAP_VERSION : Nat := key 0x1000 0x06
abbrev HUB_LABEL : Nat := key 0x1000 0x07

/-- Endpoint table entry of device d, 0 to 4095 (Table 10-2): entry address hub-local, R309. -/
abbrev ENDPOINT (e : Nat) : Nat := key (0x4400 + e / 128) (1 + e % 128)
/-- Route table entry r, 0 to 2047. -/
abbrev ROUTE (r : Nat) : Nat := key (0x4500 + r / 128) (1 + r % 128)
/-- Multicast table entry g, 0 to 511. -/
abbrev MCAST (g : Nat) : Nat := key (0x4600 + g / 128) (1 + g % 128)
/-- Device table record of address d, 1 to 254 (R229). -/
abbrev DEVICE (d : Nat) : Nat := key 0x4900 d
/-- Poll entry e, 0 to 4095 (R249). -/
abbrev POLL (e : Nat) : Nat := key (0x5100 + e / 128) (1 + e % 128)
/-- State of poll entry e (R275). -/
abbrev POLL_STATE (e : Nat) : Nat := key (0x5200 + e / 128) (1 + e % 128)
/-- Configuration of fault source id (R487). -/
abbrev SOURCE (id : Nat) : Nat := key 0x8100 id
/-- Reach set of switch port p, 0 to 17 (R349). -/
abbrev REACH (p : Nat) : Nat := key 0x9020 (1 + p)
/-- Fabric map entry of device d (R346). -/
abbrev FABRIC_MAP (d : Nat) : Nat := key 0x9200 d
/-- Ring view s, 1 to 128 (R548). -/
abbrev RING_VIEW (s : Nat) : Nat := key 0x4022 s
/-- Log view s, 1 to 16 (R548). -/
abbrev LOG_VIEW (s : Nat) : Nat := key 0x8001 s

end Sys2Proof.Machine.Od
end

