-- ==== Sys2Proof/Machine/OdMap.lean ====
section
/-!
DEFINITION. Sys2Proof/Machine/OdMap.lean: the map of the object dictionary (R537): every entry's type, size, access,
Owner-only mark, range and default, row by row from the tables that Tables 20-1, 20-2 and 20-5 cite, with the rules of
flags (R540 to R543), of rights (R538, R545, R546), of trunk instances (R545) and of the domains that hold entries (R553).
-/
namespace Sys2Proof.Machine

/-- The types of Table 12-1. -/
inductive OdType where
  | bool | u8 | u16 | u32 | u64 | i16 | i32 | i64 | time64 | str | octets
  deriving DecidableEq, Repr

/-- The type code of Table 12-1. -/
def OdType.code : OdType → Nat
  | .bool => 1 | .u8 => 2 | .u16 => 3 | .u32 => 4 | .u64 => 5 | .i16 => 6 | .i32 => 7 | .i64 => 8
  | .time64 => 9 | .str => 10 | .octets => 11

/-- The four access kinds (R21, Table 12-4). -/
inductive Access where
  | ro | rw | wo | rwc
  deriving DecidableEq, Repr

/-- The access code of Table 12-4. -/
def Access.code : Access → Nat
  | .ro => 0 | .rw => 1 | .wo => 2 | .rwc => 3

/-- The range of a writable entry, as its row's last column gives it. -/
inductive OdRange where
  /-- Every value of the type, or checked by the entry's own rule. -/
  | any
  /-- lo to hi. -/
  | btw (lo hi : Nat)
  /-- lo to hi in steps of st. -/
  | step (lo hi st : Nat)
  /-- 0, or lo to hi in steps of st. -/
  | zeroOrStep (lo hi st : Nat)
  /-- n defined bits; the reserved bits above them are ignored on receipt and read 0 (R12). -/
  | mask (n : Nat)
  /-- −m to m in two's complement of the entry's size. -/
  | signed (m : Nat)
  /-- A TIME64 whose bits [2:0] are 0 (Table 12-1). -/
  | mult8
  /-- A counter: only 0 may be written (R22, R542). -/
  | counter
  deriving DecidableEq, Repr

/-- One row of the map: template index, first and last subindex, type, size or declared length, access, Owner-only, range. -/
structure OdRow where
  idx : Nat
  sub : Nat
  subHi : Nat
  ty : OdType
  size : Nat
  acc : Access
  ownerOnly : Bool
  range : OdRange
  deriving DecidableEq, Repr

/-- Table 2-12. -/
def rows2020 : List OdRow :=
  [ ⟨0x2020, 0x01, 0x01, .u8, 1, .ro, false, .any⟩,
    ⟨0x2020, 0x02, 0x02, .u8, 1, .ro, false, .any⟩,
    ⟨0x2020, 0x03, 0x03, .i16, 2, .ro, false, .any⟩,
    ⟨0x2020, 0x04, 0x04, .u32, 4, .ro, false, .any⟩,
    ⟨0x2020, 0x05, 0x05, .u32, 4, .ro, false, .any⟩,
    ⟨0x2020, 0x06, 0x06, .u32, 4, .ro, false, .any⟩,
    ⟨0x2020, 0x07, 0x07, .u8, 1, .ro, false, .any⟩,
    ⟨0x2020, 0x08, 0x08, .u32, 4, .ro, false, .any⟩,
    ⟨0x2020, 0x09, 0x09, .u32, 4, .ro, false, .any⟩,
    ⟨0x2020, 0x0A, 0x0A, .u32, 4, .ro, false, .any⟩,
    ⟨0x2020, 0x0B, 0x0B, .u32, 4, .ro, false, .any⟩,
    ⟨0x2020, 0x0C, 0x0C, .u32, 4, .ro, false, .any⟩,
    ⟨0x2020, 0x0D, 0x0D, .u16, 2, .ro, false, .any⟩,
    ⟨0x2020, 0x0E, 0x0E, .time64, 8, .ro, false, .any⟩,
    ⟨0x2020, 0x0F, 0x0F, .bool, 1, .rwc, false, .btw 0 1⟩,
    ⟨0x2020, 0x11, 0x11, .u16, 2, .rw, false, .btw 1 365⟩,
    ⟨0x2020, 0x12, 0x12, .u32, 4, .rw, false, .btw 10000 100000000⟩,
    ⟨0x2020, 0x13, 0x13, .u32, 4, .rw, false, .btw 10000 100000000⟩,
    ⟨0x2020, 0x14, 0x14, .bool, 1, .rwc, false, .btw 0 1⟩,
    ⟨0x2020, 0x15, 0x15, .bool, 1, .rwc, false, .btw 0 1⟩,
    ⟨0x2020, 0x16, 0x16, .u16, 2, .ro, false, .any⟩,
    ⟨0x2020, 0x17, 0x17, .u16, 2, .ro, false, .any⟩,
    ⟨0x2020, 0x18, 0x18, .u8, 1, .ro, false, .any⟩,
    ⟨0x2020, 0x19, 0x19, .u16, 2, .rw, false, .btw 600 800⟩,
    ⟨0x2020, 0x1A, 0x1A, .octets, 2048, .ro, false, .any⟩,
    ⟨0x2020, 0x1B, 0x1B, .bool, 1, .rw, false, .btw 0 1⟩,
    ⟨0x2020, 0x1C, 0x1C, .bool, 1, .ro, false, .any⟩,
    ⟨0x2020, 0x1D, 0x1D, .u16, 2, .rw, false, .btw 1 3600⟩,
    ⟨0x2020, 0x1E, 0x1E, .u32, 4, .ro, false, .counter⟩ ]

/-- Table 3-16. -/
def rows2000 : List OdRow :=
  [ ⟨0x2000, 0x01, 0x01, .u8, 1, .ro, false, .any⟩,
    ⟨0x2000, 0x02, 0x02, .u8, 1, .ro, false, .any⟩,
    ⟨0x2000, 0x03, 0x03, .u8, 1, .ro, false, .any⟩,
    ⟨0x2000, 0x04, 0x04, .u8, 1, .ro, false, .any⟩,
    ⟨0x2000, 0x05, 0x05, .bool, 1, .rwc, false, .btw 0 1⟩,
    ⟨0x2000, 0x06, 0x06, .u32, 4, .ro, false, .counter⟩,
    ⟨0x2000, 0x07, 0x07, .u32, 4, .ro, false, .counter⟩,
    ⟨0x2000, 0x08, 0x08, .time64, 8, .ro, false, .any⟩,
    ⟨0x2000, 0x09, 0x09, .time64, 8, .ro, false, .any⟩,
    ⟨0x2000, 0x10, 0x10, .u8, 1, .rw, true, .btw 0 3⟩,
    ⟨0x2000, 0x11, 0x11, .u8, 1, .ro, false, .any⟩,
    ⟨0x2000, 0x12, 0x12, .u16, 2, .rw, false, .btw 100 10000⟩,
    ⟨0x2000, 0x13, 0x13, .u8, 1, .rw, false, .btw 0 255⟩,
    ⟨0x2000, 0x14, 0x14, .u16, 2, .rw, false, .btw 1 3600⟩,
    ⟨0x2000, 0x15, 0x15, .u32, 4, .ro, false, .counter⟩,
    ⟨0x2000, 0x16, 0x16, .u32, 4, .ro, false, .counter⟩,
    ⟨0x2000, 0x17, 0x17, .u32, 4, .ro, false, .counter⟩,
    ⟨0x2000, 0x18, 0x18, .u32, 4, .ro, false, .counter⟩,
    ⟨0x2000, 0x19, 0x19, .u32, 4, .ro, false, .counter⟩,
    ⟨0x2000, 0x1A, 0x1A, .u32, 4, .ro, false, .counter⟩,
    ⟨0x2000, 0x1B, 0x1B, .u32, 4, .ro, false, .counter⟩,
    ⟨0x2000, 0x1C, 0x1C, .u32, 4, .ro, false, .counter⟩,
    ⟨0x2000, 0x1D, 0x1D, .u32, 4, .ro, false, .counter⟩,
    ⟨0x2000, 0x1E, 0x1E, .u32, 4, .ro, false, .counter⟩,
    ⟨0x2000, 0x1F, 0x1F, .u8, 1, .ro, false, .any⟩,
    ⟨0x2000, 0x20, 0x20, .u32, 4, .ro, false, .any⟩ ]

/-- Table 4-21. -/
def rows2030 : List OdRow :=
  [ ⟨0x2030, 0x01, 0x01, .u8, 1, .ro, false, .any⟩,
    ⟨0x2030, 0x02, 0x02, .u8, 1, .ro, false, .any⟩,
    ⟨0x2030, 0x03, 0x03, .u16, 2, .ro, false, .any⟩,
    ⟨0x2030, 0x04, 0x04, .u16, 2, .ro, false, .any⟩,
    ⟨0x2030, 0x05, 0x05, .time64, 8, .ro, false, .any⟩,
    ⟨0x2030, 0x06, 0x06, .octets, 28, .ro, false, .any⟩,
    ⟨0x2030, 0x07, 0x07, .u32, 4, .ro, false, .any⟩,
    ⟨0x2030, 0x08, 0x08, .u8, 1, .rw, false, .btw 5 100⟩,
    ⟨0x2030, 0x09, 0x09, .u16, 2, .rw, false, .btw 0 2550⟩,
    ⟨0x2030, 0x0A, 0x0A, .u8, 1, .ro, false, .any⟩,
    ⟨0x2030, 0x0B, 0x0B, .bool, 1, .rw, false, .btw 0 1⟩,
    ⟨0x2030, 0x0C, 0x0C, .bool, 1, .rwc, false, .btw 0 1⟩,
    ⟨0x2030, 0x0D, 0x0D, .u8, 1, .ro, false, .any⟩,
    ⟨0x2030, 0x0E, 0x0E, .bool, 1, .rw, false, .btw 0 1⟩,
    ⟨0x2030, 0x0F, 0x0F, .u8, 1, .rw, false, .btw 11 255⟩,
    ⟨0x2030, 0x10, 0x10, .octets, 40, .rwc, false, .any⟩,
    ⟨0x2030, 0x11, 0x11, .u8, 1, .ro, false, .any⟩,
    ⟨0x2030, 0x12, 0x12, .u16, 2, .ro, false, .any⟩,
    ⟨0x2030, 0x13, 0x13, .u8, 1, .ro, false, .any⟩,
    ⟨0x2030, 0x14, 0x14, .u8, 1, .ro, false, .any⟩,
    ⟨0x2030, 0x15, 0x15, .u32, 4, .ro, false, .any⟩,
    ⟨0x2030, 0x16, 0x16, .u32, 4, .ro, false, .counter⟩,
    ⟨0x2030, 0x17, 0x17, .u32, 4, .ro, false, .counter⟩,
    ⟨0x2030, 0x18, 0x18, .u32, 4, .ro, false, .counter⟩,
    ⟨0x2030, 0x19, 0x19, .u32, 4, .ro, false, .counter⟩,
    ⟨0x2030, 0x1A, 0x1A, .u32, 4, .ro, false, .counter⟩,
    ⟨0x2030, 0x1B, 0x1B, .u32, 4, .ro, false, .any⟩,
    ⟨0x2030, 0x1C, 0x1C, .octets, 28, .ro, false, .any⟩ ]

/-- Table 4-22. -/
def rows3800 : List OdRow :=
  [ ⟨0x3800, 0x01, 0x01, .u16, 2, .ro, false, .any⟩,
    ⟨0x3800, 0x02, 0x02, .u16, 2, .ro, false, .any⟩,
    ⟨0x3800, 0x03, 0x03, .octets, 28, .rw, true, .any⟩,
    ⟨0x3800, 0x04, 0x04, .u16, 2, .rw, false, .step 50 4000 10⟩,
    ⟨0x3800, 0x05, 0x05, .u16, 2, .rw, true, .btw 10 2000⟩,
    ⟨0x3800, 0x06, 0x06, .u16, 2, .rw, true, .btw 10 1000⟩ ]

/-- Table 5-7. -/
def rows2040 : List OdRow :=
  [ ⟨0x2040, 0x01, 0x01, .u8, 1, .ro, false, .any⟩,
    ⟨0x2040, 0x02, 0x02, .u8, 1, .ro, false, .any⟩,
    ⟨0x2040, 0x03, 0x03, .u16, 2, .rw, true, .zeroOrStep 50 4000 10⟩,
    ⟨0x2040, 0x04, 0x04, .u16, 2, .ro, false, .any⟩,
    ⟨0x2040, 0x05, 0x05, .u8, 1, .rw, true, .btw 2 4⟩,
    ⟨0x2040, 0x06, 0x06, .u16, 2, .rw, true, .btw 1 1000⟩,
    ⟨0x2040, 0x07, 0x07, .u16, 2, .rw, false, .btw 100 60000⟩,
    ⟨0x2040, 0x08, 0x08, .u8, 1, .rwc, false, .btw 1 2⟩,
    ⟨0x2040, 0x09, 0x09, .u8, 1, .ro, false, .any⟩,
    ⟨0x2040, 0x0A, 0x0A, .u16, 2, .ro, false, .any⟩,
    ⟨0x2040, 0x0B, 0x0B, .u16, 2, .ro, false, .any⟩,
    ⟨0x2040, 0x0C, 0x0C, .u32, 4, .ro, false, .any⟩,
    ⟨0x2040, 0x0D, 0x0D, .u32, 4, .ro, false, .any⟩,
    ⟨0x2040, 0x0E, 0x0E, .u32, 4, .ro, false, .counter⟩,
    ⟨0x2040, 0x0F, 0x0F, .u32, 4, .ro, false, .counter⟩,
    ⟨0x2040, 0x10, 0x10, .u32, 4, .ro, false, .counter⟩,
    ⟨0x2040, 0x11, 0x11, .u32, 4, .ro, false, .counter⟩,
    ⟨0x2040, 0x12, 0x12, .time64, 8, .ro, false, .any⟩,
    ⟨0x2040, 0x13, 0x13, .u16, 2, .ro, false, .any⟩,
    ⟨0x2040, 0x14, 0x14, .u32, 4, .ro, false, .counter⟩,
    ⟨0x2040, 0x15, 0x15, .u32, 4, .ro, false, .counter⟩ ]

/-- Table 5-8. -/
def rows3810 : List OdRow :=
  [ ⟨0x3810, 0x01, 0x01, .u8, 1, .ro, false, .any⟩,
    ⟨0x3810, 0x02, 0x02, .u32, 4, .ro, false, .counter⟩,
    ⟨0x3810, 0x03, 0x03, .u32, 4, .ro, false, .counter⟩,
    ⟨0x3810, 0x04, 0x04, .u32, 4, .ro, false, .counter⟩,
    ⟨0x3810, 0x05, 0x05, .u32, 4, .ro, false, .counter⟩,
    ⟨0x3810, 0x06, 0x06, .u8, 1, .rw, true, .mask 4⟩ ]

/-- Table 5-9. -/
def rows6100 : List OdRow :=
  [ ⟨0x6100, 0x01, 0x01, .u32, 4, .rw, true, .btw 1000 1000000⟩,
    ⟨0x6100, 0x02, 0x02, .u16, 2, .rw, true, .btw 64 16384⟩,
    ⟨0x6100, 0x03, 0x03, .u32, 4, .ro, false, .any⟩,
    ⟨0x6100, 0x04, 0x04, .u32, 4, .rw, true, .btw 1000 1000000⟩,
    ⟨0x6100, 0x05, 0x05, .u16, 2, .rw, true, .btw 64 16384⟩,
    ⟨0x6100, 0x06, 0x06, .u32, 4, .ro, false, .any⟩,
    ⟨0x6100, 0x07, 0x07, .u32, 4, .rw, true, .btw 100 100000⟩,
    ⟨0x6100, 0x08, 0x08, .u16, 2, .rw, true, .btw 64 2048⟩,
    ⟨0x6100, 0x09, 0x09, .u32, 4, .ro, false, .any⟩,
    ⟨0x6100, 0x0A, 0x0A, .u8, 1, .ro, false, .any⟩,
    ⟨0x6100, 0x0B, 0x0B, .u32, 4, .ro, false, .counter⟩,
    ⟨0x6100, 0x0C, 0x0C, .u32, 4, .ro, false, .counter⟩,
    ⟨0x6100, 0x0D, 0x0D, .u32, 4, .ro, false, .counter⟩,
    ⟨0x6100, 0x0E, 0x0E, .u32, 4, .ro, false, .counter⟩,
    ⟨0x6100, 0x0F, 0x0F, .bool, 1, .rw, true, .btw 0 1⟩,
    ⟨0x6100, 0x10, 0x10, .octets, 1024, .ro, false, .any⟩ ]

/-- Table 6-19. -/
def rows2010 : List OdRow :=
  [ ⟨0x2010, 0x01, 0x01, .u8, 1, .ro, false, .any⟩,
    ⟨0x2010, 0x02, 0x02, .u8, 1, .ro, false, .any⟩,
    ⟨0x2010, 0x03, 0x03, .bool, 1, .ro, false, .any⟩,
    ⟨0x2010, 0x04, 0x04, .u8, 1, .rw, false, .btw 1 4⟩,
    ⟨0x2010, 0x05, 0x05, .u32, 4, .ro, false, .counter⟩,
    ⟨0x2010, 0x06, 0x06, .u32, 4, .ro, false, .counter⟩,
    ⟨0x2010, 0x07, 0x07, .u32, 4, .ro, false, .counter⟩,
    ⟨0x2010, 0x08, 0x08, .u32, 4, .ro, false, .counter⟩,
    ⟨0x2010, 0x09, 0x09, .u32, 4, .ro, false, .counter⟩,
    ⟨0x2010, 0x0A, 0x0A, .u32, 4, .ro, false, .counter⟩,
    ⟨0x2010, 0x0B, 0x0B, .u32, 4, .ro, false, .counter⟩,
    ⟨0x2010, 0x0C, 0x0C, .u32, 4, .ro, false, .counter⟩,
    ⟨0x2010, 0x0D, 0x0D, .u32, 4, .ro, false, .counter⟩,
    ⟨0x2010, 0x0E, 0x0E, .u32, 4, .ro, false, .counter⟩,
    ⟨0x2010, 0x0F, 0x0F, .u32, 4, .ro, false, .counter⟩,
    ⟨0x2010, 0x10, 0x10, .u32, 4, .ro, false, .counter⟩,
    ⟨0x2010, 0x11, 0x11, .u32, 4, .ro, false, .counter⟩,
    ⟨0x2010, 0x12, 0x12, .u32, 4, .ro, false, .counter⟩,
    ⟨0x2010, 0x13, 0x13, .u32, 4, .ro, false, .counter⟩,
    ⟨0x2010, 0x14, 0x14, .u32, 4, .ro, false, .counter⟩,
    ⟨0x2010, 0x15, 0x15, .u16, 2, .ro, false, .any⟩,
    ⟨0x2010, 0x16, 0x16, .time64, 8, .ro, false, .any⟩,
    ⟨0x2010, 0x17, 0x17, .u32, 4, .ro, false, .counter⟩,
    ⟨0x2010, 0x18, 0x18, .u32, 4, .ro, false, .counter⟩ ]

/-- Table 6-20. -/
def rows1020 : List OdRow :=
  [ ⟨0x1020, 0x01, 0x01, .u8, 1, .ro, false, .any⟩,
    ⟨0x1020, 0x02, 0x02, .u8, 1, .ro, false, .any⟩,
    ⟨0x1020, 0x03, 0x03, .u8, 1, .ro, false, .any⟩,
    ⟨0x1020, 0x04, 0x04, .u8, 1, .ro, false, .any⟩,
    ⟨0x1020, 0x05, 0x05, .u32, 4, .ro, false, .counter⟩,
    ⟨0x1020, 0x06, 0x06, .u8, 1, .ro, false, .any⟩ ]

/-- Table 7-14. -/
def rows2050 : List OdRow :=
  [ ⟨0x2050, 0x01, 0x01, .u8, 1, .ro, false, .any⟩,
    ⟨0x2050, 0x02, 0x02, .u8, 1, .rwc, false, .btw 1 5⟩,
    ⟨0x2050, 0x03, 0x03, .u8, 1, .ro, false, .any⟩,
    ⟨0x2050, 0x04, 0x04, .u8, 1, .ro, false, .any⟩,
    ⟨0x2050, 0x05, 0x05, .u8, 1, .rw, false, .btw 1 255⟩,
    ⟨0x2050, 0x06, 0x06, .bool, 1, .rw, false, .btw 0 1⟩,
    ⟨0x2050, 0x07, 0x07, .u8, 1, .rw, false, .btw 0 254⟩,
    ⟨0x2050, 0x08, 0x08, .u8, 1, .ro, false, .any⟩,
    ⟨0x2050, 0x09, 0x09, .u8, 1, .ro, false, .any⟩,
    ⟨0x2050, 0x0A, 0x0A, .octets, 32, .ro, false, .any⟩,
    ⟨0x2050, 0x0B, 0x0B, .u8, 1, .ro, false, .any⟩,
    ⟨0x2050, 0x0C, 0x0C, .u8, 1, .ro, false, .any⟩,
    ⟨0x2050, 0x0D, 0x0D, .bool, 1, .ro, false, .any⟩,
    ⟨0x2050, 0x0E, 0x0E, .u8, 1, .rw, false, .btw 1 128⟩,
    ⟨0x2050, 0x0F, 0x0F, .u8, 1, .ro, false, .any⟩,
    ⟨0x2050, 0x10, 0x10, .u32, 4, .ro, false, .counter⟩,
    ⟨0x2050, 0x11, 0x11, .u32, 4, .ro, false, .counter⟩,
    ⟨0x2050, 0x12, 0x12, .u8, 1, .ro, false, .any⟩,
    ⟨0x2050, 0x13, 0x13, .u32, 4, .ro, false, .counter⟩,
    ⟨0x2050, 0x14, 0x14, .u32, 4, .ro, false, .counter⟩,
    ⟨0x2050, 0x15, 0x15, .u32, 4, .ro, false, .counter⟩,
    ⟨0x2050, 0x16, 0x16, .u32, 4, .ro, false, .counter⟩,
    ⟨0x2050, 0x17, 0x17, .u32, 4, .ro, false, .counter⟩,
    ⟨0x2050, 0x18, 0x18, .u32, 4, .ro, false, .counter⟩,
    ⟨0x2050, 0x19, 0x19, .u16, 2, .rw, false, .btw 1 10000⟩,
    ⟨0x2050, 0x1A, 0x1A, .time64, 8, .ro, false, .any⟩,
    ⟨0x2050, 0x1B, 0x1B, .u8, 1, .ro, false, .any⟩ ]

/-- Table 7-15. -/
def rows4800 : List OdRow :=
  [ ⟨0x4800, 0x01, 0x01, .u8, 1, .ro, false, .any⟩,
    ⟨0x4800, 0x02, 0x02, .u8, 1, .ro, false, .any⟩,
    ⟨0x4800, 0x03, 0x03, .u16, 2, .rw, false, .btw 1 1000⟩,
    ⟨0x4800, 0x04, 0x04, .u16, 2, .rw, false, .btw 1 1000⟩,
    ⟨0x4800, 0x05, 0x05, .u32, 4, .ro, false, .counter⟩,
    ⟨0x4800, 0x06, 0x06, .u32, 4, .ro, false, .counter⟩,
    ⟨0x4800, 0x07, 0x07, .u32, 4, .ro, false, .counter⟩,
    ⟨0x4800, 0x08, 0x08, .u32, 4, .ro, false, .counter⟩,
    ⟨0x4800, 0x09, 0x09, .u32, 4, .ro, false, .counter⟩,
    ⟨0x4800, 0x0A, 0x0A, .u32, 4, .ro, false, .counter⟩,
    ⟨0x4800, 0x0B, 0x0B, .octets, 2048, .ro, false, .any⟩,
    ⟨0x4800, 0x0C, 0x0C, .u8, 1, .ro, false, .any⟩,
    ⟨0x4800, 0x0D, 0x0D, .u32, 4, .ro, false, .counter⟩,
    ⟨0x4800, 0x0E, 0x0E, .time64, 8, .ro, false, .any⟩,
    ⟨0x4800, 0x0F, 0x0F, .u8, 1, .ro, false, .any⟩,
    ⟨0x4800, 0x10, 0x10, .bool, 1, .rw, false, .btw 0 1⟩ ]

/-- Table 8-13. -/
def rows5000 : List OdRow :=
  [ ⟨0x5000, 0x01, 0x01, .u8, 1, .ro, false, .any⟩,
    ⟨0x5000, 0x02, 0x02, .u8, 1, .rwc, false, .btw 1 3⟩,
    ⟨0x5000, 0x03, 0x03, .u8, 1, .ro, false, .any⟩,
    ⟨0x5000, 0x04, 0x04, .u8, 1, .ro, false, .any⟩,
    ⟨0x5000, 0x05, 0x05, .u32, 4, .rw, false, .mask 24⟩,
    ⟨0x5000, 0x06, 0x06, .u8, 1, .rw, false, .btw 1 64⟩,
    ⟨0x5000, 0x07, 0x07, .u16, 2, .rw, false, .btw 0 65535⟩,
    ⟨0x5000, 0x08, 0x08, .u8, 1, .rw, false, .btw 1 15⟩,
    ⟨0x5000, 0x09, 0x09, .u16, 2, .ro, false, .any⟩,
    ⟨0x5000, 0x0A, 0x0A, .u16, 2, .ro, false, .any⟩,
    ⟨0x5000, 0x0B, 0x0B, .u64, 8, .ro, false, .counter⟩,
    ⟨0x5000, 0x0C, 0x0C, .u64, 8, .ro, false, .counter⟩,
    ⟨0x5000, 0x0D, 0x0D, .u32, 4, .ro, false, .counter⟩,
    ⟨0x5000, 0x0E, 0x0E, .u32, 4, .ro, false, .counter⟩,
    ⟨0x5000, 0x0F, 0x0F, .u32, 4, .ro, false, .counter⟩,
    ⟨0x5000, 0x10, 0x10, .u32, 4, .ro, false, .counter⟩,
    ⟨0x5000, 0x11, 0x11, .u32, 4, .ro, false, .counter⟩,
    ⟨0x5000, 0x12, 0x12, .u32, 4, .ro, false, .counter⟩,
    ⟨0x5000, 0x13, 0x13, .u32, 4, .ro, false, .counter⟩,
    ⟨0x5000, 0x14, 0x14, .u32, 4, .ro, false, .counter⟩,
    ⟨0x5000, 0x15, 0x15, .u32, 4, .ro, false, .counter⟩,
    ⟨0x5000, 0x16, 0x16, .u32, 4, .ro, false, .counter⟩,
    ⟨0x5000, 0x17, 0x17, .u32, 4, .ro, false, .counter⟩ ]

/-- Table 8-15. -/
def rows5400 : List OdRow :=
  [ ⟨0x5400, 0x01, 0x01, .time64, 8, .ro, false, .any⟩,
    ⟨0x5400, 0x02, 0x02, .u8, 1, .ro, false, .any⟩,
    ⟨0x5400, 0x03, 0x03, .i32, 4, .ro, false, .any⟩,
    ⟨0x5400, 0x04, 0x04, .i32, 4, .ro, false, .any⟩,
    ⟨0x5400, 0x05, 0x05, .u32, 4, .rw, true, .btw 1000 1000000⟩,
    ⟨0x5400, 0x06, 0x06, .u32, 4, .ro, false, .counter⟩,
    ⟨0x5400, 0x07, 0x07, .u64, 8, .ro, false, .any⟩,
    ⟨0x5400, 0x08, 0x08, .u16, 2, .rw, false, .btw 100 60000⟩,
    ⟨0x5400, 0x09, 0x09, .time64, 8, .rwc, true, .mult8⟩,
    ⟨0x5400, 0x0A, 0x0A, .i32, 4, .rw, true, .signed 200000⟩,
    ⟨0x5400, 0x0B, 0x0B, .u32, 4, .ro, false, .counter⟩,
    ⟨0x5400, 0x0C, 0x0C, .u32, 4, .ro, false, .counter⟩ ]

/-- Table 8-16. -/
def rows2060 : List OdRow :=
  [ ⟨0x2060, 0x01, 0x01, .u8, 1, .ro, false, .counter⟩,
    ⟨0x2060, 0x02, 0x02, .u32, 4, .ro, false, .counter⟩,
    ⟨0x2060, 0x03, 0x03, .u32, 4, .ro, false, .counter⟩,
    ⟨0x2060, 0x04, 0x04, .u32, 4, .ro, false, .counter⟩ ]

/-- Table 9-5. -/
def rows4000 : List OdRow :=
  [ ⟨0x4000, 0x01, 0x01, .bool, 1, .rw, false, .btw 0 1⟩,
    ⟨0x4000, 0x02, 0x02, .u16, 2, .rw, false, .btw 0 4096⟩,
    ⟨0x4000, 0x03, 0x03, .u16, 2, .rw, false, .btw 0 8192⟩,
    ⟨0x4000, 0x04, 0x04, .octets, 8, .rw, false, .any⟩,
    ⟨0x4000, 0x05, 0x05, .u16, 2, .rw, false, .btw 1 100⟩,
    ⟨0x4000, 0x06, 0x06, .u16, 2, .rw, false, .btw 0 10000⟩ ]

/-- Table 9-6. -/
def rows4100 : List OdRow :=
  [ ⟨0x4100, 0x01, 0x01, .u16, 2, .ro, false, .any⟩,
    ⟨0x4100, 0x02, 0x02, .u8, 1, .rw, false, .mask 2⟩,
    ⟨0x4100, 0x03, 0x03, .u16, 2, .ro, false, .any⟩,
    ⟨0x4100, 0x04, 0x04, .u16, 2, .ro, false, .any⟩,
    ⟨0x4100, 0x05, 0x05, .u16, 2, .ro, false, .counter⟩,
    ⟨0x4100, 0x06, 0x06, .u32, 4, .ro, false, .counter⟩,
    ⟨0x4100, 0x07, 0x07, .u32, 4, .ro, false, .counter⟩,
    ⟨0x4100, 0x08, 0x08, .octets, 48, .ro, false, .any⟩,
    ⟨0x4100, 0x09, 0x09, .u8, 1, .ro, false, .any⟩ ]

/-- Table 9-7. -/
def rows4200 : List OdRow :=
  [ ⟨0x4200, 0x01, 0x01, .u16, 2, .ro, false, .any⟩,
    ⟨0x4200, 0x02, 0x02, .u16, 2, .ro, false, .any⟩,
    ⟨0x4200, 0x03, 0x03, .u16, 2, .ro, false, .any⟩,
    ⟨0x4200, 0x04, 0x04, .u16, 2, .ro, false, .any⟩,
    ⟨0x4200, 0x05, 0x05, .u16, 2, .rw, false, .btw 17 24576⟩,
    ⟨0x4200, 0x06, 0x06, .u16, 2, .rw, false, .btw 17 24576⟩,
    ⟨0x4200, 0x07, 0x07, .u16, 2, .rw, false, .btw 17 24576⟩,
    ⟨0x4200, 0x08, 0x08, .u16, 2, .rw, false, .btw 17 24576⟩,
    ⟨0x4200, 0x09, 0x09, .u16, 2, .rw, false, .btw 0 24576⟩,
    ⟨0x4200, 0x0A, 0x0A, .u16, 2, .rw, false, .btw 0 24576⟩,
    ⟨0x4200, 0x0B, 0x0B, .u16, 2, .rw, false, .btw 0 24576⟩,
    ⟨0x4200, 0x0C, 0x0C, .u16, 2, .rw, false, .btw 0 24576⟩,
    ⟨0x4200, 0x0D, 0x0D, .u32, 4, .ro, false, .counter⟩,
    ⟨0x4200, 0x0E, 0x0E, .u32, 4, .ro, false, .counter⟩,
    ⟨0x4200, 0x0F, 0x0F, .u32, 4, .ro, false, .counter⟩,
    ⟨0x4200, 0x10, 0x10, .u16, 2, .ro, false, .counter⟩ ]

/-- Table 10-5. -/
def rows4300 : List OdRow :=
  [ ⟨0x4300, 0x01, 0x01, .u32, 4, .ro, false, .counter⟩,
    ⟨0x4300, 0x02, 0x02, .u32, 4, .ro, false, .counter⟩,
    ⟨0x4300, 0x03, 0x03, .u32, 4, .ro, false, .counter⟩,
    ⟨0x4300, 0x04, 0x04, .u32, 4, .ro, false, .counter⟩,
    ⟨0x4300, 0x05, 0x05, .u32, 4, .ro, false, .counter⟩,
    ⟨0x4300, 0x06, 0x06, .u32, 4, .ro, false, .counter⟩,
    ⟨0x4300, 0x07, 0x07, .u32, 4, .ro, false, .counter⟩,
    ⟨0x4300, 0x08, 0x08, .u32, 4, .ro, false, .counter⟩,
    ⟨0x4300, 0x09, 0x09, .u32, 4, .ro, false, .counter⟩,
    ⟨0x4300, 0x0A, 0x0A, .u32, 4, .ro, false, .counter⟩,
    ⟨0x4300, 0x0B, 0x0B, .u32, 4, .ro, false, .counter⟩,
    ⟨0x4300, 0x0C, 0x0C, .u32, 4, .ro, false, .counter⟩,
    ⟨0x4300, 0x0D, 0x0D, .u32, 4, .ro, false, .counter⟩,
    ⟨0x4300, 0x0E, 0x0E, .u32, 4, .ro, false, .counter⟩,
    ⟨0x4300, 0x0F, 0x0F, .u32, 4, .ro, false, .counter⟩,
    ⟨0x4300, 0x10, 0x10, .u64, 8, .ro, false, .counter⟩,
    ⟨0x4300, 0x11, 0x11, .u64, 8, .ro, false, .counter⟩,
    ⟨0x4300, 0x12, 0x12, .u64, 8, .ro, false, .counter⟩,
    ⟨0x4300, 0x13, 0x13, .u64, 8, .ro, false, .counter⟩,
    ⟨0x4300, 0x14, 0x14, .u32, 4, .ro, false, .counter⟩ ]

/-- Table 10-6. -/
def rows4010 : List OdRow :=
  [ ⟨0x4010, 0x01, 0x01, .bool, 1, .rwc, false, .btw 0 1⟩,
    ⟨0x4010, 0x02, 0x02, .u8, 1, .ro, false, .any⟩,
    ⟨0x4010, 0x03, 0x03, .u8, 1, .ro, false, .any⟩,
    ⟨0x4010, 0x04, 0x04, .u8, 1, .ro, false, .any⟩,
    ⟨0x4010, 0x05, 0x05, .u32, 4, .ro, false, .any⟩,
    ⟨0x4010, 0x06, 0x06, .u32, 4, .ro, false, .any⟩,
    ⟨0x4010, 0x07, 0x07, .time64, 8, .ro, false, .any⟩,
    ⟨0x4010, 0x08, 0x08, .time64, 8, .ro, false, .any⟩,
    ⟨0x4010, 0x09, 0x09, .u32, 4, .ro, false, .counter⟩,
    ⟨0x4010, 0x0A, 0x0A, .u16, 2, .ro, false, .any⟩,
    ⟨0x4010, 0x0B, 0x0B, .bool, 1, .rwc, false, .btw 0 1⟩,
    ⟨0x4010, 0x0C, 0x0C, .u32, 4, .ro, false, .any⟩,
    ⟨0x4010, 0x0D, 0x0D, .u32, 4, .ro, false, .any⟩ ]

/-- Table 10-7. -/
def rows4020 : List OdRow :=
  [ ⟨0x4020, 0x01, 0x01, .u8, 1, .rw, true, .btw 0 2⟩,
    ⟨0x4020, 0x02, 0x02, .u16, 2, .rw, false, .btw 1 65535⟩,
    ⟨0x4020, 0x03, 0x03, .u32, 4, .rw, true, .mask 20⟩,
    ⟨0x4020, 0x04, 0x04, .u8, 1, .rw, false, .mask 4⟩,
    ⟨0x4020, 0x05, 0x05, .u8, 1, .rw, false, .btw 0 1⟩,
    ⟨0x4020, 0x06, 0x06, .u32, 4, .rw, true, .mask 24⟩,
    ⟨0x4020, 0x07, 0x07, .u32, 4, .ro, false, .counter⟩,
    ⟨0x4020, 0x08, 0x08, .u32, 4, .ro, false, .counter⟩ ]

/-- Table 10-7. -/
def rows4021 : List OdRow :=
  [ ⟨0x4021, 0x01, 0x01, .u32, 4, .ro, false, .any⟩,
    ⟨0x4021, 0x02, 0x02, .u32, 4, .rw, false, .btw 0 4294967295⟩,
    ⟨0x4021, 0x03, 0x03, .octets, 1024, .ro, false, .any⟩,
    ⟨0x4021, 0x04, 0x04, .bool, 1, .rwc, false, .btw 0 1⟩ ]

/-- Table 10-7. -/
def rows4030 : List OdRow :=
  [ ⟨0x4030, 0x01, 0x01, .bool, 1, .rw, false, .btw 0 1⟩,
    ⟨0x4030, 0x02, 0x02, .u32, 4, .ro, false, .counter⟩,
    ⟨0x4030, 0x03, 0x03, .time64, 8, .ro, false, .any⟩,
    ⟨0x4030, 0x04, 0x04, .u16, 2, .ro, false, .any⟩,
    ⟨0x4030, 0x05, 0x05, .u32, 4, .ro, false, .counter⟩,
    ⟨0x4030, 0x06, 0x06, .u32, 4, .ro, false, .counter⟩ ]

/-- Table 11-11. -/
def rows9000 : List OdRow :=
  [ ⟨0x9000, 0x01, 0x01, .u8, 1, .rw, true, .btw 0 3⟩,
    ⟨0x9000, 0x02, 0x02, .u16, 2, .ro, false, .any⟩,
    ⟨0x9000, 0x03, 0x03, .bool, 1, .ro, false, .any⟩,
    ⟨0x9000, 0x04, 0x04, .u8, 1, .ro, false, .any⟩,
    ⟨0x9000, 0x05, 0x05, .u8, 1, .ro, false, .any⟩,
    ⟨0x9000, 0x06, 0x06, .octets, 8, .rwc, true, .any⟩,
    ⟨0x9000, 0x07, 0x07, .bool, 1, .rwc, true, .btw 0 1⟩,
    ⟨0x9000, 0x08, 0x08, .u16, 2, .ro, false, .any⟩,
    ⟨0x9000, 0x09, 0x09, .u8, 1, .ro, false, .any⟩,
    ⟨0x9000, 0x0A, 0x0A, .u8, 1, .ro, false, .any⟩,
    ⟨0x9000, 0x0B, 0x0B, .u32, 4, .ro, false, .counter⟩,
    ⟨0x9000, 0x0C, 0x0C, .time64, 8, .ro, false, .any⟩,
    ⟨0x9000, 0x0D, 0x0D, .u8, 1, .ro, false, .any⟩,
    ⟨0x9000, 0x10, 0x10, .u32, 4, .ro, false, .counter⟩,
    ⟨0x9000, 0x11, 0x11, .u32, 4, .ro, false, .counter⟩,
    ⟨0x9000, 0x12, 0x12, .u32, 4, .ro, false, .counter⟩,
    ⟨0x9000, 0x13, 0x13, .u32, 4, .ro, false, .counter⟩,
    ⟨0x9000, 0x14, 0x14, .u32, 4, .ro, false, .counter⟩,
    ⟨0x9000, 0x15, 0x15, .u32, 4, .ro, false, .counter⟩ ]

/-- Table 11-12. -/
def rows9100 : List OdRow :=
  [ ⟨0x9100, 0x01, 0x01, .u16, 2, .rw, true, .btw 0 65534⟩,
    ⟨0x9100, 0x02, 0x02, .u32, 4, .rw, true, .mask 18⟩,
    ⟨0x9100, 0x03, 0x03, .u8, 1, .ro, false, .any⟩,
    ⟨0x9100, 0x04, 0x04, .u16, 2, .ro, false, .any⟩,
    ⟨0x9100, 0x05, 0x05, .u16, 2, .ro, false, .any⟩,
    ⟨0x9100, 0x06, 0x06, .octets, 36, .rw, false, .any⟩,
    ⟨0x9100, 0x07, 0x07, .u32, 4, .ro, false, .counter⟩,
    ⟨0x9100, 0x08, 0x08, .u32, 4, .ro, false, .counter⟩,
    ⟨0x9100, 0x09, 0x09, .u32, 4, .ro, false, .counter⟩,
    ⟨0x9100, 0x0A, 0x0A, .u32, 4, .ro, false, .counter⟩,
    ⟨0x9100, 0x0B, 0x0B, .u32, 4, .ro, false, .counter⟩,
    ⟨0x9100, 0x0C, 0x0C, .u32, 4, .rw, true, .mask 24⟩,
    ⟨0x9100, 0x0D, 0x0D, .u32, 4, .ro, false, .counter⟩,
    ⟨0x9100, 0x0E, 0x0E, .octets, 72, .ro, false, .any⟩ ]

/-- Table 12-11. -/
def rowsF000 : List OdRow :=
  [ ⟨0xF000, 0x01, 0x01, .bool, 1, .rwc, false, .btw 0 1⟩,
    ⟨0xF000, 0x02, 0x02, .bool, 1, .rwc, true, .btw 0 1⟩,
    ⟨0xF000, 0x03, 0x03, .bool, 1, .rwc, true, .btw 0 1⟩,
    ⟨0xF000, 0x04, 0x04, .bool, 1, .rwc, true, .btw 0 1⟩ ]

/-- Table 12-14. -/
def rows1030 : List OdRow :=
  [ ⟨0x1030, 0x01, 0x01, .u8, 1, .ro, false, .any⟩,
    ⟨0x1030, 0x02, 0x02, .u16, 2, .rw, false, .btw 1 600⟩,
    ⟨0x1030, 0x03, 0x03, .u32, 4, .ro, false, .counter⟩,
    ⟨0x1030, 0x04, 0x04, .u32, 4, .ro, false, .counter⟩,
    ⟨0x1030, 0x05, 0x05, .u32, 4, .ro, false, .counter⟩,
    ⟨0x1030, 0x06, 0x06, .octets, 192, .ro, false, .any⟩,
    ⟨0x1030, 0x07, 0x07, .u32, 4, .ro, false, .counter⟩,
    ⟨0x1030, 0x08, 0x08, .u32, 4, .ro, false, .counter⟩,
    ⟨0x1030, 0x09, 0x09, .u32, 4, .ro, false, .counter⟩,
    ⟨0x1030, 0x10, 0x10, .bool, 1, .rw, true, .btw 0 1⟩,
    ⟨0x1030, 0x11, 0x11, .u32, 4, .ro, false, .counter⟩,
    ⟨0x1030, 0x12, 0x12, .u32, 4, .ro, false, .any⟩ ]

/-- Table 12-15. -/
def rows1040 : List OdRow :=
  [ ⟨0x1040, 0x01, 0x01, .u8, 1, .ro, false, .any⟩,
    ⟨0x1040, 0x02, 0x02, .u32, 4, .ro, false, .any⟩,
    ⟨0x1040, 0x03, 0x03, .u8, 1, .ro, false, .any⟩,
    ⟨0x1040, 0x04, 0x04, .u8, 1, .ro, false, .any⟩,
    ⟨0x1040, 0x05, 0x05, .u32, 4, .ro, false, .any⟩,
    ⟨0x1040, 0x06, 0x06, .u32, 4, .ro, false, .any⟩,
    ⟨0x1040, 0x07, 0x07, .u8, 1, .ro, false, .any⟩,
    ⟨0x1040, 0x08, 0x08, .u32, 4, .ro, false, .any⟩,
    ⟨0x1040, 0x09, 0x09, .u32, 4, .ro, false, .any⟩,
    ⟨0x1040, 0x0A, 0x0A, .time64, 8, .ro, false, .any⟩,
    ⟨0x1040, 0x0B, 0x0B, .u16, 2, .ro, false, .any⟩,
    ⟨0x1040, 0x0C, 0x0C, .u16, 2, .ro, false, .any⟩,
    ⟨0x1040, 0x0D, 0x0D, .u16, 2, .ro, false, .any⟩,
    ⟨0x1040, 0x0E, 0x0E, .u32, 4, .ro, false, .any⟩ ]

/-- Table 13-11. -/
def rowsA000 : List OdRow :=
  [ ⟨0xA000, 0x01, 0x01, .u32, 4, .ro, false, .any⟩,
    ⟨0xA000, 0x02, 0x02, .u8, 1, .rw, false, .mask 6⟩,
    ⟨0xA000, 0x03, 0x03, .u8, 1, .rw, false, .btw 4 15⟩,
    ⟨0xA000, 0x04, 0x04, .u16, 2, .rw, false, .btw 5 1024⟩,
    ⟨0xA000, 0x05, 0x05, .u16, 2, .ro, false, .any⟩,
    ⟨0xA000, 0x06, 0x06, .u16, 2, .ro, false, .any⟩,
    ⟨0xA000, 0x07, 0x07, .u16, 2, .ro, false, .any⟩,
    ⟨0xA000, 0x08, 0x08, .u16, 2, .ro, false, .any⟩,
    ⟨0xA000, 0x09, 0x09, .u16, 2, .ro, false, .any⟩,
    ⟨0xA000, 0x0A, 0x0A, .u16, 2, .ro, false, .any⟩,
    ⟨0xA000, 0x0B, 0x0B, .u16, 2, .ro, false, .any⟩,
    ⟨0xA000, 0x0C, 0x0C, .u16, 2, .ro, false, .any⟩,
    ⟨0xA000, 0x0D, 0x0D, .u32, 4, .ro, false, .counter⟩,
    ⟨0xA000, 0x0E, 0x0E, .u32, 4, .ro, false, .counter⟩,
    ⟨0xA000, 0x0F, 0x0F, .u32, 4, .ro, false, .counter⟩,
    ⟨0xA000, 0x10, 0x10, .u32, 4, .ro, false, .counter⟩,
    ⟨0xA000, 0x11, 0x11, .u32, 4, .ro, false, .counter⟩,
    ⟨0xA000, 0x12, 0x12, .u8, 1, .ro, false, .any⟩,
    ⟨0xA000, 0x13, 0x13, .u32, 4, .ro, false, .counter⟩,
    ⟨0xA000, 0x14, 0x14, .u32, 4, .ro, false, .counter⟩ ]

/-- Table 14-9. -/
def rows6000 : List OdRow :=
  [ ⟨0x6000, 0x01, 0x01, .octets, 32, .rwc, false, .any⟩,
    ⟨0x6000, 0x02, 0x02, .bool, 1, .rwc, false, .btw 0 1⟩,
    ⟨0x6000, 0x03, 0x03, .octets, 24, .ro, false, .any⟩,
    ⟨0x6000, 0x04, 0x04, .u32, 4, .ro, false, .any⟩,
    ⟨0x6000, 0x05, 0x05, .octets, 32, .rw, true, .any⟩,
    ⟨0x6000, 0x06, 0x06, .u8, 1, .ro, false, .any⟩,
    ⟨0x6000, 0x07, 0x07, .u8, 1, .ro, false, .any⟩,
    ⟨0x6000, 0x08, 0x08, .u32, 4, .ro, false, .counter⟩,
    ⟨0x6000, 0x09, 0x09, .u32, 4, .ro, false, .counter⟩,
    ⟨0x6000, 0x0A, 0x0A, .u32, 4, .ro, false, .counter⟩,
    ⟨0x6000, 0x0B, 0x0B, .u32, 4, .ro, false, .counter⟩,
    ⟨0x6000, 0x0C, 0x0C, .u32, 4, .ro, false, .counter⟩,
    ⟨0x6000, 0x0D, 0x0D, .u8, 1, .ro, false, .any⟩,
    ⟨0x6000, 0x0E, 0x0E, .u32, 4, .ro, false, .counter⟩,
    ⟨0x6000, 0x0F, 0x0F, .u32, 4, .ro, false, .counter⟩ ]

/-- Table 14-9. -/
def rows6020 : List OdRow :=
  [ ⟨0x6020, 0x01, 0x0C, .octets, 16, .ro, false, .any⟩ ]

/-- Table 15-11. -/
def rows7000 : List OdRow :=
  [ ⟨0x7000, 0x01, 0x01, .u8, 1, .ro, false, .any⟩,
    ⟨0x7000, 0x02, 0x02, .octets, 64, .ro, false, .any⟩,
    ⟨0x7000, 0x03, 0x03, .octets, 768, .ro, false, .any⟩,
    ⟨0x7000, 0x04, 0x04, .octets, 768, .ro, false, .any⟩,
    ⟨0x7000, 0x05, 0x05, .octets, 32, .ro, false, .any⟩,
    ⟨0x7000, 0x06, 0x06, .octets, 32, .ro, false, .any⟩,
    ⟨0x7000, 0x07, 0x07, .octets, 32, .rwc, false, .any⟩,
    ⟨0x7000, 0x08, 0x08, .octets, 200, .ro, false, .any⟩,
    ⟨0x7000, 0x09, 0x09, .octets, 16, .ro, false, .any⟩,
    ⟨0x7000, 0x0A, 0x0A, .octets, 128, .rwc, false, .any⟩,
    ⟨0x7000, 0x0B, 0x0B, .u8, 1, .ro, false, .any⟩,
    ⟨0x7000, 0x0C, 0x0C, .octets, 36, .rwc, true, .any⟩,
    ⟨0x7000, 0x0D, 0x0D, .u32, 4, .rw, true, .btw 60 604800⟩,
    ⟨0x7000, 0x0E, 0x0E, .time64, 8, .ro, false, .any⟩,
    ⟨0x7000, 0x0F, 0x0F, .octets, 32, .ro, false, .any⟩,
    ⟨0x7000, 0x10, 0x10, .bool, 1, .rwc, true, .btw 0 1⟩ ]

/-- Table 15-12. -/
def rows7010 : List OdRow :=
  [ ⟨0x7010, 0x01, 0x0C, .octets, 36, .ro, false, .any⟩,
    ⟨0x7010, 0x0D, 0x0D, .octets, 68, .rwc, true, .any⟩,
    ⟨0x7010, 0x0E, 0x0E, .u8, 1, .ro, false, .any⟩ ]

/-- Table 15-12. -/
def rows7020 : List OdRow :=
  [ ⟨0x7020, 0x01, 0x01, .octets, 16, .ro, false, .any⟩,
    ⟨0x7020, 0x02, 0x02, .octets, 212, .rwc, false, .any⟩,
    ⟨0x7020, 0x03, 0x03, .u16, 2, .rwc, false, .btw 0 65535⟩,
    ⟨0x7020, 0x04, 0x04, .u16, 2, .rw, true, .btw 10 3600⟩,
    ⟨0x7020, 0x05, 0x05, .u8, 1, .ro, false, .any⟩,
    ⟨0x7020, 0x06, 0x06, .u32, 4, .ro, false, .counter⟩,
    ⟨0x7020, 0x07, 0x07, .u32, 4, .ro, false, .counter⟩,
    ⟨0x7020, 0x11, 0x18, .octets, 188, .ro, false, .any⟩ ]

/-- Table 15-13. -/
def rows7030 : List OdRow :=
  [ ⟨0x7030, 0x01, 0x01, .u32, 4, .ro, false, .any⟩,
    ⟨0x7030, 0x02, 0x02, .u8, 1, .ro, false, .any⟩,
    ⟨0x7030, 0x03, 0x03, .u8, 1, .ro, false, .any⟩,
    ⟨0x7030, 0x04, 0x04, .u8, 1, .ro, false, .any⟩,
    ⟨0x7030, 0x05, 0x05, .u8, 1, .ro, false, .any⟩,
    ⟨0x7030, 0x06, 0x06, .octets, 32, .ro, false, .any⟩,
    ⟨0x7030, 0x07, 0x07, .bool, 1, .rw, true, .btw 0 1⟩,
    ⟨0x7030, 0x08, 0x08, .u32, 4, .rw, true, .step 0 523776 512⟩,
    ⟨0x7030, 0x09, 0x09, .octets, 512, .rwc, true, .any⟩,
    ⟨0x7030, 0x0A, 0x0A, .u8, 1, .rwc, true, .btw 1 4⟩,
    ⟨0x7030, 0x0B, 0x0B, .u8, 1, .ro, false, .any⟩,
    ⟨0x7030, 0x0C, 0x0C, .u32, 4, .ro, false, .counter⟩,
    ⟨0x7030, 0x0D, 0x0D, .u8, 1, .ro, false, .any⟩ ]

/-- Table 15-13. -/
def rows7040 : List OdRow :=
  [ ⟨0x7040, 0x01, 0x01, .octets, 148, .rwc, false, .any⟩,
    ⟨0x7040, 0x02, 0x02, .octets, 148, .ro, false, .any⟩,
    ⟨0x7040, 0x03, 0x03, .u8, 1, .rw, true, .btw 0 2⟩,
    ⟨0x7040, 0x04, 0x04, .u32, 4, .rw, false, .btw 600 604800⟩,
    ⟨0x7040, 0x05, 0x05, .u8, 1, .ro, false, .any⟩,
    ⟨0x7040, 0x06, 0x06, .u8, 1, .ro, false, .any⟩,
    ⟨0x7040, 0x07, 0x07, .u32, 4, .ro, false, .counter⟩,
    ⟨0x7040, 0x08, 0x08, .u32, 4, .ro, false, .counter⟩,
    ⟨0x7040, 0x09, 0x09, .u32, 4, .ro, false, .counter⟩,
    ⟨0x7040, 0x0A, 0x0A, .u32, 4, .ro, false, .counter⟩ ]

/-- Table 16-10. -/
def rows8000 : List OdRow :=
  [ ⟨0x8000, 0x01, 0x01, .u32, 4, .ro, false, .any⟩,
    ⟨0x8000, 0x02, 0x02, .u32, 4, .rw, false, .btw 0 4294967295⟩,
    ⟨0x8000, 0x03, 0x03, .octets, 256, .ro, false, .any⟩,
    ⟨0x8000, 0x04, 0x04, .octets, 8, .rwc, false, .any⟩,
    ⟨0x8000, 0x05, 0x05, .u8, 1, .ro, false, .any⟩,
    ⟨0x8000, 0x06, 0x06, .bool, 1, .rwc, false, .btw 0 1⟩,
    ⟨0x8000, 0x07, 0x07, .u8, 1, .ro, false, .any⟩,
    ⟨0x8000, 0x08, 0x08, .u32, 4, .rw, true, .btw 0 4294967295⟩,
    ⟨0x8000, 0x09, 0x09, .u16, 2, .rw, false, .btw 2 1000⟩,
    ⟨0x8000, 0x0A, 0x0A, .u16, 2, .rw, false, .btw 10 10000⟩,
    ⟨0x8000, 0x0B, 0x0B, .u16, 2, .rw, false, .btw 0 3600⟩,
    ⟨0x8000, 0x0C, 0x0C, .u16, 2, .ro, false, .any⟩,
    ⟨0x8000, 0x0D, 0x0D, .u16, 2, .ro, false, .any⟩,
    ⟨0x8000, 0x0E, 0x0E, .u32, 4, .ro, false, .counter⟩,
    ⟨0x8000, 0x0F, 0x0F, .u32, 4, .ro, false, .counter⟩,
    ⟨0x8000, 0x10, 0x10, .u32, 4, .ro, false, .counter⟩,
    ⟨0x8000, 0x11, 0x11, .u32, 4, .ro, false, .counter⟩,
    ⟨0x8000, 0x12, 0x12, .u8, 1, .ro, false, .any⟩,
    ⟨0x8000, 0x13, 0x13, .u32, 4, .ro, false, .counter⟩,
    ⟨0x8000, 0x14, 0x14, .i16, 2, .ro, false, .any⟩,
    ⟨0x8000, 0x15, 0x15, .i16, 2, .ro, false, .any⟩,
    ⟨0x8000, 0x16, 0x16, .i16, 2, .rw, true, .btw 700 1500⟩,
    ⟨0x8000, 0x17, 0x17, .i16, 2, .rw, true, .btw 700 1500⟩,
    ⟨0x8000, 0x18, 0x18, .u16, 2, .rw, true, .btw 1700 3400⟩,
    ⟨0x8000, 0x19, 0x19, .u16, 2, .rw, true, .btw 8000 58000⟩,
    ⟨0x8000, 0x1A, 0x1A, .octets, 16, .rw, true, .any⟩,
    ⟨0x8000, 0x1B, 0x1B, .time64, 8, .ro, false, .any⟩ ]

/-- Table 16-11. -/
def rows8010 : List OdRow :=
  [ ⟨0x8010, 0x01, 0x0A, .u32, 4, .ro, false, .any⟩ ]

/-- Table 16-11. -/
def rows8020 : List OdRow :=
  [ ⟨0x8020, 0x01, 0x0A, .u8, 1, .rw, true, .btw 0 5⟩ ]

/-- Table 16-14. -/
def rows8200 : List OdRow :=
  [ ⟨0x8200, 0x01, 0x01, .octets, 96, .ro, false, .any⟩,
    ⟨0x8200, 0x02, 0x02, .octets, 256, .ro, false, .any⟩,
    ⟨0x8200, 0x03, 0x03, .u8, 1, .ro, false, .any⟩,
    ⟨0x8200, 0x04, 0x04, .u32, 4, .ro, false, .counter⟩,
    ⟨0x8200, 0x05, 0x05, .u32, 4, .ro, false, .counter⟩,
    ⟨0x8200, 0x06, 0x06, .u32, 4, .ro, false, .counter⟩,
    ⟨0x8200, 0x07, 0x07, .u32, 4, .ro, false, .counter⟩,
    ⟨0x8200, 0x08, 0x08, .u32, 4, .ro, false, .counter⟩,
    ⟨0x8200, 0x09, 0x09, .u32, 4, .ro, false, .counter⟩,
    ⟨0x8200, 0x0A, 0x0A, .u32, 4, .ro, false, .counter⟩,
    ⟨0x8200, 0x0B, 0x0B, .u32, 4, .ro, false, .counter⟩,
    ⟨0x8200, 0x0C, 0x0C, .u32, 4, .ro, false, .counter⟩,
    ⟨0x8200, 0x0D, 0x0D, .u8, 1, .ro, false, .any⟩ ]

/-- Table 17-7. -/
def rows1050 : List OdRow :=
  [ ⟨0x1050, 0x01, 0x01, .u8, 1, .ro, false, .any⟩,
    ⟨0x1050, 0x02, 0x02, .u8, 1, .ro, false, .any⟩,
    ⟨0x1050, 0x03, 0x03, .u32, 4, .ro, false, .any⟩,
    ⟨0x1050, 0x04, 0x04, .u32, 4, .ro, false, .any⟩,
    ⟨0x1050, 0x05, 0x05, .u16, 2, .ro, false, .any⟩,
    ⟨0x1050, 0x06, 0x06, .time64, 8, .ro, false, .any⟩,
    ⟨0x1050, 0x07, 0x07, .u32, 4, .ro, false, .counter⟩,
    ⟨0x1050, 0x08, 0x08, .time64, 8, .ro, false, .any⟩,
    ⟨0x1050, 0x09, 0x09, .u32, 4, .ro, false, .counter⟩ ]

/-- Table 20-4. -/
def rows1000 : List OdRow :=
  [ ⟨0x1000, 0x01, 0x01, .u16, 2, .ro, false, .any⟩,
    ⟨0x1000, 0x02, 0x02, .u8, 1, .ro, false, .any⟩,
    ⟨0x1000, 0x03, 0x03, .u8, 1, .ro, false, .any⟩,
    ⟨0x1000, 0x04, 0x04, .u16, 2, .ro, false, .any⟩,
    ⟨0x1000, 0x05, 0x05, .octets, 8, .ro, false, .any⟩,
    ⟨0x1000, 0x06, 0x06, .u16, 2, .ro, false, .any⟩,
    ⟨0x1000, 0x07, 0x07, .str, 32, .rw, false, .any⟩ ]

/-- Rows whose index is sub-ranged: tables, poll table and states, device table, source configuration, reach sets,
fabric map, views (R309, R311, R229, R249, R275, R487, R349, R346, R548). -/
def rowsRanged : List OdRow :=
  [ ⟨0x4022, 0x01, 0x80, .octets, 1024, .ro, false, .any⟩,
    ⟨0x4400, 0x01, 0x80, .u32, 4, .rw, false, .any⟩,
    ⟨0x4500, 0x01, 0x80, .u32, 4, .rw, false, .any⟩,
    ⟨0x4600, 0x01, 0x80, .u32, 4, .rw, false, .mask 20⟩,
    ⟨0x4900, 0x01, 0xFE, .octets, 8, .ro, false, .any⟩,
    ⟨0x5100, 0x01, 0x80, .octets, 32, .rw, false, .any⟩,
    ⟨0x5200, 0x01, 0x80, .octets, 32, .ro, false, .any⟩,
    ⟨0x8001, 0x01, 0x10, .octets, 1024, .ro, false, .any⟩,
    ⟨0x9020, 0x01, 0x12, .octets, 256, .ro, false, .any⟩,
    ⟨0x9200, 0x01, 0xFE, .u32, 4, .rw, true, .any⟩ ]

/-- The template index of an index: port blocks of D0 to D15, UA and UB fold onto 0x20x0, the queue and counter blocks
onto 0x4200 and 0x4300, and the tables onto their first index (Table 20-1, Table 20-5). -/
def normIndex (idx : Nat) : Nat :=
  if 0x2000 ≤ idx ∧ idx < 0x3200 then
    if idx % 256 ≤ 0x60 then 0x2000 + idx % 256 else 0
  else if 0x4200 ≤ idx ∧ idx ≤ 0x4213 then 0x4200
  else if 0x4300 ≤ idx ∧ idx ≤ 0x4313 then 0x4300
  else if 0x4400 ≤ idx ∧ idx ≤ 0x441F then 0x4400
  else if 0x4500 ≤ idx ∧ idx ≤ 0x450F then 0x4500
  else if 0x4600 ≤ idx ∧ idx ≤ 0x4603 then 0x4600
  else if 0x5100 ≤ idx ∧ idx ≤ 0x511F then 0x5100
  else if 0x5200 ≤ idx ∧ idx ≤ 0x521F then 0x5200
  else idx

/-- The port of a port-block index: 0 to 15 for D0 to D15, 16 for UA, 17 for UB. -/
def indexPort (idx : Nat) : Nat := (idx - 0x2000) / 256

/-- A port-block index of a trunk. -/
def indexIsTrunk (idx : Nat) : Bool := decide (0x3000 ≤ idx ∧ idx < 0x3200)

/-- The rows of an area, by template index. -/
def areaRows (n : Nat) : List OdRow :=
  if n = 0x2020 then rows2020
  else if n = 0x2000 then rows2000
  else if n = 0x2030 then rows2030
  else if n = 0x3800 then rows3800
  else if n = 0x2040 then rows2040
  else if n = 0x3810 then rows3810
  else if n = 0x6100 then rows6100
  else if n = 0x2010 then rows2010
  else if n = 0x1020 then rows1020
  else if n = 0x2050 then rows2050
  else if n = 0x4800 then rows4800
  else if n = 0x5000 then rows5000
  else if n = 0x5400 then rows5400
  else if n = 0x2060 then rows2060
  else if n = 0x4000 then rows4000
  else if n = 0x4100 then rows4100
  else if n = 0x4200 then rows4200
  else if n = 0x4300 then rows4300
  else if n = 0x4010 then rows4010
  else if n = 0x4020 then rows4020
  else if n = 0x4021 then rows4021
  else if n = 0x4030 then rows4030
  else if n = 0x9000 then rows9000
  else if n = 0x9100 then rows9100
  else if n = 0xF000 then rowsF000
  else if n = 0x1030 then rows1030
  else if n = 0x1040 then rows1040
  else if n = 0xA000 then rowsA000
  else if n = 0x6000 then rows6000
  else if n = 0x6020 then rows6020
  else if n = 0x7000 then rows7000
  else if n = 0x7010 then rows7010
  else if n = 0x7020 then rows7020
  else if n = 0x7030 then rows7030
  else if n = 0x7040 then rows7040
  else if n = 0x8000 then rows8000
  else if n = 0x8010 then rows8010
  else if n = 0x8020 then rows8020
  else if n = 0x8200 then rows8200
  else if n = 0x1050 then rows1050
  else if n = 0x1000 then rows1000
  else rowsRanged

/-- The row of a source configuration (R487): subindices that Table 16-1 does not list do not exist. -/
def sourceIds : List Nat :=
  [0x01, 0x02, 0x03, 0x04, 0x05, 0x06, 0x07, 0x08, 0x11, 0x12, 0x13, 0x21, 0x22, 0x23, 0x24, 0x25, 0x31, 0x32, 0x41, 0x42,
   0x43, 0x51, 0x52, 0x61, 0x62, 0x63, 0x71, 0x72, 0x73, 0x74, 0x81, 0x82, 0x83, 0x91, 0x92, 0x93, 0x94, 0xA1, 0xA2, 0xA3]

/-- The entries that a trunk instance fixes at 0 with access RO (Table 20-3): SLEW_RATE, LOAD_CAP, ALT_SERIAL_TERM,
ALT_SERIAL_GAP. -/
def trunkFixed (idx sub : Nat) : Bool :=
  indexIsTrunk idx && idx % 256 == 0x30 && [0x08, 0x09, 0x0E, 0x0F].contains sub

/-- The blocks a trunk does not carry (Table 20-2). -/
def trunkAbsent (idx : Nat) : Bool := indexIsTrunk idx && [0x20, 0x40, 0x60].contains (idx % 256)

/-- The map's row of an entry, or none where the entry does not exist (R351, R537). Subindex 0 is not covered here. -/
def odRow (idx sub : Nat) : Option OdRow :=
  if sub = 0 ∨ trunkAbsent idx then none
  else if idx = 0x8100 then
    if sourceIds.contains sub then some ⟨0x8100, sub, sub, .u16, 2, .rwc, true, .any⟩ else none
  else
    (((areaRows (normIndex idx)).find? (fun r => r.idx = normIndex idx && r.sub ≤ sub && sub ≤ r.subHi)).map
      (fun r => if trunkFixed idx sub then { r with acc := .ro, range := .any } else r))

/-- An index exists. -/
def odIndexExists (idx : Nat) : Bool :=
  idx = 0x8100 ||
    (!trunkAbsent idx && (areaRows (normIndex idx)).any (fun r => r.idx = normIndex idx))

/-- HIGHEST_SUB of an index (R351, R547). -/
def highestSub (idx : Nat) : Nat :=
  if idx = 0x8100 then 0xA3
  else ((areaRows (normIndex idx)).filter (fun r => r.idx = normIndex idx)).foldl (fun m r => max m r.subHi) 0

/-- Defaults that are not 0, by template key (the tables' Default column). -/
def odDefaults : List (Nat × Nat) :=
  [ (0x100001, 5760),
    (0x100002, 176),
    (0x100004, 22945),
    (0x100006, 1),
    (0x103002, 10),
    (0x103010, 1),
    (0x104003, 1),
    (0x104004, 1),
    (0x105001, 1),
    (0x200012, 100),
    (0x200013, 8),
    (0x200014, 60),
    (0x201004, 3),
    (0x202005, 4294967295),
    (0x202006, 4294967295),
    (0x202008, 4294967295),
    (0x202009, 4294967295),
    (0x20200A, 4294967295),
    (0x20200B, 4294967295),
    (0x20200C, 4294967295),
    (0x202011, 30),
    (0x202012, 1000000),
    (0x202013, 100000),
    (0x202019, 660),
    (0x20201B, 1),
    (0x20201D, 10),
    (0x203008, 20),
    (0x203009, 100),
    (0x20300B, 1),
    (0x20300E, 1),
    (0x20300F, 35),
    (0x20301B, 4294967295),
    (0x204005, 3),
    (0x204006, 5),
    (0x204007, 1000),
    (0x205005, 8),
    (0x205006, 1),
    (0x20500E, 16),
    (0x205019, 100),
    (0x380003, 0x2000000f1001000b),
    (0x380004, 150),
    (0x380005, 200),
    (0x380006, 200),
    (0x381006, 15),
    (0x400001, 1),
    (0x400002, 512),
    (0x400003, 1024),
    (0x400004, 0x22008800440022),
    (0x400005, 2),
    (0x400006, 100),
    (0x401004, 255),
    (0x402002, 1024),
    (0x402004, 15),
    (0x402006, 3),
    (0x403001, 1),
    (0x410001, 24576),
    (0x410002, 3),
    (0x410003, 12288),
    (0x410004, 12288),
    (0x410005, 24576),
    (0x410008, 0x31302f2e2d2c2b2a292827262524232221201f1e1d1c1b1a17161514131211100f0e0d0c0b0a09080706050403020100),
    (0x410009, 15),
    (0x420005, 256),
    (0x420006, 2048),
    (0x420007, 4096),
    (0x420008, 512),
    (0x42000A, 1024),
    (0x42000B, 2048),
    (0x480001, 128),
    (0x480002, 128),
    (0x480003, 20),
    (0x480004, 20),
    (0x480010, 1),
    (0x500005, 2),
    (0x500006, 8),
    (0x500008, 2),
    (0x540002, 1),
    (0x540005, 10000),
    (0x540008, 1000),
    (0x610001, 20000),
    (0x610002, 2048),
    (0x610004, 20000),
    (0x610005, 2048),
    (0x610007, 2000),
    (0x610008, 1024),
    (0x61000F, 1),
    (0x70000D, 3600),
    (0x702004, 600),
    (0x704003, 2),
    (0x704004, 86400),
    (0x800009, 16),
    (0x80000A, 100),
    (0x80000B, 60),
    (0x800018, 1750),
    (0x800019, 8500),
    (0x900009, 255),
    (0x90000A, 255),
    (0x910006, 0xa000a000a000a000a000a000a000a000a000a000a000a000a000a000a000a000a000a),
    (0xA00001, 2064),
    (0xA00002, 47),
    (0xA00003, 8),
    (0xA00004, 261),
    (0xA00008, 1024) ]

/-- The default levels of Table 16-1 that are not L1: (source, level). -/
def sourceLevels : List (Nat × Nat) :=
  [(0x01, 0), (0x03, 0), (0x04, 2), (0x07, 0), (0x52, 2), (0x82, 4), (0x94, 4)]

/-- The default level of a source (Table 16-1). -/
def sourceDefault (id : Nat) : Nat := (sourceLevels.lookup id).getD 1

/-- The default escalation ceilings (Table 16-12), class 0 first. -/
def ceilings : List Nat := [1, 2, 1, 1, 1, 2, 1, 1, 4, 1]

/-- The value an entry holds while nothing has been written to it since reset: its default, resolved for the instance
and the variant (R21, R544), or the value set at manufacture where the default column reads "—". -/
def odDefault (k : Nat) : Nat :=
  if 0x1000000 ≤ k then 0 else
  let idx := k / 256
  let sub := k % 256
  if indexIsTrunk idx then
    if trunkFixed idx sub then 0
    else if idx % 256 = 0x00 ∧ (sub = 0x10 ∨ sub = 0x11) then 3
    else if idx % 256 = 0x10 ∧ sub = 0x04 then 4
    else (odDefaults.lookup (normIndex idx * 256 + sub)).getD 0
  else if idx = 0x8100 then sourceDefault sub
  else if idx = 0x8020 then ceilings.getD (sub - 1) 0
  else if idx = 0x4900 then 0xFF
  else if normIndex idx = 0x5200 then 0xFF
  else if k = Od.TEMP_GRADE then Config.tempGrade
  else if k = Od.THERM_WARN then (if Config.tempGrade = 0 then 1100 else 1250)
  else if k = Od.THERM_CRIT then (if Config.tempGrade = 0 then 1250 else 1400)
  else if k = Od.SERIAL then Config.serial % 256 ^ 8
  else if k = Od.DEVICE_CERT then Config.deviceCert % 256 ^ 768
  else if k = Od.CA_CERT then Config.caCert % 256 ^ 768
  else if k = Od.FW_ROOT_HASH then Config.fwRootHash % 256 ^ 32
  else if k = Od.MIN_SVN then Config.minSvn % 256 ^ 4
  else if k = Od.ID_ROOT_HASH then Config.idRootHash % 256 ^ 32
  else (odDefaults.lookup (normIndex idx * 256 + sub)).getD 0

/-- The SAVED flag (R540). -/
def odSaved (idx sub : Nat) (r : OdRow) : Bool :=
  if idx = 0x8100 then true
  else r.acc == .rw && !(decide (0x4400 ≤ idx ∧ idx ≤ 0x4603)) && !(decide (0x5100 ≤ idx ∧ idx ≤ 0x511F))
    && !([(0x8000, 0x02), (0x4021, 0x02), (0x7030, 0x08), (0x6000, 0x05), (0x8000, 0x08), (0x7030, 0x07)].contains (idx, sub))

/-- The COUNTER flag (R542). -/
def odCounter (r : OdRow) : Bool := r.range == .counter

/-- The NO_STAGE flag (R367, R543). -/
def odNoStage (idx sub : Nat) : Bool :=
  idx == 0xF000 || [(0x9000, 0x06), (0x9000, 0x07), (0x7020, 0x02), (0x7000, 0x0A), (0x7000, 0x07), (0x7040, 0x01)].contains (idx, sub)

/-- The WINDOWED flag (R541, Table 20-5). -/
def odWindowed (idx sub : Nat) : Bool :=
  if 0x2000 ≤ idx ∧ idx < 0x3200 then !(idx % 256 == 0x30 && sub == 0x10)
  else if idx = 0x1030 then [0x10, 0x11, 0x12].contains sub
  else if idx = 0x4010 then !([0x01, 0x0B].contains sub)
  else if idx = 0x4021 then sub == 0x01
  else if idx = 0x8000 then sub != 0x03
  else if idx = 0x9000 then [0x02, 0x03, 0x04, 0x05, 0x09, 0x0A].contains sub
  else if decide (0x4200 ≤ idx ∧ idx ≤ 0x4213) || decide (0x4300 ≤ idx ∧ idx ≤ 0x4313)
    || decide (0x5100 ≤ idx ∧ idx ≤ 0x511F) || decide (0x5200 ≤ idx ∧ idx ≤ 0x521F) then true
  else [0x1000, 0x1020, 0x1050, 0x3800, 0x3810, 0x4000, 0x4022, 0x4100, 0x4800, 0x4900, 0x5000, 0x5400, 0x6000, 0x6020,
        0x6100, 0x8001, 0x8010, 0x8020, 0x8100, 0x8200, 0xA000].contains idx

/-- The index as a whole is windowed, for its HIGHEST_SUB entry (R549). -/
def odIndexWindowed (idx : Nat) : Bool := odWindowed idx 0x01 || odWindowed idx 0x02 || odWindowed idx 0x10

/-- The RIGHTS byte of Table 12-4 (R538): 1 Owner only, 3 Owner and Operator, 0 nobody. -/
def odRights (r : OdRow) : Nat :=
  if odCounter r then 3 else if r.acc == .ro then 0 else if r.ownerOnly then 1 else 3

/-- The domain that holds an entry beyond its path's own needs, or 0 for none (R553, Table 12-16). -/
def odDomain (idx sub : Nat) : Nat :=
  if 0x2000 ≤ idx ∧ idx < 0x3200 then
    if idx % 256 = 0x10 then (if indexIsTrunk idx then 6 else 7 + indexPort idx / 4)
    else if idx % 256 = 0x60 then 5 else 0
  else if 0x5000 ≤ idx ∧ idx ≤ 0x54FF then 5
  else if (0x4000 ≤ idx ∧ idx ≤ 0x4613) ∨ (idx = 0x4800 ∧ sub ≤ 0x0B) ∨ idx = 0x9020 then 2
  else if 0x7000 ≤ idx ∧ idx ≤ 0x70FF then 11
  else if idx = 0xA000 then 12
  else 0

/-- A value fits a row's range; the entry's own rule (a layout, or a bound that is another entry) is judged apart. -/
def odInRange (r : OdRow) (v : Nat) : Bool :=
  match r.range with
  | .any => true
  | .btw lo hi => decide (lo ≤ v ∧ v ≤ hi)
  | .step lo hi st => decide (lo ≤ v ∧ v ≤ hi ∧ v % st = 0)
  | .zeroOrStep lo hi st => v == 0 || decide (lo ≤ v ∧ v ≤ hi ∧ v % st = 0)
  | .mask _ => true
  | .signed m => decide (-(m : Int) ≤ toSigned (8 * r.size) v ∧ toSigned (8 * r.size) v ≤ m)
  | .mult8 => v % 8 == 0
  | .counter => v == 0

/-- The bits that the layout of an entry of several fields defines: Tables 10-2, 11-5, 14-3, 4-13, 16-13 and 15-9, R336, R346, R436, R437,
R441, R473. -/
def definedBits (idx sub : Nat) : Option Nat :=
  if idx = 0x4400 ∨ idx = 0x4500 then some 0xE00FFFFF
  else if idx = 0x9200 then some 0x80FFFFFF
  else if idx = 0x8100 then some 0x0087
  else if idx = 0x9000 ∧ sub = 6 then some 0x00000FFF00FF0FFF
  else if idx = 0x6000 ∧ (sub = 1 ∨ sub = 5) then some (2 ^ 256 - 1 - 0xFFFFFC0000000000)
  else if idx = 0x2030 ∧ sub = 0x10 then some (2 ^ 320 - 1 - 0xFC0000 - 0xFFFFFF * 2 ^ 72)
  else if idx = 0x8000 ∧ sub = 4 then some 0xFFFFFFFF000000FF
  else if idx = 0x7000 ∧ sub = 0x0C then some (2 ^ 257 - 1)
  else if idx = 0x7010 ∧ sub = 0x0D then some (2 ^ 544 - 1 - 0xFFFF0000)
  else if idx = 0x7020 ∧ sub = 2 then some (2 ^ 1696 - 1 - 0xFFFFFF00)
  else if idx = 0x7040 ∧ sub = 1 then some (2 ^ 1184 - 1 - 0xFFFFFF00)
  else none

/-- The value a write leaves in an entry: reserved bits are ignored and read 0 (R12). -/
def odStore (r : OdRow) (v : Nat) : Nat :=
  match r.range with
  | .mask n => v % 2 ^ n
  | _ => match definedBits r.idx r.sub with | some m => v &&& m | none => v

end Sys2Proof.Machine
end

