-- ==== Sys2Proof/Machine/Regs.lean ====
section
/-!
DEFINITION. Sys2Proof/Machine/Regs.lean: the addresses of the internal registers, the scalar state that the spec gives the
hub beside the dictionary. They live in the same cell store as the dictionary's entries, above every dictionary key
(2^24 and up), so that one read and one write serve both. A timer register (namespace Tm) holds 0 while the timer is
stopped, and otherwise its deadline in nanoseconds plus 1; a register that may hold "none" holds 0 for none and its
value plus 1 otherwise. All hold 0 at reset.
-/
namespace Sys2Proof.Machine

/-- The key of internal register i, element a. -/
abbrev rkey (i a : Nat) : Nat := 0x1000000 * (i + 1) + a

/-- LOG_SEQ of the last record queued to EVQ (R400, R463). -/
abbrev Reg.evqQueued : Nat := rkey 0 0
/-- LOG_SEQ of the last record whose EOP word the host consumed (R400). -/
abbrev Reg.evqDelivered : Nat := rkey 1 0
/-- LOG_SEQ of the last record dealt with for the manager (R463). -/
abbrev Reg.mgrSent : Nat := rkey 2 0
/-- The stamp at which the real-time counter last started at 0 (R490). -/
abbrev Reg.rtcStart : Nat := rkey 3 0
/-- The timebase's value at Reg.tbAt (R18, R271). -/
abbrev Reg.tbBase : Nat := rkey 4 0
/-- The instant at which Reg.tbBase was taken. -/
abbrev Reg.tbAt : Nat := rkey 5 0
/-- The number of free values used so far (log entry 2). -/
abbrev Reg.freeNext : Nat := rkey 6 0
/-- Fraction of the budget recovery carried to the next tick, in 1/1024 mA·ms, per supply (R153). -/
abbrev Reg.fracAcc (p : Nat) : Nat := rkey 7 p
/-- 1 while the discharge path of Dn is enabled (R148). -/
abbrev Reg.discharge (p : Nat) : Nat := rkey 8 p
/-- 1 while a POWER_CMD OFF waits for the port to reach OFF (R149). -/
abbrev Reg.offPending (p : Nat) : Nat := rkey 9 p
/-- Instant plus 1 at which active limiting began (R144). -/
abbrev Reg.limiting (p : Nat) : Nat := rkey 10 p
/-- 1 while the trip-location trace of R60 is owed. -/
abbrev Reg.tripTrace (p : Nat) : Nat := rkey 11 p
/-- The rail that powers Dn: 0 RAIL_A, 1 RAIL_B (R117, R141). -/
abbrev Reg.rail (p : Nat) : Nat := rkey 12 p
/-- RETRY_HOLDOFF (R147). -/
abbrev Tm.holdoff (p : Nat) : Nat := rkey 13 p
/-- tDischargeMax (R148). -/
abbrev Tm.discharge (p : Nat) : Nat := rkey 14 p
/-- Transmit MSG_ID of port p for DEST a (R89). -/
abbrev Reg.txId (p a : Nat) : Nat := rkey 15 (256 * p + a)
/-- Last received MSG_ID and TYPE for DEST a: 0 none, else 1 + 16·MSG_ID + TYPE (R89). -/
abbrev Reg.rxLast (p a : Nat) : Nat := rkey 16 (256 * p + a)
/-- Instant plus 1 at which the hub last applied HOLD (R96). -/
abbrev Reg.holdAt (p : Nat) : Nat := rkey 17 p
/-- Type plus 1 of the exchange the hub has open (R103). -/
abbrev Reg.exOwn (p : Nat) : Nat := rkey 18 p
/-- Type plus 1 of the exchange the far end has open (R103). -/
abbrev Reg.exFar (p : Nat) : Nat := rkey 19 p
/-- REF of the last CF record of the port (R107). -/
abbrev Reg.cfRef (p : Nat) : Nat := rkey 20 p
/-- HARD_RESET_CAUSE of a HARD_RESET that waits to be sent, 0 none (R88). -/
abbrev Reg.hrWaiting (p : Nat) : Nat := rkey 21 p
/-- 1 while the waiting HARD_RESET was ordered through CF_ANSWER (R88). -/
abbrev Reg.hrOrdered (p : Nat) : Nat := rkey 22 p
/-- tReceive (R91). -/
abbrev Tm.receive (p : Nat) : Nat := rkey 23 p
/-- tHoldLead (R95). -/
abbrev Tm.holdLead (p : Nat) : Nat := rkey 24 p
/-- Wait-and-retry time of message type a (R97). -/
abbrev Tm.waitRetry (p a : Nat) : Nat := rkey 25 (256 * p + a)
/-- tResponse (R104). -/
abbrev Tm.response (p : Nat) : Nat := rkey 26 p
/-- tReadyWait (R104, R130). -/
abbrev Tm.readyWait (p : Nat) : Nat := rkey 27 p
/-- tSinkRequest (R112). -/
abbrev Tm.sinkRequest (p : Nat) : Nat := rkey 28 p
/-- tAnswerDeadline of the message awaiting an answer (R109). -/
abbrev Tm.answer (p : Nat) : Nat := rkey 29 p
/-- tAnswerDeadline of the held message (R110). -/
abbrev Tm.held (p : Nat) : Nat := rkey 30 p
/-- tFirstCaps (R114). -/
abbrev Tm.firstCaps (p : Nat) : Nat := rkey 31 p
/-- tSrcRecover (R124). -/
abbrev Tm.srcRecover (p : Nat) : Nat := rkey 32 p
/-- tCfsStable (R130). -/
abbrev Tm.cfsStable (p : Nat) : Nat := rkey 33 p
/-- 1 while a contract is in force (R112). -/
abbrev Reg.inForce (p : Nat) : Nat := rkey 34 p
/-- 1 once a SOURCE_CAPS has been sent since attach (Table 4-15). -/
abbrev Reg.capsSent (p : Nat) : Nat := rkey 35 p
/-- Nanosecond instant plus 1 up to which the last answerable REF was open, to tell LATE from NO_MATCH (R109). -/
abbrev Reg.answerWritten (p : Nat) : Nat := rkey 36 p
/-- REF plus 1 of the last message whose tAnswerDeadline passed unanswered (R109). -/
abbrev Reg.lateRef (p : Nat) : Nat := rkey 37 p
/-- REQUEST_OBJ of the transition under way, plus 1 (R117). -/
abbrev Reg.trRequest (p : Nat) : Nat := rkey 38 p
/-- Step of the rail move: 0 none, 3 slewing, 4 incoming pair fully on (Table 4-16). -/
abbrev Reg.trStep (p : Nat) : Nat := rkey 39 p
/-- Limit before the move, mA (Table 4-16 step 1). -/
abbrev Reg.trOldLimit (p : Nat) : Nat := rkey 40 p
/-- Incoming rail of the move. -/
abbrev Reg.trNewRail (p : Nat) : Nat := rkey 41 p
/-- Detach abort of R121: 0 none, 1 of a transition, 3 of an INRUSH, 2 once tDetach completed while VBUS is not yet below 5 V. -/
abbrev Reg.detachDone (p : Nat) : Nat := rkey 42 p
/-- REF plus 1 of a SOFT_RESET received in TRANSITION whose ACCEPT waits (R127). -/
abbrev Reg.softAccept (p : Nat) : Nat := rkey 43 p
/-- 1 while the duty to supply the cable electronics has moved from the source to the sink (R129, R130). -/
abbrev Reg.cfsDuty (p : Nat) : Nat := rkey 44 p
/-- Swap under way: 0 none, 1 this hub is the new supplier, 2 this hub is the former supplier (R130). -/
abbrev Reg.cfsSwap (p : Nat) : Nat := rkey 45 p
/-- ALT_FUNCTION of an accepted or requested ALT_ENTER, plus 1 (R133). -/
abbrev Reg.altWant (p : Nat) : Nat := rkey 46 p
/-- ALT_FUNCTION object in force (R134, Table 17-4). -/
abbrev Reg.altParams (p : Nat) : Nat := rkey 47 p
/-- 1 while an ALT_EXIT is the open exchange of the answered message (R133). -/
abbrev Reg.altExit (p : Nat) : Nat := rkey 48 p
/-- 1 while the serial line is receiving a frame (R135). -/
abbrev Reg.serialBusy (p : Nat) : Nat := rkey 49 p
/-- Consecutive candidate samples of CF wire a (0 CF1, 1 CF2) (R67). -/
abbrev Reg.candidate (p a : Nat) : Nat := rkey 50 (256 * p + a)
/-- 1 while CF wire a is excluded from the candidate test (R68). -/
abbrev Reg.excluded (p a : Nat) : Nat := rkey 51 (256 * p + a)
/-- How ATTACH_WAIT was entered: 1 source, 2 sink (R70). -/
abbrev Reg.attachAs (p : Nat) : Nat := rkey 52 p
/-- Classification stage: 1 CF1 alone, 2 CF2 alone, 3 both (R70). -/
abbrev Reg.stage (p : Nat) : Nat := rkey 53 p
/-- Class of CF1 in stage 1: 0 open, 1 Rd, 2 Ra (R70). -/
abbrev Reg.classA (p : Nat) : Nat := rkey 54 p
/-- Class of CF2 in stage 2 (R70). -/
abbrev Reg.classB (p : Nat) : Nat := rkey 55 p
/-- Dual-role phase: 1 source, 2 sink (R71). -/
abbrev Reg.toggle (p : Nat) : Nat := rkey 56 p
/-- Source share of the toggle cycle, per cent (R71). -/
abbrev Reg.toggleShare (p : Nat) : Nat := rkey 57 p
/-- Instant plus 1 of the last leave of ATTACHED_SOURCE or TRY_SOURCE for UNATTACHED (R73). -/
abbrev Reg.lastSource (p : Nat) : Nat := rkey 58 p
/-- Instant plus 1 of the first detach of the flap window (Table 3-6). -/
abbrev Reg.flapStart (p : Nat) : Nat := rkey 59 p
/-- Detaches counted in the flap window (Table 3-6). -/
abbrev Reg.flapCount (p : Nat) : Nat := rkey 60 p
/-- 1 once the port has been adopted or attached since READY. -/
abbrev Reg.everAttached (p : Nat) : Nat := rkey 61 p
/-- The 2 ms classification stage (R70). -/
abbrev Tm.stage (p : Nat) : Nat := rkey 62 p
/-- tAttachDebounce (R70). -/
abbrev Tm.debounce (p : Nat) : Nat := rkey 63 p
/-- tCandidateBackoff (R68). -/
abbrev Tm.backoff (p : Nat) : Nat := rkey 64 p
/-- Toggle phase (R71). -/
abbrev Tm.toggle (p : Nat) : Nat := rkey 65 p
/-- tTry (R72). -/
abbrev Tm.try (p : Nat) : Nat := rkey 66 p
/-- tTryDebounce (R72). -/
abbrev Tm.tryDebounce (p : Nat) : Nat := rkey 67 p
/-- tTryWait (R72). -/
abbrev Tm.tryWait (p : Nat) : Nat := rkey 68 p
/-- 1 while the default offer waits for tHoldLead (R114). -/
abbrev Reg.offerPending (p : Nat) : Nat := rkey 69 p
/-- PSEQ of the next packet of a FIFO: 0 RXQ0, 1 RXQ1, 2 EVQ (R397). -/
abbrev Reg.pseq (p : Nat) : Nat := rkey 70 p
/-- A save of the repair map under way (R483). -/
abbrev Tm.repairSave : Nat := rkey 71 0
/-- The live forwarding tables: the entry whose shadow has key 0x440000 + a (R309). -/
abbrev Reg.live (p : Nat) : Nat := rkey 72 p
/-- Identifier of the next frame stored in Shale. -/
abbrev Reg.frameNext : Nat := rkey 73 0
/-- Place of the next copy queued on any egress (R303). -/
abbrev Reg.queueOrder : Nat := rkey 74 0
/-- 1 once the link of port p has left ACTIVE (R301). -/
abbrev Reg.leftActive (p : Nat) : Nat := rkey 75 p
/-- REJOIN_HOLD of port p as a PATH member (R301). -/
abbrev Tm.rejoin (p : Nat) : Nat := rkey 76 p
/-- Eligible frames since the last sample (R316). -/
abbrev Reg.mirrorCount : Nat := rkey 77 0
/-- Cumulative credit limit received from the far end of port p, class a (R204). -/
abbrev Reg.crLimit (p a : Nat) : Nat := rkey 78 (256 * p + a)
/-- Cumulative cells sent on port p, class a (R204). -/
abbrev Reg.crSent (p a : Nat) : Nat := rkey 79 (256 * p + a)
/-- Cumulative credit limit granted to the far end of port p, class a (R204, R290). -/
abbrev Reg.crGrant (p a : Nat) : Nat := rkey 80 (256 * p + a)
/-- Cells of class a that return to the limit of port p once it may advance (R290). -/
abbrev Reg.crOwed (p a : Nat) : Nat := rkey 81 (256 * p + a)
/-- LINK_SEQ of the next frame sent on port p, endpoint a (0 on a trunk link) (R202). -/
abbrev Reg.linkTx (p a : Nat) : Nat := rkey 82 (256 * p + a)
/-- LINK_SEQ plus 1 of the last frame received on port p, endpoint a; 0 before the first (R202). -/
abbrev Reg.linkRx (p a : Nat) : Nat := rkey 83 (256 * p + a)
/-- t_p of a PUBLISH that is DONE (R313). -/
abbrev Tm.publish : Nat := rkey 84 0
/-- The audit under way, which completes within 2 ms (R320). -/
abbrev Tm.auditEnd : Nat := rkey 85 0
/-- 1 while the hub sends ENC frames on trunk p (0 UA, 1 UB) under a current key (R450). -/
abbrev Reg.keyTx (p : Nat) : Nat := rkey 86 p
/-- Frames sent under the current transmit key of trunk p (R450). -/
abbrev Reg.keyE (p : Nat) : Nat := rkey 87 p
/-- 1 while endpoint a (device × 16 + endpoint) is owed a closing zero-length packet (R232). -/
abbrev Reg.closeOwed (p : Nat) : Nat := rkey 88 p
/-- Presence pull-up seen at the upstream end: 0 none, 1 on D+, 2 on D− (R168). -/
abbrev Reg.pullSeen (p : Nat) : Nat := rkey 89 p
/-- tConnect (R168). -/
abbrev Tm.connect (p : Nat) : Nat := rkey 90 p
/-- tResetSE0 (R169). -/
abbrev Tm.se0 (p : Nat) : Nat := rkey 91 p
/-- tOfferWindow (R170). -/
abbrev Tm.offer (p : Nat) : Nat := rkey 92 p
/-- The instant from which the first SOF may make the link ACTIVE (R171). -/
abbrev Tm.active (p : Nat) : Nat := rkey 93 p
/-- tTrain (R172). -/
abbrev Tm.train (p : Nat) : Nat := rkey 94 p
/-- Class granted at the upstream end, 0 none (R170). -/
abbrev Reg.grant (p : Nat) : Nat := rkey 95 p
/-- 1 once training failed: at most HS is granted until detach (R172). -/
abbrev Reg.trainCap (p : Nat) : Nat := rkey 96 p
/-- 1 while TRAINING follows a loss of lock or a resume (R206, R211). -/
abbrev Reg.retrain (p : Nat) : Nat := rkey 97 p
/-- tEnumStart (R224). -/
abbrev Tm.enumStart (p : Nat) : Nat := rkey 98 p
/-- Enumeration attempts of this reset: 0 none, 1 first, 2 repeat (R224). -/
abbrev Reg.enumTry (p : Nat) : Nat := rkey 99 p
/-- 1 while PORT_CMD_RESULT waits for ENABLED or ERROR_HOLD (R218). -/
abbrev Reg.cmdPending (p : Nat) : Nat := rkey 100 p
/-- SUSPEND_CAUSE of a suspension that takes effect at the next SOF time (R238, R239). -/
abbrev Reg.suspendDue (p : Nat) : Nat := rkey 101 p
/-- 1 while ports are suspended because the control upstream is (R239). -/
abbrev Reg.upSuspend : Nat := rkey 102 0
/-- The resume listen of 2 µs; its start is t_c + 2 µs (R240). -/
abbrev Tm.listen (p : Nat) : Nat := rkey 103 p
/-- t_c plus 1 (R240). -/
abbrev Reg.listenStart (p : Nat) : Nat := rkey 104 p
/-- Stamp plus 1 of the onset of a K on the port (R242). -/
abbrev Reg.wakeOnset (p : Nat) : Nat := rkey 105 p
/-- 1 while that K is on the line (R242). -/
abbrev Reg.wakePresent (p : Nat) : Nat := rkey 106 p
/-- tResume (R209). -/
abbrev Tm.resumeK (p : Nat) : Nat := rkey 107 p
/-- The instant from which the first SOF after a resume may be sent (R209). -/
abbrev Tm.firstSof (p : Nat) : Nat := rkey 108 p
/-- Bit p set while a WAKE record of port p waits for the control upstream (R241). -/
abbrev Reg.wakeOwed : Nat := rkey 109 0
/-- IN work owed to a child hub: bit 1 endpoint 1, bit 2 endpoint 2 (R221). -/
abbrev Reg.childIn (p : Nat) : Nat := rkey 110 p
/-- 1 when the last alternating turn of the port served Quartz (R220). -/
abbrev Reg.lastPoll (p : Nat) : Nat := rkey 111 p
/-- Packets accepted of the frame being sent to a child hub (R221). -/
abbrev Reg.outPk (p : Nat) : Nat := rkey 112 p
/-- 1 while endpoint a (device × 16 + endpoint) answered NYET or NAK and must be pinged (R189). -/
abbrev Reg.pingOwed (p : Nat) : Nat := rkey 113 p
/-- Next expected SEQ from endpoint a (device × 16 + endpoint) of a far end (R187, R255). -/
abbrev Reg.seqIn (p : Nat) : Nat := rkey 114 p
/-- Next unacknowledged SEQ toward endpoint a (device × 16 + endpoint) of a far end (R185). -/
abbrev Reg.seqOut (p : Nat) : Nat := rkey 115 p
/-- Consecutive SEQ_GAP polls of endpoint a (R255). -/
abbrev Reg.seqGaps (p : Nat) : Nat := rkey 116 p
/-- 1 while the hub owes endpoint a a CLEAR_HALT (R255). -/
abbrev Reg.resyncOwed (p : Nat) : Nat := rkey 117 p
/-- Addresses DEVICE_BASE on of port p: 0 none, 1 ASSIGNED, 2 RESERVED (R217). -/
abbrev Reg.devHeld (p : Nat) : Nat := rkey 118 p
/-- Device address of the hub on port p as downstream end (R194). -/
abbrev Reg.myAddr (p : Nat) : Nat := rkey 119 p
/-- Next expected SEQ of endpoint a OUT of the hub on port p (R187). -/
abbrev Reg.myE (p a : Nat) : Nat := rkey 120 (256 * p + a)
/-- Next unacknowledged SEQ of endpoint a IN of the hub on port p (R186). -/
abbrev Reg.mySend (p a : Nat) : Nat := rkey 121 (256 * p + a)
/-- Packets of the last burst on endpoint a IN that wait for their handshake. -/
abbrev Reg.myOut (p a : Nat) : Nat := rkey 122 (256 * p + a)
/-- Endpoint plus 1 of an OUT token received on port p whose DATA follows (R185). -/
abbrev Reg.outToken (p : Nat) : Nat := rkey 123 p
/-- 100 µs since the last CREDIT (R204). -/
abbrev Tm.credit (p : Nat) : Nat := rkey 124 p
/-- 100 ms since the last STATUS (R203). -/
abbrev Tm.status (p : Nat) : Nat := rkey 125 p
/-- End of the 15 µs in which the engine of port p holds off transactions (R47). -/
abbrev Tm.monForced (p : Nat) : Nat := rkey 126 p
/-- 1 once the link of port p has been ACTIVE since attach. -/
abbrev Reg.everActive (p : Nat) : Nat := rkey 127 p
/-- 1 while a link-state advertisement is owed (R342). -/
abbrev Reg.lsaDue : Nat := rkey 128 0
/-- 1 while the shortest paths are owed a computation (R344). -/
abbrev Reg.pathDue : Nat := rkey 129 0
/-- 1 while trunk u owes an exchange of kind AGREE (R448). -/
abbrev Reg.keyxDue (p : Nat) : Nat := rkey 130 p
/-- 1 while a COMMIT or SAVE is carried out: the cause COMMIT_IN_PROGRESS (R196). -/
abbrev Reg.committing : Nat := rkey 131 0
/-- The trunk, plus 1, that carries a REKEY: the cause KEY_ROTATION (R196, R452). -/
abbrev Reg.rotating : Nat := rkey 132 0
/-- tKeyAgree after IDENTIFY on trunk u (R453). -/
abbrev Tm.keyAgree (p : Nat) : Nat := rkey 133 p
/-- 60 s until AGREE is tried again on trunk u (R453). -/
abbrev Tm.keyRetry (p : Nat) : Nat := rkey 134 p
/-- REKEY_INTERVAL on trunk u (R452). -/
abbrev Tm.rekey (p : Nat) : Nat := rkey 135 p
/-- Target hash of the pending transfer (R436). -/
abbrev Reg.transferTo : Nat := rkey 136 0
/-- Frames received under the current receive key of trunk u (R452). -/
abbrev Reg.keyFramesRx (p : Nat) : Nat := rkey 137 p
/-- Consecutive tag failures on trunk u (R452). -/
abbrev Reg.tagRun (p : Nat) : Nat := rkey 138 p
/-- Extended sequence plus 1 of the last frame accepted on trunk u (R450). -/
abbrev Reg.keyRxE (p : Nat) : Nat := rkey 139 p
/-- The set last declared on port p plus 1, 0 before the first notice (R338). -/
abbrev Reg.noticeSent (p : Nat) : Nat := rkey 140 p
/-- 350 ms since the last notice on port p (R336). -/
abbrev Tm.notices (p : Nat) : Nat := rkey 141 p
/-- 1 once an ECHO has arrived on port p (R268). -/
abbrev Reg.tickSeen (p : Nat) : Nat := rkey 142 p
/-- TAG of the hub's next link-local CONTROL REQUEST on port p (R205). -/
abbrev Reg.ctlTag (p : Nat) : Nat := rkey 143 p
/-- 1 while port p owes a forced monitor slot after its next SOF (R47). -/
abbrev Reg.monOwed (p : Nat) : Nat := rkey 144 p
/-- Phase of the polarity probe of Dn: 0 none, 1 backfeed, 2 forward, 3 discharge, 4 reverse (Table 2-6). -/
abbrev Reg.probePhase (p : Nat) : Nat := rkey 145 p
/-- End of the probe phase (Table 2-6). -/
abbrev Tm.probe (p : Nat) : Nat := rkey 146 p
/-- Trace of Dn under way: 0 none, 1 a normal trace, 2 the trip-location trace (R57, R60). -/
abbrev Reg.tdrRun (p : Nat) : Nat := rkey 147 p
/-- Instant of the last interval trace of Dn (R57). -/
abbrev Reg.tdrLast (p : Nat) : Nat := rkey 148 p
/-- Sum of the screen readings of Dn in this hour window (R50). -/
abbrev Reg.screenSum (p : Nat) : Nat := rkey 149 p
/-- Number of those readings. -/
abbrev Reg.screenCount (p : Nat) : Nat := rkey 150 p
/-- Sum of the probe leak readings of Dn in this hour window (R50). -/
abbrev Reg.probeSum (p : Nat) : Nat := rkey 151 p
/-- Number of those readings. -/
abbrev Reg.probeCount (p : Nat) : Nat := rkey 152 p
/-- 1 while a transaction is open, or a SAVE or commit is under way (R365). -/
abbrev Reg.odOpen : Nat := rkey 153 0
/-- OD_STATE of the host-link mailbox: 0 IDLE, 1 BUSY, 2 DONE; NOT_READY is read while Flint does not serve (R389). -/
abbrev Reg.mailbox : Nat := rkey 154 0
/-- 1 while the device identity is derived (R432). -/
abbrev Reg.deriving : Nat := rkey 155 0
/-- 1 while a claim, a session opening, an attestation, a slot command, a firmware check or a zeroisation is under way (R431). -/
abbrev Reg.secOp : Nat := rkey 156 0
/-- 1 while a trigger of ARMED_CMD is held (R422). -/
abbrev Reg.armedHeld : Nat := rkey 157 0
/-- End of the delay of the domain being moved (R411). -/
abbrev Tm.domDelay : Nat := rkey 158 0
/-- The maximum start time of the clock being started (R424, R425). -/
abbrev Tm.clock : Nat := rkey 159 0
/-- 1 while the power die is in hold (R496). -/
abbrev Reg.hold : Nat := rkey 160 0
/-- FULL_RESET takes effect (R492). -/
abbrev Tm.fullReset : Nat := rkey 161 0
/-- The full reset of an L5 reaction (R471). -/
abbrev Tm.l5 : Nat := rkey 162 0
/-- 2 s for the crystal after a reset (R493). -/
abbrev Tm.lfStart : Nat := rkey 163 0
/-- Slot of the firmware load under way: 0 A, 1 B (R446). -/
abbrev Reg.fwSlot : Nat := rkey 164 0
/-- Slots tried in this load (R446). -/
abbrev Reg.fwTries : Nat := rkey 165 0
/-- 1 while the load under way is one from RET (R426). -/
abbrev Reg.fwWarm : Nat := rkey 166 0
/-- 1 once no lockstep pair is left: Flint is not run until a full reset (R480). -/
abbrev Reg.fwDead : Nat := rkey 167 0
/-- Instant plus 1 of the end of the last reset (R503). -/
abbrev Reg.resetAt : Nat := rkey 168 0
/-- 1 once domain d holds contents: it was ON and has not been OFF since (R407). -/
abbrev Reg.domOn (p : Nat) : Nat := rkey 169 p
/-- tDerive (R432). -/
abbrev Tm.derive : Nat := rkey 170 0
/-- 1 once the first pull-up after the reset is stamped (R501). -/
abbrev Reg.upReady : Nat := rkey 171 0
/-- 1 while the die link is lost (R460). -/
abbrev Reg.dieLost : Nat := rkey 172 0
/-- The SESSION_ID counter (R442). -/
abbrev Reg.sessionNext : Nat := rkey 173 0
/-- 1 ms without a valid symbol at the downstream end of a TS link (R206). -/
abbrev Tm.noSymbol (p : Nat) : Nat := rkey 174 p
/-- The stamp of the last DIE_LINK_LOST report (R500). -/
abbrev Reg.dieLostAt : Nat := rkey 175 0
/-- Copy of the security region in use plus 1: 1 A, 2 B, 0 none (R438). -/
abbrev Reg.secCopy : Nat := rkey 176 0
/-- 1 while the zeroise marker stands in the security region (R454). -/
abbrev Reg.zeroMark : Nat := rkey 177 0
/-- Number plus 1 of the last micro-frame that began (R252). -/
abbrev Reg.lastUframe : Nat := rkey 178 0
/-- A START that waits for the next micro-frame: 1 from STOPPED, 2 from PAUSED (Table 8-8). -/
abbrev Reg.startPend : Nat := rkey 179 0
/-- Number plus 1 of the budget window that Reg.budgetUsed counts (R263). -/
abbrev Reg.budgetWin : Nat := rkey 180 0
/-- Reports counted against that budget window. -/
abbrev Reg.budgetUsed : Nat := rkey 181 0
/-- Number plus 1 of the report window of the open batch (R262). -/
abbrev Reg.batchWin : Nat := rkey 182 0
/-- 1 while the open batch closes with the poll on the wire (R265). -/
abbrev Reg.batchClose : Nat := rkey 183 0
/-- 1 once a batch has been sent since reset (Table 8-6). -/
abbrev Reg.anyBatch : Nat := rkey 184 0
/-- b plus 1 of a step of the timebase that waits for its boundary (R272). -/
abbrev Reg.stepTo : Nat := rkey 185 0
/-- Nanoseconds still to be added to the timebase (R269). -/
abbrev Reg.slewUp : Nat := rkey 186 0
/-- Nanoseconds still to be omitted from the timebase (R269). -/
abbrev Reg.slewDown : Nat := rkey 187 0
/-- Consecutive offsets within 100 ns (Table 8-9). -/
abbrev Reg.goodOffsets : Nat := rkey 188 0
/-- 16 ms since the last accepted time message (R269). -/
abbrev Tm.sync : Nat := rkey 189 0
/-- Code plus 1 of the last counted outcome of poll entry e, 0 for none (R258). -/
abbrev Reg.pollRun (p : Nat) : Nat := rkey 190 p
/-- PROBE_INTERVAL of port p (R268). -/
abbrev Tm.probeInterval (p : Nat) : Nat := rkey 191 p
/-- NOTICE_SEQ of the last notice sent on port p (R338). -/
abbrev Reg.noticeTx (p : Nat) : Nat := rkey 192 p
/-- NOTICE_SEQ plus 1 of the last notice accepted on port p (R338). -/
abbrev Reg.noticeRx (p : Nat) : Nat := rkey 193 p
/-- 100 ms until notices are sent on every hub port (R338). -/
abbrev Tm.noticeTimer : Nat := rkey 194 0
/-- 250 ms until the next HELLO (R341). -/
abbrev Tm.hello : Nat := rkey 195 0
/-- 30 minutes until the LSA is originated afresh (R342). -/
abbrev Tm.lsaRefresh : Nat := rkey 196 0
/-- LSA_SEQ of the last LSA of the hub (R342). -/
abbrev Reg.lsaSeq : Nat := rkey 197 0
/-- 1 while the worker has lost its control upstream and no standby exists (R335). -/
abbrev Reg.isolated : Nat := rkey 198 0
/-- 1 once the control upstream has been ACTIVE as such (R334). -/
abbrev Reg.upCtl : Nat := rkey 199 0
/-- Size in ns of a step of the timebase that waits for its boundary (R269, R272). -/
abbrev Reg.stepBy : Nat := rkey 200 0
/-- Instant plus 1 of the last tick added or omitted (R269). -/
abbrev Reg.lastSlew : Nat := rkey 201 0
/-- Instant plus 1 of the last upstream reset (R243). -/
abbrev Reg.lastUpReset : Nat := rkey 202 0
/-- Slot plus 1 whose DATA the hub has returned on port p and whose ACK is awaited (R234). -/
abbrev Reg.splitAck (p : Nat) : Nat := rkey 203 p
/-- Second plus 1 in which Reg.fabCount counts (R340). -/
abbrev Reg.fabSec : Nat := rkey 204 0
/-- Eclin-1 frames forwarded in that second (R340). -/
abbrev Reg.fabCount : Nat := rkey 205 0
/-- ERASE_CONFIG of the pending transfer (R436). -/
abbrev Reg.transferErase : Nat := rkey 206 0
/-- 1 while the last CHECK_INACTIVE was DONE and no erase or write has followed (R447). -/
abbrev Reg.fwChecked : Nat := rkey 207 0
/-- LINK_KEYX_REPLY for trunk u (R449). -/
abbrev Reg.keyxReply (p : Nat) : Nat := rkey 208 p
/-- Number plus 1 of the burst window under way (R460). -/
abbrev Reg.burstWin : Nat := rkey 209 0
/-- Errors of port p counted before this burst window (R460). -/
abbrev Reg.burstBase (p : Nat) : Nat := rkey 210 p
/-- 1 once LINK_ERROR_BURST has fired for port p in this window (R460). -/
abbrev Reg.burstFired (p : Nat) : Nat := rkey 211 p
/-- 1 while detector a may not fire again: 0 DIE_WARN, 1 DIE_CRIT, 2 POWER_DIE_WARN, 3 VIN_LOW, 4 VAUX_LOW (R460). -/
abbrev Reg.tempFired (p : Nat) : Nat := rkey 212 p
/-- 1 while the host link is in 4-4-4 mode (R384). -/
abbrev Reg.quad : Nat := rkey 213 0
/-- Stamp plus 1 that the effects of a late report carry, 0 for the present one (R500). -/
abbrev Reg.stampAs : Nat := rkey 214 0
/-- 1 while the held host-link response is unread: OD_NOTICE (R402). -/
abbrev Reg.odNotice : Nat := rkey 215 0
/-- 1 once Flint has taken the request in the mailbox (R388). -/
abbrev Reg.hostTaken : Nat := rkey 216 0
/-- 1 while TXQ discards words up to the next SOP after an overflow (Table 13-8). -/
abbrev Reg.txqSkip : Nat := rkey 217 0
/-- NEXT plus 1 that port p owes to a burst without END, 0 for none (R186). -/
abbrev Reg.burstAck (p : Nat) : Nat := rkey 218 p
/-- Endpoint plus 1 of the last burst that the hub sent on port p as downstream end, 0 for none (R186). -/
abbrev Reg.inEp (p : Nat) : Nat := rkey 219 p
/-- Instant plus 1 of the last entry of port p to SUSPENDED (R210). -/
abbrev Reg.suspAt (p : Nat) : Nat := rkey 220 p
/-- 1 while a zeroisation begins once its write is answered (R454). -/
abbrev Reg.zeroDue : Nat := rkey 221 0
/-- Halt reasons that the far end of trunk link p last told in STATUS, four bytes (R203). -/
abbrev Reg.peerHalts (p : Nat) : Nat := rkey 222 p
/-- STATUS payload plus 1 last sent on trunk port p since it entered ACTIVE, 0 for none (R203). -/
abbrev Reg.statusTold (p : Nat) : Nat := rkey 223 p
/-- CREDIT payload plus 1 last sent on trunk port p since it entered ACTIVE, 0 for none (R204). -/
abbrev Reg.creditTold (p : Nat) : Nat := rkey 224 p
/-- Capacity plus 1 of supply p that stays in force until the next budget tick after a write that lowered it, 0 for none (R157). -/
abbrev Reg.capHeld (p : Nat) : Nat := rkey 225 p
/-- The IDENTIFY record last enumerated on port p: one whose addresses were assigned (R227). -/
abbrev Reg.lastIdent (p : Nat) : Nat := rkey 226 p
/-- The micro-frame from which a START that waits may take effect (Table 8-11). -/
abbrev Reg.startUframe : Nat := rkey 227 0
/-- Start plus 1 of the reflectometry trace under way on port p, 0 for none (R57). -/
abbrev Reg.tdrAt (p : Nat) : Nat := rkey 228 p
/-- Shots that the trace under way on port p has discarded (R48). -/
abbrev Reg.shotsLost (p : Nat) : Nat := rkey 229 p
/-- End plus 1 of the last event of R49 on port p, 0 for none. -/
abbrev Reg.spoilAt (p : Nat) : Nat := rkey 230 p
/-- Start plus 1 of the screen period under way on port p, 0 before the first (R45). -/
abbrev Reg.screenFrom (p : Nat) : Nat := rkey 231 p
/-- Hour window that port p's monitor last closed, or in which the hub started (R50). -/
abbrev Reg.hourWin (p : Nat) : Nat := rkey 232 p
/-- Backfeed reading of the probe under way on port p, in mV as 16 bits (R52, R56). -/
abbrev Reg.probePre (p : Nat) : Nat := rkey 233 p
/-- F of the probe under way on port p, in 0.1 µA (R52, R56). -/
abbrev Reg.probeF (p : Nat) : Nat := rkey 234 p
/-- Micro-frame plus 1 of the last monitor slot of port p, 0 for none (R47). -/
abbrev Reg.slotAt (p : Nat) : Nat := rkey 235 p
/-- tResponse of the transaction on the wire of port p, or of the burst the hub sent there as downstream end (R188). -/
abbrev Tm.linkResp (p : Nat) : Nat := rkey 236 p
/-- Micro-frame plus 1 of the last SOF time of port p (R175). -/
abbrev Reg.lastSof (p : Nat) : Nat := rkey 237 p
/-- Instant plus 1 at which the hub last heard a packet on port p as downstream end, or entered ACTIVE (R208). -/
abbrev Reg.heardAt (p : Nat) : Nat := rkey 238 p
/-- Line on which the hub's own presence pull-up of port p stands: 0 none, 1 D+, 2 D− (R162, R167). -/
abbrev Reg.pullLine (p : Nat) : Nat := rkey 239 p
/-- 1 once the hub's own presence pull-up of port p has been applied since the attach (R162, R173). -/
abbrev Reg.pullApplied (p : Nat) : Nat := rkey 240 p
/-- Micro-frame plus 1 that holds the value of a step, whose SOF leaves outside the window of R175, 0 for none (R272). -/
abbrev Reg.stepUframe : Nat := rkey 241 0
/-- 1 when the boundary at which the step was applied was one of frames (R272). -/
abbrev Reg.stepFrame : Nat := rkey 242 0
/-- Timebase plus 1 at which the waiting step was decided, 0 for none (R272). -/
abbrev Reg.stepAt : Nat := rkey 243 0
/-- 1 while the upstream end of packet link p owes a PING with TIME (R268). -/
abbrev Reg.timeOwed (p : Nat) : Nat := rkey 244 p
/-- Logical bank of Shale domain PD3 (0) or PD4 (1) that gives the next cell, 0 to 23 within the domain (R280). -/
abbrev Reg.allocNext (d : Nat) : Nat := rkey 245 d
/-- Header of the frame that port p sends, as sent (R296). -/
abbrev Reg.sentHead (p : Nat) : Nat := rkey 246 p
/-- Extended sequence of the frame that port p sends (R450). -/
abbrev Reg.sentSeq (p : Nat) : Nat := rkey 247 p
/-- Key of the frame that trunk port p sends with ENC (R450). -/
abbrev Reg.sentKey (p : Nat) : Nat := rkey 248 p
/-- Salt of the frame that trunk port p sends with ENC (R450). -/
abbrev Reg.sentSalt (p : Nat) : Nat := rkey 249 p
/-- Allocation tag of physical cell a, bank × 512 + cell, 0 to 15 (R320). -/
abbrev Reg.cellTag (a : Nat) : Nat := rkey 250 a
/-- DEST of the exchange the hub has open (R102, R103). -/
abbrev Reg.exDest (p : Nat) : Nat := rkey 251 p
/-- Instant plus 1 at which the message wire of port p was last released, or will be by what the hub sends (R94, R98). -/
abbrev Reg.wireAt (p : Nat) : Nat := rkey 252 p
/-- Instant plus 1 at which the hub last heard the far end on the message wire of port p (R74). -/
abbrev Reg.cfHeard (p : Nat) : Nat := rkey 253 p
/-- Instant plus 1 of the last sample of tSniffSample on port p (R67, R98). -/
abbrev Reg.sniffAt (p : Nat) : Nat := rkey 254 p
/-- Instant plus 1 of the last abort on Dn (R123). -/
abbrev Reg.abortAt (p : Nat) : Nat := rkey 255 p
/-- The linear pair's running total of R119 on Dn, in µJ, as last read. -/
abbrev Reg.energy (p : Nat) : Nat := rkey 256 p
/-- Bit k while OC_Gk_N stays low past its filter (R151). -/
abbrev Reg.ocInput : Nat := rkey 257 0
/-- Instant plus 1 of the last budget tick (R153). -/
abbrev Reg.tickAt : Nat := rkey 258 0
/-- Instant plus 1 of a PUBLISH that met a draining epoch (R314). -/
abbrev Reg.publishAt : Nat := rkey 259 0
/-- The delays of the start-up stage under way (R493). -/
abbrev Tm.bootStage : Nat := rkey 260 0
/-- Instant plus 1 from which the loopback of port p can run: its report, or the link's last entry to a state that it waits for (R481). -/
abbrev Reg.loopFrom (p : Nat) : Nat := rkey 261 p

end Sys2Proof.Machine
end

