-- ==== Sys2Proof/Machine/State.lean ====
section
/-!
DEFINITION. Sys2Proof/Machine/State.lean: the state of the hub as plain data, its reset value, and the reasons to stop.
Every scalar register, of the dictionary or internal, lives in one sparse cell store (Hub.cells); what is a list or a
record by nature (queues, logs, pending messages, frames, slots) is a typed field.
-/
namespace Sys2Proof.Machine

/-! ### Garnet -/

/-- One record of the fault log (Table 16-2). `applied` is 0xFF for a CONSEQUENTIAL record. -/
structure LogRec where
  seq : Nat
  stamp : Nat
  source : Nat
  cls : Nat
  levelSet : Nat
  applied : Nat
  flags : Nat
  verdict : Nat
  parent : Nat
  detail : Nat
  value : Nat
  deriving DecidableEq, Repr

/-- An unacknowledged fault: LOG_SEQ, class and applied level (R472). -/
structure Unacked where
  seq : Nat
  cls : Nat
  level : Nat
  deriving DecidableEq, Repr

/-- The detectors a shadow covers (Table 16-5). -/
inductive Cover where
  /-- Source src whatever its DETAIL. -/
  | every (src : Nat)
  /-- Source src where bits [7:0] of DETAIL equal v (a port or a bank). -/
  | low (src v : Nat)
  /-- Source src where DETAIL equals v (an array row). -/
  | exact (src v : Nat)
  deriving DecidableEq, Repr

/-- An open consequence shadow (R475): its window begins at t0 and ends at `until`, or with its test when none. -/
structure Shadow where
  t0 : Nat
  ends : Option Nat
  parent : Nat
  covers : List Cover
  /-- The self-test that opened it: kind and subject of Table 16-7, or none. -/
  test : Option (Nat × Nat)
  deriving DecidableEq, Repr

/-- A self-test (R477): kind 1 BANK, 2 CORE, 3 LOOPBACK, 4 NV; the subject; the parent record; the stage
(0 waiting, 1 copy-out, 2 march, 3 copy-back, 4 running); the cell that erred and the spare bank. -/
structure SelfTest where
  kind : Nat
  subject : Nat
  parent : Nat
  cls : Nat
  stage : Nat
  cell : Nat
  spare : Nat
  deriving DecidableEq, Repr

/-- A reaction of level L2 or higher that waits for its turn (R468). -/
structure Reaction where
  seq : Nat
  source : Nat
  level : Nat
  detail : Nat
  deriving DecidableEq, Repr

/-- The repair map (Table 16-14). -/
structure RepairMap where
  seq : Nat
  badBanks : Nat
  bankMap : Nat
  retired : Nat
  pairA : Nat
  pairB : Nat
  phyFailed : Nat
  rowsUsed : Nat
  fenced : List (Nat × Nat)
  changed : Nat
  deriving DecidableEq, Repr

/-! ### Records to the manager -/

/-- The kinds of records the hub sends to the manager in class C0 frames. -/
inductive RecordKind where
  /-- CF report record (Table 4-12). -/
  | cf
  /-- Fault record (Table 16-2). -/
  | fault
  /-- Port record (Table 7-6). -/
  | port
  /-- Hierarchy record (Table 11-5). -/
  | hierarchy
  /-- Notice of the end of a group command (R420). -/
  | domain
  deriving DecidableEq, Repr

/-! ### The CF message layer and the contract layer -/

/-- Why the hub sends a CF message of its own. -/
inductive TxWhy where
  /-- The manager's NEW_EXCHANGE (R111). -/
  | newExchange
  /-- The manager's ANSWER to the message whose header and first object are given (R109). -/
  | answer (header obj : Nat)
  /-- FALLBACK for an ACCEPT whose cost was not released (R116). -/
  | fallback
  /-- The default offer (R114). -/
  | defaultOffer
  /-- READY of a contract (R117). -/
  | readyContract
  /-- READY with WHAT = CFS (R130). -/
  | readyCfs
  deriving DecidableEq, Repr

/-- The hub's own message on the wire of a port, awaiting its GOOD_ACK (R91); `last` is the stamp of its last cell (R107). -/
structure CfTx where
  port : Nat
  header : Nat
  objs : List Nat
  tries : Nat
  why : TxWhy
  last : Nat
  deriving DecidableEq, Repr

/-- A stretch in which the hub drives the message wire of a port (R74, R81): its first instant and the instant of the release. -/
structure CfDrive where
  port : Nat
  start : Nat
  stop : Nat
  deriving DecidableEq, Repr

/-- A received message awaiting the manager's answer (R109). -/
structure CfAwait where
  port : Nat
  ref : Nat
  header : Nat
  objs : List Nat
  deriving DecidableEq, Repr

/-- A message the manager gave the hub that has not started: type, DEST, objects, and for an ANSWER what it answers. -/
structure CfPending where
  port : Nat
  type : Nat
  dest : Nat
  objs : List Nat
  why : TxWhy
  /-- FALLBACK, for an ACCEPT that waits for its budget (R116); 0 otherwise. -/
  fallback : Nat
  /-- 1 while the cost waits in Slate. -/
  budget : Bool
  deriving DecidableEq, Repr

/-- The message held for the manager while the path is not ON (R110): its record. -/
structure CfHeld where
  port : Nat
  record : Nat
  header : Nat
  deriving DecidableEq, Repr

/-! ### Slate -/

/-- The kind of a budget action (R156). -/
inductive BudgetKind where
  | powerOn | move | domainWake
  deriving DecidableEq, Repr

/-- An entry of Slate's queue (R154, R156): supply 0 RAIL_A, 1 RAIL_B, 2 VIN; `who` is the port or domain. -/
structure BudgetEntry where
  supply : Nat
  kind : BudgetKind
  who : Nat
  cost : Nat
  arrival : Nat
  deriving DecidableEq, Repr

/-! ### The switch core -/

/-- A FIFO word (Table 13-7), with the LOG_SEQ it belongs to in EVQ. -/
structure FifoWord where
  sop : Bool
  eop : Bool
  err : Bool
  bytes : Nat
  pseq : Nat
  data : Nat
  seq : Nat
  deriving DecidableEq, Repr

/-- One copy of a frame (R298): its egress (20 is the split service), class, mode, CM mark, whether it stands in its queue,
whether it has begun, and its place. -/
structure Copy where
  egress : Nat
  cls : Nat
  cut : Bool
  cm : Bool
  queued : Bool
  begun : Bool
  order : Nat
  deriving DecidableEq, Repr

/-- A frame in Shale with its descriptor (R281): verdict 0 PENDING, 1 GOOD, 2 BAD; KIND and RESULT of Table 10-4. -/
structure Frame where
  id : Nat
  ingress : Nat
  header : Nat
  payload : Nat
  cells : Nat
  domain : Nat
  verdict : Nat
  epoch : Nat
  kind : Nat
  result : Nat
  mirror : Bool
  /-- Its cells are still allocated. -/
  live : Bool
  /-- 0 nothing, 1 a mirror frame, 2 a frame of a serial line, which Flint passes on (R135, R317). -/
  pass : Nat
  copies : List Copy
  /-- The logical cells it holds: bank × 512 + cell (R278, R281). -/
  addrs : List Nat
  /-- Payload bytes of it in Shale. -/
  got : Nat
  deriving DecidableEq, Repr

/-- The delivery under way on a port to a field device (R232): the frame, device × 16 + endpoint, bytes accepted so far. -/
structure Delivery where
  port : Nat
  frame : Nat
  dest : Nat
  sent : Nat
  closing : Bool
  deadline : Nat
  deriving DecidableEq, Repr

/-! ### The hub engine -/

/-- A due poll (R252 to R256): stage 0 queued, 2 on the wire, 3 ended; the settings it started with, its due micro-frame, the
micro-frame whose place it takes in the order (R253), its poll stamp, and its outcome of Table 8-3 with the answer. -/
structure PollJob where
  port : Nat
  entry : Nat
  due : Nat
  place : Nat
  stage : Nat
  settings : Nat
  stamp : Nat
  late : Bool
  unlocked : Bool
  outcome : Nat
  len : Nat
  data : Nat
  ended : Nat
  deriving DecidableEq, Repr

/-- What a transaction on a port serves (R220). -/
inductive TxnKind where
  /-- IDENTIFY of an enumeration attempt (R224). -/
  | identify
  /-- SET_ADDRESS with this base (R227). -/
  | setAddress (base : Nat)
  /-- A poll of Quartz (R254). -/
  | poll
  /-- A split slot (R233); 128 stands for one that an upstream reset freed while RUNNING (R243). -/
  | split (slot : Nat)
  /-- OUT packets of a delivery (R232). -/
  | deliver
  /-- The zero-length packet that closes a partial transfer (R232). -/
  | close
  /-- PING after NYET (R189). -/
  | ping
  /-- PING with TIME, the probe of the cable's delay (R177, R268). -/
  | timePing
  /-- IN to a child hub's endpoint 1 or 2 (R221). -/
  | childIn
  /-- OUT packets of a frame to a child hub's endpoint 1 (R221). -/
  | frameOut
  /-- CLEAR_HALT under R255 on device × 16 + endpoint a. -/
  | resync (a : Nat)
  deriving DecidableEq, Repr

/-- How a transaction ended. -/
inductive TxnResult where
  | ack (next : Nat)
  | nyet (next : Nat)
  | nak (next : Nat)
  | stall
  /-- DATA: SEQ of the first accepted packet, packets, bytes, and the bytes. -/
  | data (seq packets len payload : Nat)
  /-- Every packet was a duplicate or a gap (R187). -/
  | gap
  | error
  /-- A DATA packet longer than MAX, or a far end that transmits at the guard (R223). -/
  | babble
  deriving DecidableEq, Repr

/-- The transaction of a port (R220): stage of a control transfer, first SEQ and number of packets, repeats so far, whether a valid
packet was heard; `first` holds the TAG of a CONTROL REQUEST on a TS link, the bytes of a data stage, and its result once known. `setup`
says that it is a SETUP, `len` and `data` are the bytes that it sends, `most` bounds an answer's packets where that is less than MAX
(R254), and `held` says that it waits for the wire (R47, R176). -/
structure Txn where
  port : Nat
  kind : TxnKind
  dev : Nat
  ep : Nat
  isIn : Bool
  stage : Nat
  first : Nat
  packets : Nat
  tries : Nat
  heard : Bool
  got : Nat
  result : Option TxnResult
  setup : Bool
  len : Nat
  data : Nat
  most : Option Nat
  held : Bool
  deriving DecidableEq, Repr

/-- A split slot that is not FREE (R233): state 1 QUEUED, 2 RUNNING, 3 DONE; RESULT of Table 7-8; TARGET of Table 7-7;
carrier 0 TOKEN, 1 FRAME; the data to send or received. -/
structure Slot where
  id : Nat
  state : Nat
  port : Nat
  tdev : Nat
  target : Nat
  carrier : Nat
  result : Nat
  tag : Nat
  src : Nat
  cls : Nat
  count : Nat
  len : Nat
  data : Nat
  seq : Nat
  packets : Nat
  created : Nat
  deadline : Nat
  returned : Bool
  deriving DecidableEq, Repr

/-- The open control transfer on endpoint 0 of a port where the hub is the downstream end (R192): the setup record; its stage,
0 while OUT data are awaited, 1 while the request is served, 2 once the answer is ready, 3 once its data are acknowledged or its
status packet is out; and whether that is STALL. -/
structure Control where
  port : Nat
  setup : Nat
  stage : Nat
  stall : Bool
  /-- Bytes of OUT data received so far, and the data; or the bytes of IN data not yet acknowledged. -/
  len : Nat
  data : Nat
  deriving DecidableEq, Repr

/-- The RESPONSE stored for a SRC (R205), by the link of a link-local frame or 18 for a routed one: TAG, RESULT and IN data; RESULT
is 2 while the request is served. -/
structure StoredResponse where
  src : Nat
  port : Nat
  tag : Nat
  result : Nat
  len : Nat
  data : Nat
  /-- It answers a request for an entry of OD 0x7040, which stays clear (R448). -/
  clear : Bool
  deriving DecidableEq, Repr

/-! ### The Eclin-1 fabric -/

/-- A fabric neighbour heard on a port (R341): node ID, SERIAL, whether it is two-way, and the instant of its last HELLO. -/
structure Neighbour where
  port : Nat
  node : Nat
  serial : Nat
  twoWay : Bool
  last : Nat
  deriving DecidableEq, Repr

/-- A link-state advertisement stored in the hub (R342): originator, LSA_SEQ, SERIAL, its two-way neighbours with their costs,
and the instant of its last refresh. -/
structure Lsa where
  node : Nat
  seq : Nat
  serial : Nat
  links : List (Nat × Nat)
  at_ : Nat
  deriving DecidableEq, Repr

/-- A link-local CONTROL frame of the hub that waits for credit on a TS link (R204): its context, payload bytes and payload, and whether it
is one for OD 0x7040, which is never encrypted (R448). -/
structure ControlFrame where
  port : Nat
  context : Nat
  len : Nat
  payload : Nat
  clear : Bool
  deriving DecidableEq, Repr

/-- An Eclin-1 frame that waits for the upstream end's IN on a fabric port whose downstream end the hub is: header, payload and CRC-32
(R162, R340). -/
structure FabricOut where
  port : Nat
  len : Nat
  data : Nat
  deriving DecidableEq, Repr

/-- Bytes that an endpoint of a packet link has received from the first of the frame in reception on (R198): the port, the endpoint, the bytes,
and the instant of the last. -/
structure RxStream where
  port : Nat
  ep : Nat
  len : Nat
  data : Nat
  last : Nat
  deriving DecidableEq, Repr

/-- A flooded LSA that a link has not acknowledged: the port, the originator, LSA_SEQ and the instant it was last sent (R342). -/
structure LsaWait where
  port : Nat
  node : Nat
  seq : Nat
  sent : Nat
  deriving DecidableEq, Repr

/-! ### The line monitor -/

/-- The hourly means of one measurement of Dn, oldest first, 72 at most (R50); `sub` is its subindex in Table 2-12. -/
structure LineTrend where
  port : Nat
  sub : Nat
  means : List Nat
  deriving DecidableEq, Repr

/-- A stored trace of Dn: kind 0 the last trace, 1 the baseline with its readings, 2 the trip-location record (R50, R57, R60). -/
structure LineRecord where
  port : Nat
  kind : Nat
  echoes : List Echo
  trace : Nat
  readings : List Nat
  deriving DecidableEq, Repr

/-! ### Delegated polling -/

/-- A write of a poll entry that has not taken effect: the entry, its value, and the micro-frame that held the write (R251). -/
structure PollWrite where
  entry : Nat
  value : Nat
  uframe : Nat
  deriving DecidableEq, Repr

/-- A report of the open batch: its completion stamp and the record of Table 8-5 (R261, R262). -/
structure PollReport where
  stamp : Nat
  record : Nat
  deriving DecidableEq, Repr

/-! ### The object dictionary -/

/-- A write staged in a transaction (R365): the entry's key and the value's bytes. -/
structure Staged where
  key : Nat
  len : Nat
  value : Nat
  deriving DecidableEq, Repr

/-- A transaction (R365, R366): the requester that opened it, the session in its BEGIN, its reference, its staged writes in
order, the instant of its last request and its stage: 0 open, 1 validating, 2 applying. -/
structure OdTxn where
  who : Nat
  session : Nat
  ref : Nat
  staged : List Staged
  last : Nat
  stage : Nat
  deriving DecidableEq, Repr

/-- What OD_STATUS tells a requester (R370): the result of its last request, the request, the index and subindex it named,
and the operations done. -/
structure OdRequester where
  who : Nat
  result : Nat
  request : Nat
  index : Nat
  sub : Nat
  done : Nat
  deriving DecidableEq, Repr

/-- A SAVE under way (R375): its requester, the copy it writes (1 A, 2 B) and the records. -/
structure SaveJob where
  who : Nat
  target : Nat
  records : List (Nat × Nat)
  deriving DecidableEq, Repr

/-! ### Domains and start-up -/

/-- The group command under way (R408 to R422): pairs still to visit in order; domains changed with their states before, last
first; phase 0 a visit is due, 1 a delay runs, 2 the wake cost waits in Slate, 3 clocks start, 4 a return's delay runs;
the pair under way, the clocks still to start (1 XO, 2 PLL, 3 trunk reference), and the outcome it will end with. -/
structure GroupCmd where
  ref : Nat
  source : Nat
  todo : List (Nat × Nat)
  changed : List (Nat × Nat)
  phase : Nat
  at_ : Nat
  target : Nat
  clocks : List Nat
  outcome : Nat
  refuser : Nat
  cause : Nat
  detail : Nat
  queued : Bool
  queuedUs : Nat
  warmLost : Bool
  /-- A cancel or a preemption waits for the next visit boundary: its outcome, 0 for none. -/
  stop : Nat
  /-- Domains that a transaction in its apply phase writes, and PD1 (R410); empty outside one. -/
  barred : List Nat
  /-- LOG_SEQ and source of the report whose reaction this is, and its time. -/
  fault : Option (Nat × Nat × Nat)
  deriving DecidableEq, Repr

/-- The power die's hold record of a downstream port (Table 17-4); event 0 NONE, 1 DETACH, 2 a trip, 3 an abort; `orient`
holds CF_SWAP and DATA_SWAP; `opens` says that the power die has opened the pairs. -/
structure HoldRec where
  port : Nat
  attached : Bool
  orient : Nat
  power : Nat
  offCause : Nat
  rail : Nat
  limit : Nat
  state : Nat
  inForce : Nat
  cRail : Nat
  cOp : Nat
  cLimit : Nat
  cfs : Nat
  alt : Nat
  altParams : Nat
  tx0 : Nat
  tx1 : Nat
  rx0 : Nat
  rx1 : Nat
  event : Nat
  peak : Nat
  opens : Bool
  deriving DecidableEq, Repr

/-! ### The non-volatile array -/

/-- One of the two copies of a region of the non-volatile array (R374, R438, R483): 0 and 1 are the configuration copies A and B,
2 and 3 the security region's, 4 and 5 the repair map's. STATUS is Table 12-9's verdict of R376 (0 VALID, 1 BLANK); the
records are entries with their values, and a repair map copy holds the map. -/
structure NvCopy where
  id : Nat
  status : Nat
  seq : Nat
  records : List (Nat × Nat)
  map : RepairMap
  deriving DecidableEq, Repr

/-! ### Relays and link keys -/

/-- A relay (R328, R329): state 1 waiting for the port's turn, 2 with the child, 3 completed; the request bytes and, once
completed, RESULT and the IN data. -/
structure Relay where
  port : Nat
  tag : Nat
  src : Nat
  state : Nat
  request : Nat
  len : Nat
  childTag : Nat
  deadline : Nat
  result : Nat
  outLen : Nat
  data : Nat
  deriving DecidableEq, Repr

/-- The link keys of a trunk (R450, R451): key and salt, current and next, for each direction. -/
structure LinkKey where
  trunk : Nat
  rxCur : Option (Nat × Nat)
  rxNext : Option (Nat × Nat)
  txCur : Option (Nat × Nat)
  txNext : Option (Nat × Nat)
  deriving DecidableEq, Repr

/-- A key exchange under way on a trunk (R449): the hub's end, OP, stage (at the upstream end 0 DEVICE_CERT is asked for, 1 CA_CERT,
2 LINK_KEYX is written, 3 the reply is asked for), the TAG asked with, the peer's DEVICE_CERT, the hub's ephemeral secret
number, and the LINK_KEYX message. -/
structure KeyExchange where
  trunk : Nat
  upstream : Bool
  op : Nat
  stage : Nat
  tag : Nat
  cert : Nat
  secret : Nat
  message : Nat
  deriving DecidableEq, Repr

/-! ### What the hub sends out -/

/-- A command of the logic die to the power die (R24). -/
inductive PowerDie where
  /-- Both FET pairs of the port open. -/
  | openPairs
  /-- The discharge path on or off. -/
  | discharge (on : Bool)
  /-- The discharge path on for 10 ms (R56). -/
  | dischargePulse
  /-- The probe source: 0 off, 1 +3.0 V, 2 −3.0 V (Table 2-6). -/
  | probe (source : Nat)
  /-- Power on to a rail, with the active limit in mA (R141). -/
  | powerOn (rail limit : Nat)
  /-- A rail move with slew in 0.1 V/ms (R117). -/
  | move (rail slew : Nat)
  /-- The incoming pair fully on (Table 4-16 step 4). -/
  | fullyOn (rail : Nat)
  /-- A new current limit in mA. -/
  | limit (mA : Nat)
  /-- The cable-electronics supply on or off (R128). -/
  | cfs (on : Bool)
  /-- Hold, and the release from hold (R496, R499). -/
  | hold | release
  deriving DecidableEq, Repr

/-- What the hub sends out: on its wires, to the power die, to the manager, to the host. The model's own record. -/
inductive Emission where
  | powerDie (p : Nat) (c : PowerDie)
  /-- A CF message: the instant of its preamble start, header, data objects and CRC-32 (R84, R85). -/
  | cf (p start header : Nat) (objs : List Nat) (crc : Nat)
  /-- The HARD_RESET line signal (R88). -/
  | hardReset (p : Nat)
  /-- A record to the manager. -/
  | toManager (k : RecordKind) (record : Nat)
  /-- The hub's own presence pull-up: 0 off, 1 on D+, 2 on D− (R162, R167). -/
  | pullUp (p line : Nat)
  /-- The outcome of a register write, coded as Table 12-6 (R13). -/
  | writeResult (code : Nat)
  /-- A LINK frame of a kind of Table 6-17 with its payload. -/
  | linkFrame (p kind payload : Nat)
  /-- Driven SE0 of a reset, the grant of a class, and K of a resume or wake (R169, R170, R209, R210). -/
  | driveSe0 (p : Nat)
  | grant (p cls : Nat)
  /-- The offer of a class by the hub as downstream end (R170). -/
  | offer (p cls : Nat)
  /-- The EOP of two LS bit times that ends a resume (R209). -/
  | resumeEop (p : Nat)
  | driveK (p : Nat)
  /-- Remote wake on a link whose downstream end the hub is, from this stamp on: K for tWakeK, or /TR1/ on a TS link (R210, R211). -/
  | remoteWake (p start : Nat)
  /-- TS training symbols: 1 /TR1/, 2 /TR2/ (R172). -/
  | train (p kind : Nat)
  /-- SOF: the body of Table 6-8 and whether it is extended (R180). -/
  | sof (p body : Nat) (ext : Bool)
  /-- OUT with DATA packets: first SEQ, packets, bytes and payload (R185). -/
  | outBurst (p dev ep seq packets len payload : Nat)
  /-- IN with COUNT (R186). -/
  | inToken (p dev ep count : Nat)
  /-- PING, with TIME (R177, R189). -/
  | ping (p dev ep : Nat) (time : Bool)
  /-- SETUP with its record (R192). -/
  | setup (p dev record : Nat)
  /-- ACK 0x9, NAK 0xA, STALL 0xB or NYET 0xC with NEXT (R183). -/
  | handshake (p code next : Nat)
  /-- DATA packets the hub answers with: first SEQ, packets, bytes and payload. -/
  | dataBurst (p ep seq packets len payload : Nat)
  /-- The data stage of a control transfer that the hub answers. -/
  | controlData (p len data : Nat)
  /-- A relayed control transfer on a packet link: the child's address and the request of Table 11-3 (R329). -/
  | relayOut (p dev len request : Nat)
  /-- An Eclin-1 frame: its bytes, which are its header of Table 11-9, its payload and its CRC-32 (R340). -/
  | fabric (p len bytes : Nat)
  /-- A CONTROL frame of Flint: STAGE in the context, link-local on a port or routed to DEST. -/
  | control (p dest context len payload : Nat)
  /-- Characters that the serial function sends on a port (R135). -/
  | serialOut (p len data : Nat)
  /-- The rewritten header of a frame that begins on a port (R296). -/
  | frameHeader (p header : Nat)
  /-- The rest of a frame on a port (R198, R199): its payload bytes as sent, the authentication tag with ENC, the CRC-32, and whether its end is
  the poisoned one. -/
  | frameEnd (p len data : Nat) (tag : Option Nat) (crc : Nat) (poisoned : Bool)
  /-- The answer to a dictionary request: requester, request, result of Table 12-6, data bytes and data (R369). -/
  | odResult (who request code len data : Nat)
  /-- Words that the host reads from the host link (R384). -/
  | hostWords (ws : List Nat)
  deriving DecidableEq, Repr

structure Hub where
  cells : List (Nat × Nat)
  now : Nat
  out : List Emission
  portHeld : List (Nat × Nat)
  hierHeld : Option Nat
  domHeld : Option Nat
  log : List LogRec
  unacked : List Unacked
  shadows : List Shadow
  tests : List SelfTest
  reactions : List Reaction
  sbeLast : List (Nat × Nat)
  repair : RepairMap
  fencePending : List (Nat × Nat)
  cfTx : List CfTx
  /-- What the hub has driven on the message wires since it last heard the far end there, in order (R74). -/
  drives : List CfDrive
  cfAwait : List CfAwait
  cfNew : List CfPending
  cfAns : List CfPending
  cfHeld : List CfHeld
  /-- Ports and records of held messages that expired, owed once the path is ON (R110). -/
  cfExpired : List (Nat × Nat)
  budget : List BudgetEntry
  evq : List FifoWord
  rxq0 : List FifoWord
  rxq1 : List FifoWord
  frames : List Frame
  deliveries : List Delivery
  ring : List Nat
  txns : List Txn
  polls : List PollJob
  neighbours : List Neighbour
  relays : List Relay
  linkKeys : List LinkKey
  keyx : List KeyExchange
  slots : List Slot
  controls : List Control
  stored : List StoredResponse
  trends : List LineTrend
  lineRecords : List LineRecord
  group : Option GroupCmd
  /-- LOG_SEQ, source and DETAIL of reactions whose group command waits (R468). -/
  reactCmds : List (Nat × Nat × Nat)
  holds : List HoldRec
  nv : List NvCopy
  /-- Blocks of 512 bytes of the external flash that have been written: slot × 1,024 + block, and the bytes (R444). -/
  flash : List (Nat × Nat)
  /-- Writes of the poll table that wait for the next micro-frame, in order (R251). -/
  pollWrites : List PollWrite
  /-- Reports of the open batch, in their order (R262). -/
  batch : List PollReport
  odTxns : List OdTxn
  requesters : List OdRequester
  saving : Option SaveJob
  /-- Writes through the direct window that wait for a transaction's apply phase to end, in order (R368). -/
  winHeld : List (Nat × Nat)
  /-- The host-link mailbox: length and bytes of the request taken and of the response that is ready (R388, R389). -/
  odReq : Option (Nat × Nat)
  odResp : Option (Nat × Nat)
  /-- Words of TXQ, oldest first (R396). -/
  txq : List FifoWord
  /-- Session record and the session's key (R441). -/
  sessionKeys : List (Nat × Nat)
  lsdb : List Lsa
  lsaWaits : List LsaWait
  ctlWait : List ControlFrame
  fabOut : List FabricOut
  /-- Frames in reception on packet links (R198). -/
  rxStreams : List RxStream
  /-- Next hops of the shortest paths: originator and the port toward it (R344). -/
  nextHops : List (Nat × Nat)
  /-- Orphaned cells of the audit before: physical bank × 512 + cell, and the tag of its last allocation (R321). -/
  orphans : List (Nat × Nat)
  deriving DecidableEq, Repr

/-- The whole state: the hub, and the commands that wait, first in first out. -/
structure State extends Hub where
  pending : List Instr
  deriving DecidableEq, Repr

/-- Reasons for a fault. There is none: the spec gives the block no stop, and no command acts on anything whose behaviour the
spec leaves out whole. -/
inductive Fault where
  deriving DecidableEq, Repr

/-- Reasons for a refusal. -/
inductive Refusal where
  /-- Raised by exec's arm of a command that has no meaning yet; safe, since the model stops where the hub goes on. -/
  | notModelled (mnemonic : String)
  deriving DecidableEq, Repr

/-- The repair map as made (Table 16-14): no bad bank, the factory bank map, the cores paired 0 with 1. -/
def RepairMap.factory : RepairMap :=
  { seq := 0, badBanks := 0, bankMap := 0, retired := 0, pairA := 0, pairB := 1, phyFailed := 0, rowsUsed := 0, fenced := [],
    changed := 0 }

/-- The hub at the instant of a POWER_ON reset (R489, R490): every cell at its default, every domain OFF, every list empty. -/
def Hub.reset : Hub :=
  { cells := [], now := 0, out := [], portHeld := [], hierHeld := none, domHeld := none, log := [], unacked := [],
    shadows := [], tests := [], reactions := [], sbeLast := [], repair := RepairMap.factory, fencePending := [], cfTx := [],
    drives := [], cfAwait := [], cfNew := [], cfAns := [], cfHeld := [], cfExpired := [], budget := [], evq := [], rxq0 := [], rxq1 := [], frames := [],
    deliveries := [], ring := [], txns := [], polls := [], neighbours := [], relays := [], linkKeys := [], keyx := [],
    slots := [], controls := [], stored := [], trends := [], lineRecords := [],
    group := none, reactCmds := [], holds := [], nv := [], flash := [], pollWrites := [], batch := [], odTxns := [],
    requesters := [], saving := none, winHeld := [], odReq := none, odResp := none, txq := [], sessionKeys := [], lsdb := [],
    lsaWaits := [], ctlWait := [], fabOut := [], rxStreams := [], nextHops := [], orphans := [] }

/-- The machine right after reset, with no command waiting. -/
def State.reset : State := { toHub := Hub.reset, pending := [] }

end Sys2Proof.Machine
end

