-- ==== Sys2Proof/Machine/Ops.lean ====
section
/-!
DEFINITION. Sys2Proof/Machine/Ops.lean: the named operations over the hub: reading and writing a cell (an entry of the
dictionary or an internal register), counters, timers, free values, the time stamps of R18 and R26, the domain queries
of R406 and Table 1-3, the records to the manager, and the frame every meaning runs in.
-/
namespace Sys2Proof.Machine

/-- Reads cell k of the store; a cell with no entry holds its default. The search stops at the first larger key. -/
def cellGet : List (Nat × Nat) → Nat → Nat
  | [], k => odDefault k
  | (k', v) :: r, k => if k = k' then v else if k < k' then odDefault k else cellGet r k

/-- Drops the leading entries whose key is at most k. -/
def cellDrop : List (Nat × Nat) → Nat → List (Nat × Nat)
  | [], _ => []
  | (k', v) :: r, k => if k' ≤ k then cellDrop r k else (k', v) :: r

/-- Writes cell k, keeping the canonical form: keys strictly rising and no entry equal to its default. -/
def cellPut : List (Nat × Nat) → Nat → Nat → List (Nat × Nat)
  | [], k, v => if v = odDefault k then [] else [(k, v)]
  | (k', v') :: r, k, v =>
    if k < k' then (if v = odDefault k then (k', v') :: r else (k, v) :: (k', v') :: r)
    else if k = k' then (if v = odDefault k then cellDrop r k else (k, v) :: r)
    else (k', v') :: cellPut r k v

/-- Every key lies above the bound, keys rise strictly, and no entry equals its default. -/
def cellsWfFrom : Option Nat → List (Nat × Nat) → Bool
  | _, [] => true
  | b, (k, v) :: r => (match b with | none => true | some m => decide (m < k)) && decide (v ≠ odDefault k) && cellsWfFrom (some k) r

/-- The canonical form of the cell store. -/
def cellsWf (l : List (Nat × Nat)) : Bool := cellsWfFrom none l

/-- The elements of a list whose key is not k. -/
def dropBy {α : Type} (key : α → Nat) (k : Nat) (l : List α) : List α := l.filter (fun x => key x != k)

/-- Drops the first element that satisfies a test. -/
def dropFirst {α : Type} (f : α → Bool) : List α → List α
  | [] => []
  | x :: r => if f x then r else x :: dropFirst f r

/-- Puts an element in place of the one with its key. -/
def putBy {α : Type} (key : α → Nat) (x : α) (l : List α) : List α := x :: dropBy key (key x) l

/-- The elapsed periods of the real-time counter as timebase ticks, rounded up to 8 ns (R271). -/
def elapsedPeriods (ns : Nat) : Nat := ceilDiv (ceilDiv ((ns * 32768 / 1000000000) * 30517578125) 1000000) 8 * 8

/-- The hour window k of [k·3,600 s, (k+1)·3,600 s) in which a stamp lies (R50). -/
def hourOf (stamp : Nat) : Nat := stamp / 3600000000000

namespace Hub

/-- The value of an entry of the dictionary or of an internal register. -/
def rd (h : Hub) (k : Nat) : Nat := cellGet h.cells k

/-- Writes an entry of the dictionary or an internal register. -/
def wr (h : Hub) (k v : Nat) : Hub := { h with cells := cellPut h.cells k v }

/-- Writes several cells, in order. -/
def wrAll (h : Hub) : List (Nat × Nat) → Hub
  | [] => h
  | (k, v) :: r => (h.wr k v).wrAll r

/-- Adds one to a counter of w bits, saturating (R22). -/
def inc (h : Hub) (k : Nat) (w : Nat := 32) : Hub := h.wr k (satInc w (h.rd k))

/-- Adds n to a counter of w bits, saturating (R22). -/
def add (h : Hub) (k n : Nat) (w : Nat := 32) : Hub := h.wr k (satAdd w (h.rd k) n)

/-- Starts a timer: its expiry counts from `d` nanoseconds from now on. -/
def arm (h : Hub) (k d : Nat) : Hub := h.wr k (h.now + d + 1)

/-- Stops a timer. -/
def stop (h : Hub) (k : Nat) : Hub := h.wr k 0

/-- Stops several timers or clears several registers. -/
def clear (h : Hub) : List Nat → Hub
  | [] => h
  | k :: r => (h.wr k 0).clear r

/-- A timer runs. -/
def running (h : Hub) (k : Nat) : Bool := h.rd k != 0

/-- A timer runs and its deadline is reached; the window before it is half-open (R19). -/
def due (h : Hub) (k : Nat) : Bool := h.rd k != 0 && decide (h.rd k ≤ h.now + 1)

/-- What a timer's expiry does: nothing unless it runs and is due; otherwise it stops and f follows. -/
def expire (h : Hub) (k : Nat) (f : Hub → Hub) : Hub := if h.due k then f (h.wr k 0) else h

/-- Appends to what the hub sends out. -/
def emit (h : Hub) (e : Emission) : Hub := { h with out := h.out ++ [e] }

/-- Takes the next free value (log entry 2): the value, and the hub with the counter advanced. -/
def fresh (h : Hub) : Nat × Hub := (Config.free (h.rd Reg.freeNext), h.wr Reg.freeNext (h.rd Reg.freeNext + 1))

/-- The state code of domain d, 1 to 12: 0 OFF, 1 RET, 2 ON, 3 WAKING, 4 HELD, 5 PARKING, 6 PARKED (Table 14-9). -/
def dom (h : Hub) (d : Nat) : Nat := h.rd (Od.DOMAIN_RECORD d) % 256

/-- Domain d is ON; only ON counts as ON (R406). -/
def isOn (h : Hub) (d : Nat) : Bool := h.dom d == 2

/-- Flint serves: PD1 is ON and FW_STATE reads RUNNING (R426). -/
def flintOn (h : Hub) : Bool := h.isOn 1 && h.rd Od.FW_STATE == 2

/-- Some Shale domain is ON. -/
def shaleOn (h : Hub) : Bool := h.isOn 3 || h.isOn 4

/-- The role in force (R31). -/
def role (h : Hub) : Nat := h.rd Od.HUB_ROLE_ACTIVE

/-- The path of an event record to the manager (Table 1-3): PD1, PD2, a Shale domain and PD6; on a MANAGER hub the
supervisory processor stands on the host link, so PD12 takes the place of PD6 (R32; log entry 8). -/
def managerPath (h : Hub) : Bool :=
  h.flintOn && h.isOn 2 && h.shaleOn && (if h.role = 1 then h.isOn 12 else h.isOn 6)

/-- The real-time counter, in nanoseconds, in steps of 8 (R26, R490). -/
def rtc (h : Hub) : Nat := (h.now - h.rd Reg.rtcStart) / 8 * 8

/-- The correction of the timebase's rate in ppb: TIME_TRIM on a source, FREQ_CORR otherwise (R267, R269). -/
def tbRate (h : Hub) : Int := toSigned 32 (if h.rd Od.SYNC_STATE = 0 then h.rd Od.TIME_TRIM else h.rd Od.FREQ_CORR)

/-- The timebase in ns, before it is cut to its ticks: it advances while PD5 is ON and stands otherwise (R18, R271). -/
def tbNow (h : Hub) : Nat :=
  if h.isOn 5 then h.rd Reg.tbBase + ((h.now - h.rd Reg.tbAt : Nat) * (1000000000 + h.tbRate) / 1000000000).toNat else h.rd Reg.tbBase

/-- The timebase, in steps of 8 ns (R18, R271). -/
def timebase (h : Hub) : Nat := h.tbNow / 8 * 8 % 2 ^ 64

/-- The timebase takes a value at this instant. -/
def setTimebase (v : Nat) (h : Hub) : Hub := h.wr Reg.tbBase v |>.wr Reg.tbAt h.now

/-- The timebase goes on from its present value, at a rate that changes now. -/
def rebase (h : Hub) : Hub := h.setTimebase h.tbNow

/-- The real-time counter mapped onto the timebase's scale: the value at which the timebase stopped plus the elapsed periods
(R271). -/
def mapped (h : Hub) : Nat := (h.rd Reg.tbBase + elapsedPeriods (h.now - h.rd Reg.tbAt)) % 2 ^ 64

/-- The time of the grid: the timebase, or what the mapped counter gives while PD5 is not ON (R175, R271). -/
def gridTime (h : Hub) : Nat := if h.isOn 5 then h.timebase else h.mapped

/-- The stamp of an event: the timebase while PD5 is ON, the mapped real-time counter otherwise (R26, R271); the effects of
a late report carry that report's stamp (R500). -/
def stamp (h : Hub) : Nat :=
  if h.rd Reg.stampAs ≠ 0 then h.rd Reg.stampAs - 1 else if h.isOn 5 then h.timebase else h.mapped

/-- A port record of 48 bytes goes to the manager; while the path is not ON the latest of each port is held, with HELD set
(R230). -/
def sendPortRecord (p r : Nat) (h : Hub) : Hub :=
  if h.managerPath then h.emit (.toManager .port r)
  else { h with portHeld := putBy Prod.fst (p, setBit r 49) h.portHeld }

/-- A hierarchy record, under the same holding rule (R332). -/
def sendHierRecord (r : Nat) (h : Hub) : Hub :=
  if h.managerPath then h.emit (.toManager .hierarchy r) else { h with hierHeld := some r }

/-- The notice of the end of a group command, under the same holding rule (R420). -/
def sendDomainRecord (r : Nat) (h : Hub) : Hub :=
  if h.managerPath then h.emit (.toManager .domain r) else { h with domHeld := some r }

/-- The PHY domain of a port: PD7 to PD10 for D0 to D15, PD6 for the trunks, PD1 for port 18, PD12 for port 19 (Table 1-1). -/
def portDomain (p : Nat) : Nat := if p < 16 then 7 + p / 4 else if p < 18 then 6 else if p = 18 then 1 else 12

/-- The PHY domain of port p is ON; port 18 needs Flint to serve (R466). -/
def phyOn (h : Hub) (p : Nat) : Bool := if p = 18 then h.flintOn else h.isOn (portDomain p)

/-- Every cell whose key lies from lo to below hi returns to its default. -/
def wipe (lo hi : Nat) (h : Hub) : Hub := { h with cells := h.cells.filter (fun c => !(decide (lo ≤ c.1) && decide (c.1 < hi))) }

/-- The hub's own hub ID for Granite's lookup: 0x000 on a FABRIC_NODE, as on a MANAGER (R284, R340). -/
def ownHub (h : Hub) : Nat := if h.role = 2 then 0 else h.rd Od.HUB_ID

/-- Advances the hub's clock to a command's stamp, in steps of 8 ns; a stamp in the past changes nothing (R18). -/
def advance (h : Hub) (t : Nat) : Hub := { h with now := max h.now (t / 8 * 8) }

/-- One message in flight per port: the hub's own CF message of port p. -/
def txOf (h : Hub) (p : Nat) : Option CfTx := h.cfTx.find? (fun x => x.port == p)

/-- The received message of port p that awaits the manager's answer (R109). -/
def awaitOf (h : Hub) (p : Nat) : Option CfAwait := h.cfAwait.find? (fun x => x.port == p)

/-- The pending NEW_EXCHANGE of port p (R111). -/
def newOf (h : Hub) (p : Nat) : Option CfPending := h.cfNew.find? (fun x => x.port == p)

/-- The pending ANSWER of port p. -/
def ansOf (h : Hub) (p : Nat) : Option CfPending := h.cfAns.find? (fun x => x.port == p)

/-- A bit of a bit-mapped entry set or cleared. -/
def wrBit (h : Hub) (k i : Nat) (b : Bool) : Hub := h.wr k (putBit (h.rd k) i b)

end Hub

/-- ms in nanoseconds. -/
abbrev ms (n : Nat) : Nat := n * 1000000

/-- µs in nanoseconds. -/
abbrev us (n : Nat) : Nat := n * 1000

end Sys2Proof.Machine
end

