-- ==== Sys2Proof/Machine/Report.lean ====
section
/-!
DEFINITION. Sys2Proof/Machine/Report.lean: a report to Garnet, as one shared operation (R459 to R479): the stamp, the
consequence shadows, the level, the record, the acknowledgement state, the reaction owed and the self-test.
-/
namespace Sys2Proof.Machine

/-- The target of a source (Table 16-1). -/
inductive Target where
  | none | port | flint | granite
  deriving DecidableEq, Repr

/-- A source's class, kind and target (Table 16-1). -/
structure Source where
  id : Nat
  cls : Nat
  fault : Bool
  target : Target
  deriving DecidableEq, Repr

/-- Table 16-1; 0xA1 to 0xA3 take their class from a parent. -/
def sources : List Source :=
  [ ⟨0x01, 0, false, .none⟩, ⟨0x02, 0, true, .granite⟩, ⟨0x03, 0, false, .none⟩, ⟨0x04, 0, true, .flint⟩,
    ⟨0x05, 0, true, .none⟩, ⟨0x06, 0, true, .none⟩, ⟨0x07, 0, false, .none⟩, ⟨0x08, 0, true, .granite⟩,
    ⟨0x11, 1, true, .port⟩, ⟨0x12, 1, true, .port⟩, ⟨0x13, 1, false, .none⟩,
    ⟨0x21, 2, true, .port⟩, ⟨0x22, 2, true, .port⟩, ⟨0x23, 2, false, .none⟩, ⟨0x24, 2, false, .none⟩, ⟨0x25, 2, false, .none⟩,
    ⟨0x31, 3, false, .none⟩, ⟨0x32, 3, false, .none⟩,
    ⟨0x41, 4, true, .none⟩, ⟨0x42, 4, true, .none⟩, ⟨0x43, 4, true, .none⟩,
    ⟨0x51, 5, true, .flint⟩, ⟨0x52, 5, true, .flint⟩,
    ⟨0x61, 6, true, .none⟩, ⟨0x62, 6, true, .none⟩, ⟨0x63, 6, false, .none⟩,
    ⟨0x71, 7, true, .none⟩, ⟨0x72, 7, true, .none⟩, ⟨0x73, 7, false, .none⟩, ⟨0x74, 7, true, .none⟩,
    ⟨0x81, 8, true, .none⟩, ⟨0x82, 8, true, .none⟩, ⟨0x83, 8, true, .none⟩,
    ⟨0x91, 9, true, .none⟩, ⟨0x92, 9, true, .none⟩, ⟨0x93, 9, false, .none⟩, ⟨0x94, 9, true, .none⟩,
    ⟨0xA1, 0, false, .none⟩, ⟨0xA2, 0, false, .none⟩, ⟨0xA3, 0, true, .none⟩ ]

/-- The row of a source. -/
def sourceRow (id : Nat) : Source := (sources.find? (fun s => s.id == id)).getD ⟨id, 0, false, .none⟩

/-- The record as 32 bytes (Table 16-2). -/
def LogRec.bytes (r : LogRec) : Nat :=
  pack [(4, r.seq), (8, r.stamp), (1, r.source), (1, r.cls), (1, r.levelSet), (1, r.applied), (1, r.flags), (1, r.verdict),
        (2, 0), (4, r.parent), (4, r.detail), (4, r.value)]

/-- A shadow covers a report of source src with this DETAIL. -/
def Cover.hits (c : Cover) (src detail : Nat) : Bool :=
  match c with
  | .every s => s == src
  | .low s v => s == src && detail % 256 == v
  | .exact s v => s == src && detail == v

/-- A shadow's window holds the instant (R475, half-open under R19). -/
def Shadow.openAt (s : Shadow) (t : Nat) : Bool :=
  decide (s.t0 ≤ t) && (match s.ends with | none => true | some e => decide (t < e))

/-- The fault class of a record carries FAULT kind in FLAGS bit 0 (Table 16-2). -/
def LogRec.isFault (r : LogRec) : Bool := hasBit r.flags 0

/-- LOG_SEQ a is after b in the log, by serial arithmetic over 32 bits. -/
def seqAfter (a b : Nat) : Bool := newer 32 a b

namespace Hub

/-- One open shadow more, unless all 16 are in use (R476). -/
def openShadow (s : Shadow) (h : Hub) : Hub :=
  let live := h.shadows.filter (fun x => match x.ends with | none => true | some e => decide (h.now < e))
  if live.length < 16 then { h with shadows := live ++ [s] }
  else { h with shadows := live }.inc Od.SHADOWS_REFUSED

/-- The words a fault record takes in EVQ: 8 data words (R396, R400). -/
def evqWords (r : LogRec) (pseq : Nat) : List FifoWord :=
  (List.range 8).map (fun i : Nat =>
    FifoWord.mk (i == 0) (i == 7) false 0 pseq (field (LogRec.bytes r) (4 * i) 4) r.seq)

/-- Queues records to EVQ in log order while PD12 is ON and they fit (R400, R463); the fuel is the log's length. -/
def pumpEvqN : Nat → Hub → Hub
  | 0, h => h
  | n + 1, h =>
    match h.log.find? (fun r => seqAfter r.seq (h.rd Reg.evqQueued)) with
    | none => h
    | some r =>
      if h.isOn 12 && decide (h.evq.length + 8 ≤ 512) then
        pumpEvqN n ({ h with evq := h.evq ++ evqWords r (h.rd (Reg.pseq 2) % 4) }
          |>.wr (Reg.pseq 2) ((h.rd (Reg.pseq 2) + 1) % 4) |>.wr Reg.evqQueued r.seq)
      else h

/-- Queues every record that fits to EVQ. -/
def pumpEvq (h : Hub) : Hub := pumpEvqN h.log.length h

/-- A record goes to the manager at level L1 or higher; a CONSEQUENTIAL one never (R463, R475). -/
def forManager (r : LogRec) : Bool := r.applied != 0xFF && decide (1 ≤ r.applied)

/-- Sends the records not yet sent to the manager, in log order, while its path is ON (R463). -/
def pumpManager (h : Hub) : Hub :=
  if h.managerPath && h.rd Reg.mgrSent != h.rd Od.LOG_WRITTEN then
    let due := h.log.filter (fun r => seqAfter r.seq (h.rd Reg.mgrSent))
    ({ h with out := h.out ++ (due.filter forManager).map (fun r : LogRec => Emission.toManager .fault (LogRec.bytes r)) }).wr
      Reg.mgrSent (h.rd Od.LOG_WRITTEN)
  else h

/-- Appends a record; the log holds the last 512. A record overwritten before it reached EVQ, or at L1 or higher before
it was sent to the manager, counts once in LOG_OVERRUN (R462, R463). -/
def appendLog (r : LogRec) (h : Hub) : Hub :=
  let h1 := { h with log := h.log ++ [r] }.wr Od.LOG_WRITTEN r.seq
  if h.log.length < 512 then h1
  else match h.log with
    | [] => h1
    | old :: _ =>
      let h2 := { h1 with log := h1.log.drop 1 }
      let lostE := seqAfter old.seq (h.rd Reg.evqQueued)
      let lostM := forManager old && seqAfter old.seq (h.rd Reg.mgrSent)
      let h3 := if lostE then h2.wr Reg.evqQueued old.seq else h2
      let h4 := if seqAfter old.seq (h.rd Reg.mgrSent) then h3.wr Reg.mgrSent old.seq else h3
      if lostE || lostM then h4.inc Od.LOG_OVERRUN else h4

/-- The highest applied level among the unacknowledged faults of a class, 0 for none (R472). -/
def highestUnacked (h : Hub) (cls : Nat) : Nat :=
  (h.unacked.filter (fun u => u.cls == cls)).foldl (fun m u => max m u.level) 0

/-- The class has an unacknowledged fault. -/
def hasUnacked (h : Hub) (cls : Nat) : Bool := h.unacked.any (fun u => u.cls == cls)

/-- The applied level of a report (R472): S while the class has no unacknowledged fault or for an EVENT, otherwise
max(S, min(K, H + 1)). -/
def appliedLevel (h : Hub) (cls : Nat) (fault : Bool) (s : Nat) : Nat :=
  if fault && h.hasUnacked cls then
    max s (min (h.rd (Od.ESC_CEILING (cls + 1))) (h.highestUnacked cls + 1))
  else s

/-- Dn is powered: INRUSH, ON or MOVING (Table 5-1). -/
def powered (h : Hub) (p : Nat) : Bool := [2, 3, 4].contains (h.rd (Od.POWER_STATE p))

/-- A trunk whose link a reaction of level L2 resets (Table 16-4): not the control upstream, and a TS link or one whose
upstream end the hub is. -/
def trunkResets (h : Hub) (p : Nat) : Bool :=
  (p == 16 || p == 17) && h.rd Od.CONTROL_UPSTREAM != p && (h.rd (Od.LINK_CLASS p) == 4 || h.rd (Od.ATTACH_STATE p) == 4)

/-- The shadow of a reaction of L2 or L3 on a target (Table 16-5); a target that carries the level as L1 opens none. -/
def targetCover (h : Hub) (target : Target) (level detail : Nat) : List (List Cover × Nat) :=
  let p := detail % 256
  match target with
  | .none => []
  | .port =>
    if p < 16 ∧ 3 ≤ level then [([.low 0x11 p, .low 0x12 p, .low 0x13 p, .low 0x31 p, .low 0x32 p], ms 1000)]
    else if p < 16 ∨ h.trunkResets p then [([.low 0x11 p, .low 0x12 p, .low 0x13 p], ms 300)]
    else []
  | .flint => [([.every 0x52, .every 0x04, .every 0x03], ms 150)]
  | .granite => [([.every 0x07, .every 0x08, .every 0x11], ms 50)]

/-- The shadow of L4 (Table 16-5). -/
def safeCover (h : Hub) : List Cover × Nat :=
  ([Cover.every 0x11, Cover.every 0x12, Cover.every 0x13]
    ++ ((List.range 16).filter (fun n => byteAt (h.rd Od.FAILSAFE_POLICY) n == 1 && h.powered n)).map (fun n => Cover.low 0x31 n), ms 1000)

/-- The shadows that a report's reaction opens (R464, Table 16-5): each level includes the levels below it, and L3 on
GRANITE is as L4. -/
def reactionCovers (h : Hub) (target : Target) (level detail : Nat) : List (List Cover × Nat) :=
  if level < 2 then []
  else h.targetCover target level detail ++ (if 4 ≤ level ∨ (level = 3 ∧ target = .granite) then [h.safeCover] else [])

/-- A report to Garnet before it is stamped. -/
structure Report where
  src : Nat
  cls : Nat
  detail : Nat
  value : Nat
  forced : Bool
  verdict : Nat
  parent : Nat
  /-- FLAGS bits 5 and 6: TEST_STARTED, TEST_JOINED. -/
  testFlags : Nat

/-- The first open shadow that covers a report (R476). -/
def coveringShadow (h : Hub) (src detail : Nat) : Option Shadow :=
  h.shadows.find? (fun s => s.openAt h.now && s.covers.any (fun c => c.hits src detail))

/-- A CONSEQUENTIAL record (R475): it goes to EVQ only. -/
def writeConsequential (r : Report) (sh : Shadow) (h : Hub) : Hub :=
  let row := sourceRow r.src
  (h.appendLog
    { seq := (h.rd Od.LOG_WRITTEN + 1) % 2 ^ 32, stamp := h.stamp, source := r.src, cls := r.cls,
      levelSet := h.rd (Od.SOURCE r.src) % 8, applied := 0xFF,
      flags := (if row.fault then 1 else 0) + (if h.isOn 5 then 0 else 2) + (if r.forced then 4 else 0) + 8,
      verdict := r.verdict, parent := sh.parent, detail := r.detail, value := r.value }
    |>.inc Od.CONSEQUENTIAL).pumpEvq

/-- A record handled normally (R462 to R472): the log, EVQ, the manager, the acknowledgement state, the shadow of its
reaction and the reaction itself, which is carried out when the command's own effects are done (R468; log entry 4). -/
def writeNormal (r : Report) (h : Hub) : Hub :=
  let row := sourceRow r.src
  let s := h.rd (Od.SOURCE r.src) % 8
  let lvl := h.appliedLevel r.cls row.fault s
  let seq := (h.rd Od.LOG_WRITTEN + 1) % 2 ^ 32
  let h1 := h.appendLog
    { seq := seq, stamp := h.stamp, source := r.src, cls := r.cls, levelSet := s, applied := lvl,
      flags := (if row.fault then 1 else 0) + (if h.isOn 5 then 0 else 2) + (if r.forced then 4 else 0)
        + (if s < lvl then 16 else 0) + r.testFlags,
      verdict := r.verdict, parent := r.parent, detail := r.detail, value := r.value }
  let h2 := if s < lvl then h1.inc Od.ESCALATIONS else h1
  let h3 := if row.fault then { h2 with unacked := h2.unacked ++ [⟨seq, r.cls, lvl⟩] } else h2
  let h4 := (h.reactionCovers row.target lvl r.detail).foldl (fun x c => x.openShadow ⟨h.now, some (h.now + c.2), seq, c.1, none⟩) h3
  let h5 := if 2 ≤ lvl then { h4 with reactions := h4.reactions ++ [⟨seq, r.src, lvl, r.detail⟩] } else h4
  h5.pumpEvq.pumpManager

/-- One report written, as a consequence or normally (R475). -/
def writeReport (r : Report) (h : Hub) : Hub :=
  match h.coveringShadow r.src r.detail with
  | some sh => h.writeConsequential r sh
  | none => h.writeNormal r

/-- A record that a test raises for its parent: sources 0xA1 to 0xA3 (Table 16-1). -/
def childReport (src cls parent detail verdict : Nat) (h : Hub) : Hub :=
  h.writeReport ⟨src, cls, detail, 0, false, verdict, parent, 0⟩

/-- The Shale domain of a physical bank: PD3 for 0 to 25, PD4 for 26 to 51 (Table 1-1). -/
def bankDomain (b : Nat) : Nat := if b < 26 then 3 else 4

/-- The free spare banks of a domain, lowest first (Table 9-6, SPARES_FREE). -/
def freeSpares (h : Hub) (d : Nat) : List Nat :=
  ([(0, 24), (1, 25), (2, 50), (3, 51)].filter (fun x => bankDomain x.2 == d && hasBit (h.rd Od.SPARES_FREE) x.1)).map (·.2)

/-- The bit of SPARES_FREE of a spare bank. -/
def spareBit (b : Nat) : Nat := if b = 24 then 0 else if b = 25 then 1 else if b = 50 then 2 else 3

/-- A self-test on this subject is under way or waits. -/
def underTest (h : Hub) (kind subject : Nat) : Bool := h.tests.any (fun t => t.kind == kind && t.subject == subject)

/-- Cells of a domain that the repair map fences. -/
def fencedOf (h : Hub) (d : Nat) : Nat := (h.repair.fenced.filter (fun c => bankDomain c.1 == d)).length

/-- The repair map changes and is to be saved (R483): a new SEQ and the stamp of the change. -/
def saveRepair (m : RepairMap) (h : Hub) : Hub :=
  { h with repair := { m with seq := (m.seq + 1) % 2 ^ 32, changed := h.stamp } }.arm Tm.repairSave 0

/-- A cell that cannot be repaired by a spare is fenced once its copy count is 0 (R479): a domain holds 64 at most. -/
def fenceCell (b c : Nat) (h : Hub) : Hub :=
  if h.repair.fenced.contains (b, c) then h
  else if h.fencedOf (bankDomain b) < 64 then
    (h.saveRepair { h.repair with fenced := h.repair.fenced ++ [(b, c)] }).inc Od.CELLS_FENCED
  else h

/-- The physical bank and cell of a logical cell under the bank map in force (R278). -/
def physCell (h : Hub) (a : Nat) : Nat × Nat := (byteAt (h.rd Od.BANK_MAP) (a / 512), a % 512)

/-- The frame in Shale that holds a physical cell. -/
def cellHolder (h : Hub) (b c : Nat) : Option Frame := h.frames.find? (fun f => f.live && f.addrs.any (fun a => h.physCell a == (b, c)))

/-- A frame in Shale holds the cell. -/
def cellHeld (h : Hub) (b c : Nat) : Bool := (h.cellHolder b c).isSome

/-- Fences the cell now, or once its frame leaves Shale. -/
def fenceOrWait (b c : Nat) (h : Hub) : Hub :=
  if h.cellHeld b c then { h with fencePending := h.fencePending ++ [(b, c)] } else h.fenceCell b c

/-- What a report of a testing source starts (R477 to R482): the test, or none, and the FLAGS bits of the record. -/
inductive TestStart where
  | nothing | joined | notRun | noSpare
  | run (t : SelfTest) (ends : List Cover)
  deriving DecidableEq, Repr

/-- Decides the self-test of a report (Table 16-7). -/
def testFor (h : Hub) (src detail : Nat) : TestStart :=
  if src = 0x01 ∨ src = 0x02 then
    let b := detail % 256
    let c := bits detail 24 16
    let d := bankDomain b
    if h.underTest 1 b then .joined
    else if src = 0x01 ∧ (h.sbeLast.any (fun x => x.1 == b && decide (h.now < x.2 + h.rd Od.SBE_HOLDOFF * 1000000000))) then .nothing
    else if !(h.isOn 2 && h.isOn d) then .notRun
    else match h.freeSpares d with
      | [] => .noSpare
      | s :: _ =>
        let busy := h.tests.any (fun t => t.kind == 1 && bankDomain t.subject == d)
        .run ⟨1, b, 0, 0, if busy then 0 else 1, c, if busy then 0 else s⟩
          ([.low 0x01 b, .low 0x02 b] ++ (if busy then [] else [.low 0x01 s, .low 0x02 s]))
  else if src = 0x51 then
    if h.underTest 2 0 then .joined
    else if !h.isOn 1 then .notRun
    else .run ⟨2, 0, 0, 0, 4, 0, 0⟩ [.every 0x51, .every 0x52]
  else if src = 0x11 then
    let p := detail % 256
    if h.underTest 3 p then .joined
    else if !h.phyOn p then .notRun
    else .run ⟨3, p, 0, 0, 4, 0, 0⟩ [.low 0x11 p]
  else if src = 0x05 then
    if h.underTest 4 detail then .joined
    else if !h.isOn 1 then .notRun
    else .run ⟨4, detail, 0, 0, 4, 0, 0⟩ [.exact 0x05 detail]
  else .nothing

/-- The counter of a test's kind (Table 16-14); an NV re-read has none but NV_SCRUBS. -/
def countTest (k : Nat) (h : Hub) : Hub :=
  if k = 1 then h.inc Od.BANK_TESTS else if k = 2 then h.inc Od.CORE_TESTS else if k = 3 then h.inc Od.LOOPBACK_TESTS else h

/-- A bank test takes its spare: SPARES_FREE loses it while the copy stands (R478). -/
def takeSpare (s : Nat) (h : Hub) : Hub := h.wr Od.SPARES_FREE (clearBit (h.rd Od.SPARES_FREE) (spareBit s))

/-- Flint halts: FW_STATE reads NOT_LOADED, and what only Flint held is lost (R466, R480). -/
def haltFlint (h : Hub) : Hub :=
  { (if h.rd Od.EP0_OD_HALT = 0 then h.wr Od.EP0_OD_HALT 1 else h) with portHeld := [], hierHeld := none, domHeld := none }.wr Od.FW_STATE 0 |>.wr Od.LAST_COMMITS 0

/-- One report: its record, and the self-test that its source starts. -/
def reportAs (src detail value : Nat) (forced : Bool) (h : Hub) : Hub :=
  let cls := (sourceRow src).cls
  match h.coveringShadow src detail with
  | some sh => h.writeConsequential ⟨src, cls, detail, value, forced, 0, 0, 0⟩ sh
  | none =>
    match h.testFor src detail with
    | .nothing => h.writeNormal ⟨src, cls, detail, value, forced, 0, 0, 0⟩
    | .joined => h.writeNormal ⟨src, cls, detail, value, forced, 0, 0, 64⟩
    | .notRun =>
      let h1 := h.writeNormal ⟨src, cls, detail, value, forced, 0, 0, 0⟩
      h1.childReport 0xA1 cls (h1.rd Od.LOG_WRITTEN) detail 3
    | .noSpare =>
      let h1 := h.writeNormal ⟨src, cls, detail, value, forced, 0, 0, 0⟩
      let q := h1.rd Od.LOG_WRITTEN
      let b := detail % 256
      ((h1.childReport 0xA1 cls q detail 3).childReport 0xA3 cls q b 0).fenceOrWait b (bits detail 24 16)
    | .run t cs =>
      let h1 := h.writeNormal ⟨src, cls, detail, value, forced, 0, 0, 32⟩
      let q := h1.rd Od.LOG_WRITTEN
      let t1 := { t with parent := q, cls := cls }
      let h2 := { h1 with tests := h1.tests ++ [t1] }.openShadow ⟨h1.now, none, q, cs, some (t.kind, t.subject)⟩
      let h3 := h2.countTest t.kind
      if t.kind = 2 then h3.haltFlint else if t.kind = 3 then h3.wr (Reg.loopFrom t.subject) (h3.now + 1) else h3

/-- A detector's report to Garnet (R462). -/
def report (src detail value : Nat) (h : Hub) : Hub := h.reportAs src detail value false

end Hub
end Sys2Proof.Machine
end

