-- ==== Sys2Proof/Machine/Slate.lean ====
section
/-!
DEFINITION. Sys2Proof/Machine/Slate.lean: Slate's budget (R152 to R157): levels, costs, the queue, its release and
withdrawal. Supplies are 0 RAIL_A, 1 RAIL_B and 2 VIN.
-/
namespace Sys2Proof.Machine

/-- The level entry of a supply (Table 5-9). -/
def levelKey (s : Nat) : Nat := if s = 0 then Od.LEVEL_RAIL_A else if s = 1 then Od.LEVEL_RAIL_B else Od.LEVEL_VIN
/-- The capacity entry of a supply. -/
def capKey (s : Nat) : Nat := if s = 0 then Od.CAP_RAIL_A else if s = 1 then Od.CAP_RAIL_B else Od.CAP_VIN
/-- The recovery entry of a supply. -/
def recoveryKey (s : Nat) : Nat :=
  if s = 0 then Od.RECOVERY_RAIL_A else if s = 1 then Od.RECOVERY_RAIL_B else Od.RECOVERY_VIN

/-- A budget tick falls at the hub's instant: the first step of 8 ns at or after a 32nd period of the 32.768 kHz clock, aligned to the
real-time counter (R153). -/
def tickFalls (rtc : Nat) : Bool := decide (rtc * 1024 % 1000000000 < 8 * 1024)

/-- Slate's answer to a request (R153, R154). -/
inductive Grant where
  | released | queued | busy | overCapacity
  deriving DecidableEq, Repr

/-- The action moves the power of a port, not a domain. -/
def BudgetKind.ofPort : BudgetKind → Bool
  | .domainWake => false
  | _ => true

namespace Hub

/-- An action is released: its cost joins the level at once and is reported with its queued time in µs (R153, R155, R156). -/
def releaseAction (e : BudgetEntry) (h : Hub) : Hub :=
  let waited := (h.stamp - e.arrival) / 1000
  let h1 := h.wr (levelKey e.supply) (h.rd (levelKey e.supply) + e.cost) |>.inc Od.QUEUE_RELEASED
  let h2 := if e.kind.ofPort then h1.wr (Od.LAST_COST e.who) e.cost |>.wr (Od.LAST_QUEUE_TIME e.who) waited else h1
  h2.wr Od.QUEUE_MAX_WAIT (max (h2.rd Od.QUEUE_MAX_WAIT) waited)

/-- The capacity of a supply in force: a write that lowers it takes effect at the next tick (R157). -/
def capOf (h : Hub) (s : Nat) : Nat := max (h.rd (capKey s)) (h.rd (Reg.capHeld s) - 1)

/-- A write of a capacity (R157). -/
def writeCap (s v : Nat) (h : Hub) : Hub :=
  let old := h.capOf s
  (h.wr (capKey s) v).wr (Reg.capHeld s) (if v < old then old + 1 else 0)

/-- The cost fits under the capacity of its supply. -/
def fits (h : Hub) (s cost : Nat) : Bool := decide (h.rd (levelKey s) + cost ≤ h.capOf s)

/-- An entry joins the queue in order of arrival; of one stamp, ports stand before domains, each by rising number (R154; log entry 67). -/
def enqueue (e : BudgetEntry) (h : Hub) : Hub :=
  let later (x : BudgetEntry) : Bool := x.arrival == e.arrival
    && (if x.kind.ofPort == e.kind.ofPort then decide (e.who < x.who) else e.kind.ofPort)
  { h with budget := h.budget.takeWhile (fun x => !later x) ++ e :: h.budget.dropWhile (fun x => !later x) }

/-- An earlier entry waits for the same supply. -/
def supplyWaits (h : Hub) (s : Nat) : Bool := h.budget.any (fun e => e.supply == s)

/-- A tick falls now and has not been taken: what arrives belongs to the window that it opens, and waits for its drain (R19, R154). -/
def tickOpen (h : Hub) : Bool := tickFalls h.rtc && h.rd Reg.tickAt != h.now + 1

/-- A request for an action's cost (R152 to R154, R157). -/
def askBudget (s : Nat) (k : BudgetKind) (who cost : Nat) (h : Hub) : Grant × Hub :=
  let e : BudgetEntry := ⟨s, k, who, cost, h.stamp⟩
  if cost = 0 ∨ h.rd Od.BUDGET_ENABLE = 0 then (.released, h.releaseAction e)
  else if h.capOf s < cost then (.overCapacity, h)
  else if h.fits s cost && !h.supplyWaits s && !h.tickOpen then (.released, h.releaseAction e)
  else if 64 ≤ h.budget.length then (.busy, h.inc Od.QUEUE_BUSY)
  else (.queued, h.enqueue e)

/-- An entry of this port or domain waits. -/
def queuedFor (h : Hub) (port : Bool) (who : Nat) : Bool := h.budget.any (fun e => e.kind.ofPort == port && e.who == who)

/-- Withdraws the entries of a port or of a domain; those behind keep their order (R155). -/
def withdraw (port : Bool) (who : Nat) (h : Hub) : Hub :=
  let gone := h.budget.filter (fun e => e.kind.ofPort == port && e.who == who)
  if gone.isEmpty then h
  else { h with budget := h.budget.filter (fun e => !(e.kind.ofPort == port && e.who == who)) }.add Od.QUEUE_WITHDRAWN gone.length

/-- One supply's recovery at a budget tick: recovery · 1,000 / 1,024, the fraction carried, never below 0 (R153). -/
def recoverSupply (s : Nat) (h : Hub) : Hub :=
  let acc := h.rd (Reg.fracAcc s) + h.rd (recoveryKey s) * 1000
  h.wr (levelKey s) (h.rd (levelKey s) - acc / 1024) |>.wr (Reg.fracAcc s) (acc % 1024)

/-- The walk of the queue at a tick: releases each entry that fits with no earlier entry of its supply left (R154); what waits when
BUDGET_ENABLE is written 0 still waits until it fits (log entry 65).
Gives the released entries in order, the entries that stay, and the hub. -/
def walkQueue : List BudgetEntry → List Nat → Hub → List BudgetEntry × List BudgetEntry × Hub
  | [], _, h => ([], [], h)
  | e :: r, blocked, h =>
    if !blocked.contains e.supply && h.fits e.supply e.cost then
      let (rel, stay, h') := walkQueue r blocked (h.releaseAction e)
      (e :: rel, stay, h')
    else
      let (rel, stay, h') := walkQueue r (e.supply :: blocked) h
      (rel, e :: stay, h')

/-- The entries whose cost now exceeds the capacity of their supply (R157). -/
def overEntries (h : Hub) : List BudgetEntry := h.budget.filter (fun e => decide (h.rd (capKey e.supply) < e.cost))

/-- A budget tick: the levels fall, entries above the capacity are withdrawn, the queue is walked. Gives the entries
withdrawn with OVER_CAPACITY, the entries released, and the hub. -/
def budgetTick (h : Hub) : List BudgetEntry × List BudgetEntry × Hub :=
  let h1 := (((h.recoverSupply 0).recoverSupply 1).recoverSupply 2).clear [Reg.capHeld 0, Reg.capHeld 1, Reg.capHeld 2]
  let exc := h1.overEntries
  let h2 := if exc.isEmpty then h1
    else { h1 with budget := h1.budget.filter (fun e => !decide (h1.rd (capKey e.supply) < e.cost)) }.add Od.QUEUE_WITHDRAWN exc.length
  let (rel, stay, h3) := walkQueue h2.budget [] h2
  (exc, rel, { h3 with budget := stay })

/-- The snapshot of the waiting entries, 16 bytes each (R156). -/
def queueSnapshot (h : Hub) : Nat :=
  pack (h.budget.map (fun e =>
    (16, pack [(1, e.supply), (1, match e.kind with | .powerOn => 1 | .move => 2 | .domainWake => 3), (1, e.who), (1, 0),
               (4, e.cost), (8, e.arrival)])))

end Hub
end Sys2Proof.Machine
end

