-- ==== Sys2Proof/Machine/CfOps.lean ====
section
/-!
DEFINITION. Sys2Proof/Machine/CfOps.lean: the CF message layer (R81 to R97) and the reports to the manager (R106, R107):
headers, transmission, records, the ends of exchanges and what cuts a message short.
-/
namespace Sys2Proof.Machine

/-- Fields of a message header (Table 3-12). -/
def hdrType (x : Nat) : Nat := bits x 3 0
def hdrDest (x : Nat) : Nat := bits x 5 4
def hdrRev (x : Nat) : Nat := bits x 7 6
def hdrRole (x : Nat) : Nat := bit x 8
def hdrId (x : Nat) : Nat := bits x 11 9
def hdrNumDo (x : Nat) : Nat := bits x 14 12

/-- A message header (Table 3-12). -/
def mkHeader (numDo id role dest type : Nat) : Nat := numDo * 4096 + id * 512 + role * 256 + 64 + dest * 16 + type

/-- The objects of a message as a little-endian byte string. -/
def objBytes (objs : List Nat) : Nat := pack (objs.map (fun o => (4, o)))

/-- The objects of a byte string of n objects. -/
def objsOf (v n : Nat) : List Nat := (List.range n).map (fun i => field v (4 * i) 4)

/-- The length of a message of n objects: 117 + 32·n bit times of 20 µs (Table 3-11, R82). -/
def cfTime (n : Nat) : Nat := (117 + 32 * n) * 20000

/-- The CRC-32 of a message, over the header and the data objects in the order sent (R85). -/
def cfCrc (header : Nat) (objs : List Nat) : Nat := crc32 (toBytes 2 header ++ toBytes (4 * objs.length) (objBytes objs))

/-- The length of HARD_RESET: 64 bits of preamble, four runs of three cells and one cell (R88). -/
def hardResetTime : Nat := 64 * 20000 + 13 * 10000

/-- The time in [o, now] in which the detach test is suspended: while the hub drives the wire, and for tDetachBlank after each release
(R74, R98). -/
def blanked (ds : List CfDrive) (o now : Nat) : Nat :=
  (ds.foldl (fun (a : Nat × Nat) d =>
    let s := max a.1 d.start
    let e := min now (d.stop + us 450)
    if s < e then (e, a.2 + (e - s)) else a) (o, 0)).2

/-- The end of the hub's GOOD_ACK after the end of the message: tTurnaround at its minimum, and the GOOD_ACK's length (R90, Table 3-15). -/
def goodAckTime : Nat := us 100 + cfTime 0

/-- The KIND of a data object (R100). -/
def objKind (o : Nat) : Nat := bits o 31 28

/-- An ALT_FUNCTION object has no reserved encoding (Table 4-8). -/
def altFunctionOk (o : Nat) : Bool :=
  objKind o == 8 && [1, 2].contains (bits o 27 24) && bits o 20 19 != 3 && bits o 16 15 != 3

/-- The objects fit the message type (Table 4-10, R105). `answer` says that an ALT_DISCOVER is an answer. -/
def objsFit (type : Nat) (objs : List Nat) (answer : Bool) : Bool :=
  let n := objs.length
  let o := objs.headD 0
  match type with
  | 1 => decide (1 ≤ n ∧ n ≤ 7) && objKind o == 1 && bits o 18 16 + 1 == n
      && (objs.drop 1).all (fun x => objKind x == 2 && decide (100 ≤ bits x 26 16 ∧ bits x 26 16 ≤ 1140 ∧ 5 ≤ bits x 8 0 ∧ bits x 8 0 ≤ 400))
  | 2 => n == 0
  | 3 => decide (1 ≤ n ∧ n ≤ 7) && objKind o == 3 && bits o 18 16 + 1 == n
      && (objs.drop 1).all (fun x => objKind x == 4 && decide (10 ≤ bits x 27 21 ∧ bits x 27 21 ≤ bits x 20 14 ∧ bits x 20 14 ≤ 114))
  | 4 => n == 1 && objKind o == 5
  | 5 => n == 0
  | 6 => n == 0 || (n == 1 && objKind o == 7 && decide (1 ≤ bits o 7 0 ∧ bits o 7 0 ≤ 7))
  | 7 => n == 0 || (n == 1 && objKind o == 7 && decide (1 ≤ bits o 7 0 ∧ bits o 7 0 ≤ 7))
  | 8 => n == 1 && objKind o == 6 && decide (bits o 27 26 ≤ 1)
  | 9 => n == 0
  | 10 => if answer then decide (1 ≤ n ∧ n ≤ 7) && objs.all (fun x => altFunctionOk x || (objKind x == 11 && [1, 2].contains (bits x 27 24)))
          else n == 0
  | 11 => n == 1 && altFunctionOk o
  | 12 => n == 0
  | 13 => n == 1 && objKind o == 9
  | 14 => n == 0
  | 15 => decide (1 ≤ n ∧ n ≤ 7) && objKind o == 10
  | _ => false

/-- The types that answer a message of this type (Table 4-10). -/
def answeredBy (type : Nat) : List Nat :=
  match type with
  | 1 => [4]
  | 2 => [3, 6]
  | 4 => [5, 6, 7]
  | 9 => [5, 6, 7]
  | 10 => [10, 6]
  | 11 => [5, 6, 7]
  | 12 => [5]
  | 14 => [5]
  | _ => []

/-- The CF levels (Table 3-16). -/
def levelPermit : Nat := 2
def levelHold : Nat := 3

namespace Hub

/-- The port is ATTACHED_SOURCE. -/
def isSource (h : Hub) (p : Nat) : Bool := h.rd (Od.ATTACH_STATE p) == 4
/-- The port is ATTACHED_SINK. -/
def isSink (h : Hub) (p : Nat) : Bool := h.rd (Od.ATTACH_STATE p) == 5
/-- The port is in an attached state. -/
def attached (h : Hub) (p : Nat) : Bool := h.isSource p || h.isSink p

/-- The hub's ROLE bit on a port: 0 source, 1 sink (Table 3-12). -/
def ownRole (h : Hub) (p : Nat) : Nat := if h.isSink p then 1 else 0

/-- The next REF of the port's records (R107). -/
def nextRef (h : Hub) (p : Nat) : Nat := (h.rd (Reg.cfRef p) + 1) % 2 ^ 32

/-- The path of a port's CF records to the manager: the port's PHY domain belongs to it (Table 1-3). -/
def cfPath (h : Hub) (p : Nat) : Bool := h.managerPath && h.phyOn p

/-- A CF report record of 48 bytes (Table 4-12). -/
def cfRecordBytes (p kind header ref stamp cause flags : Nat) (objs : List Nat) : Nat :=
  pack [(1, p), (1, kind), (2, header), (4, ref), (8, stamp), (1, cause), (1, objs.length), (1, flags), (1, 0), (28, objBytes objs)]

/-- Bit 1 TAG of a record's FLAGS (Table 4-12). -/
def tagFlag (header : Nat) : Nat := if hdrDest header = 1 then 2 else 0

/-- Writes a record of a kind other than RECEIVED with its STAMP: it takes the next REF and goes out if the path is ON (R106). -/
def cfRecordAt (p kind header cause : Nat) (objs : List Nat) (stamp : Nat) (h : Hub) : Hub :=
  let ref := h.nextRef p
  let h1 := h.wr (Reg.cfRef p) ref
  if h.cfPath p then h1.emit (.toManager .cf (cfRecordBytes p kind header ref stamp cause (tagFlag header) objs)) else h1

/-- A record of an event of this instant. -/
def cfRecord (p kind header cause : Nat) (objs : List Nat) (h : Hub) : Hub := h.cfRecordAt p kind header cause objs h.stamp

/-- The RECEIVED record: sent, or held while the path is not ON; a newer message replaces the held one (R110). -/
def cfReceived (p header : Nat) (objs : List Nat) (h : Hub) : Hub :=
  let ref := h.nextRef p
  let rc := cfRecordBytes p 1 header ref h.stamp 0 (tagFlag header) objs
  let h1 := h.wr (Reg.cfRef p) ref
  if h.cfPath p then h1.emit (.toManager .cf rc)
  else
    let h2 := if h1.cfHeld.any (fun x => x.port == p) then h1.inc (Od.HELD_EXPIRED p) else h1
    ({ h2 with cfHeld := putBy CfHeld.port ⟨p, rc, header⟩ h2.cfHeld }).arm (Tm.held p) (goodAckTime + ms 400)

/-- Result codes of CF_ANSWER (Table 4-14). -/
def answerResult (p r : Nat) (h : Hub) : Hub := h.wr (Od.CF_ANSWER_RESULT p) r

/-- The manager gave the hub this message. -/
def fromManager (w : TxWhy) : Bool :=
  match w with
  | .newExchange | .answer _ _ | .fallback => true
  | _ => false

/-- Puts the wire at PERMIT when the hub is source, held it, and has no exchange of its own open or about to start (R95). -/
def toPermit (p : Nat) (h : Hub) : Hub :=
  if h.isSource p && h.rd (Od.CF_LEVEL p) == levelHold && h.rd (Reg.exOwn p) == 0 && h.rd (Tm.holdLead p) == 0 then
    h.wr (Od.CF_LEVEL p) levelPermit else h

/-- Applies HOLD on an idle wire (R95, R96). -/
def applyHold (p : Nat) (h : Hub) : Hub :=
  if h.isSource p && h.rd (Od.CF_LEVEL p) == levelPermit then
    h.wr (Od.CF_LEVEL p) levelHold |>.wr (Reg.holdAt p) (h.now + 1)
  else h

/-- An exchange is open on the port (R103). -/
def exchangeOpen (h : Hub) (p : Nat) : Bool := h.rd (Reg.exOwn p) != 0 || h.rd (Reg.exFar p) != 0

/-- The hub's own exchange on the port ends, and what waited for its messages stops (R95, R103). -/
def endOwn (p : Nat) (h : Hub) : Hub :=
  (h.clear [Reg.exOwn p, Tm.response p, Tm.readyWait p, Tm.sinkRequest p]).toPermit p

/-- The far end's exchange on the port ends, with the message that awaited an answer. -/
def endFar (p : Nat) (h : Hub) : Hub :=
  ({ h with cfAwait := dropBy CfAwait.port p h.cfAwait }.clear [Reg.exFar p, Tm.answer p]).toPermit p

/-- Every exchange on the port ends (R88, R103). -/
def endExchange (p : Nat) (h : Hub) : Hub := (h.endFar p).endOwn p

/-- The hub drives the message wire of a port from `start` on for `len` nanoseconds; what it drove before ends there at the latest
(R74, R81, R88). -/
def drive (p start len : Nat) (h : Hub) : Hub :=
  let cut := h.drives.map (fun d : CfDrive => if d.port = p then { d with stop := min d.stop start } else d)
  { h with drives := cut ++ [CfDrive.mk p start (start + len)] }.wr (Reg.wireAt p) (start + len + 1)

/-- The far end has ended a transmission on the wire now: the wire reads other than open, and is released (R74, R98). -/
def hear (p : Nat) (h : Hub) : Hub :=
  ({ h with drives := h.drives.filter (fun d : CfDrive => d.port != p) }.wr (Reg.cfHeard p) (h.now + 1)).wr (Reg.wireAt p) (max (h.rd (Reg.wireAt p)) (h.now + 1))

/-- The open time of a wire that last began to read open at `opened`: the count pauses while the test is suspended, and any other
reading has restarted it (R74). -/
def openTime (h : Hub) (p opened : Nat) : Nat :=
  let o := max opened (h.rd (Reg.cfHeard p) - 1)
  h.now - o - blanked (h.drives.filter (fun d : CfDrive => d.port == p)) o h.now

/-- The instant from which a preamble of the hub's may start: tIdle after the last release of the wire (R91, R98). -/
def preambleAt (h : Hub) (p : Nat) : Nat :=
  if h.rd (Reg.wireAt p) = 0 then h.now else max h.now (h.rd (Reg.wireAt p) - 1 + us 200)

/-- The level on the hub's own Rd may be read: tLevelSettle has passed since the last release of the wire (R94, R98). -/
def levelSettled (h : Hub) (p : Nat) : Bool := decide (h.rd (Reg.wireAt p) = 0 ∨ h.rd (Reg.wireAt p) + ms 1 ≤ h.now + 1)

/-- A sink reads PERMIT across its own Rd, in mV (Table 3-3, R66, R94). -/
def permitRead (h : Hub) (p mv : Nat) : Bool := decide (1260 ≤ mv) && h.levelSettled p

/-- A message goes on the wire at the earliest instant the wire allows; tReceive runs from its end (R84, R91). -/
def putOnWire (x : CfTx) (h : Hub) : Hub :=
  let start := h.preambleAt x.port
  let len := cfTime x.objs.length
  (({ h with cfTx := putBy CfTx.port { x with last := h.stamp + (start - h.now) + len } h.cfTx }.drive x.port start len).emit
    (.cf x.port start x.header x.objs (cfCrc x.header x.objs))).arm (Tm.receive x.port) (start - h.now + len + ms 3)

/-- Sends a message of the hub's own with the next transmit MSG_ID of its DEST (R89, R91). -/
def sendCf (p type dest : Nat) (objs : List Nat) (why : TxWhy) (h : Hub) : Hub :=
  h.putOnWire ⟨p, mkHeader objs.length (h.rd (Reg.txId p dest) % 8) (h.ownRole p) dest type, objs, 0, why, 0⟩

/-- GOOD_ACK of a received message, tTurnaround after its end (R90). -/
def goodAck (p header : Nat) (h : Hub) : Hub :=
  let reply := mkHeader 0 (hdrId header) (h.ownRole p) (hdrDest header) 0
  (h.drive p (h.now + us 100) (cfTime 0)).emit (.cf p (h.now + us 100) reply [] (cfCrc reply []))

/-- Sets all transmit MSG_IDs to 0 and marks the last received ones as none (R89). -/
def resetIds (p : Nat) (h : Hub) : Hub := h.clear [Reg.txId p 0, Reg.txId p 1, Reg.rxLast p 0, Reg.rxLast p 1]

/-- Reports one message of the hub's own that never reached the wire as UNDELIVERED; a message of the manager's gives UNDELIVERED (R93). -/
def undelivered (p header cause : Nat) (objs : List Nat) (why : TxWhy) (h : Hub) : Hub :=
  let h1 := h.cfRecord p 3 header cause objs
  if fromManager why then h1.answerResult p 3 else h1

/-- The same for a message on the wire: the STAMP is that of its last cell, or the present one where it is cut short (R91, R93, R107). -/
def txUndelivered (x : CfTx) (cause : Nat) (h : Hub) : Hub :=
  let h1 := h.cfRecordAt x.port 3 x.header cause x.objs (min x.last h.stamp)
  if fromManager x.why then h1.answerResult x.port 3 else h1

/-- The header a message that never reached the wire would have carried (R107). -/
def plannedHeader (h : Hub) (x : CfPending) : Nat :=
  mkHeader x.objs.length (h.rd (Reg.txId x.port x.dest) % 8) (h.ownRole x.port) x.dest x.type

/-- The contract state changes, with a record of KIND STATE; entry to CONTRACT is stamped (R112). -/
def contractState (p s : Nat) (h : Hub) : Hub :=
  if h.rd (Od.CONTRACT_STATE p) = s then h
  else
    let h1 := (h.wr (Od.CONTRACT_STATE p) s).cfRecord p 7 0 s []
    if s = 5 then h1.wr (Od.CONTRACT_TIME p) h.stamp else h1

/-- CAPS_SENT and NEGOTIATING return to the prior state: CONTRACT if a contract is in force, DEFAULT_POWER otherwise (R112). -/
def toPrior (p : Nat) (h : Hub) : Hub :=
  if h.rd (Od.CONTRACT_STATE p) = 2 ∨ h.rd (Od.CONTRACT_STATE p) = 3 then h.contractState p (if h.rd (Reg.inForce p) = 1 then 5 else 1) else h

end Hub
end Sys2Proof.Machine
end

