-- ==== Sys2Proof/Machine/SwitchOps.lean ====
section
/-!
DEFINITION. Sys2Proof/Machine/SwitchOps.lean: the switch core's shared operations (R278 to R304, R311 to R319): headers,
lookup, admission, the verdict, the copies and their ends, epochs, the mirror and the header-capture ring.
-/
namespace Sys2Proof.Machine

/-! ### The trunk header (Table 6-16) -/

def hFtype (x : Nat) : Nat := bits x 3 0
def hClass (x : Nat) : Nat := bits x 5 4
def hCm (x : Nat) : Nat := bit x 6
def hEnc (x : Nat) : Nat := bit x 7
def hLen (x : Nat) : Nat := bits x 18 8
def hHops (x : Nat) : Nat := bits x 22 19
def hLocal (x : Nat) : Bool := hasBit x 23
def hDest (x : Nat) : Nat := bits x 47 24
def hSrc (x : Nat) : Nat := bits x 71 48
def hSeq (x : Nat) : Nat := bits x 87 72
def hContext (x : Nat) : Nat := bits x 119 88
def hCheck (x : Nat) : Nat := bits x 127 120

/-- CRC-8 of R184: generator 0x07 reflected, initial value 0xFF, no final exclusive-or. -/
def crc8 (bs : Bytes) : Nat := crcReflected 0xE0 0xFF bs

/-- CRC-16 of R184: generator 0x8005 reflected, initial value 0xFFFF, final exclusive-or 0xFFFF. -/
def crc16 (bs : Bytes) : Nat := crcReflected 0xA001 0xFFFF bs ^^^ 0xFFFF

/-- A header with its HCHECK computed over bits [119:0] (R200). -/
def withCheck (x : Nat) : Nat := x % 2 ^ 120 + crc8 (toBytes 15 x) * 2 ^ 120

/-- A header before its HCHECK and LINK_SEQ. -/
def mkTrunk (ftype cls len : Nat) (loc : Bool) (dest src context : Nat) : Nat :=
  ftype + cls * 16 + len * 256 + (if loc then 2 ^ 23 else 0) + dest * 2 ^ 24 + src * 2 ^ 48 + context * 2 ^ 88

/-- A header with a reserved encoding in FTYPE or LENGTH (R13, Table 6-16). -/
def reservedHeader (x : Nat) : Bool := !([0, 2, 3].contains (hFtype x)) || decide (1024 < hLen x)

/-- The system address hub:device:endpoint (R16). -/
def sysAddr (hub dev ep : Nat) : Nat := hub * 4096 + dev * 16 + ep

/-- Cells of a frame in Shale (R281). -/
def frameCells (len : Nat) : Nat := ceilDiv (16 + len) 64

/-- Credit cost of a frame (R204). -/
def frameCost (x : Nat) : Nat := ceilDiv (16 + hLen x + 4 + 16 * hEnc x) 64

/-- FIFO words of a frame for port 19 (R398). -/
def frameWords (len : Nat) : Nat := ceilDiv (16 + len) 4

/-- The shadow key of entry n of the table at index base (Table 10-1). -/
def tableKey (base n : Nat) : Nat := (base + n / 128) * 256 + 1 + n % 128

/-- Every key of the shadow tables lies here. -/
def isTableKey (k : Nat) : Bool := decide (0x440000 ≤ k ∧ k < 0x460400)

/-- What a lookup concludes (R284): a drop with its reason, or the ports that get a copy, KIND and RESULT of Table 10-4,
and the entry's MIRROR bit; `lost` lists members that lose only their own copy. -/
inductive Lookup where
  | drop (reason port : Nat) (kind result : Nat) (mirror : Bool)
  | send (kind result : Nat) (mirror : Bool) (ports : List Nat) (lost : List (Nat × Nat))
  deriving DecidableEq, Repr

namespace Hub

/-- An entry of a live table (R309). -/
def liveEntry (h : Hub) (base n : Nat) : Nat := h.rd (Reg.live (tableKey base n - 0x440000))

/-- The far end of a port is a hub: a trunk, or a port whose IDENTIFY gave KIND HUB (R291). -/
def farIsHub (h : Hub) (p : Nat) : Bool := p == 16 || p == 17 || (decide (p < 16) && byteAt (h.rd (Od.IDENTITY p)) 6 == 2)

/-- The hub engine runs on the port (R215). -/
def engineRuns (h : Hub) (p : Nat) : Bool := h.rd (Od.PORT_STATE p) != 0

/-- A port can take frames: ENABLED or RESUMING on a hub-engine port, LINK_STATE ACTIVE on a trunk and on a fabric port that attached as
sink (R217, R286, R315). A MANAGER's trunk that attached as sink carries no traffic (R32). -/
def canTake (h : Hub) (p : Nat) : Bool :=
  if 18 ≤ p then true
  else if h.role = 1 ∧ h.rd (Od.ATTACH_STATE p) = 5 then false
  else
    (!h.engineRuns p || h.rd (Od.PORT_STATE p) == 5 || h.rd (Od.PORT_STATE p) == 7)
      && ((decide (p < 16) && h.engineRuns p) || h.rd (Od.LINK_STATE p) == 4)

/-- The reason a single egress cannot take a frame at the lookup, or none (R286). -/
def egressRefusal (h : Hub) (p : Nat) : Option Nat :=
  if !h.canTake p then some 12 else if !h.phyOn p then some 11 else none

/-- A PATH member is a candidate (R300, R301): REJOIN_HOLD, where it has left ACTIVE before, has passed. -/
def candidate (h : Hub) (ingress m : Nat) : Bool :=
  m != ingress && h.rd (Od.LINK_STATE m) == 4 && h.phyOn m && (!h.running (Tm.rejoin m) || h.due (Tm.rejoin m))

/-- The weight of a member (R300). -/
def pathWeight (src dest m : Nat) : Nat := crc16 (toBytes 3 src ++ toBytes 3 dest ++ [m])

/-- The candidate of highest weight; a tie goes to the lower port number (R300). -/
def bestMember (src dest : Nat) : List Nat → Option Nat
  | [] => none
  | m :: r =>
    match bestMember src dest r with
    | none => some m
    | some b => if pathWeight src dest b ≤ pathWeight src dest m then some m else some b

/-- A frame sent straight to a port whose ALT_STATE is SERIAL is taken by the serial function (R135). -/
def serialTakes (h : Hub) (p kind : Nat) : Bool := kind == 4 && decide (p < 16) && h.rd (Od.ALT_STATE p) == 1

/-- One named port as a result, with the refusals of R286; the serial function needs no link (R135). -/
def toPort (h : Hub) (ingress p kind result : Nat) (mirror : Bool) : Lookup :=
  if p = ingress then .drop 4 ingress kind result mirror
  else match (if h.serialTakes p kind then (if h.phyOn p then none else some 11) else h.egressRefusal p) with
    | some r => .drop r p kind result mirror
    | none => .send kind result mirror [p] []

/-- A multicast group as a result (R298, R311). -/
def toGroup (h : Hub) (ingress g : Nat) (mirror : Bool) : Lookup :=
  let members := (List.range 20).filter (fun p => hasBit (h.liveEntry 0x4600 g) p && p != ingress)
  if members.isEmpty then .drop 1 ingress 3 g mirror
  else .send 3 g mirror (members.filter (fun p => h.egressRefusal p == none))
    (members.filterMap (fun p => (h.egressRefusal p).map (fun r => (p, r))))

/-- The reach set of a port holds hub ID `hub` (R336). -/
def passedOver (h : Hub) (m : Nat) (route : Option Nat) : Bool :=
  match route with
  | none => false
  | some i => hasBit (h.rd (Od.REACH m)) i

/-- A table entry as a result (R284, R286, R300). A route-table result for a hub passes over members whose reach set
holds it (R336). -/
def toEntry (h : Hub) (ingress src dest e : Nat) (route : Option Nat) : Lookup :=
  let mirror := hasBit e 29
  match bits e 31 30 with
  | 0 => .drop 1 ingress 0 0 mirror
  | 1 => h.toPort ingress (bits e 4 0) 1 (bits e 4 0) mirror
  | 2 =>
    match bestMember src dest ((List.range 18).filter (fun m => hasBit e m && h.candidate ingress m && !h.passedOver m route)) with
    | none => .drop 5 ingress 2 0 mirror
    | some m => .send 2 m mirror [m] []
  | _ => h.toGroup ingress (bits e 8 0) mirror

/-- The lookup of R284; `named` is the port that an injected LOCAL frame names (R285). The split service is egress 20. -/
def lookup (h : Hub) (ingress header named : Nat) : Lookup :=
  let d := hDest header
  if hLocal header then
    if 18 ≤ ingress then h.toPort ingress named 4 named false else h.toPort ingress 18 4 18 false
  else if h.rd Od.HUB_ID_ASSIGNED = 0 then .drop 3 ingress 0 0 false
  else if d / 4096 = 0xFFF then h.toGroup ingress 0 false
  else if 0x800 ≤ d / 4096 then .drop 2 ingress 0 0 false
  else if d / 4096 = h.ownHub then
    if d % 4096 = 0 then h.toPort ingress 18 4 18 false
    else if d % 4096 = 14 then .send 4 20 false [20] []
    else h.toEntry ingress (hSrc header) d (h.liveEntry 0x4400 (d % 4096)) none
  else h.toEntry ingress (hSrc header) d (h.liveEntry 0x4500 (d / 4096)) (some (d / 4096))

/-! ### Epochs (R314) -/

/-- The frames that hold an epoch. -/
def epochCount (h : Hub) (e : Nat) : Nat := (h.frames.filter (fun f => f.live && f.epoch == e)).length

/-- DRAIN_PORTS: the egress ports that hold copies of draining frames, and bit 20 while one is received. -/
def drainPorts (h : Hub) : Nat :=
  let fs := h.frames.filter (fun f => f.live && f.epoch == h.rd Od.EPOCH_DRAINING)
  (List.range 20).foldl (fun m p => if fs.any (fun f => f.copies.any (fun c => c.egress == p)) then m + 2 ^ p else m) 0
    + (if fs.any (fun f => f.verdict == 0) then 2 ^ 20 else 0)

/-- A PUBLISH is DONE: it takes effect at t_p (R313). -/
def publishDone (h : Hub) : Hub := ((h.wr Od.PUBLISH_RESULT 1).inc Od.PUBLISHES).arm Tm.publish 0

/-- A PUBLISH of the stamp at which an epoch retires comes after the retirement, whichever the hub heard first (R314). -/
def publishAgain (h : Hub) : Hub := if h.rd Reg.publishAt = h.now + 1 then (h.wr Reg.publishAt 0).publishDone else h

/-- The epoch counts follow the frames in Shale; a draining epoch that no frame holds retires (R314). -/
def refreshEpochs (h : Hub) : Hub :=
  let h1 := h.wr Od.LIVE_COUNT (h.epochCount (h.rd Od.EPOCH_LIVE))
  if h1.rd Od.EPOCH_DRAINING = 0xFF then h1.wr Od.DRAIN_COUNT 0 |>.wr Od.DRAIN_PORTS 0
  else
    let n := h1.epochCount (h1.rd Od.EPOCH_DRAINING)
    let h2 := h1.wr Od.DRAIN_COUNT n |>.wr Od.DRAIN_PORTS h1.drainPorts
    if n = 0 then
      (h2.wr Od.EPOCH_DRAINING 0xFF |>.wr Od.DRAIN_PORTS 0 |>.wr Od.RETIRE_TIME h.stamp
        |>.wr Od.LAST_DRAIN_TIME ((h.stamp - h.rd Od.PUBLISH_TIME) / 1000 % 2 ^ 32)).publishAgain
    else h2

/-! ### Cells, queues and drops -/

/-- FREE_PD3 or FREE_PD4. -/
def freeKey (d : Nat) : Nat := if d = 3 then Od.FREE_PD3 else Od.FREE_PD4

/-- Cells of a domain that can be allocated: fenced cells count as free and are never allocated (R479). -/
def allocatable (h : Hub) (d : Nat) : Nat := h.rd (freeKey d) - h.fencedOf d

/-- The domains a frame may be stored in (R280). -/
def allowedDomains (h : Hub) : List Nat := [3, 4].filter (fun d => hasBit (h.rd Od.ALLOC_MASK) (d - 3) && h.isOn d)

/-- The domain of a new frame: the one with more free cells, PD3 when equal; none without a free cell (R280). -/
def chooseDomain (h : Hub) : Option Nat :=
  match h.allowedDomains.filter (fun d => decide (0 < h.allocatable d)) with
  | [] => none
  | [d] => some d
  | _ => if h.allocatable 3 < h.allocatable 4 then some 4 else some 3

/-- The first of n numbers from i on that satisfies a test. -/
def firstOf (f : Nat → Bool) : Nat → Nat → Option Nat
  | 0, _ => none
  | n + 1, i => if f i then some i else firstOf f n (i + 1)

/-- A logical cell is on the free list: no frame holds it and the repair map does not fence it (R281, R479). -/
def cellFree (h : Hub) (used : List Nat) (a : Nat) : Bool := !used.contains a && !h.repair.fenced.contains (h.physCell a)

/-- The next free cell of a domain's 24 logical banks from bank k on, with the bank after its own; the search tries n banks (R280). -/
def findCell (h : Hub) (d : Nat) (used : List Nat) : Nat → Nat → Option (Nat × Nat)
  | 0, _ => none
  | n + 1, k =>
    let b := (if d = 3 then 0 else 24) + k % 24
    match firstOf (fun c => h.cellFree used (b * 512 + c)) 512 0 with
    | some c => some (b * 512 + c, (k + 1) % 24)
    | none => findCell h d used n (k + 1)

/-- n cells from the free list of a domain, which rotates through its logical banks (R280), and the bank that is next. -/
def takeCells (h : Hub) (d : Nat) : Nat → Nat → List Nat → List Nat × Nat
  | 0, k, _ => ([], k)
  | n + 1, k, used =>
    match h.findCell d used 24 k with
    | none => ([], k)
    | some (a, k') => let r := takeCells h d n k' (a :: used); (a :: r.1, r.2)

/-- A cell leaves the free list: its allocation tag advances (R320). -/
def tagCell (h : Hub) (a : Nat) : Hub :=
  let c := h.physCell a
  h.wr (Reg.cellTag (c.1 * 512 + c.2)) ((h.rd (Reg.cellTag (c.1 * 512 + c.2)) + 1) % 16)

/-- A frame goes into Shale (R281, R288): its cells leave the free list, and FREE_MIN follows (Table 9-6). -/
def storeFrame (f : Frame) (h : Hub) : Hub :=
  let used := (h.frames.filter (fun x => x.live)).flatMap (fun x => x.addrs)
  let r := h.takeCells f.domain f.cells (h.rd (Reg.allocNext (f.domain - 3))) used
  let h1 := ({ h with frames := h.frames ++ [{ f with addrs := r.1 }] }.wr Reg.frameNext (f.id + 1)).wr (freeKey f.domain) (h.rd (freeKey f.domain) - f.cells)
  ((r.1.foldl tagCell h1).wr (Reg.allocNext (f.domain - 3)) r.2).wr Od.FREE_MIN (min (h1.rd Od.FREE_MIN) (h1.rd Od.FREE_PD3 + h1.rd Od.FREE_PD4))

/-- Keys of a queue (Table 9-7). -/
def depthKey (p c : Nat) : Nat := Od.DEPTH_C0 p + c
def qmaxKey (p c : Nat) : Nat := Od.QMAX_C0 p + c
def cmThrKey (p c : Nat) : Nat := Od.CM_THR_C0 p + c
/-- The drop counter of a reason and port (R322). -/
def dropKey (reason p : Nat) : Nat := (0x4300 + p) * 256 + reason

/-- A drop counted once against its port (R289); the split service has no counters. -/
def countDrop (reason p : Nat) (h : Hub) : Hub := if p < 20 then h.inc (dropKey reason p) else h

/-- Copies admitted for an egress and class. -/
def copiesOf (h : Hub) (p c : Nat) : Nat :=
  (h.frames.map (fun f => (f.copies.filter (fun x => x.egress == p && x.cls == c)).length)).foldl (· + ·) 0

/-- Words that admitted copies for port 19 have reserved in RXQ1 (C1) or RXQ0 (the others) and not yet written (R398). -/
def reservedWords (h : Hub) (c1 : Bool) : Nat :=
  (h.frames.map (fun f =>
    if f.copies.any (fun x => x.egress == 19 && (x.cls == 1) == c1) then
      (if f.copies.any (fun x => x.egress == 19 && x.begun) then 1 else frameWords (hLen f.header)) else 0)).foldl (· + ·) 0

/-- Room at the FIFO of an internal egress (R288). -/
def fifoRoom (h : Hub) (p c len : Nat) : Bool :=
  if p = 18 then decide (h.copiesOf 18 c < 64)
  else if p = 19 then
    decide ((if c = 1 then h.rxq1.length else h.rxq0.length) + h.reservedWords (c == 1) + frameWords len ≤ 4096)
  else true

/-- The reason a copy is not admitted to its queue, or none (R288). -/
def copyRefusal (h : Hub) (p c cells len : Nat) : Option Nat :=
  if 20 ≤ p then none
  else if h.rd (qmaxKey p c) < h.rd (depthKey p c) + cells then some 6
  else if !h.fifoRoom p c len then some 8
  else none

/-- A queue's depth grows by a copy's cells; DEPTH_PEAK follows (R304, Table 9-7). -/
def deepen (p c cells : Nat) (h : Hub) : Hub :=
  if p < 20 then
    let h1 := h.wr (depthKey p c) (h.rd (depthKey p c) + cells)
    let sum := h1.rd (depthKey p 0) + h1.rd (depthKey p 1) + h1.rd (depthKey p 2) + h1.rd (depthKey p 3)
    h1.wr (Od.DEPTH_PEAK p) (max (h1.rd (Od.DEPTH_PEAK p)) sum)
  else h

/-- A copy is CUT (R291). -/
def isCut (h : Hub) (ingress header p : Nat) (whole : Bool) : Bool :=
  !whole && h.rd Od.CUT_THROUGH_ENABLE == 1 && decide (48 ≤ hLen header) && decide (ingress < 18) && decide (p < 18)
    && h.farIsHub p
    && (if h.rd (Od.LINK_CLASS p) = 4 ∨ h.rd (Od.LINK_CLASS ingress) = 4 then
          h.rd (Od.LINK_CLASS p) == 4 && h.rd (Od.LINK_CLASS ingress) == 4
        else decide (h.rd (Od.LINK_CLASS ingress) ≤ h.rd (Od.LINK_CLASS p)))

/-- One copy admitted: its mode, its CM mark and its depth (R288, R291, R304). -/
def admitCopy (ingress header p cells : Nat) (whole : Bool) (h : Hub) : Copy × Hub :=
  let c := hClass header
  let thr := h.rd (cmThrKey p c)
  let cut := h.isCut ingress header p whole
  let order := h.rd Reg.queueOrder
  let copy : Copy := ⟨p, c, cut, decide (p < 18) && decide (thr ≠ 0) && decide (thr ≤ h.rd (depthKey p c)), cut || whole, false, order⟩
  (copy, (h.deepen p c cells).wr Reg.queueOrder (order + 1))

/-- The copies of a frame, one port after another; a refused copy is dropped and counted (R288). -/
def admitCopies (ingress header cells : Nat) (whole : Bool) : List Nat → Hub → List Copy × Hub
  | [], h => ([], h)
  | p :: r, h =>
    match h.copyRefusal p (hClass header) cells (hLen header) with
    | some reason => admitCopies ingress header cells whole r (h.countDrop reason p)
    | none =>
      let (c, h1) := h.admitCopy ingress header p cells whole
      let (cs, h2) := admitCopies ingress header cells whole r h1
      (c :: cs, h2)

/-! ### The mirror (R316 to R319) -/

/-- The capture record of Table 10-4. -/
def captureRecord (h : Hub) (f : Frame) (dropped : Bool) (reason route : Nat) (bad : Bool) : Nat :=
  pack [(8, h.stamp), (16, f.header), (1, f.ingress),
        (1, f.epoch + (if h.isOn 5 then 0 else 4) + (if dropped then 8 else 0) + 16 * route + (if bad then 64 else 0)),
        (1, f.kind), (1, reason), (3, f.result), (1, h.rd Od.MIRROR_SAMPLES % 256)]

/-- Writes a record to the header-capture ring (R319). -/
def writeRing (record : Nat) (h : Hub) : Hub :=
  let kept := if h.ring.length < 4096 then h.ring else h.ring.drop 1
  { h with ring := kept ++ [record] }.wr Od.RING_WRITTEN ((h.rd Od.RING_WRITTEN + 1) % 2 ^ 32)

/-- A sample diverted to the ring (R318). -/
def sampleToRing (f : Frame) (dropped : Bool) (reason route : Nat) (bad : Bool) (h : Hub) : Hub :=
  (h.writeRing (h.captureRecord f dropped reason route bad)).inc Od.MIRROR_TO_RING

/-- The mirror frame of a sample, admitted under R288 for port 18, or none where it fails (R317). -/
def mirrorFrame (f : Frame) (dropped : Bool) (reason : Nat) (bad : Bool) (h : Hub) : Option Hub :=
  let n := min 80 (hLen f.header)
  let len := 32 + n
  let cells := frameCells len
  let own := sysAddr h.ownHub 0 3
  let header := mkTrunk 0 3 len true own own 0
  let payload := h.captureRecord f dropped reason 0 bad + 256 ^ 32 * (f.payload % 256 ^ n)
  match h.chooseDomain with
  | none => none
  | some d =>
    if h.allocatable d < cells + h.rd Od.C0_RESERVE then none
    else if h.copyRefusal 18 3 cells len != none then none
    else
      let id := h.rd Reg.frameNext
      let (c, h1) := h.admitCopy 18 header 18 cells true
      let fr : Frame :=
        { id := id, ingress := 18, header := header, payload := payload, cells := cells, domain := d,
          verdict := 1, epoch := h.rd Od.EPOCH_LIVE, kind := 4, result := 18, mirror := false, live := true, pass := 1,
          copies := [c], addrs := [], got := len }
      some (h1.storeFrame fr)

/-- A frame that Flint sent: one of ingress port 18 that is neither a batch of Quartz's, from hub:0:2, nor a split completion, from
hub:0:14 (R262, R235, R285). -/
def fromFlint (h : Hub) (f : Frame) : Bool :=
  f.ingress == 18 && (hLocal f.header || !(hSrc f.header == sysAddr h.ownHub 0 2 || hSrc f.header == sysAddr h.ownHub 0 14))

/-- A frame is eligible for the mirror (R316); frames from Flint never are. -/
def mirrorEligible (h : Hub) (f : Frame) (dropped : Bool) : Bool :=
  h.rd Od.MIRROR_MODE != 0 && !h.fromFlint f
    && (hasBit (h.rd Od.MIRROR_SRC) f.ingress || f.mirror)
    && hasBit (h.rd Od.MIRROR_CLASSES) (hClass f.header)
    && (h.rd Od.MIRROR_SCOPE == 0 || dropped)

/-- The sample instant of a frame: an eligible frame counts, and the one that brings the count to MIRROR_N is sampled (R316). -/
def mirror (f : Frame) (dropped : Bool) (reason : Nat) (bad : Bool) (h : Hub) : Hub :=
  if !h.mirrorEligible f dropped then h
  else
    let n := h.rd Reg.mirrorCount + 1
    if n < h.rd Od.MIRROR_N then h.wr Reg.mirrorCount n
    else
      let h1 := ((h.wr Reg.mirrorCount 0).inc Od.MIRROR_SAMPLES).inc (Od.MIRRORED f.ingress)
      if h1.rd Od.MIRROR_MODE = 2 then h1.sampleToRing f dropped reason 3 bad
      else if !h1.flintOn then h1.sampleToRing f dropped reason 2 bad
      else match h1.mirrorFrame f dropped reason bad with
        | some h2 => h2.refreshEpochs
        | none => h1.sampleToRing f dropped reason 1 bad

/-! ### Frames in -/

/-- A frame as it concludes its lookup, before any copy. -/
def newFrame (h : Hub) (ingress header payload domain : Nat) (whole mirror : Bool) (kind result pass : Nat) : Frame :=
  { id := h.rd Reg.frameNext, ingress := ingress, header := header, payload := payload, cells := frameCells (hLen header),
    domain := domain, verdict := if whole then 1 else 0, epoch := h.rd Od.EPOCH_LIVE, kind := kind, result := result,
    mirror := mirror, live := true, pass := pass, copies := [], addrs := [],
    got := if whole then hLen header else 0 }

/-- A frame without a copy that is still in reception: it holds nothing, but its verdict is still to come (R289). -/
def awaitVerdict (f : Frame) (h : Hub) : Hub :=
  if f.verdict = 0 then { h with frames := h.frames ++ [{ f with live := false, copies := [] }] }.wr Reg.frameNext (f.id + 1) else h

/-- A frame dropped whole: counted against its port, and a sample instant (R289, R316). -/
def dropWhole (f : Frame) (reason port : Nat) (h : Hub) : Hub := ((h.countDrop reason port).mirror f true reason false).awaitVerdict f

/-- FRAMES_IN and BYTES_IN (R322). -/
def countIn (p header : Nat) (h : Hub) : Hub := (h.inc (Od.FRAMES_IN p) 64).add (Od.BYTES_IN p) (16 + hLen header) 64

/-- A frame of class C1 to C3 is not forwarded in the safe state (R469). -/
def safeDrops (h : Hub) (header : Nat) : Bool := h.rd Od.SAFE_STATE == 1 && hClass header != 0

/-- A frame's cells return to the free list and its epoch is released; bad cells are fenced (R281, R314, R479). -/
def freeFrame (f : Frame) (h : Hub) : Hub :=
  let h1 := h.wr (freeKey f.domain) (h.rd (freeKey f.domain) + f.cells)
  let held (c : Nat × Nat) : Bool := f.addrs.any (fun a => h.physCell a == c)
  (h1.fencePending.filter held).foldl (fun x c => x.fenceCell c.1 c.2) { h1 with fencePending := h1.fencePending.filter (fun c => !held c) }

/-- Puts a frame's new form in place; a frame with no copy left frees its cells, and leaves the list once its verdict is known. -/
def putFrame (f : Frame) (h : Hub) : Hub :=
  let gone := f.copies.isEmpty
  let f1 := if gone then { f with live := false } else f
  let h1 := { h with frames :=
    if gone && f.verdict != 0 then dropBy Frame.id f.id h.frames
    else h.frames.map (fun x : Frame => if x.id == f.id then f1 else x) }
  (if gone && f.live then h1.freeFrame f else h1).refreshEpochs

/-- A copy releases its share: the queue's depth and the copy count (R298, R304). -/
def releaseCopy (f : Frame) (c : Copy) (h : Hub) : Hub :=
  let h1 := if c.egress < 20 then h.wr (depthKey c.egress c.cls) (h.rd (depthKey c.egress c.cls) - f.cells) else h
  h1.putFrame { f with copies := f.copies.filter (fun x => x.egress != c.egress) }

/-- The frame of an identifier. -/
def frameOf (h : Hub) (id : Nat) : Option Frame := h.frames.find? (fun f => f.id == id)

/-- The copy for the split service of a GOOD frame is handed over to it (R235, R284). -/
def handOver (id : Nat) (h : Hub) : Hub :=
  match h.frameOf id with
  | none => h
  | some f => match f.copies.find? (fun c => c.egress == 20) with | none => h | some c => h.releaseCopy f c

/-- The lookup's conclusion and the admission of a frame (R284 to R288). `whole` frames are GOOD at their lookup (R293);
`pass` is 1 for a frame that Flint passes on when it is delivered to port 18, the port plus 2 for a serial frame. -/
def enterFrame (ingress header payload named : Nat) (whole : Bool) (forced : Option Lookup) (pass : Nat) (h : Hub) : Hub :=
  let h0 := h.countIn ingress header
  match h0.chooseDomain with
  | none => h0.dropWhole (h0.newFrame ingress header payload 3 whole false 0 0 0) 7 ingress
  | some d =>
    match (match forced with | some l => l | none => h0.lookup ingress header named) with
    | .drop reason port kind result m =>
      h0.dropWhole (h0.newFrame ingress header payload d whole m kind result 0) reason port
    | .send kind result m ports lost =>
      let f := h0.newFrame ingress header payload d whole m kind result pass
      if h0.safeDrops header then h0.dropWhole f 15 ingress
      else
        let h1 := lost.foldl (fun x l => x.countDrop l.2 l.1) h0
        let need := f.cells + (if hClass header = 0 then 0 else h1.rd Od.C0_RESERVE)
        if h1.allocatable d < need then h1.dropWhole f 7 ingress
        else
          let (cs, h2) := admitCopies ingress header f.cells whole ports h1
          match cs with
          | [] => (h2.mirror f true ((lost.head?.map (·.2)).getD 6) false).awaitVerdict f
          | _ :: _ =>
            let h3 := h2.storeFrame { f with copies := cs }
            if whole then ((h3.mirror f false 0 false).refreshEpochs).handOver f.id else h3.refreshEpochs

/-- Granite stores and forwards: PD2 and a Shale domain are ON (R207). -/
def switchOn (h : Hub) : Bool := h.isOn 2 && h.shaleOn

/-- A frame that enters whole at port 18 or 19 (R285); nothing enters while the switch is not ON. -/
def injectFrame (ingress header payload named : Nat) (h : Hub) : Hub :=
  if h.switchOn then h.enterFrame ingress header payload named true none 0 else h

/-- The first packet of a queue of FIFO words, up to its EOP word, and the rest; none without an EOP word. -/
def splitPacket : List FifoWord → List FifoWord → Option (List FifoWord × List FifoWord)
  | _, [] => none
  | acc, w :: r => if w.eop then some (acc ++ [w], r) else splitPacket (acc ++ [w]) r

/-- A whole TXQ packet enters Granite at port 19 (R285, R399): the control word names the egress of a LOCAL frame. -/
def enterPacket (ws : List FifoWord) (h : Hub) : Hub :=
  let data := pack (ws.map (fun w => (4, w.data)))
  let header := field data 4 16
  (h.injectFrame 19 header (field data 20 (hLen header)) (data % 32)).inc Od.TX_PACKETS

/-- Whole packets of TXQ enter Granite in order once it stores (R399, R404); the fuel is the queue's length. -/
def pumpTxqN : Nat → Hub → Hub
  | 0, h => h
  | n + 1, h =>
    if !h.switchOn then h
    else match splitPacket [] h.txq with
      | none => h
      | some (p, r) => pumpTxqN n ({ h with txq := r }.enterPacket p)

/-- Whole packets of TXQ enter Granite. -/
def pumpTxq (h : Hub) : Hub := pumpTxqN h.txq.length h

/-- A DATA frame that Flint or a service of the hub sends, from hub:0:ep, through the tables (R285). -/
def sendData (cls dest ep len payload : Nat) (h : Hub) : Hub :=
  h.injectFrame 18 (mkTrunk 0 cls len false dest (sysAddr h.ownHub 0 ep) 0) payload 0

/-! ### Copies out -/

/-- One copy dropped at its egress with a reason (R289). -/
def dropCopy (reason : Nat) (id p : Nat) (h : Hub) : Hub :=
  match h.frameOf id with
  | none => h
  | some f =>
    match f.copies.find? (fun c => c.egress == p) with
    | none => h
    | some c => (h.countDrop reason p).releaseCopy f c

/-- The delivery of a port ends short (R232): when part of the transfer was accepted, the hub owes the endpoint a
zero-length packet and counts the drop as truncated. -/
def endDelivery (p : Nat) (h : Hub) : Hub :=
  match h.deliveries.find? (fun v => v.port == p) with
  | none => h
  | some v =>
    let h1 := { h with deliveries := dropBy Delivery.port p h.deliveries }
    if v.sent = 0 then h1 else (h1.inc (Od.DELIVERY_TRUNCATED p)).wr (Reg.closeOwed v.dest) 1

/-- Every copy for an egress is dropped with a reason (R315, Table 9-2). -/
def dropEgress (reason p : Nat) (h : Hub) : Hub :=
  let ids := (h.frames.filter (fun f => f.copies.any (fun c => c.egress == p))).map (·.id)
  ids.foldl (fun x i => x.dropCopy reason i p) (h.endDelivery p)

/-- An egress stops taking frames: its copies are dropped as EGRESS_GONE (R315). -/
def egressGone (p : Nat) (h : Hub) : Hub := h.dropEgress 12 p

/-- A PATH member leaves the candidates: the copies that a PATH result queued on it are dropped as EGRESS_GONE (R301, R315). -/
def pathGone (p : Nat) (h : Hub) : Hub :=
  let ids := (h.frames.filter (fun f => f.kind == 2 && f.copies.any (fun c => c.egress == p))).map (·.id)
  let h1 := if h.deliveries.any (fun v => v.port == p && ids.contains v.frame) then h.endDelivery p else h
  ids.foldl (fun x i => x.dropCopy 12 i p) h1

/-- The copy that has begun on an egress, with its frame. -/
def begunCopy (h : Hub) (p : Nat) : Option (Frame × Copy) :=
  (h.frames.findSome? (fun f => (f.copies.find? (fun c => c.egress == p && c.begun)).map (fun c => (f, c))))

/-- A poisoned FIFO word ends the packet; BYTES gives the valid bytes (Table 13-7). -/
def eopBytes (len : Nat) : Nat := (16 + len) % 4

/-- Pushes words to RXQ1 for class C1 and to RXQ0 otherwise (R30). -/
def pushRx (c1 : Bool) (ws : List FifoWord) (h : Hub) : Hub :=
  if c1 then { h with rxq1 := h.rxq1 ++ ws } else { h with rxq0 := h.rxq0 ++ ws }

/-- The words of a frame for port 19: header and payload, without CRC (R398). -/
def rxWords (f : Frame) (pseq : Nat) (bad : Bool) : List FifoWord :=
  let n := frameWords (hLen f.header)
  let v := f.header % 256 ^ 16 + 256 ^ 16 * (f.payload % 256 ^ hLen f.header)
  (List.range n).map (fun i =>
    { sop := i == 0, eop := i + 1 == n, err := bad && i + 1 == n,
      bytes := if i + 1 == n then eopBytes (hLen f.header) else 0, pseq := pseq, data := field v (4 * i) 4, seq := 0 })

/-- Frames of this header go out with ENC set: a TS link whose transmit key is in place (R448). -/
def encrypts (h : Hub) (p : Nat) : Bool := decide (16 ≤ p) && decide (p < 18) && h.rd (Od.LINK_CLASS p) == 4 && h.rd (Reg.keyTx (p - 16)) == 1

/-- Under TRUNK_ENC REQUIRED, until the keys are in place only link-local CONTROL frames start on a TS link (R448). -/
def keysAllow (h : Hub) (p header : Nat) : Bool :=
  !(decide (16 ≤ p) && decide (p < 18) && h.rd (Od.LINK_CLASS p) == 4 && h.rd Od.TRUNK_ENC == 2 && h.rd (Reg.keyTx (p - 16)) == 0
    && !(hFtype header == 2 && hLocal header))

/-- The endpoint that counts a frame in LINK_SEQ as the hub sends it: 0 on a TS link, endpoint 2 for class C1 toward a parent, and endpoint 1
otherwise (R198, R202). -/
def frameEp (h : Hub) (p cls : Nat) : Nat :=
  if h.rd (Od.LINK_CLASS p) = 4 then 0 else if h.rd (Od.ATTACH_STATE p) = 5 ∧ cls = 1 then 2 else 1

/-- The endpoint that counts a received frame in LINK_SEQ: 0 on a TS link, endpoint 2 for class C1 from a child, endpoint 1 otherwise (R198,
R202). -/
def frameEpIn (h : Hub) (p cls : Nat) : Nat :=
  if h.rd (Od.LINK_CLASS p) = 4 then 0 else if h.rd (Od.ATTACH_STATE p) = 4 ∧ cls = 1 then 2 else 1

/-- The bytes that endpoint ep of packet link p has received of the frame in reception. -/
def streamOf (h : Hub) (p ep : Nat) : RxStream := (h.rxStreams.find? (fun x => x.port == p && x.ep == ep)).getD ⟨p, ep, 0, 0, h.now⟩

/-- A stream replaced. -/
def putStream (x : RxStream) (h : Hub) : Hub :=
  { h with rxStreams := x :: h.rxStreams.filter (fun y => !(y.port == x.port && y.ep == x.ep)) }

/-- Frame bytes that an endpoint accepted join its stream (R198). -/
def streamIn (p ep len data : Nat) (h : Hub) : Hub :=
  let x := h.streamOf p ep
  if len = 0 then h else h.putStream { x with len := x.len + len, data := x.data + 256 ^ x.len * (data % 256 ^ len), last := h.now }

/-- The frame of n bytes at the head of a stream has ended. -/
def streamDone (p ep n : Nat) (h : Hub) : Hub :=
  let x := h.streamOf p ep
  h.putStream { x with len := x.len - n, data := x.data / 256 ^ n }

/-- The bytes of a frame, header and payload, that are in Shale (R292). -/
def inShale (h : Hub) (f : Frame) : Nat :=
  if f.verdict ≠ 0 then 16 + f.got else min (h.streamOf f.ingress (h.frameEpIn f.ingress (hClass f.header))).len (16 + hLen f.header)

/-- The payload of a frame as far as it is in Shale. -/
def payloadNow (h : Hub) (f : Frame) : Nat :=
  if f.verdict ≠ 0 then f.payload else (h.streamOf f.ingress (h.frameEpIn f.ingress (hClass f.header))).data / 256 ^ 16

/-- The first cell of a frame in reception on a packet link is written (R292). -/
def cellIn (h : Hub) (f : Frame) : Bool := decide (64 ≤ h.inShale f)

/-- The nonce of a frame under a link key: the direction's salt and the extended sequence, most significant byte first (R450). -/
def gcmNonce (salt seq : Nat) : Nat := ofBytes (toBytes 4 salt ++ (toBytes 8 seq).reverse)

/-- The authentication tag of a frame with ENC, over its header as sent and its ciphertext (R450). -/
def gcmTagOf (key salt seq header len cipher : Nat) : Nat :=
  Config.gcmTag key (gcmNonce salt seq) (toBytes 16 header ++ toBytes len cipher) % 256 ^ 16

/-- The CRC-32 of a frame over header, payload as sent and tag (R15, R199). -/
def frameCrc (header len data : Nat) (tag : Option Nat) : Nat :=
  crc32 (toBytes 16 header ++ toBytes len data ++ (match tag with | none => [] | some t => toBytes 16 t))

/-- The rest of the frame that an egress sends (R199, R294, R296): payload bytes, encrypted under the key the frame began with, the tag with
ENC, and the CRC-32, inverted bit for bit when poisoned. -/
def frameRest (h : Hub) (p len payload : Nat) (bad : Bool) : Emission :=
  let header := h.rd (Reg.sentHead p)
  let plain := payload % 256 ^ len
  if hEnc header = 1 then
    let n := gcmNonce (h.rd (Reg.sentSalt p)) (h.rd (Reg.sentSeq p))
    let data := Config.gcmCrypt (h.rd (Reg.sentKey p)) n len plain % 256 ^ len
    let tag := gcmTagOf (h.rd (Reg.sentKey p)) (h.rd (Reg.sentSalt p)) (h.rd (Reg.sentSeq p)) header len data
    let crc := frameCrc header len data (some tag)
    .frameEnd p len data (some tag) (if bad then 2 ^ 32 - 1 - crc else crc) bad
  else
    let crc := frameCrc header len plain none
    .frameEnd p len plain none (if bad then 2 ^ 32 - 1 - crc else crc) bad

/-- The header as an egress sends it on a port from 0 to 17: HOPS, CM, ENC, LINK_SEQ and HCHECK (R296, R202). -/
def egressHeader (h : Hub) (p header : Nat) (cm : Bool) : Nat :=
  let hops := (hHops header + 1) % 16
  let seq := h.rd (Reg.linkTx p (h.frameEp p (hClass header))) % 2 ^ 16
  let x := header % 2 ^ 120
  let x1 := x - hHops header * 2 ^ 19 + hops * 2 ^ 19
  let x2 := putBit (putBit x1 6 (cm || hCm header == 1)) 7 (h.encrypts p)
  withCheck (x2 - hSeq header * 2 ^ 72 + seq * 2 ^ 72)

/-- The sender's credit allows the frame (R204); only TS links carry credit. -/
def creditOk (h : Hub) (p header : Nat) : Bool :=
  if decide (p < 18) && h.rd (Od.LINK_CLASS p) == 4 then
    let enc := if h.encrypts p then 1 else 0
    let cost := ceilDiv (16 + hLen header + 4 + 16 * enc) 64
    let room := (h.rd (Reg.crLimit p (hClass header)) + 2 ^ 16 - h.rd (Reg.crSent p (hClass header)) % 2 ^ 16) % 2 ^ 16
    decide (cost ≤ room ∧ room ≤ 32767)
  else true

/-- The head of a class queue: the copy queued first (R302, R303). -/
def headOf (h : Hub) (p c : Nat) : Option (Frame × Copy) :=
  (h.frames.flatMap (fun f => (f.copies.filter (fun x => x.egress == p && x.cls == c && x.queued && !x.begun)).map (fun x => (f, x)))).foldl
    (fun best x => match best with | none => some x | some b => if x.2.order < b.2.order then some x else some b) none

/-- The next copy of an egress: the eligible head of the highest class (R302). A CUT copy is eligible once its frame's first cell is written,
which `cutReady` says for a TS ingress. -/
def nextCopy (h : Hub) (p : Nat) (cutReady : Bool) : Option (Frame × Copy) :=
  ((List.range 4).filterMap (fun c =>
    match h.headOf p c with
    | some x => if (!x.2.cut || cutReady || h.cellIn x.1) && h.creditOk p x.1.header && h.keysAllow p x.1.header then some x else none
    | none => none)).head?

/-- The begun copy is marked in its frame. -/
def markBegun (f : Frame) (p : Nat) (h : Hub) : Hub :=
  { h with frames := h.frames.map (fun x : Frame =>
      if x.id == f.id then { x with copies := x.copies.map (fun c => if c.egress == p then { c with begun := true } else c) } else x) }

/-- A copy begins on its egress (R292, R296, R304): counters, the rewritten header, credit and LINK_SEQ; port 19 gets the
packet's words but the last; a field device's delivery opens (R232). -/
def beginCopy (f : Frame) (c : Copy) (h : Hub) : Hub :=
  let p := c.egress
  let h1 := h.markBegun f p
  let h2 := if c.cut then h1.inc (Od.CUT_THROUGH_TX p) else h1
  let h3 := if c.cm then h2.inc (Od.CM_MARKS p) else h2
  if p = 18 then h3
  else if p = 19 then
    let i := if c.cls = 1 then 1 else 0
    let pseq := h3.rd (Reg.pseq i) % 4
    let words := rxWords f pseq false
    (h3.pushRx (c.cls == 1) words.dropLast).wr (Reg.pseq i) ((pseq + 1) % 4)
  else if h.farIsHub p then
    let a := h.frameEp p (hClass f.header)
    let out := h3.egressHeader p f.header c.cm
    let key := ((h3.linkKeys.find? (fun k => k.trunk + 16 == p)).bind (fun k => k.txCur)).getD (0, 0)
    let h4 := (h3.emit (.frameHeader p out)).wr (Reg.linkTx p a) ((h3.rd (Reg.linkTx p a) + 1) % 2 ^ 64)
      |>.wr (Reg.sentHead p) out |>.wr (Reg.sentSeq p) (h3.rd (Reg.linkTx p a)) |>.wr (Reg.sentKey p) key.1 |>.wr (Reg.sentSalt p) key.2
    let h5 := if a = 0 then h4.wr (Reg.crSent p c.cls) ((h4.rd (Reg.crSent p c.cls) + frameCost out) % 2 ^ 16) else h4
    if hEnc out = 1 then h5.wr (Reg.keyE (p - 16)) (h5.rd (Reg.keyE (p - 16)) + 1) else h5
  else
    let v : Delivery :=
      { port := p, frame := f.id, dest := hDest f.header % 4096, sent := 0, closing := false,
        deadline := h.now + h.rd (Od.DELIVERY_TIMEOUT p) * 1000000 }
    { h3 with deliveries := putBy Delivery.port v h3.deliveries }

/-- The begun copy of an egress is ended poisoned (R294): POISONED_TX, the poisoned end marker, and ERR at port 19 (R398). -/
def poisonCopy (f : Frame) (c : Copy) (h : Hub) : Hub :=
  let p := c.egress
  let h1 := h.inc (Od.POISONED_TX p)
  let h2 :=
    if p = 18 then h1
    else if p = 19 then
      let i := if c.cls = 1 then 1 else 0
      ((h1.pushRx (c.cls == 1) ((rxWords f ((h1.rd (Reg.pseq i) + 3) % 4) true).drop (frameWords (hLen f.header) - 1)))).inc Od.HL_RX_POISONED
    else h1.emit (h1.frameRest p f.got f.payload true)
  h2.releaseCopy f c

/-- FRAMES_OUT and BYTES_OUT of a copy that ended normally (R322). -/
def countOut (p header : Nat) (h : Hub) : Hub := (h.inc (Od.FRAMES_OUT p) 64).add (Od.BYTES_OUT p) (16 + hLen header) 64

/-- What Flint does with a frame delivered to port 18 that it passes on: a mirror frame goes unchanged to MIRROR_DEST (R317);
a frame of a serial line goes on as a class C2 DATA frame from hub:0:12 to 0x000:0:12, and a frame to
hub:0:12 goes to the serial port that its byte 0 names (R135). -/
def flintForward (f : Frame) (h : Hub) : Hub :=
  if f.pass = 1 then
    h.injectFrame 18 (mkTrunk 0 3 (hLen f.header) false (h.rd Od.MIRROR_DEST % 2 ^ 24) (hSrc f.header) 0) f.payload 0
  else if 2 ≤ f.pass then h.sendData 2 12 12 (hLen f.header) f.payload
  else if hFtype f.header = 0 ∧ hClass f.header = 2 ∧ hLocal f.header = false ∧ hDest f.header = sysAddr h.ownHub 0 12 ∧ h.switchOn = true then
    let p := f.payload % 256
    let header := mkTrunk 0 2 (hLen f.header) true (hDest f.header) (hSrc f.header) 0
    h.enterFrame 18 header f.payload p true
      (some (if h.serialTakes p 4 then h.toPort 18 p 4 p false else .drop 12 p 4 p false)) 0
  else h

/-- The begun copy of an egress ends (R294, R322): normally when its frame is GOOD, poisoned when BAD. -/
def finishCopy (f : Frame) (c : Copy) (h : Hub) : Hub :=
  let p := c.egress
  if f.verdict = 2 then h.poisonCopy f c
  else
    let h1 := h.countOut p f.header
    if p = 18 then (h1.releaseCopy f c).flintForward f
    else if p = 19 then
      let i := if c.cls = 1 then 1 else 0
      ((h1.pushRx (c.cls == 1) ((rxWords f ((h1.rd (Reg.pseq i) + 3) % 4) false).drop (frameWords (hLen f.header) - 1)))).releaseCopy f c
    else (h1.emit (h1.frameRest p f.got f.payload false)).releaseCopy f c

/-- A frame without copies leaves with its verdict. -/
def dropDead (f : Frame) (h : Hub) : Hub := { h with frames := dropBy Frame.id f.id h.frames }

/-- A frame is BAD from this instant (R293 to R295): copies not begun are dropped, begun copies go on and end poisoned, or
end at once when the ingress ended early. One that has no copy is only counted (R289). -/
def frameBad (f : Frame) (truncated : Bool) (h : Hub) : Hub :=
  let h1 := h.countDrop 9 f.ingress
  if !f.live then h1.dropDead f else
  let h2 := h1.mirror { f with verdict := 2 } false 0 true
  let keep := f.copies.filter (·.begun)
  let gone := f.copies.filter (fun c => !c.begun)
  let h3 := gone.foldl (fun x c => if c.egress < 20 then x.wr (depthKey c.egress c.cls) (x.rd (depthKey c.egress c.cls) - f.cells) else x) h2
  let f1 := { f with verdict := 2, copies := keep }
  let h4 := h3.putFrame f1
  if truncated then
    keep.foldl (fun x c => match x.frameOf f.id with | some g => x.poisonCopy g c | none => x) h4
  else h4

/-- A frame is GOOD: its STORE copies are queued, and a frame for the split service has been handed over (R292, R293). -/
def frameGood (f : Frame) (payload : Nat) (h : Hub) : Hub :=
  if !f.live then h.dropDead f else
  let f1 := { f with verdict := 1, payload := payload % 256 ^ hLen f.header, got := hLen f.header }
  let h1 := h.mirror f1 false 0 false
  let n := h1.rd Reg.queueOrder
  let cs := (f1.copies.filter (fun c => c.egress != 20)).map
    (fun c => if c.queued then c else { c with queued := true, order := n })
  let f2 := { f1 with copies := cs }
  (h1.wr Reg.queueOrder (n + 1)).putFrame f2

/-- The frame being received at an ingress, on an endpoint of a packet link or, as 0, on a TS link (R198). -/
def receiving (h : Hub) (p ep : Nat) : Option Frame :=
  h.frames.find? (fun f => f.ingress == p && f.verdict == 0 && h.frameEpIn p (hClass f.header) == ep)

/-- A frame in reception with what Shale holds of it. -/
def soFar (h : Hub) (f : Frame) : Frame := { f with payload := h.payloadNow f % 256 ^ (h.inShale f - 16), got := h.inShale f - 16 }

/-- The ingress link left ACTIVE, detached or was reset: the frames in reception there become BAD, truncated (R293), and the bytes of their
streams are gone. -/
def ingressLost (p : Nat) (h : Hub) : Hub :=
  let fs := h.frames.filter (fun f => f.ingress == p && f.verdict == 0)
  let h1 := fs.foldl (fun x f => x.frameBad (x.soFar f) true) h
  { h1 with rxStreams := dropBy RxStream.port p h1.rxStreams }

/-! ### Link-level effects on the switch -/

/-- Credit held back returns to its class's limit: C0 always, the others unless every allowed domain is below CREDIT_HOLD;
no limit advances while the switch is not ON (R207, R290). -/
def advanceCredit (p : Nat) (h : Hub) : Hub :=
  if !h.switchOn then h
  else
    let low := h.allowedDomains.all (fun d => decide (h.rd (freeKey d) < h.rd Od.CREDIT_HOLD))
    (List.range 4).foldl (fun x c =>
      if c ≠ 0 ∧ low then x
      else x.wr (Reg.crGrant p c) ((x.rd (Reg.crGrant p c) + x.rd (Reg.crOwed p c)) % 2 ^ 16) |>.wr (Reg.crOwed p c) 0) h

/-- The payload of a CREDIT frame: four cumulative limits (Table 6-17). -/
def creditPayload (h : Hub) (p : Nat) : Nat := pack ((List.range 4).map (fun c => (2, h.rd (Reg.crGrant p c))))

/-- A frame's cost returns to the limit of its class when its lookup concludes (R290). -/
def returnCredit (p cls cost : Nat) (h : Hub) : Hub :=
  if decide (p < 18) && h.rd (Od.LINK_CLASS p) == 4 then
    (h.wr (Reg.crOwed p cls) (h.rd (Reg.crOwed p cls) + cost)).advanceCredit p
  else h

end Hub
end Sys2Proof.Machine
end

