-- ==== Sys2Proof/Machine/HubOps.lean ====
section
/-!
DEFINITION. Sys2Proof/Machine/HubOps.lean: the link states (R161 to R211) and the hub engine (R215 to R245) as shared
operations: link resets and entries to ACTIVE, halts, device addresses, port moves, split slots, transactions and resumes.
-/
namespace Sys2Proof.Machine

/-- MAX of a class in bytes: 8 at LS, 64 at FS, 512 at HS (R182). -/
def classMax (c : Nat) : Nat := if c = 1 then 8 else if c = 2 then 64 else 512

/-- The longest turnaround of a class in ns (Table 6-18). -/
def turnMax (c : Nat) : Nat := if c = 1 then 5000 else if c = 2 then 625 else 400

/-- The shortest turnaround of a class in ns (Table 6-18). -/
def turnMin (c : Nat) : Nat := if c = 1 then 1330 else if c = 2 then 167 else 160

/-- tEofGuard of a class in ns (Table 6-18). -/
def eofGuard (c : Nat) : Nat := if c = 1 then 20000 else if c = 2 then 5000 else 1000

/-- tResponse of a class at its minimum in ns (Table 6-18). -/
def responseMin (c : Nat) : Nat := if c = 1 then 30000 else if c = 2 then 9000 else 2500

/-- The time in ns of a packet of n bytes, PID to check, on the wire (R165, R166, Table 2-3): at HS 10 bits a byte with two idles, the
start and the end symbol, at LS and FS its bits with SYNC and EOP; `stuffed` reckons the most stuffing, one bit in six. -/
def packetTime (c n : Nat) (stuffed : Bool) : Nat :=
  if c = 3 then (n + 6) * 80
  else
    let b := 11 + (if stuffed then ceilDiv (56 * n) 6 else 8 * n)
    ceilDiv (b * (if c = 1 then 2000 else 250)) 3

/-- The time in ns of n DATA packets of at most mx bytes that carry len bytes, each after a gap (R182, R185). -/
def burstTime (c gap mx n len : Nat) (stuffed : Bool) : Nat :=
  n * gap + (n - 1) * packetTime c (mx + 4) stuffed + packetTime c (len - (n - 1) * mx + 4) stuffed

/-- The time in ns of what the hub sends of a transaction: the token and its DATA packets (R179, R185, R192). -/
def sendTime (c mx : Nat) (x : Txn) (stuffed : Bool) : Nat :=
  let gap := if stuffed then turnMax c else turnMin c
  packetTime c 4 stuffed
    + (if x.isIn ∨ x.kind = .ping ∨ x.kind = .timePing then 0 else if x.setup then gap + packetTime c 12 stuffed else burstTime c gap mx x.packets x.len stuffed)

/-- Device × 16 + endpoint, the index of a far endpoint's sequence state. -/
def epIndex (dev ep : Nat) : Nat := dev * 16 + ep

/-- The 16-bit fields of an IDENTIFY record (Table 7-4). -/
def idVendor (r : Nat) : Nat := field r 0 2
def idProduct (r : Nat) : Nat := field r 2 2
def idKind (r : Nat) : Nat := byteAt r 6
def idFunctions (r : Nat) : Nat := byteAt r 7
def idSerial (r : Nat) : Nat := field r 8 8
def idMap (r : Nat) : Nat := field r 16 2

/-- Lowest element of a range that satisfies a test. -/
def firstFrom (lo hi : Nat) (f : Nat → Bool) : Option Nat := ((List.range (hi + 1 - lo)).map (· + lo)).find? f

/-- The reach of a class in 0.1 m (Table 2-3); LINK_CLASS is 1 LS, 2 FS, 3 HS, 4 TS. -/
def classReach (cls : Nat) : Nat := if cls = 1 then 12000 else if cls = 2 then 5000 else if cls = 3 then 1200 else 500

namespace Hub

/-- REACH_EXCEEDED of the class in use against the measured length of a downstream cable (R42). -/
def judgeReach (p : Nat) (h : Hub) : Hub :=
  if 16 ≤ p ∨ h.rd (Od.LINK_CLASS p) = 0 then h
  else h.wr (Od.REACH_EXCEEDED p) (if classReach (h.rd (Od.LINK_CLASS p)) < h.rd (Od.CABLE_LENGTH p) then 1 else 0)

/-! ### Halts (R196) -/

/-- The cause present for endpoint 0's OD halt, 0 for none (R196, and Table 1-3 for SWITCH_NOT_ON). -/
def odHaltCause (h : Hub) : Nat :=
  if !h.flintOn then 1
  else if !h.switchOn then 4
  else if h.rd Reg.committing = 1 then 2
  else if h.rd Reg.rotating ≠ 0 then 3
  else 0

/-- The cause present for endpoint 1's halts. -/
def switchHaltCause (h : Hub) : Nat := if h.switchOn then 0 else 4

/-- The cause present for endpoint 2's halt. -/
def quartzHaltCause (h : Hub) : Nat := if h.isOn 5 then 0 else 5

/-- Sets a halt whose cause is present and that is not yet set. -/
def raiseHalt (k cause : Nat) (h : Hub) : Hub := if h.rd k = 0 ∧ cause ≠ 0 then h.wr k cause else h

/-- Every halt whose cause is present is set (R196). -/
def refreshHalts (h : Hub) : Hub :=
  (((h.raiseHalt Od.EP0_OD_HALT h.odHaltCause).raiseHalt Od.EP1_OUT_HALT h.switchHaltCause).raiseHalt
    Od.EP1_IN_HALT h.switchHaltCause).raiseHalt Od.EP2_IN_HALT h.quartzHaltCause

/-- On a reset each halt whose cause has ended is cleared; one whose cause persists stays (R169). -/
def resetHalts (h : Hub) : Hub :=
  h.wr Od.EP0_OD_HALT h.odHaltCause |>.wr Od.EP1_OUT_HALT h.switchHaltCause
    |>.wr Od.EP1_IN_HALT h.switchHaltCause |>.wr Od.EP2_IN_HALT h.quartzHaltCause

/-- The payload of a STATUS frame (Table 6-17). -/
def statusPayload (h : Hub) : Nat :=
  pack [(1, h.rd Od.EP0_OD_HALT), (1, h.rd Od.EP1_OUT_HALT), (1, h.rd Od.EP1_IN_HALT), (1, h.rd Od.EP2_IN_HALT)]

/-! ### Link states -/

/-- The hub is the upstream end of the link (R161). -/
def upstreamEnd (h : Hub) (p : Nat) : Bool := h.rd (Od.ATTACH_STATE p) == 4
/-- The hub is the downstream end of the link (R161, R162). A MANAGER's trunk that attached as sink answers no parent (R32). -/
def downstreamEnd (h : Hub) (p : Nat) : Bool := h.rd (Od.ATTACH_STATE p) == 5 && h.role != 1

/-- A port is a fabric port: endpoint 1 carries Eclin-1 frames there (R340). -/
def fabricPort (h : Hub) (p : Nat) : Bool :=
  hasBit (h.rd Od.FABRIC_PORTS) p && ((h.role == 2 && decide (p < 18)) || (h.role == 3 && decide (p < 16)))

/-! ### The hub's own presence pull-up (R162, R167, R173) -/

/-- The line that the pull-up stands on: D− for a CLASS_MAX of LS, D+ otherwise. -/
def pullLineFor (h : Hub) (p : Nat) : Nat := if h.rd (Od.CLASS_MAX p) = 1 then 2 else 1

/-- The pull-up stands on a line, or 0 for none; PULLUP of a trunk shows it. -/
def setPull (p line : Nat) (h : Hub) : Hub :=
  if h.rd (Reg.pullLine p) = line then h
  else
    let h1 := (h.wr (Reg.pullLine p) line).emit (.pullUp p line)
    if p = 16 ∨ p = 17 then h1.wr (Od.PULLUP p) (if line = 0 then 0 else 1) else h1

/-- The pull-up is applied, by firmware on a trunk and by the hub on a fabric port (R162, R173). -/
def applyPull (p : Nat) (h : Hub) : Hub := (h.wr (Reg.pullApplied p) 1).setPull p (h.pullLineFor p)

/-- The pull-up returns with LS or FS signalling, where it had been applied (R167, R173). -/
def restorePull (p : Nat) (h : Hub) : Hub := if h.rd (Reg.pullApplied p) = 1 then h.setPull p (h.pullLineFor p) else h

/-- The end of a link that measures its delay: the upstream end of a packet link, the downstream end of a TS link (R268). -/
def probes (h : Hub) (p : Nat) : Bool := if h.rd (Od.LINK_CLASS p) = 4 then h.downstreamEnd p else h.upstreamEnd p

/-- A hierarchy record (R332). -/
def hierRecord (kind : Nat) (h : Hub) : Hub :=
  h.sendHierRecord (pack [(1, kind), (1, h.rd Od.CONTROL_UPSTREAM), (1, h.rd Od.STANDBY_UPSTREAM), (1, 0), (2, h.rd Od.HUB_ID), (2, 0), (8, h.stamp)])

/-- The keys of a TS link are discarded whenever it leaves ACTIVE (R448), and an exchange under way on it ends, the rotation with it (R452). -/
def dropLinkKeys (u : Nat) (h : Hub) : Hub :=
  let h1 := { h with linkKeys := dropBy LinkKey.trunk u h.linkKeys, keyx := dropBy KeyExchange.trunk u h.keyx }.clear
    [Reg.keyTx u, Reg.keyxDue u, Tm.keyAgree u, Tm.keyRetry u, Tm.rekey u, Reg.keyE u, Reg.keyFramesRx u, Reg.tagRun u, Reg.keyRxE u]
  (if h1.rd Reg.rotating = u + 1 then (h1.wr Reg.rotating 0).refreshHalts else h1).wr (Od.UA_SEC_STATE + u) 0

/-- The transaction on the wire of a port. -/
def txnOf (h : Hub) (p : Nat) : Option Txn := h.txns.find? (fun x => x.port == p)

/-- The transaction of a port whose packets have gone out. -/
def onWire (h : Hub) (p : Nat) : Option Txn := (h.txnOf p).filter (fun x => !x.held)

/-! ### The open batch of reports (R262, R265) -/

/-- The open batch closes and enters Granite at port 18 (R262); one without reports sends nothing. -/
def closeBatch (h : Hub) : Hub :=
  match h.batch with
  | [] => h.wr Reg.batchWin 0
  | rs =>
    let seq := if h.rd Reg.anyBatch = 0 then 0 else (h.rd Od.BATCH_SEQ + 1) % 65536
    let win := h.rd Reg.batchWin - 1
    let payload := pack ([(2, seq), (1, rs.length), (1, h.rd Od.SYNC_STATE), (4, win)] ++ rs.map (fun r => (24, r.record)))
    let h1 := { h with batch := [] }.wr Od.BATCH_SEQ seq |>.wr Reg.anyBatch 1 |>.wr Reg.batchWin 0
    (h1.inc Od.BATCHES_SENT).sendData 1 (h.rd Od.REPORT_DEST % 2 ^ 24) 2 (8 + 24 * rs.length) payload

/-- The open batch closes with the last poll on the wire once Quartz has left RUNNING (R265). -/
def closeAfterPoll (h : Hub) : Hub :=
  if h.rd Reg.batchClose = 1 ∧ (h.polls.all (fun j => j.stage == 0)) then (h.wr Reg.batchClose 0).closeBatch else h

/-- One skip of a poll (R252): the entry's SKIPS and the hub counter. -/
def countSkip (entry counter : Nat) (h : Hub) : Hub :=
  let s := h.rd (Od.POLL_STATE entry)
  (h.wr (Od.POLL_STATE entry) (putField s 24 2 (satInc 16 (field s 24 2)))).inc counter

/-- Polls of a port that leaves ENABLED, queued or cut off on the wire, count as skips under PORT_STATE (R252). -/
def skipPolls (p : Nat) (h : Hub) : Hub :=
  let gone := h.polls.filter (fun j => j.port == p && j.stage != 3)
  (gone.foldl (fun (x : Hub) j => x.countSkip j.entry Od.SKIP_PORT_STATE)
    { h with polls := h.polls.filter (fun j => !(j.port == p && j.stage != 3)) }).closeAfterPoll

/-- The transaction on the wire of a port is cut off; a poll on the wire has no outcome (R252). -/
def cutTxn (p : Nat) (h : Hub) : Hub :=
  let onWire := h.polls.filter (fun j => j.port == p && j.stage == 2)
  (onWire.foldl (fun (x : Hub) j => x.countSkip j.entry Od.SKIP_PORT_STATE)
    ({ h with txns := dropBy Txn.port p h.txns, polls := h.polls.filter (fun j => !(j.port == p && j.stage == 2)) }.clear
      [Reg.burstAck p, Reg.inEp p])).closeAfterPoll

/-- What the loss of ACTIVE ends on a link: reception (R293), the copies on a port that the hub engine does not run (R217), and those
of a PATH member (R301, R315), the reach set (R336), fabric neighbours (R341), link keys (R448), the standby upstream (R332, R333) and the timers. -/
def linkLost (p : Nat) (h : Hub) : Hub :=
  let h1 := (h.ingressLost p).wr (Reg.leftActive p) 1 |>.clear [Tm.rejoin p, Tm.credit p, Tm.status p, Od.REACH p, Tm.notices p, Tm.probeInterval p, Reg.timeOwed p]
  let h2 := if !h1.engineRuns p then h1.egressGone p else h1.pathGone p
  let h3 := if h2.neighbours.any (fun n => n.port == p && n.twoWay) then
      { h2 with neighbours := dropBy Neighbour.port p h2.neighbours }.wr Reg.lsaDue 1 |>.wr Reg.pathDue 1
    else { h2 with neighbours := dropBy Neighbour.port p h2.neighbours }
  let h4 := if 16 ≤ p then h3.dropLinkKeys (p - 16) else h3
  let h5 := if h4.rd Od.STANDBY_UPSTREAM = p ∧ 16 ≤ p then (h4.wr Od.STANDBY_UPSTREAM 0xFF).hierRecord 4 else h4
  { h5 with lsaWaits := dropBy LsaWait.port p h5.lsaWaits, ctlWait := dropBy ControlFrame.port p h5.ctlWait,
            fabOut := dropBy FabricOut.port p h5.fabOut }.wr (Reg.noticeSent p) 0

/-- The initial credit pools of a TS link (R290, R204): limits and counts start at 0 and the pools are granted. -/
def startCredit (p : Nat) (h : Hub) : Hub :=
  ((List.range 4).foldl (fun x c =>
    x.wr (Reg.crLimit p c) 0 |>.wr (Reg.crSent p c) 0 |>.wr (Reg.crGrant p c) 0
      |>.wr (Reg.crOwed p c) (field (x.rd Od.INGRESS_CREDIT) (2 * c) 2)) h).advanceCredit p

/-- The port record of Table 7-6. -/
def portRecord (p kind cause flags : Nat) (h : Hub) : Hub :=
  h.sendPortRecord p (pack [(1, p), (1, kind), (1, h.rd (Od.PORT_STATE p)), (1, cause), (1, h.rd (Od.DEVICE_BASE p)),
    (1, h.rd (Od.DEVICE_FUNCTIONS p)), (1, flags), (1, 0), (8, h.stamp), (32, if kind = 2 then h.rd (Od.IDENTITY p) else 0)])

/-- The WAKE records that waited for the control upstream go out, in port order (R241). -/
def wakeRecords (h : Hub) : Hub :=
  if h.rd Reg.wakeOwed = 0 then h
  else ((List.range 18).foldl (fun x p => if hasBit (h.rd Reg.wakeOwed) p then x.portRecord p 4 (x.rd (Od.RESUME_CAUSE p)) 0 else x) h).wr
    Reg.wakeOwed 0

/-- Entry to ACTIVE (R174): the stamp, LINK_SEQ and credit from the beginning, REJOIN_HOLD of a returning member, and on the control
upstream the WAKE records that waited (R241). -/
def linkUp (p : Nat) (h : Hub) : Hub :=
  let h1 := (h.wr (Od.LINK_UP_TIME p) h.stamp |>.clear [Reg.linkTx p 0, Reg.linkTx p 1, Reg.linkTx p 2, Reg.linkRx p 0, Reg.linkRx p 1, Reg.linkRx p 2, Tm.active p, Tm.train p,
    Tm.noSymbol p, Reg.retrain p, Reg.statusTold p, Reg.creditTold p]).wr (Reg.everActive p) 1 |>.wr (Reg.heardAt p) (h.now + 1)
  let h1 := if h1.probes p then h1.arm (Tm.probeInterval p) 0 else h1
  let h2 := if h1.rd (Reg.leftActive p) = 1 ∧ h1.rd Od.REJOIN_HOLD ≠ 0 then h1.arm (Tm.rejoin p) (ms (h1.rd Od.REJOIN_HOLD)) else h1
  let h3 := if h2.rd (Od.LINK_CLASS p) = 4 then ((h2.startCredit p).arm (Tm.credit p) (us 100)).arm (Tm.status p) (ms 100) else h2
  if h3.rd Od.CONTROL_UPSTREAM = p then h3.wakeRecords else h3

/-- A link state is entered, with what leaving ACTIVE and entering ACTIVE or SUSPENDED bring (Table 6-5, Table 6-19). -/
def linkTo (p s : Nat) (h : Hub) : Hub :=
  let old := h.rd (Od.LINK_STATE p)
  if old = s then h
  else
    let h1 := (if h.underTest 3 p then h.wr (Reg.loopFrom p) (h.now + 1) else h).wr (Od.LINK_STATE p) s
    let h2 := if old = 4 then h1.linkLost p else h1
    let h3 := if s = 0 ∨ s = 2 then h2.wr (Od.LINK_CLASS p) 0 else h2
    if s = 4 then h3.linkUp p else if s = 5 then (h3.inc (Od.SUSPENDS p)).wr (Reg.suspAt p) (h3.now + 1) else h3

/-- The sequence states of a port's device addresses return to 0 (R169, R255). -/
def resetDeviceSeq (p : Nat) (h : Hub) : Hub :=
  let b := h.rd (Od.DEVICE_BASE p)
  let e := b + h.rd (Od.DEVICE_FUNCTIONS p)
  ((((h.wipe (Reg.seqIn (16 * b)) (Reg.seqIn (16 * e))).wipe (Reg.seqOut (16 * b)) (Reg.seqOut (16 * e))).wipe
    (Reg.pingOwed (16 * b)) (Reg.pingOwed (16 * e))).wipe (Reg.closeOwed (16 * b)) (Reg.closeOwed (16 * e))).wipe
      (Reg.seqGaps (16 * b)) (Reg.seqGaps (16 * e))

/-- A LINK frame goes out on a TS link (R202, R203). -/
def sendLink (p kind payload : Nat) (h : Hub) : Hub :=
  (h.emit (.linkFrame p kind payload)).wr (Reg.linkTx p 0) ((h.rd (Reg.linkTx p 0) + 1) % 2 ^ 64)

/-- The cost in cells of a link-local CONTROL frame of len bytes on a TS link (R204). -/
def controlCost (enc len : Nat) : Nat := ceilDiv (16 + len + 4 + 16 * enc) 64

/-- The credit of class C0 allows so many cells (R204). -/
def creditRoom (h : Hub) (p cost : Nat) : Bool :=
  let room := (h.rd (Reg.crLimit p 0) + 2 ^ 16 - h.rd (Reg.crSent p 0) % 2 ^ 16) % 2 ^ 16
  decide (cost ≤ room ∧ room ≤ 32767)

/-- A link-local CONTROL frame starts on a TS link (R202, R204, R205); `clear` marks one for an entry of OD 0x7040, which is never
encrypted (R448). -/
def startControl (x : ControlFrame) (h : Hub) : Hub :=
  let p := x.port
  let enc := if h.encrypts p && !x.clear then 1 else 0
  let h1 := (h.emit (.control p 0 x.context x.len x.payload)).wr (Reg.linkTx p 0) ((h.rd (Reg.linkTx p 0) + 1) % 2 ^ 64)
  let h2 := h1.wr (Reg.crSent p 0) ((h1.rd (Reg.crSent p 0) + controlCost enc x.len) % 2 ^ 16)
  if enc = 1 then h2.wr (Reg.keyE (p - 16)) (h2.rd (Reg.keyE (p - 16)) + 1) else h2

/-- A frame may start: its cost in C0 is within the credit. -/
def controlMayStart (h : Hub) (x : ControlFrame) : Bool :=
  h.creditRoom x.port (controlCost (if h.encrypts x.port && !x.clear then 1 else 0) x.len)

/-- A link-local CONTROL frame goes out, or waits for credit behind those that wait on its port (R204). -/
def sendControl (p context len payload : Nat) (clear : Bool) (h : Hub) : Hub :=
  let x : ControlFrame := ⟨p, context, len, payload, clear⟩
  if h.controlMayStart x && !h.ctlWait.any (fun y => y.port == p) then h.startControl x
  else { h with ctlWait := h.ctlWait ++ [x] }

/-- The CONTROL frames of a port that wait start in order while the credit lasts; the fuel is their number. -/
def pumpControlN (p : Nat) : Nat → Hub → Hub
  | 0, h => h
  | n + 1, h =>
    match h.ctlWait.find? (fun y => y.port == p) with
    | none => h
    | some x =>
      if h.controlMayStart x then
        pumpControlN p n ({ h with ctlWait := dropFirst (fun y => y.port == p) h.ctlWait }.startControl x)
      else h

/-- The CONTROL frames of a port that wait for credit start (R204). -/
def pumpControl (p : Nat) (h : Hub) : Hub := h.pumpControlN p h.ctlWait.length

/-- A CONTROL REQUEST of the hub's own goes out with the next TAG of the link. -/
def sendRequest (p len payload : Nat) (clear : Bool) (h : Hub) : Hub :=
  (h.sendControl p (0x10000 + h.rd (Reg.ctlTag p)) len payload clear).wr (Reg.ctlTag p) ((h.rd (Reg.ctlTag p) + 1) % 2 ^ 16)

/-- The upstream end resets its link (R169): a LINK frame of kind RESET first on a TS link, then SE0 for tResetSE0. -/
def resetLink (p : Nat) (h : Hub) : Hub :=
  let h1 := if h.rd (Od.LINK_CLASS p) = 4 ∧ h.rd (Od.LINK_STATE p) = 4 then h.sendLink p 7 0 else h
  let h2 := (((h1.cutTxn p).linkTo p 2).inc (Od.RESETS p)).resetDeviceSeq p
  ((h2.clear [Tm.connect p, Tm.offer p, Tm.active p, Tm.train p, Reg.grant p, Tm.enumStart p, Reg.suspendDue p, Tm.listen p, Tm.resumeK p,
    Tm.firstSof p, Tm.noSymbol p, Reg.childIn p, Reg.outPk p, Reg.retrain p]).emit (.driveSe0 p)).arm (Tm.se0 p) 4000000

/-- The downstream end is reset (R169): address 0, sequence states 0, the open control transfer ended, halts whose cause
has ended cleared. -/
def downstreamReset (p : Nat) (h : Hub) : Hub :=
  let h1 := { h with controls := dropBy Control.port p h.controls, fabOut := dropBy FabricOut.port p h.fabOut }.clear [Reg.myAddr p, Reg.outToken p, Reg.outPk p]
  let h2 := ((h1.wipe (Reg.myE p 0) (Reg.myE p 16)).wipe (Reg.mySend p 0) (Reg.mySend p 16)).wipe (Reg.myOut p 0) (Reg.myOut p 16)
  let h3 := h2.resetHalts
  if h3.rd Od.CONTROL_UPSTREAM = p then h3.wr Od.LINK_ADDRESS 0 else h3

/-- A link drops to DOWN with its timers stopped. -/
def linkDown (p : Nat) (h : Hub) : Hub :=
  ((h.cutTxn p).linkTo p 0).clear [Tm.connect p, Tm.se0 p, Tm.offer p, Tm.active p, Tm.train p, Reg.grant p, Tm.enumStart p, Reg.enumTry p,
    Reg.suspendDue p, Tm.listen p, Tm.resumeK p, Tm.firstSof p, Tm.noSymbol p, Reg.childIn p, Reg.outPk p, Reg.retrain p]

/-! ### Records and addresses -/

/-- The CAUSE byte of a STATE record (Table 7-6). -/
def stateCause (h : Hub) (p old : Nat) : Nat :=
  match h.rd (Od.PORT_STATE p) with
  | 8 => h.rd (Od.HOLD_CAUSE p)
  | 3 => h.rd (Od.DISABLE_CAUSE p)
  | 5 => if old = 7 then h.rd (Od.RESUME_CAUSE p) else 0
  | _ => 0

/-- Writes the state byte of a port's device-table entries, or frees them (R229). -/
def setAddresses (p state : Nat) (h : Hub) : Hub :=
  if h.rd (Reg.devHeld p) = 0 then h
  else
    let b := h.rd (Od.DEVICE_BASE p)
    let h1 := (List.range (h.rd (Od.DEVICE_FUNCTIONS p))).foldl (fun x i =>
      if state = 0 then x.wr (Od.DEVICE (b + i)) 0xFF
      else x.wr (Od.DEVICE (b + i)) (putField (x.rd (Od.DEVICE (b + i))) 2 1 state)) h
    h1.wr (Reg.devHeld p) state

/-- Address d is ASSIGNED to port p (R229). -/
def assignedTo (h : Hub) (p d : Nat) : Bool := byteAt (h.rd (Od.DEVICE d)) 0 == p && byteAt (h.rd (Od.DEVICE d)) 2 == 1

/-- Address d is free for enumeration: not in the table, and not mapped by a GATEWAY (R229, R346). -/
def addressFree (h : Hub) (d : Nat) : Bool := byteAt (h.rd (Od.DEVICE d)) 0 == 0xFF && !hasBit (h.rd (Od.FABRIC_MAP d)) 31

/-- Address d lies in a base whose SET_ADDRESS still runs on another port: it is not free, so that no address is given twice (R227). -/
def addressRunning (h : Hub) (p d : Nat) : Bool :=
  h.txns.any (fun x => x.port != p && (match x.kind with
    | .setAddress b => decide (b ≤ d ∧ d < b + idFunctions (h.rd (Od.IDENTITY x.port)))
    | _ => false))

/-- All f addresses from b are free or reserved to the port, and end at 254 at most (R227). -/
def baseFits (h : Hub) (p b f : Nat) : Bool :=
  decide (1 ≤ b ∧ b + f ≤ 255) && (List.range f).all (fun i =>
    (h.addressFree (b + i) || byteAt (h.rd (Od.DEVICE (b + i))) 0 == p) && !h.addressRunning p (b + i))

/-- The base address of an enumerated far end, or none (R227). -/
def chooseBase (h : Hub) (p ident : Nat) : Option Nat :=
  let f := idFunctions ident
  let old := h.rd (Reg.lastIdent p)
  let pin := h.rd (Od.ADDR_PIN p)
  if pin ≠ 0 then (if h.baseFits p pin f then some pin else none)
  else if h.rd (Od.DEVICE_BASE p) ≠ 0 ∧ idVendor ident = idVendor old ∧ idProduct ident = idProduct old ∧ idSerial ident = idSerial old then
    (if h.baseFits p (h.rd (Od.DEVICE_BASE p)) f then some (h.rd (Od.DEVICE_BASE p)) else none)
  else firstFrom 1 254 (fun b => decide (b + f ≤ 255) && (List.range f).all (fun i => h.addressFree (b + i) && !h.addressRunning p (b + i)))

/-! ### Split slots (R233 to R236) -/

/-- A slot replaced in place. -/
def putSlot (s : Slot) (h : Hub) : Hub := { h with slots := h.slots.map (fun x : Slot => if x.id == s.id then s else x) }
/-- A slot becomes FREE. -/
def freeSlot (i : Nat) (h : Hub) : Hub := { h with slots := dropBy Slot.id i h.slots }

/-- The completion frame of a slot (Table 7-8). -/
def completionFrame (s : Slot) (h : Hub) : Hub :=
  h.sendData s.cls s.src 14 (10 + s.len)
    (pack [(2, s.tag), (1, s.port), (1, s.tdev), (1, s.target), (1, s.result), (1, s.seq % 16), (1, s.packets), (2, s.len), (s.len, s.data)])

/-- A slot's result is delivered in its completion frame (R235, R236). -/
def completion (s : Slot) (h : Hub) : Hub := (h.completionFrame s).inc Od.SPLITS_COMPLETED

/-- A slot becomes DONE with a result; a frame carrier's completion goes out at once, and tSplitHold runs (R235, R236). -/
def slotDone (s : Slot) (h : Hub) : Hub :=
  let s1 := { s with state := 3, deadline := h.now + ms (h.rd Od.SPLIT_HOLD), returned := s.carrier == 1 }
  let h1 := h.putSlot s1
  if s.carrier = 1 then h1.completion s1 else h1

/-- Every open slot of a port ends with ABORTED (Table 7-2). -/
def abortSlots (p : Nat) (h : Hub) : Hub :=
  (h.slots.filter (fun s => s.port == p && s.state != 3)).foldl
    (fun x s => (x.slotDone { s with result := 8, len := 0, data := 0, packets := 0, seq := 0 }).inc Od.SPLITS_ABORTED) h

/-- Slots of a port that are not FREE (R233). -/
def slotsOpen (h : Hub) (p : Nat) : Nat := (h.slots.filter (fun s => s.port == p)).length

/-- The port holds a slot that is QUEUED or RUNNING. -/
def slotsBusy (h : Hub) (p : Nat) : Bool := h.slots.any (fun s => s.port == p && s.state != 3)

/-! ### Moves of the port state (Table 7-1, Table 7-2) -/

/-- The port moves to a state, with the effects of Table 7-2 in their order; `cause` is HOLD_CAUSE or DISABLE_CAUSE. -/
def movePort (p new cause : Nat) (h : Hub) : Hub :=
  let old := h.rd (Od.PORT_STATE p)
  if old = new then h
  else
    let h0 := if old = 5 then h.skipPolls p else h
    let gone := new = 0 ∨ new = 1 ∨ new = 2
    let still := new = 3 ∨ new = 8
    let back := (old = 5 ∨ old = 6) ∧ new = 4
    let h1 := if gone ∨ still ∨ back then h0.abortSlots p else h0
    let h2 := if gone ∨ still ∨ new = 6 then h1.egressGone p else h1
    let held := h2.rd (Reg.devHeld p) != 0
    let h3 := if gone then h2.setAddresses p 0 else if still ∨ back then h2.setAddresses p 2 else h2
    let h4 := h3.wr (Od.PORT_STATE p) new |>.wr (Od.HOLD_CAUSE p) (if new = 8 then cause else 0)
      |>.wr (Od.DISABLE_CAUSE p) (if new = 3 then cause else 0)
    let h5 := if new = 6 then h4.wr (Od.COINCIDENT_WAKE p) 0 else h4
    let h6 := if gone ∨ still then (h5.cutTxn p).clear [Tm.enumStart p, Reg.enumTry p, Reg.suspendDue p, Tm.listen p, Tm.resumeK p, Tm.firstSof p,
        Reg.wakeOnset p, Reg.wakePresent p, Tm.se0 p, Tm.offer p, Tm.active p, Tm.train p, Reg.grant p] else h5
    let flags := if new = 5 ∧ h6.rd (Od.COINCIDENT_WAKE p) = 1 ∧ old = 7 then 1 else 0
    let h7 := if new = 5 ∧ old = 4 then h6
      else h6.portRecord p (if gone ∧ held then 3 else 1) (h6.stateCause p old) flags
    h7

/-- PORT_CMD_RESULT of a pending command (R218). -/
def settleCmd (p r : Nat) (h : Hub) : Hub :=
  if h.rd (Reg.cmdPending p) = 1 then h.wr (Od.PORT_CMD_RESULT p) r |>.wr (Reg.cmdPending p) 0 else h

/-- The port enters ERROR_HOLD with a cause of Table 7-5; the event of R223 names the port and the cause. -/
def errorHold (p cause : Nat) (h : Hub) : Hub :=
  if h.rd (Od.PORT_STATE p) < 4 ∨ h.rd (Od.PORT_STATE p) = 8 then h
  else ((h.movePort p 8 cause).settleCmd p 2).report 0x13 (p + 256 * cause) 0

/-- The port enters RESETTING: its link is reset and enumeration starts afresh (R224). -/
def enterResetting (p : Nat) (h : Hub) : Hub :=
  ((h.movePort p 4 0).wr (Reg.enumTry p) 0).resetLink p

/-- The port is DISCONNECTED; a pull-up already present starts the debounce while the PHY domain is ON (Table 7-1, R168). -/
def enterDisconnected (p : Nat) (h : Hub) : Hub :=
  let h1 := (h.movePort p 2 0).linkDown p
  if h1.rd (Reg.pullSeen p) = 0 then h1
  else if h1.phyOn p then (h1.linkTo p 1).arm (Tm.connect p) (ms 95) else h1.linkTo p 1

/-- A far end that needs VBUS is powered: POWER_STATE is ON or MOVING (R216). -/
def vbusGood (h : Hub) (p : Nat) : Bool := h.rd (Od.POWER_STATE p) == 3 || h.rd (Od.POWER_STATE p) == 4

/-- POWERED_OFF is left: DEVICE with power, HUB_TRUNK, or a trunk port (Table 7-1). While an alternate function holds the
port it is DISABLED at once (R132). -/
def leavePoweredOff (p : Nat) (h : Hub) : Hub :=
  if h.rd (Od.PORT_STATE p) ≠ 1 then h
  else if 16 ≤ p ∨ h.rd (Od.PROBE_RESULT p) = 3 ∨ (h.rd (Od.PROBE_RESULT p) = 1 ∧ h.vbusGood p) then
    let h1 := h.enterDisconnected p
    if p < 16 ∧ h.rd (Od.ALT_STATE p) ≠ 0 then (h1.movePort p 3 2).linkDown p else h1
  else h

/-- Entry to ATTACHED_SOURCE: the hub engine runs on the port (R215). -/
def hubAttach (p : Nat) (h : Hub) : Hub :=
  (((h.movePort p 1 0).clear [Reg.pullSeen p, Reg.trainCap p, Reg.everActive p]).leavePoweredOff p)

/-- A detach, or FAULT_LOCK, ends the link and the port state (R161, R216). -/
def hubDetach (p : Nat) (h : Hub) : Hub :=
  let h1 := (h.movePort p 0 0).linkDown p
  let h2 := ({ h1 with controls := dropBy Control.port p h1.controls }.clear
    [Reg.pullSeen p, Reg.trainCap p, Reg.leftActive p, Tm.rejoin p, Reg.myAddr p, Reg.pullApplied p, Reg.cmdPending p, Reg.tickSeen p]).setPull p 0
  if h2.rd Od.CONTROL_UPSTREAM = p then h2.wr Od.LINK_ADDRESS 0 else h2

/-- A DEVICE port loses power (R216). -/
def hubPowerLoss (p : Nat) (h : Hub) : Hub :=
  if h.rd (Od.PROBE_RESULT p) = 1 ∧ 2 ≤ h.rd (Od.PORT_STATE p) then
    ((h.movePort p 1 0).linkDown p).wr (Reg.pullSeen p) 0
  else h

/-- The power of a DEVICE port is good, or its probe gave HUB_TRUNK. -/
def hubPowerUp (p : Nat) (h : Hub) : Hub := h.leavePoweredOff p

/-- ALT_ENTER holds the port DISABLED with cause ALT_FUNCTION (R132, R218). -/
def hubAltEnter (p : Nat) (h : Hub) : Hub :=
  if 2 ≤ h.rd (Od.PORT_STATE p) then
    if h.rd (Od.PORT_STATE p) = 3 then h.wr (Od.DISABLE_CAUSE p) 2 else (h.movePort p 3 2)
  else h

/-- The pair is back from an alternate function: the data link counts as newly connected (R133, ALT_EXIT of Table 7-1). -/
def hubAltLeave (p : Nat) (h : Hub) : Hub :=
  let h1 := h.egressGone p
  if h1.rd (Od.PORT_STATE p) = 3 then h1.enterDisconnected p else h1

/-! ### Transactions -/

/-- The port's MAX. -/
def portMax (h : Hub) (p : Nat) : Nat := classMax (h.rd (Od.LINK_CLASS p))

/-- The transaction of a port replaced. -/
def startTxn (x : Txn) (h : Hub) : Hub := { h with txns := putBy Txn.port x h.txns }

/-- A new transaction's record. -/
def mkTxn (p : Nat) (k : TxnKind) (dev ep : Nat) (isIn : Bool) (stage first packets : Nat) (heard : Bool) : Txn :=
  ⟨p, k, dev, ep, isIn, stage, first, packets, 0, heard, 0, none, false, 0, 0, none, false⟩

/-- A forced monitor slot holds the port's transactions off (R47). -/
def forcedSlot (h : Hub) (p : Nat) : Bool := h.running (Tm.monForced p) && !h.due (Tm.monForced p)

/-- Twice the one-way delay of a port's cable in ns: of its CABLE_LENGTH and VELOCITY_FACTOR, or on a trunk, which has neither entry, of
its CABLE_DELAY (R58, R176, log entry 57). -/
def cableTrip (h : Hub) (p : Nat) : Nat :=
  if p < 16 then ceilDiv (h.rd (Od.CABLE_LENGTH p) * 100000000) (h.rd (Od.VELOCITY_FACTOR p) * 149896) else 16 * h.rd (Od.CABLE_DELAY p)

/-- The longest time of a transaction in ns (R176): the packets the hub sends, the longest answer that the token allows, the maximum
turnarounds and the cable. -/
def txnTime (h : Hub) (x : Txn) : Nat :=
  let c := h.rd (Od.LINK_CLASS x.port)
  let mx := classMax c
  let answer := (min (x.most.getD mx) mx)
  sendTime c mx x true + turnMax c + h.cableTrip x.port
    + (if x.isIn then burstTime c (turnMax c) answer x.packets (answer * x.packets) true + turnMax c else 0) + packetTime c 3 true

/-- The interval between the SOF times of a port in ns (R175). -/
def sofInterval (h : Hub) (p : Nat) : Nat := if h.rd (Od.LINK_CLASS p) = 3 then 125000 else 1000000

/-- A transaction may start now: no forced slot is under way, and on a packet link it can end by the next SOF time less tEofGuard
(R47, R176). -/
def mayStart (h : Hub) (x : Txn) : Bool :=
  let c := h.rd (Od.LINK_CLASS x.port)
  !h.forcedSlot x.port && (c == 4
    || decide (h.gridTime % h.sofInterval x.port + h.txnTime x + eofGuard c ≤ h.sofInterval x.port))

/-- The packets of a transaction go on the wire (R179, R185, R186, R189, R192), or its REQUEST on a TS link (R205). -/
def emitTxn (x : Txn) (h : Hub) : Hub :=
  if h.rd (Od.LINK_CLASS x.port) = 4 then h.sendControl x.port (0x10000 + x.first) 8 x.data false
  else if x.kind = .ping then h.emit (.ping x.port x.dev x.ep false)
  else if x.kind = .timePing then h.emit (.ping x.port x.dev 0 true)
  else if x.isIn then h.emit (.inToken x.port x.dev x.ep (x.packets - 1))
  else if x.setup then h.emit (.setup x.port x.dev x.data)
  else h.emit (.outBurst x.port x.dev x.ep x.first x.packets x.len x.data)

/-- The wait for the answer of a transaction, from its start: its own packets and tResponse, or tControl on a TS link (R188, R205, R212). -/
def answerWait (h : Hub) (x : Txn) : Nat :=
  let c := h.rd (Od.LINK_CLASS x.port)
  if c = 4 then ms 500 else sendTime c (classMax c) x false + responseMin c

/-- A transaction starts, or is held back until it may (R176). -/
def goTxn (x : Txn) (h : Hub) : Hub :=
  if h.mayStart x then ((h.startTxn { x with held := false }).emitTxn x).arm (Tm.linkResp x.port) (h.answerWait x)
  else h.startTxn { x with held := true }

/-- A transaction starts if it may; otherwise nothing of it happens, and the port's next turn chooses anew. -/
def tryTxn (x : Txn) (h : Hub) : Hub := if h.mayStart x then h.goTxn x else h

/-- The longest of the transactions of 1 to n packets that may start now. -/
def fitting (h : Hub) (mk : Nat → Txn) : Nat → Option Txn
  | 0 => none
  | n + 1 => if h.mayStart (mk (n + 1)) then some (mk (n + 1)) else fitting h mk n

/-- The longest of the transactions of 1 to n packets that may start now goes on the wire (R176, log entry 57). -/
def goFitting (mk : Nat → Txn) (n : Nat) (h : Hub) : Hub :=
  match h.fitting mk n with
  | none => h
  | some x => h.goTxn x

/-- A setup record (Table 6-12). -/
def setupRecord (isIn : Bool) (request value index len : Nat) : Nat :=
  pack [(1, if isIn then 128 else 0), (1, request), (2, value), (2, index), (2, len)]

/-- The IDENTIFY setup record. -/
def identifySetup : Nat := setupRecord true 0x06 0 0 32

/-- One stage of a control transfer that the hub runs (R192): 0 setup, 1 data IN, 2 status. `record` is the setup record. -/
def controlStage (p : Nat) (k : TxnKind) (dev stage record packets : Nat) (heard : Bool) (h : Hub) : Hub :=
  if stage = 0 then h.goTxn { mkTxn p k dev 0 false 0 0 1 heard with setup := true, len := 8, data := record }
  else if stage = 1 then h.goTxn (mkTxn p k dev 0 true 1 0 packets heard)
  else if k = .identify then h.goTxn (mkTxn p k dev 0 false 2 1 1 heard)
  else h.goTxn (mkTxn p k dev 0 true 2 0 1 heard)

/-- A request of the hub's own on a TS link, as a link-local CONTROL REQUEST with the next TAG of the link (R205). -/
def controlRequestTxn (x : Txn) (record : Nat) (h : Hub) : Hub :=
  (h.wr (Reg.ctlTag x.port) ((h.rd (Reg.ctlTag x.port) + 1) % 2 ^ 16)).goTxn
    { x with first := h.rd (Reg.ctlTag x.port), setup := true, len := 8, data := record }

/-- An enumeration attempt begins: IDENTIFY at address 0, over packets, or as a link-local CONTROL REQUEST on a TS link (R224). -/
def startEnum (p : Nat) (h : Hub) : Hub :=
  let h1 := (h.inc (Od.ENUM_ATTEMPTS p)).wr (Reg.enumTry p) (h.rd (Reg.enumTry p) + 1)
  if h1.rd (Od.LINK_CLASS p) = 4 then
    h1.controlRequestTxn (mkTxn p .identify 0 0 true 1 0 1 false) identifySetup
  else h1.controlStage p .identify 0 0 identifySetup 1 false

/-- SET_ADDRESS with base b (R227). -/
def startSetAddress (p b : Nat) (h : Hub) : Hub :=
  let r := setupRecord false 0x05 b 0 0
  if h.rd (Od.LINK_CLASS p) = 4 then
    h.controlRequestTxn (mkTxn p (.setAddress b) 0 0 true 2 0 1 true) r
  else h.controlStage p (.setAddress b) 0 0 r 1 true

/-- The addresses are assigned at the ACK of SET_ADDRESS's status stage, and the port enters ENABLED (R227). -/
def portAddressed (p b : Nat) (h : Hub) : Hub :=
  let ident := h.rd (Od.IDENTITY p)
  let f := idFunctions ident
  let h1 := h.setAddresses p 0
  let h2 := (List.range f).foldl (fun x i =>
    x.wr (Od.DEVICE (b + i)) (pack [(1, p), (1, i), (1, 1), (1, 0), (2, idProduct ident), (2, idVendor ident)])) h1
  let h3 := (h2.wr (Od.DEVICE_BASE p) b |>.wr (Od.DEVICE_FUNCTIONS p) f |>.wr (Reg.devHeld p) 1 |>.wr (Reg.lastIdent p) ident).resetDeviceSeq p
  let h4 := ((h3.movePort p 5 0).wr (Od.ENABLE_TIME p) h.stamp).portRecord p 2 0 0
  let h5 := (h4.settleCmd p 1).clear [Reg.enumTry p]
  if idKind ident = 2 then h5.wr (Reg.childIn p) 6 else h5

/-- The identity is usable (Table 7-5, BAD_IDENTITY). -/
def identityOk (r : Nat) : Bool :=
  (idKind r == 1 && decide (1 ≤ idFunctions r ∧ idFunctions r ≤ 32) || idKind r == 2 && idFunctions r == 1) && hasBit (idMap r) 0

/-- A valid IDENTIFY: the base address is chosen and SET_ADDRESS runs; on a TS link whose policy asks for keys, an exchange
of kind AGREE is owed (R225, R227, R448). -/
def identified (p ident : Nat) (h : Hub) : Hub :=
  let h1 := h.wr (Od.IDENTITY p) ident
  if !identityOk ident then h1.errorHold p 3
  else
    let base := h.chooseBase p ident
    let h2 := if h1.rd (Od.LINK_CLASS p) = 4 ∧ h1.rd Od.TRUNK_ENC ≠ 0 ∧ 16 ≤ p then
      (h1.wr (Reg.keyxDue (p - 16)) 1).arm (Tm.keyAgree (p - 16)) (ms 100) else h1
    match base with
    | none => h2.errorHold p 4
    | some b => h2.startSetAddress p b

/-- An attempt that heard no valid packet (R78, R224): once, the pair is exchanged unless DATA_CHECKED is set, and the
attempt is repeated after another reset; then the exchange is undone and the port enters ERROR_HOLD. -/
def enumSilent (p : Nat) (h : Hub) : Hub :=
  let o := h.rd (Od.ORIENTATION p)
  if h.rd (Reg.enumTry p) = 1 then
    let h1 := if hasBit o 3 then h else h.wr (Od.ORIENTATION p) (putBit o 1 (!hasBit o 1))
    (h1.resetLink p).wr (Reg.enumTry p) 1
  else
    let h1 := if hasBit o 3 then h else h.wr (Od.ORIENTATION p) (putBit o 1 (!hasBit o 1))
    h1.errorHold p 1

/-- The first valid packet from the far end sets DATA_CHECKED (R78). -/
def heardValid (p : Nat) (h : Hub) : Hub := h.wr (Od.ORIENTATION p) (setBit (h.rd (Od.ORIENTATION p)) 3)

/-- The packets of len bytes at a class. -/
def packetsOf (mx len : Nat) : Nat := max 1 (ceilDiv len mx)

/-- A split slot's transaction goes on the wire (R233, R235); after NYET an OUT waits for a PING (R189). -/
def startSplit (s : Slot) (h : Hub) : Hub :=
  let p := s.port
  let ep := s.target % 16
  let a := epIndex s.tdev ep
  let run (x : Txn) : Hub := if h.mayStart x then (h.putSlot { s with state := 2 }).goTxn x else h
  if hasBit s.target 7 then
    run { mkTxn p (.split s.id) s.tdev ep false 0 0 1 false with setup := true, len := 8, data := s.data }
  else if hasBit s.target 6 then
    let n := if s.carrier = 1 then min (s.count + 1) (max 1 (1016 / h.portMax p)) else s.count + 1
    match h.fitting (fun k => mkTxn p (.split s.id) s.tdev ep true 0 (h.rd (Reg.seqIn a)) k false) n with
    | none => h
    | some x => run x
  else if h.rd (Reg.pingOwed a) = 1 then h.tryTxn (mkTxn p .ping s.tdev ep false 0 0 0 false)
  else
    let seq := if s.carrier = 1 then h.rd (Reg.seqOut a) else s.seq
    run { mkTxn p (.split s.id) s.tdev ep false 0 seq (packetsOf (h.portMax p) s.len) false with len := s.len, data := s.data }

/-- The oldest slot of a port that is QUEUED with this XFER (R220). -/
def oldestSlot (h : Hub) (p xfer : Nat) : Option Slot :=
  h.slots.find? (fun s => s.port == p && s.state == 1 && bits s.target 5 4 == xfer)

/-- Packets of a delivery: every packet is MAX bytes but the last, which is shorter, or empty (R232). -/
def deliveryPackets (mx len : Nat) : Nat := len / mx + 1

/-- A PING after NYET or NAK at HS, the closing packet that the endpoint is owed, or the next OUT burst of a delivery (R189, R232). -/
def startDelivery (v : Delivery) (f : Frame) (h : Hub) : Hub :=
  let p := v.port
  let dev := v.dest / 16
  let ep := v.dest % 16
  let seq := h.rd (Reg.seqOut v.dest)
  let mx := h.portMax p
  let len := hLen f.header
  if h.rd (Reg.pingOwed v.dest) = 1 then h.tryTxn (mkTxn p .ping dev ep false 0 0 0 false)
  else if h.rd (Reg.closeOwed v.dest) = 1 then h.tryTxn (mkTxn p .close dev ep false 0 seq 1 false)
  else
    let off := v.sent * mx
    h.goFitting (fun n =>
      let bytes := min (n * mx) (len - off)
      { mkTxn p .deliver dev ep false 0 seq n false with len := bytes, data := field f.payload off bytes })
      (min 8 (deliveryPackets mx len - v.sent))

/-- Bytes of a frame on a packet link: header, payload and CRC-32 (R198). -/
def childLen (f : Frame) : Nat := 20 + (if f.verdict = 0 then hLen f.header else f.got)

/-- The bytes of a frame as it goes over a packet link (R198, R296): its header as sent when it began, its payload as far as it is in Shale, and
once its verdict is known its CRC-32, inverted when the frame is BAD (R294). -/
def childFrame (h : Hub) (f : Frame) (p : Nat) : Nat :=
  let n := h.inShale f
  let v := h.rd (Reg.sentHead p) + 256 ^ 16 * (h.payloadNow f % 256 ^ (n - 16))
  let crc := crc32 (toBytes n v)
  v + 256 ^ n * (if f.verdict = 2 then 2 ^ 32 - 1 - crc else if f.verdict = 1 then crc else 0)

/-- The DATA packets of a frame that may go by now (R292): all of them once its verdict is known, and until then those whose bytes are all in
Shale, which leaves out the packet with the CRC-32. -/
def packetsReady (h : Hub) (f : Frame) (p : Nat) : Nat :=
  if f.verdict ≠ 0 then packetsOf (h.portMax p) (childLen f) else min (h.inShale f) (16 + hLen f.header) / h.portMax p

/-- The next OUT burst of a frame to a child hub's endpoint 1 (R198, R221): header, payload and CRC-32. -/
def startFrameOut (f : Frame) (p : Nat) (h : Hub) : Hub :=
  let dev := h.rd (Od.DEVICE_BASE p)
  let seq := h.rd (Reg.seqOut (epIndex dev 1))
  let ready := h.packetsReady f p
  if ready ≤ h.rd (Reg.outPk p) then h
  else if h.rd (Reg.pingOwed (epIndex dev 1)) = 1 then h.tryTxn (mkTxn p .ping dev 1 false 0 0 0 false)
  else
    let mx := h.portMax p
    let off := h.rd (Reg.outPk p) * mx
    h.goFitting (fun n =>
      let len := min (n * mx) (childLen f - off)
      { mkTxn p .frameOut dev 1 false 0 seq n false with len := len, data := field (h.childFrame f p) off len })
      (min 8 (ready - h.rd (Reg.outPk p)))

/-- Frame work of a port: the delivery or frame that has begun goes on, otherwise the next copy begins (R220, R302). A frame
for an address that is not assigned to the port is dropped as EGRESS_GONE (R232). -/
def frameWork (p : Nat) (h : Hub) : Hub :=
  let go (f : Frame) (x : Hub) : Hub :=
    if x.farIsHub p then x.startFrameOut f p
    else match x.deliveries.find? (fun v => v.port == p) with
      | some v => x.startDelivery v f
      | none => x
  match h.begunCopy p with
  | some (f, _) => go f h
  | none =>
    match h.nextCopy p false with
    | none => h
    | some (f, c) =>
      if !h.farIsHub p && !h.assignedTo p (hDest f.header % 4096 / 16) then h.dropCopy 12 f.id p
      else go f ((h.beginCopy f c).wr (Reg.outPk p) 0)

/-- The port has frame work. -/
def hasFrameWork (h : Hub) (p : Nat) : Bool := (h.begunCopy p).isSome || (h.nextCopy p false).isSome

/-- The endpoint of the port's devices that is owed a CLEAR_HALT (R255). -/
def resyncOwed (h : Hub) (p : Nat) : Option Nat :=
  firstFrom (16 * h.rd (Od.DEVICE_BASE p)) (16 * (h.rd (Od.DEVICE_BASE p) + h.rd (Od.DEVICE_FUNCTIONS p)) - 1)
    (fun a => h.rd (Reg.resyncOwed a) == 1)

/-- Other work of a port, in the order of R220; a relay counts as CONTROL work (R329). -/
def otherWork (p : Nat) (h : Hub) : Hub :=
  match h.oldestSlot p 2 with
  | some s => h.startSplit s
  | none =>
    match h.resyncOwed p with
    | some a => ((h.wr (Reg.resyncOwed a) 0).inc Od.SEQ_RESYNCS).controlStage p (.resync a) (a / 16) 0 (setupRecord false 0x01 0 (a % 16 + 128) 0) 1 false
    | none =>
      match h.relays.find? (fun r => r.port == p && r.state == 1) with
      | some r =>
        ({ h with relays := h.relays.map (fun x : Relay => if x.port == p && x.state == 1 then { x with state := 2 } else x) }).emit
          (.relayOut p (h.rd (Od.DEVICE_BASE p)) r.len r.request)
      | none =>
        match h.oldestSlot p 0 with
        | some s => h.startSplit s
        | none =>
          match h.oldestSlot p 1 with
          | some s => h.startSplit s
          | none => h.frameWork p

/-- The port has other work than polls. -/
def hasOtherWork (h : Hub) (p : Nat) : Bool :=
  h.slots.any (fun s => s.port == p && s.state == 1) || (h.resyncOwed p).isSome
    || h.relays.any (fun r => r.port == p && r.state == 1) || h.hasFrameWork p

/-- The poll a port runs next: earliest due micro-frame, then the smaller interval, then the lower entry (R253). -/
def nextPoll (h : Hub) (p : Nat) : Option PollJob :=
  (h.polls.filter (fun j => j.port == p && j.stage == 0)).foldl (fun best j =>
    match best with
    | none => some j
    | some b =>
      let nj := bits (byteAt j.settings 2) 7 4
      let nb := bits (byteAt b.settings 2) 7 4
      if j.place < b.place ∨ (j.place = b.place ∧ (nj < nb ∨ (nj = nb ∧ j.entry < b.entry))) then some j else some b) none

/-- Polls queued for a port may start: Quartz is RUNNING (R265). -/
def pollReady (h : Hub) (p : Nat) : Bool := h.rd Od.QUARTZ_STATE == 1 && (h.nextPoll p).isSome

/-- The transaction of a poll (R254): one IN with COUNT 0, its answer reckoned as LEN_MAX where that is less than MAX. -/
def pollTxn (h : Hub) (j : PollJob) : Txn :=
  let dev := byteAt j.settings 1
  let ep := byteAt j.settings 2 % 16
  { mkTxn j.port .poll dev ep true 0 (h.rd (Reg.seqIn (epIndex dev ep))) 1 false with most := some (field j.settings 8 2) }

/-- A poll's token starts (R253, R254, R256): the counters, LATE when its micro-frame has passed. -/
def startPoll (j : PollJob) (h : Hub) : Hub :=
  let late := decide (j.due < h.timebase / 125000)
  let j1 := { j with stage := 2, stamp := h.timebase, late := late, unlocked := h.rd Od.SYNC_STATE != 0 && h.rd Od.SYNC_STATE != 3 }
  let h1 := { h with polls := h.polls.map (fun x : PollJob => if x.entry == j.entry && x.port == j.port && x.stage == 0 then j1 else x) }
  let h2 := (h1.inc Od.POLLS_DONE 64).inc (Od.PORT_POLLS j.port)
  let h3 := if late then (h2.inc Od.LATE_POLLS).inc (Od.PORT_LATE j.port) else h2
  let s := h3.rd (Od.POLL_STATE j.entry)
  let h4 := h3.wr (Od.POLL_STATE j.entry) (putField (putField s 4 4 (satInc 32 (field s 4 4))) 8 8 h.timebase)
  h4.goTxn (h4.pollTxn j)

/-- Packets of an IN to a child hub that the free cells allow, at most 8 (R290). -/
def childRoom (h : Hub) : Nat :=
  min 8 (((h.allowedDomains.map (fun d => h.allocatable d)).foldl (· + ·) 0 - h.rd Od.C0_RESERVE) / 8)

/-- IN to a child hub's endpoint 2, then 1 (R221). -/
def startChildIn (p : Nat) (h : Hub) : Hub :=
  let w := h.rd (Reg.childIn p)
  let ep := if hasBit w 2 then 2 else 1
  let dev := h.rd (Od.DEVICE_BASE p)
  let m := h.childRoom
  h.goFitting (fun n => mkTxn p .childIn dev ep true 0 (h.rd (Reg.seqIn (epIndex dev ep))) n false) m

/-- A turn of a port that has no work leaves the wire to the monitor: a monitor slot (R47). -/
def idleSlot (p : Nat) (h : Hub) : Hub :=
  if p < 16 ∧ (h.txnOf p).isNone = true then h.wr (Reg.slotAt p) (h.gridTime / 125000 + 1) else h

/-- The turn of a port's next poll, where one may start (R220, R253, R265). -/
def pollTurn (p : Nat) (h : Hub) : Hub :=
  match (if h.pollReady p then h.nextPoll p else none) with
  | some j => if h.mayStart (h.pollTxn j) then (h.startPoll j).wr (Reg.lastPoll p) 1 else h
  | none => h

/-- The port's next work in the order of R220, none while its transaction is not over. A turn that other work leaves without a transaction is
a poll's (R297). -/
def nextWork (p : Nat) (h : Hub) : Hub :=
  if h.farIsHub p ∧ h.rd (Reg.childIn p) ≠ 0 ∧ h.switchOn ∧ h.childRoom ≠ 0 ∧ h.rd (Od.LINK_CLASS p) ≠ 4 then h.startChildIn p
  else if h.pollReady p && (!h.hasOtherWork p || h.rd (Reg.lastPoll p) == 0) then h.pollTurn p
  else if h.hasOtherWork p then
    let x := h.otherWork p
    if (x.txnOf p).isSome then x.wr (Reg.lastPoll p) 0 else x.pollTurn p
  else h.idleSlot p

/-- The port's far end is a hub that takes time from it: a trunk, a HUB_TRUNK plug, or a port whose IDENTIFY gave KIND HUB (R177, R268). -/
def givesTime (h : Hub) (p : Nat) : Bool := h.farIsHub p || (decide (p < 16) && h.rd (Od.PROBE_RESULT p) == 3)

/-- The PING with TIME that an ACTIVE packet link owes starts if it may (R177, R268); the far end answers at the address it has. -/
def startTimePing (p : Nat) (h : Hub) : Hub :=
  let x := mkTxn p .timePing (if h.rd (Reg.devHeld p) = 1 then h.rd (Od.DEVICE_BASE p) else 0) 0 false 0 0 0 false
  if h.rd (Od.LINK_STATE p) = 4 ∧ (h.txnOf p).isNone = true ∧ h.mayStart x = true then (h.wr (Reg.timeOwed p) 0).goTxn x else h

/-- A turn of a port (R220): a transaction that was held back starts if it may, a forced monitor slot takes the turn, a PING with TIME that is
due comes next, and otherwise the port's next work does. -/
def takeWork (p : Nat) (h : Hub) : Hub :=
  if !h.phyOn p then h
  else match h.txnOf p with
    | some x => if x.held then h.goTxn x else h
    | none => if h.rd (Reg.timeOwed p) = 1 ∧ h.rd (Od.LINK_STATE p) = 4 then h.startTimePing p else if h.rd (Od.PORT_STATE p) ≠ 5 ∨ h.forcedSlot p = true then h else h.nextWork p

/-! ### Suspend and resume (R237 to R242) -/

/-- The port enters SUSPENDED (R238): on a TS link by a SUSPEND frame (R211). -/
def enterSuspended (p cause : Nat) (h : Hub) : Hub :=
  let h1 := (h.movePort p 6 0).wr (Od.SUSPEND_CAUSE p) cause
  let h2 := if h1.rd (Od.LINK_CLASS p) = 4 then h1.sendLink p 6 0 else h1
  (h2.linkTo p 5).clear [Reg.suspendDue p, Reg.wakeOnset p, Reg.wakePresent p]

/-- Ports that wait for the suspension of the control upstream are suspended at their next SOF time, in ascending order,
once their slots are DONE (R239). -/
def suspendForUpstream (h : Hub) : Hub :=
  if h.rd Reg.upSuspend = 0 then h
  else (List.range 18).foldl (fun x p =>
    if x.rd (Od.PORT_STATE p) = 5 ∧ !x.slotsBusy p ∧ x.rd (Reg.suspendDue p) = 0 then x.wr (Reg.suspendDue p) 2 else x) h

/-- The control upstream is SUSPENDED (R239). -/
def upstreamSuspended (h : Hub) : Hub := (h.wr Reg.upSuspend 1).suspendForUpstream

/-- RESUME, or a resume under R239, takes effect: the listen window opens (R240). -/
def startListen (p cause : Nat) (h : Hub) : Hub :=
  (h.wr (Od.RESUME_CAUSE p) cause |>.wr (Reg.listenStart p) (h.now + 1)).arm (Tm.listen p) 2000

/-- The hub drives the resume of R209, or training on a TS link, and the port enters RESUMING (R240, R241). -/
def driveResume (p : Nat) (h : Hub) : Hub :=
  let h1 := ((h.movePort p 7 0).linkTo p 6).wr (Od.SUSPEND_CAUSE p) 0
  if h1.rd (Od.LINK_CLASS p) = 4 then ((h1.wr (Reg.retrain p) 1).emit (.train p 1)).arm (Tm.train p) (ms 10)
  else (h1.emit (.driveK p)).arm (Tm.resumeK p) (ms 20)

/-- The TS link of a port enters TRAINING again and sends /TR1/ (R206): tTrain for the upstream end, tTrain + 1 ms for the
downstream end, which also waits 1 ms for a valid symbol. -/
def retrainLink (p : Nat) (h : Hub) : Hub :=
  let h1 := ((h.linkTo p 3).wr (Reg.retrain p) 1).emit (.train p 1)
  if h1.downstreamEnd p then (h1.arm (Tm.train p) (ms 11)).arm (Tm.noSymbol p) (ms 1) else h1.arm (Tm.train p) (ms 10)

/-- The control upstream resumes: every port suspended with cause UPSTREAM resumes, in ascending order (R239); a port whose
PHY domain is not ON stays SUSPENDED and a STATE record reports it (R427). -/
def resumeForUpstream (h : Hub) : Hub :=
  (List.range 18).foldl (fun x p =>
    if x.rd (Od.PORT_STATE p) = 6 ∧ x.rd (Od.SUSPEND_CAUSE p) = 2 then
      (if x.phyOn p then x.startListen p 3 else x.portRecord p 1 0 0)
    else if x.rd (Reg.suspendDue p) = 2 then x.wr (Reg.suspendDue p) 0
    else x) (h.wr Reg.upSuspend 0)

end Hub
end Sys2Proof.Machine
end

