-- ==== Sys2Proof/Machine/PowerOps.lean ====
section
/-!
DEFINITION. Sys2Proof/Machine/PowerOps.lean: the power of a downstream port (R140 to R150) and the bound and the cost of a
move (R118, R152): the shared operations of power-on, turn-off and limits. The trunks carry no cable power (R115).
-/
namespace Sys2Proof.Machine

/-- The fastest slew of a REQUEST's SLEW_MAX code, in 0.1 V/ms (Table 4-6). -/
def slewMax (code : Nat) : Nat := if code = 0 then 100 else if code = 1 then 50 else if code = 2 then 20 else 5

/-- PROBE_RESULT codes used by other chapters (Table 2-8). -/
def probeDevice : Nat := 1
def probeHubTrunk : Nat := 3

/-- Above range, or not measured (R45). -/
def notMeasured : Nat := 0xFFFFFFFF

/-- The key of a line-monitor entry of Dn. -/
def lineKey (p sub : Nat) : Nat := Od.key (0x2020 + 0x100 * p) sub

/-- The bound of R118 in exact integers: I in mA, C in µF, S in 0.1 V/ms, ΔV in mV; energy limit in mJ, power in 0.1 W.
C counts only for an upward move. -/
def moveBound (i c s dv emax pmax : Nat) (up : Bool) : Bool :=
  let x := 10 * i + (if up then c * s else 0)
  decide (x * dv ≤ pmax * 1000000) && decide (x * dv * dv ≤ emax * 2 * s * 1000000000)

/-- The cost of an upward move in mA·ms, rounded up (Table 5-5). -/
def moveCost (i c s dv : Nat) : Nat := ceilDiv (c * dv * s + 10 * i * dv) (1000 * s)

namespace Hub

/-- The condition of Table 2-5 on the excess-current measurements: VBUS powered at 12 V or more. -/
def vbusMeasured (h : Hub) (p : Nat) : Bool := h.powered p && decide (12000 ≤ h.rd (Od.VBUS_MV p))

/-- The excess-current entries read as not measured while their condition of Table 2-5 does not hold (R45). -/
def bridgeCondition (p : Nat) (h : Hub) : Hub :=
  if h.vbusMeasured p then h
  else h.wr (lineKey p 0x08) notMeasured |>.wr (lineKey p 0x09) notMeasured |>.wr (lineKey p 0x0A) notMeasured |>.wr (lineKey p 0x0B) notMeasured

/-- The readings that came with a command are the present readings (log entry 5). -/
def sense (p : Nat) (m : Sense) (h : Hub) : Hub :=
  let h1 := h.wr Od.RAIL_A_MV m.railA.toNat |>.wr Od.RAIL_B_MV m.railB.toNat
  if p < 16 then (h1.wr (Od.VBUS_MV p) m.vbus.toNat |>.wr (Od.IBUS_MA p) m.ibus.toNat |>.wr (Reg.energy p) m.energy.toNat).bridgeCondition p
  else h1

/-- An event of R49 ends on a downstream port: a measurement that overlaps it is discarded when it ends. -/
def spoil (p : Nat) (h : Hub) : Hub := h.wr (Reg.spoilAt p) (h.now + 1)

/-- The measured voltage of a rail, mV. -/
def railMv (h : Hub) (r : Nat) : Nat := if r = 0 then h.rd Od.RAIL_A_MV else h.rd Od.RAIL_B_MV

/-- C of R118 in µF: LOAD_CAP of the last SINK_CAPS since attach when not 0, otherwise the entry. -/
def loadCap (h : Hub) (p : Nat) : Nat :=
  let declared := bits (field (h.rd (Od.LAST_SINK_CAPS p)) 0 4) 15 8
  if declared = 0 then h.rd (Od.LOAD_CAP p) else 10 * declared

/-- The limit in force (R142); 0 while nothing applies. -/
def limitInForce (h : Hub) (p : Nat) : Nat :=
  if h.rd (Od.LIMIT_SET p) ≠ 0 then h.rd (Od.LIMIT_SET p)
  else if h.rd (Reg.inForce p) = 1 then h.rd (Od.CONTRACT_LIMIT p)
  else if h.powered p then h.rd Od.DEFAULT_LIMIT
  else 0

/-- LIMIT_ACTIVE follows the limit in force; in INRUSH and MOVING it is raised by C·S, at most 4,000 mA (R142, R143). -/
def refreshLimit (p : Nat) (h : Hub) : Hub :=
  let l := h.limitInForce p
  if [2, 4].contains (h.rd (Od.POWER_STATE p)) then
    h.wr (Od.LIMIT_ACTIVE p) (min 4000 (l + h.loadCap p * h.rd (Od.SLEW_RATE p) / 10))
  else h.wr (Od.LIMIT_ACTIVE p) l

/-- LIMIT_ACTIVE of a downstream port is shown anew after a change of the contract in force (R142). -/
def contractLimit (p : Nat) (h : Hub) : Hub := if p < 16 then h.refreshLimit p else h

/-- The fast-trip threshold in mA: FAST_TRIP_MULT times the active limit, 500 mA to 10,000 mA (R144). -/
def fastThreshold (h : Hub) (p : Nat) : Nat := min 10000 (max 500 (h.rd (Od.FAST_TRIP_MULT p) * h.rd (Od.LIMIT_ACTIVE p)))

/-- The result of a power command (Table 5-4). -/
def powerResult (p r : Nat) (h : Hub) : Hub := h.wr (Od.POWER_CMD_RESULT p) r

/-- A released power-on begins: INRUSH on RAIL_A, steps 2 and 3 of Table 4-16; it is a move under R119 (R141). -/
def startPowerOn (p : Nat) (h : Hub) : Hub :=
  let h1 := h.wr (Od.POWER_STATE p) 2 |>.wr (Reg.rail p) 0 |>.wr (Reg.discharge p) 0 |>.wr (Tm.discharge p) 0
    |>.wr (Reg.trStep p) 3 |>.wr (Reg.trNewRail p) 0 |>.wr (Reg.energy p) 0
  let h2 := (h1.inc (Od.TRANSITIONS p)).refreshLimit p
  h2.emit (.powerDie p (.powerOn 0 (h2.rd (Od.LIMIT_ACTIVE p))))

/-- The operating current of R118 at default power: the larger of the measured current and DEFAULT_LIMIT. -/
def defaultCurrent (h : Hub) (p : Nat) : Nat := max (h.rd (Od.IBUS_MA p)) (h.rd Od.DEFAULT_LIMIT)

/-- Steps 4 to 6 of R149: the rail, the bound and the budget of a power-on at default power. A full queue at attach
gives BUDGET_BUSY and a PORTPWR event (R150). In the safe state Slate refuses with STATE (R469). -/
def askPowerOn (p : Nat) (atAttach : Bool) (h : Hub) : Hub :=
  let v := h.rd Od.RAIL_A_MV
  let s := h.rd (Od.SLEW_RATE p)
  let limit := if h.rd (Od.LIMIT_SET p) ≠ 0 then h.rd (Od.LIMIT_SET p) else h.rd Od.DEFAULT_LIMIT
  if h.rd Od.SAFE_STATE = 1 then h.powerResult p 3
  else if v < 5000 then h.powerResult p 6
  else if !moveBound limit (h.loadCap p) s v (h.rd Od.SLEW_ENERGY_MAX) (h.rd Od.SLEW_POWER_MAX) true then h.powerResult p 7
  else match h.askBudget 0 .powerOn p (moveCost (h.defaultCurrent p) (h.loadCap p) s v) with
    | (.released, h1) => h1.startPowerOn p
    | (.queued, h1) => (h1.wr (Od.POWER_STATE p) 1).powerResult p 1
    | (.busy, h1) =>
      if atAttach then ((h1.powerResult p 8).wr (Od.POWER_OFF_CAUSE p) 9).report 0x25 p 0 else h1.powerResult p 8
    | (.overCapacity, h1) => h1.powerResult p 9

/-- A powered port is turned off with a cause: both pairs open, discharge on, DISCHARGING; the hub engine loses the
port's power; a move cut short writes its energy (R119, R140, R148, R216). A port that is not powered is left alone. -/
def turnOff (p cause : Nat) (h : Hub) : Hub :=
  if h.powered p then
    let hE := if [2, 4].contains (h.rd (Od.POWER_STATE p)) then h.wr (Od.TRANSITION_ENERGY p) (h.rd (Reg.energy p)) else h
    let h0 := if h.rd (Od.POWER_STATE p) = 4 then hE.spoil p else hE
    let h1 := if h.rd (Od.POWER_STATE p) = 2 ∧ cause ≠ 1 then h0.powerResult p 13 else h0
    let h2 := (h1.wr (Od.POWER_STATE p) 5 |>.wr (Od.POWER_OFF_CAUSE p) cause |>.wr (Reg.discharge p) 1
      |>.wr (Reg.limiting p) 0 |>.wr (Reg.trStep p) 0).arm (Tm.discharge p) (ms 475)
    ((((h2.emit (.powerDie p .openPairs)).emit (.powerDie p (.discharge true))).refreshLimit p).bridgeCondition p).hubPowerLoss p
  else h

/-- OC_GROUP_STATE of a group follows its input while OC_GROUP_ENABLE lets it; each assertion is counted and raises an event (R151). -/
def groupLevel (g : Nat) (h : Hub) : Hub :=
  let low := hasBit (h.rd Reg.ocInput) g && hasBit (h.rd Od.OC_GROUP_ENABLE) g
  if low && !hasBit (h.rd Od.OC_GROUP_STATE) g then ((h.wrBit Od.OC_GROUP_STATE g true).inc (Od.OC_G0_COUNT + g)).report 0x24 g 0
  else if !low then h.wrBit Od.OC_GROUP_STATE g false
  else h

/-- A write of OC_GROUP_ENABLE: the inputs it lets in count at once, and those it shuts out are ignored (R151). -/
def writeGroupEnable (v : Nat) (h : Hub) : Hub := (List.range 4).foldl (fun x g => x.groupLevel g) (h.wr Od.OC_GROUP_ENABLE v)

/-- A queued power-on is withdrawn: the port is OFF, and POWER_OFF_CAUSE keeps its value (R149, R155). -/
def withdrawPowerOn (p : Nat) (h : Hub) : Hub :=
  if h.rd (Od.POWER_STATE p) = 1 then ((h.withdraw true p).wr (Od.POWER_STATE p) 0).powerResult p 10 else h

/-- The cable-electronics supply of the hub is removed (R129). -/
def cfsOff (p : Nat) (h : Hub) : Hub :=
  let h1 := h.clear [Tm.cfsStable p]
  if h.rd (Od.CFS_STATE p) = 1 then (h1.wr (Od.CFS_STATE p) 0).emit (.powerDie p (.cfs false)) else h1

/-- Every party removes its supply of the cable electronics: CFS_STATE reads OFF, unless a FAULT waits for CFS_RESTART (R124, R126, R128,
R129). -/
def cfsEnd (p : Nat) (h : Hub) : Hub :=
  let h1 := h.cfsOff p
  if h1.rd (Od.CFS_STATE p) = 2 then h1.wr (Od.CFS_STATE p) 0 else h1

/-- The hub applies the cable-electronics supply while CFS_ENABLE is 1 (R129). -/
def cfsOn (p : Nat) (h : Hub) : Hub :=
  if h.rd (Od.CFS_ENABLE p) = 1 ∧ h.rd (Od.CFS_STATE p) ≠ 3 then
    (h.wr (Od.CFS_STATE p) 1).emit (.powerDie p (.cfs true))
  else h

/-- The pair returns from an alternate function, and the hub engine treats the data link as newly connected (R133). -/
def altReturn (p : Nat) (h : Hub) : Hub :=
  if h.rd (Od.ALT_STATE p) = 0 then h.clear [Reg.altWant p]
  else (h.clear [Od.ALT_STATE p, Reg.altWant p, Reg.altParams p]).hubAltLeave p

end Hub
end Sys2Proof.Machine
end

