-- ==== Sys2Proof/Machine/ContractOps.lean ====
section
/-!
DEFINITION. Sys2Proof/Machine/ContractOps.lean: the contract layer's shared operations: discarding a contract, aborting a
transition, HARD_RESET, the trip sequence, the moves of R117, READY and the default offer.
-/
namespace Sys2Proof.Machine

/-- The switch port of a trunk. -/
def isTrunk (p : Nat) : Bool := p == 16 || p == 17

namespace Hub

/-- The port supplies VBUS: a downstream port not classed HUB_TRUNK (R115). -/
def suppliesVbus (h : Hub) (p : Nat) : Bool := decide (p < 16) && h.rd (Od.PROBE_RESULT p) != probeHubTrunk

/-- The default offer (R114): DEFAULT_CAPS with DEFAULT set, each VOLTAGE from the rail's reading, offers of absent rails
left out; on a port that supplies no VBUS only SOURCE_INFO with VBUS_NONE. -/
def defaultOffer (h : Hub) (p : Nat) : List Nat :=
  let caps := h.rd Od.DEFAULT_CAPS
  let info := field caps 0 4
  let base := putBit (info - bits info 18 16 * 2 ^ 16) 3 true
  if !h.suppliesVbus p then [putBit base 2 true]
  else
    let offers := ((List.range (bits info 18 16)).map (fun i => field caps (4 * (i + 1)) 4)).filter
      (fun o => decide (5000 ≤ h.railMv (bit o 27)))
    let filled := offers.map (fun o => o - bits o 26 16 * 2 ^ 16 + (h.railMv (bit o 27) / 50 % 2048) * 2 ^ 16)
    (base + offers.length * 2 ^ 16) :: filled

/-- The default offer that waits for tHoldLead or the wire is UNDELIVERED (R93). -/
def offerUndelivered (p cause : Nat) (h : Hub) : Hub :=
  let objs := h.defaultOffer p
  h.cfRecord p 3 (mkHeader objs.length (h.rd (Reg.txId p 0) % 8) (h.ownRole p) 0 1) cause objs

/-- A detach, FAULT_LOCK or HARD_RESET ends every message of the hub's own on the port, begun or not, with cause 2 DETACH,
3 FAULT_LOCK or 4 HARD_RESET, withdraws a transition cost, and ends every exchange (R93, R103). -/
def cutMessages (p cause : Nat) (h : Hub) : Hub :=
  let h1 := match h.txOf p with
    | none => h
    | some x => { h with cfTx := dropBy CfTx.port p h.cfTx }.txUndelivered x cause
  let h2 := match h1.ansOf p with
    | none => h1
    | some x => ({ h1 with cfAns := dropBy CfPending.port p h1.cfAns }.undelivered p (h1.plannedHeader x) cause x.objs x.why).withdraw true p
  let h3 := match h2.newOf p with
    | none => h2
    | some x => { h2 with cfNew := dropBy CfPending.port p h2.cfNew }.undelivered p (h2.plannedHeader x) cause x.objs x.why
  let h4 := if h3.rd (Reg.offerPending p) = 1 then h3.offerUndelivered p cause else h3
  (h4.clear [Tm.receive p, Tm.holdLead p, Tm.firstCaps p, Reg.offerPending p, Reg.softAccept p]).endExchange p

/-- A contract is discarded: its entries read 0, and the limit in force follows (R112, R113, R142). -/
def discardContract (p : Nat) (h : Hub) : Hub :=
  (h.clear [Reg.inForce p, Od.CONTRACT_RAIL p, Od.CONTRACT_OP_CURRENT p, Od.CONTRACT_LIMIT p, Od.CONTRACT_TIME p,
            Reg.trRequest p, Reg.trStep p]).contractLimit p

/-- The manager's ACCEPT, whose READY will not come, is UNDELIVERED (Table 4-14). -/
def readyLost (p : Nat) (h : Hub) : Hub := if h.isSource p && h.rd (Od.CONTRACT_STATE p) == 4 then h.answerResult p 3 else h

/-- The record of an abort: its cause and the VBUS at the abort (R121, R123). -/
def recordAbort (p cause vbus : Nat) (h : Hub) : Hub :=
  (((h.readyLost p).wr (Od.ABORT_CAUSE p) cause |>.wr (Od.ABORT_VBUS_MV p) vbus |>.wr (Reg.abortAt p) (h.now + 1)).inc
    (Od.TRANSITION_ABORTS p)).cfRecord p 9 0 cause [vbus]

/-- A second protective cause in the cycle of an abort: ABORT_CAUSE keeps the first in the order DETACH, FAST_TRIP, TIMED_LIMIT,
SLEW_GUARD (R123). -/
def joinCause (p cause : Nat) (h : Hub) : Hub :=
  if h.rd (Reg.abortAt p) = h.now + 1 ∧ [3, 4, 5].contains (h.rd (Od.ABORT_CAUSE p)) ∧ cause < h.rd (Od.ABORT_CAUSE p) then
    h.wr (Od.ABORT_CAUSE p) cause
  else h

/-- A transition is cut short (R121, R123). -/
def abortTransition (p cause vbus : Nat) (h : Hub) : Hub :=
  if h.rd (Od.CONTRACT_STATE p) = 4 then h.recordAbort p cause vbus else h

/-- After a HARD_RESET of this cause the default power is restored (R124). -/
def restoreAllowed (cause : Nat) : Bool := cause == 1 || cause == 2 || cause == 6

/-- What a HARD_RESET, sent or received, does (R88, R124, R126). -/
def hardResetEffects (p cause : Nat) (h : Hub) : Hub :=
  let h1 := ((h.cutMessages p 4).resetIds p).wr (Od.HARD_RESET_CAUSE p) cause
  let h2 := (h1.abortTransition p 6 (if p < 16 then h1.rd (Od.VBUS_MV p) else 0)).discardContract p
  let h3 := ((h2.withdrawPowerOn p).cfsEnd p).clear [Reg.cfsDuty p, Reg.cfsSwap p]
  let h4 := h3.altReturn p
  if h.isSource p then
    let h5 := (h4.contractState p 6).turnOff p 6
    if restoreAllowed cause then
      if p < 16 ∧ h5.rd (Od.POWER_STATE p) = 5 then h5 else h5.arm (Tm.srcRecover p) (ms 660)
    else h5.contractState p 1
  else (h4.contractState p 6).arm (Tm.srcRecover p) (ms 660)

/-- The hub sends HARD_RESET now: the count, the record of a HARD_RESET of its own, and the effects (R88, R125). -/
def sendHardReset (p cause : Nat) (ordered : Bool) (h : Hub) : Hub :=
  let h1 := ((h.drive p h.now hardResetTime).emit (.hardReset p)).inc (Od.HARD_RESETS_TX p)
  let h2 := if ordered then h1 else h1.cfRecord p 8 0 cause []
  let h3 := h2.hardResetEffects p cause
  (if ordered then h3.answerResult p 2 else h3).clear [Reg.hrWaiting p, Reg.hrOrdered p]

/-- The hub is to send HARD_RESET: at once on an idle wire, otherwise once the wire is idle (R88). -/
def orderHardReset (p cause : Nat) (ordered busy : Bool) (h : Hub) : Hub :=
  if !h.attached p then h
  else if busy then h.wr (Reg.hrWaiting p) cause |>.wr (Reg.hrOrdered p) (if ordered then 1 else 0)
  else h.sendHardReset p cause ordered

/-- The wire has become idle: a HARD_RESET that waited goes out (R88). -/
def flushHardReset (p : Nat) (h : Hub) : Hub :=
  if h.rd (Reg.hrWaiting p) = 0 then h
  else h.sendHardReset p (h.rd (Reg.hrWaiting p)) (h.rd (Reg.hrOrdered p) == 1)

/-- The counter of a trip cause; FAULT_REACTION has none (R147). -/
def countTrip (p cause : Nat) (h : Hub) : Hub :=
  if cause = 2 then h.inc (Od.FAST_TRIPS p)
  else if cause = 3 then h.inc (Od.TIMED_TRIPS p)
  else if cause = 4 then h.inc (Od.REVERSE_TRIPS p)
  else h

/-- The trip sequence of R147 with POWER_OFF_CAUSE 2 SHORT, 3 OVERLOAD, 4 REVERSE or 10 FAULT_REACTION: the power die
opens both pairs and enables discharge, Slate records, Garnet logs, the contract is discarded and HARD_RESET is sent, the
trace of R60 is owed and RETRY_HOLDOFF starts. A port that is not powered does not trip. -/
def trip (p cause peak : Nat) (busy : Bool) (h : Hub) : Hub :=
  if h.powered p then
    let wasAttached := h.isSource p
    let abort := if cause = 2 ∨ cause = 4 then 3 else 4
    let vbus := h.rd (Od.VBUS_MV p)
    let h1 := (h.turnOff p cause).wr (Od.TRIP_TIME p) h.stamp |>.wr (Od.TRIP_PEAK_MA p) peak
    let h2 := ((h1.countTrip p cause).arm (Tm.holdoff p) (ms (h.rd (Od.RETRY_HOLDOFF p)))).wr (Reg.tripTrace p) 1
    let h3 := h2.report 0x21 (p + 256 * cause) peak
    let h4 := (h3.abortTransition p abort vbus).discardContract p
    if wasAttached then ((h4.endExchange p).contractState p 1).orderHardReset p 3 false busy else h4
  else h.joinCause p (if cause = 2 ∨ cause = 4 then 3 else 4)

/-- The contract entries of a REQUEST that is accepted (Table 4-21): rail plus 1 or NONE, currents in mA. -/
def setContract (p req : Nat) (h : Hub) : Hub :=
  let pos := bits req 27 25
  let rail := if pos = 0 ∨ !h.suppliesVbus p then 0 else bit (field (h.rd (Od.LAST_CAPS p)) (4 * pos) 4) 27 + 1
  (h.wr (Reg.inForce p) 1 |>.wr (Od.CONTRACT_RAIL p) rail
    |>.wr (Od.CONTRACT_OP_CURRENT p) (if rail = 0 then 0 else 10 * bits req 8 0)
    |>.wr (Od.CONTRACT_LIMIT p) (if rail = 0 then 0 else 10 * bits req 17 9)).contractLimit p

/-- READY of a contract: the rail, VBUS as measured and the limit in force (Table 4-7, R117). -/
def sendReady (p : Nat) (h : Hub) : Hub :=
  let rail := h.rd (Od.CONTRACT_RAIL p)
  let vbus := if p < 16 then h.rd (Od.VBUS_MV p) / 50 else 0
  let obj := if rail = 0 then 6 * 2 ^ 28 + 2 ^ 24 + (vbus % 2048) * 1024
    else 6 * 2 ^ 28 + (rail - 1) * 2 ^ 25 + (vbus % 2048) * 1024 + h.limitInForce p / 10
  h.sendCf p 8 0 [obj] .readyContract

/-- After the GOOD_ACK of ACCEPT to a REQUEST: TRANSITION, and the move of R117, the limit change on the same rail, or
the turn-off of POSITION 0 (R115, R142, R143). The cable-electronics supply follows CFS_REQUIRED (R129). -/
def startTransition (p req : Nat) (h : Hub) : Hub :=
  let pos := bits req 27 25
  let rail := bit (field (h.rd (Od.LAST_CAPS p)) (4 * pos) 4) 27
  let h1 := ((h.contractState p 4).wr (Reg.trRequest p) (req + 1))
  let h2 := if hasBit req 24 ∧ h.rd (Reg.cfsDuty p) = 0 then h1.cfsOn p else h1
  if !h.suppliesVbus p then (h2.setContract p req).sendReady p
  else if pos = 0 then ((h2.withdrawPowerOn p).turnOff p 1).wr (Reg.trStep p) 5
  else if rail = h.rd (Reg.rail p) then (h2.setContract p req).sendReady p
  else
    let higher := if h.rd (Od.LIMIT_SET p) ≠ 0 then h.rd (Od.LIMIT_SET p) else max (h.limitInForce p) (10 * bits req 17 9)
    let s := min (h.rd (Od.SLEW_RATE p)) (slewMax (bits req 22 21))
    let h3 := (h2.wr (Od.POWER_STATE p) 4 |>.wr (Reg.trStep p) 3 |>.wr (Reg.trNewRail p) rail |>.wr (Reg.energy p) 0).inc
      (Od.TRANSITIONS p)
    let h4 := h3.wr (Od.LIMIT_ACTIVE p) (min 4000 (higher + h.loadCap p * s / 10))
    h4.emit (.powerDie p (.move rail s))

/-- The exchange that the hub's READY ends, with all others but that of a SOFT_RESET received during the move, which still awaits its
ACCEPT (R103, R127). -/
def endContractExchange (p : Nat) (h : Hub) : Hub :=
  if (h.awaitOf p).any (fun a => hdrType a.header == 14) then (h.endOwn p).wr (Reg.exFar p) 15 else h.endExchange p

/-- A contract comes into force: READY has been acknowledged or lost (Table 4-15). -/
def enterContract (p : Nat) (h : Hub) : Hub :=
  ((h.contractState p 5).endContractExchange p).clear [Reg.trRequest p, Reg.trStep p]

/-- A port that enters an attached state as source or sink: message IDs, the capabilities seen and the contract machine
start afresh (R89, R112, R118). -/
def contractStart (p : Nat) (h : Hub) : Hub :=
  ((h.resetIds p).clear [Reg.capsSent p, Od.LAST_SINK_CAPS p, Reg.cfsDuty p, Reg.cfsSwap p, Reg.lateRef p, Reg.detachDone p]).contractState p 1

/-- A HARD_RESET of the manager's that still waits for the wire ends UNDELIVERED (log entry 60). -/
def dropHardReset (p cause : Nat) (h : Hub) : Hub :=
  (if h.rd (Reg.hrWaiting p) ≠ 0 ∧ h.rd (Reg.hrOrdered p) = 1 then (h.cfRecord p 3 0 cause []).answerResult p 3 else h).clear
    [Reg.hrWaiting p, Reg.hrOrdered p]

/-- A port that leaves the attached states: messages end with the cause, the contract and any supply or function end,
queued power is withdrawn and power is removed, with POWER_OFF_CAUSE 5 DETACH for a FAULT_LOCK too (R74, R75, R93, R113, R129, R133; log
entry 66). -/
def contractStop (p cutCause : Nat) (h : Hub) : Hub :=
  let vbus := if p < 16 then h.rd (Od.VBUS_MV p) else 0
  let h1 := (h.cutMessages p cutCause).dropHardReset p cutCause
  let h2 := ((h1.abortTransition p 1 vbus).discardContract p).stop (Tm.srcRecover p)
  let h3 := (h2.cfsEnd p).altReturn p
  let h4 := if p < 16 then (h3.withdrawPowerOn p).turnOff p 5 else h3
  h4.contractState p 0

/-- The offer object at POSITION pos of the last SOURCE_CAPS. -/
def offerAt (h : Hub) (p pos : Nat) : Nat := field (h.rd (Od.LAST_CAPS p)) (4 * pos) 4

/-- The number of RAIL_OFFER objects of the last SOURCE_CAPS. -/
def offers (h : Hub) (p : Nat) : Nat := bits (field (h.rd (Od.LAST_CAPS p)) 0 4) 18 16

end Hub
end Sys2Proof.Machine
end

