-- ==== Sys2Proof/Machine/LineOps.lean ====
section
/-!
DEFINITION. Sys2Proof/Machine/LineOps.lean: the field line's shared operations (R44 to R60): the line state and its trend,
the polarity probe and reflectometry.
-/
namespace Sys2Proof.Machine

/-- The subindices of Table 2-12 that hold a measurement of Table 2-5. -/
def lineSubs : List Nat := [0x05, 0x06, 0x08, 0x09, 0x0A, 0x0B, 0x0C]

/-- One bit more of a binary logarithm: the mantissa m of 16 fraction bits is squared. -/
def log2Bits : Nat → Nat → Nat → Nat
  | 0, _, acc => acc
  | k + 1, m, acc =>
    let q := m * m / 2 ^ 16
    if 2 ^ 17 ≤ q then log2Bits k (q / 2) (2 * acc + 1) else log2Bits k q (2 * acc)

/-- The binary logarithm in units of 2^−12 (log entry 11: the spec fixes no precision for R50's logarithm). -/
def log2Fix (v : Nat) : Nat :=
  let e := Nat.log2 v
  e * 4096 + log2Bits 12 (v * 2 ^ 16 / 2 ^ e) 0

/-- n·Σxy − Σx·Σy over x = 0, 1, … and the logarithms of the means: the slope's numerator (R50). -/
def slopeNum (ys : List Nat) : Int :=
  let n := ys.length
  let sxy : Nat := (ys.zipIdx.map (fun y : Nat × Nat => y.1 * y.2)).foldl (· + ·) 0
  let sy : Nat := ys.foldl (· + ·) 0
  (n * sxy : Int) - ((n * (n - 1) / 2) * sy : Int)

/-- n·Σx² − (Σx)²: the slope's denominator. -/
def slopeDen (n : Nat) : Int := n * (n * n * n - n) / 12

/-- The trend projects a crossing of `warn` by the reading within `hours` hours (R50): the present reading goes on at the
least-squares slope of the logarithms of the hourly means. -/
def projects (means : List Nat) (reading warn hours : Nat) : Bool :=
  let num := slopeNum (means.map log2Fix)
  decide (24 ≤ means.length) && decide (num < 0) && reading != notMeasured
    && decide (slopeDen means.length * ((log2Fix reading : Int) - log2Fix warn) + num * hours ≤ 0)

/-- The distance of an echo in 0.1 m (R58): t × VF × 0.149 896 m/ns, VF in thousandths. -/
def echoDistance (vf t : Nat) : Nat := t * vf * 149896 / 100000000

/-- An echo of the trace is new against the baseline, or its ρ moved by 0.15 or more (R59); echoes within 2 m of each other
are the same event. -/
def echoMoved (vf : Nat) (base : List Echo) (e : Echo) : Bool :=
  !base.any (fun b => decide (echoDistance vf e.time ≤ echoDistance vf b.time + 20 ∧ echoDistance vf b.time ≤ echoDistance vf e.time + 20)
    && decide (-150 < e.rho - b.rho ∧ e.rho - b.rho < 150))

/-- The kind of an event at distance d of a cable of length len, both in 0.1 m (Table 2-10); 0 where no row holds. -/
def echoKind (d len : Nat) (rho : Int) : Nat :=
  if 600 ≤ rho then (if d + 20 < len then 1 else 0)
  else if rho ≤ -600 then 2
  else if 150 ≤ rho ∨ rho ≤ -150 then 3
  else 0

namespace Hub

/-- The means kept of a measurement. -/
def meansOf (h : Hub) (p sub : Nat) : List Nat := ((h.trends.find? (fun x => x.port == p && x.sub == sub)).map (·.means)).getD []

/-- An hourly mean joins its measurement; the last 72 stay (R50). -/
def addMean (p sub v : Nat) (h : Hub) : Hub :=
  if v = notMeasured then h
  else
    let l := h.meansOf p sub
    let kept := if l.length < 72 then l else l.drop 1
    { h with trends := ⟨p, sub, kept ++ [v]⟩ :: h.trends.filter (fun x => !(x.port == p && x.sub == sub)) }

/-- The measurement with the lowest present reading, and that reading (R50). -/
def lowestReading (h : Hub) (p : Nat) : Nat × Nat :=
  lineSubs.foldl (fun (best : Nat × Nat) sub => if h.rd (lineKey p sub) < best.2 then (sub, h.rd (lineKey p sub)) else best) (0x06, notMeasured)

/-- The first measurement whose trend projects a crossing of WARN_THRESHOLD within so many days. -/
def trendOf (h : Hub) (p days : Nat) : Option Nat :=
  lineSubs.find? (fun sub => projects (h.meansOf p sub) (h.rd (lineKey p sub)) (h.rd (Od.WARN_THRESHOLD p)) (24 * days))

/-- The state that the present readings and trends give, with the measurement that decides it (R50). -/
def lineVerdict (h : Hub) (p : Nat) : Nat × Nat :=
  let low := h.lowestReading p
  if low.2 < h.rd (Od.FAULT_THRESHOLD p) then (4, low.1)
  else if low.2 < h.rd (Od.WARN_THRESHOLD p) then (3, low.1)
  else match h.trendOf p (h.rd (Od.TREND_HORIZON p)) with
    | some sub => (2, sub)
    | none =>
      if h.rd (Od.LINE_STATE p) = 2 then
        (match h.trendOf p (2 * h.rd (Od.TREND_HORIZON p)) with | some sub => (2, sub) | none => (1, low.1))
      else (1, low.1)

/-- LINE_STATE is judged, and a change raises a LINE event, only while MONITOR_ENABLE is 1 (R44, R50, R550). -/
def judgeLine (p : Nat) (h : Hub) : Hub :=
  if h.rd (Od.MONITOR_ENABLE p) = 0 then h
  else
    let v := h.lineVerdict p
    if v.1 = h.rd (Od.LINE_STATE p) then h
    else (h.wr (Od.LINE_STATE p) v.1).report 0x31 (p + 256 * v.1 + 65536 * v.2) 0

/-- LINE_STATE is judged again on a change that is no reading; UNKNOWN waits for the next reading (R50). -/
def rejudgeLine (p : Nat) (h : Hub) : Hub := if h.rd (Od.LINE_STATE p) = 0 then h else h.judgeLine p

/-- The monitor of a port is off: LINE_STATE reads UNKNOWN (R50). -/
def monitorOff (p : Nat) (h : Hub) : Hub := h.wr (Od.LINE_STATE p) 0

/-- An event of R49 is under way on the port: a rail transition, the discharge after a fast or a timed-limit trip, or a probe. -/
def measureBlocked (h : Hub) (p : Nat) : Bool :=
  h.rd (Od.POWER_STATE p) == 4
    || (h.rd (Od.POWER_STATE p) == 5 && (h.rd (Od.POWER_OFF_CAUSE p) == 2 || h.rd (Od.POWER_OFF_CAUSE p) == 3))
    || h.rd (Reg.probePhase p) != 0

/-- A measurement interval that began at `start` (an instant plus 1) and ends now overlaps an event of R49. -/
def measureSpoiled (h : Hub) (p start : Nat) : Bool := h.measureBlocked p || decide (start < h.rd (Reg.spoilAt p))

/-- The value of a measurement within its range of Table 2-5: above range reads as not measured. -/
def inRange (top r : Nat) : Nat := if top < r then notMeasured else r

/-! ### The polarity probe -/

/-- The probe starts with the backfeed check (R52, Table 2-6). A power-on that still waits for Slate is withdrawn: default power follows
the last probe alone (R55). -/
def probeStart (p : Nat) (h : Hub) : Hub :=
  (((h.withdrawPowerOn p).clear [Reg.probePre p, Reg.probeF p]).wr (Reg.probePhase p) 1).arm (Tm.probe p) (us 960)

/-- The port leaves ATTACHED_SOURCE during a probe (R56). -/
def probeAbort (p : Nat) (h : Hub) : Hub :=
  if h.rd (Reg.probePhase p) = 0 then h
  else (((h.clear [Reg.probePhase p, Tm.probe p, Reg.probePre p, Reg.probeF p]).spoil p).wr (Od.PROBE_RESULT p) 8
    |>.emit (.powerDie p (.probe 0))).emit (.powerDie p .dischargePulse)

/-- The last probe since attach gave DEVICE: it has completed, and none has begun since (R55, R149). -/
def probedDevice (h : Hub) (p : Nat) : Bool := h.rd (Od.PROBE_RESULT p) == probeDevice && h.rd (Reg.probePhase p) == 0

/-- The classification of Table 2-8 from the backfeed reading in mV and F and Rv in 0.1 µA. -/
def probeClass (pre : Int) (f rv : Nat) : Nat :=
  let m := min f rv
  let d : Int := (f : Int) - rv
  if 1500 ≤ pre ∨ pre ≤ -1500 then 5
  else if 2500 ≤ m then 4
  else if 400 ≤ d ∧ m ≤ 600 then 1
  else if d ≤ -400 ∧ m ≤ 600 then 2
  else if -150 ≤ d ∧ d ≤ 150 ∧ 850 ≤ m ∧ m < 2500 then 3
  else if -150 ≤ d ∧ d ≤ 150 ∧ m < 850 then 6
  else 7

/-- The leak of R552 in Ω from the source's mV and a current in 0.1 µA: above 20 MΩ it reads as not measured (Table 2-5). -/
def probeLeak (mv i : Nat) : Nat := if i = 0 then notMeasured else inRange 20000000 (mv * 10000 / i - 10000)

/-- The leak that a result gives, or none (R552). -/
def leakFor (cls mv f rv : Nat) : Option Nat :=
  if cls = 1 ∨ cls = 6 then some (probeLeak mv rv)
  else if cls = 2 then some (probeLeak mv f)
  else if cls = 4 then some (probeLeak mv (min f rv))
  else none

/-- The probe completes: its readings, PROBE_RESULT and the leak, then default power for a DEVICE, or the offer of a HUB_TRUNK
(R54, R55, R114, R150, R552). Its reading joins the hour's mean only while MONITOR_ENABLE is 1 (R44, R50). -/
def probeDone (p rv mv : Nat) (h : Hub) : Hub :=
  let pre := h.rd (Reg.probePre p)
  let f := h.rd (Reg.probeF p)
  let cls := probeClass (toSigned 16 pre) f rv
  let h1 := (((h.clear [Reg.probePhase p, Tm.probe p, Reg.probePre p, Reg.probeF p]).spoil p).wr (Od.VBUS_PRE_V p) pre
    |>.wr (Od.PROBE_CURRENTS p) (f * 65536 + rv) |>.wr (Od.PROBE_RESULT p) cls).emit (.powerDie p (.probe 0))
  let h2 := match leakFor cls mv f rv with
    | none => h1
    | some r =>
      let x := h1.wr (Od.LEAK_VBUS_VRET p) r
      (if r = notMeasured ∨ x.rd (Od.MONITOR_ENABLE p) = 0 then x else x.add (Reg.probeSum p) r 64 |>.inc (Reg.probeCount p) 32).judgeLine p
  if cls = 1 then h2.askPowerOn p true
  else if cls = 3 then ((h2.arm (Tm.firstCaps p) (ms 45)).hubPowerUp p)
  else h2

/-! ### Reflectometry -/

/-- A trace of Dn begins (R57). -/
def traceStart (p kind : Nat) (h : Hub) : Hub := h.wr (Reg.tdrRun p) kind |>.wr (Reg.tdrAt p) (h.now + 1) |>.wr (Reg.shotsLost p) 0

/-- The stored trace of a kind. -/
def lineRecord (h : Hub) (p kind : Nat) : Option LineRecord := h.lineRecords.find? (fun x => x.port == p && x.kind == kind)

/-- Stores a trace in place of the one of its kind. -/
def putRecord (x : LineRecord) (h : Hub) : Hub :=
  { h with lineRecords := x :: h.lineRecords.filter (fun y => !(y.port == x.port && y.kind == x.kind)) }

/-- The last event of a list. -/
def lastEcho (es : List Echo) : Option Echo :=
  es.foldl (fun b e => match b with | none => some e | some x => if x.time ≤ e.time then some e else some x) none

/-- The nearest event of a list that is new or moved and has a kind, in 0.1 m with its kind (R59). -/
def nearestEvent (vf len : Nat) (base : List Echo) (es : List Echo) : Option (Nat × Nat) :=
  (es.filterMap (fun e : Echo =>
    let d := echoDistance vf e.time
    let k := echoKind d len e.rho
    if k ≠ 0 ∧ echoMoved vf base e then some (d, k) else none)).foldl
      (fun (b : Option (Nat × Nat)) x => match b with | none => some x | some y => if x.1 < y.1 then some x else some y) none

/-- FAULT_KIND, FAULT_DISTANCE and CABLE_LENGTH of a trace against the baseline (R59). With no baseline the trace's own last
event is the far end, and no event counts as new (log entry 12). DESIGN CHOICE (log entry 12): the kind of the nearest new or moved
event wins over LENGTH_CHANGED, which stands only where no such event has a kind of its own. -/
def judgeTrace (p : Nat) (es : List Echo) (h : Hub) : Hub :=
  let vf := h.rd (Od.VELOCITY_FACTOR p)
  let base := ((h.lineRecord p 1).map (·.echoes)).getD es
  let len := ((lastEcho base).map (fun e => echoDistance vf e.time)).getD 0
  let now := ((lastEcho es).map (fun e => echoDistance vf e.time)).getD 0
  let h1 := h.wr (Od.CABLE_LENGTH p) (min 65535 len)
  match nearestEvent vf len base es with
  | some (d, k) => h1.wr (Od.FAULT_DISTANCE p) (min 65535 d) |>.wr (Od.FAULT_KIND p) k
  | none =>
    if now + 40 < len ∨ len + 40 < now then h1.wr (Od.FAULT_DISTANCE p) (min 65535 now) |>.wr (Od.FAULT_KIND p) 4
    else h1.wr (Od.FAULT_DISTANCE p) 0 |>.wr (Od.FAULT_KIND p) 0

/-- Reflectometry can run on the port: its PHY domain is ON and no alternate function holds the pair (R49, R132). -/
def traceAllowed (h : Hub) (p : Nat) : Bool := h.phyOn p && h.rd (Od.ALT_STATE p) == 0

/-- The trip-location trace begins: it is owed, the discharge has brought VBUS below 5 V (2), and the PHY group is ON (R60). -/
def tripTrace (p : Nat) (h : Hub) : Hub :=
  if h.rd (Reg.tripTrace p) = 2 ∧ h.traceAllowed p = true then (h.wr (Reg.tripTrace p) 0).traceStart p 2 else h

/-- The trace under way on a port stops without a result, because its pair is no longer the monitor's; a trip-location trace is owed again
(R57, R60). -/
def traceStop (p : Nat) (h : Hub) : Hub :=
  let h1 := if h.rd (Reg.tdrRun p) = 2 then h.wr (Reg.tripTrace p) 2 else h
  h1.wr (Reg.tdrRun p) 0

/-- A shot can run in a monitor slot of the port: its pair is the monitor's, and a trace is under way or the monitor is enabled. -/
def slotWanted (h : Hub) (p : Nat) : Bool := h.traceAllowed p && (h.rd (Reg.tdrRun p) != 0 || h.rd (Od.MONITOR_ENABLE p) == 1)

/-- Line activity during a shot (R48): the shot is discarded; a trace under way needs one more (log entry 21). -/
def shotLost (p : Nat) (h : Hub) : Hub :=
  if h.slotWanted p then
    let h1 := h.inc (Od.MEAS_DISCARDED p)
    if h1.rd (Reg.tdrRun p) = 0 then h1 else h1.inc (Reg.shotsLost p) 32
  else h

end Hub
end Sys2Proof.Machine
end

