-- ==== Sys2Proof/Machine/AttachOps.lean ====
section
/-!
DEFINITION. Sys2Proof/Machine/AttachOps.lean: the attach state machine's shared operations (R66 to R80): bands and
classification, entries to the states of Table 3-4, detach, FAULT_LOCK, and what follows when VBUS has fallen below 5 V.
-/
namespace Sys2Proof.Machine

/-- The band of a CF wire under PERMIT or HOLD: 0 open, 1 Rd, 2 Ra (Table 3-3). -/
def cfBand (mv : Nat) : Nat := if mv < 600 then 2 else if mv < 2600 then 1 else 0

/-- CF_CONFIG of two wire classes (Table 3-5), CF1 and CF2 exchanged included. -/
def cfConfig (a b : Nat) : Nat :=
  if a = 1 ∧ b = 1 then 5
  else if (a = 1 ∧ b = 0) ∨ (a = 0 ∧ b = 1) then 1
  else if (a = 1 ∧ b = 2) ∨ (a = 2 ∧ b = 1) then 2
  else if (a = 2 ∧ b = 0) ∨ (a = 0 ∧ b = 2) then 4
  else 0

namespace Hub

/-- The attach preference in force (R76): 0 SOURCE_ONLY, 1 SINK_ONLY, 2 PREFER_SOURCE, 3 PREFER_SINK. -/
def prefInForce (h : Hub) (p : Nat) : Nat :=
  let w := h.rd (Od.ATTACH_PREF p)
  if 16 ≤ p then
    if (h.role = 0 ∨ h.role = 3) ∧ w = 3 then (if h.rd Od.CONTROL_UPSTREAM = 33 - p then 2 else 3) else w
  else if h.role = 0 ∨ h.role = 1 then 0
  else if hasBit (h.rd Od.FABRIC_PORTS) p then w
  else 0

/-- CF1 and CF2 as last read (Table 3-16). -/
def wires (p cf1 cf2 : Nat) (h : Hub) : Hub := h.wr (Od.CF_WIRE_MV p) (cf1 % 65536 * 65536 + cf2 % 65536)

/-- The timers and counts of the unattached states stop. -/
def attachClear (p : Nat) (h : Hub) : Hub :=
  h.clear [Reg.candidate p 0, Reg.candidate p 1, Reg.attachAs p, Reg.stage p, Tm.stage p, Tm.debounce p, Tm.toggle p, Tm.try p,
    Tm.tryDebounce p, Tm.tryWait p]

/-- A toggle phase begins (R71): tToggle at its minimum, the source share drawn anew for every cycle, in whole percents (log entry 62). -/
def togglePhase (p phase : Nat) (h : Hub) : Hub :=
  if phase = 1 then
    let (x, h1) := h.fresh
    let share := 30 + x % 41
    ((h1.wr (Reg.toggle p) 1 |>.wr (Reg.toggleShare p) share).wr (Od.CF_LEVEL p) 2).arm (Tm.toggle p) (us (600 * share))
  else
    ((h.wr (Reg.toggle p) 2).wr (Od.CF_LEVEL p) 4).arm (Tm.toggle p) (us (600 * (100 - h.rd (Reg.toggleShare p))))

/-- Entry to UNATTACHED (Table 3-4, R71, R76, R80); leaving ATTACHED_SOURCE or TRY_SOURCE is remembered for R73. -/
def enterUnattached (p : Nat) (h : Hub) : Hub :=
  let s := h.rd (Od.ATTACH_STATE p)
  let h1 := if s = 4 ∨ s = 2 then h.wr (Reg.lastSource p) (h.now + 1) else h
  let pref := h1.prefInForce p
  let h2 := (h1.attachClear p).wr (Od.ATTACH_STATE p) 0 |>.wr (Od.ATTACH_PREF_ACTIVE p) pref |>.wr (Od.ORIENTATION p) 0
  if pref = 0 then h2.wr (Od.CF_LEVEL p) 1
  else if pref = 1 then h2.wr (Od.CF_LEVEL p) 4
  else h2.togglePhase p 1

/-- ATTACH_WAIT as source: PERMIT on CF1 alone for 2 ms (R70). -/
def enterWaitSource (p : Nat) (h : Hub) : Hub :=
  (((h.attachClear p).wr (Od.ATTACH_STATE p) 1 |>.wr (Reg.attachAs p) 1 |>.wr (Reg.stage p) 1).wr (Od.CF_LEVEL p) 2).arm (Tm.stage p) (ms 2)

/-- ATTACH_WAIT as sink: a source has been seen, and its debounce runs (R70). -/
def enterWaitSink (p : Nat) (h : Hub) : Hub :=
  (((h.attachClear p).wr (Od.ATTACH_STATE p) 1 |>.wr (Reg.attachAs p) 2).wr (Od.CF_LEVEL p) 4).arm (Tm.debounce p) (ms 145)

/-- The classification found no attach (R68): the port returns to UNATTACHED and ignores candidates for tCandidateBackoff;
a wire that read Ra beside an open one is excluded. -/
def candidateFail (p : Nat) (h : Hub) : Hub :=
  let a := h.rd (Reg.classA p)
  let h1 := (h.inc (Od.FALSE_CANDIDATES p)).enterUnattached p
  let h2 := if h1.rd (Od.CF_CONFIG p) = 4 then h1.wr (Reg.excluded p (if a = 2 then 0 else 1)) 1 else h1
  h2.arm (Tm.backoff p) (ms 950)

/-- The two wires are classified, and CF_CONFIG shows the result (Table 3-5). -/
def setClasses (p a b : Nat) (h : Hub) : Hub :=
  h.wr (Reg.classA p) a |>.wr (Reg.classB p) b |>.wr (Od.CF_CONFIG p) (cfConfig a b)

/-- The common part of an entry to an attached state: the stamp, the count, and a fresh contract machine (R89, R99, R112). -/
def attachCommon (p s : Nat) (h : Hub) : Hub :=
  (((h.attachClear p).wr (Od.ATTACH_STATE p) s |>.wr (Od.ATTACH_TIME p) h.stamp).inc (Od.ATTACH_COUNT p)).contractStart p

/-- Entry to ATTACHED_SOURCE (R70, R77, R52, R114, R129, R215): the Rd wire is the message wire, the probe runs on a
downstream port, and the cable-electronics supply goes on where a tag was seen. -/
def attachSource (p : Nat) (h : Hub) : Hub :=
  let swap := h.rd (Reg.classB p) == 1 && h.rd (Reg.classA p) != 1
  let h1 := (h.attachCommon p 4).wr (Od.ORIENTATION p) (if swap then 1 else 0) |>.wr (Od.CF_LEVEL p) 2
  let h2 := if p < 16 then (h1.wr (Od.PROBE_RESULT p) 0).probeStart p else h1.arm (Tm.firstCaps p) (ms 45)
  let h3 := if h2.rd (Od.CF_CONFIG p) = 2 then h2.cfsOn p else h2
  h3.hubAttach p

/-- Entry to ATTACHED_SINK (R70, R79, Table 3-5); a fabric port presents its presence pull-up (R162). -/
def attachSink (p : Nat) (h : Hub) : Hub :=
  let h1 := (h.attachCommon p 5).wr (Od.CF_CONFIG p) 3 |>.wr (Od.ORIENTATION p) 0 |>.wr (Od.CF_LEVEL p) 4
  if p < 16 ∧ h1.fabricPort p = true then h1.applyPull p else h1

/-- What a detach ends on an attached port (R74, R56, R93, R216): probe, messages, contract, power and link. CF_CONFIG reads NONE from
then on (log entry 61). -/
def detachEffects (p cutCause : Nat) (h : Hub) : Hub :=
  ((((h.probeAbort p).contractStop p cutCause).hubDetach p).wr (Od.DETACH_TIME p) h.stamp |>.wr (Od.CF_CONFIG p) 0).wr (Reg.detachDone p) 0

/-- Entry to FAULT_LOCK from any state (R75). -/
def faultLock (p cause : Nat) (h : Hub) : Hub :=
  let h1 := if h.attached p then h.detachEffects p 3 else h
  let h2 := (h1.attachClear p).wr (Od.ATTACH_STATE p) 6 |>.wr (Od.FAULT_LOCK_CAUSE p) cause |>.wr (Od.CF_LEVEL p) 0
  h2.report 0x32 (p + 256 * cause) 0

/-- A detach counted in the flap window (Table 3-6): the window is half-open and begins at the first detach it counts. -/
def countFlap (p : Nat) (h : Hub) : Hub :=
  let st := h.rd (Reg.flapStart p)
  if st ≠ 0 ∧ h.now + 1 < st + h.rd (Od.FLAP_WINDOW p) * 1000000000 then h.wr (Reg.flapCount p) (h.rd (Reg.flapCount p) + 1)
  else h.wr (Reg.flapStart p) (h.now + 1) |>.wr (Reg.flapCount p) 1

/-- The port detaches (R74, R75). -/
def detachNow (p : Nat) (h : Hub) : Hub :=
  let h1 := ((h.detachEffects p 2).countFlap p).spoil p
  if h1.rd (Od.FLAP_LIMIT p) ≠ 0 ∧ h1.rd (Od.FLAP_LIMIT p) ≤ h1.rd (Reg.flapCount p) then
    ((h1.clear [Reg.flapStart p, Reg.flapCount p]).enterUnattached p).faultLock p 3
  else h1.enterUnattached p

/-- A port leaves FAULT_LOCK on a write of ATTACH_RELEASE (R75); what CF_CONFIG showed ends with the lock (log entry 61). -/
def unlock (p : Nat) (h : Hub) : Hub := (h.wr (Od.FAULT_LOCK_CAUSE p) 0 |>.wr (Od.CF_CONFIG p) 0).enterUnattached p

/-- After HARD_RESET, VBUS has stayed below 5 V for tSrcRecover (R124 steps 3 and 4, R126): default power where the cause
allows it. HARD_RESETTING lasts until that power is ON; where none is asked for or Slate refuses, it ends now (Table 4-15). -/
def restorePower (p : Nat) (h : Hub) : Hub :=
  if h.rd (Od.CONTRACT_STATE p) ≠ 6 then h
  else if h.isSource p && h.suppliesVbus p && restoreAllowed (h.rd (Od.HARD_RESET_CAUSE p)) && h.probedDevice p
      && h.rd (Od.POWER_STATE p) == 0 then
    let h1 := h.askPowerOn p false
    if h1.rd (Od.POWER_STATE p) = 0 then h1.contractState p 1 else h1
  else
    let h1 := h.contractState p 1
    if h1.isSource p && (isTrunk p || h1.rd (Od.PROBE_RESULT p) == probeHubTrunk) then h1.arm (Tm.firstCaps p) (ms 45) else h1

/-- VBUS has fallen below 5 V in DISCHARGING (R148): the port is OFF; a POWER_CMD OFF is DONE (R149), an aborted port whose
tDetach is complete detaches (R121), and tSrcRecover of a HARD_RESET runs (R124). -/
def powerReachedOff (p : Nat) (h : Hub) : Hub :=
  if h.rd (Od.POWER_STATE p) ≠ 5 then h
  else
    let cause := h.rd (Od.POWER_OFF_CAUSE p)
    let h0 := if cause = 2 ∨ cause = 3 then h.spoil p else h
    let hT := if h0.rd (Reg.tripTrace p) = 1 then (h0.wr (Reg.tripTrace p) 2) else h0
    let h1 := (hT.wr (Od.POWER_STATE p) 0).refreshLimit p
    let h2 := if h1.rd (Reg.offPending p) = 1 then (h1.wr (Reg.offPending p) 0).powerResult p 2 else h1
    if h2.rd (Reg.detachDone p) = 2 then h2.detachNow p
    else if h2.rd (Od.CONTRACT_STATE p) = 6 then h2.arm (Tm.srcRecover p) (ms 660)
    else h2

end Hub
end Sys2Proof.Machine
end

