-- ==== Sys2Proof/Machine/Exchange.lean ====
section
/-!
DEFINITION. Sys2Proof/Machine/Exchange.lean: the exchanges on the CF wire (R89 to R131): starting and answering them, what
the acknowledgement of a message brings, what a received message does, and the moves that wait for Slate.
-/
namespace Sys2Proof.Machine

/-- The REASON object of CODE BUDGET (Table 4-9). -/
def reasonBudget : Nat := 0x70000003

/-- An answer of these types is a request's refusal. -/
def isRefusal (type : Nat) : Bool := type == 6 || type == 7

/-- Only a source begins these (Table 4-10). -/
def sourceOnly (type : Nat) : Bool := type == 1 || type == 2 || type == 10

/-- Only a sink begins these (Table 4-10). -/
def sinkOnly (type : Nat) : Bool := type == 3 || type == 4

namespace Hub

/-- The wire is open to a message of the hub's own: nothing is being received and no message of the hub's is in flight. The preamble
starts tIdle after the last release. -/
def wireOpen (h : Hub) (p : Nat) (busy : Bool) : Bool := !busy && (h.txOf p).isNone

/-- The wire is idle: nobody drives it, the hub's own GOOD_ACK included (R95). -/
def wireIdle (h : Hub) (p : Nat) (busy : Bool) : Bool := h.wireOpen p busy && decide (h.rd (Reg.wireAt p) ≤ h.now + 1)

/-! ### Starting exchanges -/

/-- The hub's own new exchange goes on the wire: the manager's (R111) or the default offer (R114). -/
def beginExchange (p type dest : Nat) (objs : List Nat) (why : TxWhy) (h : Hub) : Hub :=
  let h1 := (h.sendCf p type dest objs why).wr (Reg.exOwn p) (type + 1) |>.wr (Reg.exDest p) dest
  if type = 1 then h1.wr (Od.LAST_CAPS p) (objBytes objs) |>.wr (Reg.capsSent p) 1
  else if type = 4 then (h1.wr (Od.LAST_REQUEST p) (objs.headD 0)).contractState p 3
  else if type = 11 then h1.wr (Reg.altWant p) (objs.headD 0 + 1)
  else h1

/-- The pending NEW_EXCHANGE goes on the wire. -/
def startNew (x : CfPending) (h : Hub) : Hub :=
  { h with cfNew := dropBy CfPending.port x.port h.cfNew }.beginExchange x.port x.type x.dest x.objs x.why

/-- The wait-and-retry time of a message type runs (R97). -/
def retryWaits (h : Hub) (p type : Nat) : Bool := h.running (Tm.waitRetry p type) && !h.due (Tm.waitRetry p type)

/-- A pending NEW_EXCHANGE may start: the conditions of R111 but for tHoldLead. -/
def newReady (h : Hub) (x : CfPending) (busy : Bool) : Bool :=
  h.wireIdle x.port busy && !h.exchangeOpen x.port && h.attached x.port && !h.retryWaits x.port x.type && h.rd (Reg.offerPending x.port) != 1

/-- A pending NEW_EXCHANGE starts once every condition of R111 holds. As source the hub first applies HOLD and waits tHoldLead (R95); as
sink it must read PERMIT, which `permit` says (R94). -/
def startPending (p : Nat) (busy permit : Bool) (h : Hub) : Hub :=
  match h.newOf p with
  | none => h
  | some x =>
    if !h.newReady x busy then h
    else if h.isSource p then
      if h.rd (Od.CF_LEVEL p) = levelPermit then (h.applyHold p).arm (Tm.holdLead p) (ms 20)
      else if h.running (Tm.holdLead p) && !h.due (Tm.holdLead p) then h
      else (h.wr (Tm.holdLead p) 0).startNew x
    else if permit then h.startNew x
    else h

/-- A pending NEW_EXCHANGE starts if it may, with no reading of PERMIT at hand. -/
def tryStartNew (p : Nat) (busy : Bool) (h : Hub) : Hub := h.startPending p busy false

/-- The default offer goes on the wire (R114). -/
def startOffer (p : Nat) (h : Hub) : Hub :=
  (h.wr (Reg.offerPending p) 0).beginExchange p 1 0 (h.defaultOffer p) .defaultOffer

/-! ### Answers -/

/-- An answer goes on the wire (R109, R117): what it answered awaits nothing more. -/
def sendAnswer (x : CfPending) (h : Hub) : Hub :=
  let p := x.port
  let h1 := { h with cfAns := dropBy CfPending.port p h.cfAns, cfAwait := dropBy CfAwait.port p h.cfAwait }.wr (Tm.answer p) 0
  let h2 := match x.why with
    | .answer hd _ => if x.type = 5 ∧ hdrType hd = 4 then h1.applyHold p else h1
    | _ => h1
  let h3 := if x.type = 4 then (h2.wr (Od.LAST_REQUEST p) (x.objs.headD 0)).contractState p 3 else h2
  h3.sendCf p x.type x.dest x.objs x.why

/-- The preamble can start within tAnswerDeadline; FALLBACK is sent when that has passed (R109, R116). -/
def inDeadline (h : Hub) (x : CfPending) : Bool :=
  match x.why with
  | .fallback => true
  | _ => decide (h.preambleAt x.port + 1 < h.rd (Tm.answer x.port))

/-- An answer may start: the wire is open, its cost is released, its deadline has not passed, no wait-and-retry time of a REQUEST runs,
and the ACCEPT of a SOFT_RESET does not stand in a TRANSITION (R97, R109, R127). -/
def answerReady (h : Hub) (x : CfPending) (busy : Bool) : Bool :=
  h.wireOpen x.port busy && !x.budget && h.inDeadline x && !(x.type == 4 && h.retryWaits x.port 4) && h.rd (Od.CONTRACT_STATE x.port) != 4

/-- The pending answer of a port starts if it may. -/
def pumpAns (p : Nat) (busy : Bool) (h : Hub) : Hub :=
  match h.ansOf p with
  | none => h
  | some x => if h.answerReady x busy then h.sendAnswer x else h

/-- The ANSWER is pending, or starts at once. -/
def queueAnswer (x : CfPending) (busy : Bool) (h : Hub) : Hub :=
  ({ h with cfAns := putBy CfPending.port x h.cfAns }.answerResult x.port 1).pumpAns x.port busy

/-- FALLBACK with a REASON of CODE BUDGET, once the wire is open: the REQUEST awaits nothing more (R116). -/
def sendFallback (x : CfPending) (h : Hub) : Hub :=
  ({ h with cfAwait := dropBy CfAwait.port x.port h.cfAwait }.wr (Tm.answer x.port) 0).queueAnswer
    { x with type := x.fallback, objs := [reasonBudget], why := .fallback, budget := false } false

/-- A queued move is released (R116): ACCEPT starts, unless the deadline has been reached. -/
def moveReleased (p : Nat) (h : Hub) : Hub :=
  match h.ansOf p with
  | none => h
  | some x =>
    if h.due (Tm.answer p) then h.sendFallback x
    else { h with cfAns := putBy CfPending.port { x with budget := false } h.cfAns }.pumpAns p false

/-- Slate refuses a queued move (R153, R157): the effect of BUSY. -/
def moveRefused (p : Nat) (h : Hub) : Hub :=
  match h.ansOf p with
  | none => h
  | some x => h.sendFallback x

/-! ### The cable-electronics swap and the alternate functions -/

/-- A pending NEW_EXCHANGE of CFS_SWAP is withdrawn, with the HOLD it waited under (R95, R131). -/
def cancelSwap (p : Nat) (h : Hub) : Hub :=
  match h.newOf p with
  | none => h
  | some x =>
    if x.type = 9 then
      let h1 := ({ h with cfNew := dropBy CfPending.port p h.cfNew }.cfRecord p 3 (h.plannedHeader x) 5 x.objs).answerResult p 12
      if h1.rd (Reg.offerPending p) = 1 then h1 else (h1.stop (Tm.holdLead p)).toPermit p
    else h

/-- The swap of R130 starts after the GOOD_ACK of ACCEPT, which ends `lead` from now: the former supplier awaits READY; the new one applies
its supply, if it may, and the exchange ends for either when tReadyWait expires (Table 4-11). -/
def startSwap (p lead : Nat) (h : Hub) : Hub :=
  let h1 := (h.cancelSwap p).arm (Tm.readyWait p) (lead + ms 200)
  if h1.rd (Od.CFS_STATE p) = 1 then h1.wr (Reg.cfsSwap p) 2
  else
    let h2 := (h1.cfsOn p).wr (Reg.cfsSwap p) 1
    if h2.rd (Od.CFS_STATE p) = 1 then h2.arm (Tm.cfsStable p) (lead + ms 1) else h2

/-- A swap under way ends with no duty moved (R127, R130). -/
def dropSwap (p : Nat) (h : Hub) : Hub := h.clear [Reg.cfsSwap p, Tm.cfsStable p]

/-- The duty has moved: as source the hub no longer supplies on its own account, as sink it does (R129, R130). -/
def dutyMoved (p : Nat) (h : Hub) : Hub :=
  (h.wr (Reg.cfsDuty p) (if h.rd (Reg.cfsDuty p) = 0 then 1 else 0)).wr (Reg.cfsSwap p) 0

/-- The pair switches to the function of an ALT_FUNCTION object (R133). -/
def altEnter (p obj : Nat) (h : Hub) : Hub :=
  ((h.traceStop p).wr (Od.ALT_STATE p) (bits obj 27 24) |>.wr (Reg.altParams p) obj |>.wr (Reg.altWant p) 0).hubAltEnter p

/-! ### HARD_RESET of an unanswered wait -/

/-- A request counts as answered WAIT (R97, R104): the wait-and-retry time of its type runs. -/
def asWait (p type : Nat) (h : Hub) : Hub :=
  let h1 := h.arm (Tm.waitRetry p type) (ms (h.rd (Od.WAIT_RETRY_TIME p)))
  if type = 4 then h1.toPrior p else h1

/-! ### The acknowledgement of a message of the hub's own (R91) -/

/-- What follows the GOOD_ACK of a new exchange's message (Table 4-11, Table 4-15, R89). -/
def newAcked (p type : Nat) (h : Hub) : Hub :=
  if type = 1 then
    (if [1, 5].contains (h.rd (Od.CONTRACT_STATE p)) then h.contractState p 2 else h).arm (Tm.sinkRequest p) (ms 450)
  else if type = 3 ∨ type = 13 ∨ type = 15 then h.endOwn p
  else if type = 14 then ((((h.dropSwap p).endFar p).resetIds p).toPrior p).arm (Tm.response p) (ms 450)
  else h.arm (Tm.response p) (ms 450)

/-- What follows the GOOD_ACK of an answer: `hd` and `obj` are the header and first object of the message answered. -/
def answerAcked (p type hd obj : Nat) (h : Hub) : Hub :=
  let asked := hdrType hd
  if type = 5 then
    if asked = 4 then h.startTransition p obj
    else if asked = 9 then (h.answerResult p 2).startSwap p 0
    else if asked = 11 then ((h.answerResult p 2).altEnter p obj).endFar p
    else if asked = 12 then ((h.answerResult p 2).altReturn p).endFar p
    else (h.answerResult p 2).endFar p
  else if asked = 4 then ((h.answerResult p 2).toPrior p).endExchange p
  else if type = 4 then (h.answerResult p 2).arm (Tm.response p) (ms 450)
  else (h.answerResult p 2).endFar p

/-- What the GOOD_ACK of a message brings, by why the hub sent it. -/
def ackedEffects (x : CfTx) (h : Hub) : Hub :=
  let p := x.port
  let type := hdrType x.header
  match x.why with
  | .newExchange => (h.answerResult p 2).newAcked p type
  | .defaultOffer => h.newAcked p type
  | .answer hd obj => h.answerAcked p type hd obj
  | .fallback => ((h.answerResult p 11).toPrior p).endExchange p
  | .readyContract => ((h.answerResult p 2).enterContract p).pumpAns p false
  | .readyCfs => (h.dutyMoved p).endExchange p

/-- The matching GOOD_ACK arrives (R91): the MSG_ID advances, the message is counted and reported SENT. -/
def acked (x : CfTx) (h : Hub) : Hub :=
  let p := x.port
  let d := hdrDest x.header
  let h1 := { h with cfTx := dropBy CfTx.port p h.cfTx }.wr (Tm.receive p) 0 |>.wr (Reg.txId p d) ((h.rd (Reg.txId p d) + 1) % 8)
  (((h1.inc (Od.CF_TX_MESSAGES p)).cfRecordAt p 2 x.header 0 x.objs (min x.last h.stamp)).ackedEffects x).pumpAns p false

/-- What follows a message that is lost after its second retry, or abandoned (R91, R103, Table 4-15). -/
def lostEffects (x : CfTx) (h : Hub) : Hub :=
  let p := x.port
  match x.why with
  | .newExchange => if hdrType x.header = 4 then (h.toPrior p).endOwn p else h.endOwn p
  | .defaultOffer => h.endOwn p
  | .answer hd _ =>
    if hdrType hd = 4 ∨ hdrType x.header = 4 then (h.toPrior p).endExchange p else h.endFar p
  | .fallback => (h.toPrior p).endExchange p
  | .readyContract => ((h.answerResult p 3).enterContract p).pumpAns p false
  | .readyCfs => (h.wr (Reg.cfsSwap p) 0).endExchange p

/-- The second retry went unacknowledged (R91). -/
def lostMessage (x : CfTx) (h : Hub) : Hub :=
  let p := x.port
  let d := hdrDest x.header
  let h1 := { h with cfTx := dropBy CfTx.port p h.cfTx }.wr (Reg.txId p d) ((h.rd (Reg.txId p d) + 1) % 8)
  (((h1.inc (Od.CF_TX_FAILED p)).txUndelivered x 1).lostEffects x).pumpAns p false

/-! ### Received messages -/

/-- The older message that awaited an answer is replaced by a newer (R109): an ANSWER to it that still waits gives NO_MATCH, and what it
asked of the contract ends. -/
def replaceAwait (p : Nat) (h : Hub) : Hub :=
  match h.awaitOf p with
  | none => h
  | some a =>
    let h1 := match h.ansOf p with
      | none => h
      | some _ => ({ h with cfAns := dropBy CfPending.port p h.cfAns }.withdraw true p).answerResult p 5
    let h2 := { h1 with cfAwait := dropBy CfAwait.port p h1.cfAwait }.clear [Tm.answer p, Reg.exFar p]
    if [1, 4].contains (hdrType a.header) then h2.toPrior p else h2

/-- The message awaits the manager's answer (R109): at most one does. -/
def await (p header : Nat) (objs : List Nat) (h : Hub) : Hub :=
  ({ h with cfAwait := putBy CfAwait.port ⟨p, h.rd (Reg.cfRef p), header, objs⟩ h.cfAwait }).arm (Tm.answer p) (goodAckTime + ms 400)

/-- A contract enters force as the sink's (Table 4-15): the entries come from READY and the REQUEST; the rail entry of a trunk reads 0
(R138). -/
def sinkContract (p ready : Nat) (h : Hub) : Hub :=
  let none := hasBit ready 24
  let h1 := h.wr (Reg.inForce p) 1 |>.wr (Od.CONTRACT_RAIL p) (if none ∨ 16 ≤ p then 0 else bit ready 25 + 1)
    |>.wr (Od.CONTRACT_OP_CURRENT p) (if none then 0 else 10 * bits (h.rd (Od.LAST_REQUEST p)) 8 0)
    |>.wr (Od.CONTRACT_LIMIT p) (if none then 0 else 10 * bits ready 8 0)
  (h1.contractState p 5).endExchange p

/-- The answer to the hub's open exchange of type `own` (R102, R103). -/
def takeAnswer (p own type : Nat) (objs : List Nat) (h : Hub) : Hub :=
  let h1 := h.wr (Tm.response p) 0
  if own = 2 then (if type = 3 then h1.wr (Od.LAST_SINK_CAPS p) (objBytes objs) else h1).endOwn p
  else if own = 9 then
    if type = 5 then h1.startSwap p goodAckTime else if type = 7 then (h1.asWait p own).endOwn p else h1.endOwn p
  else if own = 11 then
    if type = 5 then (h1.altEnter p (h1.rd (Reg.altWant p) - 1)).endOwn p
    else (if type = 7 then (h1.wr (Reg.altWant p) 0).asWait p own else h1.wr (Reg.altWant p) 0).endOwn p
  else if own = 12 then (h1.altReturn p).endOwn p
  else if own = 4 then
    if type = 5 then (h1.contractState p 4).arm (Tm.readyWait p) (goodAckTime + ms 200)
    else ((if type = 7 then h1.asWait p own else h1.toPrior p)).endOwn p
  else h1.endOwn p

/-- READY of a swap: the former supplier removes its own supply (R130). -/
def swapReady (p : Nat) (h : Hub) : Hub :=
  if h.rd (Reg.cfsSwap p) = 2 then (((h.cfsOff p).wr (Od.CFS_STATE p) 2).dutyMoved p).endExchange p else h

/-- A SOFT_RESET's effects (R127): every open exchange ends, a message of the hub's own on the wire is dropped, and the
contract state returns to the prior state; a transition goes on. -/
def softReset (p header : Nat) (objs : List Nat) (h : Hub) : Hub :=
  if h.rd (Od.CONTRACT_STATE p) = 4 then (h.replaceAwait p).await p header objs
  else
    let h1 := match h.txOf p with
      | none => h
      | some x => ({ h with cfTx := dropBy CfTx.port p h.cfTx }.txUndelivered x 5).wr (Tm.receive p) 0
    let h2 := match h1.ansOf p with
      | none => h1
      | some x => ({ h1 with cfAns := dropBy CfPending.port p h1.cfAns }.undelivered p (h1.plannedHeader x) 5 x.objs x.why).withdraw true p
    (((((h2.dropSwap p).endExchange p).toPrior p).wr (Reg.exFar p) 15)).await p header objs

/-- The message answers the exchange that the hub has open: a type that Table 4-10 lists for it, and its DEST (R102). -/
def answersOpen (h : Hub) (p header : Nat) : Bool :=
  h.rd (Reg.exOwn p) != 0 && (answeredBy (h.rd (Reg.exOwn p) - 1)).contains (hdrType header) && hdrDest header == h.rd (Reg.exDest p)

/-- A message that awaits the manager's answer, of an exchange the far end has begun; it takes the place of an older one (R109). -/
def awaitFar (p header : Nat) (objs : List Nat) (h : Hub) : Hub := (h.wr (Reg.exFar p) (hdrType header + 1)).await p header objs

/-- SOURCE_CAPS reaches the hub as sink (R112, R126). -/
def capsIn (p header : Nat) (objs : List Nat) (h : Hub) : Hub :=
  let h1 := h.replaceAwait p
  let h2 := (if h1.rd (Od.CONTRACT_STATE p) = 6 then (h1.contractState p 1).wr (Tm.srcRecover p) 0 else h1).wr (Od.LAST_CAPS p) (objBytes objs)
  (h2.contractState p 2).awaitFar p header objs

/-- REQUEST reaches the hub as source (Table 4-15); it answers SOURCE_CAPS or begins an exchange of its own. -/
def requestIn (p header : Nat) (objs : List Nat) (h : Hub) : Hub :=
  let h1 := ((h.replaceAwait p).wr (Tm.sinkRequest p) 0).wr (Od.LAST_REQUEST p) (objs.headD 0)
  let h2 := if h1.rd (Reg.capsSent p) = 1 ∧ [1, 2, 5].contains (h1.rd (Od.CONTRACT_STATE p)) = true then h1.contractState p 3 else h1
  if h2.rd (Reg.exOwn p) = 2 then h2.await p header objs else h2.awaitFar p header objs

/-- What a delivered message does at the contract layer, by type (Table 4-10, Table 4-15, R112, R127). -/
def deliverType (p header : Nat) (objs : List Nat) (h : Hub) : Hub :=
  let type := hdrType header
  let own := h.rd (Reg.exOwn p) - 1
  if type = 14 then h.softReset p header objs
  else if h.answersOpen p header = true ∧ own ≠ 1 then h.takeAnswer p own type objs
  else if type = 1 then h.capsIn p header objs
  else if type = 4 then h.requestIn p header objs
  else if type = 3 then h.wr (Od.LAST_SINK_CAPS p) (objBytes objs)
  else if type = 8 then
    if bits (objs.headD 0) 27 26 = 1 then h.swapReady p
    else if h.isSink p && h.rd (Od.CONTRACT_STATE p) == 4 then h.sinkContract p (objs.headD 0)
    else h
  else if [2, 9, 10, 11, 12].contains type then (h.replaceAwait p).awaitFar p header objs
  else if h.rd (Od.CONTRACT_STATE p) = 3 ∧ h.isSink p ∧ hdrDest header = 0 ∧ [5, 6, 7].contains type then h.takeAnswer p 4 type objs
  else h

/-- Table 4-10 lets the other party, or the tag, send this message to the hub: Sent by, and the DEST it must have (R102; log entry 63). A
tag only answers (R87). -/
def senderFits (h : Hub) (p header : Nat) (objs : List Nat) : Bool :=
  let type := hdrType header
  let answer := h.answersOpen p header
  if hdrDest header = 1 then [5, 6, 7, 15].contains type || (type == 10 && answer)
  else if [1, 2].contains type || (type == 10 && !answer) then h.isSink p
  else if [3, 4].contains type then h.isSource p
  else if type = 8 then h.isSink p || bits (objs.headD 0) 27 26 == 1
  else true

/-- The message fits Table 4-10 (R102, R105). -/
def fitsTable (h : Hub) (p header : Nat) (objs : List Nat) : Bool :=
  objsFit (hdrType header) objs (h.answersOpen p header) && h.senderFits p header objs

/-- The exchange that an unanswered message began ends for the hub, and the contract state returns to the prior state (R109, R110). -/
def missed (p : Nat) (a : CfAwait) (h : Hub) : Hub :=
  let asked := hdrType a.header
  let h1 := h.wr (Reg.lateRef p) (a.ref + 1)
  let h2 := if asked = 4 ∨ asked = 1 then h1.toPrior p else h1
  if asked = 4 then h2.endExchange p else h2.endFar p

/-- The held message of a port is replaced by one that is delivered now while the path is not ON (R110). -/
def heldReplaced (p : Nat) (h : Hub) : Hub :=
  if !h.cfPath p && h.cfHeld.any (fun x => x.port == p) then
    match h.awaitOf p with
    | none => h
    | some a => h.missed p a
  else h

/-- A message that the CF section delivers to the contract layer (R105, R106): malformed ones are counted and reported, and
nothing in them is acted on. -/
def deliver (p header : Nat) (objs : List Nat) (h : Hub) : Hub :=
  if !h.fitsTable p header objs then (h.inc (Od.MALFORMED p)).cfRecord p 6 header 0 objs
  else ((h.heldReplaced p).cfReceived p header objs).deliverType p header objs

/-- Only a message that would begin an exchange can collide: GOOD_ACK, ACCEPT, REJECT, WAIT, READY, and what answers an exchange the hub
has open, never do (R96). -/
def canCollide (h : Hub) (p header : Nat) : Bool := !([0, 5, 6, 7, 8].contains (hdrType header)) && !h.answersOpen p header

/-- The preamble start lies within [h, h + 3.0 ms) of the last HOLD (R96). -/
def inHoldWindow (h : Hub) (p pre : Nat) : Bool :=
  h.isSource p && h.rd (Reg.holdAt p) != 0 && decide (h.rd (Reg.holdAt p) ≤ pre + 1 ∧ pre + 1 < h.rd (Reg.holdAt p) + ms 3)

/-- A GOOD_ACK (R87, R90, R91): it matches the message in flight by DEST and MSG_ID, or is counted as discarded. -/
def takeGoodAck (p header : Nat) (h : Hub) : Hub :=
  match h.txOf p with
  | none => h.inc (Od.CF_RX_DISCARDED p)
  | some x =>
    if hdrId x.header = hdrId header ∧ hdrDest x.header = hdrDest header then h.acked x else h.inc (Od.CF_RX_DISCARDED p)

/-- An accepted message (R89, R90): counted, acknowledged and delivered; a SOFT_RESET resets the message IDs first. -/
def acceptCf (p header : Nat) (objs : List Nat) (h : Hub) : Hub :=
  let d := hdrDest header
  let h1 := if hdrType header = 14 then h.resetIds p else h
  let h2 := (h1.inc (Od.CF_RX_MESSAGES p)).wr (Reg.rxLast p d) (1 + 16 * hdrId header + hdrType header)
  (h2.goodAck p header).deliver p header objs

/-- A whole message of the wire, its CRC-32 given with it (R80 to R96). -/
def receiveCf (p header : Nat) (objs : List Nat) (crc pre : Nat) (h : Hub) : Hub :=
  let type := hdrType header
  let d := hdrDest header
  if !h.attached p then h.inc (Od.CF_RX_DISCARDED p)
  else if cfCrc header objs ≠ crc then h.inc (Od.CF_RX_CRC_ERR p)
  else if h.isSink p && d == 1 then h
  else if hdrRev header ≠ 1 ∨ 2 ≤ d ∨ hdrRole header = h.ownRole p ∨ (type = 0 ∧ hdrNumDo header ≠ 0) then h.inc (Od.CF_RX_DISCARDED p)
  else if type = 0 then h.takeGoodAck p header
  else if h.inHoldWindow p pre && h.canCollide p header then h.inc (Od.CF_COLLISIONS p)
  else if h.rd (Reg.rxLast p d) = 1 + 16 * hdrId header + type then (h.goodAck p header).inc (Od.CF_RX_DUPLICATES p)
  else h.acceptCf p header objs

/-! ### Writes of CF_ANSWER (R108, Table 4-13) -/

/-- The type of a NEW_EXCHANGE is allowed on this port now (R103, R108, R132, R133). -/
def newAllowed (h : Hub) (p type dest : Nat) : Bool :=
  h.attached p && !(type == 5 || type == 6 || type == 7 || type == 8)
    && (if h.isSource p then !sinkOnly type else !sourceOnly type && dest == 0)
    && (dest == 0 || type == 10 || type == 14 || type == 15)
    && !(type == 11 && (decide (16 ≤ p) || h.rd (Od.ALT_STATE p) != 0))

/-- A NEW_EXCHANGE of the manager's (R108, R111). -/
def newExchange (p type dest : Nat) (objs : List Nat) (busy : Bool) (h : Hub) : Hub :=
  if type ≠ 8 ∧ !objsFit type objs false then h.answerResult p 13
  else if !h.newAllowed p type dest then h.answerResult p 6
  else if (h.newOf p).isSome then h.answerResult p 10
  else
    ({ h with cfNew := putBy CfPending.port ⟨p, type, dest, objs, .newExchange, 0, false⟩ h.cfNew }.answerResult p 1).tryStartNew p busy

/-- The move that a REQUEST asks for: its rail, ΔV in mV, S in 0.1 V/ms, and whether it goes up (R117, R118). -/
structure Move where
  rail : Nat
  dv : Nat
  slew : Nat
  up : Bool

/-- The move from the port's rail to the rail of the REQUEST's offer. -/
def moveOf (h : Hub) (p req : Nat) : Move :=
  let rail := bit (h.offerAt p (bits req 27 25)) 27
  let v1 := h.railMv rail
  let v0 := h.railMv (h.rd (Reg.rail p))
  { rail := rail, dv := if v0 ≤ v1 then v1 - v0 else v0 - v1, slew := min (h.rd (Od.SLEW_RATE p)) (slewMax (bits req 22 21)),
    up := decide (v0 < v1) }

/-- I of R118: the larger of the measured current and the operating current in force. -/
def moveCurrent (h : Hub) (p : Nat) : Nat :=
  max (h.rd (Od.IBUS_MA p)) (if h.rd (Reg.inForce p) = 1 then h.rd (Od.CONTRACT_OP_CURRENT p) else h.rd Od.DEFAULT_LIMIT)

/-- The request lies inside the offer it names (R116 check 4). -/
def insideOffer (h : Hub) (p req : Nat) : Bool :=
  let pos := bits req 27 25
  pos == 0 || (h.suppliesVbus p && decide (pos ≤ h.offers p) && decide (bits req 8 0 ≤ bits req 17 9)
    && decide (bits req 17 9 ≤ bits (h.offerAt p pos) 8 0))

/-- An ACCEPT to a REQUEST (R116, R469): the port is NEGOTIATING (Table 4-15), then the checks in order, then the budget. -/
def acceptRequest (x : CfPending) (req : Nat) (busy : Bool) (h : Hub) : Hub :=
  let p := x.port
  let pos := bits req 27 25
  let m := h.moveOf p req
  if h.rd (Od.CONTRACT_STATE p) ≠ 3 then h.answerResult p 6
  else if pos ≠ 0 ∧ h.suppliesVbus p ∧ h.rd (Od.POWER_STATE p) ≠ 3 then h.answerResult p 6
  else if !h.insideOffer p req then h.answerResult p 7
  else if pos = 0 then h.queueAnswer x busy
  else if h.railMv m.rail < 5000 then h.answerResult p 8
  else if m.rail = h.rd (Reg.rail p) then (h.askBudget m.rail .move p 0).2.queueAnswer x busy
  else if m.up && h.rd Od.SAFE_STATE == 1 then h.answerResult p 6
  else if !moveBound (h.moveCurrent p) (h.loadCap p) m.slew m.dv (h.rd Od.SLEW_ENERGY_MAX) (h.rd Od.SLEW_POWER_MAX) m.up then
    h.answerResult p 9
  else match h.askBudget m.rail .move p (if m.up then moveCost (h.moveCurrent p) (h.loadCap p) m.slew m.dv else 0) with
    | (.released, h1) => h1.queueAnswer x busy
    | (.queued, h1) => h1.queueAnswer { x with budget := true } busy
    | (_, h1) => h1.sendFallback x

/-- An ANSWER of the manager's, tested against the message that awaits one (R108, R109, R116). -/
def answerAwaited (p type ref fallback : Nat) (objs : List Nat) (busy : Bool) (h : Hub) : Hub :=
  match h.awaitOf p with
  | none => h.answerResult p (if h.rd (Reg.lateRef p) = ref + 1 then 4 else 5)
  | some a =>
    let asked := hdrType a.header
    let req := a.objs.headD 0
    let x : CfPending := ⟨p, type, hdrDest a.header, objs, .answer a.header req, fallback, false⟩
    if a.ref ≠ ref then h.answerResult p (if h.rd (Reg.lateRef p) = ref + 1 then 4 else 5)
    else if type = 8 then h.answerResult p 6
    else if !(answeredBy asked).contains type || !objsFit type objs true
        || (if type = 5 ∧ asked = 4 then !isRefusal fallback else fallback != 0) then h.answerResult p 13
    else if (h.ansOf p).isSome || !h.attached p then h.answerResult p 6  -- a second ANSWER: log entry 64
    else if asked = 11 ∧ type = 5 ∧ (16 ≤ p ∨ h.rd (Od.ALT_STATE p) ≠ 0) then h.answerResult p 6
    else if asked = 4 ∧ type = 5 then h.acceptRequest x req busy
    else h.queueAnswer x busy

/-- tAnswerDeadline has passed (R109, R110, R116): a queued cost gives FALLBACK, a waiting answer is LATE, and the miss is counted in
ANSWERS_LATE, or, of a message that is held, in HELD_EXPIRED alone. -/
def deadlinePassed (p : Nat) (h : Hub) : Hub :=
  match h.awaitOf p with
  | none => h
  | some a =>
    let h1 := if h.cfHeld.any (fun x => x.port == p) then h else h.inc (Od.ANSWERS_LATE p)
    match h.ansOf p with
    | some x =>
      if x.budget then (h.withdraw true p).sendFallback x
      else ({ h1 with cfAns := dropBy CfPending.port p h.cfAns }.answerResult p 4).missed p a
    | none => h1.missed p a

/-- An ANSWER of the manager's (R108); at the deadline or after it, it is LATE (R19, R109). -/
def answerWrite (p type ref fallback : Nat) (objs : List Nat) (busy : Bool) (h : Hub) : Hub :=
  (h.expire (Tm.answer p) (fun x => x.deadlinePassed p)).answerAwaited p type ref fallback objs busy

/-- A held message's deadline passes while the path is not ON (R110): it is dropped and counted, and its record is owed. -/
def heldExpired (p : Nat) (h : Hub) : Hub :=
  match h.cfHeld.find? (fun x => x.port == p) with
  | none => h
  | some x =>
    let ref := h.nextRef p
    let rc := cfRecordBytes p 5 x.header ref (field x.record 8 8) 0 (tagFlag x.header) []
    ({ h with cfHeld := dropBy CfHeld.port p h.cfHeld, cfExpired := h.cfExpired ++ [(p, rc)] }.inc (Od.HELD_EXPIRED p)).wr (Reg.cfRef p) ref

/-- The deadline of a port's message, of the held one too (R109, R110). -/
def deadlines (p : Nat) (h : Hub) : Hub :=
  (h.expire (Tm.answer p) (fun x => x.deadlinePassed p)).expire (Tm.held p) (fun x => x.heldExpired p)

/-- The path to the manager is ON (R110, R230, R332, R420, R463): what was held goes out. -/
def pathUp (h : Hub) : Hub :=
  if !h.managerPath then h
  else
    let h0 := (List.range 18).foldl (fun x p => if x.due (Tm.held p) then x.deadlines p else x) h
    let h1 := (h0.cfHeld.filter (fun x => h.phyOn x.port)).foldl (fun x c =>
      ({ x with cfHeld := dropBy CfHeld.port c.port x.cfHeld }.emit (.toManager .cf (setBit c.record 144))).wr (Tm.held c.port) 0) h0
    let h2 := (h1.cfExpired.filter (fun c => h.phyOn c.1)).foldl (fun x c => x.emit (.toManager .cf c.2))
      { h1 with cfExpired := h1.cfExpired.filter (fun c => !h.phyOn c.1) }
    let h3 := (List.range 18).foldl (fun x p => match h1.portHeld.find? (fun c => c.1 == p) with
      | none => x
      | some c => x.emit (.toManager .port c.2)) { h2 with portHeld := [] }
    let h4 := match h3.hierHeld with | none => h3 | some r => { h3 with hierHeld := none }.emit (.toManager .hierarchy r)
    let h5 := match h4.domHeld with | none => h4 | some r => { h4 with domHeld := none }.emit (.toManager .domain r)
    h5.pumpManager

end Hub
end Sys2Proof.Machine
end

