-- ==== Sys2Proof/Machine/DomainOps.lean ====
section
/-!
DEFINITION. Sys2Proof/Machine/DomainOps.lean: power domains and clocks as shared operations (R406 to R427): what a domain's
entry to ON, its leaving ON and its OFF bring, the refusal causes, the sequencer's visits, delays, rollback and end, and
the firmware load.
-/
namespace Sys2Proof.Machine

/-- Visit order (Table 14-4). -/
def visitOrder : List Nat := [12, 11, 1, 2, 3, 4, 5, 6, 7, 8, 9, 10]

/-- Table 14-4: delays RET to ON, OFF to ON and ON to RET in periods P, and wake costs from RET and from OFF. -/
structure DomainRow where
  retOn : Nat
  offOn : Nat
  onRet : Nat
  costRet : Nat
  costOff : Nat

/-- The row of a domain. -/
def domainRow (d : Nat) : DomainRow :=
  match d with
  | 12 => ⟨1, 2, 1, 10, 50⟩
  | 11 => ⟨1, 4, 1, 10, 60⟩
  | 1 => ⟨1, 4, 2, 60, 300⟩
  | 2 => ⟨1, 4, 1, 30, 120⟩
  | 3 => ⟨1, 8, 1, 20, 150⟩
  | 4 => ⟨1, 8, 1, 20, 150⟩
  | 5 => ⟨1, 2, 1, 20, 80⟩
  | 6 => ⟨2, 4, 1, 40, 160⟩
  | _ => ⟨1, 4, 1, 20, 90⟩

/-- The ports of a domain (Table 1-1, portDomain). -/
def domainPorts (d : Nat) : List Nat := (List.range 20).filter (fun p => Hub.portDomain p == d)

/-- The wake cost of a clock on VIN: 1 XO, 2 PLL, 3 trunk reference (Table 14-7). -/
def clockCost (c : Nat) : Nat := if c = 1 then 20 else 10

/-- The bit of CLOCK_STATE of a clock (R424). -/
def clockBit (c : Nat) : Nat := if c = 3 then 3 else c - 1

/-- The maximum start time of a clock in ns (Table 14-7). -/
def clockMax (c : Nat) : Nat := if c = 1 then 3000000 else if c = 2 then 100000 else 200000

/-- The shortest start time of a clock in ns: none of the XO, 2 P of the PLL and 4 P of the trunk reference (Table 14-7). -/
def clockMin (c : Nat) : Nat := if c = 1 then 0 else if c = 2 then 61035 else 122070

/-- The pairs of a group command (Table 14-3). -/
def cmdPairs (v : Nat) : List (Nat × Nat) := (List.range (byteAt v 4)).map (fun i => (byteAt v (8 + 2 * i), byteAt v (9 + 2 * i)))

/-- The checks of R409 on a group command; `armed` admits COUNT 0 and TRIGGERS. -/
def cmdOk (v : Nat) (armed : Bool) : Bool :=
  let n := byteAt v 4
  let ps := cmdPairs v
  (decide (1 ≤ n) || armed) && decide (n ≤ 12)
    && ps.all (fun x => decide (1 ≤ x.1 ∧ x.1 ≤ 12 ∧ x.2 < 3)) && decide (ps.map Prod.fst).Nodup
    && field v (8 + 2 * n) (24 - 2 * n) == 0 && (armed || byteAt v 5 % 4 == 0)

/-- The listed pairs in visit order (R411). -/
def sortPairs (ps : List (Nat × Nat)) : List (Nat × Nat) := visitOrder.filterMap (fun d => ps.find? (fun x => x.1 == d))

namespace Hub

/-- One period P of the 32.768 kHz clock in ns, at the lowest, ×k, between two edges seen in steps of 8 ns: the RC oscillator may run
5 % fast (R423). -/
def periods (h : Hub) (k : Nat) : Nat := if h.rd Od.LF_SOURCE = 1 then k * 29064 - 8 else k * 30517 - 8

/-- The hub's instant is the first step of 8 ns at or after an edge of the 32.768 kHz clock, which the real-time counter counts (R410); where
the edges of the RC oscillator lie is not known (R423). -/
def edge (h : Hub) : Bool := h.rd Od.LF_SOURCE == 1 || decide (h.rtc * 32768 % 1000000000 < 8 * 32768)

/-- A domain's record takes a state (Table 14-9); `count` says that a change is complete. -/
def setDom (d st src : Nat) (count : Bool) (h : Hub) : Hub :=
  let r := h.rd (Od.DOMAIN_RECORD d)
  let r1 := putField r 0 1 st
  if count then
    h.wr (Od.DOMAIN_RECORD d) (putField (putField (putField r1 1 1 src) 4 4 (satInc 32 (field r 4 4))) 8 8 h.stamp)
  else h.wr (Od.DOMAIN_RECORD d) r1

/-- BANK_MAP and SPARES_FREE follow the repair map (R483, R493): the factory map where no bank is remapped. -/
def applyBankMap (h : Hub) : Hub :=
  let remap (b : Nat) : Nat := if h.repair.bankMap = 0 then odDefault Od.BANK_MAP / 256 ^ b % 256 else byteAt h.repair.bankMap b
  let m := pack ((List.range 48).map (fun b => (1, remap b)))
  let used := (List.range 48).map remap
  let spares := ([24, 25, 50, 51].filter (fun s => !used.contains s && !hasBit h.repair.badBanks s)).foldl (fun a s => setBit a (spareBit s)) 0
  h.wr Od.BANK_MAP m |>.wr Od.SPARES_FREE spares

/-- Random bytes of a challenge: the next free value (log entry 2). -/
def renew (k n : Nat) (h : Hub) : Hub :=
  let (x, h1) := h.fresh
  h1.wr k (x % 256 ^ n)

/-- Entry of PD11 to ON (R432, R441, R442): the identity is derived, the challenges are renewed; from OFF the SESSION_ID
counter starts at random. -/
def securityUp (h : Hub) : Hub :=
  let h1 := ((h.renew Od.CLAIM_CHALLENGE 16).renew Od.SESSION_CHALLENGE 16).wr Reg.deriving 1
  let (x, h2) := h1.fresh
  (h2.wr Reg.sessionNext (x % 65536)).arm Tm.derive 0

/-- A domain is ON: what its blocks do then (Table 14-2, R271, R400, R432, Table 7-1). -/
def domainUp (d : Nat) (cold : Bool) (h : Hub) : Hub :=
  if d = 5 then
    let h1 := h.wr Reg.tbBase h.mapped |>.wr Reg.tbAt h.now
    h1.wr Od.SYNC_STATE (if h1.role = 1 ∨ h1.role = 2 then 0 else 1)
  else if d = 11 then h.securityUp
  else if d = 12 then h.pumpEvq
  else if d = 2 ∨ d = 3 ∨ d = 4 then (List.range 18).foldl (fun x p => if x.rd (Od.LINK_CLASS p) = 4 then x.advanceCredit p else x) (if cold then h.applyBankMap else h).pumpTxq
  else if 6 ≤ d ∧ d ≤ 10 then
    (domainPorts d).foldl (fun x p =>
      let st := x.rd (Od.PORT_STATE p)
      let y := if p < 16 then x.tripTrace p else x
      let woken := st = 6 ∧ y.rd (Reg.wakePresent p) = 1 ∧ y.rd (Od.WAKE_ENABLE p) = 1
      if cold ∧ 4 ≤ st ∧ ¬ woken then y.enterDisconnected p
      else if st = 2 ∧ y.rd (Reg.pullSeen p) ≠ 0 ∧ y.rd (Od.LINK_STATE p) ≤ 1 then (y.linkTo p 1).arm (Tm.connect p) (ms 95)
      else y) h
  else h

/-- A domain leaves ON: what can no longer run (R271, R286, R133, R196, R321, R389). -/
def domainLeaves (d : Nat) (h : Hub) : Hub :=
  let h1 := if d = 5 then h.wr Reg.tbBase h.timebase |>.wr Reg.tbAt h.now else h
  let h2 := (domainPorts d).foldl (fun x p => x.dropEgress 11 p) h1
  let h3 := if 7 ≤ d ∧ d ≤ 10 then (domainPorts d).foldl (fun x p => ((x.altReturn p).traceStop p).wr (lineKey p 0x0C) notMeasured) h2 else h2
  if d = 1 then h3.wr Od.FW_STATE 0
  else if d = 2 then { h3 with orphans := [] }.wr Tm.auditEnd 0
  else if d = 12 then h3.wr Reg.quad 0
  else h3

/-- Packets in a receive FIFO: its SOP words. -/
def packetsIn (l : List FifoWord) : Nat := (l.filter (fun w => w.sop)).length

/-- Every cell of index idx returns to its default. -/
def wipeIndex (idx : Nat) (h : Hub) : Hub := h.wipe (idx * 256) (idx * 256 + 256)

/-- Everything that only Flint's SRAM held is lost (R407, R466). -/
def flintLost (h : Hub) : Hub :=
  { h with portHeld := [], hierHeld := none, domHeld := none, relays := [], stored := [], odTxns := [], requesters := [], saving := none, winHeld := [],
           lsdb := [], lsaWaits := [], nextHops := [], neighbours := [] }.wr Od.LAST_COMMITS 0
    |>.clear [Reg.odOpen, Reg.committing, Tm.hello, Tm.lsaRefresh, Tm.noticeTimer, Reg.pathDue, Reg.fabSec, Reg.fabCount,
      Reg.hostTaken]

/-- What a domain loses in OFF (R407, R309, R249, R404, R430). -/
def domainLost (d : Nat) (h : Hub) : Hub :=
  match d with
  | 1 => h.flintLost
  | 2 =>
    (({ h with ring := [] }.wipe 0x400000 0x461400).wipe (Od.key 0x4800 1) (Od.key 0x4800 0x0C)).wipeIndex 0x9020
      |>.wipe (Reg.live 0) (Reg.live 0x1000000) |>.clear [Reg.mirrorCount, Tm.publish, Tm.auditEnd]
  | 5 =>
    let h1 := (List.range 16).foldl (fun x p => x.wipeIndex (0x2060 + 0x100 * p)) h
    ({ h1 with polls := [], pollWrites := [], batch := [] }.wipe 0x500000 0x550000).wipe (Reg.pollRun 0) (Reg.pollRun 4096)
  | 6 =>
    let h1 := (((h.linkDown 16).linkDown 17).wipeIndex 0x3010).wipeIndex 0x3110
    h1.wr (Od.PULLUP 16) (h.rd (Od.PULLUP 16)) |>.wr (Od.PULLUP 17) (h.rd (Od.PULLUP 17))
  | 11 =>
    let h1 := ({ h with sessionKeys := [], keyx := [] }.wipe (Od.key 0x7020 0x11) (Od.key 0x7020 0x19)).clear [Reg.deriving]
    if h1.rd Od.SEC_STATE = 2 then h1.wr Od.SEC_STATE 1 else h1
  | 12 =>
    let lost := packetsIn h.rxq0 + packetsIn h.rxq1
    ({ h with rxq0 := [], rxq1 := [], evq := [], txq := [], odReq := none, odResp := none }.add Od.RX_LOST lost).wr Reg.evqQueued (h.rd Reg.evqDelivered)
      |>.clear [Reg.pseq 0, Reg.pseq 1, Reg.pseq 2, Reg.mailbox, Reg.odNotice, Reg.hostTaken, Reg.txqSkip]
  | _ => if 7 ≤ d ∧ d ≤ 10 then (domainPorts d).foldl (fun x p => (x.linkDown p).wipeIndex (0x2010 + 0x100 * p)) h else h

/-! ### Refusal causes (Table 14-5) -/

/-- A port holds PD5 or its PHY domain ON (R219, R266). -/
def portBusy (h : Hub) (p : Nat) : Bool := [4, 5, 7].contains (h.rd (Od.PORT_STATE p))

/-- The first port of a list that satisfies a test. -/
def lowestPort (ps : List Nat) (f : Nat → Bool) : Option Nat := ps.find? f

/-- SECURITY_BUSY holds (R431). -/
def securityBusy (h : Hub) : Bool :=
  h.rd Reg.deriving == 1 || h.rd Reg.secOp == 1 || !h.keyx.isEmpty || h.rd Od.FW_STATE == 1 || h.rd Reg.rotating != 0

/-- A transaction that is validated or applied writes entries that the domain holds (R370, Table 14-5). -/
def stagedWrites (h : Hub) (d : Nat) : Bool :=
  h.odTxns.any (fun x => x.stage != 0 && x.staged.any (fun w => odDomain (w.key / 256) (w.key % 256) == d))

/-- The cause, with its DETAIL, for which a domain that is ON refuses to leave ON, or none (Table 14-5, R415). -/
def stayCause (h : Hub) (g : GroupCmd) (d : Nat) : Option (Nat × Nat) :=
  let ps := if d = 5 then List.range 18 else domainPorts d
  let slotPort := lowestPort ps (fun p => h.slotsBusy p)
  let actPort := lowestPort ps (fun p => h.portBusy p)
  let held3 := decide (h.rd Od.FREE_PD3 < odDefault Od.FREE_PD3)
  let held4 := decide (h.rd Od.FREE_PD4 < odDefault Od.FREE_PD4)
  let phy := decide (7 ≤ d ∧ d ≤ 10)
  if d = 2 ∧ !h.slots.isEmpty then some (1, 0xFF)
  else if (phy || d == 6) && slotPort.isSome then some (1, slotPort.getD 0)
  else if (phy || d == 5 || d == 6) && actPort.isSome then some (2, actPort.getD 0)
  else if d = 5 ∧ h.rd Od.QUARTZ_STATE = 1 then some (3, 0)
  else if (d = 2 ∨ d = 3) ∧ held3 then some (4, 3)
  else if (d = 2 ∨ d = 4) ∧ held4 then some (4, 4)
  else if d = 6 ∧ !([0, 5].contains (h.rd (Od.LINK_STATE 16))) then some (5, 16)
  else if d = 6 ∧ !([0, 5].contains (h.rd (Od.LINK_STATE 17))) then some (5, 17)
  else if g.barred.contains d || (d == 1 && (h.rd Reg.odOpen == 1 || h.rd Reg.committing == 1 || h.rd Reg.mailbox == 1)) || h.stagedWrites d then some (6, 0)
  else if d = 12 ∧ (h.rd Reg.mailbox = 1 ∨ h.txq.any (fun w => w.eop) = true) then some (7, 0)
  else if d = 11 ∧ h.securityBusy then some (8, 0)
  else if (d = 1 ∨ d = 11 ∨ d = 12) ∧ h.rd Od.FW_STATE = 1 then some (9, 0)
  else match h.tests.find? (fun t => t.stage != 3 && ((t.kind == 2 && d == 1) || (t.kind == 1 && bankDomain t.subject == d))) with
    | some t => some (10, t.subject)
    | none => none

/-! ### Clocks (R424) -/

/-- A domain counts toward a clock's need while it is WAKING, HELD or ON. -/
def needsClocks (h : Hub) (d : Nat) : Bool := [2, 3, 4].contains (h.dom d)

/-- The clocks that a waking domain needs and that do not run, in their starting order. -/
def clocksToStart (h : Hub) (d : Nat) : List Nat :=
  let cs := h.rd Od.CLOCK_STATE
  [1, 2, 3].filter (fun c => !hasBit cs (clockBit c) && (c != 3 || d == 6))

/-- The 400 MHz output follows PD1 and PD11 while the PLL runs. -/
def gate400 (h : Hub) : Hub :=
  h.wrBit Od.CLOCK_STATE 2 (hasBit (h.rd Od.CLOCK_STATE) 1 && (h.needsClocks 1 || h.needsClocks 11))

/-- Clocks that nothing needs stop, at the end of a command. -/
def stopClocks (h : Hub) : Hub :=
  let any := (List.range 13).any (fun d => decide (1 ≤ d) && h.needsClocks d)
  let cs := h.rd Od.CLOCK_STATE
  let cs1 := if any then cs else 0
  (h.wr Od.CLOCK_STATE (if h.needsClocks 6 then cs1 else clearBit cs1 3)).gate400

/-! ### The firmware load (R426, R446) -/

/-- A load begins: FW_STATE is LOADING, from FW_SLOT or the preferred slot (R426, R446). -/
def fwLoad (warm : Bool) (h : Hub) : Hub :=
  h.wr Od.FW_STATE 1 |>.wr Reg.fwWarm (if warm then 1 else 0) |>.wr Reg.fwTries 0
    |>.wr Reg.fwSlot (if warm then h.rd Od.FW_SLOT else h.rd Od.FW_PREFERRED)

/-- A Flint restart (R466): Flint halts and the full load runs, unless no lockstep pair is left (R480). -/
def flintRestart (h : Hub) : Hub :=
  let h1 := h.haltFlint.flintLost.refreshHalts
  let h2 := h1.dropEgress 11 18
  if h2.rd Reg.fwDead = 1 ∨ !h2.isOn 1 then h2 else h2.fwLoad false

/-! ### Commands (R408 to R422) -/

/-- DOMAIN_RESULT as bytes (Table 14-6). -/
def resultBytes (g : GroupCmd) (outcome stamp : Nat) : Nat :=
  pack [(4, g.ref), (1, outcome), (1, g.source), (1, if outcome = 3 then g.refuser else 0), (1, if outcome = 3 then g.cause else 0),
    (1, if outcome = 3 then g.detail else 0), (1, (if g.warmLost then 1 else 0) + (if g.queued then 2 else 0)), (2, 0), (4, g.queuedUs), (8, stamp)]

/-- A group command begins (R410, R420). -/
def beginGroup (ref source : Nat) (pairs : List (Nat × Nat)) (barred : List Nat) (fault : Option (Nat × Nat × Nat)) (h : Hub) : Hub :=
  let g : GroupCmd :=
    { ref := ref, source := source, todo := sortPairs pairs, changed := [], phase := 0, at_ := 0, target := 0, clocks := [],
      outcome := 1, refuser := 0, cause := 0, detail := 0, queued := false, queuedUs := 0, warmLost := false, stop := 0,
      barred := barred, fault := fault }
  ({ h with group := some g }.wr Od.DOMAIN_RESULT (resultBytes g 1 h.stamp)).inc Od.COMMANDS

/-- The next command that waits begins: a reaction's first, then a held trigger of ARMED_CMD (R421, R422, R427, R468). -/
def nextGroup (h : Hub) : Hub :=
  match h.reactCmds with
  | x :: r => { h with reactCmds := r }.beginGroup 0 3 [(1, 0)] [] (some x)
  | [] =>
    if h.rd Reg.armedHeld = 1 then
      let v := h.rd Od.ARMED_CMD
      (if byteAt v 4 = 0 then h.wr Reg.armedHeld 0
       else ((h.wr Reg.armedHeld 0).inc Od.ARMED_RUNS).beginGroup (field v 0 4) 2 (cmdPairs v) [] none)
    else h

/-- The level applied in a record becomes 4, L5 apart, and L4 alone is owed (R465): the reaction carries source 0, which has no
target. Its shadow's window runs from the stamp of the report (R475, R476). -/
def raiseToL4 (x : Nat × Nat × Nat) (h : Hub) : Hub :=
  let h1 := { h with
    log := h.log.map (fun r : LogRec => if r.seq == x.1 then { r with applied := max r.applied 4 } else r)
    unacked := h.unacked.map (fun u : Unacked => if u.seq == x.1 then { u with level := max u.level 4 } else u)
    reactions := h.reactions ++ [⟨x.1, 0, 4, 0⟩] }
  if h.now < x.2.2 + ms 1000 then h1.openShadow ⟨x.2.2, some (x.2.2 + ms 1000), x.1, h.safeCover.1, none⟩ else h1

/-- Ports suspended with cause UPSTREAM resume when an armed command ends and the upstream is no longer suspended (R427). -/
def armedResume (g : GroupCmd) (h : Hub) : Hub :=
  if g.source = 2 ∧ h.rd Reg.upSuspend = 0 then h.resumeForUpstream else h

/-- A domain enters ON at the end of a command. -/
def enterOn (d src : Nat) (h : Hub) : Hub :=
  let cold := h.rd (Reg.domOn d) = 0
  ((h.setDom d 2 src false).wr (Reg.domOn d) 1).domainUp d cold

/-- A domain enters OFF, with what it held lost. -/
def enterOff (d src : Nat) (h : Hub) : Hub := ((h.setDom d 0 src false).wr (Reg.domOn d) 0).domainLost d

/-- The command ends (R413, R414, R420, R424): on DONE the HELD domains become ON and the PARKED ones RET or OFF. -/
def endGroup (g : GroupCmd) (h : Hub) : Hub :=
  let out := if g.outcome = 1 then 2 else g.outcome
  let h1 := if out = 2 then
      g.changed.reverse.foldl (fun x c =>
        let st := x.dom c.1
        if st = 4 then x.enterOn c.1 g.source
        else if st = 6 then (if hasBit c.2 7 then x.enterOff c.1 g.source else x.setDom c.1 1 g.source false)
        else x) h
    else h
  let h2 := h1.stopClocks
  let h3 := (({ h2 with group := none }.wr Od.DOMAIN_RESULT (resultBytes g out h2.stamp)).sendDomainRecord (resultBytes g out h2.stamp)).clear [Tm.domDelay, Tm.clock]
  let h4 := if out = 3 then h3.inc Od.COMMANDS_REFUSED else if out = 4 ∨ out = 5 then h3.inc Od.COMMANDS_CANCELLED else h3
  let h5 := match g.fault with
    | some x => if out = 3 then h4.raiseToL4 x else h4
    | none => h4
  ((h5.refreshHalts).armedResume g).nextGroup

/-- The state before the command, as kept in `changed` (bit 7 marks a target of OFF). -/
def priorOf (c : Nat × Nat) : Nat := c.2 % 8

/-- The next return of a rollback begins (R419), in the reverse of visit order; after the last the command ends. -/
def rollStep (g : GroupCmd) : Nat → Hub → Hub
  | 0, h => h
  | n + 1, h =>
    match g.changed with
    | [] => h.endGroup g
    | c :: r =>
      let d := c.1
      let st := h.dom d
      let prior := priorOf c
      let g1 := { g with changed := r, phase := 4, at_ := d, target := prior }
      if st = 4 then
        let k := if prior = 0 then 1 else (domainRow d).onRet
        ({ h with group := some g1 }.setDom d 5 g.source false).arm Tm.domDelay (h.periods k)
      else if st = 6 ∧ prior = 2 then
        let h1 := h.wr Od.LEVEL_VIN (h.rd Od.LEVEL_VIN + (domainRow d).costRet)
        ({ h1 with group := some g1 }.setDom d 3 g.source false).arm Tm.domDelay (h.periods (domainRow d).retOn)
      else rollStep { g with changed := r } n (h.setDom d prior g.source true)

/-- The rollback begins. -/
def rollback (g : GroupCmd) (h : Hub) : Hub := rollStep { g with phase := 4, todo := [] } 13 (h.wr Tm.clock 0)

/-- A visit is refused (R419). -/
def refuseVisit (g : GroupCmd) (d cause detail : Nat) (h : Hub) : Hub :=
  h.rollback { g with outcome := 3, refuser := d, cause := cause, detail := detail }

/-- The visited domain begins its delay toward ON (R411, R412). -/
def startWaking (g : GroupCmd) (h : Hub) : Hub :=
  let d := g.at_
  let prior := h.dom d
  let k := if prior = 1 then (domainRow d).retOn else (domainRow d).offOn
  let g1 := { g with phase := 1, clocks := [], changed := (d, prior) :: g.changed }
  (({ h with group := some g1 }.setDom d 3 g.source false).gate400).arm Tm.domDelay (h.periods k)

/-- The next clock that the wake needs starts, or the wake goes on (R424). -/
def startClocks (g : GroupCmd) (h : Hub) : Hub :=
  match g.clocks with
  | [] => h.startWaking g
  | c :: _ =>
    let h1 := if c = 1 then h.inc Od.XO_STARTS else h
    ({ h1 with group := some { g with phase := 3 } }).arm Tm.clock (clockMax c)

/-- The wake cost of the visited domain has been released: its clocks start (R418, R424). -/
def wakeGranted (g : GroupCmd) (h : Hub) : Hub := h.startClocks { g with clocks := h.clocksToStart g.at_ }

/-- One visit (R412): a domain that need not change is passed; PARKED at once from RET goes on to the next visit. From OFF to
RET no delay and no cost is given, and the domain is PARKED at once too, with what OFF left it (log entry 13). -/
def visitN : Nat → GroupCmd → Hub → Hub
  | 0, _, h => h
  | n + 1, g, h =>
    match g.todo with
    | [] => h.endGroup g
    | (d, target) :: r =>
      let st := h.dom d
      let g1 := { g with todo := r, at_ := d, target := target }
      if st = target then visitN n g1 h
      else if st = 0 ∧ target = 1 then visitN n { g1 with changed := (d, 0) :: g1.changed } (h.setDom d 6 g.source true)
      else if target < st then
        if st = 2 then
          match h.stayCause g1 d with
          | some (cause, detail) => h.refuseVisit g1 d cause detail
          | none =>
            let g2 := { g1 with phase := 1, changed := (d, 2 + (if target = 0 then 128 else 0)) :: g1.changed }
            ((({ h with group := some g2 }.domainLeaves d).setDom d 5 g.source false).refreshHalts).arm Tm.domDelay
              (h.periods (domainRow d).onRet)
        else visitN n { g1 with changed := (d, 1 + 128) :: g1.changed } (h.setDom d 6 g.source true)
      else
        let lacks (x : Nat) : Bool := !([2, 4].contains (h.dom x))
        if d = 1 ∧ lacks 12 then h.refuseVisit g1 d 11 12
        else if d = 1 ∧ lacks 11 then h.refuseVisit g1 d 11 11
        else
          let cost := (if st = 1 then (domainRow d).costRet else (domainRow d).costOff)
            + ((h.clocksToStart d).map clockCost).foldl (· + ·) 0
          match h.askBudget 2 .domainWake d cost with
          | (.released, h1) => h1.wakeGranted g1
          | (.queued, h1) => { h1 with group := some { g1 with phase := 2, queued := true } }
          | (.busy, h1) => h1.refuseVisit g1 d 12 0
          | (.overCapacity, h1) => h1.refuseVisit g1 d 13 0

/-- The sequencer's visit at an edge (R410, R412). -/
def visit (h : Hub) : Hub :=
  match h.group with
  | none => h
  | some g =>
    if g.phase ≠ 0 ∨ !h.edge then h
    else if g.stop ≠ 0 then h.rollback { g with outcome := g.stop }
    else visitN 13 g h

/-- A queued wake entry of the command is released (R418): its wait adds to QUEUED_US. -/
def wakeReleased (e : BudgetEntry) (h : Hub) : Hub :=
  match h.group with
  | none => h
  | some g => if g.phase = 2 ∧ g.at_ = e.who then h.wakeGranted { g with queuedUs := g.queuedUs + (h.stamp - e.arrival) / 1000 } else h

/-- A queued wake entry leaves the queue with OVER_CAPACITY (R157): the visit is refused. -/
def wakeRefused (d : Nat) (h : Hub) : Hub :=
  match h.group with
  | none => h
  | some g => if g.phase = 2 ∧ g.at_ = d then h.refuseVisit g d 13 0 else h

/-- The command under way ends by rollback with an outcome (R421): at once while a wake entry waits, otherwise at the next
visit boundary; a command that already rolls back goes on. -/
def stopGroup (outcome : Nat) (h : Hub) : Hub :=
  match h.group with
  | none => h
  | some g =>
    if g.phase = 4 then h
    else if g.phase = 2 then (h.withdraw false g.at_).rollback { g with outcome := outcome }
    else { h with group := some { g with stop := outcome } }

/-- A reaction's group command is asked for (R421, R468): it preempts a command of another source. -/
def reactCommand (x : Nat × Nat × Nat) (h : Hub) : Hub :=
  let h1 := { h with reactCmds := h.reactCmds ++ [x] }
  match h1.group with
  | none => h1.nextGroup
  | some g => if g.source = 3 then h1 else h1.stopGroup 5

/-- PD1 has reached HELD: the load begins (R426). -/
def heldFlint (g : GroupCmd) (h : Hub) : Hub :=
  match g.changed with
  | (1, prior) :: _ => if h.rd Reg.fwDead = 1 then h else h.fwLoad (prior % 8 == 1 && h.rd (Reg.domOn 1) == 1)
  | _ => h

/-- The delay under way ends (R412, R419). -/
def delayEnd (h : Hub) : Hub :=
  match h.group with
  | none => h
  | some g =>
    let d := g.at_
    if g.phase = 1 then
      let h1 := if h.dom d = 3 then (h.setDom d 4 g.source true) else (h.setDom d 6 g.source true)
      let h2 := if d = 1 ∧ h1.dom 1 = 4 then h1.heldFlint g else h1
      let g1 := { g with phase := 0 }
      if g1.stop ≠ 0 then h2.rollback { g1 with outcome := g1.stop }
      else if g1.todo.isEmpty then h2.endGroup g1
      else { h2 with group := some g1 }
    else if g.phase = 4 then
      let h1 := (h.setDom d g.target g.source true)
      let h2 := if g.target = 2 then h1.domainUp d false else if g.target = 0 then (h1.wr (Reg.domOn d) 0).domainLost d else h1
      let h3 := if d = 1 ∧ g.target = 2 then (if h2.rd Reg.fwDead = 1 then h2 else h2.fwLoad true) else if d = 1 then h2.wr Od.FW_STATE 0 else h2
      rollStep g 13 h3.refreshHalts
    else h

/-- A clock that lost lock is good again while a domain needs it (R424, R425). -/
def clockBack (c : Nat) (h : Hub) : Hub :=
  if h.needsClocks 6 || (c != 3 && (List.range 13).any (fun d => decide (1 ≤ d) && h.needsClocks d)) then
    h.wrBit Od.CLOCK_STATE (clockBit c) true
  else h

/-- A clock is good (R424): its bit is set and the next start, or the wake, goes on. A clock being started is good from its shortest start
time up to its maximum. -/
def clockGood (c : Nat) (h : Hub) : Hub :=
  match h.group with
  | none => h.clockBack c
  | some g =>
    if g.phase = 3 ∧ g.clocks.head? = some c then
      if h.due Tm.clock ∨ h.now + 1 + clockMax c < h.rd Tm.clock + clockMin c then h
      else ((h.wrBit Od.CLOCK_STATE (clockBit c) true).wr Tm.clock 0).startClocks { g with clocks := g.clocks.drop 1 }
    else h.clockBack c

/-- A clock is not good by its maximum (R425): it is stopped and counted, the visit refuses and Garnet logs a CLK fault. -/
def clockFailed (h : Hub) : Hub :=
  match h.group with
  | none => h
  | some g =>
    match g.phase, g.clocks with
    | 3, c :: _ => (((h.wrBit Od.CLOCK_STATE (clockBit c) false).inc Od.CLOCK_FAILS).report 0x42 c 0).refuseVisit g g.at_ 14 c
    | _, _ => h

/-- A trigger of ARMED_CMD, bit b of TRIGGERS (R422, R427). -/
def armedTrigger (b : Nat) (h : Hub) : Hub :=
  let v := h.rd Od.ARMED_CMD
  if byteAt v 4 = 0 ∨ !hasBit (byteAt v 5) b then h
  else if h.group.isNone then (h.inc Od.ARMED_RUNS).beginGroup (field v 0 4) 2 (cmdPairs v) [] none
  else if h.rd Reg.armedHeld = 1 then h.inc Od.ARMED_DROPPED
  else h.wr Reg.armedHeld 1

/-- DOMAIN_STATES (Table 14-9): two bits a domain, any passing state reading 3. -/
def domainStates (h : Hub) : Nat :=
  (List.range 12).foldl (fun a i => a + 4 ^ i * (if h.dom (i + 1) ≤ 2 then h.dom (i + 1) else 3)) 0

end Hub
end Sys2Proof.Machine
end

