-- ==== Sys2Proof/Machine/OdCheck.lean ====
section
/-!
DEFINITION. Sys2Proof/Machine/OdCheck.lean: the range of each entry of the dictionary as one judgement (R13, R363): the map's range
of the row, and the entry's own rule of its chapter, a bound that is another entry included (R366).
-/
namespace Sys2Proof.Machine

/-- An endpoint or route entry has no reserved encoding (R310). -/
def tableEntryOk (v : Nat) : Bool :=
  let members := ((List.range 20).filter (fun p => hasBit v p)).length
  match bits v 31 30 with
  | 0 => bits v 19 0 == 0
  | 1 => decide (bits v 19 0 ≤ 19)
  | 2 => decide (1 ≤ members ∧ members ≤ 4) && !hasBit v 18 && !hasBit v 19
  | _ => decide (bits v 19 0 ≤ 511)

/-- Fields of a poll entry (Table 8-1). -/
def pollEnabled (v : Nat) : Bool := hasBit v 0
def pollSigned (v : Nat) : Bool := hasBit v 1
def pollPolicy (v : Nat) : Nat := bits v 3 2
def pollDev (v : Nat) : Nat := byteAt v 1
def pollEp (v : Nat) : Nat := byteAt v 2 % 16
def pollExp (v : Nat) : Nat := byteAt v 2 / 16
def pollSize (v : Nat) : Nat := 2 ^ (byteAt v 3 % 4)
def pollPhase (v : Nat) : Nat := field v 4 2
def pollOffset (v : Nat) : Nat := field v 6 2
def pollLenMax (v : Nat) : Nat := field v 8 2
def pollDeadband (v : Nat) : Nat := field v 12 4
def pollMask (v : Nat) : Nat := field v 16 8
def pollThreshold (v : Nat) : Nat := field v 24 8

/-- A poll entry is accepted (R250). -/
def pollEntryOk (v : Nat) : Bool :=
  bits (byteAt v 0) 7 4 == 0 && bits (byteAt v 3) 7 2 == 0 && field v 10 2 == 0
    && (!pollEnabled v
      || (decide (1 ≤ pollDev v ∧ pollDev v ≤ 254) && decide (1 ≤ pollEp v) && decide (pollPhase v < 2 ^ pollExp v)
        && decide (1 ≤ pollLenMax v ∧ pollLenMax v ≤ 512) && decide (pollOffset v + pollSize v ≤ pollLenMax v)
        && decide (pollMask v < 2 ^ (8 * pollSize v)) && (pollThreshold v == 0 || pollPolicy v == 2)))

/-- DEFAULT_CAPS keeps the rules of Table 4-10; VOLTAGE is ignored (Table 4-22). -/
def defaultCapsOk (v : Nat) : Bool :=
  let info := field v 0 4
  let n := bits info 18 16
  objKind info == 1 && decide (n ≤ 6)
    && (List.range n).all (fun i => let o := field v (4 * (i + 1)) 4; objKind o == 2 && decide (5 ≤ bits o 8 0 ∧ bits o 8 0 ≤ 400))

/-- CF_ANSWER has no reserved encoding in ACTION, TYPE, DEST or FALLBACK (R108, Table 4-13). -/
def cfAnswerOk (v : Nat) : Bool :=
  byteAt v 0 == 3
    || ([1, 2].contains (byteAt v 0) && decide (1 ≤ byteAt v 1 ∧ byteAt v 1 ≤ 15) && decide (byteAt v 2 % 4 ≤ 1)
      && [0, 6, 7].contains (byteAt v 8))

/-- A source configuration value is within range (R461, R474, R487). -/
def sourceConfigOk (id detail v : Nat) : Bool :=
  let row := sourceRow id
  decide (v % 8 ≤ (if row.fault then 5 else 1)) && !(hasBit v 7 && decide (0xA1 ≤ id) && decide (9 < detail / 2 ^ 24))

/-- A system address has no reserved part (R13, R17). -/
def sysAddrOk (v : Nat) : Bool := !(decide (0x800 ≤ bits v 23 12 ∧ bits v 23 12 ≤ 0xFFE)) && bits v 11 4 != 255

/-- UTF-8 without an interior NUL in n bytes (Table 12-1): a lead byte is followed by its continuation bytes. -/
def utf8Ok : Nat → Bytes → Bool
  | 0, _ => true
  | n + 1, bs =>
    match bs with
    | [] => true
    | b :: r =>
      let k := if b < 128 then 0 else if 194 ≤ b ∧ b < 224 then 1 else if 224 ≤ b ∧ b < 240 then 2 else if 240 ≤ b ∧ b < 245 then 3 else 4
      if k = 4 then false else (r.take k).length == k && (r.take k).all (fun c => c / 64 == 2) && utf8Ok n (r.drop k)

namespace Hub

/-- The entry's own rule of range, judged with the values that other entries hold in `at_` (R366). -/
def ownRule (at_ : Nat → Nat) (idx sub v : Nat) : Bool :=
  let n := normIndex idx
  if n = 0x2020 ∧ sub = 0x12 then decide (at_ (idx * 256 + 0x13) ≤ v)
  else if n = 0x2020 ∧ sub = 0x13 then decide (v ≤ at_ (idx * 256 + 0x12))
  else if n = 0x4200 ∧ 5 ≤ sub ∧ sub ≤ 8 then decide (at_ (idx * 256 + sub + 4) ≤ v)
  else if n = 0x4200 ∧ 9 ≤ sub ∧ sub ≤ 0x0C then decide (v ≤ at_ (idx * 256 + sub - 4))
  else if n = 0x4400 then tableEntryOk v
  else if n = 0x4500 then tableEntryOk v
  else if n = 0x5100 then pollEntryOk v
  else if n = 0x2030 ∧ sub = 0x10 then cfAnswerOk v
  else if n = 0x3800 ∧ sub = 3 then defaultCapsOk v
  else if n = 0x4000 ∧ sub = 4 then (List.range 4).all (fun c => decide (17 ≤ field v (2 * c) 2 ∧ field v (2 * c) 2 ≤ 1024))
  else if n = 0x9100 ∧ sub = 6 then (List.range 18).all (fun p => decide (1 ≤ field v (2 * p) 2))
  else if n = 0x9000 ∧ sub = 6 then
    decide (1 ≤ bits v 11 0 ∧ bits v 11 0 ≤ 0x7FF ∧ 1 ≤ byteAt v 2 ∧ byteAt v 2 ≤ 4 ∧ bits v 43 32 ≤ 0x7FF)
  else if n = 0x8000 ∧ sub = 4 then decide (byteAt v 0 ≤ 9)
  else if n = 0x7020 ∧ sub = 2 then decide (1 ≤ byteAt v 0 ∧ byteAt v 0 ≤ 12)
  else if n = 0x7010 ∧ sub = 0x0D then decide (1 ≤ byteAt v 0 ∧ byteAt v 0 ≤ 2 ∧ 1 ≤ byteAt v 1 ∧ byteAt v 1 ≤ 12)
  else if n = 0x7040 ∧ sub = 1 then decide (1 ≤ byteAt v 0 ∧ byteAt v 0 ≤ 2)
  else if n = 0x9100 ∧ sub = 1 then decide (v ≠ 0xFFFF)
  else if n = 0x9100 ∧ sub = 2 then !(at_ Od.HUB_ROLE_ACTIVE == 3 && (hasBit v 16 || hasBit v 17))
  else if n = 0x9200 then
    !hasBit v 31 || (decide (1 ≤ v % 256 ∧ v % 256 ≤ 254) && decide (1 ≤ bits v 23 8 ∧ bits v 23 8 ≤ 0xFFFE) && byteAt (at_ (Od.DEVICE sub)) 0 == 0xFF)
  else if n = 0x6000 ∧ sub = 1 then cmdOk v false
  else if n = 0x6000 ∧ sub = 5 then cmdOk v true
  else if n = 0x8000 ∧ sub = 0x16 then decide (v ≤ at_ Od.THERM_CRIT)
  else if n = 0x8000 ∧ sub = 0x17 then decide (at_ Od.THERM_WARN ≤ v)
  else if n = 0x8000 ∧ sub = 0x1A then (List.range 16).all (fun p => decide (byteAt v p ≤ 1))
  else if n = 0x8100 then sourceConfigOk sub (at_ Od.FORCE_DETAIL) v
  else if n = 0x2010 ∧ sub = 4 then indexIsTrunk idx || decide (v ≤ 3)
  else if (n = 0x4020 ∧ sub = 6) ∨ (n = 0x5000 ∧ sub = 5) ∨ (n = 0x9100 ∧ sub = 0x0C) then sysAddrOk v
  else if n = 0x1000 ∧ sub = 7 then utf8Ok 32 (toBytes 32 v)
  else true

/-- A value is within the range of its entry (R13, R363). -/
def rangeOk (at_ : Nat → Nat) (k v : Nat) : Bool :=
  match odRow (k / 256) (k % 256) with
  | none => false
  | some r => odInRange r v && ownRule at_ (k / 256) (k % 256) v

/-- The entry of a register-write command takes the value: 0 OK, or 1 NO_ENTRY, 6 OUT_OF_RANGE, or 8 DOMAIN_NOT_ON (R363, R366). -/
def writeCode (h : Hub) (k v : Nat) : Nat :=
  if (odRow (k / 256) (k % 256)).isNone then 1
  else if !rangeOk h.rd k v then 6
  else if odDomain (k / 256) (k % 256) ≠ 0 ∧ !h.isOn (odDomain (k / 256) (k % 256)) then 8
  else 0

/-- The outcome of a register write, coded as Table 12-6 (R13, R363). -/
def wrote (code : Nat) (h : Hub) : Hub := h.emit (.writeResult code)

/-- An RWC entry keeps the value last written to it (R354). -/
def keep (k v : Nat) (h : Hub) : Hub :=
  match odRow (k / 256) (k % 256) with
  | some r => if r.acc = .rwc then h.wr k (odStore r v) else h
  | none => h

/-- A register write judged with a code: its effect and the outcome OK, or the refusal alone (R13, R354, R364). -/
def judged (code k v : Nat) (f : Hub → Hub) (h : Hub) : Hub := if code = 0 then (f (h.keep k v)).wrote 0 else h.wrote code

/-- A register write under the checks that all entries share (R13, R364). -/
def writing (k v : Nat) (f : Hub → Hub) (h : Hub) : Hub := h.judged (h.writeCode k v) k v f

end Hub
end Sys2Proof.Machine
end

