-- ==== Sys2Proof/Machine/NvOps.lean ====
section
/-!
DEFINITION. Sys2Proof/Machine/NvOps.lean: the non-volatile array and the flash as shared operations: the two copies of a region and
their choice (R374 to R378, R438, R483), the configuration's records, and the verification and load of firmware (R426,
R444 to R446).
-/
namespace Sys2Proof.Machine

/-- Indexes of the dictionary, ascending. -/
def odIndexes : List Nat := (List.range 0xA001).filter odIndexExists

/-- The keys of the SAVED entries, in ascending order of index and subindex (R373, R374). -/
def savedKeys : List Nat :=
  odIndexes.flatMap (fun idx =>
    (List.range (highestSub idx + 1)).filterMap (fun sub =>
      match odRow idx sub with
      | none => none
      | some r => if odSaved idx sub r then some (idx * 256 + sub) else none))

/-- The part of a value that a copy stores: of a source configuration only LEVEL (R487, R540). -/
def savedPart (k v : Nat) : Nat := if k / 256 = 0x8100 then v % 8 else v

/-- Bytes of a record: six and the value; a string takes its own length (R374). -/
def recordBytes (k v : Nat) : Nat :=
  6 + (match odRow (k / 256) (k % 256) with
    | some r => if r.ty = .str then (toBytes 32 v).reverse.dropWhile (· == 0) |>.length else r.size
    | none => 0)

/-- The status a check finds at start-up: that of the copy as the model holds it, unless the array has damaged it (R376). -/
def foundStatus (held found : Nat) : Nat := if held = 0 then found else if found = 0 then held else found

/-- The SEQ field as read: all 1s in an erased copy (R374, R376). -/
def seqRead (status seq : Nat) : Nat := if status = 1 then 0xFFFFFFFF else seq

/-- The choice of R377 between two copies, by their statuses and sequence numbers. -/
def chooseCopy (sa qa sb qb : Nat) : Nat :=
  if sa = 0 ∧ sb = 0 then (if newer 32 qb qa then 2 else 1) else if sa = 0 then 1 else if sb = 0 then 2 else 0

namespace Hub

/-- A copy of the array; one that was never written is BLANK. -/
def copyOf (h : Hub) (id : Nat) : NvCopy :=
  (h.nv.find? (fun c => c.id == id)).getD ⟨id, 1, 0, [], RepairMap.factory⟩

/-- Puts a copy in the array. -/
def putCopy (c : NvCopy) (h : Hub) : Hub := { h with nv := putBy NvCopy.id c h.nv }

/-- Both configuration copies are erased, each counted once (R375, R454, Table 12-11). -/
def eraseCopies (h : Hub) : Hub :=
  { h with nv := dropBy NvCopy.id 1 (dropBy NvCopy.id 0 h.nv) }.inc Od.WRITES_A |>.inc Od.WRITES_B
    |>.wr Od.COPY_A_STATUS 1 |>.wr Od.COPY_B_STATUS 1 |>.wr Od.COPY_A_SEQ 0xFFFFFFFF |>.wr Od.COPY_B_SEQ 0xFFFFFFFF

/-- ATTACH_PREF of a trunk, whose default follows from the role (Table 1-6). -/
def roleDefault (k : Nat) : Bool := k == Od.ATTACH_PREF 16 || k == Od.ATTACH_PREF 17

/-- The default of an entry under the role in force: PREFER_SOURCE for a trunk of a MANAGER or a FABRIC_NODE (R33, Table 1-6). -/
def defaultOf (h : Hub) (k : Nat) : Nat := if roleDefault k && (h.role == 1 || h.role == 2) then 2 else odDefault k

/-- The records that a save writes: the SAVED entries' live values, those at a default that no role changes left implicit (log
entry 14). -/
def savedRecords (h : Hub) : List (Nat × Nat) :=
  savedKeys.filterMap (fun k => if h.rd k = odDefault k && !roleDefault k then none else some (k, savedPart k (h.rd k)))

/-- The records of the configuration copy in use; none where the store is FACTORY (R373). -/
def storedRecords (h : Hub) : List (Nat × Nat) :=
  if h.rd Od.STORE_STATE = 1 then (h.copyOf 0).records else if h.rd Od.STORE_STATE = 2 then (h.copyOf 1).records else []

/-- Bytes of records in a save. -/
def savedLength (h : Hub) : Nat := (savedKeys.map (fun k => recordBytes k (h.rd k))).foldl (· + ·) 0

/-- One stored record applied as a start-up value, or skipped (R378). -/
def loadRecord (h : Hub) (c : Nat × Nat) : Hub :=
  match odRow (c.1 / 256) (c.1 % 256) with
  | none => h.inc Od.ENTRIES_SKIPPED 16
  | some r => if odSaved (c.1 / 256) (c.1 % 256) r && rangeOk h.rd c.1 c.2 then h.wr c.1 c.2 else h.inc Od.ENTRIES_SKIPPED 16

/-- The chosen copy's records are applied in order (R378): the counts, and one event when any was skipped. -/
def loadConfig (records : List (Nat × Nat)) (h : Hub) : Hub :=
  let h1 := records.foldl loadRecord h
  let skipped := h1.rd Od.ENTRIES_SKIPPED
  let h2 := h1.wr Od.ENTRIES_LOADED (savedKeys.length - skipped)
  if skipped = 0 then h2 else h2.report 0x73 skipped 0

/-- The configuration copy is chosen at start-up and its records applied (R377, R378); `a` and `b` are what the checks of the two
copies find. -/
def chooseConfig (a b : Nat) (h : Hub) : Hub :=
  let ca := h.copyOf 0
  let cb := h.copyOf 1
  let sa := foundStatus ca.status a
  let sb := foundStatus cb.status b
  let h1 := (h.wr Od.COPY_A_STATUS sa |>.wr Od.COPY_B_STATUS sb |>.wr Od.COPY_A_SEQ (seqRead sa ca.seq)
    |>.wr Od.COPY_B_SEQ (seqRead sb cb.seq)).putCopy
    { ca with status := sa }
  let h2 := h1.putCopy { cb with status := sb }
  let take := chooseCopy sa ca.seq sb cb.seq
  let c := if take = 2 then cb else ca
  let h3 := h2.wr Od.STORE_STATE take
  if take = 0 then h3.report 0x72 0 0
  else
    let h4 := if sa ≠ 0 then h3.report 0x71 0 0 else if sb ≠ 0 then h3.report 0x71 1 0 else h3
    let h5 := (h4.wr Od.SEQ_IN_USE c.seq).loadConfig c.records
    h5.wr Od.STORE_USED (52 + h5.savedLength)

/-- The entries that the security region keeps (R438, R494). -/
def securityKeys : List Nat := (List.range 12).map (fun i => Od.KEY_SLOT (i + 1)) ++ [Od.FW_PREFERRED, Od.ENDORSE_REQUIRED, Od.RESET_COUNT]

/-- The security region is saved (R438): the copy not in use is written and becomes the copy in use. -/
def saveSecurity (h : Hub) : Hub :=
  let target := if h.rd Reg.secCopy = 1 then 2 else 1
  let cur := h.copyOf (if h.rd Reg.secCopy = 2 then 3 else 2)
  let seq := if h.rd Reg.secCopy = 0 then 1 else (cur.seq + 1) % 2 ^ 32
  (h.putCopy ⟨target + 1, 0, seq, securityKeys.map (fun k => (k, h.rd k)), RepairMap.factory⟩).wr Reg.secCopy target

/-- OWNER_DIGEST is H of the twelve slot records (R437). -/
def refreshOwner (h : Hub) : Hub :=
  h.wr Od.OWNER_DIGEST (Config.sha256 ((List.range 12).flatMap (fun i => toBytes 36 (h.rd (Od.KEY_SLOT (i + 1))))))

/-- An owner slot is ACTIVE (R434, R437). -/
def owned (h : Hub) : Bool := (List.range 4).any (fun i => byteAt (h.rd (Od.KEY_SLOT (i + 1))) 0 == 1)

/-- SEC_STATE follows the slots while no transfer is pending (R434). -/
def refreshSecState (h : Hub) : Hub := h.refreshOwner.wr Od.SEC_STATE (if h.owned then 1 else 0)

/-- The security-region copy is chosen at start-up (R438, R494); `a` and `b` are what the checks of its copies find. A hub as
delivered holds no slot, and its region reads as its defaults. -/
def chooseSecurity (a b : Nat) (h : Hub) : Hub :=
  let ca := h.copyOf 2
  let cb := h.copyOf 3
  let take := chooseCopy (foundStatus ca.status a) ca.seq (foundStatus cb.status b) cb.seq
  let blank := (h.nv.find? (fun c => c.id == 2 || c.id == 3)).isNone
  let c := if take = 2 then cb else ca
  let h1 := if take = 0 then (if blank && a == 0 && b == 0 then h else (h.clear securityKeys).report 0x62 0 0)
    else c.records.foldl (fun x r => x.wr r.1 r.2) h
  (h1.wr Reg.secCopy take).refreshSecState

/-- The repair map is saved (R483): the copy not in use is written with the map in force. -/
def storeRepair (h : Hub) : Hub :=
  let target := if h.rd Od.REPAIR_STORE = 1 then 2 else 1
  (h.putCopy ⟨target + 3, 0, h.repair.seq, [], h.repair⟩).wr Od.REPAIR_STORE target

/-- The repair-map copy is chosen at start-up (R483, R494): with neither copy valid the factory map is applied, and the fault is
raised when a copy had been written. -/
def chooseRepair (a b : Nat) (h : Hub) : Hub :=
  let ca := h.copyOf 4
  let cb := h.copyOf 5
  let take := chooseCopy (foundStatus ca.status a) ca.seq (foundStatus cb.status b) cb.seq
  let blank := (h.nv.find? (fun c => c.id == 4 || c.id == 5)).isNone
  let c := if take = 2 then cb else ca
  let h1 := { h with repair := if take = 0 then RepairMap.factory else c.map }.wr Od.REPAIR_STORE take
  if take = 0 ∧ !(blank && a == 0 && b == 0) then h1.report 0x74 0 0 else h1

/-! ### Firmware -/

/-- A block of 512 bytes of a flash slot (R444). -/
def flashBlock (h : Hub) (slot i : Nat) : Nat := (h.flash.lookup (slot * 1024 + i)).getD (Config.flashAtMake (slot * 1024 + i))

/-- A block of the flash written (R444): the blocks stand by strictly rising address, each once, so that equal flashes are equal lists. -/
def flashPut : List (Nat × Nat) → Nat → Nat → List (Nat × Nat)
  | [], a, v => [(a, v)]
  | (b, w) :: r, a, v => if a < b then (a, v) :: (b, w) :: r else if a = b then (a, v) :: r else (b, w) :: flashPut r a v

/-- The canonical form of the flash: strictly rising addresses. A block that stands in no entry is as delivered (log entry 6). -/
def flashWf (l : List (Nat × Nat)) : Prop := (l.map Prod.fst).Pairwise (· < ·)

/-- Writes a block of a flash slot. -/
def putFlash (slot i v : Nat) (h : Hub) : Hub := { h with flash := flashPut h.flash (slot * 1024 + i) v }

/-- CODE_LENGTH bytes of code of a slot, after its header (R444). -/
def codeBytes (h : Hub) (slot : Nat) : Bytes :=
  let len := field (h.flashBlock slot 0) 12 4
  ((List.range (ceilDiv len 512)).flatMap (fun i => toBytes 512 (h.flashBlock slot (i + 1)))).take len

/-- H of a slot's code. -/
def codeDigest (h : Hub) (slot : Nat) : Nat := Config.sha256 (h.codeBytes slot)

/-- The hash equals that of an ACTIVE Owner slot (R445). -/
def ownerHash (h : Hub) (d : Nat) : Bool :=
  (List.range 4).any (fun i => byteAt (h.rd (Od.KEY_SLOT (i + 1))) 0 == 1 && field (h.rd (Od.KEY_SLOT (i + 1))) 4 32 == d)

/-- The verification of an image (R445): 0, or the code of the first check that fails. -/
def fwVerdict (h : Hub) (slot : Nat) : Nat :=
  let x := h.flashBlock slot 0
  let len := field x 12 4
  let signer := field x 48 64
  let endorser := field x 176 64
  if !(field x 0 4 == 0x31574659 && byteAt x 9 / 2 == 0 && field x 10 2 == 0 && field x 304 208 == 0 && decide (1 ≤ len ∧ len ≤ 491520)) then 4
  else if !(Config.sha256 (toBytes 64 signer) == h.rd Od.FW_ROOT_HASH
      && Config.ecdsaVerify signer (toBytes 32 (Config.sha256 (toBytes 112 x))) (field x 112 64)) then 5
  else if byteAt x 8 < h.rd Od.MIN_SVN then 6
  else if h.codeDigest slot ≠ field x 16 32 then 7
  else if h.rd Od.ENDORSE_REQUIRED = 1 ∧ !(hasBit (byteAt x 9) 0 && h.ownerHash (Config.sha256 (toBytes 64 endorser))
      && Config.ecdsaVerify endorser (toBytes 32 (Config.sha256 (toBytes 176 x))) (field x 240 64)) then 8
  else 0

/-- The image of a slot runs: FW_STATE is RUNNING, and a core test's shadow closes (R426, Table 16-5). -/
def fwRuns (slot : Nat) (h : Hub) : Hub :=
  let x := h.flashBlock slot 0
  { h with shadows := h.shadows.filter (fun s => s.test != some (2, 0)) }.wr Od.FW_STATE 2 |>.wr Od.FW_SLOT slot
    |>.wr Od.FW_VERSION (field x 4 4) |>.wr Od.FW_SVN (byteAt x 8) |>.wr Od.FW_DIGEST (field x 16 32)

/-- WARM_LOST of the command that woke PD1 (R426): in the command under way, or in the last result. -/
def warmLost (h : Hub) : Hub :=
  match h.group with
  | some g => { h with group := some { g with warmLost := true } }
  | none => h.wr Od.DOMAIN_RESULT (putField (h.rd Od.DOMAIN_RESULT) 9 1 (setBit (byteAt (h.rd Od.DOMAIN_RESULT) 9) 0))

/-- A firmware load ends (R426, R446): a warm load resumes on a digest match and loads in full on a mismatch; a full load that
fails is followed by the other slot, and when both fail FW_STATE stays NOT_LOADED. -/
def fwLoaded (h : Hub) : Hub :=
  if h.rd Od.FW_STATE ≠ 1 then h
  else
    let slot := h.rd Reg.fwSlot
    if h.rd Reg.fwWarm = 1 then
      if h.codeDigest slot = h.rd Od.FW_DIGEST then h.fwRuns slot
      else h.warmLost.flintLost.fwLoad false
    else
      let code := h.fwVerdict slot
      if code = 0 then
        let h1 := h.fwRuns slot
        if h1.rd Reg.fwTries = 0 then h1 else (h1.wr Od.FW_PREFERRED slot).saveSecurity
      else
        let h0 := { h with shadows := h.shadows.filter (fun s => s.test != some (2, 0)) }
        let h1 := ((h0.wr Od.FW_STATE 0 |>.wr Od.FW_LAST_FAIL code).inc Od.FW_LOAD_FAILS).report 0x61 (code + 256 * slot) 0
        if h1.rd Reg.fwTries = 0 then h1.wr Od.FW_STATE 1 |>.wr Reg.fwTries 1 |>.wr Reg.fwSlot (1 - slot) else h1

end Hub
end Sys2Proof.Machine
end

