-- ==== Sys2Proof/Machine/GarnetOps.lean ====
section
/-!
DEFINITION. Sys2Proof/Machine/GarnetOps.lean: the reactions that reports leave owed (R464 to R471): block resets, power-off, the safe
state and the full reset, and the end of a self-test.
-/
namespace Sys2Proof.Machine

namespace Hub

/-- What a Granite reset clears as PD2 does after OFF (R467, Table 14-2): tables, epochs, reach sets and ring. -/
def graniteContents (h : Hub) : Hub :=
  let h1 := ({ h with ring := [] }.wipe 0x440000 0x460400).wipe (Reg.live 0) (Reg.live 0x1000000)
  ((h1.wr Od.EPOCH_LIVE 0 |>.wr Od.EPOCH_DRAINING (odDefault Od.EPOCH_DRAINING) |>.wr Od.DRAIN_COUNT 0 |>.wr Od.DRAIN_PORTS 0
    |>.wr Od.RING_WRITTEN 0).wipeIndex 0x9020).clear [Tm.publish]

/-- A Granite reset (R467): every copy is dropped as DOMAIN_NOT_ON, the free lists are rebuilt, every split slot ends ABORTED,
and the tables, epochs, reach sets and ring are cleared. -/
def graniteReset (h : Hub) : Hub :=
  let h1 := (List.range 21).foldl (fun x p => x.dropEgress 11 p) h
  let h2 := h1.wr Od.FREE_PD3 (odDefault Od.FREE_PD3) |>.wr Od.FREE_PD4 (odDefault Od.FREE_PD4)
    |>.wr (Reg.allocNext 0) 0 |>.wr (Reg.allocNext 1) 0
  let h3 := (List.range 18).foldl (fun x p => x.abortSlots p) h2
  h3.graniteContents.refreshEpochs

/-- Entry to the safe state (R469): the stamp of a first entry, and every powered port of policy OFF turned off. -/
def safeState (h : Hub) : Hub :=
  let h1 := if h.rd Od.SAFE_STATE = 1 then h else h.wr Od.SAFE_STATE 1 |>.wr Od.SAFE_TIME h.stamp
  (List.range 16).foldl (fun x p =>
    if byteAt (x.rd Od.FAILSAFE_POLICY) p = 1 then x.trip p 10 (x.rd (Od.IBUS_MA p)) false else x) h1

/-- A reaction on a port (Table 16-4): at L2 a hub-engine port that is ENABLED, SUSPENDED or RESUMING moves to RESETTING; L3
includes that and then turns the cable power off; a trunk's link trains again or is reset. -/
def portReaction (p level : Nat) (h : Hub) : Hub :=
  if p < 16 then
    let h1 := if [5, 6, 7].contains (h.rd (Od.PORT_STATE p)) then h.enterResetting p else h
    if 3 ≤ level then h1.trip p 10 (h1.rd (Od.IBUS_MA p)) false else h1
  else if h.trunkResets p then
    if h.rd (Od.LINK_CLASS p) = 4 then (if h.rd (Od.LINK_STATE p) = 4 then h.retrainLink p else h)
    else if [5, 6, 7].contains (h.rd (Od.PORT_STATE p)) then h.enterResetting p
    else h.resetLink p
  else h

/-- A reaction on Flint (Table 16-4, R466): a restart at L2, which a core test under way carries out at its own end; at L3 and
above the group command that takes PD1 OFF, in place of the restart, whose load would hold PD1 ON (log entry 15). -/
def flintReaction (x : Reaction) (h : Hub) : Hub :=
  if x.level = 2 then (if h.underTest 2 0 then h else h.flintRestart)
  else h.reactCommand (x.seq, x.source, h.now)

/-- One reaction (R464, R465, R471): its target's action, the safe state at L4 and above, and the full reset of L5 due 1 ms on. -/
def react (x : Reaction) (h : Hub) : Hub :=
  let target := (sourceRow x.source).target
  let h1 := match target with
    | .none => h
    | .port => h.portReaction (x.detail % 256) x.level
    | .flint => h.flintReaction x
    | .granite => h.graniteReset
  let h2 := if 4 ≤ x.level ∨ (x.level = 3 ∧ target = .granite) then h1.safeState else h1
  if x.level = 5 ∧ !h2.running Tm.l5 then h2.arm Tm.l5 (ms 1) else h2

/-- The reactions owed run in the order of their records (R468). -/
def settleN : Nat → Hub → Hub
  | 0, h => h
  | n + 1, h =>
    match h.reactions with
    | [] => h
    | x :: r => settleN n ({ h with reactions := r }.react x)

/-- An ACTIVE TS link is told of halts that have changed, by STATUS, and of credit that has advanced, by CREDIT (R203, R204, R290). -/
def announceOn (h : Hub) (p : Nat) : Hub :=
  if h.rd (Od.LINK_STATE p) ≠ 4 ∨ h.rd (Od.LINK_CLASS p) ≠ 4 then h
  else
    let h1 := if h.rd (Reg.statusTold p) = h.statusPayload + 1 then h
      else ((h.sendLink p 5 h.statusPayload).wr (Reg.statusTold p) (h.statusPayload + 1)).arm (Tm.status p) (ms 100)
    let h2 := h1.advanceCredit p
    if h2.rd (Reg.creditTold p) = h2.creditPayload p + 1 then h2
    else ((h2.sendLink p 1 (h2.creditPayload p)).wr (Reg.creditTold p) (h2.creditPayload p + 1)).arm (Tm.credit p) (us 100)

/-- Both trunks are told. -/
def announce (h : Hub) : Hub := (h.announceOn 16).announceOn 17

/-- A core test has halted Flint: every path that needs PD1 acts as if PD1 were not ON, and what only Flint held is lost (R466, R480). -/
def haltedFlint (h : Hub) : Hub := if h.underTest 2 0 then h.flintLost.refreshHalts.dropEgress 11 18 else h

/-- What a command leaves owed: its reactions, the records that waited for the manager's path, and the frames that tell the far ends of
TS links of changes (R110, R203, R204, R230, R463, R468; log entry 4). -/
def settle (h : Hub) : Hub := ((settleN 64 h).haltedFlint.pathUp).announce

/-- DETAIL of a test's records: as its parent (Table 16-1). -/
def testDetail (t : SelfTest) : Nat := if t.kind = 1 then t.subject + 65536 * t.cell else if t.kind = 2 then 0 else t.subject

/-- A self-test ends (R477): its shadow closes, that of a core test apart (Table 16-5), and a bank test that waited for the domain starts. -/
def endTest (kind subject : Nat) (h : Hub) : Hub :=
  let left := h.tests.filter (fun t => !(t.kind == kind && t.subject == subject))
  let h1 := { h with tests := left, shadows := h.shadows.filter (fun s => kind == 2 || s.test != some (kind, subject)) }
  if kind ≠ 1 then h1
  else
    let d := bankDomain subject
    if left.any (fun t => t.kind == 1 && bankDomain t.subject == d && t.stage != 0) then h1
    else match left.find? (fun t => t.kind == 1 && bankDomain t.subject == d), h1.freeSpares d with
      | some t, s :: _ =>
        { h1 with
          tests := left.map (fun u : SelfTest => if u.kind == 1 && u.subject == t.subject then { u with stage := 1, spare := s } else u),
          shadows := h1.shadows.map (fun w : Shadow =>
            if w.test = some (1, t.subject) then { w with covers := w.covers ++ [.low 0x01 s, .low 0x02 s] } else w) }
      | _, _ => h1

/-- A bank test that waited ends NOT_RUN, and its cell is fenced (R479). -/
def dropTest (h : Hub) (t : SelfTest) : Hub :=
  let h1 := { h with
    tests := h.tests.filter (fun u => !(u.kind == 1 && u.subject == t.subject)),
    shadows := h.shadows.filter (fun s => s.test != some (1, t.subject)) }
  ((h1.childReport 0xA1 t.cls t.parent (testDetail t) 3).childReport 0xA3 t.cls t.parent t.subject 0).fenceOrWait t.subject t.cell

/-- The tests that waited for a spare of the domain, when none is free any more and none runs there (R478, R479). -/
def dropWaiting (d : Nat) (h : Hub) : Hub :=
  if (h.freeSpares d).isEmpty && !h.tests.any (fun t => t.kind == 1 && bankDomain t.subject == d && t.stage != 0) then
    (h.tests.filter (fun t => t.kind == 1 && bankDomain t.subject == d && t.stage == 0)).foldl dropTest h
  else h

/-- The verdict of a test: its TEST_VERDICT record and its counter, 1 TRANSIENT or 2 LASTING (R477, Table 16-14). -/
def verdict (t : SelfTest) (v : Nat) (h : Hub) : Hub :=
  (h.childReport 0xA1 t.cls t.parent (testDetail t) v).inc (if v = 1 then Od.TESTS_TRANSIENT else Od.TESTS_LASTING)

/-- The errors of a port that LINK_ERROR_BURST counts together (R460). -/
def burstSum (h : Hub) (p : Nat) : Nat := h.rd (Od.RX_CRC_ERR p) + h.rd (Od.RX_PID_ERR p) + h.rd (Od.RX_CODE_ERR p)

/-- A new burst window begins once the timebase has left the last one (R460). -/
def rollBurst (h : Hub) : Hub :=
  let w := h.timebase / ms (h.rd Od.BURST_WINDOW) + 1
  if h.rd Reg.burstWin = w then h
  else (List.range 18).foldl (fun x p => x.wr (Reg.burstBase p) (x.burstSum p) |>.wr (Reg.burstFired p) 0) (h.wr Reg.burstWin w)

/-- An error of a port's link is counted; the count that reaches BURST_COUNT in its window fires LINK_ERROR_BURST once (R460). -/
def linkError (p key : Nat) (h : Hub) : Hub :=
  let h1 := h.rollBurst.inc key
  if h1.rd Od.BURST_COUNT ≤ h1.burstSum p - h1.rd (Reg.burstBase p) ∧ h1.rd (Reg.burstFired p) = 0 then
    (h1.wr (Reg.burstFired p) 1).report 0x11 p 0
  else h1

end Hub
end Sys2Proof.Machine
end

