-- ==== Sys2Proof/Machine/BootOps.lean ====
section
/-!
DEFINITION. Sys2Proof/Machine/BootOps.lean: resets and start-up as shared operations (R489 to R501): what a full reset keeps, the
power die's hold and its records, the stages of Table 17-3, and the release of the ports.
-/
namespace Sys2Proof.Machine

/-- The cells that every full reset keeps: Bedrock's retained part beside the log (R489), and the non-volatile values (R489, R491).
The real-time counter and the timebase's value are among them, and so is the count of free values. -/
def retainedKeys : List Nat :=
  [Od.RESET_CAUSE, Od.BOOT_STAGE, Od.BOOT_TIME, Od.PORTS_ADOPTED, Od.LAST_RESET_TIME, Od.POWER_DIE_RESETS, Od.UPSTREAM_READY_TIME,
   Od.BROWNOUTS, Od.LOG_WRITTEN, Reg.mgrSent, Reg.evqDelivered, Reg.rtcStart, Reg.tbBase, Reg.tbAt]

/-- The cells in non-volatile memory, which POWER_ON keeps too; the free values' count is the model's own (log entry 2). -/
def nvKeys : List Nat := [Od.MIN_SVN, Od.WRITES_A, Od.WRITES_B, Reg.freeNext, Reg.zeroMark]

/-- Copies the named cells of one hub into another. -/
def copyCells (src : Hub) : List Nat → Hub → Hub
  | [], h => h
  | k :: r, h => copyCells src r (h.wr k (src.rd k))

namespace Hub

/-- The hold record of a downstream port as the power die has it when hold begins (Table 17-4); a port in INRUSH or MOVING is
aborted (R496). -/
def holdRecord (h : Hub) (p : Nat) : HoldRec :=
  let st := h.rd (Od.POWER_STATE p)
  let moving := st == 2 || st == 4
  { port := p, attached := h.isSource p, orient := h.rd (Od.ORIENTATION p) % 4, power := if st = 3 then 3 else 0,
    offCause := if moving then 11 else h.rd (Od.POWER_OFF_CAUSE p), rail := h.rd (Reg.rail p), limit := h.limitInForce p,
    state := h.rd (Od.CONTRACT_STATE p), inForce := h.rd (Reg.inForce p), cRail := h.rd (Od.CONTRACT_RAIL p),
    cOp := h.rd (Od.CONTRACT_OP_CURRENT p), cLimit := h.rd (Od.CONTRACT_LIMIT p), cfs := h.rd (Od.CFS_STATE p),
    alt := h.rd (Od.ALT_STATE p), altParams := h.rd (Reg.altParams p), tx0 := h.rd (Reg.txId p 0), tx1 := h.rd (Reg.txId p 1),
    rx0 := h.rd (Reg.rxLast p 0), rx1 := h.rd (Reg.rxLast p 1), event := if moving then 3 else 0, peak := 0, opens := moving }

/-- The power die opens the pairs of a held port and enables discharge (R496). -/
def holdOpen (p : Nat) (h : Hub) : Hub := (h.emit (.powerDie p .openPairs)).emit (.powerDie p (.discharge true))

/-- The power die enters hold (R496): the records stand as last updated, ports in INRUSH or MOVING are aborted. A power die that
is already in hold stays so. -/
def enterHold (src : Hub) (h : Hub) : Hub :=
  if src.rd Reg.hold = 1 then { h with holds := src.holds }.wr Reg.hold 1
  else
    let rs := (List.range 16).map (fun p => src.holdRecord p)
    (rs.foldl (fun (x : Hub) (r : HoldRec) => if r.opens then (x.holdOpen r.port).emit (.powerDie r.port .hold) else x.emit (.powerDie r.port .hold))
      { h with holds := rs }).wr Reg.hold 1

/-- A full reset with a cause of Table 17-2 (R490 to R492): what R489 and the non-volatile array keep, everything else at its default;
the power die holds its ports. After POWER_ON the log is empty and the counters start at 0. -/
def fullReset (cause : Nat) (h : Hub) : Hub :=
  let base : Hub := { Hub.reset with now := h.now, out := h.out, nv := h.nv, flash := h.flash }
  let h1 := copyCells h nvKeys base
  let h2 :=
    if cause = 1 then h1.wr Reg.rtcStart h.now |>.wr Reg.tbAt h.now
    else
      let x := copyCells h retainedKeys { h1 with log := h.log }
      let y := x.wr Reg.evqQueued (h.rd Reg.evqDelivered)
      if h.isOn 5 then y.wr Reg.tbBase h.timebase |>.wr Reg.tbAt h.now else y
  let h3 := enterHold h h2
  let h4 := h3.wr Od.RESET_CAUSE cause |>.wr Od.BOOT_STAGE 0 |>.wr Reg.resetAt (h.now + 1)
  let h5 := if cause = 2 then h4.inc Od.BROWNOUTS else h4
  (h5.arm Tm.lfStart (ms 2000)).wr Od.LF_SOURCE 1

/-- FULL_RESET takes effect: 10 ms after its write, and after the copies being written (R492). -/
def commandReset (h : Hub) : Hub :=
  if h.due Tm.fullReset && h.saving.isNone && !h.running Tm.repairSave then h.fullReset 4 else h

/-- A domain comes ON in the reset sequence (R493, R495): its cost joins LEVEL_VIN at once, and its record reads source 0 and a
count of 1. -/
def bootOn (d : Nat) (h : Hub) : Hub :=
  let h1 := h.wr Od.LEVEL_VIN (h.rd Od.LEVEL_VIN + (domainRow d).costOff)
  let h2 := (h1.wr (Od.DOMAIN_RECORD d) (pack [(1, 2), (1, 0), (2, 0), (4, 1), (8, h1.stamp)])).wr (Reg.domOn d) 1
  h2.domainUp d true

/-- A clock starts in the reset sequence (R493). -/
def bootClock (c : Nat) (h : Hub) : Hub :=
  (h.wrBit Od.CLOCK_STATE (clockBit c) true).wr Od.LEVEL_VIN (h.rd Od.LEVEL_VIN + clockCost c)

/-- The identity is derived (R432): DEVICE_PUBKEY is valid and SECURITY_BUSY of it ends. -/
def derived (h : Hub) : Hub := (h.wr Od.DEVICE_PUBKEY Config.devicePubkey).clear [Reg.deriving, Tm.derive]

/-- Steps 2 to 4 of R454 (R494): session and link keys are gone with the reset; the slots empty, ENDORSE_REQUIRED is 0 and both
configuration copies are erased, each counted once. -/
def finishZeroise (h : Hub) : Hub :=
  let pref := h.rd Od.FW_PREFERRED
  let h1 := ((h.clear ((List.range 12).map (fun i => Od.KEY_SLOT (i + 1)))).clear [Od.ENDORSE_REQUIRED]).wr Od.FW_PREFERRED pref
  let h2 := h1.eraseCopies
  (h2.wr Reg.zeroMark 0).refreshSecState.saveSecurity

/-- What the checks of the six copies find at start-up (R376): statuses of the configuration, security and repair copies. -/
structure Found where
  cfgA : Nat
  cfgB : Nat
  secA : Nat
  secB : Nat
  mapA : Nat
  mapB : Nat

/-- The work of stage ARRAY (R494). -/
def bootArray (f : Found) (h : Hub) : Hub :=
  let h1 := h.chooseSecurity f.secA f.secB
  let h2 := if h1.rd Reg.zeroMark = 1 then h1.finishZeroise else h1
  ((h2.chooseRepair f.mapA f.mapB).inc Od.RESET_COUNT).saveSecurity

/-- The trunks' ATTACH_PREF where the configuration holds none: that of the role (R33, Table 1-6). -/
def rolePrefs (h : Hub) : Hub :=
  [16, 17].foldl (fun x p =>
    let y := if (x.storedRecords.lookup (Od.ATTACH_PREF p)).isSome then x else x.wr (Od.ATTACH_PREF p) (x.defaultOf (Od.ATTACH_PREF p))
    y.wr (Od.ATTACH_PREF_ACTIVE p) (y.rd (Od.ATTACH_PREF p))) h

/-- The role of R31 and the other start-up values that follow from the configuration (R31, R33, R76, R326). -/
def bootRole (h : Hub) : Hub :=
  let r := h.rd Od.HUB_ROLE
  let h1 := (h.wr Od.HUB_ROLE_ACTIVE r).rolePrefs
  let h2 := if r = 2 then h1.wr Od.HUB_ID (h1.rd Od.FABRIC_NODE_ID) else h1
  if r = 1 ∨ r = 2 then h2.wr Od.HUB_ID_ASSIGNED 1 else h2

/-- The end of stage DOMAINS (R493, R495): PD2 to PD10 come ON with the trunk reference; the timebase restarts, at 0 after POWER_ON,
and the reset is stamped on it. -/
def bootDomains (h : Hub) : Hub :=
  let h1 := if h.rd Od.RESET_CAUSE = 1 then h.wr Reg.tbBase 0 |>.wr Reg.tbAt h.now else h
  let resetStamp := if h.rd Od.RESET_CAUSE = 1 then 0
    else (h.rd Reg.tbBase + elapsedPeriods (h.rd Reg.resetAt - 1 - h.rd Reg.tbAt)) % 2 ^ 64
  let h2 := [2, 3, 4, 5].foldl (fun x d => x.bootOn d) h1
  let h3 := [6, 7, 8, 9, 10].foldl (fun x d => x.bootOn d) (h2.bootClock 3)
  ((List.range 18).foldl (fun x p => x.wr (Reg.hourWin p) (hourOf x.stamp)) h3).wr Od.LAST_RESET_TIME resetStamp

/-- The delays that a stage takes at least, in periods P: the PLL's start, and its domains' delays from OFF (R493, Tables 14-4 and 14-7). -/
def bootDelay (s : Nat) : Nat :=
  match s with
  | 2 => 2
  | 3 => 6
  | 4 => 4
  | 7 => 42
  | _ => 0

/-- The next stage begins. -/
def toStage (s : Nat) (h : Hub) : Hub := (h.wr Od.BOOT_STAGE s).arm Tm.bootStage (h.periods (bootDelay s))

/-- A start-up stage completes, and the next begins (Table 17-3), once the stage's own delays are over. Stage 5 ends when the load has ended, with NO_FIRMWARE when both
slots failed; stage 8 ends by the power die's answer. -/
def bootStage (f : Found) (h : Hub) : Hub :=
  let stage (s : Nat) (x : Hub) : Hub := x.toStage s
  if h.running Tm.bootStage ∧ !h.due Tm.bootStage then h
  else match h.rd Od.BOOT_STAGE with
  | 0 => stage 1 (h.wr Reg.resetAt (h.now + 1))
  | 1 => stage 2 (h.inc Od.XO_STARTS)
  | 2 => stage 3 ((((h.bootClock 1).bootClock 2).bootOn 12).bootOn 11).gate400
  | 3 => stage 4 ((if h.rd Reg.deriving = 1 then h.derived else h).bootOn 1)
  | 4 => stage 5 ((h.bootArray f).fwLoad false)
  | 5 => if h.rd Od.FW_STATE = 2 then stage 6 h else if h.rd Od.FW_STATE = 0 then stage 10 h else h
  | 6 => stage 7 (h.chooseConfig f.cfgA f.cfgB).bootRole
  | 7 => stage 8 h.bootDomains
  | _ => h

/-- A held record and what the wire reads let the port be adopted (R499). -/
def adopts (r : HoldRec) (rd : Bool) : Bool := r.attached && r.power == 3 && r.event == 0 && rd

/-- An adopted port (R499). -/
def adoptPort (r : HoldRec) (h : Hub) : Hub :=
  let p := r.port
  let h1 := h.wr (Od.ATTACH_STATE p) 4 |>.wr (Od.ATTACH_TIME p) h.stamp |>.wr (Od.ORIENTATION p) r.orient |>.wr (Od.CF_LEVEL p) 2
    |>.wr (Od.PROBE_RESULT p) 1 |>.wr (Od.POWER_STATE p) 3 |>.wr (Reg.rail p) r.rail
  let h2 := h1.wr (Reg.txId p 0) r.tx0 |>.wr (Reg.txId p 1) r.tx1 |>.wr (Reg.rxLast p 0) r.rx0 |>.wr (Reg.rxLast p 1) r.rx1
  let h3 :=
    if r.inForce = 1 then
      (h2.wr (Reg.inForce p) 1 |>.wr (Od.CONTRACT_RAIL p) r.cRail |>.wr (Od.CONTRACT_OP_CURRENT p) r.cOp
        |>.wr (Od.CONTRACT_LIMIT p) r.cLimit |>.wr (Reg.capsSent p) 1).contractState p 5
    else (h2.contractState p 1).arm (Tm.firstCaps p) (ms 45)
  let h4 := (h3.refreshLimit p).wr (Od.CFS_STATE p) r.cfs |>.wr (Od.ALT_STATE p) r.alt |>.wr (Reg.altParams p) r.altParams
  let h5 := h4.movePort p 1 0
  let h6 := if r.alt = 0 then h5.enterDisconnected p else h5.movePort p 3 2
  h6.wr Od.PORTS_ADOPTED (setBit (h6.rd Od.PORTS_ADOPTED) p)

/-- A port that is not adopted (R499): powered when hold began, it is turned off with its cause; a trip is logged at the release
with VALUE 1, and HARD_RESET goes to a far end that is still attached. -/
def refusePort (r : HoldRec) (rd : Bool) (h : Hub) : Hub :=
  let p := r.port
  let wasPowered := r.power == 3 || r.event != 0
  let cause := if r.event = 2 ∨ r.event = 3 then r.offCause else 5
  let h1 :=
    if wasPowered then
      let x := (h.wr (Od.POWER_STATE p) 5 |>.wr (Od.POWER_OFF_CAUSE p) cause |>.wr (Reg.discharge p) 1).arm (Tm.discharge p) (ms 475)
      if r.opens then x else x.holdOpen p
    else h
  let h2 :=
    if r.event = 2 then
      let x := h1.wr (Od.TRIP_PEAK_MA p) r.peak
      let y := if rd && r.attached then
        (((x.emit (.hardReset p)).inc (Od.HARD_RESETS_TX p)).wr (Od.HARD_RESET_CAUSE p) 3).cfRecord p 8 0 3 [] else x
      y.report 0x21 (p + 256 * cause) 1
    else h1
  h2.enterUnattached p

/-- Entry to READY (R499): the power die is released from hold, each downstream port is adopted or starts from UNATTACHED, and so do
the trunks. `rd` has bit n set where the message wire of Dn reads the Rd band. -/
def enterReady (rd : Nat) (h : Hub) : Hub :=
  let h1 := h.wr Od.BOOT_STAGE 9 |>.wr Od.BOOT_TIME ((h.now + 1 - h.rd Reg.resetAt) / 1000 % 2 ^ 32) |>.wr Od.PORTS_ADOPTED 0
    |>.wr Reg.hold 0
  let h2 := (List.range 16).foldl (fun x p =>
    let y := x.emit (.powerDie p .release)
    match h.holds.find? (fun r => r.port == p) with
    | none => y.enterUnattached p
    | some r => if adopts r (hasBit rd p) then y.adoptPort r else y.refusePort r (hasBit rd p)) { h1 with holds := [] }
  (h2.enterUnattached 16).enterUnattached 17

/-- A protective action of the power die on a held port (R23, R496, Table 17-4): the first event stands. -/
def holdTrip (p cause peak : Nat) (h : Hub) : Hub :=
  match h.holds.find? (fun r => r.port == p) with
  | none => h
  | some r =>
    if r.power = 3 ∧ r.event = 0 then
      { h with holds := putBy HoldRec.port { r with event := 2, offCause := cause, peak := peak, opens := true } h.holds }.holdOpen p
    else h

/-- A held port's message wire has read open since `opened` (R496): the power die acts once tDetach is complete. -/
def holdDetach (p opened : Nat) (h : Hub) : Hub :=
  match h.holds.find? (fun r => r.port == p) with
  | none => h
  | some r =>
    if decide (opened + ms 9 ≤ h.now) && r.attached && r.power == 3 && r.event == 0 then
      { h with holds := putBy HoldRec.port { r with event := 1, opens := true } h.holds }.holdOpen p
    else h

/-- The ports are released (R63, R499). -/
def ready (h : Hub) : Bool := h.rd Od.BOOT_STAGE == 9

end Hub
end Sys2Proof.Machine
end

