-- ==== Sys2Proof/Machine/Act.lean ====
section
/-!
DEFINITION. Sys2Proof/Machine/Act.lean: the frame every meaning runs in.
-/
namespace Sys2Proof.Machine

/-- What exec answers. -/
abbrev Out := Host.Outcome State Fault Refusal

/-- The hub as a command of stamp t finds it: its clock stands at the stamp (R18). -/
def State.arrive (s : State) (t : Stamp) : Hub := s.toHub.advance t

/-- The state after a command whose own effects leave the hub h: what those effects owe is settled, and the queue stays. -/
def State.settled (s : State) (h : Hub) : State := { toHub := h.settle, pending := s.pending }

/-- A command: the hub's clock advances to its stamp, the command's effects follow, then the reactions it owes. -/
def act (t : Stamp) (s : State) (f : Hub → Hub) : Out := .next (s.settled (f (s.arrive t)))

end Sys2Proof.Machine
end

