-- ==== Sys2Proof/Machine/Attach.lean ====
section
/-!
DEFINITION. Sys2Proof/Machine/Attach.lean: watching, classifying, attaching and detaching a port (chapter 3, R66 to R80).
-/
namespace Sys2Proof.Machine

namespace Hub

/-- An event of the attach state machine: the ports are released and the power die is not in hold (R63, R496, R499). -/
def live (f : Hub → Hub) (h : Hub) : Hub := if h.ready && h.rd Reg.hold == 0 then f h else h

/-- tCandidateBackoff runs (R68). -/
def backingOff (h : Hub) (p : Nat) : Bool := h.running (Tm.backoff p) && !h.due (Tm.backoff p)

/-- One sample of a CF wire under SNIFF: the consecutive candidate samples of that wire (R67). -/
def countCandidate (p w mv : Nat) (h : Hub) : Hub :=
  if mv < 1000 ∧ h.rd (Reg.excluded p w) = 0 then h.inc (Reg.candidate p w) else h.wr (Reg.candidate p w) 0

/-- A sample of both wires under SNIFF (R67). -/
def watchSample (p v1 v2 : Nat) (h : Hub) : Hub :=
  if h.backingOff p then h.clear [Reg.candidate p 0, Reg.candidate p 1]
  else
    let h1 := (h.countCandidate p 0 v1).countCandidate p 1 v2
    if 2 ≤ h1.rd (Reg.candidate p 0) ∨ 2 ≤ h1.rd (Reg.candidate p 1) then h1.enterWaitSource p else h1

/-- A wire classified Rd now reads open. -/
def lostRd (h : Hub) (p a b : Nat) : Bool :=
  (h.rd (Reg.classA p) == 1 && a == 0) || (h.rd (Reg.classB p) == 1 && b == 0)

/-- The wire that alone reads Rd: 1 CF1, 2 CF2, 0 none. -/
def rdWire (a b : Nat) : Nat := if a = 1 ∧ b ≠ 1 then 1 else if b = 1 ∧ a ≠ 1 then 2 else 0

/-- A sample of both wires in stage 3 of R70. A sample whose Rd stands on the other wire is a different classification too
(log entry 61). -/
def stageSample (p v1 v2 : Nat) (h : Hub) : Hub :=
  let a := cfBand v1
  let b := cfBand v2
  if h.lostRd p a b then (h.setClasses p a b).candidateFail p
  else if cfConfig a b = h.rd (Od.CF_CONFIG p) ∧ rdWire a b = rdWire (h.rd (Reg.classA p)) (h.rd (Reg.classB p)) then h
  else (h.setClasses p a b).arm (Tm.debounce p) (ms 145)

/-- A sample in TRY_SOURCE (R72): tTryDebounce runs while Rd stays on one wire, whatever the other reads. -/
def trySample (p v1 v2 : Nat) (h : Hub) : Hub :=
  let w := rdWire (cfBand v1) (cfBand v2)
  let held := w == rdWire (h.rd (Reg.classA p)) (h.rd (Reg.classB p)) && h.running (Tm.tryDebounce p)
  let h1 := h.setClasses p (cfBand v1) (cfBand v2)
  if w = 0 then h1.stop (Tm.tryDebounce p) else if held then h1 else h1.arm (Tm.tryDebounce p) (ms 9)

/-- tSniffSample has passed since the sample before (R67, R98). -/
def sniffDue (h : Hub) (p : Nat) : Bool := decide (h.rd (Reg.sniffAt p) = 0 ∨ h.rd (Reg.sniffAt p) + us 950 ≤ h.now + 1)

/-- A sample at tSniffSample (R67, R70, R72). -/
def takeSample (p v1 v2 : Nat) (h : Hub) : Hub :=
  let h1 := (h.wires p v1 v2).wr (Reg.sniffAt p) (h.now + 1)
  let s := h1.rd (Od.ATTACH_STATE p)
  if s = 0 ∧ h1.rd (Od.CF_LEVEL p) = 1 then h1.watchSample p v1 v2
  else if s = 1 ∧ h1.rd (Reg.stage p) = 3 then h1.stageSample p v1 v2
  else if s = 2 then h1.trySample p v1 v2
  else h1

/-- The two wires are read; what comes before tSniffSample is no sample (R67, R98). -/
def sniff (p v1 v2 : Nat) (h : Hub) : Hub := if h.sniffDue p then h.takeSample p v1 v2 else h

/-- A stage of 2 ms ends (R70): v is the reading of its wire in mV. -/
def stageEnd (p v : Nat) (h : Hub) : Hub :=
  h.expire (Tm.stage p) (fun x =>
    let w := x.rd (Od.CF_WIRE_MV p)
    if x.rd (Reg.stage p) = 1 then
      ((x.wires p v w).wr (Reg.classA p) (cfBand v) |>.wr (Reg.stage p) 2).arm (Tm.stage p) (ms 2)
    else if x.rd (Reg.stage p) = 2 then
      (((x.wires p (w / 65536) v).setClasses p (x.rd (Reg.classA p)) (cfBand v)).wr (Reg.stage p) 3).arm (Tm.debounce p) (ms 145)
    else x)

/-- R73 forbids TRY_SOURCE: the port left a source state less than tTryBlock ago. -/
def tryBlocked (h : Hub) (p : Nat) : Bool :=
  h.rd (Reg.lastSource p) != 0 && decide (h.now + 1 < h.rd (Reg.lastSource p) + ms 380)

/-- Entry to TRY_SOURCE (R72). -/
def enterTrySource (p : Nat) (h : Hub) : Hub :=
  ((h.attachClear p).wr (Od.ATTACH_STATE p) 2 |>.wr (Od.CF_LEVEL p) 2).arm (Tm.try p) (ms 75)

/-- The classification has held for tAttachDebounce (R70). -/
def classified (p : Nat) (h : Hub) : Hub :=
  match h.rd (Od.CF_CONFIG p) with
  | 1 => h.attachSource p
  | 2 => h.attachSource p
  | 5 => h.faultLock p 2
  | _ => h.candidateFail p

/-- A source has been present for tAttachDebounce (R70, R72, R73). -/
def sourceHeld (p : Nat) (h : Hub) : Hub :=
  if h.rd (Od.ATTACH_STATE p) = 1 ∧ h.rd (Od.ATTACH_PREF_ACTIVE p) = 2 ∧ h.tryBlocked p = false then h.enterTrySource p
  else h.attachSink p

/-- tAttachDebounce has passed (R70, R72). -/
def debounced (p : Nat) (h : Hub) : Hub :=
  h.expire (Tm.debounce p) (fun x =>
    let s := x.rd (Od.ATTACH_STATE p)
    if s = 1 ∧ x.rd (Reg.attachAs p) = 1 then x.classified p
    else if s = 1 ∨ s = 3 then x.sourceHeld p
    else x)

/-- The recheck of an excluded wire under PERMIT (R68). -/
def recheck (p w mv : Nat) (h : Hub) : Hub :=
  if h.rd (Reg.excluded p w) = 1 ∧ cfBand mv = 0 then
    let h1 := h.wr (Reg.excluded p w) 0
    if h1.rd (Od.CF_CONFIG p) = 4 then h1.wr (Od.CF_CONFIG p) 0 else h1
  else h

/-- tCandidateBackoff has passed (R68). -/
def backoffEnd (p v1 v2 : Nat) (h : Hub) : Hub :=
  h.expire (Tm.backoff p) (fun x => if x.rd (Od.ATTACH_STATE p) = 0 then (x.recheck p 0 v1).recheck p 1 v2 else x)

/-- A toggle phase ends (R71). -/
def toggleEnd (p : Nat) (h : Hub) : Hub :=
  h.expire (Tm.toggle p) (fun x =>
    if x.rd (Od.ATTACH_STATE p) = 0 then x.togglePhase p (if x.rd (Reg.toggle p) = 1 then 2 else 1) else x)

/-- Rd has held for tTryDebounce (R72). -/
def tryDebounced (p : Nat) (h : Hub) : Hub :=
  h.expire (Tm.tryDebounce p) (fun x => if x.rd (Od.ATTACH_STATE p) = 2 then x.attachSource p else x)

/-- tTry has passed (R72). -/
def tryEnd (p : Nat) (h : Hub) : Hub :=
  h.expire (Tm.try p) (fun x =>
    if x.rd (Od.ATTACH_STATE p) = 2 then
      ((x.attachClear p).wr (Od.ATTACH_STATE p) 3 |>.wr (Od.CF_LEVEL p) 4).arm (Tm.tryWait p) (ms 450)
    else x)

/-- tTryWait has passed (R72). -/
def tryWaitEnd (p : Nat) (h : Hub) : Hub :=
  h.expire (Tm.tryWait p) (fun x => if x.rd (Od.ATTACH_STATE p) = 3 then x.enterUnattached p else x)

/-- The message wire has read open, or the source has been absent, since `opened` (R74): the port detaches once tDetach is complete. After
an abort of R121 the detach waits until VBUS has fallen below 5 V. -/
def detached (p opened : Nat) (h : Hub) : Hub :=
  if !h.attached p || decide (h.openTime p opened < ms 9) then h
  else if h.rd (Reg.detachDone p) ≠ 0 ∧ h.rd (Od.POWER_STATE p) = 5 then h.wr (Reg.detachDone p) 2
  else h.detachNow p

/-- A CF wire stands at this voltage or above since an instant: above 6.0 V for tCfOver it is in overvoltage (R66, R75, R98). -/
def overvoltage (p mv since : Nat) (h : Hub) : Hub :=
  if h.rd (Od.ATTACH_STATE p) = 6 ∨ mv ≤ 6000 ∨ h.now < since + us 900 then h else h.faultLock p 1

/-- A write of 1 to ATTACH_RELEASE (R75). -/
def attachRelease (p : Nat) (h : Hub) : Hub :=
  h.judged (if h.rd (Od.ATTACH_STATE p) = 6 then 0 else 7) (Od.ATTACH_RELEASE p) 1 (Hub.unlock p)

/-- The voltage across the port's own Rd, in mV (Table 3-3, R70 to R72). -/
def sourceSeen (p mv : Nat) (h : Hub) : Hub :=
  let s := h.rd (Od.ATTACH_STATE p)
  if 600 ≤ mv then
    if s = 0 ∧ h.rd (Od.CF_LEVEL p) = 4 then h.enterWaitSink p
    else if s = 3 ∧ h.running (Tm.debounce p) = false then h.arm (Tm.debounce p) (ms 145)
    else h
  else if s = 1 ∧ h.rd (Reg.attachAs p) = 2 then h.enterUnattached p
  else if s = 3 then h.stop (Tm.debounce p)
  else h

/-- Rd seen in the source phase of a dual-role port (R71); candidates are ignored during a backoff (R68). -/
def rdSeen (p v1 v2 : Nat) (h : Hub) : Hub :=
  let h1 := h.wires p v1 v2
  if h1.rd (Od.ATTACH_STATE p) = 0 ∧ h1.rd (Reg.toggle p) = 1 ∧ h1.backingOff p = false ∧ (cfBand v1 = 1 ∨ cfBand v2 = 1) then
    h1.enterWaitSource p
  else h1

end Hub

/-- SNIFF_SAMPLE (R67): the two wires in mV. -/
def execSniffSample (t : Stamp) (p : Cable) (cf1 cf2 : BitVec 16) (s : State) : Out :=
  act t s (Hub.live (fun h => h.sniff p cf1.toNat cf2.toNat))

/-- CLASSIFY_STAGE_END (R70). -/
def execClassifyStageEnd (t : Stamp) (p : Cable) (v : BitVec 16) (s : State) : Out := act t s (Hub.live (fun h => h.stageEnd p v.toNat))

/-- ATTACH_DEBOUNCE_DONE (R70). -/
def execAttachDebounceDone (t : Stamp) (p : Cable) (s : State) : Out := act t s (Hub.live (fun h => h.debounced p))

/-- CANDIDATE_BACKOFF_END (R68): the two wires under PERMIT, in mV. -/
def execCandidateBackoffEnd (t : Stamp) (p : Cable) (cf1 cf2 : BitVec 16) (s : State) : Out :=
  act t s (Hub.live (fun h => h.backoffEnd p cf1.toNat cf2.toNat))

/-- TOGGLE_PHASE_END (R71). -/
def execTogglePhaseEnd (t : Stamp) (p : Cable) (s : State) : Out := act t s (Hub.live (fun h => h.toggleEnd p))

/-- TRY_DEBOUNCE_DONE (R72). -/
def execTryDebounceDone (t : Stamp) (p : Cable) (s : State) : Out := act t s (Hub.live (fun h => h.tryDebounced p))

/-- TRY_TIMEOUT (R72). -/
def execTryTimeout (t : Stamp) (p : Cable) (s : State) : Out := act t s (Hub.live (fun h => h.tryEnd p))

/-- TRY_WAIT_TIMEOUT (R72). -/
def execTryWaitTimeout (t : Stamp) (p : Cable) (s : State) : Out := act t s (Hub.live (fun h => h.tryWaitEnd p))

/-- DETACH (R74): the stamp from which the message wire reads open, or the source is absent, without another reading in between. -/
def execDetach (t : Stamp) (p : Cable) (opened : Stamp) (s : State) : Out := act t s (Hub.live (fun h => h.detached p opened))

/-- CF_OVERVOLTAGE (R75): the lowest reading of the wire in mV since a stamp. -/
def execCfOvervoltage (t : Stamp) (p : Cable) (mv : BitVec 16) (since : Stamp) (s : State) : Out :=
  act t s (Hub.live (fun h => h.overvoltage p mv.toNat since))

/-- ATTACH_RELEASE (R75). -/
def execAttachRelease (t : Stamp) (p : Cable) (s : State) : Out := act t s (fun h => h.attachRelease p)

/-- SOURCE_PRESENT (R70): the voltage across the port's own Rd in mV. -/
def execSourcePresent (t : Stamp) (p : Cable) (v : BitVec 16) (s : State) : Out := act t s (Hub.live (fun h => h.sourceSeen p v.toNat))

/-- RD_SEEN (R71): the two wires in mV. -/
def execRdSeen (t : Stamp) (p : Cable) (cf1 cf2 : BitVec 16) (s : State) : Out :=
  act t s (Hub.live (fun h => h.rdSeen p cf1.toNat cf2.toNat))

end Sys2Proof.Machine
end

