-- ==== Sys2Proof/Machine/Boot.lean ====
section
/-!
DEFINITION. Sys2Proof/Machine/Boot.lean: resets and start-up (chapter 17, R489 to R503).
-/
namespace Sys2Proof.Machine

namespace Hub

/-- The crystal has given 1,024 edges while the RC oscillator stands in for it after a reset (R493): 31.25 ms of them at least, and within
2 s. -/
def crystalGood (h : Hub) : Hub :=
  if h.rd Od.LF_SOURCE = 1 ∧ h.running Tm.lfStart = true ∧ h.due Tm.lfStart = false ∧ h.rd Tm.lfStart + 31250000 ≤ h.now + 1 + ms 2000 then h.wr Od.LF_SOURCE 0 |>.wr Tm.lfStart 0 else h

/-- The crystal is not good within 2 s of the reset: the RC oscillator stays in use (R493). -/
def crystalLate (h : Hub) : Hub := h.expire Tm.lfStart (fun x => if x.rd Od.LF_SOURCE = 1 then x.report 0x41 0 0 else x)

/-- The power die passes its lockout (R500): every pair opens, every CF termination is released and its hold records are gone. -/
def vauxLost (h : Hub) : Hub :=
  (List.range 16).foldl (fun x p => x.emit (.powerDie p .openPairs)) ({ h with holds := [] }.wr Reg.hold 0)

/-- What the power die's reset means for an attached port (R500). -/
def portDieReset (p : Nat) (h : Hub) : Hub :=
  if h.attached p then
    let on := h.powered p
    let h1 := ((h.detachEffects p 2).countFlap p).wr (Od.CF_CONFIG p) 0
    if on then h1.wr (Od.POWER_OFF_CAUSE p) 12 else h1
  else h

/-- The die link returns with a report of the power die's reset (R500); every port starts from UNATTACHED. -/
def dieReset (h : Hub) : Hub :=
  let at_ := if h.rd Reg.dieLost = 1 then h.rd Reg.dieLostAt else h.stamp
  let h1 := (h.wr Reg.dieLost 0).inc Od.POWER_DIE_RESETS
  if h.ready then
    let h2 := (List.range 18).foldl (fun x p => x.portDieReset p) (h1.wr Reg.stampAs (at_ + 1))
    (List.range 18).foldl (fun x p => (x.wr (Od.FAULT_LOCK_CAUSE p) 0).enterUnattached p) (h2.wr Reg.stampAs 0)
  else h1

/-- The presence pull-up on trunk port p (R173, R501); the first one after a reset is stamped. -/
def pullUp (p : Nat) (h : Hub) : Hub :=
  if h.role ≠ 1 ∧ h.flintOn = true ∧ h.rd (Od.ATTACH_STATE p) = 5 ∧ h.rd (Od.PULLUP p) = 0 then
    let h1 := h.applyPull p
    if h1.rd Reg.upReady = 0 then h1.wr Reg.upReady 1 |>.wr Od.UPSTREAM_READY_TIME h1.stamp else h1
  else h

end Hub

/-- VIN rises from below retention. -/
def execVinPowerOn (t : Stamp) (s : State) : Out := act t s (Hub.fullReset 1)

/-- VIN has stayed below the brownout threshold for the filter time. -/
def execBrownout (t : Stamp) (s : State) : Out := act t s (Hub.fullReset 2)

/-- RST_N has been low for 10 µs. -/
def execRstNReset (t : Stamp) (s : State) : Out := act t s (Hub.fullReset 3)

/-- A start-up stage completes; what the checks of the six copies found (Table 12-9) counts in stages ARRAY and CONFIG. -/
def execBootStageComplete (t : Stamp) (cfgA cfgB secA secB mapA mapB : Fin 8) (s : State) : Out :=
  act t s (Hub.bootStage ⟨cfgA, cfgB, secA, secB, mapA, mapB⟩)

/-- The crystal has given 1,024 edges. -/
def execLfCrystalGood (t : Stamp) (s : State) : Out := act t s Hub.crystalGood

/-- 2 s after a reset without the crystal. -/
def execLfCrystalStartTimeout (t : Stamp) (s : State) : Out := act t s Hub.crystalLate

/-- A held port's message wire has read open since a stamp, for tDetach. -/
def execHoldDetach (t : Stamp) (p : Dn) (opened : Stamp) (s : State) : Out :=
  act t s (fun h => if h.rd Reg.hold = 1 then h.holdDetach p opened else h)

/-- The power die answers on the die link; bit n says that the message wire of Dn reads the Rd band. -/
def execPowerDieAnswer (t : Stamp) (wires : BitVec 16) (s : State) : Out :=
  act t s (fun h => if h.rd Od.BOOT_STAGE = 8 then h.enterReady wires.toNat else h)

/-- VAUX falls through its lockout. -/
def execVauxLockout (t : Stamp) (s : State) : Out := act t s Hub.vauxLost

/-- The power die reports its reset. -/
def execPowerDieResetReport (t : Stamp) (s : State) : Out := act t s Hub.dieReset

/-- tPullup has passed on a trunk. -/
def execUpstreamPullup (t : Stamp) (u : Trunk) (s : State) : Out := act t s (Hub.live (Hub.pullUp (16 + u)))

end Sys2Proof.Machine
end

