-- ==== Sys2Proof/Machine/Cf.lean ====
section
/-!
DEFINITION. Sys2Proof/Machine/Cf.lean: CF messages on the wire (chapter 3, R81 to R97).
-/
namespace Sys2Proof.Machine

namespace Hub

/-- The default offer starts, if it waits and the wire allows (R95, R114). -/
def pumpOffer (p : Nat) (busy : Bool) (h : Hub) : Hub :=
  if h.rd (Reg.offerPending p) = 1 ∧ h.wireIdle p busy = true ∧ h.exchangeOpen p = false ∧ h.attached p = true then
    if h.rd (Od.CF_LEVEL p) = levelPermit then (h.applyHold p).arm (Tm.holdLead p) (ms 20)
    else if h.running (Tm.holdLead p) && !h.due (Tm.holdLead p) then h
    else (h.wr (Tm.holdLead p) 0).startOffer p
  else h

/-- The wire of a port has become idle: what waited for it starts, HARD_RESET first (R88, R95, R109, R111). -/
def wireFree (p : Nat) (h : Hub) : Hub :=
  (((h.flushHardReset p).pumpAns p false).pumpOffer p false).tryStartNew p false

/-- The wire of a port is idle, and the voltage on the hub's own Rd reads so many mV: what waits for it starts, as sink only with PERMIT
(R94, R111). -/
def wireStart (p mv : Nat) (h : Hub) : Hub :=
  (((h.flushHardReset p).pumpAns p false).pumpOffer p false).startPending p false (h.permitRead p mv)

/-- tSinkRequest has passed with no REQUEST (R112, Table 4-15). -/
def noRequest (p : Nat) (h : Hub) : Hub := ((h.toPrior p).cfRecord p 10 0 0 []).endOwn p

/-- tResponse has passed with no answer (R104). -/
def noAnswer (p : Nat) (h : Hub) : Hub :=
  let own := h.rd (Reg.exOwn p)
  if own = 15 then h.orderHardReset p 6 false false
  else if own = 0 then (h.asWait p 4).endExchange p
  else ((h.wr (Reg.altWant p) 0).asWait p (own - 1)).endOwn p

/-- tReadyWait has passed (R104, R130): the former supplier reports the swap as undone, the new one has sent no READY, and a sink sends
HARD_RESET. -/
def noReady (p : Nat) (h : Hub) : Hub :=
  if h.rd (Reg.cfsSwap p) = 2 then ((h.dropSwap p).cfRecord p 7 0 (h.rd (Od.CONTRACT_STATE p)) []).endExchange p
  else if h.rd (Reg.cfsSwap p) = 1 then (h.dropSwap p).endExchange p
  else if h.isSink p && h.rd (Od.CONTRACT_STATE p) == 4 then h.orderHardReset p 6 false false
  else h

/-- The waits of R104 that have expired at an instant `by` or before take effect: each is judged at the preamble start of the message that
would end it. -/
def waitsEnd (p by_ : Nat) (h : Hub) : Hub :=
  let gone (x : Hub) (k : Nat) (f : Hub → Hub) : Hub := if x.rd k ≠ 0 ∧ x.rd k ≤ by_ + 1 then f (x.wr k 0) else x
  gone (gone (gone h (Tm.response p) (noAnswer p)) (Tm.readyWait p) (noReady p)) (Tm.sinkRequest p) (noRequest p)

/-- A message of the wire has ended (R85 to R96). A wait that expired before its preamble ends first; one that expired during it ends now,
unless the message was the answer (R104). -/
def messageIn (p header : Nat) (objs : List Nat) (crc pre : Nat) (h : Hub) : Hub :=
  if h.attached p then ((((h.hear p).waitsEnd p pre).receiveCf p header objs crc pre).waitsEnd p h.now).wireFree p
  else h.receiveCf p header objs crc pre

/-- A GOOD_ACK from the far end or the tag (R90, R91); a sink ignores DEST = TAG (R87). -/
def goodAckIn (p id : Nat) (tag : Bool) (h : Hub) : Hub :=
  if h.attached p then
    let h1 := h.hear p
    if h.isSink p && tag then h1
    else ((h1.takeGoodAck p (mkHeader 0 id (1 - h.ownRole p) (if tag then 1 else 0) 0)).waitsEnd p h.now).wireFree p
  else h.inc (Od.CF_RX_DISCARDED p)

/-- One retry of the message in flight (R91): the same message again. -/
def resend (x : CfTx) (h : Hub) : Hub :=
  (h.inc (Od.CF_TX_RETRIES x.port)).putOnWire { x with tries := x.tries + 1 }

/-- A sink that finds HOLD before a retry of a new exchange's message abandons it as answered WAIT (R94, R96, R97). -/
def abandon (x : CfTx) (h : Hub) : Hub :=
  let p := x.port
  let h1 := { h with cfTx := dropBy CfTx.port p h.cfTx }.cfRecordAt p 4 x.header 0 x.objs (min x.last h.stamp)
  let h2 := if fromManager x.why then h1.answerResult p 3 else h1
  (h2.asWait p (hdrType x.header)).endOwn p

/-- The message in flight is one that begins an exchange. -/
def beginsExchange (x : CfTx) : Bool :=
  match x.why with
  | .newExchange | .defaultOffer => true
  | _ => false

/-- tReceive has passed with no GOOD_ACK (R91). While the far end transmits, the retry waits for the wire; a sink retries under PERMIT
alone, by the voltage across its own Rd in mV, and abandons an exchange that finds HOLD (R94). -/
def receiveTimeout (p mv : Nat) (busy : Bool) (h : Hub) : Hub :=
  if busy || !h.due (Tm.receive p) then h
  else
    let h1 := h.wr (Tm.receive p) 0
    match h1.txOf p with
    | none => h1
    | some x =>
      if h1.rd (Reg.hrWaiting p) ≠ 0 then h1.flushHardReset p
      else if 2 ≤ x.tries then (h1.lostMessage x).wireFree p
      else if h1.isSink p && !h1.levelSettled p then h
      else if h1.isSink p && !h1.permitRead p mv && beginsExchange x then (h1.abandon x).wireFree p
      else h1.resend x

/-- HARD_RESET is recognised (R88, R124): a waiting one of the hub's own is superseded and lends its cause. -/
def hardResetIn (p : Nat) (h : Hub) : Hub :=
  if !h.attached p then h
  else
    let own := h.rd (Reg.hrWaiting p)
    let h1 := h.inc (Od.HARD_RESETS_RX p)
    if own = 0 then h1.hardResetEffects p 1
    else
      let h2 := if h1.rd (Reg.hrOrdered p) = 1 then (h1.cfRecord p 3 0 4 []).answerResult p 3 else h1.cfRecord p 8 0 own []
      (h2.clear [Reg.hrWaiting p, Reg.hrOrdered p]).hardResetEffects p own

/-- tHoldLead has passed (R95): the preamble of the hub's exchange starts, unless the wire is not idle. -/
def holdLeadEnd (p : Nat) (busy : Bool) (h : Hub) : Hub :=
  if h.due (Tm.holdLead p) then (h.pumpOffer p busy).tryStartNew p busy else h

/-- The wait-and-retry time of a message type has passed (R97). -/
def waitRetryEnd (p type : Nat) (busy : Bool) (h : Hub) : Hub := h.expire (Tm.waitRetry p type) (fun x => (x.pumpAns p busy).tryStartNew p busy)

end Hub

/-- CF_MESSAGE_RECEIVED (R85 to R96): header, data objects and CRC-32 as on the wire, and the stamp of the preamble start. -/
def execCfMessageReceived (t : Stamp) (p : Cable) (header : BitVec 16) (objs : List Word) (crc : Word) (pre : Stamp) (s : State) : Out :=
  act t s (Hub.live (fun h => h.messageIn p header.toNat (objs.map (fun o : Word => o.toNat)) crc.toNat pre))

/-- GOOD_ACK_RECEIVED (R91): the MSG_ID of a GOOD_ACK, and whether the cable tag sent it. -/
def execGoodAckReceived (t : Stamp) (p : Cable) (id : Fin 8) (tag : Bool) (s : State) : Out :=
  act t s (Hub.live (fun h => h.goodAckIn p id tag))

/-- CF_RECEIVE_TIMEOUT (R91): the voltage across the hub's own Rd in mV, where it is the sink. -/
def execCfReceiveTimeout (t : Stamp) (p : Cable) (mv : BitVec 16) (busy : Bool) (s : State) : Out :=
  act t s (Hub.live (fun h => h.receiveTimeout p mv.toNat busy))

/-- HARD_RESET_RECEIVED (R88). -/
def execHardResetReceived (t : Stamp) (p : Cable) (s : State) : Out := act t s (Hub.live (fun h => h.hardResetIn p))

/-- HOLD_LEAD_EXPIRY (R95). -/
def execHoldLeadExpiry (t : Stamp) (p : Cable) (busy : Bool) (s : State) : Out := act t s (Hub.live (fun h => h.holdLeadEnd p busy))

/-- WAIT_RETRY_EXPIRY (R97): the type of the message that was answered WAIT. -/
def execWaitRetryExpiry (t : Stamp) (p : Cable) (type : Fin 16) (busy : Bool) (s : State) : Out :=
  act t s (Hub.live (fun h => h.waitRetryEnd p type busy))

end Sys2Proof.Machine
end

