-- ==== Sys2Proof/Machine/Power.lean ====
section
/-!
DEFINITION. Sys2Proof/Machine/Power.lean: port power protection and the supply budget (chapter 5, R140 to R160).
-/
namespace Sys2Proof.Machine

namespace Hub

/-- A command of the logic die met a protective action in the same cycle: it is discarded and reported OVERRIDDEN (R24, R150). -/
def overridden (p : Nat) (ovr : Bool) (h : Hub) : Hub :=
  if ovr then (h.powerResult p 11).inc (Od.OVERRIDDEN_CMDS p) else h

/-- Active limiting has lasted LIMIT_TIME, at its lowest accuracy of −10 % (R144, Table 5-3). -/
def limitElapsed (h : Hub) (p : Nat) : Bool :=
  h.rd (Reg.limiting p) != 0 && decide (h.rd (Reg.limiting p) + h.rd (Od.LIMIT_TIME p) * 900000 ≤ h.now + 1)

/-- POWER_CMD OFF (R149). -/
def commandOff (p : Nat) (h : Hub) : Hub :=
  if (2 ≤ h.rd (Od.CONTRACT_STATE p) ∧ h.rd (Od.CONTRACT_STATE p) ≤ 6) ∨ h.rd (Reg.inForce p) = 1 then h.powerResult p 12
  else match h.rd (Od.POWER_STATE p) with
    | 0 => h.powerResult p 2
    | 1 => h.withdrawPowerOn p
    | 5 => h.wr (Reg.offPending p) 1
    | _ => (h.turnOff p 1).wr (Reg.offPending p) 1

/-- POWER_CMD RESTORE_DEFAULT (R149): its checks in order. -/
def commandRestore (p : Nat) (h : Hub) : Hub :=
  if !(h.isSource p && h.rd (Od.CONTRACT_STATE p) == 1 && h.rd (Od.POWER_STATE p) == 0) then h.powerResult p 3
  else if !h.probedDevice p then h.powerResult p 4
  else if h.running (Tm.holdoff p) && !h.due (Tm.holdoff p) then h.powerResult p 5
  else h.askPowerOn p false

/-- LIMIT_SET of a port (R142): 0, or 50 mA to 4,000 mA in steps of 10; a write in INRUSH or MOVING acts at entry to ON. -/
def writeLimitSet (p v : Nat) (h : Hub) : Hub :=
  let h1 := h.wr (Od.LIMIT_SET p) v
  if [2, 4].contains (h.rd (Od.POWER_STATE p)) then h1
  else
    let h2 := h1.refreshLimit p
    if h2.rd (Od.POWER_STATE p) = 3 then h2.emit (.powerDie p (.limit (h2.rd (Od.LIMIT_ACTIVE p)))) else h2

/-- An over-current group input stays low past its filter (R151); its level is kept. -/
def groupAssert (g : Nat) (h : Hub) : Hub := (h.wrBit Reg.ocInput g true).groupLevel g

/-- An over-current group input is high again (R151). -/
def groupRelease (g : Nat) (h : Hub) : Hub := (h.wrBit Reg.ocInput g false).groupLevel g

/-- An entry that left the queue with OVER_CAPACITY (R157): a power-on ends OFF, a move has the effect of BUSY (R153). -/
def overCapacity (e : BudgetEntry) (h : Hub) : Hub :=
  match e.kind with
  | .powerOn =>
    let h1 := (h.wr (Od.POWER_STATE e.who) 0).powerResult e.who 9
    if h1.rd (Od.CONTRACT_STATE e.who) = 6 then h1.contractState e.who 1 else h1
  | .move => h.moveRefused e.who
  | .domainWake => h.wakeRefused e.who

/-- An entry that the tick released starts (R154). -/
def startReleased (e : BudgetEntry) (h : Hub) : Hub :=
  match e.kind with
  | .powerOn => h.startPowerOn e.who
  | .move => h.moveReleased e.who
  | .domainWake => h.wakeReleased e

/-- A protective action of the power die on Dn (R23, R147): the trip sequence, or the hold record's event while the power die is in
hold (R496), and the command it overrides (R24). -/
def protect (p cause peak : Nat) (m : Sense) (busy ovr : Bool) (h : Hub) : Hub :=
  if h.rd Reg.hold = 1 then h.holdTrip p cause peak else ((h.sense p m).trip p cause peak busy).overridden p ovr

/-- The shunt current passes the fast-trip threshold, at its lowest accuracy of −8 % (R144, Table 5-3); while the power die is in hold its
own threshold stands. -/
def fastTrip (p peak : Nat) (m : Sense) (busy ovr : Bool) (h : Hub) : Hub :=
  if h.rd Reg.hold = 1 ∨ 92 * h.fastThreshold p < 100 * peak then h.protect p 2 peak m busy ovr else h.sense p m

/-- Active limiting that stood at its limit up to `last` is over: a break of 1 ms or more has ended it (R144). -/
def limitBroken (last : Nat) (p : Nat) (h : Hub) : Hub := if last + ms 1 ≤ h.now then h.wr (Reg.limiting p) 0 else h

/-- The shunt current reaches the active limit (R144). The time of limiting goes on over a break shorter than 1 ms since the entry before,
which ended at `left`. -/
def limitEntry (p left : Nat) (m : Sense) (h : Hub) : Hub :=
  let h1 := (h.sense p m).limitBroken left p
  if h1.powered p then
    let h2 := h1.inc (Od.LIMIT_EVENTS p)
    if h2.rd (Reg.limiting p) = 0 then h2.wr (Reg.limiting p) (h2.now + 1) else h2
  else h1

/-- Limiting has lasted LIMIT_TIME without a break of 1 ms; the current last stood at the limit at `last` (R144). -/
def limitTrip (p last peak : Nat) (m : Sense) (busy ovr : Bool) (h : Hub) : Hub :=
  let h1 := h.limitBroken last p
  if h.rd Reg.hold = 1 ∨ h1.limitElapsed p then h1.protect p 3 peak m busy ovr else h1.sense p m

/-- The energy or power guard of R119 fires during active limiting (R144). -/
def guardTrip (p last peak : Nat) (m : Sense) (busy ovr : Bool) (h : Hub) : Hub :=
  let h1 := h.limitBroken last p
  if h.rd Reg.hold = 1 ∨ h1.rd (Reg.limiting p) ≠ 0 then h1.protect p 3 peak m busy ovr else h1.sense p m

/-- Reverse current of 100 mA or more has lasted tReverse since an instant, in ON with VBUS more than 50 mV above the rail (R145). -/
def reverseHeld (h : Hub) (p since peak : Nat) (m : Sense) : Bool :=
  let h1 := h.sense p m
  h1.rd (Od.POWER_STATE p) == 3 && decide (h1.railMv (h1.rd (Reg.rail p)) + 50 < m.vbus.toNat) && decide (100 ≤ peak)
    && decide (since + us 4 ≤ h.now)

/-- The reverse-current comparator of the conducting pair (R145). -/
def reverseTrip (p since peak : Nat) (m : Sense) (busy ovr : Bool) (h : Hub) : Hub :=
  if h.rd Reg.hold = 1 ∨ h.reverseHeld p since peak m then h.protect p 4 peak m busy ovr else h.sense p m

/-- The discharge path goes off (R148). -/
def dischargeOff (p : Nat) (h : Hub) : Hub :=
  if h.rd (Reg.discharge p) = 1 then (h.clear [Reg.discharge p, Tm.discharge p]).emit (.powerDie p (.discharge false)) else h

/-- VBUS has fallen below 1.0 V (R148). -/
def dischargeDone (p : Nat) (m : Sense) (h : Hub) : Hub :=
  let h1 := h.sense p m
  if m.vbus.toNat < 1000 then (h1.dischargeOff p).powerReachedOff p else h1

/-- VBUS has fallen below 5 V (R148). -/
def vbusLow (p : Nat) (m : Sense) (h : Hub) : Hub :=
  let h1 := h.sense p m
  if m.vbus.toNat < 5000 then h1.powerReachedOff p else h1

/-- tDischargeMax has run (R148): the discharge goes off; with VBUS still at 5 V or more it has failed. -/
def dischargeTimeout (p : Nat) (m : Sense) (h : Hub) : Hub :=
  (h.sense p m).expire (Tm.discharge p) (fun x =>
    if 5000 ≤ m.vbus.toNat then ((x.dischargeOff p).inc (Od.DISCHARGE_FAILS p)).report 0x22 p 0 else x.dischargeOff p)

/-- VBUS has stayed within 5 % of the rail since an instant, in step 4 of an INRUSH (R141): after tVbusSettle the port is ON; the default
offer is due tFirstCaps after the first 1 ms of it, and a HARD_RESET's restoration is complete (R114, R124, R137, Table 4-15). -/
def inrushSettled (p since : Nat) (m : Sense) (h : Hub) : Hub :=
  let h1 := h.sense p m
  let rail := h1.railMv (h1.rd (Reg.rail p))
  let v := m.vbus.toNat
  if h1.rd (Od.POWER_STATE p) = 2 ∧ h1.rd (Reg.trStep p) = 4 ∧ since + ms 4 ≤ h1.now ∧ 95 * rail ≤ 100 * v ∧ 100 * v ≤ 105 * rail then
    let h2 := ((h1.wr (Od.POWER_STATE p) 3 |>.wr (Od.TRANSITION_ENERGY p) m.energy.toNat
      |>.wr (Reg.limiting p) 0 |>.wr (Reg.trStep p) 0).refreshLimit p).powerResult p 2
    let h3 := (h2.emit (.powerDie p (.limit (h2.rd (Od.LIMIT_ACTIVE p))))).wr (Tm.firstCaps p) (since + ms 46 + 1)
    let h4 := if h3.rd (Od.CONTRACT_STATE p) = 6 then h3.contractState p 1 else h3
    h4.hubPowerUp p
  else h1

/-- What a budget tick does (R153, R154, R157): levels fall, entries above a capacity leave, and released entries start in queue order. -/
def drain (h : Hub) : Hub :=
  let (exc, rel, h1) := h.budgetTick
  rel.foldl (fun x e => x.startReleased e) (exc.foldl (fun x e => x.overCapacity e) h1)

/-- A budget tick, once at each 32nd period of the 32.768 kHz clock (R153). -/
def tick (h : Hub) : Hub := if h.tickOpen then (h.wr Reg.tickAt (h.now + 1)).drain else h

end Hub

/-- FAST_TRIP (R144, R147). -/
def execFastTrip (t : Stamp) (p : Dn) (m : Sense) (peak : BitVec 16) (busy ovr : Bool) (s : State) : Out :=
  act t s (fun h => h.fastTrip p peak.toNat m busy ovr)

/-- ACTIVE_LIMITING_ENTRY (R144): the stamp at which the limiting before this one ended. -/
def execActiveLimitingEntry (t : Stamp) (p : Dn) (left : Stamp) (m : Sense) (s : State) : Out := act t s (fun h => h.limitEntry p left m)

/-- TIMED_LIMIT_TRIP (R144, R147): the last stamp at which the current stood at the limit. -/
def execTimedLimitTrip (t : Stamp) (p : Dn) (last : Stamp) (m : Sense) (peak : BitVec 16) (busy ovr : Bool) (s : State) : Out :=
  act t s (fun h => h.limitTrip p last peak.toNat m busy ovr)

/-- LIMITING_GUARD_TRIP (R144, R147): the last stamp at which the current stood at the limit. -/
def execLimitingGuardTrip (t : Stamp) (p : Dn) (last : Stamp) (m : Sense) (peak : BitVec 16) (busy ovr : Bool) (s : State) : Out :=
  act t s (fun h => h.guardTrip p last peak.toNat m busy ovr)

/-- REVERSE_TRIP (R145, R147): the stamp since which reverse current flows, and its highest value. -/
def execReverseTrip (t : Stamp) (p : Dn) (since : Stamp) (m : Sense) (peak : BitVec 16) (busy ovr : Bool) (s : State) : Out :=
  act t s (fun h => h.reverseTrip p since peak.toNat m busy ovr)

/-- RETRY_HOLDOFF_EXPIRY (R147). -/
def execRetryHoldoffExpiry (t : Stamp) (p : Dn) (s : State) : Out := act t s (fun h => h.expire (Tm.holdoff p) id)

/-- DISCHARGE_COMPLETE (R148). -/
def execDischargeComplete (t : Stamp) (p : Dn) (m : Sense) (s : State) : Out := act t s (fun h => h.dischargeDone p m)

/-- VBUS_BELOW_5V (R148). -/
def execVbusBelow5v (t : Stamp) (p : Dn) (m : Sense) (s : State) : Out := act t s (fun h => h.vbusLow p m)

/-- DISCHARGE_TIMEOUT (R148). -/
def execDischargeTimeout (t : Stamp) (p : Dn) (m : Sense) (s : State) : Out := act t s (fun h => h.dischargeTimeout p m)

/-- INRUSH_SETTLED (R141): the stamp since which VBUS has stood within 5 % of the rail. -/
def execInrushSettled (t : Stamp) (p : Dn) (since : Stamp) (m : Sense) (s : State) : Out := act t s (fun h => h.inrushSettled p since m)

/-- POWER_CMD_OFF (R149). -/
def execPowerCmdOff (t : Stamp) (p : Dn) (s : State) : Out := act t s (fun h => h.writing (Od.POWER_CMD p) 1 (fun x => x.commandOff p))

/-- POWER_CMD_RESTORE_DEFAULT (R149). -/
def execPowerCmdRestoreDefault (t : Stamp) (p : Dn) (m : Sense) (s : State) : Out :=
  act t s (fun h => (h.sense p m).writing (Od.POWER_CMD p) 2 (fun x => x.commandRestore p))

/-- LIMIT_SET_WRITE (R142). -/
def execLimitSetWrite (t : Stamp) (p : Dn) (v : BitVec 16) (s : State) : Out :=
  act t s (fun h => h.writing (Od.LIMIT_SET p) v.toNat (fun x => x.writeLimitSet p v.toNat))

/-- OC_GROUP_ASSERT (R151). -/
def execOcGroupAssert (t : Stamp) (g : Fin 4) (s : State) : Out := act t s (fun h => h.groupAssert g)

/-- OC_GROUP_RELEASE (R151). -/
def execOcGroupRelease (t : Stamp) (g : Fin 4) (s : State) : Out := act t s (fun h => h.groupRelease g)

/-- BUDGET_TICK (R153, R154). -/
def execBudgetTick (t : Stamp) (s : State) : Out := act t s (fun h => h.tick)

end Sys2Proof.Machine
end

