-- ==== Sys2Proof/Machine/Contract.lean ====
section
/-!
DEFINITION. Sys2Proof/Machine/Contract.lean: power contracts, the cable's electronics and the alternate functions (chapter 4).
-/
namespace Sys2Proof.Machine

namespace Hub

/-- The manager orders HARD_RESET (R88, R108). -/
def answerHardReset (p : Nat) (busy : Bool) (h : Hub) : Hub :=
  if h.attached p then (h.answerResult p 1).orderHardReset p 2 true busy else h.answerResult p 6

/-- A write of CF_ANSWER by its ACTION (R108, Table 4-13). -/
def cfAnswer (p v : Nat) (busy : Bool) (h : Hub) : Hub :=
  let type := byteAt v 1
  let objs := objsOf (v / 256 ^ 12) (byteAt v 3)
  match byteAt v 0 with
  | 1 => h.newExchange p type (byteAt v 2 % 4) objs busy
  | 2 => h.answerWrite p type (field v 4 4) (byteAt v 8) objs busy
  | _ => h.answerHardReset p busy

/-- tAnswerDeadline has passed for the message that awaits an answer, the held one included (R109, R110, R116). -/
def answerDeadline (p : Nat) (busy : Bool) (h : Hub) : Hub :=
  if h.due (Tm.answer p) ∨ h.due (Tm.held p) then (h.deadlines p).tryStartNew p busy else h

/-- tFirstCaps has passed (R114): HOLD for the default offer. -/
def firstCapsEnd (p : Nat) (busy : Bool) (h : Hub) : Hub :=
  h.expire (Tm.firstCaps p) (fun x => if x.isSource p then (x.wr (Reg.offerPending p) 1).pumpOffer p busy else x)

/-- A wait of R104 has passed; while a message is under way its end decides. -/
def waitPassed (p k : Nat) (f : Hub → Hub) (busy : Bool) (h : Hub) : Hub := if busy then h else h.expire k (fun x => (f x).wireFree p)

/-- A pending NEW_EXCHANGE, and all else that waits, starts where the wire is idle (R94, R95, R111). -/
def exchangeStart (p mv : Nat) (busy : Bool) (h : Hub) : Hub := if busy || !h.attached p then h else h.wireStart p mv

/-- VBUS nears the target of the move; a power-on goes up (Table 4-16 step 4, R141). -/
def nearsRail (h : Hub) (p vbus : Nat) : Bool :=
  let target := h.railMv (h.rd (Reg.trNewRail p))
  if h.rd (Od.POWER_STATE p) = 2 ∨ h.railMv (h.rd (Reg.rail p)) ≤ target then decide (target ≤ vbus + 300) else decide (vbus ≤ target)

/-- A move or a power-on is under way. -/
def inMove (h : Hub) (p : Nat) : Bool := h.rd (Od.POWER_STATE p) == 2 || h.rd (Od.POWER_STATE p) == 4

/-- Step 4 of Table 4-16: the incoming pair is driven fully on, of a power-on too (R141). -/
def railReached (p : Nat) (m : Sense) (h : Hub) : Hub :=
  let h1 := h.sense p m
  if h1.inMove p = true ∧ h1.rd (Reg.trStep p) = 3 ∧ h1.nearsRail p m.vbus.toNat = true then
    (h1.wr (Reg.trStep p) 4).emit (.powerDie p (.fullyOn (h1.rd (Reg.trNewRail p))))
  else h1

/-- Step 5 of Table 4-16: the new limit applies, and READY is sent (R117, R119). -/
def railSettled (p energy : Nat) (h : Hub) : Hub :=
  let h1 := (h.spoil p).wr (Reg.rail p) (h.rd (Reg.trNewRail p)) |>.wr (Od.POWER_STATE p) 3 |>.wr (Od.TRANSITION_ENERGY p) energy
    |>.wr (Reg.limiting p) 0
  let h2 := (h1.setContract p (h1.rd (Reg.trRequest p) - 1)).wr (Reg.trStep p) 0
  (h2.emit (.powerDie p (.limit (h2.rd (Od.LIMIT_ACTIVE p))))).sendReady p

/-- tVbusSettle has passed since an instant (Table 4-16 step 5, R115, R137): VBUS has stood within 5 % of the rail, or both pairs have been
open for POSITION 0. -/
def moveSettled (p since : Nat) (m : Sense) (h : Hub) : Hub :=
  let h1 := h.sense p m
  let rail := h1.railMv (h1.rd (Reg.trNewRail p))
  let v := m.vbus.toNat
  if h1.rd (Od.CONTRACT_STATE p) ≠ 4 ∨ h1.now < since + ms 4 then h1
  else if h1.rd (Reg.trStep p) = 4 ∧ 95 * rail ≤ 100 * v ∧ 100 * v ≤ 105 * rail then h1.railSettled p m.energy.toNat
  else if h1.rd (Reg.trStep p) = 5 ∧ h1.powered p = false then
    ((h1.setContract p (h1.rd (Reg.trRequest p) - 1)).wr (Reg.trStep p) 0).sendReady p
  else h1

/-- The power die cuts a move or a power-on short (R119, R121, R123): both pairs open, the abort is recorded, the contract is
discarded and the port stands unpowered in DEFAULT_POWER. -/
def cutMove (p offCause abort : Nat) (h : Hub) : Hub :=
  let h1 := (h.turnOff p offCause).recordAbort p abort (h.rd (Od.VBUS_MV p))
  ((h1.discardContract p).endExchange p).contractState p 1

/-- A guard of R119 fires: the running total exceeds SLEW_ENERGY_MAX, or the product has exceeded SLEW_POWER_MAX since an instant more than
100 µs ago. -/
def guardFires (h : Hub) (m : Sense) (since : Nat) : Bool :=
  decide (1000 * h.rd Od.SLEW_ENERGY_MAX < m.energy.toNat) || decide (since + us 100 < h.now)

/-- The energy or the power guard of R119 on a move or a power-on. -/
def slewGuard (p since : Nat) (m : Sense) (busy ovr : Bool) (h : Hub) : Hub :=
  let h1 := h.sense p m
  if !h1.guardFires m since then h1
  else if h1.inMove p then ((h1.cutMove p 7 5).orderHardReset p 4 false busy).overridden p ovr
  else h1.joinCause p 5

/-- The detach comparator fires during a move or a power-on (R121, R141). -/
def detachAbort (p : Nat) (m : Sense) (ovr : Bool) (h : Hub) : Hub :=
  let h1 := h.sense p m
  if h1.inMove p then
    ((h1.cutMove p 5 1).wr (Reg.detachDone p) (if h1.rd (Od.POWER_STATE p) = 4 then 1 else 3)).overridden p ovr
  else h1.joinCause p 1

/-- The message wire reads Rd again before tDetach (R122): the port stays attached and unpowered. -/
def detachGlitch (p : Nat) (busy : Bool) (h : Hub) : Hub :=
  let k := h.rd (Reg.detachDone p)
  if k = 1 ∨ k = 3 then
    let h1 := h.wr (Reg.detachDone p) 0 |>.wr (Od.ABORT_CAUSE p) 2 |>.wr (Od.POWER_OFF_CAUSE p) 8
    if k = 1 then h1.orderHardReset p 5 false busy else h1.powerResult p 13
  else h

/-- tSrcRecover has passed (R124, R126); VBUS of a port that gives it must have stayed below 5 V, and counts anew otherwise. -/
def srcRecoverEnd (p : Nat) (m : Sense) (h : Hub) : Hub :=
  (h.sense p m).expire (Tm.srcRecover p) (fun x =>
    if p < 16 ∧ x.isSource p = true ∧ 5000 ≤ m.vbus.toNat then x.arm (Tm.srcRecover p) (ms 660) else x.restorePower p)

/-- A SOFT_RESET arrives (R127), a message without objects from the far end. -/
def softResetIn (p id pre : Nat) (h : Hub) : Hub :=
  let header := mkHeader 0 id (1 - h.ownRole p) 0 14
  h.messageIn p header [] (cfCrc header []) pre

/-- The hub's cable-electronics supply has held its limit for 1 ms (R128); a swap then sends no READY (R130). -/
def cfsFault (p : Nat) (h : Hub) : Hub :=
  if h.rd (Od.CFS_STATE p) = 1 then
    ((h.wr (Od.CFS_STATE p) 3 |>.wr (Tm.cfsStable p) 0).emit (.powerDie p (.cfs false))).report 0x23 p 0
  else h

/-- The hub has the duty to supply the cable electronics (R129). -/
def cfsOurs (h : Hub) (p : Nat) : Bool :=
  (h.isSource p && h.rd (Reg.cfsDuty p) == 0) || (h.isSink p && h.rd (Reg.cfsDuty p) == 1)

/-- A write of 1 to CFS_RESTART (R128): a supply in FAULT is restored. -/
def cfsRestart (p : Nat) (h : Hub) : Hub :=
  if h.rd (Od.CFS_STATE p) = 3 then
    let h1 := h.wr (Od.CFS_STATE p) 0
    if h1.cfsOurs p then h1.cfsOn p else h1
  else h

/-- A write of CFS_ENABLE (R129): 0 removes the hub's supply at once. -/
def writeCfsEnable (p v : Nat) (h : Hub) : Hub :=
  let h1 := h.wr (Od.CFS_ENABLE p) v
  if v = 0 then h1.cfsOff p else h1

/-- The new supplier's supply has been stable for tCfsStable (R130): READY with WHAT = CFS. -/
def cfsStable (p : Nat) (h : Hub) : Hub :=
  h.expire (Tm.cfsStable p) (fun x =>
    if x.rd (Reg.cfsSwap p) = 1 ∧ x.rd (Od.CFS_STATE p) = 1 then
      (x.sendCf p 8 0 [6 * 2 ^ 28 + 2 ^ 26] .readyCfs).stop (Tm.readyWait p)
    else x)

/-- A received serial frame closes and enters Granite at its port as class C2, for port 18 (R135). -/
def serialClose (p flags count stamp chars : Nat) (h : Hub) : Hub :=
  if h.rd (Od.ALT_STATE p) = 1 ∧ h.switchOn = true then
    let n := min count 256
    let payload := pack [(1, p), (1, flags % 16), (2, n), (8, stamp), (n, chars)]
    let own := sysAddr h.ownHub 0 12
    h.enterFrame p (mkTrunk 0 2 (12 + n) true own own 0) payload 0 true (some (h.toPort p 18 4 18 false)) (p + 2)
  else h

/-- The serial line has been idle for ALT_SERIAL_GAP (R135): the next frame for transmission goes out, by its character count, at most
the characters present. -/
def serialStart (p : Nat) (h : Hub) : Hub :=
  if h.rd (Od.ALT_STATE p) = 1 ∧ h.phyOn p = true then
    match h.nextCopy p false with
    | none => h
    | some (f, c) =>
      let n := min (field f.payload 2 2) (hLen f.header - 12)
      ((h.emit (.serialOut p n (field f.payload 12 n))).countOut p f.header).releaseCopy f c
  else h

/-- A LINE_TEST trace completes (R136): it is written, never as a baseline; with FAR_STATE SHORT the loop resistance too. -/
def lineTest (p trace loop : Nat) (h : Hub) : Hub :=
  if h.rd (Od.ALT_STATE p) = 2 then
    let h1 := h.wr (Od.TDR_TRACE p) (trace % 256 ^ 2048)
    if bits (h1.rd (Reg.altParams p)) 16 15 = 1 then h1.wr (Od.LOOP_RESISTANCE p) loop else h1
  else h

end Hub

/-- NEW_EXCHANGE_START (R111): the voltage across the hub's own Rd in mV, where it is the sink (R94). -/
def execNewExchangeStart (t : Stamp) (p : Cable) (mv : BitVec 16) (busy : Bool) (s : State) : Out :=
  act t s (fun h => h.exchangeStart p mv.toNat busy)

/-- CF_ANSWER_NEW_EXCHANGE (R108): TYPE, DEST, NUM_DO and OBJECTS of Table 4-13. -/
def execCfAnswerNewExchange (t : Stamp) (p : Cable) (type dest numDo : Byte) (objs : BitVec 224) (busy : Bool) (s : State) : Out :=
  let v := pack [(1, 1), (1, type.toNat), (1, dest.toNat), (1, numDo.toNat), (8, 0), (28, objs.toNat)]
  act t s (fun h => h.writing (Od.CF_ANSWER p) v (fun x => x.cfAnswer p v busy))

/-- CF_ANSWER of action ANSWER (Table 4-13): its 40 bytes. -/
def answerBytes (type dest numDo : Byte) (ref : Word) (fallback : Byte) (objs : BitVec 224) : Nat :=
  pack [(1, 2), (1, type.toNat), (1, dest.toNat), (1, numDo.toNat), (4, ref.toNat), (1, fallback.toNat), (3, 0), (28, objs.toNat)]

/-- CF_ANSWER_ANSWER (R116): TYPE, DEST, NUM_DO, REF, FALLBACK and OBJECTS of Table 4-13. -/
def execCfAnswerAnswer (t : Stamp) (p : Cable) (type dest numDo : Byte) (ref : Word) (fallback : Byte) (objs : BitVec 224) (m : Sense)
    (busy : Bool) (s : State) : Out :=
  act t s (fun h => (h.sense p m).writing (Od.CF_ANSWER p) (answerBytes type dest numDo ref fallback objs)
    (fun x => x.cfAnswer p (answerBytes type dest numDo ref fallback objs) busy))

/-- CF_ANSWER_HARD_RESET (R108). -/
def execCfAnswerHardReset (t : Stamp) (p : Cable) (busy : Bool) (s : State) : Out :=
  act t s (fun h => h.writing (Od.CF_ANSWER p) 3 (fun x => x.cfAnswer p 3 busy))

/-- ANSWER_DEADLINE (R109, R110). -/
def execAnswerDeadline (t : Stamp) (p : Cable) (busy : Bool) (s : State) : Out := act t s (fun h => h.answerDeadline p busy)

/-- FIRST_CAPS_EXPIRY (R114). -/
def execFirstCapsExpiry (t : Stamp) (p : Cable) (busy : Bool) (s : State) : Out := act t s (fun h => h.firstCapsEnd p busy)

/-- SINK_REQUEST_TIMEOUT (R112). -/
def execSinkRequestTimeout (t : Stamp) (p : Cable) (busy : Bool) (s : State) : Out := 
  act t s (Hub.waitPassed p (Tm.sinkRequest p) (Hub.noRequest p) busy)

/-- RESPONSE_TIMEOUT (R104). -/
def execResponseTimeout (t : Stamp) (p : Cable) (busy : Bool) (s : State) : Out := 
  act t s (Hub.waitPassed p (Tm.response p) (Hub.noAnswer p) busy)

/-- READY_WAIT_TIMEOUT (R104, R130). -/
def execReadyWaitTimeout (t : Stamp) (p : Cable) (busy : Bool) (s : State) : Out := 
  act t s (Hub.waitPassed p (Tm.readyWait p) (Hub.noReady p) busy)

/-- MOVE_RAIL_REACHED (R117). -/
def execMoveRailReached (t : Stamp) (p : Dn) (m : Sense) (s : State) : Out := act t s (fun h => h.railReached p m)

/-- MOVE_SETTLED (R117): the stamp since which VBUS has stood within 5 % of the rail, or both pairs have been open. -/
def execMoveSettled (t : Stamp) (p : Dn) (since : Stamp) (m : Sense) (s : State) : Out := act t s (fun h => h.moveSettled p since m)

/-- SLEW_GUARD_ABORT (R119): the stamp since which the linear pair's product has exceeded SLEW_POWER_MAX, or the present one. -/
def execSlewGuardAbort (t : Stamp) (p : Dn) (since : Stamp) (m : Sense) (busy ovr : Bool) (s : State) : Out :=
  act t s (fun h => h.slewGuard p since m busy ovr)

/-- TRANSITION_DETACH_ABORT (R121). -/
def execTransitionDetachAbort (t : Stamp) (p : Dn) (m : Sense) (ovr : Bool) (s : State) : Out := act t s (fun h => h.detachAbort p m ovr)

/-- DETACH_GLITCH (R122). -/
def execDetachGlitch (t : Stamp) (p : Dn) (busy : Bool) (s : State) : Out := act t s (fun h => h.detachGlitch p busy)

/-- SRC_RECOVER_EXPIRY (R124, R126). -/
def execSrcRecoverExpiry (t : Stamp) (p : Cable) (m : Sense) (s : State) : Out := act t s (fun h => h.srcRecoverEnd p m)

/-- SOFT_RESET_RECEIVED (R127): the MSG_ID, and the stamp of the preamble start. -/
def execSoftResetReceived (t : Stamp) (p : Cable) (id : Fin 8) (pre : Stamp) (s : State) : Out :=
  act t s (Hub.live (fun h => h.softResetIn p id pre))

/-- CFS_FAULT (R128). -/
def execCfsFault (t : Stamp) (p : Cable) (s : State) : Out := act t s (fun h => h.cfsFault p)

/-- CFS_RESTART (R128). -/
def execCfsRestart (t : Stamp) (p : Cable) (s : State) : Out := act t s (fun h => h.writing (Od.CFS_RESTART p) 1 (fun x => x.cfsRestart p))

/-- CFS_ENABLE_WRITE (R129). -/
def execCfsEnableWrite (t : Stamp) (p : Cable) (v : Byte) (s : State) : Out :=
  act t s (fun h => h.writing (Od.CFS_ENABLE p) v.toNat (fun x => x.writeCfsEnable p v.toNat))

/-- CFS_STABLE (R130). -/
def execCfsStable (t : Stamp) (p : Cable) (s : State) : Out := act t s (fun h => h.cfsStable p)

/-- SERIAL_FRAME_CLOSE (R135): flags, number of characters, stamp of the first start bit, and the characters. -/
def execSerialFrameClose (t : Stamp) (p : Dn) (flags : Byte) (count : Fin 257) (first : BitVec 64) (chars : BitVec 2048) (s : State) : Out :=
  act t s (fun h => h.serialClose p flags.toNat count first.toNat chars.toNat)

/-- SERIAL_TX_START (R135). -/
def execSerialTxStart (t : Stamp) (p : Dn) (s : State) : Out := act t s (fun h => h.serialStart p)

/-- LINE_TEST_TRACE (R136): the trace, and the loop resistance in mΩ. -/
def execLineTestTrace (t : Stamp) (p : Dn) (trace : BitVec 16384) (loop : Word) (s : State) : Out :=
  act t s (fun h => h.lineTest p trace.toNat loop.toNat)

end Sys2Proof.Machine
end

