-- ==== Sys2Proof/Machine/Domains.lean ====
section
/-!
DEFINITION. Sys2Proof/Machine/Domains.lean: power domains and clocks (chapter 14, R406 to R428).
-/
namespace Sys2Proof.Machine

namespace Hub

/-- DOMAIN_CMD as its chapter judges it: STATE while a command runs (R409). -/
def domainCmdCode (v : Nat) (h : Hub) : Nat :=
  if h.writeCode Od.DOMAIN_CMD v ≠ 0 then h.writeCode Od.DOMAIN_CMD v else if h.group.isSome then 7 else 0

/-- DOMAIN_CMD begins a command (R408, R410); `barred` lists the domains of the transaction that applies it. -/
def domainCmd (v : Nat) (barred : List Nat) (h : Hub) : Hub := h.beginGroup (field v 0 4) 1 (cmdPairs v) barred none

/-- DOMAIN_CANCEL as its chapter judges it: STATE unless a command of the manager or an armed one runs (R421). -/
def cancelCode (h : Hub) : Nat := if h.group.any (fun g => g.source != 3) then 0 else 7

/-- Activity on the suspended control upstream fires UPSTREAM (R427), which reaches the hub also with PD6 OFF, whose trunk
entries then read DOWN. -/
def armedUpstream (h : Hub) : Hub :=
  let u := h.rd Od.CONTROL_UPSTREAM
  if (u == 16 || u == 17) && (h.rd (Od.LINK_STATE u) == 5 || (!h.isOn 6 && h.rd Reg.upSuspend == 1)) then h.armedTrigger 0 else h

/-- HL_CS_N falls while PD12 is not ON: HOST_SELECT fires (R427). -/
def armedHost (h : Hub) : Hub := if h.isOn 12 then h else h.armedTrigger 1

/-- The crystal is lost (R423): Bedrock runs from the RC oscillator until a full reset. -/
def crystalLost (h : Hub) : Hub := if h.rd Od.LF_SOURCE = 1 then h else (h.wr Od.LF_SOURCE 1).report 0x41 0 0

/-- A running PLL (2) or trunk reference (3) loses lock (R425): a fault, and no domain changes. -/
def lockLost (c : Nat) (h : Hub) : Hub :=
  if hasBit (h.rd Od.CLOCK_STATE) (clockBit c) then (h.wrBit Od.CLOCK_STATE (clockBit c) false).report 0x43 c 0 else h

end Hub

/-- A write of DOMAIN_CMD, 32 bytes. -/
def execDomainCmd (t : Stamp) (v : BitVec 256) (s : State) : Out :=
  act t s (fun h => h.judged (h.domainCmdCode v.toNat) Od.DOMAIN_CMD v.toNat (Hub.domainCmd v.toNat []))

/-- A write of 1 to DOMAIN_CANCEL. -/
def execDomainCancel (t : Stamp) (s : State) : Out :=
  act t s (fun h => h.judged h.cancelCode Od.DOMAIN_CANCEL 1 (Hub.stopGroup 4))

/-- Bedrock's watcher sees activity on the suspended control upstream. -/
def execArmedUpstreamTrigger (t : Stamp) (s : State) : Out := act t s Hub.armedUpstream

/-- A falling edge of HL_CS_N. -/
def execArmedHostSelectTrigger (t : Stamp) (s : State) : Out := act t s Hub.armedHost

/-- An edge of the 32.768 kHz clock at which the sequencer visits. -/
def execSequencerVisit (t : Stamp) (s : State) : Out := act t s Hub.visit

/-- The delay of the domain being moved ends. -/
def execDomainDelayEnd (t : Stamp) (s : State) : Out := act t s (fun h => if h.edge then h.expire Tm.domDelay Hub.delayEnd else h)

/-- The 32.768 kHz crystal has given no edge for 4 periods of the RC oscillator. -/
def execLfCrystalLoss (t : Stamp) (s : State) : Out := act t s Hub.crystalLost

/-- A clock is good: 0 the XO, 1 the PLL, 2 the trunk reference. -/
def execClockGood (t : Stamp) (c : Fin 3) (s : State) : Out := act t s (Hub.clockGood (c.val + 1))

/-- The maximum start time of the clock being started has passed. -/
def execClockStartTimeout (t : Stamp) (s : State) : Out := act t s (fun h => h.expire Tm.clock Hub.clockFailed)

/-- The PLL, or the trunk reference, loses lock. -/
def execClockLockLoss (t : Stamp) (trunkRef : Bool) (s : State) : Out := act t s (Hub.lockLost (if trunkRef then 3 else 2))

/-- The firmware load under way ends. -/
def execFwLoadComplete (t : Stamp) (s : State) : Out := act t s Hub.fwLoaded

end Sys2Proof.Machine
end

