-- ==== Sys2Proof/Machine/QuartzOps.lean ====
section
/-!
DEFINITION. Sys2Proof/Machine/QuartzOps.lean: delegated polling and the timebase as shared operations (R249 to R273): entries that
take effect, due polls, the judgement of an outcome, batches, the steps and slews of the timebase, and leaving RUNNING.
-/
namespace Sys2Proof.Machine

/-- The length of a micro-frame in ns (R175, R252). -/
abbrev uframeNs : Nat := 125000

/-- Fields of an entry state record (Table 8-14). -/
def stFlags (s : Nat) : Nat := byteAt s 1
def stReference (s : Nat) : Nat := field s 16 8

/-- The raw value of a poll's payload: size bytes at VAL_OFFSET, little-endian, under MASK (R257). -/
def pollRaw (v payload : Nat) : Nat := field payload (pollOffset v) (pollSize v) &&& pollMask v

/-- x of R257, as an exact integer. -/
def pollX (v payload : Nat) : Int :=
  if pollSigned v then toSigned (8 * pollSize v) (pollRaw v payload) else (pollRaw v payload : Nat)

/-- The reference of an entry state record as an exact integer. -/
def refX (v s : Nat) : Int := if pollSigned v then toSigned 64 (stReference s) else (stReference s : Nat)

/-- The zone after a value under ON_THRESHOLD (R259): true is ABOVE. -/
def zoneAfter (v : Nat) (first above : Bool) (x : Int) : Bool :=
  let th := toSigned 64 (pollThreshold v)
  if first then decide (th ≤ x)
  else if above then !decide (x < th - (pollDeadband v : Nat))
  else decide (th ≤ x)

/-- Table 8-4 for a VALUE: whether the policy reports it. -/
def reportsValue (policy : Nat) (first recovered zoneMoved : Bool) (x ref : Int) (deadband : Nat) : Bool :=
  match policy with
  | 0 => true
  | 1 => first || recovered || decide (deadband < (x - ref).natAbs)
  | 2 => first || recovered || zoneMoved
  | _ => recovered

/-- Table 8-4 for an error of a code: whether the policy reports it; `run` is the last counted outcome plus 1, 0 for none. -/
def reportsError (policy run code : Nat) : Bool := if policy = 0 ∨ policy = 3 then true else run != code + 1

/-- The report record (Table 8-5). -/
def reportRecord (entry port v outcome flags len stamp value : Nat) : Nat :=
  pack [(2, entry), (1, pollDev v), (1, pollEp v + 16 * port), (1, outcome), (1, flags), (2, len), (8, stamp), (8, value)]

/-- The order of reports in a batch (R262): completion stamp, then port, then entry. -/
def reportBefore (a b : PollReport) : Bool :=
  let pa := byteAt a.record 3 / 16
  let pb := byteAt b.record 3 / 16
  decide (a.stamp < b.stamp ∨ (a.stamp = b.stamp ∧ (pa < pb ∨ (pa = pb ∧ field a.record 0 2 < field b.record 0 2))))

/-- Inserts a report in its place. -/
def insertReport (r : PollReport) : List PollReport → List PollReport
  | [] => [r]
  | x :: l => if reportBefore r x then r :: x :: l else x :: insertReport r l

/-- Micro-frames up to K that are congruent to p modulo m. -/
def congruentUpTo (m p K : Nat) : Nat := if K < p then 0 else (K - p) / m + 1

namespace Hub

/-- An entry's state is cleared: reference, zone, run and counts (R251, R275). -/
def clearEntry (e : Nat) (h : Hub) : Hub := (h.wr (Od.POLL_STATE e) (odDefault (Od.POLL_STATE e))).wr (Reg.pollRun e) 0

/-- The state of every entry is cleared (Table 8-8). -/
def clearEntries (h : Hub) : Hub := (h.wipe 0x520000 0x522000).wipe (Reg.pollRun 0) (Reg.pollRun 4096)

/-- A write of a poll entry takes effect (R251): a queued poll of it is dropped without counting and its state is cleared. -/
def entryTakes (e v : Nat) (h : Hub) : Hub :=
  (({ h with polls := h.polls.filter (fun j => !(j.entry == e && j.stage == 0)) }.wr (Od.POLL e) v)).clearEntry e

/-- A write of a poll entry is accepted: it takes effect at the start of the next micro-frame (R251). -/
def writePoll (e v : Nat) (h : Hub) : Hub :=
  { h with pollWrites := h.pollWrites ++ [⟨e, v, h.timebase / uframeNs⟩] }

/-- Writes whose micro-frame has passed take effect, in order (R251). -/
def takeWrites (k : Nat) (h : Hub) : Hub :=
  (h.pollWrites.filter (fun w => decide (w.uframe < k))).foldl (fun x w => x.entryTakes w.entry w.value)
    { h with pollWrites := h.pollWrites.filter (fun w => !decide (w.uframe < k)) }

/-- The enabled entries with their values, in ascending order (Table 8-1). -/
def enabledEntries (h : Hub) : List (Nat × Nat) :=
  h.cells.filterMap (fun c =>
    if 0x510000 ≤ c.1 ∧ c.1 < 0x512000 ∧ pollEnabled c.2 then some ((c.1 / 256 - 0x5100) * 128 + (c.1 % 256 - 1), c.2) else none)

/-- The port of a device address that is ASSIGNED, or none (R229). -/
def devicePort (h : Hub) (d : Nat) : Option Nat :=
  if byteAt (h.rd (Od.DEVICE d)) 2 = 1 then some (byteAt (h.rd (Od.DEVICE d)) 0) else none

/-- The control upstream link is SUSPENDED (R239). -/
def upstreamIsSuspended (h : Hub) : Bool :=
  let u := h.rd Od.CONTROL_UPSTREAM
  (u == 16 || u == 17) && h.rd (Od.LINK_STATE u) == 5

/-- The counter of the first reason of Table 8-2 that holds for a due poll, or none. -/
def skipCounter (h : Hub) (v : Nat) : Option Nat :=
  let port := h.devicePort (pollDev v)
  let phy := match port with | some p => h.phyOn p | none => true
  if !(h.isOn 5 && h.switchOn && phy) then some Od.SKIP_DOMAIN
  else if h.upstreamIsSuspended then some Od.SKIP_UPSTREAM
  else match port with
    | none => some Od.SKIP_NOT_ASSIGNED
    | some p =>
      if h.farIsHub p then some Od.SKIP_HUB_PORT
      else if h.rd (Od.PORT_STATE p) ≠ 5 then some Od.SKIP_PORT_STATE
      else none

/-- The entry's own OVERRUNS (Table 8-14). -/
def countOverrun (e p : Nat) (h : Hub) : Hub :=
  let s := h.rd (Od.POLL_STATE e)
  ((h.wr (Od.POLL_STATE e) (putField s 26 2 (satInc 16 (field s 26 2)))).inc Od.OVERRUNS).inc (Od.PORT_OVERRUNS p)

/-- A due poll is queued for its port; an older one of the entry is dropped, and its place is taken (R253). -/
def queuePoll (e v k p : Nat) (h : Hub) : Hub :=
  let mk (place : Nat) : PollJob :=
    { port := p, entry := e, due := k, place := place, stage := 0, settings := v, stamp := 0, late := false, unlocked := false,
      outcome := 0, len := 0, data := 0, ended := 0 }
  match h.polls.find? (fun j => j.entry == e && j.stage == 0) with
  | some old =>
    { h with polls := h.polls.map (fun j : PollJob => if j.entry == e && j.stage == 0 then mk old.place else j) }.countOverrun e p
  | none => { h with polls := h.polls ++ [mk k] }

/-- An entry that falls due in micro-frame k is skipped or queued (R252). -/
def fallDue (k : Nat) (h : Hub) (x : Nat × Nat) : Hub :=
  match h.skipCounter x.2 with
  | some c => h.countSkip x.1 c
  | none => h.queuePoll x.1 x.2 k ((h.devicePort (pollDev x.2)).getD 0)

/-- The entries due in micro-frame k (R252). -/
def dueIn (h : Hub) (k : Nat) : List (Nat × Nat) := h.enabledEntries.filter (fun x => k % 2 ^ pollExp x.2 == pollPhase x.2)

/-- DUE_PEAK of each port follows the polls due in this micro-frame (R253). -/
def raisePeaks (due : List (Nat × Nat)) (h : Hub) : Hub :=
  (List.range 16).foldl (fun x p =>
    let n := (due.filter (fun d => h.devicePort (pollDev d.2) == some p)).length
    if x.rd (Od.DUE_PEAK p) < n then x.wr (Od.DUE_PEAK p) (min n 255) else x) h

/-- A micro-frame begins (R251, R252, R264): writes take effect, a START takes effect, and due polls are queued. -/
def microframe (h : Hub) : Hub :=
  let k := h.timebase / uframeNs
  if !h.isOn 5 ∨ k + 1 ≤ h.rd Reg.lastUframe then h
  else
    let h1 := (h.takeWrites k).wr Reg.lastUframe (k + 1)
    let h2 :=
      if h1.rd Reg.startPend = 0 ∨ k < h1.rd Reg.startUframe then h1
      else
        let x := if h1.rd Reg.startPend = 1 then h1.clearEntries else h1
        x.wr Od.QUARTZ_STATE 1 |>.wr Od.PAUSE_CAUSE 0 |>.wr Reg.startPend 0
    if h2.rd Od.QUARTZ_STATE ≠ 1 then h2
    else
      let due := h2.dueIn k
      due.foldl (fallDue k) (h2.raisePeaks due)

/-! ### Batches -/

/-- The micro-frame that opens the report window of a stamp (R262). -/
def windowStart (h : Hub) (stamp : Nat) : Nat :=
  let w := max 1 (h.rd Od.REPORT_WINDOW)
  stamp / uframeNs / w * w

/-- The open batch closes when its window has ended (R262). -/
def endWindow (h : Hub) : Hub :=
  if h.batch.isEmpty ∨ h.rd Reg.batchWin = h.windowStart h.timebase + 1 then h else h.closeBatch

/-- A report that is sent joins the batch of the window of its completion stamp; the 42nd closes it (R262). -/
def addReport (stamp record : Nat) (h : Hub) : Hub :=
  let win := h.windowStart stamp + 1
  let h1 := if h.rd Reg.batchWin ≠ win then h.closeBatch else h
  let h2 := ({ h1 with batch := insertReport ⟨stamp, record⟩ h1.batch }.wr Reg.batchWin win).inc Od.REPORTS_SENT 64
  if 42 ≤ h2.batch.length then h2.closeBatch else h2

/-- The reports counted so far against the budget window of a completion stamp (R263). -/
def budgetUsed (h : Hub) (stamp : Nat) : Nat :=
  if h.rd Reg.budgetWin = stamp / uframeNs / 1024 + 1 then h.rd Reg.budgetUsed else 0

/-- A sent report counts against its budget window (R263). -/
def countBudget (stamp : Nat) (h : Hub) : Hub :=
  if h.rd Od.REPORT_BUDGET = 0 then h
  else h.wr Reg.budgetUsed (h.budgetUsed stamp + 1) |>.wr Reg.budgetWin (stamp / uframeNs / 1024 + 1)

/-- The report of a poll is sent (R258, R260, R261): the entry's REPORTS, MISSED cleared, and the record with its flags. -/
def sendReport (j : PollJob) (flags len value : Nat) (h : Hub) : Hub :=
  let s := h.rd (Od.POLL_STATE j.entry)
  let missed := if hasBit (stFlags s) 3 then 8 else 0
  let all := flags + missed + (if j.late then 16 else 0) + (if j.unlocked then 32 else 0)
  let s1 := putField (putField s 1 1 (clearBit (stFlags s) 3)) 30 2 (satInc 16 (field s 30 2))
  ((h.wr (Od.POLL_STATE j.entry) s1).countBudget j.ended).addReport j.ended
    (reportRecord j.entry j.port j.settings j.outcome all len j.stamp value)

/-- A report is suppressed (R260, R263). -/
def suppressReport (e : Nat) (h : Hub) : Hub :=
  let s := h.rd (Od.POLL_STATE e)
  (h.wr (Od.POLL_STATE e) (putField s 1 1 (setBit (stFlags s) 3))).inc Od.REPORTS_SUPPRESSED

/-- The judgement of a VALUE (R257 to R260, R263). -/
def judgeValue (j : PollJob) (h : Hub) : Hub :=
  let v := j.settings
  let s := h.rd (Od.POLL_STATE j.entry)
  let x := pollX v j.data
  let first := !hasBit (stFlags s) 0
  let recovered := decide (2 ≤ h.rd (Reg.pollRun j.entry))
  let above := hasBit (stFlags s) 1
  let zone := zoneAfter v first above x
  let s1 := putField s 1 1 (clearBit (stFlags s) 2)
  let h1 := (h.wr (Od.POLL_STATE j.entry) s1).wr (Reg.pollRun j.entry) 1
  if !reportsValue (pollPolicy v) first recovered (zone != above) x (refX v s) (pollDeadband v) then h1
  else if h1.rd Od.REPORT_BUDGET ≠ 0 ∧ h1.rd Od.REPORT_BUDGET ≤ h1.budgetUsed j.ended ∧ first = false ∧ recovered = false then
    h1.suppressReport j.entry
  else
    let thr := pollPolicy v == 2
    let f1 := setBit (stFlags s1) 0
    let f2 := if thr then putBit f1 1 zone else f1
    let value := ofSigned 64 x
    let s2 := putField (putField s1 1 1 f2) 16 8 value
    (h1.wr (Od.POLL_STATE j.entry) s2).sendReport j
      ((if first then 1 else 0) + (if recovered then 2 else 0) + (if thr && zone then 4 else 0)) j.len value

/-- The judgement of an error (R258). -/
def judgeError (j : PollJob) (h : Hub) : Hub :=
  let s := h.rd (Od.POLL_STATE j.entry)
  let run := h.rd (Reg.pollRun j.entry)
  let s1 := putField (putField s 1 1 (setBit (stFlags s) 2)) 28 2 (satInc 16 (field s 28 2))
  let h1 := (h.wr (Od.POLL_STATE j.entry) s1).wr (Reg.pollRun j.entry) (j.outcome + 1)
  if reportsError (pollPolicy j.settings) run j.outcome then
    h1.sendReport j (if pollPolicy j.settings = 2 ∧ hasBit (stFlags s1) 1 then 4 else 0) j.len 0
  else h1

/-- Consecutive SEQ_GAPs of an endpoint, and the CLEAR_HALT that the hub then owes it (R255). -/
def judgeGap (j : PollJob) (h : Hub) : Hub :=
  let a := 16 * pollDev j.settings + pollEp j.settings
  if j.outcome = 3 then
    if h.rd Od.SEQ_RESYNC_LIMIT ≤ h.rd (Reg.seqGaps a) + 1 then h.wr (Reg.seqGaps a) 0 |>.wr (Reg.resyncOwed a) 1
    else h.wr (Reg.seqGaps a) (h.rd (Reg.seqGaps a) + 1)
  else h.wr (Reg.seqGaps a) 0

/-- A poll that has ended is judged (R256 to R260); NAK and DUPLICATE are not counted. -/
def judgePoll (j : PollJob) (h : Hub) : Hub :=
  let s := h.rd (Od.POLL_STATE j.entry)
  let h1 := (h.wr (Od.POLL_STATE j.entry) (putField s 0 1 j.outcome)).judgeGap j
  if j.outcome = 0 then h1.judgeValue j
  else if j.outcome = 1 ∨ j.outcome = 2 then h1
  else h1.judgeError j

/-- The poll of a port that has ended leaves the list and is judged. -/
def completePoll (p : Nat) (h : Hub) : Hub :=
  match h.polls.find? (fun j => j.port == p && j.stage == 3) with
  | none => h
  | some j =>
    ({ h with polls := h.polls.filter (fun x => !(x.port == p && x.entry == j.entry && x.stage == 3)) }.judgePoll j).closeAfterPoll

/-- The outcome of a poll by its transaction's result (Table 8-3). -/
def pollOutcome (v : Nat) (r : TxnResult) : Nat :=
  match r with
  | .ack _ => 1
  | .nyet _ => 1
  | .nak _ => 1
  | .stall => 6
  | .gap => 3
  | .error => 7
  | .babble => 8
  | .data _ packets len _ =>
    if packets = 0 then 2
    else if pollLenMax v < len then 5
    else if len < pollOffset v + pollSize v then 4
    else 0

/-- The poll on the wire of a port ends with its transaction's result (R256); its judgement follows at POLL_COMPLETE. -/
def pollEnds (p : Nat) (r : TxnResult) (h : Hub) : Hub :=
  let (len, data) := match r with | .data _ packets len payload => if packets = 0 then (0, 0) else (len, payload) | _ => (0, 0)
  { h with polls := h.polls.map (fun j : PollJob =>
      if j.port == p && j.stage == 2 then
        { j with stage := 3, outcome := pollOutcome j.settings r, len := len, data := data, ended := h.timebase }
      else j) }

/-! ### Running Quartz (R264, R265) -/

/-- Quartz leaves RUNNING or PAUSED (R265). -/
def quartzLeave (state cause : Nat) (h : Hub) : Hub :=
  let h1 := { h with polls := h.polls.filter (fun j => j.stage != 0) }.wr Od.QUARTZ_STATE state |>.wr Od.PAUSE_CAUSE cause
    |>.wr Reg.startPend 0
  if h1.polls.isEmpty then h1.closeBatch else h1.wr Reg.batchClose 1

/-- STOP, where it is accepted (Table 8-8). -/
def quartzStop (h : Hub) : Hub :=
  if h.rd Od.QUARTZ_STATE = 0 then (if h.rd Reg.startPend = 0 then h else h.wr Reg.startPend 0) else h.quartzLeave 0 0

/-- A START waits for the next micro-frame (Table 8-8, Table 8-11): 1 from STOPPED, 2 from PAUSED. -/
def pendStart (m : Nat) (h : Hub) : Hub := h.wr Reg.startPend m |>.wr Reg.startUframe (h.timebase / uframeNs + 1)

/-- QUARTZ_CMD (R264, Table 8-8); START needs the hub ID of R33 on a hub that is not yet assigned (R326). -/
def quartzCmd (c : Nat) (h : Hub) : Hub :=
  let st := h.rd Od.QUARTZ_STATE
  let result (r : Nat) (x : Hub) : Hub := x.wr Od.QUARTZ_CMD_RESULT r
  if !h.isOn 5 then result 3 h
  else if c = 1 then
    if st = 1 ∨ h.rd Od.HUB_ID_ASSIGNED = 0 then result 2 h else result 1 (h.pendStart (if st = 0 then 1 else 2))
  else if c = 2 then (if st = 0 then result 2 h else result 1 h.quartzStop)
  else if st = 1 then result 1 (h.quartzLeave 2 1)
  else result 2 h

/-- A write of QUARTZ_CMD with a value of Table 8-8: QUARTZ_CMD_RESULT tells its outcome; while PD5 is not ON the write itself is refused
with DOMAIN_NOT_ON as well (R264, R363). -/
def quartzWrite (c : Nat) (h : Hub) : Hub := 
  let code := h.writeCode Od.QUARTZ_CMD c
  ((if code = 0 then h.keep Od.QUARTZ_CMD c else h).quartzCmd c).wrote code

/-! ### The timebase (R267 to R273) -/

/-- TIME_SET: a step to the written value at the next micro-frame boundary (R267, R272). -/
def timeSet (v : Nat) (h : Hub) : Hub := h.wr Reg.stepTo (v + 1) |>.wr Reg.stepBy 0 |>.wr Reg.stepAt (h.timebase + 1)

/-- TIME_TRIM trims the rate of a source from this instant on (R267). -/
def timeTrim (v : Nat) (h : Hub) : Hub := h.rebase.wr Od.TIME_TRIM v

/-- Polls due in the micro-frames that a step passes over, k from lo to hi, are skipped (R272). -/
def skipStep (lo hi : Nat) (h : Hub) (x : Nat × Nat) : Hub :=
  let m := 2 ^ pollExp x.2
  let n := congruentUpTo m (pollPhase x.2) hi - (if lo = 0 then 0 else congruentUpTo m (pollPhase x.2) (lo - 1))
  if lo ≤ hi ∧ n ≠ 0 then
    let s := h.rd (Od.POLL_STATE x.1)
    (h.wr (Od.POLL_STATE x.1) (putField s 24 2 (satAdd 16 (field s 24 2) n))).add Od.SKIP_TIME_STEP n
  else h

/-- A step waits for its boundary. -/
def stepDue (h : Hub) : Bool := h.rd Reg.stepTo != 0 || h.rd Reg.stepBy != 0

/-- The boundary at which the waiting step is applied: the first micro-frame boundary that the old scale reaches after its decision (R272). -/
def stepBoundary (h : Hub) : Nat := ((h.rd Reg.stepAt - 1) / uframeNs + 1) * uframeNs

/-- A step of the timebase at its boundary a, to b (R269, R272): micro-frames passed over are skipped, the open batch closes, and the SOF that
is called for at a leaves as that of the micro-frame that holds b. A step that would not lead forward is not taken (log entry 59). -/
def stepTimebase (h : Hub) : Hub :=
  let now := h.timebase
  let a := h.stepBoundary
  if !h.isOn 5 ∨ !h.stepDue ∨ now < a then h
  else
    let b := if h.rd Reg.stepTo ≠ 0 then h.rd Reg.stepTo - 1 else a + h.rd Reg.stepBy
    let offset := h.rd Reg.stepTo = 0
    let h1 := h.clear [Reg.stepTo, Reg.stepBy, Reg.stepAt]
    if b ≤ a then h1
    else
      let h2 := if h1.rd Od.QUARTZ_STATE = 1 then h1.enabledEntries.foldl (skipStep (a / uframeNs + 1) (b / uframeNs - 1)) h1 else h1
      let h3 := (h2.closeBatch.setTimebase (b + (now - a))).wr Reg.stepUframe (b / uframeNs + 1)
        |>.wr Reg.stepFrame (if a % 1000000 = 0 then 1 else 0)
      if offset then (h3.inc Od.TIME_STEPS).wr Od.LAST_STEP (b - a) else h3

/-- One tick of 8 ns added or omitted, at most once per 16 µs, until the offset is worked off (R269). An omitted tick holds the
timebase for its length. -/
def slewTick (h : Hub) : Hub :=
  if !h.isOn 5 ∨ (h.rd Reg.lastSlew ≠ 0 ∧ h.now + 1 < h.rd Reg.lastSlew + 16000) then h
  else if 8 ≤ h.rd Reg.slewUp then
    (h.setTimebase (h.timebase + 8)).wr Reg.slewUp (h.rd Reg.slewUp - 8) |>.wr Reg.lastSlew (h.now + 1)
  else if 8 ≤ h.rd Reg.slewDown then
    ((h.setTimebase h.timebase).wr Reg.tbAt (h.now + 8)).wr Reg.slewDown (h.rd Reg.slewDown - 8) |>.wr Reg.lastSlew (h.now + 1)
  else h

/-- The 16 ms since the last accepted time message have passed (Table 8-9). -/
def syncLapse (h : Hub) : Hub :=
  h.expire Tm.sync (fun x => if x.rd Od.SYNC_STATE = 2 ∨ x.rd Od.SYNC_STATE = 3 then x.wr Od.SYNC_STATE 4 |>.wr Reg.goodOffsets 0 else x)

/-- The sync state after an accepted offset (Table 8-9). -/
def syncTo (o : Int) (h : Hub) : Hub :=
  let st := h.rd Od.SYNC_STATE
  let near := decide (o.natAbs ≤ 100)
  if st = 1 ∨ st = 4 then h.wr Od.SYNC_STATE 2 |>.wr Reg.goodOffsets (if near then 1 else 0)
  else if st = 3 then (if 1000 < o.natAbs then (h.wr Od.SYNC_STATE 2 |>.wr Reg.goodOffsets 0).inc Od.LOCK_LOSSES else h)
  else if !near then h.wr Reg.goodOffsets 0
  else if h.rd Reg.goodOffsets + 1 < 16 then h.wr Reg.goodOffsets (h.rd Reg.goodOffsets + 1)
  else h.wr Od.SYNC_STATE 3 |>.wr Reg.goodOffsets 0

/-- FREQ_CORR is adjusted from successive offsets, within ±250 ppm; how is left open (R269; log entry 2). -/
def adjustRate (h : Hub) : Hub :=
  let (x, h1) := h.rebase.fresh
  h1.wr Od.FREQ_CORR (ofSigned 32 ((x % 500001 : Nat) - (250000 : Int)))

/-- An accepted time message (R268, R269): its offset is stepped or slewed, and the sync state follows. A hub that is LOCKED when the message
comes does not step by it. -/
def acceptTime (o : Int) (h : Hub) : Hub :=
  let h0 := h.syncLapse
  let h1 := ((h0.syncTo o).wr Od.LAST_OFFSET (ofSigned 32 o)).adjustRate
  let h2 :=
    if (h1.rd Od.STEP_THRESHOLD : Int) < o ∧ h0.rd Od.SYNC_STATE ≠ 3 then
      h1.wr Reg.stepBy o.toNat |>.wr Reg.stepAt (h1.timebase + 1) |>.clear [Reg.slewUp, Reg.slewDown]
    else h1.wr Reg.slewUp o.toNat |>.wr Reg.slewDown (-o).toNat |>.wr Reg.stepBy 0
  h2.arm Tm.sync (ms 16)

/-- A time message on a link (R268): TIME, the delay in ns when it is known, and t_rx; one that may not be used is counted. A hub that
is SOURCE aligns to none (R267). -/
def timeMessage (p time : Nat) (delay : Option Nat) (rx : Nat) (h : Hub) : Hub :=
  if !h.isOn 5 then h
  else match delay with
    | none => h.inc Od.TIME_MSGS_IGNORED
    | some d =>
      if h.rd Od.CONTROL_UPSTREAM ≠ p then h.inc Od.TIME_MSGS_IGNORED
      else if h.rd Od.SYNC_STATE = 0 then h
      else h.acceptTime ((time : Int) + (d : Nat) - (rx : Nat))

end Hub
end Sys2Proof.Machine
end

