-- ==== Sys2Proof/Machine/TxnOps.lean ====
section
/-!
DEFINITION. Sys2Proof/Machine/TxnOps.lean: how dictionary transactions end (R365, R371) and what a reset or a loss of the control
upstream does (R239, R243, R334, R335).
-/
namespace Sys2Proof.Machine

/-- PATH of a requester (Table 12-8): the trunks 16 and 17, the host link 19, and 0x1000 plus the hub ID of a routed SRC. -/
def txnPath (who : Nat) : Nat := if who = 16 then 1 else if who = 17 then 2 else if who = 19 then 4 else 3

/-- The counter of a received packet's fault (Table 6-10). -/
def faultCounter (p : Nat) : LineFault → Nat
  | .good => Od.RX_PACKETS p
  | .pid => Od.RX_PID_ERR p
  | .crc => Od.RX_CRC_ERR p
  | .code => Od.RX_CODE_ERR p
  | .long => Od.BABBLE p

namespace Hub

/-- A packet's fault is counted (R191). -/
def countFault (p : Nat) (f : LineFault) (h : Hub) : Hub :=
  match f with
  | .good => h
  | .long => (h.inc (Od.BABBLE p)).wr (Reg.heardAt p) (h.now + 1)
  | _ => (h.linkError p (faultCounter p f)).wr (Reg.heardAt p) (h.now + 1)

/-- n valid packets were heard on a port (R78, Table 6-19). -/
def heardPackets (p n : Nat) (h : Hub) : Hub :=
  if n = 0 then h else ((h.add (Od.RX_PACKETS p) n).heardValid p).wr (Reg.heardAt p) (h.now + 1)

/-- A packet with a reserved encoding is discarded and counted against its port as a reserved CODE is (R13, Table 6-10, log entry 58). -/
def reservedPacket (p : Nat) (h : Hub) : Hub := h.countFault p .pid

/-- The hub is the downstream end of an ACTIVE packet link (R161, R162). -/
def answersOn (h : Hub) (p : Nat) : Bool :=
  h.downstreamEnd p && h.rd (Od.LINK_STATE p) == 4 && decide (h.rd (Od.LINK_CLASS p) ≤ 3) && h.phyOn p

/-- The hub is an end of an ACTIVE TS link. -/
def trunkActive (h : Hub) (p : Nat) : Bool := h.rd (Od.LINK_STATE p) == 4 && h.rd (Od.LINK_CLASS p) == 4 && h.phyOn p


/-- A transaction is open, or a SAVE or commit is under way (R365). -/
def refreshOdOpen (h : Hub) : Hub :=
  h.wr Reg.odOpen (if h.odTxns.isEmpty && h.saving.isNone && h.rd Reg.committing == 0 then 0 else 1)

/-- The record of a transaction's end at the head of LAST_COMMITS, and its counter (R371, Tables 12-7 and 12-8). -/
def recordEnd (x : OdTxn) (outcome code write : Nat) (h : Hub) : Hub :=
  let r := pack [(4, x.ref), (1, txnPath x.who), (1, outcome), (1, code), (1, 0), (2, write),
    (2, if txnPath x.who = 3 then x.who - 0x1000 else 0), (4, 0), (8, h.stamp)]
  let h1 := h.wr Od.LAST_COMMITS ((r + 256 ^ 24 * h.rd Od.LAST_COMMITS) % 256 ^ 192)
  h1.inc (if outcome = 1 then Od.COMMITS else if outcome = 2 then Od.COMMITS_REFUSED else Od.TXN_DISCARDED)

/-- A transaction that is open or in validation ends without taking effect (R371). -/
def dropTxn (x : OdTxn) (outcome : Nat) (h : Hub) : Hub :=
  let h1 := { h with odTxns := dropBy OdTxn.who x.who h.odTxns }.recordEnd x outcome 0 x.staged.length
  (if x.stage = 1 then h1.wr Reg.committing 0 else h1).refreshOdOpen

/-- A requester's transaction that has not reached its commit point (R365, R371). -/
def txnBefore (h : Hub) (who : Nat) : Option OdTxn := h.odTxns.find? (fun x => x.who == who && x.stage != 2)

/-- The transactions of a trunk end with a reset or a move of control (Table 12-7). -/
def dropTrunkTxn (p outcome : Nat) (h : Hub) : Hub :=
  match h.txnBefore p with
  | none => h
  | some x => h.dropTxn x outcome

/-- The open control transfer of a link ends without a result, and the stored RESPONSEs are discarded (Table 7-11). -/
def dropControl (p : Nat) (h : Hub) : Hub := { h with controls := dropBy Control.port p h.controls, stored := [] }

/-- Every split slot becomes FREE (Table 7-11); a RUNNING slot's transaction goes on for no slot. -/
def freeAllSlots (h : Hub) : Hub :=
  let unsent := (h.slots.filter (fun s => !s.returned)).length
  { h with
    slots := []
    txns := h.txns.map (fun x : Txn => match x.kind with | .split _ => { x with kind := .split 128 } | _ => x) }.add
      Od.SPLITS_ABORTED unsent

/-- A reset of the control upstream takes effect at t_x (R243, R245, Table 7-11); the reset of the link itself is R169's. -/
def upstreamReset (h : Hub) : Hub :=
  let p := h.rd Od.CONTROL_UPSTREAM
  let ctl := h.controls.any (fun c => c.port == p) || !h.stored.isEmpty
  let txn := (h.txnBefore p).isSome
  let slots := !h.slots.isEmpty
  let quartz := h.rd Od.QUARTZ_STATE == 1
  let h1 := ((h.dropControl p).dropTrunkTxn p 4).freeAllSlots
  let h2 := if quartz then h1.quartzLeave 2 2 else h1
  let acts := (if ctl then 1 else 0) + (if txn then 2 else 0) + (if slots then 4 else 0) + (if quartz then 8 else 0)
  (h2.wr Od.LINK_ADDRESS 0 |>.wr (Reg.myAddr p) 0 |>.wr Reg.upSuspend 0 |>.wr Od.LAST_UPSTREAM_RESET h.stamp |>.wr Od.RESET_ABORTS acts).inc Od.UPSTREAM_RESETS

/-! ### The control upstream (R333 to R335) -/

/-- A trunk is an upstream link of a worker: it attached as sink and is ACTIVE. -/
def sinkActive (h : Hub) (p : Nat) : Bool := h.rd (Od.ATTACH_STATE p) == 5 && h.rd (Od.LINK_STATE p) == 4

/-- The hub's trunks and control upstream follow R333 to R335: only a WORKER or GATEWAY with a hub ID has one. -/
def hasUpstream (h : Hub) : Bool := (h.role == 0 || h.role == 3) && h.rd Od.HUB_ID_ASSIGNED == 1

/-- The control upstream is lost (R334, R335): control moves to the standby, which is ACTIVE (R333), or the worker is isolated. -/
def controlLost (h : Hub) : Hub :=
  let p := h.rd Od.CONTROL_UPSTREAM
  let s := h.rd Od.STANDBY_UPSTREAM
  if (s = 16 ∨ s = 17) ∧ h.sinkActive s = true then
    let h1 := h.wr Od.CONTROL_UPSTREAM s |>.wr Od.STANDBY_UPSTREAM 0xFF |>.wr Od.LAST_CONTROL_MOVE h.stamp |>.wr Reg.upCtl 1
      |>.wr Od.LINK_ADDRESS (h.rd (Reg.myAddr s))
    (((h1.inc Od.CONTROL_MOVES).dropControl p).dropTrunkTxn p 6).hierRecord 2
  else h.wr Reg.isolated 1 |>.wr Reg.upCtl 0

/-- The first trunk that reaches ACTIVE as a sink ends the isolation (R335). -/
def reconnected (p : Nat) (h : Hub) : Hub :=
  if h.rd Reg.isolated = 1 ∧ h.sinkActive p then
    (h.wr Od.CONTROL_UPSTREAM p |>.wr Od.STANDBY_UPSTREAM (if h.rd Od.STANDBY_UPSTREAM = p then 0xFF else h.rd Od.STANDBY_UPSTREAM) |>.wr Reg.isolated 0 |>.wr Reg.upCtl 1 |>.wr Od.LINK_ADDRESS (h.rd (Reg.myAddr p))).hierRecord 5
  else h

/-- The other trunk reaches ACTIVE as a sink: it becomes the standby upstream (R333). -/
def standbyUp (p : Nat) (h : Hub) : Hub :=
  if h.hasUpstream && h.rd Reg.isolated == 0 && h.sinkActive p && h.rd Od.CONTROL_UPSTREAM != p && h.rd Od.STANDBY_UPSTREAM != p
    && (h.rd Od.CONTROL_UPSTREAM == 16 || h.rd Od.CONTROL_UPSTREAM == 17) then
    (h.wr Od.STANDBY_UPSTREAM p).hierRecord 3
  else h

end Hub
end Sys2Proof.Machine
end

