-- ==== Sys2Proof/Machine/Hub.lean ====
section
/-!
DEFINITION. Sys2Proof/Machine/Hub.lean: the hub engine (chapter 7, R215 to R248).
-/
namespace Sys2Proof.Machine

/-- The number of packets of a burst that NEXT acknowledges, from its first SEQ (R187). -/
def ackedOf (first next : Nat) : Nat := (next % 16 + 16 - first % 16) % 16

namespace Hub

/-! ### Port commands (R218) -/

/-- The result of a port command; it takes the place of a pending one (R218). -/
def cmdResult (p r : Nat) (h : Hub) : Hub := h.wr (Od.PORT_CMD_RESULT p) r |>.wr (Reg.cmdPending p) (if r = 5 then 1 else 0)

/-- DISABLE (Table 7-3). -/
def cmdDisable (p : Nat) (h : Hub) : Hub :=
  if 2 ≤ h.rd (Od.PORT_STATE p) then ((h.movePort p 3 1).wr (Od.DISABLE_CAUSE p) 1).cmdResult p 1 else h.cmdResult p 2

/-- ENABLE (Table 7-3): not while an alternate function holds the pair. -/
def cmdEnable (p : Nat) (h : Hub) : Hub :=
  let st := h.rd (Od.PORT_STATE p)
  if p < 16 ∧ h.rd (Od.ALT_STATE p) ≠ 0 then h.cmdResult p 2
  else if st = 8 ∨ (st = 3 ∧ h.rd (Od.DISABLE_CAUSE p) = 1) then
    if h.rd (Reg.pullSeen p) ≠ 0 ∧ h.phyOn p = true then (h.enterResetting p).cmdResult p 5 else (h.enterDisconnected p).cmdResult p 1
  else h.cmdResult p 2

/-- RESET (Table 7-3). -/
def cmdReset (p : Nat) (h : Hub) : Hub :=
  if h.rd (Od.PORT_STATE p) = 5 ∨ h.rd (Od.PORT_STATE p) = 6 then (h.enterResetting p).cmdResult p 5 else h.cmdResult p 2

/-- SUSPEND (Table 7-3, R238): it takes effect at the next SOF time. -/
def cmdSuspend (p : Nat) (h : Hub) : Hub :=
  if h.rd (Od.PORT_STATE p) ≠ 5 then h.cmdResult p 2
  else if h.slotsBusy p then h.cmdResult p 3
  else (h.wr (Reg.suspendDue p) 1).cmdResult p 1

/-- RESUME (Table 7-3, R240). -/
def cmdResume (p : Nat) (h : Hub) : Hub :=
  if h.rd (Od.PORT_STATE p) ≠ 6 then h.cmdResult p 2
  else if !h.phyOn p then h.cmdResult p 4
  else (if h.running (Tm.listen p) then h else h.startListen p 1).cmdResult p 5

/-- PORT_CMD (R218): 1 DISABLE, 2 ENABLE, 3 RESET, 4 SUSPEND, 5 RESUME. -/
def portCmd (p c : Nat) (h : Hub) : Hub :=
  if c = 1 then h.cmdDisable p else if c = 2 then h.cmdEnable p else if c = 3 then h.cmdReset p
  else if c = 4 then h.cmdSuspend p else h.cmdResume p

/-! ### Transactions that end (R222, R224, R232) -/

/-- A delivery ends: its copy is released, and the transfer, cut short, is closed before the next one (R232). -/
def dropDelivery (p : Nat) (h : Hub) : Hub :=
  match h.begunCopy p with
  | none => h
  | some (f, c) => ((h.endDelivery p).inc (Od.DELIVERY_DROPPED p)).releaseCopy f c

/-- A delivery completes (R232, R322). -/
def finishDelivery (p : Nat) (h : Hub) : Hub :=
  match h.begunCopy p with
  | none => h
  | some (f, c) =>
    (({ h with deliveries := dropBy Delivery.port p h.deliveries }.inc (Od.DELIVERED p)).countOut p f.header).releaseCopy f c

/-- Packets of a delivery's burst were accepted (R185, R232); where the delivery ended while its burst was on the wire and the device took part
of the frame, it counts as truncated and is closed. -/
def deliveryMoves (x : Txn) (next : Nat) (h : Hub) : Hub :=
  let a := epIndex x.dev x.ep
  let n := ackedOf x.first next
  let h1 := h.wr (Reg.seqOut a) (next % 16)
  match h1.deliveries.find? (fun v => v.port == x.port), h1.begunCopy x.port with
  | some v, some (f, _) =>
    if deliveryPackets (h1.portMax x.port) (hLen f.header) ≤ v.sent + n then h1.finishDelivery x.port
    else { h1 with deliveries := putBy Delivery.port { v with sent := v.sent + n } h1.deliveries }
  | _, _ =>
    if n = 0 ∨ h1.rd (Reg.closeOwed a) = 1 ∨ (n = x.packets ∧ x.len < x.packets * h1.portMax x.port) then h1
    else (h1.inc (Od.DELIVERY_TRUNCATED x.port)).wr (Reg.closeOwed a) 1

/-- The same transaction goes on the wire again at this stage, as a new one (R228). -/
def again (x : Txn) (h : Hub) : Hub := h.goTxn { x with tries := 0, result := none }

/-- IDENTIFY of an enumeration attempt goes on by its result (R224, R228): `got` collects the record. -/
def identifyEnds (x : Txn) (r : TxnResult) (h : Hub) : Hub :=
  let p := x.port
  let mx := h.portMax p
  let ts := h.rd (Od.LINK_CLASS p) == 4
  match r with
  | .stall => h.errorHold p 2
  | .error => if x.heard then h.errorHold p 6 else h.enumSilent p
  | .babble => h.errorHold p 6
  | .nak _ => h.again x
  | .nyet _ => h.again x
  | .gap => h.again x
  | .ack _ => if x.stage = 0 then h.controlStage p .identify 0 1 0 (packetsOf mx 32) true else h.identified p x.got
  | .data _ packets len payload =>
    if ts then h.identified p (payload % 256 ^ 32)
    else
      let got := x.got + payload % 256 ^ len * 256 ^ (x.first * mx)
      let n := x.first + packets
      if 32 ≤ n * mx ∨ len < packets * mx then
        let h1 := h.controlStage p .identify 0 2 0 1 true
        match h1.txnOf p with
        | some y => h1.startTxn { y with got := got % 256 ^ 32 }
        | none => h1
      else h.again { x with first := n, got := got, packets := packetsOf mx 32 - n }

/-- SET_ADDRESS goes on by its result (R227, R228). -/
def setAddressEnds (x : Txn) (b : Nat) (r : TxnResult) (h : Hub) : Hub :=
  match r with
  | .stall => h.errorHold x.port 5
  | .error => h.errorHold x.port 5
  | .babble => h.errorHold x.port 5
  | .nak _ => h.again x
  | .nyet _ => h.again x
  | .gap => h.again x
  | .ack _ => if x.stage = 0 then h.controlStage x.port (.setAddress b) 0 2 0 1 true else h.portAddressed x.port b
  | .data _ _ _ _ => h.portAddressed x.port b

/-- CLEAR_HALT under R255 goes on by its result; STALL or error leaves the sequence state as it was. -/
def resyncEnds (x : Txn) (a : Nat) (r : TxnResult) (h : Hub) : Hub :=
  match r with
  | .ack _ => if x.stage = 0 then h.controlStage x.port (.resync a) x.dev 2 0 1 true else h.wr (Reg.seqIn a) 0
  | .data _ _ _ _ => h.wr (Reg.seqIn a) 0
  | .nak _ => h.again x
  | _ => h

/-- The send number of an endpoint follows NEXT of a frame's OUT or SETUP (R187, R235); a token's own SEQ comes with it. -/
def splitMoves (s : Slot) (n : Nat) (h : Hub) : Hub :=
  if s.carrier = 1 then h.wr (Reg.seqOut (epIndex s.tdev (s.target % 16))) (n % 16) else h

/-- The result of a split slot (R189, R190, R233, Table 7-8). -/
def splitEnds (i : Nat) (r : TxnResult) (h : Hub) : Hub :=
  match h.slots.find? (fun s => s.id == i) with
  | none => h
  | some s =>
    let s0 := { s with len := 0, data := 0, packets := 0, seq := 0 }
    let a := epIndex s.tdev (s.target % 16)
    match r with
    | .ack n => (h.splitMoves s n).slotDone { s0 with result := 0, seq := n }
    | .nak n => h.slotDone { s0 with result := 1, seq := n }
    | .stall => h.slotDone { s0 with result := 2 }
    | .nyet n => ((h.splitMoves s n).wr (Reg.pingOwed a) 1).slotDone { s0 with result := 3, seq := n }
    | .data q n len payload => h.slotDone { s0 with result := 4, seq := q, packets := n, len := len, data := payload }
    | _ => h.slotDone { s0 with result := 5 }

/-- A burst of a delivery ends (R232). -/
def deliverEnds (x : Txn) (r : TxnResult) (h : Hub) : Hub :=
  match r with
  | .ack n => h.deliveryMoves x n
  | .nyet n => (h.wr (Reg.pingOwed (epIndex x.dev x.ep)) 1).deliveryMoves x n
  | .nak _ => h
  | _ => h.dropDelivery x.port

/-- The closing packet of a partial transfer (R232). -/
def closeEnds (x : Txn) (r : TxnResult) (h : Hub) : Hub :=
  let a := epIndex x.dev x.ep
  match r with
  | .ack n => h.wr (Reg.closeOwed a) 0 |>.wr (Reg.seqOut a) n
  | .nyet n => h.wr (Reg.closeOwed a) 0 |>.wr (Reg.seqOut a) n |>.wr (Reg.pingOwed a) 1
  | _ => h

/-- A PING for a delivery ended in STALL or error (R232); one for a split or for a hub leaves its work to come again. -/
def pingFailed (x : Txn) (h : Hub) : Hub :=
  match h.deliveries.find? (fun v => v.port == x.port && v.dest == epIndex x.dev x.ep) with
  | none => h
  | some _ => h.dropDelivery x.port

/-- A PING ends (R189, R232): after STALL the endpoint's next OUT learns the halt itself. -/
def pingEnds (x : Txn) (r : TxnResult) (h : Hub) : Hub :=
  match r with
  | .ack _ => h.wr (Reg.pingOwed (epIndex x.dev x.ep)) 0
  | .nak _ => h
  | .stall => (h.wr (Reg.pingOwed (epIndex x.dev x.ep)) 0).pingFailed x
  | _ => h.pingFailed x

/-- IN to a child hub ends (R221): a burst of the full COUNT is followed by the same IN at once. -/
def childInEnds (x : Txn) (r : TxnResult) (h : Hub) : Hub :=
  match r with
  | .data _ packets _ _ => if packets = x.packets then h else h.wrBit (Reg.childIn x.port) x.ep false
  | _ => h.wrBit (Reg.childIn x.port) x.ep false

/-- A burst of a frame to a child hub ends (R221). -/
def frameOutEnds (x : Txn) (r : TxnResult) (h : Hub) : Hub :=
  let a := epIndex x.dev x.ep
  let moved (n : Nat) (y : Hub) : Hub := y.wr (Reg.seqOut a) (n % 16) |>.wr (Reg.outPk x.port) (y.rd (Reg.outPk x.port) + ackedOf x.first n)
  match r with
  | .ack n => moved n h
  | .nyet n => (moved n h).wr (Reg.pingOwed a) 1
  | _ => h

/-- What a transaction's originator does with its result. -/
def originator (x : Txn) (r : TxnResult) (h : Hub) : Hub :=
  match x.kind with
  | .identify => h.identifyEnds x r
  | .setAddress b => h.setAddressEnds x b r
  | .poll => h.pollEnds x.port r
  | .split i => h.splitEnds i r
  | .deliver => h.deliverEnds x r
  | .close => h.closeEnds x r
  | .ping => h.pingEnds x r
  | .timePing => h
  | .childIn => h.childInEnds x r
  | .frameOut => h.frameOutEnds x r
  | .resync a => h.resyncEnds x a r

/-- A result is an error (R222). -/
def isError : TxnResult → Bool
  | .error => true
  | .babble => true
  | _ => false

/-- A transaction ends (R222): its errors are counted, its originator takes the result, and an ENABLED port whose CONSECUTIVE_ERRORS
reaches ERROR_LIMIT enters ERROR_HOLD. -/
def transactionEnd (p : Nat) (h : Hub) : Hub :=
  match h.txnOf p with
  | none => h
  | some x =>
    match (if h.rd (Reg.burstAck p) = 0 then x.result else none) with
    | none => h
    | some r =>
      let h1 := { h with txns := dropBy Txn.port p h.txns }
      let h2 := if isError r then (h1.inc (Od.TRANSACTION_ERRORS p)).inc (Od.CONSECUTIVE_ERRORS p) 8
        else (h1.wr (Od.CONSECUTIVE_ERRORS p) 0).heardValid p
      let h3 := h2.originator x r
      let h4 := if isError r ∧ h3.rd (Od.PORT_STATE p) = 5 ∧ h3.rd (Od.ERROR_LIMIT p) ≤ h3.rd (Od.CONSECUTIVE_ERRORS p) then h3.errorHold p 6 else h3
      h4.suspendForUpstream

/-- The far end still transmits at the guard (R223): a poll on the wire ends as BABBLE, and the port enters ERROR_HOLD. -/
def babble (p : Nat) (h : Hub) : Hub :=
  if h.engineRuns p ∧ 4 ≤ h.rd (Od.PORT_STATE p) then ((h.pollEnds p .babble).inc (Od.BABBLE p)).errorHold p 7
  else h.inc (Od.BABBLE p)

/-- tEnumStart has passed (R224). -/
def enumStart (p : Nat) (h : Hub) : Hub :=
  h.expire (Tm.enumStart p) (fun x => if x.rd (Od.PORT_STATE p) = 4 ∧ x.rd (Od.LINK_STATE p) = 4 then x.startEnum p else x)

/-- DELIVERY_TIMEOUT of the delivery on a port has passed (R232). -/
def deliveryTimeout (p : Nat) (h : Hub) : Hub :=
  match h.deliveries.find? (fun v => v.port == p) with
  | none => h
  | some v => if v.deadline ≤ h.now then h.dropDelivery p else h

/-! ### Split transactions (R233 to R236) -/

/-- The slot of a target: PORT, TDEV, EP and DIR (R233). -/
def slotFor (h : Hub) (p tdev ep : Nat) (dir : Bool) : Option Slot :=
  h.slots.find? (fun s => s.port == p && s.tdev == tdev && s.target % 16 == ep && hasBit s.target 6 == dir)

/-- A slot can be created on a port: PD2 is ON, one is FREE, and SLOT_LIMIT is not reached (R233). -/
def slotRoom (h : Hub) (p : Nat) : Bool :=
  h.isOn 2 && decide (h.slots.length < 128) && decide (h.slotsOpen p < h.rd (Od.SLOT_LIMIT p))

/-- A QUEUED slot more (R233, R236), in the lowest FREE place. -/
def createSlot (p tdev target carrier tag src cls count len data seq : Nat) (h : Hub) : Hub :=
  let i := ((List.range 128).find? (fun i => h.slots.all (fun s => s.id != i))).getD 127
  let s : Slot :=
    { id := i, state := 1, port := p, tdev := tdev, target := target, carrier := carrier, result := 0, tag := tag, src := src, cls := cls,
      count := count, len := len, data := data, seq := seq, packets := 0, created := h.stamp,
      deadline := h.now + ms (h.rd Od.SPLIT_RUN_MAX), returned := false }
  { h with slots := h.slots ++ [s] }.inc Od.SPLITS_STARTED

/-- The port of a split can carry it: ENABLED, with TDEV assigned to it (R234, R235). -/
def splitPortOk (h : Hub) (p tdev : Nat) : Bool := h.rd (Od.PORT_STATE p) == 5 && h.assignedTo p tdev

/-- SPLIT_START for this hub (R190, R234): STALL when the port cannot carry the transaction or its data exceed the MAX of the target's class
(R182), NAK without a slot, ACK otherwise. -/
def splitTaken (u body seq len data : Nat) (h : Hub) : Hub :=
  let p := bits body 31 28
  let dir := hasBit body 25
  let ep := bits body 23 20
  let tdev := bits body 19 12
  let target := ep + 16 * bits body 27 26 + (if dir then 64 else 0) + (if hasBit body 24 then 128 else 0)
  if !h.splitPortOk p tdev || (!dir && decide (h.portMax p < len)) then h.emit (.handshake u 0xB 0)
  else match h.slotFor p tdev ep dir with
    | some s =>
      if s.state ≠ 3 then h.emit (.handshake u 0xA 0)
      else
        let h1 := h.freeSlot s.id
        if !h1.slotRoom p then (h1.emit (.handshake u 0xA 0)).inc Od.SPLITS_NO_SLOT
        else (h1.createSlot p tdev target 0 0 u 0 0 (if dir then 0 else len) data seq).emit (.handshake u 9 (if dir then 0 else (seq + 1) % 16))
    | none =>
      if !h.slotRoom p then (h.emit (.handshake u 0xA 0)).inc Od.SPLITS_NO_SLOT
      else (h.createSlot p tdev target 0 0 u 0 0 (if dir then 0 else len) data seq).emit (.handshake u 9 (if dir then 0 else (seq + 1) % 16))

/-- SPLIT_START, body of Table 6-9, with its DATA packet for DIR 0 (R181, R190, R234): reserved encodings and a DATA packet over the link's MAX
are discarded and counted (R13, R182). -/
def splitStart (u body seq len data : Nat) (h : Hub) : Hub :=
  let dir := hasBit body 25
  if !h.answersOn u then h
  else if bits body 7 0 = 255 ∨ bits body 27 26 = 3 ∨ (hasBit body 24 && dir) then h.reservedPacket u
  else if !dir && decide (h.portMax u < len) then (h.heardPackets u 1).countFault u .long
  else
    let h1 := h.heardPackets u (if dir then 1 else 2)
    if bits body 7 0 ≠ h.rd (Reg.myAddr u) then h1 else h1.splitTaken u body seq len data

/-- The held result of a DONE slot goes to the upstream end (R190, R234): DATA waits for its ACK; any other result frees the slot.
A result that is no answer of the device is given as STALL. -/
def returnSplit (u : Nat) (s : Slot) (h : Hub) : Hub :=
  if s.result = 4 then
    ((h.putSlot { s with returned := true }).emit (.dataBurst u (s.target % 16) s.seq s.packets s.len s.data)).wr (Reg.splitAck u) (s.id + 1)
  else
    let code := if s.result = 0 then 9 else if s.result = 1 then 0xA else if s.result = 3 then 0xC else 0xB
    ((h.freeSlot s.id).emit (.handshake u code (if code = 0xB then 0 else s.seq % 16))).inc Od.SPLITS_COMPLETED

/-- SPLIT_COMPLETE, body of Table 6-9 (R190, R234). -/
def splitComplete (u body : Nat) (h : Hub) : Hub :=
  if !h.answersOn u then h
  else if bits body 7 0 = 255 ∨ bits body 27 26 = 3 ∨ (hasBit body 24 && hasBit body 25) then h.reservedPacket u
  else
    let h1 := h.heardPackets u 1
    if bits body 7 0 ≠ h1.rd (Reg.myAddr u) then h1
    else match h1.slotFor (bits body 31 28) (bits body 19 12) (bits body 23 20) (hasBit body 25) with
      | none => h1.emit (.handshake u 0xB 0)
      | some s => if s.state = 3 then h1.returnSplit u s else h1.emit (.handshake u 0xC 0)

/-- A split request of Table 7-7 has no reserved encoding, and its LENGTH fits the frame (R235). -/
def splitRequestOk (len v : Nat) : Bool :=
  let target := byteAt v 4
  let n := field v 6 2
  decide (byteAt v 2 ≤ 15) && bits target 5 4 != 3 && !(hasBit target 7 && hasBit target 6)
    && (if hasBit target 6 then n == 0 else byteAt v 5 % 8 == 0 && decide (n ≤ 1016) && (!hasBit target 7 || n == 8))
    && decide (8 + n ≤ len)

/-- A split-service frame to hub:0:14 (R235): SRC, CLASS, and the payload of Table 7-7; a hub without its ID takes part in no routed
traffic (R33, R284). -/
def splitRequest (src cls len v : Nat) (h : Hub) : Hub :=
  let p := byteAt v 2
  let tdev := byteAt v 3
  let target := byteAt v 4
  let n := field v 6 2
  let tag := field v 0 2
  let reply (r : Nat) (x : Hub) : Hub :=
    x.completionFrame
      { id := 128, state := 3, port := p, tdev := tdev, target := target, carrier := 1, result := r, tag := tag, src := src, cls := cls,
        count := 0, len := 0, data := 0, seq := 0, packets := 0, created := 0, deadline := 0, returned := true }
  let take (x : Hub) : Hub :=
    if !x.slotRoom p then (reply 6 x).inc Od.SPLITS_NO_SLOT
    else x.createSlot p tdev target 1 tag src cls (byteAt v 5 % 8) n (field v 8 n) 0
  if h.rd Od.HUB_ID_ASSIGNED = 0 then h
  else match h.slots.find? (fun s => s.carrier == 1 && s.tag == tag && s.src == src) with
  | some s => if s.state = 3 then h.completionFrame s else h
  | none =>
    if !splitRequestOk len v then reply 10 h
    else if !h.splitPortOk p tdev then reply 7 h
    else if 8 * h.portMax p < n then reply 10 h
    else match h.slotFor p tdev (target % 16) (hasBit target 6) with
      | some s => if s.state = 3 then take (h.freeSlot s.id) else (reply 6 h).inc Od.SPLITS_NO_SLOT
      | none => take h

/-- A slot still QUEUED tSplitRun after its creation (R236). -/
def splitRunTimeout (i : Nat) (h : Hub) : Hub :=
  match h.slots.find? (fun s => s.id == i) with
  | none => h
  | some s =>
    if s.state = 1 ∧ s.deadline ≤ h.now then
      ((h.slotDone { s with result := 9, len := 0, data := 0, packets := 0, seq := 0 }).inc Od.SPLITS_TIMEOUT).suspendForUpstream
    else h

/-- tSplitHold of a DONE slot has passed (R234 to R236). -/
def splitHoldExpiry (i : Nat) (h : Hub) : Hub :=
  match h.slots.find? (fun s => s.id == i) with
  | none => h
  | some s =>
    if s.state = 3 ∧ s.deadline ≤ h.now then
      (if s.returned then h.freeSlot i else (h.freeSlot i).inc Od.SPLITS_EXPIRED)
    else h

/-! ### Resume and wake (R239 to R242) -/

/-- The stamp from which remote wake may be sent on a link: SUSPENDED has then lasted tWakeHold (R210). -/
def wakeFrom (h : Hub) (u : Nat) : Nat := max h.now (h.rd (Reg.suspAt u) - 1 + ms 5)

/-- Remote wake goes out on the control upstream: K on a packet link (R210); on a TS link /TR1/, and the link trains again (R211). -/
def wakeUpstream (u : Nat) (h : Hub) : Hub :=
  let start := h.wakeFrom u
  let h1 := h.emit (.remoteWake u start)
  if h.rd (Od.LINK_CLASS u) = 4 then ((h1.linkTo u 6).wr (Reg.retrain u) 1).arm (Tm.train u) (start - h.now + ms 11) else h1

/-- A wake is passed upstream (R230, R241): a record while the control upstream is ACTIVE; while it is SUSPENDED the record is owed until the
link is ACTIVE, and where UPSTREAM_WAKE is 1 remote wake is sent. -/
def passWake (p : Nat) (h : Hub) : Hub :=
  let u := h.rd Od.CONTROL_UPSTREAM
  if (u = 16 ∨ u = 17) ∧ h.rd (Od.LINK_STATE u) = 5 then
    let h1 := h.wrBit Reg.wakeOwed p true
    if h.rd Od.UPSTREAM_WAKE = 1 then h1.wakeUpstream u else h1
  else h.portRecord p 4 (h.rd (Od.RESUME_CAUSE p)) 0

/-- The resume listen has passed (R240, R242): a coincident wake is settled, a wake that came first is taken as R241 takes one, and the hub
drives the resume. -/
def listenEnd (p : Nat) (h : Hub) : Hub :=
  h.expire (Tm.listen p) (fun x =>
    if x.rd (Od.PORT_STATE p) ≠ 6 then x
    else
      let tc := x.rd (Reg.listenStart p) - 1
      let k := x.rd (Reg.wakeOnset p)
      if k = 0 then x.driveResume p
      else if tc ≤ k - 1 + 2000 ∧ k - 1 < tc + 2000 then
        ((x.wr (Od.COINCIDENT_WAKE p) 1).inc (Od.COINCIDENT_WAKES p)).driveResume p
      else if k - 1 < tc ∧ x.rd (Reg.wakePresent p) = 1 then
        ((((x.wr (Od.RESUME_CAUSE p) 2).settleCmd p 1).inc (Od.WAKES_TAKEN p)).driveResume p).passWake p
      else x.driveResume p)

/-- A remote wake is taken over (R241, R242), once the port's PHY domain is ON. A link that restarted from DOWN, because its domain was OFF,
cannot resume and is reset (Table 7-1, Table 14-2, log entry 57). -/
def wakeTaken (p : Nat) (h : Hub) : Hub :=
  if h.rd (Od.PORT_STATE p) = 6 ∧ h.rd (Od.WAKE_ENABLE p) = 1 ∧ h.rd (Reg.wakePresent p) = 1 ∧ h.phyOn p = true
    ∧ h.running (Tm.listen p) = false then
    let h1 := (h.wr (Od.RESUME_CAUSE p) 2).inc (Od.WAKES_TAKEN p)
    (if h1.rd (Od.LINK_STATE p) = 5 then h1.driveResume p else h1.enterResetting p).passWake p
  else h

/-- The control upstream is ACTIVE again by resume (R239, R241, R427): the resumes wait for an armed command that runs. -/
def upstreamResumed (h : Hub) : Hub :=
  let u := h.rd Od.CONTROL_UPSTREAM
  if h.rd Reg.upSuspend = 0 ∨ h.rd (Od.LINK_STATE u) ≠ 4 then h
  else
    if h.group.any (fun g => g.source == 2) then h.wr Reg.upSuspend 0 else h.resumeForUpstream

/-- An upstream reset acts once at its stamp t_x (R243). -/
def upstreamResetOnce (h : Hub) : Hub :=
  if h.rd Reg.lastUpReset = h.now + 1 then h else h.upstreamReset.wr Reg.lastUpReset (h.now + 1)

end Hub

/-! ### The commands -/

/-- PORT_CMD DISABLE. -/
def execPortCmdDisable (t : Stamp) (p : Cable) (s : State) : Out := act t s (Hub.writing (Od.PORT_CMD p) 1 (Hub.portCmd p 1))

/-- PORT_CMD ENABLE. -/
def execPortCmdEnable (t : Stamp) (p : Cable) (s : State) : Out := act t s (Hub.writing (Od.PORT_CMD p) 2 (Hub.portCmd p 2))

/-- PORT_CMD RESET. -/
def execPortCmdReset (t : Stamp) (p : Cable) (s : State) : Out := act t s (Hub.writing (Od.PORT_CMD p) 3 (Hub.portCmd p 3))

/-- PORT_CMD SUSPEND. -/
def execPortCmdSuspend (t : Stamp) (p : Cable) (s : State) : Out := act t s (Hub.writing (Od.PORT_CMD p) 4 (Hub.portCmd p 4))

/-- PORT_CMD RESUME. -/
def execPortCmdResume (t : Stamp) (p : Cable) (s : State) : Out := act t s (Hub.writing (Od.PORT_CMD p) 5 (Hub.portCmd p 5))

/-- The port takes its next work; `activity` says that a monitor shot since the last turn met activity on the line and was discarded
(R48). -/
def execHubPortTurn (t : Stamp) (p : Cable) (activity : Bool) (s : State) : Out :=
  act t s (fun h => (if activity && decide (p.val < 16) then h.shotLost p else h).takeWork p)

/-- The transaction on the wire of a port ends. -/
def execPortTransactionEnd (t : Stamp) (p : Cable) (s : State) : Out := act t s (Hub.transactionEnd p)

/-- The far end still transmits at the guard. -/
def execBabbleDetected (t : Stamp) (p : Cable) (s : State) : Out := act t s (Hub.babble p)

/-- tEnumStart expires. -/
def execEnumStart (t : Stamp) (p : Cable) (s : State) : Out := act t s (Hub.enumStart p)

/-- DELIVERY_TIMEOUT expires. -/
def execDeliveryTimeout (t : Stamp) (p : Cable) (s : State) : Out := act t s (Hub.deliveryTimeout p)

/-- SPLIT_START on trunk or peer link u: the body of Table 6-9, and for DIR 0 the DATA packet's SEQ, length and payload. -/
def execSplitStartToken (t : Stamp) (u : Cable) (body : Word) (seq : Fin 16) (len data : Nat) (s : State) : Out :=
  act t s (Hub.splitStart u body.toNat seq len (data % 256 ^ len))

/-- SPLIT_COMPLETE: the body of Table 6-9. -/
def execSplitCompleteToken (t : Stamp) (u : Cable) (body : Word) (s : State) : Out := act t s (Hub.splitComplete u body.toNat)

/-- A DATA frame for hub:0:14: SRC, CLASS, LEN and the payload. -/
def execSplitRequestFrame (t : Stamp) (src : BitVec 24) (cls : Fin 4) (len payload : Nat) (s : State) : Out :=
  act t s (Hub.splitRequest src.toNat cls len payload)

/-- A slot has been QUEUED for tSplitRun. -/
def execSplitRunTimeout (t : Stamp) (slot : Fin 128) (s : State) : Out := act t s (Hub.splitRunTimeout slot)

/-- tSplitHold of a slot expires. -/
def execSplitHoldExpiry (t : Stamp) (slot : Fin 128) (s : State) : Out := act t s (fun h => (h.splitHoldExpiry slot).suspendForUpstream)

/-- The resume listen ends. -/
def execResumeListenEnd (t : Stamp) (p : Cable) (s : State) : Out := act t s (Hub.listenEnd p)

/-- A remote wake is taken over. -/
def execWakeTaken (t : Stamp) (p : Cable) (s : State) : Out := act t s (Hub.wakeTaken p)

/-- The control upstream has returned to ACTIVE by resume. -/
def execUpstreamResumed (t : Stamp) (s : State) : Out := act t s Hub.upstreamResumed

/-- A reset of the control upstream is recognised. -/
def execUpstreamReset (t : Stamp) (s : State) : Out := act t s Hub.upstreamResetOnce

/-- The path to the manager comes ON: what was held goes out (R110, R230, R332, R420, R463). -/
def execManagerPathOn (t : Stamp) (s : State) : Out := act t s Hub.pathUp

end Sys2Proof.Machine
end

