-- ==== Sys2Proof/Machine/Line.lean ====
section
/-!
DEFINITION. Sys2Proof/Machine/Line.lean: the line monitor, the polarity probe and reflectometry (chapter 2, R44 to R61).
-/
namespace Sys2Proof.Machine

/-- SCREEN_FAULT_GROUP of a mean screen potential, both in mV (R46). -/
def screenGroup (mean : Int) (vbus : Nat) : Nat :=
  let v : Int := vbus
  if vbus < 12000 then 0
  else if 5 * (mean - v) ≤ v ∧ 5 * (v - mean) ≤ v then 1
  else if 5 * mean ≤ v ∧ -v ≤ 5 * mean then 2
  else 3

namespace Hub

/-- A 10 s period of screen injection ends, and the next begins (R45, R46, R49, R50). -/
def screenEnd (p r : Nat) (mean : Int) (m : Sense) (h : Hub) : Hub :=
  let start := h.rd (Reg.screenFrom p)
  let h1 := (h.sense p m).wr (Reg.screenFrom p) (h.now + 1)
  if h1.rd (Od.MONITOR_ENABLE p) = 0 then h1
  else if h1.measureSpoiled p start then h1.inc (Od.MEAS_DISCARDED p)
  else
    let v := inRange 100000000 r
    let h2 := h1.wr (Od.INSUL_SCREEN p) v |>.wr (Od.SCREEN_FAULT_GROUP p) (screenGroup mean m.vbus.toNat)
    (if v = notMeasured then h2 else h2.add (Reg.screenSum p) v 64 |>.inc (Reg.screenCount p) 32).judgeLine p

/-- The mean of a sum taken over the hour joins its measurement (R50). -/
def meanOfSum (p sub sum count : Nat) (h : Hub) : Hub :=
  if h.rd count = 0 then h else h.addMean p sub (h.rd sum / h.rd count)

/-- The data line that carries the far end's presence pull-up: 1 D+, 2 D−, 0 none. A far end takes it off for a grant and at HS and TS
(R167, R208). -/
def pullOn (h : Hub) (p : Nat) : Nat :=
  let st := h.rd (Od.LINK_STATE p)
  let c := h.rd (Od.LINK_CLASS p)
  if st = 3 ∨ (st = 4 ∧ 3 ≤ c) ∨ (4 ≤ st ∧ c = 4) then 0 else h.rd (Reg.pullSeen p)

/-- The spare CF wire that the hub's cable-electronics supply feeds: 1 CF1, 2 CF2, 0 none; it reads as not measured (R128). -/
def suppliedWire (h : Hub) (p : Nat) : Nat :=
  if h.rd (Od.CFS_STATE p) = 1 then (if hasBit (h.rd (Od.ORIENTATION p)) 0 then 1 else 2) else 0

/-- The present reading and the mean of one measurement of the bridge, within its range (Table 2-5). -/
def bridgeReading (p sub top : Nat) (ok : Bool) (v mean : Nat) (h : Hub) : Hub :=
  if ok then (h.wr (lineKey p sub) (inRange top v)).addMean p sub (inRange top mean) else h.wr (lineKey p sub) notMeasured

/-- The bridge's readings of the hour (R45, R51, R128): the line with the presence pull-up and the supplied CF wire are not measured, and
CF_LEAK_BASE is written while the port is UNATTACHED. -/
def bridgeHour (p : Nat) (r : HourReadings) (h : Hub) : Hub :=
  let v := h.vbusMeasured p
  let w := h.suppliedWire p
  let h1 := h.bridgeReading p 0x08 100000000 (v && h.pullOn p != 1) r.dp.toNat r.meanDp.toNat
  let h2 := h1.bridgeReading p 0x09 100000000 (v && h.pullOn p != 2) r.dn.toNat r.meanDn.toNat
  let h3 := h2.bridgeReading p 0x0A 50000000 (v && w != 1) r.cf1.toNat r.meanCf1.toNat
  let h4 := h3.bridgeReading p 0x0B 50000000 (v && w != 2) r.cf2.toNat r.meanCf2.toNat
  let h5 := h4.bridgeReading p 0x0C 1000000 (h.traceAllowed p) r.dpdn.toNat r.meanDpdn.toNat
  if h.rd (Od.ATTACH_STATE p) = 0 then
    h5.wr (Od.CF_LEAK_BASE p) (min 255 r.leak1.toNat * 256 + min 255 r.leak2.toNat) else h5

/-- An hour window of the monitor closes: the stamp lies in another window than the last that was closed (R49, R50). -/
def hourEnd (p : Nat) (r : HourReadings) (overlap : Bool) (h : Hub) : Hub :=
  let sums := [Reg.screenSum p, Reg.screenCount p, Reg.probeSum p, Reg.probeCount p]
  if hourOf h.stamp = h.rd (Reg.hourWin p) then h
  else
    let h0 := h.wr (Reg.hourWin p) (hourOf h.stamp)
    if h0.rd (Od.MONITOR_ENABLE p) = 0 then h0.clear sums
    else
      let h1 := (h0.meanOfSum p 0x06 (Reg.screenSum p) (Reg.screenCount p)).meanOfSum p 0x05 (Reg.probeSum p) (Reg.probeCount p)
      let h2 := h1.clear sums
      (if overlap || h2.measureBlocked p then h2.inc (Od.MEAS_DISCARDED p) else h2.bridgeHour p r).judgeLine p

/-- No monitor slot in 64 consecutive micro-frames while shots are wanted (R47): the next SOF of the port is followed by a forced one. -/
def forceSlot (p : Nat) (h : Hub) : Hub :=
  if h.slotWanted p && decide (h.rd (Reg.slotAt p) + 64 ≤ h.gridTime / 125000 + 1) then h.wr (Reg.monOwed p) 1 else h

/-- A trace of kind `kind` that overlaps an event of R49 is discarded whole; a trip-location trace is owed again. -/
def traceSpoiled (p kind : Nat) (h : Hub) : Hub :=
  ((if kind = 2 then h.wr (Reg.tripTrace p) 2 else h).wr (Reg.tdrRun p) 0).inc (Od.MEAS_DISCARDED p)

/-- The 256th shot of a trace is averaged (R49, R57 to R60): 256 micro-frames, and one more for each shot discarded, have passed since it
began. -/
def traceEnd (p trace : Nat) (echoes : List Echo) (h : Hub) : Hub :=
  let kind := h.rd (Reg.tdrRun p)
  if kind = 0 ∨ h.traceAllowed p = false ∨ h.now + 1 < h.rd (Reg.tdrAt p) + (256 + h.rd (Reg.shotsLost p)) * 125000 then h
  else if h.measureSpoiled p (h.rd (Reg.tdrAt p)) then h.traceSpoiled p kind
  else
    let tr := trace % 256 ^ 2048
    let h1 := (h.wr (Reg.tdrRun p) 0 |>.wr (Od.TDR_TRACE p) tr).putRecord ⟨p, 0, echoes, tr, []⟩
    let h2 := if kind = 2 then h1.putRecord ⟨p, 2, echoes, tr, []⟩ else h1
    (h2.judgeTrace p echoes).judgeReach p

/-- A trace begins unless one is under way, where the pair is the monitor's to use (R49, R57, R132). DESIGN CHOICE (log entry 21): traces
run whatever MONITOR_ENABLE holds, and a TDR_START while the PHY group is not ON starts nothing and leaves nothing owed. -/
def beginTrace (p : Nat) (h : Hub) : Hub := if h.rd (Reg.tdrRun p) = 0 ∧ h.traceAllowed p = true then h.traceStart p 1 else h

/-- TDR_INTERVAL has elapsed since the last trace of this kind began (R57). -/
def intervalTrace (p : Nat) (h : Hub) : Hub :=
  if h.rd (Reg.tdrLast p) + h.rd (Od.TDR_INTERVAL p) * 1000000000 ≤ h.now then (h.wr (Reg.tdrLast p) h.now).beginTrace p else h

/-- The present readings and the last trace become the baseline; the hourly means stay (R50, R551). -/
def captureBaseline (p : Nat) (h : Hub) : Hub :=
  let last := (h.lineRecord p 0).getD ⟨p, 0, [], 0, []⟩
  (h.putRecord { last with kind := 1, readings := lineSubs.map (fun sub => h.rd (lineKey p sub)) }).wr (Od.BASELINE_TIME p) h.stamp

/-- PROBE_START is refused with STATE (R52, R55). -/
def probeRefused (h : Hub) (p : Nat) : Bool :=
  h.powered p || !h.isSource p || h.rd (Reg.probePhase p) != 0 || h.rd (Od.PROBE_RESULT p) == 2

/-- A write of 1 to PROBE_START (R52, R55). -/
def probeWrite (p : Nat) (h : Hub) : Hub := h.judged (if h.probeRefused p then 7 else 0) (Od.PROBE_START p) 1 (Hub.probeStart p)

/-- A phase of the probe ends (Table 2-6): v is the backfeed reading after phase 1 and the measured source voltage after phase 4,
in mV, and i the mean current of the window in 0.1 µA. -/
def probePhaseEnd (p : Nat) (v : Int) (i : Nat) (h : Hub) : Hub :=
  h.expire (Tm.probe p) (fun x =>
    match x.rd (Reg.probePhase p) with
    | 1 => ((x.wr (Reg.probePre p) (ofSigned 16 v) |>.wr (Reg.probePhase p) 2).emit (.powerDie p (.probe 1))).arm (Tm.probe p) (ms 48)
    | 2 => (((x.wr (Reg.probeF p) (i % 65536) |>.wr (Reg.probePhase p) 3).emit (.powerDie p (.probe 0))).emit
        (.powerDie p (.discharge true))).arm (Tm.probe p) (us 9600)
    | 3 => (((x.wr (Reg.probePhase p) 4).emit (.powerDie p (.discharge false))).emit (.powerDie p (.probe 2))).arm (Tm.probe p) (ms 48)
    | 4 => x.probeDone p i v.toNat
    | _ => x)

end Hub

/-- SCREEN_READING (R45, R46): r in Ω, the screen's mean potential in mV, signed. -/
def execScreenReading (t : Stamp) (p : Dn) (r mean : Word) (m : Sense) (s : State) : Out :=
  act t s (fun h => h.screenEnd p r.toNat mean.toInt m)

/-- HOURLY_MEAN (R50): overlap says that one of the bridge's measurement intervals overlapped an event of R49 (log entry 21). -/
def execHourlyMean (t : Stamp) (p : Dn) (r : HourReadings) (overlap : Bool) (s : State) : Out :=
  act t s (fun h => h.hourEnd p r overlap)

/-- FORCED_MONITOR_SLOT (R47). -/
def execForcedMonitorSlot (t : Stamp) (p : Dn) (s : State) : Out := act t s (fun h => h.forceSlot p)

/-- TDR_TRACE_COMPLETE (R57). -/
def execTdrTraceComplete (t : Stamp) (p : Dn) (trace : BitVec 16384) (echoes : List Echo) (s : State) : Out :=
  act t s (fun h => h.traceEnd p trace.toNat echoes)

/-- TDR_INTERVAL_EXPIRY (R57). -/
def execTdrIntervalExpiry (t : Stamp) (p : Dn) (s : State) : Out := act t s (fun h => h.intervalTrace p)

/-- TDR_START (R57). -/
def execTdrStart (t : Stamp) (p : Dn) (s : State) : Out := act t s (fun h => h.writing (Od.TDR_START p) 1 (fun x => x.beginTrace p))

/-- TRIP_LOCATION_TRACE (R60). -/
def execTripLocationTrace (t : Stamp) (p : Dn) (s : State) : Out := act t s (fun h => h.tripTrace p)

/-- CAPTURE_BASELINE (R50). -/
def execCaptureBaseline (t : Stamp) (p : Dn) (s : State) : Out :=
  act t s (fun h => h.writing (Od.CAPTURE_BASELINE p) 1 (fun x => x.captureBaseline p))

/-- PROBE_START (R52). -/
def execProbeStart (t : Stamp) (p : Dn) (s : State) : Out := act t s (fun h => h.probeWrite p)

/-- PROBE_PHASE_END (R52, R54). -/
def execProbePhaseEnd (t : Stamp) (p : Dn) (v cur : BitVec 16) (m : Sense) (s : State) : Out :=
  act t s (fun h => (h.sense p m).probePhaseEnd p v.toInt cur.toNat)

end Sys2Proof.Machine
end

