-- ==== Sys2Proof/Machine/Hierarchy.lean ====
section
/-!
DEFINITION. Sys2Proof/Machine/Hierarchy.lean: the tree of hubs (chapter 11, R325 to R339): the hub ID, relays, the control and
standby upstreams and reach notices.
-/
namespace Sys2Proof.Machine

/-- The relay completion of Table 11-4. -/
def relayAnswer (tag port result len data : Nat) : Nat :=
  pack [(2, tag), (1, port), (1, result), (2, len), (2, 0), (len, data)]

/-- The fields of a relay request of `len` bytes are legal and fit (R328, R329, Tables 11-3 and 6-12). -/
def relayFits (len v : Nat) : Bool :=
  let n := field v 4 2
  let want := field v 14 2
  decide (byteAt v 2 ≤ 17 ∧ 8 ≤ n ∧ n ≤ 1016 ∧ 8 + n ≤ len ∧ want ≤ 1008)
    && (hasBit (byteAt v 8) 7 || decide (want ≤ n - 8))

namespace Hub

/-! ### ASSIGN and RELEASE_ID (R326, R327) -/

/-- ASSIGN_RESULT of a write that came on `via`: 16 or 17 link-local on that trunk, any other number not (R326). -/
def assignResult (h : Hub) (via : Nat) : Nat :=
  if !((via == 16 || via == 17) && h.downstreamEnd via) then 3
  else if !(h.role == 0 || h.role == 3) then 4
  else if h.rd Od.HUB_ID_ASSIGNED ≠ 0 then 2
  else 1

/-- The effects of an accepted ASSIGN (R326). -/
def assigned (via v : Nat) (h : Hub) : Hub :=
  let other := 33 - via
  (h.wrAll [(Od.HUB_ID, bits v 11 0), (Od.TIER, byteAt v 2), (Od.PARENT_ID, bits v 43 32), (Od.HUB_ID_ASSIGNED, 1),
    (Od.CONTROL_UPSTREAM, via), (Od.STANDBY_UPSTREAM, if h.downstreamEnd other then other else 0xFF),
    (Reg.upCtl, 1), (Reg.isolated, 0), (Od.LINK_ADDRESS, h.rd (Reg.myAddr via))]).hierRecord 1

/-- ASSIGN (R326): its result, and its effects when DONE. -/
def assign (via v : Nat) (h : Hub) : Hub :=
  let r := h.assignResult via
  let h1 := h.wr Od.ASSIGN_RESULT r
  if r = 1 then h1.assigned via v else h1

/-- RELEASE_ID (R327). -/
def releaseId (h : Hub) : Hub :=
  (h.wrAll [(Od.HUB_ID, 0), (Od.HUB_ID_ASSIGNED, 0), (Od.TIER, 0), (Od.PARENT_ID, 0), (Od.CONTROL_UPSTREAM, 0xFF),
    (Od.STANDBY_UPSTREAM, 0xFF), (Reg.upCtl, 0), (Reg.isolated, 0), (Od.LINK_ADDRESS, 0)]).quartzStop

/-- RELEASE_ID as its chapter judges it: an assigned WORKER or GATEWAY (R327). -/
def releaseCode (h : Hub) : Nat :=
  if (h.role == 0 || h.role == 3) && h.rd Od.HUB_ID_ASSIGNED == 1 then 0 else 7

/-! ### Relays (R328, R329) -/

/-- The completion goes to the requester (R328). -/
def relayReply (src tag port result len data : Nat) (h : Hub) : Hub :=
  h.sendData 0 src 13 (8 + len) (relayAnswer tag port result len data)

/-- A relay that is refused: counted, and nothing is sent to the child (R329). -/
def relayRefuse (src v result : Nat) (h : Hub) : Hub :=
  ((h.inc Od.RELAYS).inc Od.RELAY_FAILS).relayReply src (field v 0 2) (byteAt v 2) result 0 0

/-- The relay on a port with one of the states in `ss`. -/
def relayOn (h : Hub) (p : Nat) (f : Relay → Bool) : Option Relay := h.relays.find? (fun r => r.port == p && f r)

/-- The child behind a port: the result of the checks of R329 after the request's own, 0 when they pass. -/
def relayCheck (h : Hub) (len v : Nat) : Nat :=
  let p := byteAt v 2
  if h.rd Od.TIER = 4 then 6
  else if !relayFits len v then 7
  else if (if p < 16 then !h.farIsHub p else !h.upstreamEnd p) then 2
  else if h.rd (Od.PORT_STATE p) ≠ 5 then 3
  else if (h.relayOn p (fun r => r.state != 3)).isSome then 5
  else 0

/-- A setup record names an entry of OD 0x7040 (R448). -/
def keyEntry (setup : Nat) : Bool := bits (setup % 256) 6 5 == 1 && field setup 4 2 == 0x7040

/-- A relay starts (R329): CONTROL work of the port on a packet link, a link-local CONTROL REQUEST on a TS link. -/
def relayStart (src v : Nat) (h : Hub) : Hub :=
  let p := byteAt v 2
  let n := field v 4 2
  let ts := h.rd (Od.LINK_CLASS p) = 4
  let tag := h.rd (Reg.ctlTag p)
  let r : Relay :=
    { port := p, tag := field v 0 2, src := src, state := if ts then 2 else 1, request := field v 8 n, len := n, childTag := tag,
      deadline := h.now + ms 600, result := 0, outLen := 0, data := 0 }
  let h1 := { h with relays := h.relays ++ [r] }.inc Od.RELAYS
  if ts then h1.sendRequest p n r.request (keyEntry r.request) else h1

/-- A relay request of `len` bytes from src (R328, R329): repeats first, then the checks in their order; a hub without its ID takes part
in no routed traffic (R33, R284). -/
def relayRequest (src len v : Nat) (h : Hub) : Hub :=
  let same (r : Relay) : Bool := r.tag == field v 0 2 && r.src == src
  if !h.flintOn ∨ h.rd Od.HUB_ID_ASSIGNED = 0 then h
  else match h.relayOn (byteAt v 2) same with
    | some r => if r.state = 3 then h.relayReply src r.tag r.port r.result r.outLen r.data else h
    | none => if h.relayCheck len v = 0 then h.relayStart src v else h.relayRefuse src v (h.relayCheck len v)

/-- A relay ends: its completion is stored for a repeat in place of the port's last, and sent (R329). -/
def relayEnd (r : Relay) (result len data : Nat) (h : Hub) : Hub :=
  let done := { r with state := 3, result := result, outLen := len, data := data % 256 ^ len }
  let h1 := { h with relays := h.relays.filter (fun x : Relay => x.port != r.port) ++ [done] }
  (if result = 0 then h1 else h1.inc Od.RELAY_FAILS).relayReply r.src r.tag r.port result len (data % 256 ^ len)

/-- The child on a port has answered (R329); an answer after 600 ms is late. -/
def relayAnswered (p : Nat) (stall : Bool) (len data : Nat) (h : Hub) : Hub :=
  match h.relayOn p (fun r => r.state == 2) with
  | none => h
  | some r => if h.now < r.deadline then (if stall then h.relayEnd r 1 0 0 else h.relayEnd r 0 (min len 1008) data) else h

/-- 600 ms without an answer (R329). -/
def relayTimeout (p : Nat) (h : Hub) : Hub :=
  match h.relayOn p (fun r => r.state != 3) with
  | none => h
  | some r => if h.now < r.deadline then h else h.relayEnd r 4 0 0

/-! ### The control upstream (R334) -/

/-- The control upstream is lost (R334): DOWN, TRAINING after ACTIVE, or SUSPENDED while the standby is ACTIVE. -/
def upstreamGone (h : Hub) : Bool :=
  let p := h.rd Od.CONTROL_UPSTREAM
  let st := h.rd (Od.LINK_STATE p)
  h.hasUpstream && h.rd Reg.upCtl == 1 && (p == 16 || p == 17)
    && (st == 0 || (st == 3 && h.rd (Reg.retrain p) == 1) || (st == 5 && h.sinkActive (h.rd Od.STANDBY_UPSTREAM)))

/-- The loss of the control upstream takes effect (R334, R335). -/
def upstreamLoss (h : Hub) : Hub := if h.upstreamGone then h.controlLost else h

/-! ### Reach notices (R336 to R338) -/

/-- Port p is usable for hub ID i by the neighbour of port q (R337). -/
def usableFor (h : Hub) (q i p : Nat) : Bool :=
  p != q && h.phyOn p
    && (decide (18 ≤ p)
      || (h.rd (Od.LINK_STATE p) == 4 && !hasBit (h.rd (Od.REACH p)) i && (!h.engineRuns p || h.rd (Od.PORT_STATE p) == 5)))

/-- The hub reaches hub ID i by a port other than q (R337). -/
def reaches (h : Hub) (q i : Nat) : Bool :=
  if i = h.ownHub then true
  else
    let e := h.liveEntry 0x4500 i
    match bits e 31 30 with
    | 0 => false
    | 1 => h.usableFor q i (bits e 4 0)
    | 2 => (List.range 18).any (fun m => hasBit e m && h.usableFor q i m)
    | _ => true

/-- The set of hub IDs below n that the hub declares to the neighbour on port q, as bits (R337). -/
def declaredBelow (h : Hub) (q : Nat) : Nat → Nat
  | 0 => 0
  | n + 1 => h.declaredBelow q n + (if h.reaches q n then 0 else 2 ^ n)

/-- The declared set of port q: 2,048 bits (R336, R338). -/
def declared (h : Hub) (q : Nat) : Nat := h.declaredBelow q 2048

/-- A port whose far end is a hub that takes notices: its link is ACTIVE and it is no fabric port (R338, R340). -/
def noticePort (h : Hub) (p : Nat) : Bool :=
  h.farIsHub p && h.rd (Od.LINK_STATE p) == 4 && h.phyOn p && h.canTake p && !h.fabricPort p

/-- The ports that notices go out on. -/
def noticePorts (h : Hub) : List Nat := (List.range 18).filter (fun p => h.noticePort p)

/-- A notice goes out on a port (R338). -/
def sendNotice (p : Nat) (h : Hub) : Hub :=
  let seq := (h.rd (Reg.noticeTx p) + 1) % 2 ^ 16
  let set := h.declared p
  let own := sysAddr h.ownHub 0 0
  ((h.wr (Reg.noticeTx p) seq |>.wr (Reg.noticeSent p) (set + 1)).inc Od.NOTICES_TX).injectFrame 18
    (mkTrunk 0 0 260 true own own 0) (pack [(1, 1), (1, 0), (2, seq), (256, set)]) p

/-- Notices go out on every hub port (R338). -/
def sendNotices (h : Hub) : Hub := h.noticePorts.foldl (fun x p => x.sendNotice p) h

/-- Flint computes and sends notices, and Granite carries them (R338). -/
def noticesRun (h : Hub) : Bool := h.flintOn && h.switchOn

/-- What the hub declares has changed (R338). -/
def noticeChange (h : Hub) : Hub :=
  if h.noticesRun && h.noticePorts.any (fun p => h.rd (Reg.noticeSent p) != h.declared p + 1) then h.sendNotices else h

/-- 100 ms since the last round of notices, or none was sent yet (R338). -/
def noticeRound (h : Hub) : Hub :=
  if h.noticesRun && (!h.running Tm.noticeTimer || h.due Tm.noticeTimer) then h.sendNotices.arm Tm.noticeTimer (ms 100) else h

/-- A LOCAL DATA frame of `len` bytes reaches Flint from the link of port p (R336, R338). -/
def noticeIn (p len v : Nat) (h : Hub) : Hub :=
  if !h.flintOn then h
  else if len ≠ 260 ∨ byteAt v 0 ≠ 1 ∨ h.farIsHub p = false then h.inc Od.LOCAL_DISCARDED
  else
    let seq := field v 2 2
    let last := h.rd (Reg.noticeRx p)
    let h1 := (h.inc Od.NOTICES_RX).arm (Tm.notices p) (ms 350)
    if (last ≠ 0 ∧ newer 16 (last - 1) seq = true) ∨ h.isOn 2 = false then h1
    else h1.wr (Od.REACH p) (field v 4 256) |>.wr (Reg.noticeRx p) (seq + 1)

/-- 350 ms without a notice on a port (R336). -/
def noticesLapse (p : Nat) (h : Hub) : Hub :=
  h.expire (Tm.notices p) (fun x => (x.wr (Od.REACH p) 0).inc Od.NOTICES_EXPIRED)

end Hub

/-- A write of ASSIGN, 8 bytes; `via` is 16 or 17 when it comes link-local on that trunk, another port when it does not. -/
def execAssign (t : Stamp) (via : SwPort) (v : BitVec 64) (s : State) : Out :=
  act t s (Hub.writing Od.ASSIGN v.toNat (Hub.assign via v.toNat))

/-- A write of 1 to RELEASE_ID. -/
def execReleaseId (t : Stamp) (s : State) : Out :=
  act t s (fun h => h.judged h.releaseCode Od.RELEASE_ID 1 Hub.releaseId)

/-- A relay request at hub:0:13: SRC, the frame's LEN and its payload. -/
def execRelayRequest (t : Stamp) (src : BitVec 24) (len payload : Nat) (s : State) : Out :=
  act t s (Hub.relayRequest src.toNat len payload)

/-- The child on a port answers a relayed transfer: whether it stalled, and its IN data. -/
def execRelayChildAnswer (t : Stamp) (p : Cable) (stall : Bool) (len data : Nat) (s : State) : Out :=
  act t s (Hub.relayAnswered p stall len data)

/-- 600 ms have passed since a relay request. -/
def execRelayTimeout (t : Stamp) (p : Cable) (s : State) : Out := act t s (Hub.relayTimeout p)

/-- The control upstream leaves ACTIVE. -/
def execControlUpstreamLost (t : Stamp) (s : State) : Out := act t s Hub.upstreamLoss

/-- The other trunk reaches ACTIVE as a sink. -/
def execStandbyUp (t : Stamp) (u : Trunk) (s : State) : Out := act t s (Hub.standbyUp u.port)

/-- A trunk of an isolated worker reaches ACTIVE as a sink. -/
def execReconnected (t : Stamp) (u : Trunk) (s : State) : Out := act t s (Hub.reconnected u.port)

/-- A LOCAL DATA frame reaches Flint from a link: its LEN and payload. -/
def execNoticeReceived (t : Stamp) (p : Cable) (len payload : Nat) (s : State) : Out := act t s (Hub.noticeIn p len payload)

/-- What the hub declares changes. -/
def execNoticeSendOnChange (t : Stamp) (s : State) : Out := act t s Hub.noticeChange

/-- 100 ms pass. -/
def execNoticeTimer (t : Stamp) (s : State) : Out := act t s Hub.noticeRound

/-- 350 ms pass without a notice on a port. -/
def execNoticesExpired (t : Stamp) (p : Cable) (s : State) : Out := act t s (Hub.noticesLapse p)

end Sys2Proof.Machine
end

