-- ==== Sys2Proof/Machine/Fabric.lean ====
section
/-!
DEFINITION. Sys2Proof/Machine/Fabric.lean: Eclin-1 fabrics (chapter 11, R340 to R347): neighbours, link-state advertisements, the
coordinator, shortest paths, and the map of a GATEWAY.
-/
namespace Sys2Proof.Machine

/-- An Eclin-1 header (Table 11-9). -/
def e1Header (dest src type ttl len dsub ssub : Nat) : Nat :=
  pack [(2, dest), (2, src), (1, type), (1, ttl), (2, len), (2, dsub), (2, ssub)]

def e1Dest (x : Nat) : Nat := field x 0 2
def e1Src (x : Nat) : Nat := field x 2 2
def e1Type (x : Nat) : Nat := byteAt x 4
def e1Ttl (x : Nat) : Nat := byteAt x 5
def e1Len (x : Nat) : Nat := field x 6 2
def e1DestSub (x : Nat) : Nat := field x 8 2 % 4096
def e1SrcSub (x : Nat) : Nat := field x 10 2 % 4096

/-- Bytes of an Eclin-1 frame: header, payload and CRC-32 (R340). -/
def e1Bytes (x : Nat) : Nat := 16 + e1Len x

/-- An Eclin-1 frame as it goes out: its header, its LENGTH payload bytes and the CRC-32 over both (R15, R340). -/
def e1Frame (x payload : Nat) : Nat :=
  let v := x % 256 ^ 12 + 256 ^ 12 * (payload % 256 ^ e1Len x)
  v + 256 ^ (12 + e1Len x) * crc32 (toBytes (12 + e1Len x) v)

/-- A node ID that is no reserved encoding (R340). -/
def nodeOk (n : Nat) : Bool := decide (1 ≤ n ∧ n ≤ 0xFFFE)

/-- The payload of an LSA (R342). -/
def lsaBytes (x : Lsa) : Nat :=
  pack ([(4, x.seq), (8, x.serial), (2, x.links.length)] ++ x.links.flatMap (fun l => [(2, l.1), (2, l.2)]))

/-- Bytes of that payload. -/
def lsaLen (x : Lsa) : Nat := 14 + 4 * x.links.length

/-- The Eclin-1 header has no reserved encoding in its node IDs and LENGTH (R340, Table 11-9). -/
def e1Ok (x : Nat) : Bool := nodeOk (e1Src x) && e1Dest x != 0 && decide (e1Len x ≤ 512)

/-- The cost that one end declares for its link to the other (R344). -/
def declaredCost (links : List (Nat × Nat)) (n : Nat) : Option Nat :=
  (links.filter (fun l => l.1 == n)).foldl (fun b l => match b with | none => some l.2 | some c => some (min c l.2)) none

/-- The cost of a link that both ends declare: the lower of the two (R344). -/
def linkCost (a b : Nat) (la lb : List (Nat × Nat)) : Option Nat :=
  match declaredCost la b, declaredCost lb a with
  | some x, some y => some (min x y)
  | _, _ => none

/-- A path found: the node, its cost and its next hop's node ID. -/
abbrev Path : Type := Nat × Nat × Nat

/-- Path x is better than y: cheaper, or equally cheap by the lower next hop (R344). -/
def betterPath (x y : Path) : Bool := decide (x.2.1 < y.2.1) || (x.2.1 == y.2.1 && decide (x.2.2 < y.2.2))

/-- A path enters the table if it is the first or better than the one there. -/
def addPath (x : Path) (l : List Path) : List Path :=
  match l.find? (fun y => y.1 == x.1) with
  | none => x :: l
  | some y => if betterPath x y then x :: l.filter (fun z => z.1 != x.1) else l

/-- One round: every stored originator's path by way of every node reached so far. -/
def pathRound (db : List Lsa) (own : Nat) (l : List Path) : List Path :=
  l.foldl (fun acc via =>
    match db.find? (fun x => x.node == via.1) with
    | none => acc
    | some a => db.foldl (fun acc2 b =>
        if b.node = own then acc2
        else match linkCost a.node b.node a.links b.links with
          | none => acc2
          | some c => addPath (b.node, via.2.1 + c, via.2.2) acc2) acc) l

/-- The shortest paths, after as many rounds as there are originators. -/
def pathRounds (db : List Lsa) (own : Nat) : Nat → List Path → List Path
  | 0, l => l
  | n + 1, l => pathRounds db own n (pathRound db own l)

namespace Hub

/-! ### The fabric's state (R340, R343) -/

/-- The hub's own node ID. -/
def node (h : Hub) : Nat := h.rd Od.FABRIC_NODE_ID

/-- The fabric runs: a role that has one, a node ID, a fabric port, and Flint to serve it (R340). -/
def fabricRuns (h : Hub) : Bool := h.flintOn && h.node != 0 && (List.range 18).any (fun p => h.fabricPort p)

/-- FABRIC_STATE as it reads (Table 11-12): the cell holds 2 or 3 while that condition stands. -/
def fabricState (h : Hub) : Nat := if h.fabricRuns then (if h.rd Od.FABRIC_STATE = 0 then 1 else h.rd Od.FABRIC_STATE) else 0

/-- The hub takes part: not after a duplicate ID was found (R343). -/
def fabricActive (h : Hub) : Bool := h.fabricRuns && h.rd Od.FABRIC_STATE != 2

/-- A fabric link that carries frames. -/
def fabricLink (h : Hub) (p : Nat) : Bool :=
  h.fabricPort p && h.rd (Od.LINK_STATE p) == 4 && h.phyOn p && (!h.engineRuns p || h.rd (Od.PORT_STATE p) == 5)

/-- The fabric links. -/
def fabricLinks (h : Hub) : List Nat := (List.range 18).filter (fun p => h.fabricLink p)

/-- The stored LSAs change (R343, R344): COORDINATOR is the node of lowest SERIAL, OVER_SIZE ends below 256 originators, and the
paths are owed a computation. -/
def setLsdb (l : List Lsa) (h : Hub) : Hub :=
  let low := l.foldl (fun b x => match b with | none => some x | some (y : Lsa) => if x.serial < y.serial then some x else b) none
  let h1 := { h with lsdb := l }.wr Od.COORDINATOR ((low.map (fun x : Lsa => x.node)).getD 0) |>.wr Reg.pathDue 1
  if l.length < 256 ∧ h1.rd Od.FABRIC_STATE = 3 then h1.wr Od.FABRIC_STATE 0 else h1

/-- A change of a two-way neighbour owes an LSA and a computation (R342, R344). -/
def neighbourChange (h : Hub) : Hub := h.wr Reg.lsaDue 1 |>.wr Reg.pathDue 1

/-- FABRIC_COST of a port (Table 11-12). -/
def fabricCost (h : Hub) (p : Nat) : Nat := field (h.rd Od.FABRIC_COST) (2 * p) 2

/-- The hub's own links: its two-way neighbours with the cost of their ports (R342). -/
def ownLinks (h : Hub) : List (Nat × Nat) := (h.neighbours.filter (fun n => n.twoWay)).map (fun n => (n.node, h.fabricCost n.port))

/-! ### Writes (R340, R343, R350) -/

/-- A stored LSA holds the hub's own node ID under a lower SERIAL than the hub's: the hub, of the higher SERIAL, stops (R343). -/
def checkDuplicate (h : Hub) : Hub :=
  if h.lsdb.any (fun x => x.node == h.node && decide (x.serial < Config.serial)) then h.wr Od.FABRIC_STATE 2 else h

/-- FABRIC_NODE_ID (R340, R343): a new node ID ends DUPLICATE_ID, unless it is a duplicate as well; on a FABRIC_NODE HUB_ID reads it. -/
def writeNodeId (v : Nat) (h : Hub) : Hub :=
  let h1 := h.wr Od.FABRIC_NODE_ID v
  let h2 := if h1.rd Od.FABRIC_STATE = 2 ∧ v ≠ h.node then h1.wr Od.FABRIC_STATE 0 else h1
  ((if h2.role = 2 then h2.wr Od.HUB_ID v else h2).wr Reg.lsaDue 1 |>.wr Reg.pathDue 1).checkDuplicate

/-- FABRIC_COST: a change owes an LSA (R342). -/
def writeCosts (v : Nat) (h : Hub) : Hub :=
  if v = h.rd Od.FABRIC_COST then h else (h.wr Od.FABRIC_COST v).neighbourChange

/-! ### Frames out (R162, R340) -/

/-- An Eclin-1 frame with a reserved encoding is discarded and counted against its port (R13, R340). -/
def e1Refused (p : Nat) (h : Hub) : Hub := h.inc (Od.HDR_CHECK_ERR p)

/-- An Eclin-1 frame goes out on a fabric port's endpoint 1: where the hub is the downstream end it waits for the upstream end's IN (R162). -/
def sendFabric (p header payload : Nat) (h : Hub) : Hub :=
  if h.downstreamEnd p then { h with fabOut := h.fabOut ++ [⟨p, e1Bytes header, e1Frame header payload⟩] }
  else h.emit (.fabric p (e1Bytes header) (e1Frame header payload))

/-! ### HELLO (R341) -/

/-- Node IDs heard on a link within the last 1,000 ms, 16 at most (R341). -/
def heardOn (h : Hub) (p : Nat) : List Nat :=
  ((h.neighbours.filter (fun n => n.port == p && decide (h.now < n.last + ms 1000))).map (·.node)).take 16

/-- A HELLO goes out on a link (R341). -/
def sendHello (p : Nat) (h : Hub) : Hub :=
  let heard := h.heardOn p
  (h.sendFabric p (e1Header 0xFFFF h.node 2 32 (12 + 2 * heard.length) 0 0)
    (pack ([(8, Config.serial), (2, h.rd Od.COORDINATOR), (2, heard.length)] ++ heard.map (fun n => (2, n))))).inc Od.HELLOS_TX

/-- The HELLO interval has passed, or none was sent yet (R341). -/
def helloRound (h : Hub) : Hub :=
  if h.fabricActive && (!h.running Tm.hello || h.due Tm.hello) then
    (h.fabricLinks.foldl (fun x p => x.sendHello p) h).arm Tm.hello (ms 240)
  else h

/-- A HELLO arrives (R341). -/
def helloIn (p node serial : Nat) (heard : List Nat) (h : Hub) : Hub :=
  if !(h.fabricRuns && h.fabricLink p) then h
  else if !(nodeOk node && decide (heard.length ≤ 16)) then h.e1Refused p
  else
    let two := heard.contains h.node
    let was := h.neighbours.any (fun n => n.port == p && n.node == node && n.twoWay)
    let n : Neighbour := { port := p, node := node, serial := serial, twoWay := two, last := h.now }
    let h1 := { h with neighbours := n :: h.neighbours.filter (fun x => !(x.port == p && x.node == node)) }
    if two = was then h1 else h1.neighbourChange

/-- 1,000 ms without a HELLO: the neighbours of a port that lapsed are lost (R341). -/
def neighbourLapse (p : Nat) (h : Hub) : Hub :=
  let gone := h.neighbours.filter (fun n => n.port == p && decide (n.last + ms 1000 ≤ h.now))
  let h1 := { h with neighbours := h.neighbours.filter (fun n => !(n.port == p && decide (n.last + ms 1000 ≤ h.now))) }
  if gone.any (fun n => n.twoWay) then h1.neighbourChange else h1

/-! ### Link-state advertisements (R342, R343) -/

/-- An LSA goes to the neighbour on a link, and waits for its acknowledgement (R342); a node with a duplicate ID sends none (R343). -/
def sendLsa (x : Lsa) (p : Nat) (h : Hub) : Hub :=
  let w : LsaWait := { port := p, node := x.node, seq := x.seq, sent := h.now }
  if !h.fabricActive then h else { h with lsaWaits := w :: h.lsaWaits.filter (fun y => !(y.port == p && y.node == x.node)) }.sendFabric
    p (e1Header 0xFFFF x.node 3 32 (lsaLen x) 0 0) (lsaBytes x)

/-- An LSA floods on the given links (R342). -/
def floodLsa (x : Lsa) (ps : List Nat) (h : Hub) : Hub := ps.foldl (fun y p => y.sendLsa x p) h

/-- LSA_ACK to the sender (R342). -/
def ackLsa (p node seq : Nat) (h : Hub) : Hub :=
  h.sendFabric p (e1Header 0xFFFF h.node 4 32 6 0 0) (pack [(2, node), (4, seq)])

/-- The hub originates an LSA when one is owed, none was sent yet, or the refresh is due (R342). -/
def originate (h : Hub) : Hub :=
  if h.fabricActive && (h.rd Reg.lsaDue == 1 || !h.running Tm.lsaRefresh || h.due Tm.lsaRefresh) then
    let seq := (h.rd Reg.lsaSeq + 1) % 2 ^ 32
    let x : Lsa := { node := h.node, seq := seq, serial := Config.serial, links := h.ownLinks, at_ := h.now }
    let h1 := (h.wr Reg.lsaSeq seq |>.wr Reg.lsaDue 0).arm Tm.lsaRefresh (29 * 60 * ms 1000)
    (h1.setLsdb (x :: dropBy Lsa.node h.node h.lsdb)).floodLsa x h1.fabricLinks
  else h

/-- A received LSA is stored and flooded (R342). -/
def storeLsa (p : Nat) (x : Lsa) (h : Hub) : Hub :=
  let h1 := ((h.setLsdb (x :: dropBy Lsa.node x.node h.lsdb)).inc Od.LSAS_RX).checkDuplicate
  (h1.floodLsa x (h1.fabricLinks.filter (fun q => q != p))).ackLsa p x.node x.seq

/-- An LSA arrives (R342, R343). -/
def lsaIn (p : Nat) (x : Lsa) (h : Hub) : Hub :=
  if !(h.fabricRuns && h.fabricLink p) then h
  else if !nodeOk x.node then h.e1Refused p
  else match h.lsdb.find? (fun y => y.node == x.node) with
    | none => if 256 ≤ h.lsdb.length then h.wr Od.FABRIC_STATE 3 else h.storeLsa p x
    | some y =>
      if newer 32 x.seq y.seq then h.storeLsa p x
      else if x.seq = y.seq then h.ackLsa p x.node x.seq
      else (h.ackLsa p x.node x.seq).sendLsa y p

/-- An LSA_ACK arrives (R342). -/
def lsaAckIn (p node seq : Nat) (h : Hub) : Hub :=
  { h with lsaWaits := h.lsaWaits.filter (fun w => !(w.port == p && w.node == node && w.seq == seq)) }

/-- 1 s without the acknowledgement (R342, Table 11-10). -/
def lsaAgain (p node : Nat) (h : Hub) : Hub :=
  match h.lsaWaits.find? (fun w => w.port == p && w.node == node) with
  | none => h
  | some w =>
    if h.now < w.sent + ms 950 then h
    else match h.lsdb.find? (fun y => y.node == node) with
      | some y => if h.fabricActive && h.fabricLink p then h.sendLsa y p else h
      | none => { h with lsaWaits := h.lsaWaits.filter (fun w => !(w.port == p && w.node == node)) }

/-- A stored LSA has not been refreshed within 60 minutes (R342). -/
def lsaLapse (node : Nat) (h : Hub) : Hub :=
  match h.lsdb.find? (fun y => y.node == node) with
  | none => h
  | some y => if h.now < y.at_ + 60 * 60 * ms 1000 then h else h.setLsdb (dropBy Lsa.node node h.lsdb)

/-! ### Paths and forwarding (R344, R346) -/

/-- The paths of one hop: two-way neighbours whose own LSA declares the link too (R344). -/
def firstPaths (h : Hub) : List Path :=
  h.lsdb.foldl (fun acc b =>
    if b.node = h.node then acc
    else match linkCost h.node b.node h.ownLinks b.links with
      | none => acc
      | some c => addPath (b.node, c, b.node) acc) []

/-- The port toward a two-way neighbour: the cheapest, the lowest when equal. -/
def portToward (h : Hub) (n : Nat) : Option Nat :=
  (List.range 18).foldl (fun best p =>
    if h.neighbours.any (fun x => x.port == p && x.node == n && x.twoWay) then
      match best with
      | none => some p
      | some b => if h.fabricCost p < h.fabricCost b then some p else some b
    else best) none

/-- Shortest paths to every originator (R344). -/
def computePaths (h : Hub) : Hub :=
  if h.fabricRuns && h.rd Reg.pathDue == 1 then
    let paths := pathRounds h.lsdb h.node h.lsdb.length h.firstPaths
    { h with nextHops := paths.filterMap (fun x : Path => (h.portToward x.2.2).map (fun p => (x.1, p))) }.wr Reg.pathDue 0
  else h

/-- Flint forwards at most 20,000 Eclin-1 frames in a second; a further one is dropped and counted (R340). -/
def rateLimited (f : Hub → Hub) (h : Hub) : Hub :=
  let sec := h.now / ms 1000 + 1
  let n := if h.rd Reg.fabSec = sec then h.rd Reg.fabCount else 0
  if 20000 ≤ n then h.inc Od.FABRIC_DROPPED else f (h.wr Reg.fabSec sec |>.wr Reg.fabCount (n + 1))

/-- A frame goes out toward a node, or is dropped for want of a path (R344); a node with a duplicate ID sends no DATA (R343). -/
def e1Send (header payload : Nat) (transit : Bool) (h : Hub) : Hub :=
  match h.nextHops.find? (fun x => x.1 == e1Dest header) with
  | none => h.inc Od.FABRIC_DROPPED
  | some x =>
    if h.fabricLink x.2 && (h.rd Od.FABRIC_STATE != 2 || e1Type header != 1) then
      let h1 := h.sendFabric x.2 header payload
      if transit then h1.inc Od.TRANSIT_FRAMES else h1
    else h.inc Od.FABRIC_DROPPED

/-- A frame for another node goes on with its TTL one less; one that would leave with TTL 0 is discarded (Table 11-9). -/
def e1Pass (header payload : Nat) (transit : Bool) (h : Hub) : Hub :=
  if e1Ttl header ≤ 1 then h else h.e1Send (putField header 5 1 (e1Ttl header - 1)) payload transit

/-- The device address that the fabric map gives a node's device (R346). -/
def mapped? (h : Hub) (nodeId dev : Nat) : Option Nat :=
  firstFrom 1 254 (fun d => let e := h.rd (Od.FABRIC_MAP d); hasBit e 31 && bits e 23 8 == nodeId && bits e 7 0 == dev)

/-- A DATA frame for the hub's own node ID (R346). SRC and class of the frame on a FABRIC_NODE are free values (log entry 2). -/
def e1Local (header payload : Nat) (h : Hub) : Hub :=
  let len := e1Len header
  if h.role = 2 then
    let (src, h1) := h.fresh
    let (cls, h2) := h1.fresh
    h2.injectFrame 18 (mkTrunk 0 (cls % 4) len false (e1DestSub header) (src % 2 ^ 24) 0) (payload % 256 ^ len) 0
  else
    match h.mapped? (e1Src header) (e1SrcSub header / 16) with
    | some d =>
      h.injectFrame 18 (mkTrunk 0 2 len false (h.rd Od.GATEWAY_UP_DEST % 2 ^ 24) (sysAddr h.ownHub d (e1SrcSub header % 16)) 0)
        (payload % 256 ^ len) 0
    | none => h.inc Od.UNMAPPED_DROPPED

/-- A DATA frame arrives (R344, R346). -/
def dataIn (p header payload : Nat) (h : Hub) : Hub :=
  if !(h.fabricRuns && h.fabricLink p) then h
  else if !e1Ok header then h.e1Refused p
  else h.rateLimited (fun x =>
    if e1Dest header = x.node ∨ e1Dest header = 0xFFFF then x.e1Local header payload else x.e1Pass header payload true)

/-- An EVENT frame arrives (R343): the coordinator passes it on whole; another node sends it toward its destination. -/
def eventIn (p header payload : Nat) (h : Hub) : Hub :=
  let len := e1Len header
  if !(h.fabricRuns && h.fabricLink p) then h
  else if !e1Ok header then h.e1Refused p
  else h.rateLimited (fun x =>
    if e1Dest header = x.node ∨ e1Dest header = 0xFFFF then
      if x.rd Od.COORDINATOR = x.node then
        let own := sysAddr x.ownHub 0 0
        let whole := header % 256 ^ 12 + 256 ^ 12 * (payload % 256 ^ len)
        if x.role = 2 then x.injectFrame 18 (mkTrunk 0 2 (12 + len) true own own 0) whole 19
        else x.injectFrame 18 (mkTrunk 0 2 (12 + len) false (x.rd Od.GATEWAY_UP_DEST % 2 ^ 24) own 0) whole 0
      else x
    else x.e1Pass header payload false)

/-- A multicast frame arrives (R345). -/
def mcastIn (p : Nat) (h : Hub) : Hub := if h.fabricRuns && h.fabricLink p then h.inc Od.MCAST_DISCARDED else h

/-- A frame of the tree for a mapped device goes to the fabric (R346). -/
def treeFrame (header payload : Nat) (h : Hub) : Hub :=
  let dest := hDest header
  let e := h.rd (Od.FABRIC_MAP (dest % 4096 / 16))
  if !(h.fabricRuns && h.role == 3) then h
  else if 512 < hLen header ∨ hasBit e 31 = false then h.inc Od.UNMAPPED_DROPPED
  else h.rateLimited (fun x =>
    x.e1Send (e1Header (bits e 23 8) x.node 1 32 (hLen header) (sysAddr 0 (bits e 7 0) (dest % 16)) 0) payload false)

end Hub

/-- The HELLO interval passes. -/
def execHelloTimer (t : Stamp) (s : State) : Out := act t s Hub.helloRound

/-- A HELLO arrives on a fabric link: SRC_NODE, SERIAL, and the node IDs it lists. -/
def execHelloReceived (t : Stamp) (p : Cable) (node : BitVec 16) (serial : BitVec 64) (heard : List Nat) (s : State) : Out :=
  act t s (Hub.helloIn p node.toNat serial.toNat heard)

/-- 1,000 ms without a HELLO from a neighbour on a port. -/
def execNeighbourHoldExpiry (t : Stamp) (p : Cable) (s : State) : Out := act t s (Hub.neighbourLapse p)

/-- The hub originates an LSA. -/
def execLsaOriginate (t : Stamp) (s : State) : Out := act t s Hub.originate

/-- An LSA arrives: originator, LSA_SEQ, SERIAL, and its neighbours with their costs. -/
def execLsaReceived (t : Stamp) (p : Cable) (node : BitVec 16) (seq : BitVec 32) (serial : BitVec 64) (links : List (Nat × Nat))
    (s : State) : Out :=
  act t s (fun h => h.lsaIn p { node := node.toNat, seq := seq.toNat, serial := serial.toNat, links := links, at_ := h.now })

/-- An LSA_ACK arrives: originator and LSA_SEQ. -/
def execLsaAckReceived (t : Stamp) (p : Cable) (node : BitVec 16) (seq : BitVec 32) (s : State) : Out :=
  act t s (Hub.lsaAckIn p node.toNat seq.toNat)

/-- 1 s passes without the acknowledgement of an originator's LSA on a link. -/
def execLsaRetransmit (t : Stamp) (p : Cable) (node : BitVec 16) (s : State) : Out := act t s (Hub.lsaAgain p node.toNat)

/-- A stored LSA is 60 minutes old. -/
def execLsaLifetimeExpiry (t : Stamp) (node : BitVec 16) (s : State) : Out := act t s (Hub.lsaLapse node.toNat)

/-- The node computes its paths. -/
def execPathCompute (t : Stamp) (s : State) : Out := act t s Hub.computePaths

/-- An Eclin-1 DATA frame arrives: its header of Table 11-9 and its payload. -/
def execFabricDataReceived (t : Stamp) (p : Cable) (header : BitVec 96) (payload : Nat) (s : State) : Out :=
  act t s (Hub.dataIn p header.toNat payload)

/-- An Eclin-1 EVENT frame arrives. -/
def execFabricEventReceived (t : Stamp) (p : Cable) (header : BitVec 96) (payload : Nat) (s : State) : Out :=
  act t s (Hub.eventIn p header.toNat payload)

/-- An MCAST_JOIN or MCAST_DATA frame arrives. -/
def execMcastDiscard (t : Stamp) (p : Cable) (s : State) : Out := act t s (Hub.mcastIn p)

/-- A frame of the tree for a mapped device reaches Flint: its trunk header and its payload. -/
def execGatewayTreeFrame (t : Stamp) (header : BitVec 128) (payload : Nat) (s : State) : Out :=
  act t s (Hub.treeFrame header.toNat payload)

end Sys2Proof.Machine
end

