-- ==== Sys2Proof/Machine/Faults.lean ====
section
/-!
DEFINITION. Sys2Proof/Machine/Faults.lean: faults and self-repair (chapter 16, R459 to R488).
-/
namespace Sys2Proof.Machine

namespace Hub

/-! ### Detectors (R460) -/

/-- A report of a source of Table 16-1 (R462). -/
def detector (src detail value : Nat) (h : Hub) : Hub := if sources.any (fun s => s.id == src) then h.report src detail value else h

/-- A detector with a hysteresis: it fires on a reading that reaches its level, and is ready again once `ready` holds (R460). -/
def hysteresis (i src detail : Nat) (fires ready : Bool) (h : Hub) : Hub :=
  if h.rd (Reg.tempFired i) = 0 then (if fires then (h.wr (Reg.tempFired i) 1).report src detail 0 else h)
  else if ready then h.wr (Reg.tempFired i) 0
  else h

/-- The logic die's temperature in 0.1 °C (R460, Table 16-10). -/
def dieTemp (v : Nat) (h : Hub) : Hub :=
  let x := toSigned 16 v
  let warn := toSigned 16 (h.rd Od.THERM_WARN)
  let crit := toSigned 16 (h.rd Od.THERM_CRIT)
  ((h.wr Od.DIE_TEMP v).hysteresis 0 0x81 (ofSigned 32 x) (decide (warn ≤ x)) (decide (x ≤ warn - 50))).hysteresis 1 0x82 (ofSigned 32 x)
    (decide (crit ≤ x)) (decide (x ≤ crit - 50))

/-- The power die's temperature in 0.1 °C: 135.0 °C fires, 130.0 °C makes ready again (R460). -/
def powerDieTemp (v : Nat) (h : Hub) : Hub :=
  let x := toSigned 16 v
  (h.wr Od.POWER_DIE_TEMP v).hysteresis 2 0x83 (ofSigned 32 x) (decide (1350 ≤ x)) (decide (x ≤ 1300))

/-- VIN, or VAUX, has stood at a level for 1 ms (R460). -/
def supplyLevel (aux : Bool) (mv : Nat) (h : Hub) : Hub :=
  let limit := if aux then h.rd Od.VAUX_LOW_MV else h.rd Od.VIN_LOW_MV
  h.hysteresis (if aux then 4 else 3) (if aux then 0x92 else 0x91) mv (decide (mv < limit)) (decide (limit < mv))

/-- A rail that powers at least one port reads below 5.0 V (R460). -/
def railLost (r : Nat) (h : Hub) : Hub :=
  if (List.range 16).any (fun p => h.powered p && h.rd (Reg.rail p) == r) then h.report 0x93 r 0 else h

/-- The die link is lost (R460, R500). -/
def dieLinkLost (h : Hub) : Hub :=
  if h.rd Reg.dieLost = 1 then h else (h.wr Reg.dieLost 1 |>.wr Reg.dieLostAt h.stamp).report 0x94 0 0

/-! ### Acknowledgement, the safe state's end, and forcing (R470 to R474) -/

/-- FAULT_ACK (R473). -/
def faultAck (v : Nat) (h : Hub) : Hub :=
  { h with unacked := h.unacked.filter (fun u => !(u.cls == byteAt v 0 && !newer 32 u.seq (field v 4 4))) }

/-- SAFE_EXIT (R470). -/
def safeExit (h : Hub) : Hub :=
  if h.unacked.any (fun u => decide (4 ≤ u.level)) || decide (toSigned 16 (h.rd Od.THERM_CRIT) - 50 ≤ toSigned 16 (h.rd Od.DIE_TEMP)) then
    h.wr Od.SAFE_EXIT_RESULT 2
  else h.wr Od.SAFE_STATE 0 |>.wr Od.SAFE_EXIT_RESULT 1

/-- A forced report (R474): DETAIL from FORCE_DETAIL, VALUE 0; a report of 0xA1 to 0xA3 takes its class from it. -/
def forceReport (id : Nat) (h : Hub) : Hub :=
  let d := h.rd Od.FORCE_DETAIL
  let h1 := h.inc Od.FORCED
  if 0xA1 ≤ id then h1.writeReport ⟨id, d / 2 ^ 24, d, 0, true, 0, 0, 0⟩ else h1.reportAs id d 0 true

/-- A write of a source's configuration (R474, R487): LEVEL takes effect first; FORCE takes one report. -/
def writeSource (id v : Nat) (h : Hub) : Hub :=
  let h1 := h.wr (Od.SOURCE id) (v % 8)
  if hasBit v 7 then h1.forceReport id else h1

/-! ### Self-tests (R477 to R482) -/

/-- The test of a kind on a subject. -/
def testOf (h : Hub) (kind subject : Nat) : Option SelfTest := h.tests.find? (fun t => t.kind == kind && t.subject == subject)

/-- The stage of a test changes. -/
def stageTest (t : SelfTest) (st : Nat) (h : Hub) : Hub :=
  { h with tests := h.tests.map (fun u : SelfTest => if u.kind == t.kind && u.subject == t.subject then { u with stage := st } else u) }

/-- BANK_MAP with every logical bank that stands on `src` moved to `dst` (R478). -/
def moveBank (src dst : Nat) (h : Hub) : Hub :=
  let m := h.rd Od.BANK_MAP
  h.wr Od.BANK_MAP (pack ((List.range 48).map (fun i => (1, if byteAt m i = src then dst else byteAt m i))))

/-- A bank copy is complete (R478): out of the bank under test, the switch to the spare; back into it, the spare is free again. -/
def bankCopied (b : Nat) (h : Hub) : Hub :=
  match h.testOf 1 b with
  | none => h
  | some t =>
    if t.stage = 1 then ((h.moveBank b t.spare).takeSpare t.spare).stageTest t 2
    else if t.stage = 3 then
      ((h.moveBank t.spare b).wr Od.SPARES_FREE (setBit (h.rd Od.SPARES_FREE) (spareBit t.spare))).endTest 1 b
    else h

/-- The march of a bank ends (R478): LASTING keeps the remap, TRANSIENT copies the bank back. The shadow closes with the verdict. -/
def bankMarched (b : Nat) (lasting : Bool) (h : Hub) : Hub :=
  match h.testOf 1 b with
  | none => h
  | some t =>
    if t.stage ≠ 2 then h
    else
      let h1 := { h with shadows := h.shadows.filter (fun s => s.test != some (1, b)) }.verdict t (if lasting then 2 else 1)
      if lasting then
        let h2 := (h1.saveRepair { h1.repair with badBanks := setBit h1.repair.badBanks b, bankMap := h1.rd Od.BANK_MAP }).inc Od.BANK_REMAPS
        ((h2.childReport 0xA2 t.cls t.parent (b + 256 * t.spare) 0).endTest 1 b).dropWaiting (bankDomain b)
      else ({ h1 with sbeLast := putBy Prod.fst (b, h1.now) h1.sbeLast }).stageTest t 3

/-- The spare core: the one outside the lockstep pair (R480). -/
def spareCore (m : RepairMap) : Nat := 3 - m.pairA - m.pairB

/-- A core is retired (R480). -/
def retireCore (c : Nat) (h : Hub) : Hub :=
  (h.saveRepair { h.repair with retired := setBit h.repair.retired c }).inc Od.CORE_RETIREMENTS

/-- The core test ends (R480); `ok` gives each core's pass. -/
def coreTested (ok : Nat → Bool) (h : Hub) : Hub :=
  match h.testOf 2 0 with
  | none => h
  | some t =>
    let m := h.repair
    let sp := spareCore m
    let spareLeft := !hasBit m.retired sp
    let h0 := h.endTest 2 0
    let h1 := if spareLeft && !ok sp then h0.retireCore sp else h0
    let bad := [m.pairA, m.pairB].filter (fun c => !ok c)
    match bad with
    | [] => (h1.verdict t 1).flintRestart
    | c :: r =>
      let h2 := h1.verdict t 2
      if r.isEmpty && spareLeft && ok sp then
        let h3 := h2.retireCore c
        let h4 := { h3 with repair := { h3.repair with
          pairA := if h3.repair.pairA = c then sp else h3.repair.pairA
          pairB := if h3.repair.pairB = c then sp else h3.repair.pairB } }
        (h4.childReport 0xA2 t.cls t.parent (c + 256 * sp) 0).flintRestart
      else
        let h3 := { h2 with shadows := h2.shadows.filter (fun s => s.test != some (2, 0)) }.wr Reg.fwDead 1
        h3.flintRestart.childReport 0xA3 t.cls t.parent c 0

/-- The shortest time of a loopback's 16 bursts (R481): one per monitor slot, so 16 micro-frames, while a downstream link is ACTIVE; 160 µs
where they run at once; none while it waits. -/
def loopTime (h : Hub) (p : Nat) : Option Nat :=
  if p < 16 then
    if h.rd (Od.LINK_STATE p) = 0 ∨ [3, 8].contains (h.rd (Od.PORT_STATE p)) then some (us 160)
    else if h.rd (Od.LINK_STATE p) = 4 then some (15 * us 125)
    else none
  else if h.rd (Od.LINK_STATE p) = 3 then some (us 160)
  else none

/-- A loopback ends (R481): its 16 bursts have run where the link's state lets them; otherwise it waits. -/
def looped (p : Nat) (bitError : Bool) (h : Hub) : Hub :=
  match h.testOf 3 p, h.loopTime p with
  | none, _ => h
  | _, none => h
  | some t, some w =>
    if h.now + 1 < h.rd (Reg.loopFrom p) + w then h
    else
    let h1 := h.verdict t (if bitError then 2 else 1)
    let h2 :=
      if bitError then (h1.saveRepair { h1.repair with phyFailed := setBit h1.repair.phyFailed p }).childReport 0xA3 t.cls t.parent p 0 else h1
    h2.endTest 3 p

/-- A copy of the array is invalid from now on (R376, R482): its row is uncorrectable, and it fails at its CRC. -/
def spoilCopy (id : Nat) (h : Hub) : Hub :=
  if 6 ≤ id then h
  else
    let h1 := h.putCopy { h.copyOf id with status := 4 }
    if id = 0 then h1.wr Od.COPY_A_STATUS 4 else if id = 1 then h1.wr Od.COPY_B_STATUS 4 else h1

/-- The re-reads of an array row end (R482). -/
def reread (row : Nat) (clean correctable : Bool) (copy : Nat) (h : Hub) : Hub :=
  match h.testOf 4 row with
  | none => h
  | some t =>
    let h1 := h.verdict t (if clean then 1 else 2)
    let h2 :=
      if clean then (if correctable then h1.inc Od.NV_SCRUBS else h1)
      else
        let x := if correctable then h1 else h1.spoilCopy copy
        if x.repair.rowsUsed < 32 then
          (x.saveRepair { x.repair with rowsUsed := x.repair.rowsUsed + 1 }).childReport 0xA2 t.cls t.parent
            (row % 256 + 256 * x.repair.rowsUsed) 0
        else x.childReport 0xA3 t.cls t.parent row 0
    h2.endTest 4 row

/-- REPAIR_RUNNING (R477): the kind of the oldest test under way. -/
def repairRunning (h : Hub) : Nat := ((h.tests.find? (fun t => t.stage != 0)).map (·.kind)).getD 0

/-- The windows that have ended close (R475). -/
def shadowsLapse (h : Hub) : Hub :=
  { h with shadows := h.shadows.filter (fun s => match s.ends with | none => true | some e => decide (h.now < e)) }

end Hub

/-- A detector reports: its source of Table 16-1, DETAIL and VALUE. -/
def execFaultReport (t : Stamp) (src : Byte) (detail value : Word) (s : State) : Out :=
  act t s (Hub.detector src.toNat detail.toNat value.toNat)

/-- A burst window ends. -/
def execLinkErrorBurstWindow (t : Stamp) (s : State) : Out := act t s Hub.rollBurst

/-- A reading of a die's temperature in 0.1 °C, two's complement. -/
def execTempThreshold (t : Stamp) (powerDie : Bool) (v : BitVec 16) (s : State) : Out :=
  act t s (fun h => if powerDie then h.powerDieTemp v.toNat else h.dieTemp v.toNat)

/-- VIN, or VAUX, has stood at this level, in mV, for 1 ms. -/
def execSupplyLow (t : Stamp) (aux : Bool) (mv : BitVec 16) (s : State) : Out := act t s (Hub.supplyLevel aux mv.toNat)

/-- RAIL_A (0) or RAIL_B (1) reads below 5.0 V. -/
def execRailLost (t : Stamp) (rail : Fin 2) (s : State) : Out := act t s (Hub.railLost rail)

/-- No valid transfer has come from the power die for the time of R460. -/
def execDieLinkLost (t : Stamp) (s : State) : Out := act t s Hub.dieLinkLost

/-- Flint's lockstep cores differ. -/
def execLockstep (t : Stamp) (s : State) : Out := act t s (Hub.report 0x51 0 0)

/-- Flint's watchdog has been unserved for 100 ms. -/
def execWatchdog (t : Stamp) (s : State) : Out := act t s (fun h => if h.flintOn then h.report 0x52 0 0 else h)

/-- A read of an array row finds an ECC error. -/
def execNvReadError (t : Stamp) (row : Word) (s : State) : Out := act t s (Hub.report 0x05 row.toNat 0)

/-- A write of FAULT_ACK, 8 bytes. -/
def execFaultAck (t : Stamp) (v : BitVec 64) (s : State) : Out :=
  act t s (Hub.writing Od.FAULT_ACK v.toNat (Hub.faultAck v.toNat))

/-- A write of 1 to SAFE_EXIT. -/
def execSafeExit (t : Stamp) (s : State) : Out := act t s (Hub.writing Od.SAFE_EXIT 1 Hub.safeExit)

/-- A write of a source's configuration with FORCE set. -/
def execSourceForce (t : Stamp) (id : Byte) (level : Fin 8) (s : State) : Out :=
  act t s (Hub.writing (Od.SOURCE id.toNat) (128 + level) (Hub.writeSource id.toNat (128 + level)))

/-- A write of a source's LEVEL. -/
def execSourceLevelWrite (t : Stamp) (id : Byte) (level : Fin 8) (s : State) : Out :=
  act t s (Hub.writing (Od.SOURCE id.toNat) level (Hub.writeSource id.toNat level))

/-- A shadow's window ends. -/
def execShadowExpiry (t : Stamp) (s : State) : Out := act t s Hub.shadowsLapse

/-- The copy of a bank under test to its spare, or back, is complete. -/
def execBankCopyDone (t : Stamp) (b : Fin 52) (s : State) : Out := act t s (Hub.bankCopied b)

/-- The march of a bank ends; `lasting` says that it found a failing bit. -/
def execBankMarchDone (t : Stamp) (b : Fin 52) (lasting : Bool) (s : State) : Out := act t s (Hub.bankMarched b lasting)

/-- The core test ends, with the pass of each core. -/
def execCoreTestDone (t : Stamp) (ok0 ok1 ok2 : Bool) (s : State) : Out :=
  act t s (Hub.coreTested (fun c => if c = 0 then ok0 else if c = 1 then ok1 else ok2))

/-- A port's loopback ends. -/
def execLoopbackDone (t : Stamp) (p : Cable) (bitError : Bool) (s : State) : Out := act t s (Hub.looped p bitError)

/-- The re-reads of an array row end: whether one was clean, whether the error was correctable, and the copy that holds the row:
0 and 1 the configuration copies, 2 and 3 the security region's, 4 and 5 the repair map's, 6 none. -/
def execNvRereadDone (t : Stamp) (row : Word) (clean correctable : Bool) (copy : Fin 7) (s : State) : Out :=
  act t s (Hub.reread row.toNat clean correctable copy)

/-- A repair-map copy is written. -/
def execRepairMapSaved (t : Stamp) (s : State) : Out := act t s (fun h => (h.expire Tm.repairSave Hub.storeRepair).commandReset)

/-- 1 ms after an L5 record. -/
def execL5ResetDelay (t : Stamp) (s : State) : Out := act t s (fun h => h.expire Tm.l5 (Hub.fullReset 5))

/-- The die link returns without a reset of the power die (R500). -/
def execDieLinkRestored (t : Stamp) (s : State) : Out := act t s (fun h => h.wr Reg.dieLost 0)

end Sys2Proof.Machine
end

