-- ==== Sys2Proof/Machine/SecOps.lean ====
section
/-!
DEFINITION. Sys2Proof/Machine/SecOps.lean: trust and security as shared operations (chapter 15, R429 to R453): messages and labels,
sessions and the trailer, key slots, and the key exchange of a trunk.
-/
namespace Sys2Proof.Machine

/-- A label of four ASCII bytes (R429). -/
def labelOf (s : String) : Bytes := s.toList.map (fun c => c.toNat)

/-- H of a byte string, as its 32 bytes (R429). -/
def digest (bs : Bytes) : Bytes := toBytes 32 (Config.sha256 bs)

/-- SERIAL, 8 bytes. -/
def serialBytes : Bytes := toBytes 8 Config.serial

/-- The MAC input of R440. -/
def macInput (req idx val len : Nat) (data : Bytes) (trailer : Nat) : Bytes :=
  labelOf "REQ1" ++ serialBytes ++ [req, 0] ++ toBytes 2 idx ++ toBytes 2 val ++ toBytes 2 len ++ data ++ toBytes 8 trailer

/-- Fields of the trailer (Table 15-3). -/
def trSession (x : Nat) : Nat := field x 0 2
def trCounter (x : Nat) : Nat := field x 4 4
def trMac (x : Nat) : Nat := field x 8 32

/-- Fields of a session record (Table 15-5). -/
def seRole (r : Nat) : Nat := byteAt r 1
def seSlot (r : Nat) : Nat := byteAt r 2
def seId (r : Nat) : Nat := field r 4 2
def seCounter (r : Nat) : Nat := field r 168 4
def seLastUse (r : Nat) : Nat := field r 180 8

/-- Keys and salts of both directions (R450). -/
structure LinkSecrets where
  down : Nat × Nat
  up : Nat × Nat

/-- The link keys that Z and the two nonces give (R450). -/
def deriveLink (z up down : Nat) : LinkSecrets :=
  let t1 := Config.hmac z (labelOf "LNK1" ++ toBytes 16 up ++ toBytes 16 down)
  let t2 := Config.hmac z (labelOf "LNK2" ++ toBytes 16 up ++ toBytes 16 down)
  ⟨(field t1 0 16, field t2 0 4), (field t1 16 16, field t2 4 4)⟩

namespace Hub

/-! ### Sessions (R439 to R443) -/

/-- The record of session place i, 1 to 8. -/
def sessionRec (h : Hub) (i : Nat) : Nat := h.rd (Od.SESSION_RECORD i)

/-- Session place i is open. -/
def sessionOpen (h : Hub) (i : Nat) : Bool := byteAt (h.sessionRec i) 0 == 1

/-- The place of an open session by its SESSION_ID. -/
def sessionOf (h : Hub) (id : Nat) : Option Nat := firstFrom 1 8 (fun i => h.sessionOpen i && seId (h.sessionRec i) == id)

/-- SESSIONS_OPEN (Table 15-12). -/
def sessionsOpen (h : Hub) : Nat := ((List.range 8).filter (fun i => h.sessionOpen (i + 1))).length

/-- A session closes: its record is FREE and its key erased (R443). -/
def closeSession (i : Nat) (h : Hub) : Hub :=
  { h with sessionKeys := dropBy Prod.fst i h.sessionKeys }.wr (Od.SESSION_RECORD i) 0

/-- Every session that f picks by its record closes. -/
def closeSessions (f : Nat → Bool) (h : Hub) : Hub :=
  (List.range 8).foldl (fun x i => if x.sessionOpen (i + 1) && f (x.sessionRec (i + 1)) then x.closeSession (i + 1) else x) h

/-- The role of a session: 1 Owner, 2 Operator, 0 where none is open. -/
def sessionRole (h : Hub) (id : Nat) : Nat :=
  match h.sessionOf id with
  | none => 0
  | some i => seRole (h.sessionRec i)

/-- The entries that accept a session-0 write (R434). -/
def sessionZero (h : Hub) (k : Nat) : Bool :=
  [Od.SESSION_OPEN, Od.OWNER_CLAIM, Od.ATTEST_NONCE, Od.LINK_KEYX].contains k || (k == Od.ASSIGN && h.rd Od.SEC_STATE == 0)

/-- The trailer of a request passes the checks of R440; `entry` is the key a session-0 write may name, and `txn` the session
that the requester's open transaction named. -/
def trailerOk (h : Hub) (req idx val len : Nat) (data : Bytes) (trailer : Nat) (entry : Option Nat) (txn : Option Nat) : Bool :=
  if trSession trailer = 0 then
    (match entry with | some k => h.sessionZero k | none => false) && txn.isNone && trCounter trailer == 0 && trMac trailer == 0
  else
    match h.sessionOf (trSession trailer) with
    | none => false
    | some i =>
      (match txn with | some q => q == trSession trailer | none => true)
        && decide (seCounter (h.sessionRec i) < trCounter trailer)
        && Config.hmac ((h.sessionKeys.lookup i).getD 0) (macInput req idx val len data trailer) % 256 ^ 32 == trMac trailer

/-- A trailer that passed is taken: LAST_COUNTER and LAST_USE (R440). -/
def trailerTaken (trailer : Nat) (h : Hub) : Hub :=
  match h.sessionOf (trSession trailer) with
  | none => h
  | some i => h.wr (Od.SESSION_RECORD i) (putField (putField (h.sessionRec i) 168 4 (trCounter trailer)) 180 8 h.stamp)

/-- COUNTER 0xFFFF_FFFF closes its session once the request is served (R443). -/
def counterSpent (trailer : Nat) (h : Hub) : Hub :=
  if trSession trailer ≠ 0 ∧ trCounter trailer = 0xFFFFFFFF then
    match h.sessionOf (trSession trailer) with
    | none => h
    | some i => h.closeSession i
  else h

/-- The checks of a SESSION_OPEN (R441). -/
def openChecks (h : Hub) (v : Nat) : Bool :=
  let slot := h.rd (Od.KEY_SLOT (byteAt v 0))
  let pub := field v 84 64
  byteAt slot 0 == 1 && field slot 4 32 == ofBytes (digest (toBytes 64 pub)) && Config.onCurve (field v 20 64)
    && Config.ecdsaVerify pub (digest (labelOf "SES1" ++ serialBytes ++ toBytes 16 (h.rd Od.SESSION_CHALLENGE) ++ toBytes 84 v)) (field v 148 64)

/-- The next SESSION_ID from the counter on: not 0 and not in use (R442); of nine candidates one is free. -/
def nextSessionId (h : Hub) : Nat :=
  ((((List.range 10).map (fun k => (h.rd Reg.sessionNext + k) % 65536)).find? (fun id => id != 0 && (h.sessionOf id).isNone))).getD 1

/-- An accepted open (R442): the lowest free record, the nonce and ephemeral key, the record's signature, and the session key. -/
def openSession (i v : Nat) (h : Hub) : Hub :=
  let id := h.nextSessionId
  let (nonce0, h1) := h.fresh
  let (secret, h2) := h1.fresh
  let (salt, h3) := h2.fresh
  let nonce := nonce0 % 256 ^ 16
  let head := pack [(1, 1), (1, if byteAt v 0 ≤ 4 then 1 else 2), (1, byteAt v 0), (1, 0), (2, id), (2, 0), (16, field v 4 16), (16, nonce),
    (64, Config.ecdhPublic secret)]
  let sig := Config.ecdsaSign (digest (labelOf "SES2" ++ serialBytes ++ toBytes 212 v ++ toBytes 104 head)) salt
  let key := Config.hmac (Config.ecdh secret (field v 20 64)) (labelOf "SES3" ++ toBytes 2 id ++ toBytes 16 (field v 4 16) ++ toBytes 16 nonce)
  ({ h3 with sessionKeys := putBy Prod.fst (i, key) h3.sessionKeys }.wr (Od.SESSION_RECORD i)
    (pack [(104, head), (64, sig), (4, 0), (8, h.stamp), (8, h.stamp)]) |>.wr Reg.sessionNext ((id + 1) % 65536)).inc Od.SESSIONS_OPENED

/-- SESSION_OPEN as judged (R441): AUTH_FAILED, STATE, or 0. -/
def openCode (v : Nat) (h : Hub) : Nat :=
  if h.writeCode Od.SESSION_OPEN v ≠ 0 then h.writeCode Od.SESSION_OPEN v
  else if !h.openChecks v then 4
  else if 8 ≤ h.sessionsOpen then 7
  else 0

/-- What a SESSION_OPEN that reached its checks does besides (R441): its failure is counted, and the challenge is renewed. -/
def openAfter (code : Nat) (h : Hub) : Hub :=
  (if code = 0 then h else h.inc Od.SESSION_OPEN_FAILS).renew Od.SESSION_CHALLENGE 16

/-- A write of SESSION_OPEN, its outcome apart (R441, R442). -/
def sessionOpenWrite (v : Nat) (h : Hub) : Nat × Hub :=
  let code := h.openCode v
  if code = 6 ∨ code = 8 then (code, h)
  else if code = 0 then
    (0, ((h.keep Od.SESSION_OPEN v).openSession ((firstFrom 1 8 (fun i => !h.sessionOpen i)).getD 1) v).openAfter 0)
  else (code, h.openAfter code)

/-- SESSION_CLOSE as judged (R443); `writer` is the session that writes. -/
def closeCode (writer id : Nat) (h : Hub) : Nat :=
  if h.writeCode Od.SESSION_CLOSE id ≠ 0 then h.writeCode Od.SESSION_CLOSE id
  else if (h.sessionOf writer).isNone then 4
  else if (h.sessionOf id).isNone then 7
  else if writer ≠ id ∧ h.sessionRole writer ≠ 1 then 3
  else 0

/-- The named session closes. -/
def closeById (id : Nat) (h : Hub) : Hub :=
  match h.sessionOf id with
  | none => h
  | some i => h.closeSession i

/-- SESSION_IDLE has passed since a session's LAST_USE (R443). -/
def sessionIdle (i : Nat) (h : Hub) : Hub :=
  if h.sessionOpen i && decide (seLastUse (h.sessionRec i) + h.rd Od.SESSION_IDLE * 1000000000 ≤ h.stamp) then h.closeSession i else h

/-! ### Key slots, claims and transfers (R435 to R437) -/

/-- The slots have changed: OWNER_DIGEST follows, the region is saved, and SEC_STATE follows unless a transfer is pending. -/
def slotsChanged (h : Hub) : Hub :=
  (if h.rd Od.SEC_STATE = 2 then h.refreshOwner else h.refreshSecState).saveSecurity

/-- A SEC-class event (source 0x63). -/
def secEvent (detail : Nat) (h : Hub) : Hub := h.report 0x63 detail 0

/-- SLOT_RESULT of a SLOT_CMD (R437). -/
def slotResult (h : Hub) (v : Nat) : Nat :=
  let slot := byteAt v 1
  if byteAt v 0 = 1 then
    let hash := ofBytes (digest (toBytes 64 (field v 4 64)))
    if (List.range 12).any (fun i => i + 1 != slot && byteAt (h.rd (Od.KEY_SLOT (i + 1))) 0 == 1 && field (h.rd (Od.KEY_SLOT (i + 1))) 4 32 == hash) then 2
    else 1
  else
    if slot ≤ 4 ∧ byteAt (h.rd (Od.KEY_SLOT slot)) 0 = 1
        ∧ (List.range 4).all (fun i => i + 1 == slot || byteAt (h.rd (Od.KEY_SLOT (i + 1))) 0 != 1) = true then 2
    else 1

/-- SLOT_CMD (R437): INSTALL or REVOKE; the sessions opened with the slot close. -/
def slotCmd (v : Nat) (h : Hub) : Hub :=
  let slot := byteAt v 1
  let r := h.slotResult v
  let h1 := h.wr Od.SLOT_RESULT r
  if r ≠ 1 then h1
  else
    let old := h1.rd (Od.KEY_SLOT slot)
    let new := if byteAt v 0 = 1 then
        pack [(1, 1), (1, if slot ≤ 4 then 1 else 2), (2, 0), (32, ofBytes (digest (toBytes 64 (field v 4 64))))]
      else putField old 0 1 2
    (((h1.wr (Od.KEY_SLOT slot) new).slotsChanged).secEvent 2).closeSessions (fun s => seSlot s == slot)

/-- CLAIM_RESULT of an OWNER_CLAIM (R435, R436). -/
def claimResult (h : Hub) (v : Nat) : Nat :=
  let pub := field v 0 64
  let st := h.rd Od.SEC_STATE
  if st = 1 then 2
  else if st = 2 ∧ h.rd Od.TRANSFER_DEADLINE ≤ h.stamp then 5
  else if st = 2 ∧ h.rd Reg.transferTo ≠ ofBytes (digest (toBytes 64 pub)) then 4
  else if !Config.ecdsaVerify pub (digest (labelOf "CLM1" ++ serialBytes ++ toBytes 16 (h.rd Od.CLAIM_CHALLENGE) ++ toBytes 64 v)) (field v 64 64) then 3
  else 1

/-- A pending transfer's slots and sessions go, and with ERASE_CONFIG the store (R435 step 1). -/
def transferDone (h : Hub) : Hub :=
  let h1 := (h.clear ((List.range 12).map (fun i => Od.KEY_SLOT (i + 1)))).closeSessions (fun _ => true)
  if h1.rd Reg.transferErase = 1 then (h1.raiseHalt Od.EP0_OD_HALT 2).eraseCopies.wr Od.STORE_STATE 0 else h1

/-- An accepted claim (R435). -/
def claimDone (v : Nat) (h : Hub) : Hub :=
  let h1 := if h.rd Od.SEC_STATE = 2 then h.transferDone else h
  let h2 := h1.wr (Od.KEY_SLOT 1) (pack [(1, 1), (1, 1), (2, 0), (32, ofBytes (digest (toBytes 64 (field v 0 64))))])
  (h2.refreshSecState.saveSecurity).renew Od.SESSION_CHALLENGE 16

/-- OWNER_CLAIM (R435): CLAIM_RESULT, the effects of an accepted claim, the renewed challenge and the event; the outcome beside it. -/
def ownerClaim (v : Nat) (h : Hub) : Nat × Hub :=
  if h.writeCode Od.OWNER_CLAIM v ≠ 0 then (h.writeCode Od.OWNER_CLAIM v, h)
  else
    let r := h.claimResult v
    let h1 := if r = 1 then (h.keep Od.OWNER_CLAIM v).claimDone v else if r = 5 then h.refreshSecState else h
    let h2 := ((h1.wr Od.CLAIM_RESULT r).renew Od.CLAIM_CHALLENGE 16).secEvent 1
    (if r = 1 then 0 else if r = 3 then 4 else 7, h2)

/-- TRANSFER (R436): an all-zero target cancels; any other starts or replaces a transfer. -/
def transferWrite (v : Nat) (h : Hub) : Hub :=
  if field v 0 32 = 0 then (if h.rd Od.SEC_STATE = 2 then h.refreshSecState else h)
  else h.wr Od.SEC_STATE 2 |>.wr Reg.transferTo (field v 0 32) |>.wr Reg.transferErase (byteAt v 32 % 2)
    |>.wr Od.TRANSFER_DEADLINE ((h.stamp + h.rd Od.TRANSFER_WINDOW * 1000000000) % 2 ^ 64)

/-- TRANSFER_DEADLINE has come (R436). -/
def transferLapse (h : Hub) : Hub :=
  if h.rd Od.SEC_STATE = 2 ∧ h.rd Od.TRANSFER_DEADLINE ≤ h.stamp then h.refreshSecState else h

/-- ATTEST_NONCE (R433): the report of Table 15-2, signed. -/
def attest (v : Nat) (h : Hub) : Hub :=
  let (salt, h1) := h.fresh
  let flags := h.rd Od.ENDORSE_REQUIRED + 2 * h.rd Od.WINDOW_WRITES + 4 * h.rd Od.LF_SOURCE
  let body := pack [(32, v), (8, Config.serial), (1, h.rd Od.SILICON_REVISION), (1, h.rd Od.SEC_STATE), (1, h.rd Od.FW_SLOT), (1, h.rd Od.FW_SVN),
    (1, h.rd Od.MIN_SVN), (1, flags), (2, 0), (4, h.rd Od.FW_VERSION), (32, h.rd Od.FW_DIGEST), (32, h.rd Od.OWNER_DIGEST),
    (4, h.rd Od.SEQ_IN_USE), (2, h.rd Od.HUB_ID), (1, h.rd Od.HUB_ROLE_ACTIVE), (1, 0), (4, h.rd Od.RESET_COUNT), (8, h.stamp)]
  h1.wr Od.ATTEST_REPORT (pack [(136, body), (64, Config.ecdsaSign (digest (labelOf "ATT1" ++ toBytes 136 body)) salt)])

/-! ### The firmware slots (R447) -/

/-- The slot that is not running. -/
def inactive (h : Hub) : Nat := 1 - h.rd Od.FW_SLOT

/-- FW_WRITE_DATA (R447); `good` says that the readback matches. A block whose readback differs holds a free value (log entry 2). -/
def fwWrite (v : Nat) (good : Bool) (h : Hub) : Hub :=
  let at_ := h.rd Od.FW_WRITE_AT
  if 523776 < at_ then h.wr Od.FW_RESULT 3
  else
    let h1 := h.wr Reg.fwChecked 0
    if good then (h1.putFlash h1.inactive (at_ / 512) v).wr Od.FW_WRITE_AT (at_ + 512) |>.wr Od.FW_RESULT 1
    else
      let (x, h2) := h1.fresh
      (h2.putFlash h2.inactive (at_ / 512) (x % 256 ^ 512)).wr Od.FW_RESULT 9

/-- FW_WRITE_DATA needs PD12 ON besides (R447); while a check is under way it gives STATE, as FW_CMD does (log entry 24). -/
def fwWriteCode (v : Nat) (h : Hub) : Nat :=
  if h.writeCode Od.FW_WRITE_DATA v ≠ 0 then h.writeCode Od.FW_WRITE_DATA v
  else if !h.isOn 12 then 8 else if h.rd Od.FW_RESULT = 2 then 7 else 0

/-- ERASE_INACTIVE (R447). -/
def fwErase (h : Hub) : Hub :=
  let s := h.inactive
  { h with flash := (List.range 1024).foldl (fun l i => flashPut l (s * 1024 + i) Config.flashErased) h.flash }.wr
      Od.FW_RESULT 1 |>.wr Reg.fwChecked 0

/-- CHECK_INACTIVE begins (R447). -/
def fwCheck (h : Hub) : Hub := h.wr Od.FW_RESULT 2 |>.wr Reg.secOp 1

/-- The check completes (R445, R447). -/
def fwChecked (h : Hub) : Hub :=
  if h.rd Od.FW_RESULT = 2 then
    let code := h.fwVerdict h.inactive
    h.wr Od.FW_RESULT (if code = 0 then 1 else code) |>.wr Reg.secOp 0 |>.wr Reg.fwChecked (if code = 0 then 1 else 0)
  else h

/-- PREFER_INACTIVE (R447, Table 15-8). -/
def fwPrefer (h : Hub) : Hub :=
  if h.rd Reg.fwChecked = 1 then (h.wr Od.FW_PREFERRED h.inactive |>.wr Od.FW_RESULT 1).saveSecurity else h.wr Od.FW_RESULT 3

/-- COMMIT_SVN (R447, Table 15-8). -/
def fwCommitSvn (h : Hub) : Hub := h.wr Od.MIN_SVN (h.rd Od.FW_SVN) |>.wr Od.FW_RESULT 1

/-- FW_CMD by its value; while a check is under way another command gives STATE (R447). -/
def fwCmd (c : Nat) (h : Hub) : Hub :=
  if c = 1 then h.fwErase else if c = 2 then h.fwCheck else if c = 3 then h.fwPrefer else h.fwCommitSvn

/-- FW_CMD as judged. -/
def fwCmdCode (c : Nat) (h : Hub) : Nat :=
  if h.writeCode Od.FW_CMD c ≠ 0 then h.writeCode Od.FW_CMD c else if h.rd Od.FW_RESULT = 2 then 7 else 0

/-! ### Key exchanges (R448 to R453) -/

/-- The exchange under way on trunk u. -/
def keyxOf (h : Hub) (u : Nat) : Option KeyExchange := h.keyx.find? (fun k => k.trunk == u)

/-- The keys of trunk u. -/
def linkKeyOf (h : Hub) (u : Nat) : LinkKey := (h.linkKeys.find? (fun k => k.trunk == u)).getD ⟨u, none, none, none, none⟩

/-- The exchange of trunk u ends. -/
def endKeyx (u : Nat) (h : Hub) : Hub := { h with keyx := dropBy KeyExchange.trunk u h.keyx }

/-- An OD setup record (Tables 6-12 and 12-3): KIND OD in bits [6:5] of byte 0. -/
def odSetup (isIn : Bool) (req idx val len : Nat) : Nat :=
  pack [(1, 32 + (if isIn then 128 else 0)), (1, req), (2, val), (2, idx), (2, len)]

/-- What the upstream end asks of the child at a stage of the exchange, in link-local CONTROL (R449): its length and bytes. -/
def keyxRequest (k : KeyExchange) : Nat × Nat :=
  match k.stage with
  | 0 => (8, odSetup true 0x10 0x7000 3 768)
  | 1 => (8, odSetup true 0x10 0x7000 4 768)
  | 2 => (196, odSetup false 0x11 0x7040 1 188 + 256 ^ 8 * k.message)
  | _ => (8, odSetup true 0x10 0x7040 2 148)

/-- The request of the exchange's stage goes out with a TAG of its own. -/
def askKeyx (k : KeyExchange) (h : Hub) : Hub :=
  let p := 16 + k.trunk
  let tag := h.rd (Reg.ctlTag p)
  let q := keyxRequest k
  { h with keyx := putBy KeyExchange.trunk { k with tag := tag } h.keyx }.sendRequest p q.1 q.2 (decide (2 ≤ k.stage))

/-- The upstream end begins an exchange on trunk u: op 1 AGREE, 2 REKEY (R448, R449, R452). -/
def beginKeyx (u op : Nat) (h : Hub) : Hub :=
  (h.wr (Od.UA_SEC_STATE + u) (if op = 1 then 1 else 3)).askKeyx ⟨u, true, op, 0, 0, 0, 0, 0⟩

/-- Trunk u is an ACTIVE TS link whose upstream end the hub is. -/
def keyxUpstream (h : Hub) (u : Nat) : Bool :=
  h.upstreamEnd (16 + u) && h.rd (Od.LINK_STATE (16 + u)) == 4 && h.rd (Od.LINK_CLASS (16 + u)) == 4

/-- An AGREE that is owed begins (R448). -/
def keyxStart (u : Nat) (h : Hub) : Hub :=
  if h.rd (Reg.keyxDue u) = 1 ∧ h.keyxUpstream u = true ∧ h.rd Od.TRUNK_ENC ≠ 0 ∧ (h.keyxOf u).isNone = true ∧ h.isOn 11 = true
      ∧ h.flintOn = true then
    (h.wr (Reg.keyxDue u) 0).beginKeyx u 1
  else h

/-- An exchange fails at the end that finds it (R453); under PREFERRED the upstream end tries again after 60 s. -/
def keyxFail (u : Nat) (upstream : Bool) (h : Hub) : Hub :=
  let h1 := (((h.endKeyx u).inc Od.KEYX_FAILS).wr (Od.UA_SEC_STATE + u) 4).secEvent 3
  if upstream && h1.rd Od.TRUNK_ENC == 1 then h1.arm (Tm.keyRetry u) (ms 60000) else h1

/-- The upstream end holds verified keys (R451): it sends under the new key at once, and expects the new key next. -/
def keyxDone (k : KeyExchange) (s : LinkSecrets) (h : Hub) : Hub :=
  let u := k.trunk
  let old := h.linkKeyOf u
  let h1 := { h with linkKeys := putBy LinkKey.trunk { old with txCur := some s.down, rxNext := some s.up } h.linkKeys }.endKeyx u
  let h2 := (h1.clear [Tm.keyAgree u, Tm.keyRetry u, Reg.keyE u, Reg.keyFramesRx u]).wr (Reg.keyTx u) 1 |>.wr (Od.UA_SEC_STATE + u) 2
  (if k.op = 2 then h2.inc Od.REKEYS else h2).arm (Tm.rekey u) (h.rd Od.REKEY_INTERVAL * 1000000000)

/-- A response to the upstream end's request (R449): the certificates are verified, LINK_KEYX is written, and the reply is read
until it is DONE or REFUSED. -/
def keyxAnswer (k : KeyExchange) (stall : Bool) (v : Nat) (h : Hub) : Hub :=
  let u := k.trunk
  if stall then h.keyxFail u true
  else match k.stage with
    | 0 => h.askKeyx { k with stage := 1, cert := v % 256 ^ 768 }
    | 1 =>
      if !Config.certValid k.cert (v % 256 ^ 768) (h.rd Od.ID_ROOT_HASH) then h.keyxFail u true
      else
        let (nonce, h1) := h.fresh
        let (secret, h2) := h1.fresh
        let (salt, h3) := h2.fresh
        let head := pack [(1, k.op), (3, 0), (16, nonce), (64, Config.ecdhPublic secret)]
        let sig := Config.ecdsaSign (digest (labelOf "LKX1" ++ toBytes 8 (Config.certSerial k.cert) ++ toBytes 84 head)) salt
        h3.askKeyx { k with stage := 2, secret := secret, message := pack [(84, head), (64, sig)] }
    | 2 => h.askKeyx { k with stage := 3 }
    | _ =>
      if byteAt v 0 = 2 then
        if Config.ecdsaVerify (Config.certKey k.cert) (digest (labelOf "LKX2" ++ serialBytes ++ toBytes 84 k.message ++ toBytes 84 v)) (field v 84 64) then
          h.keyxDone k (deriveLink (Config.ecdh k.secret (field v 20 64)) (field k.message 4 16) (field v 4 16))
        else h.keyxFail u true
      else if byteAt v 0 = 3 then h.keyxFail u true
      else h.askKeyx k

/-- The halt cause KEY_ROTATION follows a REKEY on the control upstream (R452). -/
def rotation (u : Nat) (on : Bool) (h : Hub) : Hub :=
  if on then (if h.rd Od.CONTROL_UPSTREAM = 16 + u then (h.wr Reg.rotating (u + 1)).refreshHalts else h)
  else if h.rd Reg.rotating = u + 1 then (h.wr Reg.rotating 0).refreshHalts
  else h

/-- LINK_KEYX as judged at the child (R449): a TS link whose downstream end the hub is, and no exchange under way on it. -/
def keyxCode (u v : Nat) (h : Hub) : Nat :=
  if h.writeCode Od.LINK_KEYX v ≠ 0 then h.writeCode Od.LINK_KEYX v
  else if !(h.downstreamEnd (16 + u) && h.rd (Od.LINK_STATE (16 + u)) == 4 && h.rd (Od.LINK_CLASS (16 + u)) == 4) then 7
  else if (h.keyxOf u).isSome then 7
  else 0

/-- LINK_KEYX at the child (R449, R452): the reply reads BUSY while the exchange runs, or REFUSED where encryption is OFF. -/
def keyxWrite (u v : Nat) (h : Hub) : Hub :=
  if h.rd Od.TRUNK_ENC = 0 then h.wr (Reg.keyxReply u) (3 + 256 * 1)
  else
    let h1 := { h with keyx := putBy KeyExchange.trunk ⟨u, false, byteAt v 0, 0, 0, 0, 0, v⟩ h.keyx }.wr (Reg.keyxReply u) 1
    let h2 := h1.wr (Od.UA_SEC_STATE + u) (if byteAt v 0 = 1 then 1 else 3)
    if byteAt v 0 = 2 then h2.rotation u true else h2

/-- The child refuses (R449, R453). -/
def keyxRefuse (k : KeyExchange) (reason : Nat) (h : Hub) : Hub :=
  ((h.wr (Reg.keyxReply k.trunk) (3 + 256 * reason)).keyxFail k.trunk false).rotation k.trunk false

/-- The child fills its reply (R449, R451): the upstream end's certificates and signature verified, the keys derived and held as
next keys. -/
def keyxReply (u cert ca : Nat) (h : Hub) : Hub :=
  match h.keyxOf u with
  | none => h
  | some k =>
    if k.upstream then h
    else if !Config.certValid cert ca (h.rd Od.ID_ROOT_HASH) then h.keyxRefuse k 2
    else if !Config.ecdsaVerify (Config.certKey cert) (digest (labelOf "LKX1" ++ serialBytes ++ toBytes 84 k.message)) (field k.message 84 64) then
      h.keyxRefuse k 3
    else
      let (nonce, h1) := h.fresh
      let (secret, h2) := h1.fresh
      let (salt, h3) := h2.fresh
      let head := pack [(1, 2), (3, 0), (16, nonce), (64, Config.ecdhPublic secret)]
      let sig := Config.ecdsaSign
        (digest (labelOf "LKX2" ++ toBytes 8 (Config.certSerial cert) ++ toBytes 84 k.message ++ toBytes 84 head)) salt
      let s := deriveLink (Config.ecdh secret (field k.message 20 64)) (field k.message 4 16) (nonce % 256 ^ 16)
      let h4 := { h3 with linkKeys := putBy LinkKey.trunk { h3.linkKeyOf u with rxNext := some s.down, txNext := some s.up } h3.linkKeys }
      let h5 := ((h4.endKeyx u).wr (Reg.keyxReply u) (pack [(84, head), (64, sig)])).rotation u false
      if k.op = 2 then h5.inc Od.REKEYS else h5

/-- A frame has passed under the next receive key of trunk u (R451): that key is current, and the child's transmit key follows. -/
def nextKeyPassed (u : Nat) (h : Hub) : Hub :=
  let k := h.linkKeyOf u
  let k1 : LinkKey := { k with rxCur := k.rxNext, rxNext := none }
  let h1 := h.wr (Reg.keyFramesRx u) 0
  match k.txNext with
  | none => { h1 with linkKeys := putBy LinkKey.trunk k1 h1.linkKeys }
  | some x =>
    { h1 with linkKeys := putBy LinkKey.trunk { k1 with txCur := some x, txNext := none } h1.linkKeys }.wr (Reg.keyTx u) 1
      |>.wr (Reg.keyE u) 0 |>.wr (Od.UA_SEC_STATE + u) 2

/-- A REKEY is due (R452): the interval, or 2^30 frames in either direction under the current key. -/
def rekeyDue (u : Nat) (h : Hub) : Hub :=
  if h.keyxUpstream u && h.rd (Reg.keyTx u) == 1 && (h.keyxOf u).isNone && h.isOn 11 && h.flintOn
      && (h.due (Tm.rekey u) || decide (2 ^ 30 ≤ h.rd (Reg.keyE u)) || decide (2 ^ 30 ≤ h.rd (Reg.keyFramesRx u))) then
    (h.wr (Tm.rekey u) 0).beginKeyx u 2
  else h

/-- tKeyAgree without keys under REQUIRED (R453): the link is reset, and the held copies are dropped. -/
def keyAgreeLapse (u : Nat) (h : Hub) : Hub :=
  h.expire (Tm.keyAgree u) (fun x =>
    if x.rd Od.TRUNK_ENC = 2 ∧ x.rd (Reg.keyTx u) = 0 ∧ x.upstreamEnd (16 + u) = true ∧ 4 ≤ x.rd (Od.PORT_STATE (16 + u)) then
      ((x.endKeyx u).enterResetting (16 + u)).egressGone (16 + u)
    else x)

/-- 60 s after a failure under PREFERRED AGREE is tried again (R453). -/
def keyxRetry (u : Nat) (h : Hub) : Hub :=
  h.expire (Tm.keyRetry u) (fun x =>
    if x.rd Od.TRUNK_ENC = 1 ∧ x.rd (Reg.keyTx u) = 0 then (x.wr (Reg.keyxDue u) 1).keyxStart u else x)

/-! ### Zeroisation (R454) -/

/-- ZEROISE (R454): the event, the marker, the keys, the region and the copies, and then the full reset. -/
def zeroise (h : Hub) : Hub :=
  let h1 := ((h.secEvent 4).wr Reg.zeroMark 1).closeSessions (fun _ => true)
  let h2 := [0, 1].foldl (fun x u => if (x.linkKeyOf u).txCur.isSome || (x.linkKeyOf u).rxCur.isSome then x.retrainLink (16 + u) else x.dropLinkKeys u) h1
  ((h2.wr Od.FW_PREFERRED (h2.rd Od.FW_SLOT)).finishZeroise).fullReset 6

end Hub
end Sys2Proof.Machine
end

