-- ==== Sys2Proof/Machine/Tables.lean ====
section
/-!
DEFINITION. Sys2Proof/Machine/Tables.lean: forwarding tables and observation (chapter 10, R309 to R324).
-/
namespace Sys2Proof.Machine

namespace Hub

/-- The cells of a range of keys, moved to another base, replace what stands there. -/
def moveCells (src dst len : Nat) (h : Hub) : Hub :=
  let cs := h.cells.filter (fun c => decide (src ≤ c.1) && decide (c.1 < src + len))
  (h.wipe dst (dst + len)).wrAll (cs.map (fun c => (dst + (c.1 - src), c.2)))

/-- The shadow tables become the live tables (R313). -/
def shadowToLive (h : Hub) : Hub := h.moveCells 0x440000 (Reg.live 0) 0x20400

/-- Every live entry is copied into the shadow (R312). -/
def liveToShadow (h : Hub) : Hub := h.moveCells (Reg.live 0) 0x440000 0x20400

/-- PUBLISH (R313): its checks; a PUBLISH that is DONE takes effect at t_p. Until then a further one meets DRAINING (log entry 68). -/
def publish (h : Hub) : Hub :=
  if !h.isOn 2 then h.wr Od.PUBLISH_RESULT 3
  else if h.running Tm.publish then h.wr Od.PUBLISH_RESULT 2
  else if h.rd Od.EPOCH_DRAINING ≠ 0xFF then h.wr Od.PUBLISH_RESULT 2 |>.wr Reg.publishAt (h.now + 1)
  else h.publishDone

/-- t_p (R313, R314): the shadow is live, the epoch advances, and the old epoch drains. -/
def publishEffect (h : Hub) : Hub :=
  h.expire Tm.publish (fun x =>
    let old := x.rd Od.EPOCH_LIVE
    let y := x.shadowToLive.wr Od.EPOCH_LIVE ((old + 1) % 4) |>.wr Od.EPOCH_DRAINING old |>.wr Od.PUBLISH_TIME x.stamp
    y.refreshEpochs)

/-- RING_CLEAR (R319). -/
def ringClear (h : Hub) : Hub := { h with ring := [] }.wr Od.RING_WRITTEN 0

/-- The hub's instant is a stamp k·10 ms of the timebase, or, while PD5 is not ON, the first at which the stamps taken from the real-time
counter have reached one (R26, R320). -/
def auditFalls (h : Hub) : Bool :=
  if h.isOn 5 then h.timebase % 10000000 == 0
  else
    let at_ (ns : Nat) : Nat := (h.rd Reg.tbBase + elapsedPeriods ns) / 10000000
    let ns := h.now - h.rd Reg.tbAt
    at_ (ns - 8) != at_ ns

/-- An audit starts (R320). -/
def auditStart (h : Hub) : Hub :=
  if h.rd Od.AUDIT_ENABLE = 1 ∧ h.isOn 2 = true ∧ h.running Tm.auditEnd = false ∧ h.auditFalls = true then h.arm Tm.auditEnd 0 else h

/-- An ORPHAN found: its cell, as physical bank × 512 + cell, and its allocation tag. -/
abbrev Orphan : Type := Nat × Nat

/-- The domain of an orphan. -/
def orphanDomain (o : Orphan) : Nat := bankDomain (o.1 / 512)

/-- Cells that the frames of a domain hold. -/
def heldCells (h : Hub) (d : Nat) : Nat := ((h.frames.filter (fun f => f.live && f.domain == d)).map (·.cells)).foldl (· + ·) 0

/-- Reclaimed cells return to their domain's free list, which never exceeds the cells that no frame holds (R321). -/
def reclaim (d n : Nat) (h : Hub) : Hub := h.wr (freeKey d) (min (h.rd (freeKey d) + n) (12288 - h.heldCells d))

/-- An audit completes (R320, R321): orphans found twice with one tag are reclaimed, and double links are raised as faults. A cell that a frame
holds is no orphan, the tag of each is that of its last allocation, and only the cells of a Shale domain that is ON are classed. -/
def auditComplete (orphans : List Nat) (doubles : List Nat) (h : Hub) : Hub :=
  if !h.isOn 2 then h
  else h.expire Tm.auditEnd (fun x =>
    let found : List Orphan := (orphans.filter (fun c => !x.cellHeld (c / 512) (c % 512) && x.isOn (bankDomain (c / 512)))).map (fun c => (c, x.rd (Reg.cellTag c)))
    let again := found.filter (fun o => x.orphans.contains o)
    let left := found.filter (fun o => !x.orphans.contains o)
    let y := { x with orphans := left }.wr Od.LAST_AUDIT_TIME x.stamp |>.wr Od.ORPHANS_LAST found.length |>.inc Od.AUDITS
    let n := again.length
    let z := (y.reclaim 3 (again.filter (fun o => orphanDomain o == 3)).length).reclaim 4 (again.filter (fun o => orphanDomain o == 4)).length
    let w := if n = 0 then y else (z.add Od.ORPHANS_RECLAIMED n).report 0x07 n 0
    (doubles.filter (fun c => x.isOn (bankDomain (c / 512)))).foldl (fun v c => (v.inc Od.DOUBLE_LINKS).report 0x08 c 0) w)

/-- A write of PUBLISH: while PD2 is not ON the write itself is refused as well (R313, R363). -/
def publishWrite (h : Hub) : Hub :=
  let code := h.writeCode Od.PUBLISH 1
  (if code = 0 then h.keep Od.PUBLISH 1 else h).publish.wrote code

end Hub

/-- A write of 1 to PUBLISH. -/
def execPublish (t : Stamp) (s : State) : Out := act t s Hub.publishWrite

/-- t_p of a PUBLISH. -/
def execPublishEffect (t : Stamp) (s : State) : Out := act t s Hub.publishEffect

/-- A write of 1 to REVERT. -/
def execRevert (t : Stamp) (s : State) : Out := act t s (Hub.writing Od.REVERT 1 Hub.liveToShadow)

/-- A write of 1 to RING_CLEAR. -/
def execRingClear (t : Stamp) (s : State) : Out := act t s (Hub.writing Od.RING_CLEAR 1 Hub.ringClear)

/-- The stamp of an audit. -/
def execAuditStart (t : Stamp) (s : State) : Out := act t s Hub.auditStart

/-- An audit completes: the orphans it found, as physical bank × 512 + cell, and the cells doubly linked. -/
def execAuditComplete (t : Stamp) (orphans doubles : List Nat) (s : State) : Out :=
  act t s (Hub.auditComplete orphans doubles)

end Sys2Proof.Machine
end

