-- ==== Sys2Proof/Machine/OdRead.lean ====
section
/-!
DEFINITION. Sys2Proof/Machine/OdRead.lean: what each entry of the dictionary reads (R351 to R354, R360, R361): the entries that are
computed from the hub's state, the rest from their cells, and the descriptors of Table 12-4.
-/
namespace Sys2Proof.Machine

/-- Packets of a FIFO that are complete and whose SOP word has not been consumed (R402). -/
def wholePackets : List FifoWord → Nat
  | [] => 0
  | w :: r => (if w.sop && (w :: r).any (fun x => x.eop) then 1 else 0) + wholePackets r

/-- A list of two-byte numbers. -/
def pack16 (l : List Nat) : Nat := pack (l.map (fun x => (2, x)))

/-- The fenced cells of a domain as 64 two-byte numbers, 0xFFFF where unused (Table 16-14). -/
def fencedBytes (m : RepairMap) (d : Nat) : Nat :=
  let l := (m.fenced.filter (fun c => Hub.bankDomain c.1 == d)).map (fun c => c.1 * 512 + c.2)
  pack16 (l ++ List.replicate (64 - l.length) 0xFFFF)

/-- REPAIR_MAP as bytes (Table 16-14). -/
def repairBytes (m : RepairMap) : Nat :=
  let fenced (d : Nat) : Nat := (m.fenced.filter (fun c => Hub.bankDomain c.1 == d)).length
  pack [(4, m.seq), (7, m.badBanks), (1, 0), (48, if m.bankMap = 0 then odDefault Od.BANK_MAP else m.bankMap), (1, m.retired),
    (1, m.pairA + 16 * m.pairB), (3, m.phyFailed), (1, m.rowsUsed), (2, fenced 3), (2, fenced 4), (2, 0), (8, m.changed), (16, 0)]

/-- The keys of the shadow tables: 4,096 endpoint entries, 2,048 routes and 512 groups (Table 10-1). -/
def shadowKeys : List Nat :=
  (List.range 4096).map (tableKey 0x4400) ++ ((List.range 2048).map (tableKey 0x4500) ++ (List.range 512).map (tableKey 0x4600))

/-- Bytes of a string value up to its last byte that is not 0; a string holds no interior NUL (Table 12-1). -/
def strLen (n v : Nat) : Nat := ((toBytes n v).reverse.dropWhile (· == 0)).length

namespace Hub

/-- The ring's record at position p, or 0 where the position is not valid (R319). -/
def ringAt (h : Hub) (p : Nat) : Nat :=
  let age := (h.rd Od.RING_WRITTEN + 2 ^ 32 - p % 2 ^ 32) % 2 ^ 32
  if 1 ≤ age ∧ age ≤ h.ring.length then h.ring.getD (h.ring.length - age) 0 else 0

/-- The ring's record in slot j of 4,096 (Table 20-6). -/
def ringSlot (h : Hub) (j : Nat) : Nat :=
  let age := (h.rd Od.RING_WRITTEN % 4096 + 8191 - j) % 4096 + 1
  if age ≤ h.ring.length then h.ring.getD (h.ring.length - age) 0 else 0

/-- The log's record of age a, the newest having age 0, or 0. -/
def logAged (h : Hub) (a : Nat) : Nat :=
  if a < h.log.length then ((h.log[h.log.length - 1 - a]?).map LogRec.bytes).getD 0 else 0

/-- The log's record with LOG_SEQ s, or 0 where it is not valid (R462). -/
def logAt (h : Hub) (s : Nat) : Nat :=
  let age := (h.rd Od.LOG_WRITTEN + 2 ^ 32 - s % 2 ^ 32) % 2 ^ 32
  if age < 512 then h.logAged age else 0

/-- The log's record in slot j of 512 (Table 20-6). -/
def logSlot (h : Hub) (j : Nat) : Nat := h.logAged ((h.rd Od.LOG_WRITTEN % 512 + 512 - j) % 512)

/-- The copy of the repair map in use (R488). -/
def repairInUse (h : Hub) : RepairMap :=
  if h.rd Od.REPAIR_STORE = 1 then (h.copyOf 4).map else if h.rd Od.REPAIR_STORE = 2 then (h.copyOf 5).map else RepairMap.factory

/-- The value of an entry in the configuration copy in use; the default where the store is FACTORY (R373). -/
def storedValue (h : Hub) (k : Nat) : Nat :=
  (h.storedRecords.lookup k).getD (savedPart k (h.defaultOf k))

/-- UNSAVED (R373). -/
def unsaved (h : Hub) : Nat := (savedKeys.filter (fun k => savedPart k (h.rd k) != h.storedValue k)).length

/-- SHADOW_DIFF (R312). -/
def shadowDiff (h : Hub) : Nat := (shadowKeys.filter (fun k => h.rd k != h.rd (Reg.live (k - 0x440000)))).length

/-- SLOT_SNAPSHOT (Table 7-12): 16 bytes a slot. -/
def slotSnapshot (h : Hub) : Nat :=
  pack ((List.range 128).map (fun i =>
    (16, match h.slots.find? (fun s => s.id == i) with
      | none => 0
      | some s => pack [(1, s.state), (1, s.port), (1, s.tdev), (1, s.target), (1, s.carrier), (1, s.result), (2, s.tag), (8, s.created)])))

/-- NEIGHBOURS (Table 11-12): 4 bytes a port; a two-way neighbour comes before one heard one way. -/
def neighbourBytes (h : Hub) : Nat :=
  pack ((List.range 18).map (fun p =>
    let here := h.neighbours.filter (fun n => n.port == p)
    (4, match (here.filter (fun n => n.twoWay)).head? with
      | some n => n.node + 65536 * 2
      | none => match here.head? with | some n => n.node + 65536 | none => 0)))

/-- CLASS_STATUS of class c (R472). -/
def classStatus (h : Hub) (c : Nat) : Nat :=
  min 255 (h.unacked.filter (fun u => u.cls == c)).length + 256 * h.highestUnacked c

/-- Records that wait in Garnet for EVQ (R463). -/
def evqPending (h : Hub) : Nat := (h.log.filter (fun r => seqAfter r.seq (h.rd Reg.evqQueued))).length

/-- Records of level L1 or higher not yet sent to the manager (R463). -/
def managerPending (h : Hub) : Nat := (h.log.filter (fun r => forManager r && seqAfter r.seq (h.rd Reg.mgrSent))).length

/-- Free words of TXQ (R399). -/
def txqFree (h : Hub) : Nat := 1024 - h.txq.length

/-- OD_STATE of HL_STATUS (R389): NOT_READY while PD1 is not ON. -/
def odState (h : Hub) : Nat := if h.isOn 1 then h.rd Reg.mailbox else 3

/-- HL_STATUS (Table 13-9). -/
def hlStatus (h : Hub) : Nat :=
  (if wholePackets h.rxq0 = 0 then 0 else 1) + (if wholePackets h.rxq1 = 0 then 0 else 2) + (if wholePackets h.evq = 0 then 0 else 4)
    + 8 * h.rd Reg.odNotice + (if h.rd Od.TXQ_ROOM_LEVEL ≤ h.txqFree then 16 else 0) + (if h.evqPending = 0 then 0 else 32)
    + 256 * h.odState + 1024 * h.rd Reg.quad + 2048 * h.rd Od.WINDOW_WRITES

/-- HINT_N is asserted (R403, R404). -/
def hint (h : Hub) : Bool := h.isOn 12 && (h.hlStatus % 64) &&& h.rd Od.HINT_MASK != 0

/-- Entries of the host link and of the dictionary's own service that are computed (Tables 12-14, 12-15 and 13-11). -/
def viewService (h : Hub) (k : Nat) : Option Nat :=
  if k = Od.TXN_OPEN then some (h.odTxns.filter (fun x => x.stage != 2)).length
  else if k = Od.UNSAVED then some h.unsaved
  else if k = Od.HL_STATUS then some h.hlStatus
  else if k = Od.RXQ0_WORDS then some h.rxq0.length
  else if k = Od.RXQ1_WORDS then some h.rxq1.length
  else if k = Od.EVQ_WORDS then some h.evq.length
  else if k = Od.TXQ_FREE then some h.txqFree
  else if k = Od.RXQ0_PACKETS then some (wholePackets h.rxq0)
  else if k = Od.RXQ1_PACKETS then some (wholePackets h.rxq1)
  else if k = Od.EVQ_PACKETS then some (wholePackets h.evq)
  else if k = Od.EVQ_HELD_COUNT then some h.evqPending
  else none

/-- Entries of Garnet that are computed (Tables 16-10, 16-11 and 16-14, Table 20-6). -/
def viewGarnet (h : Hub) (k : Nat) : Option Nat :=
  if k = Od.EVQ_PENDING then some h.evqPending
  else if k = Od.MANAGER_PENDING then some h.managerPending
  else if k = Od.SHADOWS_OPEN then some (h.shadows.filter (fun s => s.openAt h.now)).length
  else if k = Od.LOG_READ then some (pack ((List.range 8).map (fun i => (32, h.logAt (h.rd Od.LOG_READ_AT + i)))))
  else if k / 256 = 0x8001 then some (pack ((List.range 32).map (fun i => (32, h.logSlot (32 * (k % 256 - 1) + i)))))
  else if k / 256 = 0x8010 then some (h.classStatus (k % 256 - 1))
  else if k = Od.REPAIR_MAP then some (repairBytes h.repairInUse)
  else if k = Od.FENCED_CELLS then some (fencedBytes h.repairInUse 3 + 256 ^ 128 * fencedBytes h.repairInUse 4)
  else if k = Od.REPAIR_RUNNING then some h.repairRunning
  else none

/-- Entries of Slate, the hub engine, Quartz and the domains that are computed. -/
def viewEngines (h : Hub) (k : Nat) : Option Nat :=
  if k = Od.QUEUE_DEPTH then some h.budget.length
  else if k = Od.QUEUE_SNAPSHOT then some h.queueSnapshot
  else if k = Od.SLOTS_FREE then some (128 - h.slots.length)
  else if k = Od.SLOT_SNAPSHOT then some h.slotSnapshot
  else if k = Od.DEVICES_ASSIGNED then some ((List.range 254).filter (fun i => byteAt (h.rd (Od.DEVICE (i + 1))) 2 == 1)).length
  else if decide (0x2000 ≤ k / 256 ∧ k / 256 < 0x3200) && k / 256 % 256 == 0x50 && k % 256 == 0x0F then some (h.slotsOpen (indexPort (k / 256)))
  else if k = Od.ENTRIES_ENABLED then some h.enabledEntries.length
  else if k = Od.TIMEBASE then some h.timebase
  else if k = Od.DOMAIN_STATES then some h.domainStates
  else none

/-- Entries of the switch, the fabric and Obsidian that are computed; LINK_KEYX_REPLY reads the reply of the requester's own trunk
(R449). -/
def viewTables (h : Hub) (who k : Nat) : Option Nat :=
  if k = Od.SHADOW_DIFF then some h.shadowDiff
  else if k = Od.RING_READ then some (pack ((List.range 32).map (fun i => (32, h.ringAt (h.rd Od.RING_READ_AT + i)))))
  else if k / 256 = 0x4022 then some (pack ((List.range 32).map (fun i => (32, h.ringSlot (32 * (k % 256 - 1) + i)))))
  else if k = Od.NODES then some h.lsdb.length
  else if k = Od.NEIGHBOURS then some h.neighbourBytes
  else if k = Od.FABRIC_STATE then some h.fabricState
  else if k = Od.SESSIONS_OPEN then some h.sessionsOpen
  else if k = Od.LINK_KEYX_REPLY then some (if who = 16 ∨ who = 17 then h.rd (Reg.keyxReply (who - 16)) else 0)
  else none

/-- What an entry with a row reads, its access apart. -/
def value (h : Hub) (who k : Nat) : Nat :=
  match h.viewService k with
  | some v => v
  | none => match h.viewGarnet k with
    | some v => v
    | none => match h.viewEngines k with
      | some v => v
      | none => match h.viewTables who k with
        | some v => v
        | none => h.rd k

/-- What requester `who` reads of a live entry (R351, R354): HIGHEST_SUB, 0 of a WO entry, the value of any other. -/
def view (h : Hub) (who idx sub : Nat) : Nat :=
  if sub = 0 then highestSub idx
  else match odRow idx sub with
    | none => 0
    | some r => if r.acc = .wo then 0 else h.value who (idx * 256 + sub)

/-- Bytes of an entry's present value (R352, R353). -/
def viewSize (h : Hub) (idx sub : Nat) : Nat :=
  if sub = 0 then 1
  else match odRow idx sub with
    | none => 0
    | some r => if r.ty = .str then strLen r.size (h.rd (idx * 256 + sub)) else r.size

end Hub

/-- An address names an entry (R351). -/
def odExists (idx sub : Nat) : Bool := if sub = 0 then odIndexExists idx else (odRow idx sub).isSome

/-- The FLAGS byte of a descriptor (Table 12-4); no entry is CHUNKED (R543). -/
def odFlags (idx sub : Nat) (r : OdRow) : Nat :=
  (if odSaved idx sub r then 1 else 0) + (if odWindowed idx sub then 2 else 0) + (if odCounter r then 4 else 0)
    + (if odNoStage idx sub then 8 else 0)

/-- The descriptor of Table 12-4 (R360, R549). -/
def odDescriptor (h : Hub) (idx sub : Nat) : Nat :=
  if sub = 0 then pack [(1, 2), (1, 0), (1, 0), (1, if odIndexWindowed idx then 2 else 0), (2, 1), (2, 0), (8, highestSub idx)]
  else match odRow idx sub with
    | none => 0
    | some r =>
      pack [(1, r.ty.code), (1, r.acc.code), (1, odRights r), (1, odFlags idx sub r), (2, r.size), (2, 0),
        (8, if r.size ≤ 8 then h.defaultOf (idx * 256 + sub) else 0)]

end Sys2Proof.Machine
end

