-- ==== Sys2Proof/Machine/Quartz.lean ====
section
/-!
DEFINITION. Sys2Proof/Machine/Quartz.lean: delegated polling and the timebase (chapter 8, R249 to R277).
-/
namespace Sys2Proof.Machine

namespace Hub

/-- TIME_SET as its chapter judges it (R267): a source's only, and ahead of the timebase. -/
def timeSetCode (v : Nat) (h : Hub) : Nat :=
  if h.writeCode Od.TIME_SET v ≠ 0 then h.writeCode Od.TIME_SET v
  else if h.rd Od.SYNC_STATE ≠ 0 ∨ v ≤ h.timebase then 7
  else 0

/-- TIME_TRIM as its chapter judges it (R267): a source's only. -/
def timeTrimCode (v : Nat) (h : Hub) : Nat :=
  if h.writeCode Od.TIME_TRIM v ≠ 0 then h.writeCode Od.TIME_TRIM v else if h.rd Od.SYNC_STATE ≠ 0 then 7 else 0

/-- The interval of a link's delay probes has passed (R268): PING with TIME is due at the port's next turn, or a PROBE frame goes out, and the interval restarts. -/
def probeDelay (p : Nat) (h : Hub) : Hub :=
  h.expire (Tm.probeInterval p) (fun x =>
    if x.rd (Od.LINK_STATE p) ≠ 4 then x
    else (if x.rd (Od.LINK_CLASS p) = 4 then x.sendLink p 3 x.timebase
        else if !x.givesTime p then x else (x.wr (Reg.timeOwed p) 1).startTimePing p).arm
      (Tm.probeInterval p) (ms (x.rd Od.PROBE_INTERVAL)))

end Hub

/-- A write of poll entry e: all of its 32 bytes (R249 to R251). -/
def execPollEntryWrite (t : Stamp) (e : Fin 4096) (v : BitVec 256) (s : State) : Out :=
  act t s (Hub.writing (Od.POLL e) v.toNat (Hub.writePoll e v.toNat))

/-- A micro-frame begins. -/
def execMicroframeStart (t : Stamp) (s : State) : Out := act t s Hub.microframe

/-- The poll of a port that has ended is judged and may be reported. -/
def execPollComplete (t : Stamp) (p : Dn) (s : State) : Out := act t s (Hub.completePoll p)

/-- A report window ends. -/
def execReportWindowEnd (t : Stamp) (s : State) : Out := act t s Hub.endWindow

/-- QUARTZ_CMD START. -/
def execQuartzStart (t : Stamp) (s : State) : Out := act t s (Hub.quartzWrite 1)

/-- QUARTZ_CMD STOP. -/
def execQuartzStop (t : Stamp) (s : State) : Out := act t s (Hub.quartzWrite 2)

/-- QUARTZ_CMD PAUSE. -/
def execQuartzPause (t : Stamp) (s : State) : Out := act t s (Hub.quartzWrite 3)

/-- A write of TIME_SET. -/
def execTimeSet (t : Stamp) (v : BitVec 64) (s : State) : Out :=
  act t s (fun h => h.judged (h.timeSetCode v.toNat) Od.TIME_SET v.toNat (Hub.timeSet v.toNat))

/-- A write of TIME_TRIM, in parts per billion. -/
def execTimeTrim (t : Stamp) (v : BitVec 32) (s : State) : Out :=
  act t s (fun h => h.judged (h.timeTrimCode v.toNat) Od.TIME_TRIM v.toNat (Hub.timeTrim v.toNat))

/-- PROBE_INTERVAL of a link elapses. -/
def execProbeIntervalExpiry (t : Stamp) (p : Cable) (s : State) : Out := act t s (Hub.probeDelay p)

/-- 16 ms have passed without an accepted time message. -/
def execSyncMessageTimeout (t : Stamp) (s : State) : Out := act t s Hub.syncLapse

/-- A tick of the slew. -/
def execTimebaseSlewTick (t : Stamp) (s : State) : Out := act t s Hub.slewTick

/-- A step of the timebase reaches its micro-frame boundary. -/
def execTimebaseStep (t : Stamp) (s : State) : Out := act t s Hub.stepTimebase

end Sys2Proof.Machine
end

