-- ==== Sys2Proof/Machine/Security.lean ====
section
/-!
DEFINITION. Sys2Proof/Machine/Security.lean: trust and security (chapter 15, R429 to R458).
-/
namespace Sys2Proof.Machine

/-- A write whose outcome its own chapter gives beside its effect. -/
def Hub.outcome (x : Nat × Hub) : Hub := x.2.wrote x.1

/-- A write of ATTEST_NONCE, 32 bytes. -/
def execAttestNonce (t : Stamp) (v : BitVec 256) (s : State) : Out :=
  act t s (Hub.writing Od.ATTEST_NONCE v.toNat (Hub.attest v.toNat))

/-- A write of OWNER_CLAIM, 128 bytes. -/
def execOwnerClaim (t : Stamp) (v : BitVec 1024) (s : State) : Out := act t s (fun h => Hub.outcome (h.ownerClaim v.toNat))

/-- A write of TRANSFER, 36 bytes, by an Owner session. -/
def execTransfer (t : Stamp) (v : BitVec 288) (s : State) : Out :=
  act t s (Hub.writing Od.TRANSFER v.toNat (Hub.transferWrite v.toNat))

/-- TRANSFER_DEADLINE passes. -/
def execTransferDeadline (t : Stamp) (s : State) : Out := act t s Hub.transferLapse

/-- SLOT_CMD INSTALL, by an Owner session: the slot, numbered from 0, and the public key. -/
def execSlotInstall (t : Stamp) (slot : Fin 12) (key : BitVec 512) (s : State) : Out :=
  let v := pack [(1, 1), (1, slot.val + 1), (2, 0), (64, key.toNat)]
  act t s (Hub.writing Od.SLOT_CMD v (Hub.slotCmd v))

/-- SLOT_CMD REVOKE, by an Owner session. -/
def execSlotRevoke (t : Stamp) (slot : Fin 12) (s : State) : Out :=
  let v := pack [(1, 2), (1, slot.val + 1), (66, 0)]
  act t s (Hub.writing Od.SLOT_CMD v (Hub.slotCmd v))

/-- A write of SESSION_OPEN, 212 bytes. -/
def execSessionOpen (t : Stamp) (v : BitVec 1696) (s : State) : Out := act t s (fun h => Hub.outcome (h.sessionOpenWrite v.toNat))

/-- A write of SESSION_CLOSE by the session `writer`. -/
def execSessionClose (t : Stamp) (writer id : BitVec 16) (s : State) : Out :=
  act t s (fun h => h.judged (h.closeCode writer.toNat id.toNat) Od.SESSION_CLOSE id.toNat (Hub.closeById id.toNat))

/-- No request of a session has passed within SESSION_IDLE: the session of record i, numbered from 0. -/
def execSessionIdleExpiry (t : Stamp) (id : Fin 8) (s : State) : Out := act t s (Hub.sessionIdle (id.val + 1))

/-- A write of FW_WRITE_DATA, 512 bytes, by an Owner session; `good` says that the readback matches. -/
def execFwWriteData (t : Stamp) (v : BitVec 4096) (good : Bool) (s : State) : Out :=
  act t s (fun h => h.judged (h.fwWriteCode v.toNat) Od.FW_WRITE_DATA v.toNat (Hub.fwWrite v.toNat good))

/-- FW_CMD ERASE_INACTIVE. -/
def execEraseInactive (t : Stamp) (s : State) : Out := act t s (fun h => h.judged (h.fwCmdCode 1) Od.FW_CMD 1 (Hub.fwCmd 1))

/-- FW_CMD CHECK_INACTIVE. -/
def execCheckInactive (t : Stamp) (s : State) : Out := act t s (fun h => h.judged (h.fwCmdCode 2) Od.FW_CMD 2 (Hub.fwCmd 2))

/-- The check of the inactive slot completes. -/
def execFwCheckComplete (t : Stamp) (s : State) : Out := act t s Hub.fwChecked

/-- FW_CMD PREFER_INACTIVE. -/
def execPreferInactive (t : Stamp) (s : State) : Out := act t s (fun h => h.judged (h.fwCmdCode 3) Od.FW_CMD 3 (Hub.fwCmd 3))

/-- FW_CMD COMMIT_SVN. -/
def execCommitSvn (t : Stamp) (s : State) : Out := act t s (fun h => h.judged (h.fwCmdCode 4) Od.FW_CMD 4 (Hub.fwCmd 4))

/-- The upstream end begins an AGREE exchange on a trunk. -/
def execKeyxStart (t : Stamp) (u : Trunk) (s : State) : Out := act t s (Hub.keyxStart u)

/-- LINK_KEYX of OP AGREE arrives on a trunk: bytes 4 to 147 of Table 15-9. -/
def execLinkKeyxAgree (t : Stamp) (u : Trunk) (body : BitVec 1152) (s : State) : Out :=
  let v := pack [(1, 1), (3, 0), (144, body.toNat)]
  act t s (fun h => h.judged (h.keyxCode u v) Od.LINK_KEYX v (Hub.keyxWrite u v))

/-- LINK_KEYX of OP REKEY arrives on a trunk. -/
def execLinkKeyxRekey (t : Stamp) (u : Trunk) (body : BitVec 1152) (s : State) : Out :=
  let v := pack [(1, 2), (3, 0), (144, body.toNat)]
  act t s (fun h => h.judged (h.keyxCode u v) Od.LINK_KEYX v (Hub.keyxWrite u v))

/-- The child fills LINK_KEYX_REPLY, with the upstream end's DEVICE_CERT and CA_CERT as it has read them. -/
def execKeyxReplyReady (t : Stamp) (u : Trunk) (cert ca : BitVec 6144) (s : State) : Out :=
  act t s (Hub.keyxReply u cert.toNat ca.toNat)

/-- A REKEY falls due on a trunk. -/
def execRekeyDue (t : Stamp) (u : Trunk) (s : State) : Out := act t s (Hub.rekeyDue u)

/-- tKeyAgree has passed on a trunk. -/
def execKeyAgreeTimeout (t : Stamp) (u : Trunk) (s : State) : Out := act t s (Hub.keyAgreeLapse u)

/-- 60 s have passed since an exchange failed. -/
def execKeyxRetryTimer (t : Stamp) (u : Trunk) (s : State) : Out := act t s (Hub.keyxRetry u)

/-- A write of 1 to ZEROISE, by an Owner session. -/
def execZeroise (t : Stamp) (s : State) : Out := act t s (fun h => if h.writeCode Od.ZEROISE 1 = 0 then (h.wrote 0).zeroise else h.wrote (h.writeCode Od.ZEROISE 1))

/-- The device identity has been derived (R432). -/
def execIdentityDerived (t : Stamp) (s : State) : Out := act t s (fun h => h.expire Tm.derive Hub.derived)

end Sys2Proof.Machine
end

