-- ==== Sys2Proof/Machine/OdOps.lean ====
section
/-!
DEFINITION. Sys2Proof/Machine/OdOps.lean: writes and requests of the dictionary as shared operations (R351 to R379): what a write of
each entry does, the checks of a live, a staged and a window write, the requests of Table 12-3, transactions and the save.
-/
namespace Sys2Proof.Machine

/-- What a write comes with: its requester (0 for a direct window), the session in its trailer, whether the message wire of the
port is busy and whether a readback of the flash matches, and the domains its transaction bars (R410). -/
structure WriteCtx where
  who : Nat
  session : Nat
  busy : Bool
  good : Bool
  barred : List Nat

namespace Hub

/-! ### What a write does -/

/-- An action entry acts on a write of 1; a write of 0 is kept and does nothing (R13, R379). -/
def onOne (v : Nat) (f : Hub → Hub) (h : Hub) : Hub := if v = 1 then f h else h

/-- MONITOR_ENABLE (R44, R50): a monitor that goes off reads UNKNOWN, and its hour's readings are dropped. -/
def writeMonitor (p v : Nat) (h : Hub) : Hub :=
  let h1 := h.wr (Od.MONITOR_ENABLE p) v
  if v = 0 then (h1.monitorOff p).clear [Reg.screenSum p, Reg.screenCount p, Reg.probeSum p, Reg.probeCount p] else h1

/-- DEFAULT_LIMIT: the limit in force of every port at default power follows (R142). -/
def writeDefaultLimit (v : Nat) (h : Hub) : Hub :=
  (List.range 16).foldl (fun x p =>
    if x.rd (Od.POWER_STATE p) = 3 then
      let old := x.rd (Od.LIMIT_ACTIVE p)
      let y := x.refreshLimit p
      if y.rd (Od.LIMIT_ACTIVE p) = old then y else y.emit (.powerDie p (.limit (y.rd (Od.LIMIT_ACTIVE p))))
    else if [2, 4].contains (x.rd (Od.POWER_STATE p)) then x
    else x.refreshLimit p) (h.wr Od.DEFAULT_LIMIT v)

/-- REKEY_INTERVAL: a running interval keeps its start (R452). -/
def writeRekey (v : Nat) (h : Hub) : Hub :=
  let old := h.rd Od.REKEY_INTERVAL
  [0, 1].foldl (fun x u =>
    if x.running (Tm.rekey u) then x.wr (Tm.rekey u) (x.rd (Tm.rekey u) + v * 1000000000 - old * 1000000000) else x)
    (h.wr Od.REKEY_INTERVAL v)

/-- FABRIC_PORTS: a port that is no fabric port any more loses its neighbours (R341). -/
def writeFabricPorts (v : Nat) (h : Hub) : Hub :=
  let h1 := h.wr Od.FABRIC_PORTS v
  let gone := h1.neighbours.filter (fun n => !h1.fabricPort n.port)
  let h2 := { h1 with neighbours := h1.neighbours.filter (fun n => h1.fabricPort n.port) }
  if gone.any (fun n => n.twoWay) then h2.neighbourChange else h2

/-- A write of a port block's entry that has an effect of its own: block offset, subindex, port. -/
def portEffect (c : WriteCtx) (p blk sub k v : Nat) (h : Hub) : Hub :=
  if blk = 0x00 then
    if sub = 0x05 then h.onOne v (Hub.unlock p) else h.wr k v
  else if blk = 0x20 then
    if sub = 0x0F then h.onOne v (Hub.captureBaseline p)
    else if sub = 0x11 ∨ sub = 0x12 ∨ sub = 0x13 then (h.wr k v).rejudgeLine p
    else if sub = 0x14 then h.onOne v (Hub.probeStart p)
    else if sub = 0x15 then h.onOne v (Hub.beginTrace p)
    else if sub = 0x1B then h.writeMonitor p v
    else h.wr k v
  else if blk = 0x30 then
    if sub = 0x0B then h.writeCfsEnable p v
    else if sub = 0x0C then h.onOne v (Hub.cfsRestart p)
    else if sub = 0x10 then h.cfAnswer p v c.busy
    else h.wr k v
  else if blk = 0x40 then
    if sub = 0x03 then h.writeLimitSet p v
    else if sub = 0x08 then (if v = 1 then h.commandOff p else h.commandRestore p)
    else h.wr k v
  else if blk = 0x50 then (if sub = 0x02 then h.portCmd p v else h.wr k v)
  else h.wr k v

/-- A write of an entry of the switch, the polling engine, the hierarchy or the fabric that has an effect of its own. -/
def engineEffect (c : WriteCtx) (k v : Nat) (h : Hub) : Hub :=
  if k = Od.DEFAULT_LIMIT then h.writeDefaultLimit v
  else if k = Od.OC_GROUP_ENABLE then h.writeGroupEnable v
  else if k = Od.MIRROR_N then (h.wr k v).wr Reg.mirrorCount 0
  else if k = Od.RING_CLEAR then h.onOne v Hub.ringClear
  else if k = Od.REVERT then h.onOne v Hub.liveToShadow
  else if k = Od.PUBLISH then h.onOne v Hub.publish
  else if k = Od.QUARTZ_CMD then h.quartzCmd v
  else if 0x5100 ≤ k / 256 ∧ k / 256 ≤ 0x511F then h.writePoll ((k / 256 - 0x5100) * 128 + (k % 256 - 1)) v
  else if k = Od.TIME_SET then h.timeSet v
  else if k = Od.TIME_TRIM then h.timeTrim v
  else if k = Od.ASSIGN then h.assign (if c.who = 16 ∨ c.who = 17 then c.who else 19) v
  else if k = Od.RELEASE_ID then h.onOne v Hub.releaseId
  else if k = Od.FABRIC_NODE_ID then h.writeNodeId v
  else if k = Od.FABRIC_COST then h.writeCosts v
  else if k = Od.FABRIC_PORTS then h.writeFabricPorts v
  else h.wr k v

/-- A write of an entry of Slate, the domains, Obsidian or Garnet that has an effect of its own. -/
def serviceEffect (c : WriteCtx) (k v : Nat) (h : Hub) : Hub :=
  if k = Od.DOMAIN_CMD then h.domainCmd v c.barred
  else if k = Od.CAP_RAIL_A then h.writeCap 0 v
  else if k = Od.CAP_RAIL_B then h.writeCap 1 v
  else if k = Od.CAP_VIN then h.writeCap 2 v
  else if k = Od.DOMAIN_CANCEL then h.onOne v (Hub.stopGroup 4)
  else if k = Od.ATTEST_NONCE then h.attest v
  else if k = Od.TRANSFER then h.transferWrite v
  else if k = Od.ZEROISE then h.onOne v (fun x => x.wr Reg.zeroDue 1)
  else if k = Od.SLOT_CMD then h.slotCmd v
  else if k = Od.SESSION_CLOSE then h.closeById v
  else if k = Od.FW_WRITE_DATA then h.fwWrite v c.good
  else if k = Od.FW_CMD then h.fwCmd v
  else if k = Od.LINK_KEYX then h.keyxWrite (c.who - 16) v
  else if k = Od.ENDORSE_REQUIRED then (h.wr k v).saveSecurity
  else if k = Od.REKEY_INTERVAL then h.writeRekey v
  else if k = Od.FAULT_ACK then h.faultAck v
  else if k = Od.SAFE_EXIT then h.onOne v Hub.safeExit
  else if k / 256 = 0x8100 then h.writeSource (k % 256) v
  else h.wr k v

/-- A counter takes 0; FREE_MIN takes the present total of free cells (R22, R542). -/
def clearCounter (k : Nat) (h : Hub) : Hub :=
  if k = Od.FREE_MIN then h.wr k (h.rd Od.FREE_PD3 + h.rd Od.FREE_PD4) else h.wr k 0

/-- A write that passed its checks takes effect (R364): an RWC entry keeps it, and its own rule of effect follows. The session and claim
entries and those at 0xF000 are dealt with apart. -/
def applyPlain (c : WriteCtx) (k v0 : Nat) (h : Hub) : Hub :=
  match odRow (k / 256) (k % 256) with
  | none => h
  | some r =>
    let v := odStore r v0
    if odCounter r then h.clearCounter k
    else
      let h1 := h.keep k v
      let idx := k / 256
      if 0x2000 ≤ idx ∧ idx < 0x3200 then h1.portEffect c (indexPort idx) (idx % 256) (k % 256) k v
      else if idx < 0x6000 ∨ 0x9000 ≤ idx then h1.engineEffect c k v
      else h1.serviceEffect c k (if k = Od.LINK_KEYX then v0 else v)

/-- The condition of the entry's own chapter for a live write: STATE, NO_RIGHT or DOMAIN_NOT_ON, or 0 (R366). -/
def ownCode (c : WriteCtx) (k v : Nat) (h : Hub) : Nat :=
  let idx := k / 256
  let p := indexPort idx
  if decide (0x2000 ≤ idx ∧ idx < 0x3000) && k == Od.PROBE_START p && v == 1 then (if h.probeRefused p then 7 else 0)
  else if decide (0x2000 ≤ idx ∧ idx < 0x3200) && k == Od.ATTACH_RELEASE p && v == 1 then (if h.rd (Od.ATTACH_STATE p) = 6 then 0 else 7)
  else if k = Od.DOMAIN_CMD then (if h.group.isSome then 7 else 0)
  else if k = Od.DOMAIN_CANCEL ∧ v = 1 then h.cancelCode
  else if k = Od.RELEASE_ID ∧ v = 1 then h.releaseCode
  else if k = Od.TIME_SET then (if h.rd Od.SYNC_STATE ≠ 0 ∨ v ≤ h.timebase then 7 else 0)
  else if k = Od.TIME_TRIM then (if h.rd Od.SYNC_STATE ≠ 0 then 7 else 0)
  else if k = Od.SESSION_CLOSE then h.closeCode c.session v
  else if k = Od.FW_WRITE_DATA then (if !h.isOn 12 then 8 else if h.rd Od.FW_RESULT = 2 then 7 else 0)
  else if k = Od.FW_CMD then (if h.rd Od.FW_RESULT = 2 then 7 else 0)
  else if k = Od.LINK_KEYX then (if c.who = 16 ∨ c.who = 17 then h.keyxCode (c.who - 16) v else 7)
  else 0

/-- OUT_OF_RANGE, DOMAIN_NOT_ON and the own conditions of a write, judged with the values that other entries hold in `at_` (R366). -/
def liveCode (c : WriteCtx) (at_ : Nat → Nat) (k v : Nat) (h : Hub) : Nat :=
  if !rangeOk at_ k v then 6
  else if odDomain (k / 256) (k % 256) ≠ 0 ∧ !h.isOn (odDomain (k / 256) (k % 256)) then 8
  else h.ownCode c k v

/-- A write refused with DOMAIN_NOT_ON shows in the result entry that its chapter names besides (R264, R313). -/
def refusedEffect (k code : Nat) (h : Hub) : Hub :=
  if code = 8 ∧ k = Od.QUARTZ_CMD then h.wr Od.QUARTZ_CMD_RESULT 3
  else if code = 8 ∧ k = Od.PUBLISH then h.wr Od.PUBLISH_RESULT 3
  else h

/-- A live write past the checks of rights and length: its code and its effect (R364, R366). -/
def liveWrite (c : WriteCtx) (k v : Nat) (h : Hub) : Nat × Hub :=
  if k = Od.SESSION_OPEN then h.sessionOpenWrite v
  else if k = Od.OWNER_CLAIM then h.ownerClaim v
  else
    let code := h.liveCode c h.rd k v
    (code, if code = 0 then h.applyPlain c k v else h.refusedEffect k code)

/-- A zeroisation begins once its write is answered (R454). -/
def zeroiseDue (h : Hub) : Hub := if h.rd Reg.zeroDue = 1 then (h.wr Reg.zeroDue 0).zeroise else h

/-! ### Device-wide commands (R373 to R379) -/

/-- Bytes of a save's records (R374). -/
def recordsLength (records : List (Nat × Nat)) : Nat :=
  (savedKeys.map (fun k => recordBytes k ((records.lookup k).getD (odDefault k)))).foldl (· + ·) 0

/-- The copy a save writes: the one not in use, A from FACTORY (R375): 1 A, 2 B. -/
def saveTarget (h : Hub) : Nat := if h.rd Od.STORE_STATE = 1 then 2 else 1

/-- The target is erased (R375 step 1): it is invalid from now on, and the erase counts. -/
def eraseTarget (target : Nat) (h : Hub) : Hub :=
  let h1 := h.putCopy { h.copyOf (target - 1) with status := 1, records := [] }
  if target = 1 then (h1.wr Od.COPY_A_STATUS 1 |>.wr Od.COPY_A_SEQ 0xFFFFFFFF).inc Od.WRITES_A
  else (h1.wr Od.COPY_B_STATUS 1 |>.wr Od.COPY_B_SEQ 0xFFFFFFFF).inc Od.WRITES_B

/-- SAVE (R373, R375): NV_FAIL at once where the records do not fit, otherwise the save begins; the code, or none while it runs. -/
def saveBegin (who : Nat) (h : Hub) : Option Nat × Hub :=
  if 65484 < recordsLength h.savedRecords then (some 16, h.wr Od.SAVE_RESULT 3)
  else
    let target := h.saveTarget
    let h1 := { h with saving := some ⟨who, target, h.savedRecords⟩ }.wr Od.SAVE_RESULT 2 |>.wr Reg.committing 1 |>.wr Reg.odOpen 1
    (none, (h1.refreshHalts).eraseTarget target)

/-- FACTORY_DEFAULTS (R379): every SAVED entry takes its default live, in ascending order of index. -/
def factoryDefaults (c : WriteCtx) (h : Hub) : Hub :=
  savedKeys.foldl (fun x k => if savedPart k (x.rd k) = savedPart k (x.defaultOf k) then x else x.applyPlain c k (x.defaultOf k)) h

/-- CLEAR_STORE (R379): both copies are erased under the halt of R373, whose cause ends with the erase. -/
def clearStore (h : Hub) : Hub := (h.raiseHalt Od.EP0_OD_HALT 2).eraseCopies.wr Od.STORE_STATE 0

/-- A device-wide command's value as judged (Table 12-11). -/
def deviceCode (k v : Nat) (h : Hub) : Nat := if rangeOk h.rd k v then 0 else 6

/-- A live write of an entry at 0xF000: its code, none while a save runs. -/
def deviceWrite (c : WriteCtx) (k v : Nat) (h : Hub) : Option Nat × Hub :=
  if h.deviceCode k v ≠ 0 then (some (h.deviceCode k v), h)
  else
    let h1 := h.keep k v
    if v ≠ 1 then (some 0, h1)
    else if k = Od.CMD_SAVE then h1.saveBegin c.who
    else if k = Od.CMD_FACTORY_DEFAULTS then (some 0, h1.factoryDefaults c)
    else if k = Od.CMD_CLEAR_STORE then (some 0, h1.clearStore)
    else (some 0, h1.arm Tm.fullReset (ms 10))

/-! ### Answers -/

/-- What OD_STATUS knows of a requester (R362, R370). -/
def requester (h : Hub) (who : Nat) : OdRequester := (h.requesters.find? (fun r => r.who == who)).getD ⟨who, 0, 0, 0, 0, 0⟩

/-- A request's outcome is recorded for its requester and counted (R362, R381). -/
def noteRequest (who code req idx sub : Nat) (h : Hub) : Hub :=
  let r := { h.requester who with result := code, request := req, index := idx, sub := sub }
  let h1 := { h with requesters := putBy OdRequester.who r h.requesters }
  let h2 := if code = 0 then h1 else h1.inc Od.OD_REFUSED
  if code = 4 then h2.inc Od.AUTH_REFUSED else h2

/-- OPS_DONE of a requester grows (R362). -/
def opsDone (who n : Nat) (h : Hub) : Hub :=
  let r := { h.requester who with done := ((h.requester who).done + n) % 2 ^ 32 }
  { h with requesters := putBy OdRequester.who r h.requesters }

/-- The open control transfer of a trunk whose request was being served is ready to be answered (R362). -/
def answerControl (p : Nat) (stall : Bool) (len data : Nat) (h : Hub) : Hub :=
  { h with controls := h.controls.map (fun c : Control =>
      if c.port == p && c.stage == 1 then { c with stage := 2, stall := stall, len := len, data := data } else c) }

/-- A RESPONSE goes out (R205): link-local on a trunk, or routed by the tables. -/
def sendResponse (s : StoredResponse) (h : Hub) : Hub :=
  let context := s.tag + 0x20000 + s.result * 2 ^ 24
  if s.port = 18 then h.injectFrame 18 (mkTrunk 2 0 s.len false s.src (sysAddr h.ownHub 0 0) context) s.data 0
  else h.sendControl s.port context s.len s.data s.clear

/-- The CONTROL REQUEST being served on a link, or for a SRC, the newest first, is answered, and its RESPONSE takes the place of the last
one stored (R205). -/
def answerFrame (hit : StoredResponse → Bool) (stall : Bool) (len data : Nat) (h : Hub) : Hub :=
  match h.stored.find? (fun s => s.result == 2 && hit s) with
  | none => h
  | some s =>
    let done := { s with result := if stall then 1 else 0, len := len, data := data }
    let others := h.stored.filter (fun x : StoredResponse => !(x.port == s.port && x.src == s.src && (x.result != 2 || x.tag == s.tag)))
    { h with stored := done :: others }.sendResponse done

/-- The response record of the host link (Table 13-4) for the request in the mailbox. -/
def hostAnswer (code req len data : Nat) (h : Hub) : Hub :=
  match h.odReq with
  | none => h
  | some q => { h with odResp := some (8 + len, pack [(1, code), (1, req), (2, field q.2 2 2), (2, len), (2, 0), (len, data)]) }

/-- A request is answered (R362, R390): with its data, or by STALL where its code is not OK. -/
def answer (who req code len data : Nat) (h : Hub) : Hub :=
  let h1 := h.emit (.odResult who req code len data)
  if who = 0 then h1.wrote code
  else if who = 19 then h1.hostAnswer code req len data
  else if who = 16 ∨ who = 17 then (h1.answerControl who (code != 0) len data).answerFrame (fun s => s.port == who) (code != 0) len data
  else h1.answerFrame (fun s => s.port == 18 && s.src / 4096 == who - 0x1000) (code != 0) len data

/-! ### Requests (R360 to R369) -/

/-- The value that an entry will hold after the staged writes of `l`, or its live value (R366). -/
def overlay (h : Hub) (l : List Staged) (k : Nat) : Nat :=
  match l.reverse.find? (fun w => w.key == k) with
  | some w => w.value
  | none => h.rd k

/-- The write staged last for an entry by its own requester. -/
def stagedOf (h : Hub) (who k : Nat) : Option Staged :=
  match h.txnBefore who with
  | none => none
  | some x => x.staged.reverse.find? (fun w => w.key == k)

/-- OD_READ (R361, R366): the code, the bytes and the data. -/
def odRead (who idx val len : Nat) (h : Hub) : Nat × Nat × Nat :=
  let sub := val % 256
  if !odExists idx sub then (1, 0, 0)
  else if odDomain idx sub ≠ 0 ∧ !h.isOn (odDomain idx sub) then (8, 0, 0)
  else
    let start := 512 * (val / 256 % 256)
    let (size, v) := match h.stagedOf who (idx * 256 + sub) with
      | some w => (w.len, if (odRow idx sub).any (fun r => r.acc == .wo) then 0 else w.value)
      | none => (h.viewSize idx sub, h.view who idx sub)
    if len = 0 ∨ size ≤ start then (5, 0, 0)
    else (0, min len (size - start), field v start (min len (size - start)))

/-- ACCESS or NO_RIGHT of a write by a role; a session-0 write has no role to judge (R355, R434, R538, R542). -/
def rightCode (idx sub role session : Nat) : Nat :=
  match odRow idx sub with
  | none => 2
  | some r =>
    if r.acc = .ro ∧ !odCounter r then 2
    else if session = 0 ∨ odCounter r then 0
    else if r.ownerOnly ∧ role ≠ 1 then 3
    else 0

/-- BAD_LENGTH of a write of n bytes with this CHUNK; no entry is CHUNKED (R353, R361, R543). -/
def lengthCode (idx sub chunk n : Nat) : Nat :=
  match odRow idx sub with
  | none => 5
  | some r => if chunk ≠ 0 then 5 else if r.ty = .str then (if n ≤ r.size then 0 else 5) else if n = r.size then 0 else 5

/-- A staged write joins its transaction (R366): a second one of a RW or WO entry takes the place of the first. -/
def stageIn (l : List Staged) (w : Staged) : List Staged :=
  match odRow (w.key / 256) (w.key % 256) with
  | some r => if r.acc = .rwc then l ++ [w] else l.filter (fun x => x.key != w.key) ++ [w]
  | none => l ++ [w]

/-- The transaction of a requester replaced in place. -/
def putTxn (x : OdTxn) (h : Hub) : Hub :=
  { h with odTxns := h.odTxns.map (fun y : OdTxn => if y.who == x.who && y.stage != 2 then x else y) }

/-- A staged write past the checks of rights and length (R365, R366): its code. -/
def stageWrite (x : OdTxn) (w : Staged) (h : Hub) : Nat × Hub :=
  if !rangeOk (h.overlay x.staged) w.key w.value then (6, h)
  else
    let l := stageIn x.staged w
    if 256 < l.length ∨ 16384 < (l.map (fun y : Staged => y.len)).foldl (· + ·) 0 then (13, h)
    else (0, h.putTxn { x with staged := l })

/-- OD_WRITE past its trailer (R364, R366): the code, or none while a save runs. -/
def writeChecked (c : WriteCtx) (idx val n v : Nat) (h : Hub) : Option Nat × Hub :=
  let sub := val % 256
  let k := idx * 256 + sub
  let txn := h.txnBefore c.who
  if rightCode idx sub (h.sessionRole c.session) c.session ≠ 0 then (some (rightCode idx sub (h.sessionRole c.session) c.session), h)
  else if txn.isSome ∧ odNoStage idx sub then (some 14, h)
  else if lengthCode idx sub (val / 256 % 256) n ≠ 0 then (some 5, h)
  else match txn with
    | some x =>
      let (code, h1) := h.stageWrite x ⟨k, n, v⟩
      (some code, h1)
    | none =>
      if idx = 0xF000 then
        let (code, h1) := h.deviceWrite c k v
        (code, if code = some 0 ∨ code = none then (h1.inc Od.OD_WRITES).opsDone c.who 1 else h1)
      else
        let (code, h1) := h.liveWrite c k v
        (some code, if code = 0 then (h1.inc Od.OD_WRITES).opsDone c.who 1 else h1)

/-- OD_WRITE (R364, R366, R440): the value and its trailer. -/
def odWrite (who idx val len data : Nat) (busy good : Bool) (h : Hub) : Option Nat × Hub :=
  let k := idx * 256 + val % 256
  let n := len - 40
  let trailer := field data n 40
  if !odExists idx (val % 256) then (some 1, h)
  else if len < 40 ∨ !h.trailerOk 0x11 idx val len (toBytes n data) trailer (some k) ((h.txnBefore who).map (·.session)) then (some 4, h)
  else
    let (code, h1) := (h.trailerTaken trailer).writeChecked ⟨who, trSession trailer, busy, good, []⟩ idx val n (data % 256 ^ n)
    (code, h1.counterSpent trailer)

/-- OD_BEGIN (R365, R366). -/
def odBegin (who idx val len data : Nat) (h : Hub) : Nat × Hub :=
  let trailer := field data 4 40
  if len ≠ 44 then (5, h)
  else if !h.trailerOk 0x12 idx val len (toBytes 4 data) trailer none none then (4, h)
  else
    let h1 := h.trailerTaken trailer
    let r : Nat × Hub :=
      if (h1.txnBefore who).isSome then (11, h1)
      else if 4 ≤ (h1.odTxns.filter (fun x => x.stage != 2)).length then (12, h1)
      else (0, { h1 with odTxns := h1.odTxns ++ [(⟨who, trSession trailer, field data 0 4, [], h1.now, 0⟩ : OdTxn)] }.refreshOdOpen)
    (r.1, r.2.counterSpent trailer)

/-- A COMMIT or ABORT names an open transaction and carries its trailer: the transaction, or the code (R368, R371). -/
def txnTrailer (who req idx val len data : Nat) (h : Hub) : Except Nat OdTxn :=
  if len ≠ 40 then .error 5
  else match h.txnBefore who with
    | none => .error 10
    | some x => if h.trailerOk req idx val len [] (data % 256 ^ 40) none (some x.session) then .ok x else .error 4

/-- OD_COMMIT (R368): COMMIT_IN_PROGRESS begins, and the answer waits for the transaction's end. -/
def odCommit (who idx val len data : Nat) (h : Hub) : Option Nat × Hub :=
  match h.txnTrailer who 0x13 idx val len data with
  | .error code => (some code, h)
  | .ok x =>
    let h1 := (h.trailerTaken (data % 256 ^ 40)).counterSpent (data % 256 ^ 40)
    (none, (((h1.putTxn { x with stage := 1, last := h1.now }).wr Reg.committing 1).refreshHalts).refreshOdOpen)

/-- OD_ABORT (R371). -/
def odAbort (who idx val len data : Nat) (h : Hub) : Nat × Hub :=
  match h.txnTrailer who 0x14 idx val len data with
  | .error code => (code, h)
  | .ok x => (0, ((h.trailerTaken (data % 256 ^ 40)).counterSpent (data % 256 ^ 40)).dropTxn x 3)

/-- The record of Table 12-5. -/
def statusRecord (h : Hub) (who : Nat) : Nat :=
  let r := h.requester who
  let staged := match h.txnBefore who with | some x => x.staged.length | none => 0
  let ref := match h.txnBefore who with | some x => x.ref | none => 0
  pack [(1, r.result), (1, r.request), (2, r.index), (1, r.sub), (1, h.rd Od.EP0_OD_HALT), (2, staged), (4, r.done), (4, ref)]

/-- A request refuses under a halt (R196, R372, R449): OD_STATUS and the key exchange entries are served under every halt. -/
def haltedFor (h : Hub) (who req idx val : Nat) : Bool :=
  let keyx := idx == 0x7040 && ((req == 0x11 && val % 256 == 1) || (req == 0x10 && val % 256 == 2))
  req != 0x15 && !keyx && (if who = 19 then h.rd Reg.committing == 1 || h.rd Reg.rotating != 0 else h.rd Od.EP0_OD_HALT != 0)

/-- A served request: its code with the data it returns, or none while a COMMIT or SAVE runs. -/
abbrev Reply : Type := Option (Nat × Nat × Nat)

/-- A code alone as a reply. -/
def plainReply (x : Option Nat × Hub) : Reply × Hub := (x.1.map (fun c => (c, 0, 0)), x.2)

/-- One request of Table 12-3 is served by Flint; `admitted` says that its SETUP was acknowledged before a halt's cause began
(R196). -/
def serve (who req idx val len data : Nat) (busy good admitted : Bool) (h : Hub) : Reply × Hub :=
  if !admitted && h.haltedFor who req idx val then (some (9, 0, 0), h)
  else if req = 0x10 then (some (h.odRead who idx val len), h)
  else if req = 0x11 then plainReply (h.odWrite who idx val len data busy good)
  else if req = 0x12 then plainReply (some (h.odBegin who idx val len data).1, (h.odBegin who idx val len data).2)
  else if req = 0x13 then plainReply (h.odCommit who idx val len data)
  else if req = 0x14 then plainReply (some (h.odAbort who idx val len data).1, (h.odAbort who idx val len data).2)
  else if req = 0x15 then (some (0, 16, h.statusRecord who), h)
  else if req = 0x16 then (if odExists idx (val % 256) then (some (0, 16, odDescriptor h idx (val % 256)), h) else (some (1, 0, 0), h))
  else (some (6, 0, 0), h)

/-- A requester's open transaction is not idle (R371). -/
def touchTxn (who : Nat) (h : Hub) : Hub :=
  { h with odTxns := h.odTxns.map (fun x : OdTxn => if x.who == who && x.stage == 0 then { x with last := h.now } else x) }

/-- Flint serves a request, records its outcome, and answers (R359, R362). -/
def request (who req idx val len data : Nat) (busy good admitted : Bool) (h : Hub) : Hub :=
  let (r, h1) := (h.touchTxn who).serve who req idx val len data busy good admitted
  match r with
  | none => h1.noteRequest who 0 req idx (val % 256)
  | some (code, n, d) =>
    ((if req = 0x15 then h1 else h1.noteRequest who code req idx (val % 256)).answer who req code n d).zeroiseDue

/-- Whether the message wire of a port that a write acts on is busy, and whether a readback of the flash matches, where the command that brings
the write does not tell: free values (log entry 2). -/
def unseen (h : Hub) : Bool × Bool × Hub :=
  let (x, h1) := h.fresh
  let (y, h2) := h1.fresh
  (x % 2 == 1, y % 2 == 1, h2)

/-- A request of a trunk or of a routed SRC reaches endpoint 0 (R194, R333, R372): without Flint, and on the standby trunk, a request of
KIND OD is answered STALL; a routed frame reaches Flint alone, and only at a hub that has its ID (R284). -/
def linkRequest (who req idx val len data : Nat) (busy good admitted : Bool) (h : Hub) : Hub :=
  if who = 16 ∨ who = 17 then
    if !h.isOn 6 then h
    else if !h.flintOn ∨ h.rd Od.STANDBY_UPSTREAM = who then h.answer who req 9 0 0
    else h.request who req idx val len data busy good admitted
  else if h.flintOn && h.rd Od.HUB_ID_ASSIGNED == 1 then h.request who req idx val len data busy good admitted
  else h

/-! ### The commit point and the save's end -/

/-- Validation of the staged writes in apply order (R368, R369): the first failing write's code and number. -/
def validate (c : WriteCtx) (pre : List Staged) (n : Nat) (h : Hub) : List Staged → Option (Nat × Nat)
  | [] => none
  | w :: r =>
    let code := h.liveCode c (h.overlay pre) w.key w.value
    if code ≠ 0 then some (code, n) else validate c (pre ++ [w]) (n + 1) h r

/-- The staged writes take effect in apply order (R368). -/
def applyStaged (c : WriteCtx) (l : List Staged) (h : Hub) : Hub := l.foldl (fun x w => x.applyPlain c w.key w.value) h

/-- Domains that a transaction writes, and PD1 (R410). -/
def barredBy (l : List Staged) : List Nat := 1 :: ((l.map (fun w => odDomain (w.key / 256) (w.key % 256))).filter (· != 0)).eraseDups

/-- Validation ends (R368, R369): the commit point, or the refusal. -/
def commitPoint (busy good : Bool) (h : Hub) : Hub :=
  match h.odTxns.find? (fun x => x.stage == 1) with
  | none => h
  | some x =>
    let c : WriteCtx := ⟨x.who, x.session, busy, good, barredBy x.staged⟩
    let h0 := h.wr Reg.committing 0
    match h0.validate c [] 1 x.staged with
    | some (code, n) =>
      let h1 := ({ h0 with odTxns := dropBy OdTxn.who x.who h0.odTxns }.recordEnd x 2 code n).refreshOdOpen
      let r := h1.requester x.who
      (h1.noteRequest x.who code r.request r.index r.sub).answer x.who 0x13 code 0 0
    | none =>
      let n := x.staged.length
      let h1 := (h0.recordEnd x 1 0 n).putTxn { x with stage := 2 }
      let h2 := ((h1.applyStaged c x.staged).add Od.OD_WRITES n).opsDone x.who (n + 1)
      (h2.refreshOdOpen.answer x.who 0x13 0 0 0).zeroiseDue

/-- Apply ends (R370): window writes that the target held take effect. -/
def applyEnd (h : Hub) : Hub :=
  let h1 := { h with odTxns := h.odTxns.filter (fun x => x.stage != 2), winHeld := [] }
  (h.winHeld.foldl (fun x w => x.applyPlain ⟨0, 0, false, true, []⟩ w.1 w.2) h1).refreshOdOpen

/-- TXN_IDLE_TIMEOUT without a request (R371). -/
def txnIdle (who : Nat) (h : Hub) : Hub :=
  match h.odTxns.find? (fun x => x.who == who && x.stage == 0) with
  | none => h
  | some x => if x.last + h.rd Od.TXN_IDLE_TIMEOUT * 1000000000 ≤ h.now then h.dropTxn x 5 else h

/-- The SEQ of the copy that a save writes (R375). -/
def saveSeq (h : Hub) : Nat := if h.rd Od.STORE_STATE = 0 then 1 else (h.rd Od.SEQ_IN_USE + 1) % 2 ^ 32

/-- The save's records are in the target copy and check as valid (R375 step 6). -/
def saveDone (j : SaveJob) (h : Hub) : Hub :=
  let seq := h.saveSeq
  let h1 := h.putCopy ⟨j.target - 1, 0, seq, j.records, RepairMap.factory⟩
  let h2 := if j.target = 1 then h1.wr Od.COPY_A_STATUS 0 |>.wr Od.COPY_A_SEQ seq else h1.wr Od.COPY_B_STATUS 0 |>.wr Od.COPY_B_SEQ seq
  h2.wr Od.STORE_STATE j.target |>.wr Od.SEQ_IN_USE seq |>.wr Od.LAST_SAVE_TIME h2.stamp |>.wr Od.STORE_USED (52 + recordsLength j.records)
    |>.wr Od.SAVE_RESULT 1

/-- Both checks have failed (R375): the target stays invalid with what the second found, and a MEM fault is raised. -/
def saveFailed (j : SaveJob) (found : Nat) (h : Hub) : Hub :=
  let seq := seqRead found h.saveSeq
  let h1 := h.putCopy { h.copyOf (j.target - 1) with status := found, seq := seq }
  let h2 := (if j.target = 1 then h1.wr Od.COPY_A_STATUS found |>.wr Od.COPY_A_SEQ seq
    else h1.wr Od.COPY_B_STATUS found |>.wr Od.COPY_B_SEQ seq).wr Od.SAVE_RESULT 3
  h2.report 0x06 (j.target - 1) 0

/-- The save ends (R375): `first` and `second` are the statuses that the readbacks find; the second attempt runs when the first fails. -/
def saveComplete (first second : Nat) (h : Hub) : Hub :=
  match h.saving with
  | none => h
  | some j =>
    let h1 := if first = 0 then h.saveDone j else (let x := h.eraseTarget j.target; if second = 0 then x.saveDone j else x.saveFailed j second)
    let ok := first = 0 ∨ second = 0
    let h2 := ({ h1 with saving := none }.wr Reg.committing 0).refreshOdOpen
    let h3 := if j.who = 0 then h2 else
      (let r := h2.requester j.who
       h2.noteRequest j.who (if ok then 0 else 16) r.request r.index r.sub)
    (h3.answer j.who 0x11 (if ok then 0 else 16) 0 0).commandReset

/-- A direct write of a device-wide command (R379): it acts while Flint serves and no commit or save is under way. -/
def deviceCommand (k v : Nat) (h : Hub) : Hub :=
  if !h.flintOn then h
  else if h.rd Reg.committing = 1 then h.wrote 9
  else
    let (code, h1) := h.deviceWrite ⟨0, 0, false, true, []⟩ k v
    match code with
    | some x => h1.wrote x
    | none => h1

/-! ### Windows (R358, R391 to R395) -/

/-- The code of a window write, in the order of R358 and R366. -/
def windowCode (idx sub : Nat) (lengthOk : Bool) (v : Nat) (h : Hub) : Nat :=
  let exists_ := if sub = 0 then odIndexExists idx && odIndexWindowed idx else (odRow idx sub).isSome && odWindowed idx sub
  if h.rd Od.WINDOW_WRITES = 0 then 17
  else if !exists_ then 1
  else if rightCode idx sub 2 1 ≠ 0 then rightCode idx sub 2 1
  else if !lengthOk then 5
  else h.liveCode ⟨0, 0, false, true, []⟩ h.rd (idx * 256 + sub) v

/-- A window write that is not refused takes effect, or is held while a transaction that writes the entry is applied (R370). -/
def windowTake (k v : Nat) (h : Hub) : Hub :=
  if h.odTxns.any (fun x => x.stage == 2 && x.staged.any (fun w => w.key == k)) then { h with winHeld := h.winHeld ++ [(k, v)] }
  else h.applyPlain ⟨0, 0, false, true, []⟩ k v

/-- A window write (R358): Operator rights; a refusal is counted and shown. One into a domain that is not ON is refused. -/
def windowWrite (idx sub : Nat) (lengthOk : Bool) (v : Nat) (h : Hub) : Hub :=
  let code := h.windowCode idx sub lengthOk v
  if code = 0 then (h.windowTake (idx * 256 + sub) v).wrote 0
  else (((h.inc Od.WINDOW_REFUSED).wr Od.WINDOW_LAST_REFUSED (idx * 65536 + sub * 256 + code)).refusedEffect (idx * 256 + sub) code).wrote code

end Hub
end Sys2Proof.Machine
end

