-- ==== Sys2Proof/Machine/Dictionary.lean ====
section
/-!
DEFINITION. Sys2Proof/Machine/Dictionary.lean: the requests of the dictionary, transactions and the device-wide commands (chapter 12,
R351 to R381, R549). A request carries VALUE, LENGTH and its data; `busy` says that the message wire of a port it acts on is not
free, and `good` that a readback of the flash matches (log entry 5).
-/
namespace Sys2Proof.Machine

namespace Hub

/-- A write of an entry by a session's role or through no session, without its trailer (R363, R364, R366): `owner` gives Owner rights,
Operator rights stand otherwise. -/
def registerWrite (owner : Bool) (idx sub len v : Nat) (busy good : Bool) (h : Hub) : Hub :=
  let k := idx * 256 + sub
  let n := v % 256 ^ len
  let right := rightCode idx sub (if owner then 1 else 2) 1
  if !odExists idx sub then h.wrote 1
  else if right ≠ 0 then h.wrote right
  else if lengthCode idx sub 0 len ≠ 0 then h.wrote 5
  else if idx = 0xF000 then h.deviceCommand k n
  else outcome (h.liveWrite ⟨0, 0, busy, good, []⟩ k n)

end Hub

/-- OD_READ: up to LENGTH bytes of a chunk. -/
def execOdRead (t : Stamp) (who : Requester) (idx val : BitVec 16) (len : Fin 1017) (s : State) : Out :=
  act t s (Hub.linkRequest who.code 0x10 idx.toNat val.toNat len.val 0 false true false)

/-- OD_WRITE: the value and its trailer. -/
def execOdWrite (t : Stamp) (who : Requester) (idx val : BitVec 16) (len : Fin 1017) (data : Nat) (busy good : Bool) (s : State) : Out :=
  act t s (Hub.linkRequest who.code 0x11 idx.toNat val.toNat len.val data busy good false)

/-- OD_BEGIN: the transaction's reference and its trailer. -/
def execOdBegin (t : Stamp) (who : Requester) (idx val : BitVec 16) (len : Fin 1017) (data : Nat) (s : State) : Out :=
  act t s (Hub.linkRequest who.code 0x12 idx.toNat val.toNat len.val data false true false)

/-- OD_COMMIT: its trailer. -/
def execOdCommit (t : Stamp) (who : Requester) (idx val : BitVec 16) (len : Fin 1017) (data : Nat) (s : State) : Out :=
  act t s (Hub.linkRequest who.code 0x13 idx.toNat val.toNat len.val data false true false)

/-- OD_ABORT: its trailer. -/
def execOdAbort (t : Stamp) (who : Requester) (idx val : BitVec 16) (len : Fin 1017) (data : Nat) (s : State) : Out :=
  act t s (Hub.linkRequest who.code 0x14 idx.toNat val.toNat len.val data false true false)

/-- OD_STATUS. -/
def execOdStatus (t : Stamp) (who : Requester) (s : State) : Out := act t s (Hub.linkRequest who.code 0x15 0 0 16 0 false true false)

/-- OD_DESCRIBE of an entry. -/
def execOdDescribe (t : Stamp) (who : Requester) (idx val : BitVec 16) (s : State) : Out :=
  act t s (Hub.linkRequest who.code 0x16 idx.toNat val.toNat 16 0 false true false)

/-- Validation of the transaction being committed ends. -/
def execCommitPoint (t : Stamp) (busy good : Bool) (s : State) : Out := act t s (Hub.commitPoint busy good)

/-- The apply phase ends. -/
def execApplyEnd (t : Stamp) (s : State) : Out := act t s Hub.applyEnd

/-- TXN_IDLE_TIMEOUT has passed since the last request of a trunk or of a routed SRC, or of the host link where none is named. -/
def execTxnIdleExpiry (t : Stamp) (who : Option Requester) (s : State) : Out :=
  act t s (Hub.txnIdle (match who with | some r => r.code | none => 19))

/-- A write of an entry that has no command of its own. -/
def execRegisterWrite (t : Stamp) (idx : BitVec 16) (sub : Byte) (len : BitVec 16) (v : Nat) (owner busy good : Bool) (s : State) : Out :=
  act t s (Hub.registerWrite owner idx.toNat sub.toNat len.toNat v busy good)

/-- A write of 1 to SAVE. -/
def execSave (t : Stamp) (s : State) : Out := act t s (Hub.deviceCommand Od.CMD_SAVE 1)

/-- The save ends: the statuses of R376 that the first readback and, if it failed, the second one find. -/
def execSaveComplete (t : Stamp) (first second : Fin 8) (s : State) : Out := act t s (Hub.saveComplete first.val second.val)

/-- A write of 1 to FACTORY_DEFAULTS. -/
def execFactoryDefaults (t : Stamp) (s : State) : Out := act t s (Hub.deviceCommand Od.CMD_FACTORY_DEFAULTS 1)

/-- A write of 1 to CLEAR_STORE. -/
def execClearStore (t : Stamp) (s : State) : Out := act t s (Hub.deviceCommand Od.CMD_CLEAR_STORE 1)

/-- A write of FULL_RESET. -/
def execFullReset (t : Stamp) (s : State) : Out := act t s (Hub.deviceCommand Od.CMD_FULL_RESET 1)

/-- 10 ms have passed since the answer to FULL_RESET. -/
def execFullResetDelay (t : Stamp) (s : State) : Out := act t s Hub.commandReset

end Sys2Proof.Machine
end

