-- ==== Sys2Proof/Machine/HostLink.lean ====
section
/-!
DEFINITION. Sys2Proof/Machine/HostLink.lean: the host link (chapter 13, R383 to R405): status, direct windows, the mailbox and the
packet FIFOs. While PD12 is not ON the target answers nothing, and no command of the host has an effect (R404).
-/
namespace Sys2Proof.Machine

/-- A FIFO word as 40 bits (Table 13-7). -/
def fifoBits (w : FifoWord) : Nat :=
  w.data + 2 ^ 32 * (w.pseq % 4) + 2 ^ 34 * (w.bytes % 4) + (if w.err then 2 ^ 36 else 0) + (if w.eop then 2 ^ 37 else 0)
    + (if w.sop then 2 ^ 38 else 0) + 2 ^ 39

/-- The FIFO word that 40 bits from the host spell (Table 13-7). -/
def fifoWord (v : Nat) : FifoWord :=
  { sop := hasBit v 38, eop := hasBit v 37, err := hasBit v 36, bytes := bits v 35 34, pseq := bits v 33 32, data := v % 2 ^ 32, seq := 0 }

/-- The words behind the last EOP word: the open packet of TXQ. -/
def openWords : List FifoWord → List FifoWord
  | [] => []
  | w :: r => if (w :: r).any (fun x => x.eop) then openWords r else w :: r

/-- Words 0 to n − 1 of a value (R392). -/
def windowWords (n v : Nat) : List Nat := (List.range n).map (fun i => field v (4 * i) 4)

namespace Hub

/-- A command of the host acts while PD12 is ON (R404). -/
def hosted (f : Hub → Hub) (h : Hub) : Hub := if h.isOn 12 then f h else h

/-! ### Status and windows -/

/-- READ_STATUS, sampled anew for each repeat (R386). -/
def readStatus (n : Nat) (h : Hub) : Hub := h.emit (.hostWords (List.replicate n h.hlStatus))

/-- An entry that a window reaches (R358, R391). -/
def windowed (idx sub : Nat) : Bool := if sub = 0 then odIndexWindowed idx else odWindowed idx sub && (odRow idx sub).isSome

/-- Words of an entry in the window (R392); a string has the words of its declared maximum. -/
def windowCount (idx sub : Nat) : Nat :=
  if sub = 0 then 1 else match odRow idx sub with | none => 1 | some r => ceilDiv r.size 4

/-- WIN_READ (R391 to R393): the words from WORD on, which wrap at the value's end. No rule says what a burst that starts past the
end returns: free values (log entry 2). -/
def winRead (idx sub word count : Nat) (h : Hub) : Hub :=
  if !windowed idx sub then h.emit (.hostWords (List.replicate count 0))
  else if odDomain idx sub ≠ 0 ∧ !h.isOn (odDomain idx sub) then h.emit (.hostWords (List.replicate count (0xDEAD0000 + odDomain idx sub)))
  else
    let n := windowCount idx sub
    if n ≤ word then
      let r := (List.range count).foldl (fun (x : List Nat × Hub) _ => (x.1 ++ [x.2.fresh.1 % 2 ^ 32], x.2.fresh.2)) ([], h)
      r.2.emit (.hostWords r.1)
    else
      let l := windowWords n (h.view 0 idx sub)
      h.emit (.hostWords ((List.range count).map (fun i => l.getD ((word + i) % n) 0)))

/-- Bytes of a fixed-length entry. -/
def entrySize (idx sub : Nat) : Nat := match odRow idx sub with | none => 1 | some r => r.size

/-- WIN_WRITE (R395): a value of up to 32 bits is taken from word 0; a wider one carries all its words from word 0. -/
def winWrite (idx sub word : Nat) (ws : List Nat) (h : Hub) : Hub :=
  let n := windowCount idx sub
  let v := pack ((ws.take n).map (fun w => (4, w)))
  let lengthOk := word == 0 && decide (n ≤ ws.length)
  if n = 1 ∧ ws = [] then h else h.windowWrite idx sub lengthOk (v % 256 ^ entrySize idx sub)

/-! ### The mailbox -/

/-- The response is held, with its notice (R390, R402). -/
def holdResponse (h : Hub) : Hub := h.wr Reg.mailbox 2 |>.wr Reg.odNotice 1

/-- Flint takes the request in the mailbox, once (R388, R389). -/
def hostServe (h : Hub) : Hub :=
  match h.odReq with
  | none => h
  | some (len, data) =>
    if h.flintOn && h.rd Reg.mailbox == 1 && h.rd Reg.hostTaken == 0 then
      let (busy, good, h1) := h.unseen
      (h1.wr Reg.hostTaken 1).request 19 (byteAt data 0) (field data 4 2) (field data 6 2) (field data 8 2) (data / 256 ^ 12 % 256 ^ (len - 12))
        busy good false
    else h

/-- OD_REQUEST (R388, R389): `len` bytes came in the frame. -/
def odRequest (len data : Nat) (h : Hub) : Hub :=
  if h.odState = 1 ∨ h.odState = 3 then h.inc Od.OD_OVERRUNS
  else
    let h1 := ({ h with odReq := some (len, data), odResp := none }.inc Od.OD_REQUESTS).wr Reg.odNotice 0 |>.wr Reg.hostTaken 0
    if len ≠ 12 + field data 8 2 ∨ 1016 < field data 8 2 then (h1.hostAnswer 5 (byteAt data 0) 0 0).holdResponse
    else (h1.wr Reg.mailbox 1).hostServe

/-- Flint has served the request in the mailbox (R390). -/
def odResponseReady (h : Hub) : Hub :=
  let h1 := h.hostServe
  if h1.odState = 1 ∧ h1.odResp.isSome then h1.holdResponse else h1

/-- OD_RESPONSE (R390, R402): n bytes of the response held, from an offset; the bytes past it read 0. -/
def odResponse (offset n : Nat) (h : Hub) : Hub :=
  let v := if h.rd Reg.mailbox = 2 then (match h.odResp with | some r => r.2 % 256 ^ r.1 | none => 0) else 0
  let h1 := h.emit (.hostWords ((List.range n).map (fun i => byteAt v (offset + i))))
  if offset = 0 ∧ 1 ≤ n ∧ h.rd Reg.mailbox = 2 then h1.wr Reg.odNotice 0 else h1

/-! ### Packet FIFOs -/

/-- The words of RXQ0, RXQ1 or EVQ. -/
def fifo (h : Hub) (sel : Nat) : List FifoWord := if sel = 0 then h.rxq0 else if sel = 1 then h.rxq1 else h.evq

/-- The words of RXQ0, RXQ1 or EVQ replaced. -/
def setFifo (sel : Nat) (l : List FifoWord) (h : Hub) : Hub :=
  if sel = 0 then { h with rxq0 := l } else if sel = 1 then { h with rxq1 := l } else { h with evq := l }

/-- One word of a FIFO is consumed (R397); an EVQ record is delivered with its EOP word, and the freed room takes waiting records
(R400). -/
def consumeWord (sel : Nat) (w : FifoWord) (r : List FifoWord) (h : Hub) : Hub :=
  let h1 := h.setFifo sel r
  if sel < 2 then h1 else (if w.eop then h1.wr Reg.evqDelivered w.seq else h1).pumpEvq

/-- A FIFO_READ burst of n slots (R397): the words read, and the hub after. -/
def fifoReadN (sel : Nat) : Nat → List Nat → Hub → List Nat × Hub
  | 0, acc, h => (acc, h)
  | n + 1, acc, h =>
    match h.fifo sel with
    | [] => fifoReadN sel n (acc ++ [0]) h
    | w :: r => fifoReadN sel n (acc ++ [fifoBits w]) (h.consumeWord sel w r)

/-- FIFO_READ. -/
def fifoRead (sel n : Nat) (h : Hub) : Hub := let r := h.fifoReadN sel n []; r.2.emit (.hostWords r.1)

/-- A TXQ packet is discarded for a reason of Table 13-8. -/
def txDiscard (reason : Nat) (h : Hub) : Hub := (h.inc Od.TX_DISCARDED).wr Od.TX_LAST_DISCARD reason

/-- The open packet of TXQ goes. -/
def dropOpen (h : Hub) : Hub := { h with txq := h.txq.take (h.txq.length - (openWords h.txq).length) }

/-- The reason of Table 13-8 that a whole TXQ packet is discarded for, 0 for none (R399). -/
def txReason (ws : List FifoWord) : Nat :=
  let data := pack (ws.map (fun w => (4, w.data)))
  let control := data % 2 ^ 32
  let header := field data 4 16
  let last := (ws.getLast?.map (fun w => if w.bytes = 0 then 4 else w.bytes)).getD 0
  if 32 ≤ control ∨ 19 < control % 32 ∨ (control % 32 ≠ 0 ∧ !hLocal header) then 6
  else if 4 * (ws.length - 1) + last ≠ 20 + hLen header then 7
  else if hFtype header ≠ 0 ∧ hFtype header ≠ 2 then 8
  else 0

/-- A valid word joins TXQ; a packet's EOP word has it checked and handed to Granite (R399). -/
def joinTxq (w : FifoWord) (h : Hub) : Hub :=
  let packet := openWords h.txq ++ [w]
  let h1 : Hub := { h with txq := h.txq ++ [w] }
  if 261 < packet.length then h.dropOpen.txDiscard 5
  else if !w.eop then h1
  else if txReason packet ≠ 0 then h.dropOpen.txDiscard (txReason packet)
  else h1.pumpTxq

/-- One word from the host (R399, Table 13-8). -/
def takeTxWord (v : Nat) (h : Hub) : Hub :=
  let w := fifoWord v
  let opened := openWords h.txq != []
  if !hasBit v 39 then h
  else if !w.sop && h.rd Reg.txqSkip == 1 then h
  else if !w.sop && !opened then h.txDiscard 1
  else
    let h1 := (if w.sop && opened then h.dropOpen.txDiscard 2 else h).wr Reg.txqSkip 0
    if w.err then h1.dropOpen.txDiscard 3
    else if h1.txqFree = 0 then (h1.dropOpen.txDiscard 4).wr Reg.txqSkip 1
    else h1.joinTxq w

end Hub

/-- READ_STATUS: n repeats of HL_STATUS. -/
def execReadStatus (t : Stamp) (n : Byte) (s : State) : Out := act t s (Hub.hosted (Hub.readStatus n.toNat))

/-- WIN_READ of `count` words from a window address. -/
def execWinRead (t : Stamp) (idx : BitVec 16) (sub word : Byte) (count : BitVec 16) (s : State) : Out :=
  act t s (Hub.hosted (Hub.winRead idx.toNat sub.toNat word.toNat count.toNat))

/-- WIN_WRITE of words at a window address. -/
def execWinWrite (t : Stamp) (idx : BitVec 16) (sub word : Byte) (words : List Word) (s : State) : Out :=
  act t s (Hub.hosted (Hub.winWrite idx.toNat sub.toNat word.toNat (words.map (fun w => w.toNat))))

/-- OD_REQUEST: the bytes that the frame carried. -/
def execOdRequest (t : Stamp) (bytes : List Byte) (s : State) : Out :=
  act t s (Hub.hosted (Hub.odRequest bytes.length (ofBytes (bytes.map (fun b => b.toNat)))))

/-- Flint has served the host-link request. -/
def execOdResponseReady (t : Stamp) (s : State) : Out := act t s (Hub.hosted Hub.odResponseReady)

/-- OD_RESPONSE: n bytes from an offset. -/
def execOdResponse (t : Stamp) (offset n : BitVec 16) (s : State) : Out := act t s (Hub.hosted (Hub.odResponse offset.toNat n.toNat))

/-- FIFO_READ of n words: 0 RXQ0, 1 RXQ1, 2 EVQ. -/
def execFifoRead (t : Stamp) (sel : Fin 3) (n : BitVec 16) (s : State) : Out := act t s (Hub.hosted (Hub.fifoRead sel.val n.toNat))

/-- FIFO_WRITE of 40-bit words into TXQ. -/
def execFifoWrite (t : Stamp) (words : List (BitVec 40)) (s : State) : Out :=
  act t s (Hub.hosted (fun h => words.foldl (fun (x : Hub) w => x.takeTxWord w.toNat) h))

/-- ENTER_QUAD. -/
def execEnterQuad (t : Stamp) (s : State) : Out := act t s (Hub.hosted (fun h => h.wr Reg.quad 1))

/-- EXIT_QUAD. -/
def execExitQuad (t : Stamp) (s : State) : Out := act t s (Hub.hosted (fun h => h.wr Reg.quad 0))

/-- A code or selector that Table 13-1 does not list. -/
def execBadCommand (t : Stamp) (s : State) : Out := act t s (Hub.hosted (fun h => h.inc Od.BAD_COMMANDS))

end Sys2Proof.Machine
end

