-- ==== Sys2Proof/Machine/Switch.lean ====
section
/-!
DEFINITION. Sys2Proof/Machine/Switch.lean: the switch core (chapter 9, R278 to R308).
-/
namespace Sys2Proof.Machine

namespace Hub

/-- LINK_SEQ of a received frame on endpoint a of a port (R202): the frames missing before it are counted. -/
def linkSeq (p a header : Nat) (h : Hub) : Hub :=
  let q := hSeq header
  let last := h.rd (Reg.linkRx p a)
  let expected := if last = 0 then 0 else last % 65536
  let missing := (q + 65536 - expected) % 65536
  let h1 := if last ≠ 0 ∧ newer 16 q expected then h.add (Od.RX_SEQ_GAP p) missing else h
  h1.wr (Reg.linkRx p a) (q + 1)

/-- A port takes frames in: its link is ACTIVE, and it is no trunk that a MANAGER attached as sink (R32). -/
def takesIn (h : Hub) (p : Nat) : Bool :=
  h.switchOn && h.phyOn p && h.rd (Od.LINK_STATE p) == 4 && !(h.role == 1 && h.rd (Od.ATTACH_STATE p) == 5)

/-- A frame without a copy whose end was never told leaves when the next header of its endpoint comes. -/
def dropUntold (p ep : Nat) (h : Hub) : Hub :=
  { h with frames := h.frames.filter (fun f => !(f.ingress == p && f.verdict == 0 && !f.live && h.frameEpIn p (hClass f.header) == ep)) }

/-- A frame refused before its lookup (R283, R289, R322): counted once against its ingress, with its credit returned (R290). -/
def refuseFrame (p header reason : Nat) (h : Hub) : Hub :=
  ((h.countIn p header).countDrop reason p).returnCredit p (hClass header) (frameCost header)

/-- A frame that a link discards whole (R198, R201, R448): ENC without keys, which a packet link never has, or DATA and routed CONTROL in clear under REQUIRED before the
keys are in place. -/
def linkRefuses (h : Hub) (p header : Nat) : Bool :=
  let k := h.linkKeyOf (p - 16)
  if h.rd (Od.LINK_CLASS p) ≠ 4 then hEnc header == 1
  else if hEnc header = 1 then k.rxCur.isNone && k.rxNext.isNone
  else h.rd Od.TRUNK_ENC == 2 && k.rxCur.isNone && !(hFtype header == 2 && hLocal header)

/-- A key that has sent 2^32 frames is worn: the link leaves ACTIVE for TRAINING (R452). -/
def keyWorn (p : Nat) (h : Hub) : Hub :=
  if (p = 16 ∨ p = 17) ∧ 2 ^ 32 ≤ h.rd (Reg.keyE (p - 16)) then h.retrainLink p else h

/-- The extended sequence of a received frame with LINK_SEQ q, plus 1 (R450). -/
def seqOf (h : Hub) (u q : Nat) : Nat :=
  let e := h.rd (Reg.keyRxE u)
  let d := (q + 1 + 65536 - e % 65536) % 65536
  if d < 32768 then e + d else e + d - 65536

/-- A frame with ENC passes its tag under a receive key (R450, R451). -/
def tagUnder (h : Hub) (u header len cipher tag : Nat) (key : Option (Nat × Nat)) : Bool :=
  match key with
  | none => false
  | some k => gcmTagOf k.1 k.2 (h.seqOf u (hSeq header) - 1) header len cipher == tag

/-- The receive key under which a frame with ENC passes its tag: the current one, then the next (R451). -/
def passKey (h : Hub) (u header len cipher tag : Nat) : Option (Nat × Nat) :=
  let k := h.linkKeyOf u
  if h.tagUnder u header len cipher tag k.rxCur then k.rxCur
  else if h.tagUnder u header len cipher tag k.rxNext then k.rxNext
  else none

/-- A received frame passes its CRC-32, which stands where LENGTH says (R199, R201). -/
def crcPasses (header len data tag crc : Nat) : Bool :=
  len == hLen header && frameCrc header len data (if hEnc header = 1 then some tag else none) == crc

/-- The payload of a received frame: decrypted with ENC as it is received (R281), under the key that its tag
passes or else the current one. -/
def plainOf (h : Hub) (p header len data tag : Nat) : Nat :=
  if hEnc header = 1 then
    let k := h.linkKeyOf (p - 16)
    match ((h.passKey (p - 16) header len data tag).or k.rxCur).or k.rxNext with
    | some k => Config.gcmCrypt k.1 (gcmNonce k.2 (h.seqOf (p - 16) (hSeq header) - 1)) len data % 256 ^ len
    | none => data
  else data

/-- A frame that has ended is GOOD (R293): its end, LENGTH, its CRC-32, and with ENC its tag. -/
def frameJudged (h : Hub) (p header len data tag crc : Nat) (fin : FrameFin) : Bool :=
  fin == .normal && crcPasses header len data tag crc
    && (hEnc header == 0 || (h.passKey (p - 16) header len data tag).isSome)

/-- A frame's header is in Shale, from a cable port (R283 to R290). LINK frames never reach Granite, and a header that fails its check
is counted with its whole frame. -/
def headerReceived (p header : Nat) (h : Hub) : Hub :=
  if !h.takesIn p then h
  else if withCheck header ≠ header ∨ hFtype header = 3 then h
  else if h.linkRefuses p header then h.returnCredit p (hClass header) (frameCost header)
  else
    let ep := h.frameEpIn p (hClass header)
    let h1 := ((h.dropUntold p ep).putStream (h.streamOf p ep)).linkSeq p ep header
    if hHops header = 15 then (h1.inc (Od.HOPS_EXCEEDED p)).refuseFrame p header 14
    else if 1024 < hLen header ∨ !(hFtype header == 0 || hFtype header == 2) then h1.refuseFrame p header 9
    else (h1.enterFrame p header 0 0 false none 0).returnCredit p (hClass header) (frameCost header)

/-- The frame being received at a port has ended, on endpoint 1 or 2 of a packet link or, as 0, on a TS link, with the bytes received after its
header (R293 to R295); a BAD frame keeps what Shale holds of it. -/
def verdictOf (p ep len data tag crc : Nat) (fin : FrameFin) (h : Hub) : Hub :=
  match h.receiving p ep with
  | none => h
  | some f =>
    let h1 := if ep = 0 then h else h.streamDone p ep (20 + hLen f.header)
    let plain := h.plainOf p f.header len data tag
    let n := min len (hLen f.header)
    if h.frameJudged p f.header len data tag crc fin then h1.frameGood f plain
    else h1.frameBad { f with payload := plain % 256 ^ n, got := n } (fin == .truncated)

/-- The next copy of an egress begins (R292, R302), but where the serial function takes the frames (R135); one that finds its port unable to take frames, or its address not assigned to the
port, is dropped as EGRESS_GONE (R217, R232). `cutReady` says that the first cell of the CUT copy at a queue's head is written. -/
def copyStart (p : Nat) (cutReady : Bool) (h : Hub) : Hub :=
  if !h.switchOn ∨ !h.phyOn p ∨ (h.begunCopy p).isSome ∨ h.serialTakes p 4 = true then h
  else match h.nextCopy p cutReady with
    | none => h
    | some (f, c) =>
      if !h.canTake p then (if h.engineRuns p then h else h.dropCopy 12 f.id p)
      else if p < 16 ∧ !h.farIsHub p ∧ !h.assignedTo p (hDest f.header % 4096 / 16) then h.dropCopy 12 f.id p
      else if p < 18 then (h.beginCopy f c).wr (Reg.outPk p) 0 else h.beginCopy f c

/-- The copy on an egress finishes sending, once its frame's verdict is known and, on a packet link, all its DATA packets are acknowledged (R198,
R292, R294). A delivery to a field device ends with its transfer instead (R232). -/
def copyEnd (p : Nat) (h : Hub) : Hub :=
  match h.begunCopy p with
  | none => h
  | some (f, c) =>
    if f.verdict = 0 ∨ h.deliveries.any (fun v => v.port == p)
      ∨ (p < 18 ∧ h.rd (Od.LINK_CLASS p) ≠ 4 ∧ h.rd (Reg.outPk p) < packetsOf (h.portMax p) (childLen f)) then h
    else h.finishCopy f c

/-- No byte of a CUT copy's frame has reached Shale within CUT_STALL of the last (R297). -/
def cutStall (p : Nat) (h : Hub) : Hub :=
  match h.begunCopy p with
  | none => h
  | some (f, c) =>
    let last := (h.streamOf f.ingress (h.frameEpIn f.ingress (hClass f.header))).last
    if c.cut ∧ f.verdict = 0 ∧ h.rd (Od.LINK_CLASS p) ≠ 4 ∧ last + ms (h.rd Od.CUT_STALL) ≤ h.now then
      (h.poisonCopy (h.soFar f) c).countDrop 13 p
    else h

/-- A frame that holds a bad cell is BAD, and its copies that have not begun are dropped as ECC (R293, R295). -/
def badByEcc (id : Nat) (h : Hub) : Hub :=
  match h.frameOf id with
  | none => h
  | some f =>
    if f.verdict = 2 then h
    else (f.copies.filter (fun c => !c.begun)).foldl (fun x c => x.countDrop 10 c.egress)
      (h.frameBad (if f.verdict = 0 then h.soFar f else f) false)

/-- A read of Shale meets an error (R279): physical bank, cell, and whether two bits erred. -/
def eccError (bank cell : Nat) (double : Bool) (h : Hub) : Hub :=
  let detail := bank + cell * 65536
  if !double then (h.inc Od.ECC_CORRECTED).report 0x01 detail 0
  else
    let h1 := h.inc Od.ECC_UNCORRECTED
    match h.cellHolder bank cell with
    | none => h1.report 0x02 detail 0
    | some f => (h1.report 0x02 detail 0).badByEcc f.id

/-- REJOIN_HOLD of a member has passed (R301): it is a candidate again. -/
def rejoin (p : Nat) (h : Hub) : Hub := h.expire (Tm.rejoin p) id

end Hub

/-- The header of a frame is in Shale: at a cable port as received; at port 18 or 19 with its payload, for the named egress when LOCAL
(R283 to R288). -/
def execFrameHeaderReceived (t : Stamp) (p : SwPort) (header : BitVec 128) (payload : Nat) (named : SwPort) (s : State) : Out :=
  act t s (fun h => if p.val < 18 then h.headerReceived p header.toNat
    else h.injectFrame p header.toNat (payload % 256 ^ hLen header.toNat) named)

/-- A frame ends: the endpoint of a packet link that received it, or 0 on a TS link, the payload bytes as received, the tag where the frame
carries one, the CRC-32, and how it ended. -/
def execFrameVerdict (t : Stamp) (p : Cable) (ep : Fin 3) (len data : Nat) (tag : BitVec 128) (crc : Word) (fin : FrameFin) (s : State) : Out :=
  act t s (Hub.verdictOf p ep len (data % 256 ^ len) tag.toNat crc.toNat fin)

/-- An eligible copy begins on its egress. -/
def execEgressCopyStart (t : Stamp) (p : SwPort) (cutReady : Bool) (s : State) : Out := act t s (Hub.copyStart p cutReady)

/-- A copy finishes sending. -/
def execEgressCopyEnd (t : Stamp) (p : SwPort) (s : State) : Out := act t s (fun h => (h.copyEnd p).keyWorn p)

/-- CUT_STALL passes without a byte. -/
def execCutStallTimeout (t : Stamp) (p : Cable) (s : State) : Out := act t s (Hub.cutStall p)

/-- A Shale read finds an error. -/
def execEccError (t : Stamp) (bank : Fin 52) (cell : Fin 512) (double : Bool) (s : State) : Out :=
  act t s (Hub.eccError bank cell double)

/-- REJOIN_HOLD expires. -/
def execRejoinHoldExpiry (t : Stamp) (p : Cable) (s : State) : Out := act t s (Hub.rejoin p)

end Sys2Proof.Machine
end

