-- ==== Sys2Proof/Machine/LinkOps.lean ====
section
/-!
DEFINITION. Sys2Proof/Machine/LinkOps.lean: the Eclin-2 link as shared operations (R161 to R211): connecting and choosing the speed, the
timing grid, the endpoints of the hub as downstream end, bursts and handshakes, trunk frames and LINK frames, suspend and resume.
-/
namespace Sys2Proof.Machine

namespace Hub


/-! ### Connecting and choosing the speed (R167 to R173) -/

/-- A data line reads high: D+, or D− (R168). While DISCONNECTED the debounce starts. -/
def pullupSeen (p : Nat) (dMinus : Bool) (h : Hub) : Hub :=
  if !h.upstreamEnd p ∨ !h.phyOn p then h
  else
    let h1 := h.wr (Reg.pullSeen p) (if dMinus then 2 else 1)
    if h1.rd (Od.PORT_STATE p) = 2 ∧ h1.rd (Od.LINK_STATE p) = 0 then (h1.linkTo p 1).arm (Tm.connect p) (ms 95) else h1

/-- The pull-up disappears before the debounce is done (R174); later, detach is found on the CF wires alone (R167). -/
def pullupGone (p : Nat) (h : Hub) : Hub :=
  if h.rd (Od.LINK_STATE p) ≤ 1 ∧ h.upstreamEnd p = true then (h.linkTo p 0).clear [Reg.pullSeen p, Tm.connect p] else h

/-- tConnect is complete (R168). -/
def connected (p : Nat) (h : Hub) : Hub :=
  h.expire (Tm.connect p) (fun x => if x.rd (Od.PORT_STATE p) = 2 ∧ x.rd (Od.LINK_STATE p) = 1 ∧ x.phyOn p = true then x.enterResetting p else x)

/-- SE0 ends at the upstream end: the offer window opens (R170). -/
def offerWindow (p : Nat) (h : Hub) : Hub :=
  h.expire (Tm.se0 p) (fun x => if x.rd (Od.LINK_STATE p) = 2 then x.arm (Tm.offer p) (ms 2) else x)

/-- The class of the pull-up: FS on D+, LS on D− (R167). -/
def pullClass (h : Hub) (p : Nat) : Nat := if h.rd (Reg.pullSeen p) = 2 then 1 else 2

/-- The class that the upstream end grants for an offer (R170, R172): 0 for none. -/
def grantFor (h : Hub) (p offered : Nat) : Nat :=
  let c := min offered (h.rd (Od.CLASS_MAX p))
  let c1 := if h.rd (Reg.trainCap p) = 1 then min c 3 else c
  if h.rd (Reg.pullSeen p) = 2 ∨ c1 < 3 then 0 else c1

/-- An offer has ended (R170, R171, R172): the grant, and the first packet or training after it. The times are the least that the
grant's runs allow. -/
def offerEnd (p offered : Nat) (h : Hub) : Hub :=
  if !h.running (Tm.offer p) ∨ h.rd (Od.LINK_STATE p) ≠ 2 ∨ h.grantFor p offered = 0 then h
  else
    let c := h.grantFor p offered
    let h1 := ((h.stop (Tm.offer p)).wr (Reg.grant p) c).emit (.grant p c)
    if c = 4 then ((h1.linkTo p 3).emit (.train p 1)).arm (Tm.train p) (us 11000) else h1.arm (Tm.active p) (us 1640)

/-- The offer window ends without a grant: the link runs at the class of its pull-up (R171). -/
def offerWindowEnd (p : Nat) (h : Hub) : Hub :=
  h.expire (Tm.offer p) (fun x => if x.rd (Od.LINK_STATE p) = 2 then (x.wr (Reg.grant p) (x.pullClass p)).arm (Tm.active p) 0 else x)

/-- SE0 has ended at the hub as downstream end: it offers HS or TS where CLASS_MAX allows, and a fabric port never (R162, R170). -/
def makeOffer (p : Nat) (h : Hub) : Hub :=
  if h.downstreamEnd p && h.rd (Od.LINK_STATE p) == 2 && decide (3 ≤ h.rd (Od.CLASS_MAX p)) && decide (16 ≤ p) && !h.fabricPort p then
    h.emit (.offer p (h.rd (Od.CLASS_MAX p)))
  else h

/-- A link enters ACTIVE at a class (Table 6-5, R42). -/
def activeAt (p c : Nat) (h : Hub) : Hub := ((h.wr (Od.LINK_CLASS p) c).judgeReach p).linkTo p 4

/-- The downstream end has counted the runs of a grant (R171, R172): six for HS, ten for TS, any other number for none. -/
def grantSeen (p runs : Nat) (h : Hub) : Hub :=
  if !h.downstreamEnd p ∨ h.rd (Od.LINK_STATE p) ≠ 2 then h
  else if runs = 6 then (h.setPull p 0).activeAt p 3
  else if runs = 10 then ((((h.setPull p 0).wr (Reg.grant p) 4).linkTo p 3).emit (.train p 1)).arm (Tm.train p) (ms 11)
  else h

/-- Training symbols were received (R172, R206, R211): step 2 finds the polarity of each pair, sets DATA_SWAP and T2_SWAP (R78) and sends /TR2/, step 3 enters ACTIVE. A link that trained
again without a reset owes an exchange of keys (R448). -/
def trained (p : Nat) (active inverted inverted2 : Bool) (h : Hub) : Hub :=
  if !h.running (Tm.train p) ∨ (h.rd (Od.LINK_STATE p) ≠ 3 ∧ h.rd (Od.LINK_STATE p) ≠ 6) then h
  else if !active then
    let h1 := (h.stop (Tm.noSymbol p)).emit (.train p 2)
    if h1.upstreamEnd p then h1.wr (Od.ORIENTATION p) (putBit (putBit (h1.rd (Od.ORIENTATION p)) 1 inverted) 2 inverted2) else h1
  else
    let again := h.rd (Reg.retrain p) = 1
    let h1 := h.activeAt p 4
    let h2 := if h1.upstreamEnd p ∧ h1.rd (Od.PORT_STATE p) = 4 then h1.arm (Tm.enumStart p) (ms 10) else h1
    if again ∧ h2.upstreamEnd p = true ∧ 16 ≤ p ∧ h2.rd Od.TRUNK_ENC ≠ 0 then (h2.wr (Reg.keyxDue (p - 16)) 1).arm (Tm.keyAgree (p - 16)) (ms 100)
    else h2

/-- The downstream end returns to FS signalling and restores its pull-up (R172, R206). -/
def backToFs (p : Nat) (h : Hub) : Hub := (h.linkDown p).restorePull p

/-- tTrain has passed without ACTIVE (R172, R206, R211, Table 6-5): in TRAINING the upstream end resets the link and the downstream end
returns to FS signalling, and in RESUMING both ends are in RESET. -/
def trainTimeout (p : Nat) (h : Hub) : Hub :=
  h.expire (Tm.train p) (fun x =>
    if x.rd (Od.LINK_STATE p) ≠ 3 ∧ x.rd (Od.LINK_STATE p) ≠ 6 then x
    else if x.downstreamEnd p then
      (if x.rd (Od.LINK_STATE p) = 6 then ((x.clear [Reg.retrain p, Tm.noSymbol p]).linkTo p 2).restorePull p else x.backToFs p)
    else if [3, 8].contains (x.rd (Od.PORT_STATE p)) then x
    else if x.rd (Reg.retrain p) = 1 then x.enterResetting p
    else ((x.inc (Od.TRAIN_FAILS p)).wr (Reg.trainCap p) 1).enterResetting p)

/-- 1 ms without a valid symbol at the downstream end (R206). -/
def noSymbol (p : Nat) (h : Hub) : Hub :=
  h.expire (Tm.noSymbol p) (fun x => if x.downstreamEnd p && x.rd (Od.LINK_STATE p) == 3 then x.backToFs p else x)

/-- A TS receiver loses lock (R206). -/
def trunkLockLost (p : Nat) (h : Hub) : Hub := if h.trunkActive p then (h.inc (Od.LINK_DROPS p)).retrainLink p else h

/-- A reset is seen by the hub as downstream end (R169, R243). -/
def resetSeen (p : Nat) (h : Hub) : Hub :=
  if !h.downstreamEnd p then h
  else
    let h0 := if h.rd Od.CONTROL_UPSTREAM = p then h.upstreamResetOnce else h
    let h1 := (((h0.linkTo p 2).inc (Od.RESETS p)).restorePull p).clear [Reg.grant p, Tm.train p, Tm.noSymbol p, Reg.retrain p, Reg.inEp p]
    h1.downstreamReset p

/-! ### The timing grid (R175 to R180) -/

/-- Index of the micro-frame in its frame. -/
def uframeIndex (h : Hub) : Nat := h.gridTime / 125000 % 8

/-- The frame number. -/
def frameNumber (h : Hub) : Nat := h.gridTime / 1000000 % 2048

/-- CABLE_DELAY as the link carries it; 0xFFFF before the first round trip (R177, R268). -/
def delayField (h : Hub) (p : Nat) : Nat := if h.rd (Reg.tickSeen p) = 1 then h.rd (Od.CABLE_DELAY p) else 0xFFFF

/-- SOF, extended at index 0 toward a trunk plug and on a trunk (R177, R180), or TICK on a TS link (R203). -/
def sendSof (p : Nat) (h : Hub) : Hub :=
  if h.rd (Od.LINK_CLASS p) = 4 then h.sendLink p 2 (pack [(2, h.frameNumber), (8, h.gridTime), (2, 0)])
  else
    let idx := if h.rd (Od.LINK_CLASS p) = 3 then h.uframeIndex else 0
    let ext := idx == 0 && (decide (16 ≤ p) || h.rd (Od.PROBE_RESULT p) == 3)
    let body := h.frameNumber + 2 ^ 11 * idx + (if ext then 2 ^ 15 + 2 ^ 16 * h.gridTime + 2 ^ 80 * h.delayField p else 0)
    h.emit (.sof p body ext)

/-- The link enters ACTIVE at a SOF boundary: after a reset at the class granted, or after a resume (R171, R209, R240). -/
def sofOpens (p : Nat) (h : Hub) : Hub :=
  if h.rd (Od.LINK_STATE p) = 2 ∧ h.due (Tm.active p) = true then
    let h1 := h.activeAt p (h.rd (Reg.grant p))
    if h1.rd (Od.PORT_STATE p) = 4 then h1.arm (Tm.enumStart p) (ms 10) else h1
  else if h.rd (Od.LINK_STATE p) = 6 ∧ h.due (Tm.firstSof p) = true then (h.wr (Tm.firstSof p) 0).linkTo p 4
  else h

/-- A port that resumed is ENABLED with its first SOF (R240, R247); while the control upstream is SUSPENDED it is to be suspended too
(R239). -/
def sofEnables (p : Nat) (h : Hub) : Hub :=
  if h.rd (Od.PORT_STATE p) = 7 ∧ h.rd (Od.LINK_STATE p) = 4 then
    (((h.movePort p 5 0).wr (Od.ENABLE_TIME p) h.stamp).settleCmd p 1).suspendForUpstream
  else h

/-- The present instant is a SOF time of the port that has had none yet (R175): within 0.2 µs of a micro-frame boundary at HS, and of a frame
boundary otherwise, with the timebase running (R271); or the boundary at which a step was applied (R272). -/
def sofTime (h : Hub) (p : Nat) (hs : Bool) : Bool :=
  let k := h.gridTime / 125000 + 1
  let stepped := h.rd Reg.stepUframe == k && (hs || h.rd Reg.stepFrame == 1)
  h.isOn 5 && h.rd (Reg.lastSof p) != k
    && (stepped || (decide (h.gridTime % 125000 < 200) && (hs || h.uframeIndex == 0)))

/-- What follows a SOF: IN to a child hub's endpoints is due (R221), and so may be a forced monitor slot (R47). -/
def afterSof (p : Nat) (h : Hub) : Hub :=
  let h1 := if h.rd (Od.PORT_STATE p) = 5 ∧ h.rd (Od.LINK_CLASS p) ≤ 3 ∧ h.farIsHub p = true then h.wr (Reg.childIn p) 6 else h
  if h1.rd (Reg.monOwed p) = 1 then ((h1.wr (Reg.monOwed p) 0).wr (Reg.slotAt p) (h1.gridTime / 125000 + 1)).arm (Tm.monForced p) (us 15) else h1

/-- A boundary of the grid at the upstream end of a port that sends (R175): every micro-frame at HS, every frame otherwise. A port that is to
be suspended sends no more, once the transaction on its wire has ended (R238). -/
def sofBoundary (p : Nat) (h : Hub) : Hub :=
  let st := h.rd (Od.PORT_STATE p)
  let hs := h.rd (Od.LINK_CLASS p) == 3 || (h.rd (Od.LINK_STATE p) == 2 && h.rd (Reg.grant p) == 3)
  if !h.upstreamEnd p ∨ !h.phyOn p ∨ (st ≠ 4 ∧ st ≠ 5 ∧ st ≠ 7) ∨ !h.sofTime p hs then h
  else
    let h1 := (h.wr (Reg.lastSof p) (h.gridTime / 125000 + 1)).sofOpens p
    if h1.rd (Od.LINK_STATE p) ≠ 4 then h1
    else if st = 5 ∧ h1.rd (Reg.suspendDue p) ≠ 0 ∧ (h1.onWire p).isNone = true ∧ h1.slotsBusy p = false then
      h1.enterSuspended p (h1.rd (Reg.suspendDue p))
    else ((h1.sendSof p).sofEnables p).afterSof p

/-- SOF at the downstream end (R180, R268): it opens a link that carries no grant or that resumed; an extended one is a time message. -/
def sofReceived (p body : Nat) (fault : LineFault) (h : Hub) : Hub :=
  let st := h.rd (Od.LINK_STATE p)
  if !h.downstreamEnd p ∨ !h.phyOn p ∨ (st ≠ 2 ∧ st ≠ 4 ∧ st ≠ 6) then h
  else if fault ≠ .good then h.countFault p fault
  else
    let h1 := h.heardPackets p 1
    let h2 := if st = 2 then h1.activeAt p (if h1.rd (Od.CLASS_MAX p) = 1 then 1 else 2)
      else if st = 6 then (if h1.rd (Od.LINK_CLASS p) = 3 then h1.setPull p 0 else h1).linkTo p 4
      else h1
    if hasBit body 15 then
      let d := bits body 95 80
      h2.timeMessage p (bits body 79 16) (if d = 0xFFFF then none else some (d * 8)) h2.timebase
    else h2

/-! ### Standard requests (R194, R197, R225) -/

/-- The halt entry that INDEX names, or none where the hub has no such endpoint (Table 6-14). -/
def haltKey (index : Nat) : Option Nat :=
  let ep := index % 16
  let dir := hasBit index 7
  if ep = 0 then some Od.EP0_OD_HALT
  else if ep = 1 then some (if dir then Od.EP1_IN_HALT else Od.EP1_OUT_HALT)
  else if ep = 2 ∧ dir then some Od.EP2_IN_HALT
  else none

/-- The cause present for a halt entry (R196). -/
def haltCause (h : Hub) (index : Nat) : Nat :=
  if index % 16 = 0 then h.odHaltCause else if index % 16 = 1 then h.switchHaltCause else h.quartzHaltCause

/-- GET_STATUS: 4 bytes (Table 6-13). -/
def statusOf (h : Hub) (k : Nat) : Nat := pack [(1, if h.rd k = 0 then 0 else 1), (1, h.rd k), (2, 0)]

/-- The hub's own IDENTIFY record (R225). -/
def identifyRecord (h : Hub) : Nat :=
  pack [(2, 0x59A1), (2, 0x1680), (2, 0x00B0), (1, 2), (1, 1), (8, Config.serial), (2, 0x0007), (1, 0x0F), (1, 0x03),
    (4, h.rd Od.FW_VERSION), (8, 0)]

/-- CLEAR_HALT at its status stage (R197): whether it is stalled, and the halt and its sequence cleared when its cause is absent. -/
def clearHalt (p index : Nat) (h : Hub) : Bool × Hub :=
  match haltKey index with
  | none => (true, h)
  | some k =>
    if h.haltCause index ≠ 0 then (true, h)
    else
      let ep := index % 16
      let h1 := h.wr k 0
      (false, if p = 18 ∨ ep = 0 then h1 else if hasBit index 7 then h1.wr (Reg.mySend p ep) 0 else h1.wr (Reg.myE p ep) 0)

/-- A new device address of the hub on a link (R194). -/
def takeAddress (p a : Nat) (h : Hub) : Hub :=
  let h1 := h.wr (Reg.myAddr p) a
  if h1.rd Od.CONTROL_UPSTREAM = p then h1.wr Od.LINK_ADDRESS a else h1

/-- Fields of a setup record (Table 6-12). -/
def suIn (r : Nat) : Bool := hasBit r 7
def suKind (r : Nat) : Nat := bits r 6 5
def suReq (r : Nat) : Nat := bits r 15 8
def suValue (r : Nat) : Nat := bits r 31 16
def suIndex (r : Nat) : Nat := bits r 47 32
def suLen (r : Nat) : Nat := bits r 63 48

/-- A standard request the hub supports (Table 6-13). -/
def standardOk (r : Nat) : Bool :=
  if suReq r = 0x00 then suIn r && (haltKey (suIndex r)).isSome
  else if suReq r = 0x01 then !suIn r && suLen r == 0 && (haltKey (suIndex r)).isSome
  else if suReq r = 0x05 then !suIn r && suLen r == 0 && decide (1 ≤ suValue r ∧ suValue r ≤ 254)
  else suReq r == 0x06 && suIn r

/-- The IN data of a standard request: its length and bytes. -/
def standardData (h : Hub) (r : Nat) : Nat × Nat :=
  if suReq r = 0x00 then (min 4 (suLen r), h.statusOf ((haltKey (suIndex r)).getD Od.EP0_OD_HALT) % 256 ^ min 4 (suLen r))
  else if suReq r = 0x06 then (min 32 (suLen r), h.identifyRecord % 256 ^ min 32 (suLen r))
  else (0, 0)

/-- The direction that Table 12-3 gives an OD request: IN for OD_READ, OD_STATUS and OD_DESCRIBE. -/
def odDirOk (r : Nat) : Bool :=
  if suReq r = 0x10 ∨ suReq r = 0x15 ∨ suReq r = 0x16 then suIn r else !suIn r

/-! ### Endpoint 0 over packets (R192) -/

/-- The open control transfer of a port. -/
def controlOf (h : Hub) (p : Nat) : Option Control := h.controls.find? (fun c => c.port == p)

/-- The open control transfer replaced. -/
def putControl (c : Control) (h : Hub) : Hub := { h with controls := putBy Control.port c h.controls }

/-- The open control transfer ends. -/
def endControl (p : Nat) (h : Hub) : Hub := { h with controls := dropBy Control.port p h.controls }

/-- STALL on an endpoint of the hub's own (R196). -/
def sendStall (p : Nat) (h : Hub) : Hub := (h.emit (.handshake p 0xB 0)).inc Od.STALLS_SENT

/-- A transfer is answered STALL at its next stage: as judged, or because PD1 has left ON under an OD request (R196). -/
def controlStalls (h : Hub) (c : Control) : Bool := c.stall || (suKind c.setup == 1 && !h.flintOn)

/-- The whole request of an open OD transfer is served (R194, R359, R360). -/
def serveControl (p : Nat) (c : Control) (admitted : Bool) (h : Hub) : Hub :=
  let (busy, good, h1) := h.unseen
  h1.linkRequest p (suReq c.setup) (suIndex c.setup) (suValue c.setup) (suLen c.setup) c.data busy good admitted

/-- SETUP with its record (R192, R193): any open transfer ends, the sequence states start afresh, and ACK with NEXT 1 is answered.
Requests without OUT data are served at once; on a fabric port requests of KIND OD are stalled (R162). -/
def setupReceived (p dev r : Nat) (fault : LineFault) (h : Hub) : Hub :=
  if !h.answersOn p then h
  else if fault ≠ .good then h.countFault p fault
  else if dev = 255 then h.reservedPacket p
  else if dev ≠ h.rd (Reg.myAddr p) then h.heardPackets p 1
  else
    let h1 := (((h.heardPackets p 2).endControl p).wr (Reg.myE p 0) 1 |>.wr (Reg.mySend p 0) 0
      |>.clear [Reg.outToken p, Reg.inEp p, Reg.splitAck p]).emit (.handshake p 9 1)
    let c : Control := { port := p, setup := r, stage := 2, stall := false, len := 0, data := 0 }
    if 2 ≤ suKind r ∨ 1016 < suLen r then h1.putControl { c with stall := true }
    else if suKind r = 0 then
      if !standardOk r then h1.putControl { c with stall := true }
      else h1.putControl { c with len := (h1.standardData r).1, data := (h1.standardData r).2 }
    else if h1.fabricPort p ∨ p < 16 ∨ !odDirOk r then h1.putControl { c with stall := true }
    else if suIn r ∨ suLen r = 0 ∨ h1.haltedFor p (suReq r) (suIndex r) (suValue r) then
      (h1.putControl { c with stage := 1 }).serveControl p c false
    else h1.putControl { c with stage := 0 }

/-! ### Tokens at the downstream end (R179, R185, R186, R189, R195) -/

/-- Free cells outside C0_RESERVE in the allowed domains (R290). -/
def freeCells (h : Hub) : Nat := (h.allowedDomains.map (fun d => h.allocatable d)).foldl (· + ·) 0 - h.rd Od.C0_RESERVE

/-- DATA packets go out from the next unacknowledged number (R186). -/
def sendBurst (p ep n len data : Nat) (h : Hub) : Hub :=
  let c := h.rd (Od.LINK_CLASS p)
  ((h.emit (.dataBurst p ep (h.rd (Reg.mySend p ep) % 16) n len data)).wr (Reg.inEp p) (ep + 1) |>.wr (Reg.myOut p ep) n).arm
    (Tm.linkResp p) (burstTime c (turnMin c) (classMax c) n len false + responseMin c)

/-- IN to endpoint 0 (R192, R194, R197): data of an IN request, or the status packet of any other; NAK while the answer is still
composed or no transfer is open. NEXT of such a NAK is the hub's own send number of the endpoint (log entry 55). -/
def controlIn (p count : Nat) (h : Hub) : Hub :=
  match h.controlOf p with
  | none => h.emit (.handshake p 0xA (h.rd (Reg.mySend p 0) % 16))
  | some c =>
    if h.controlStalls c then (h.endControl p).sendStall p
    else if c.stage < 2 then h.emit (.handshake p 0xA (h.rd (Reg.mySend p 0) % 16))
    else if suIn c.setup ∧ suLen c.setup ≠ 0 then
      if c.stage = 3 then h.emit (.handshake p 0xA (h.rd (Reg.mySend p 0) % 16))
      else
        let mx := h.portMax p
        let n := min (min (count + 1) 8) (packetsOf mx c.len)
        h.sendBurst p 0 n (min c.len (n * mx)) (c.data % 256 ^ min c.len (n * mx))
    else
      let judged : Bool × Hub := if suKind c.setup = 0 ∧ suReq c.setup = 1 ∧ c.stage = 2 then h.clearHalt p (suIndex c.setup) else (false, h)
      if judged.1 then (judged.2.endControl p).sendStall p
      else (judged.2.putControl { c with stage := 3 }).sendBurst p 0 1 0 0

/-- IN to endpoint 1 of a fabric port (R162): the next packets of the oldest Eclin-1 frame that waits. -/
def fabricIn (p count : Nat) (h : Hub) : Hub :=
  match h.fabOut.find? (fun x => x.port == p) with
  | none => h.emit (.handshake p 0xA (h.rd (Reg.mySend p 1) % 16))
  | some x =>
    let mx := h.portMax p
    let off := h.rd (Reg.outPk p) * mx
    let n := min (min (count + 1) 8) (packetsOf mx x.len - h.rd (Reg.outPk p))
    let len := min (n * mx) (x.len - off)
    h.sendBurst p 1 n len (field x.data off len)

/-- Packets of the oldest Eclin-1 frame that waits are acknowledged; one that has gone whole leaves the queue. -/
def fabricMoves (p n : Nat) (h : Hub) : Hub :=
  match h.fabOut.find? (fun x => x.port == p) with
  | none => h
  | some x =>
    let sent := h.rd (Reg.outPk p) + n
    if packetsOf (h.portMax p) x.len ≤ sent then { h with fabOut := dropFirst (fun y => y.port == p) h.fabOut }.wr (Reg.outPk p) 0
    else h.wr (Reg.outPk p) sent

/-- IN to endpoint 1, or to endpoint 2 for frames of class C1 (R195, R198): the next packets of the frame that has begun on this egress;
NEXT of a NAK is as for endpoint 0 (log entry 55). -/
def frameIn (p ep count : Nat) (h : Hub) : Hub :=
  let nak := h.emit (.handshake p 0xA (h.rd (Reg.mySend p ep) % 16))
  if h.rd (if ep = 1 then Od.EP1_IN_HALT else Od.EP2_IN_HALT) ≠ 0 then h.sendStall p
  else if h.fabricPort p then (if ep = 1 then h.fabricIn p count else nak)
  else match h.begunCopy p with
    | none => nak
    | some (f, c) =>
      let mx := h.portMax p
      let n := min (min (count + 1) 8) (h.packetsReady f p - h.rd (Reg.outPk p))
      if (c.cls = 1) ≠ (ep = 2) ∨ n = 0 then nak
      else
        let off := h.rd (Reg.outPk p) * mx
        let len := min (n * mx) (childLen f - off)
        h.sendBurst p ep n len (field (h.childFrame f p) off len)

/-- PING (R189): whether an OUT endpoint has room for one packet. -/
def pinged (p ep : Nat) (h : Hub) : Hub :=
  if ep = 0 then
    match h.controlOf p with
    | some c => if h.controlStalls c then (h.endControl p).sendStall p else h.emit (.handshake p (if c.stage = 1 then 0xA else 9) 0)
    | none => h.emit (.handshake p 9 0)
  else if ep = 1 then
    if h.rd Od.EP1_OUT_HALT ≠ 0 then h.sendStall p else h.emit (.handshake p (if h.freeCells < 9 then 0xA else 9) 0)
  else h

/-- PING with TIME (R177): ACK at tTimeEcho, whatever the halts hold. -/
def timeEcho (p : Nat) (h : Hub) : Hub := if h.answersOn p then (h.heardPackets p 1).emit (.handshake p 9 0) else h

/-- OUT, IN or PING at the hub as downstream end (R179): DEV 255, TIME in OUT or IN and a COUNT other than 0 in PING are reserved
encodings. A token for another device, or for an endpoint the hub does not have, is not answered. -/
def tokenReceived (p : Nat) (k : Token) (dev ep count : Nat) (time : Bool) (fault : LineFault) (h : Hub) : Hub :=
  if !h.answersOn p then h
  else if fault ≠ .good then h.countFault p fault
  else if dev = 255 ∨ (time = true ∧ k ≠ .ping) then h.reservedPacket p
  else if time = true ∧ dev = h.rd (Reg.myAddr p) ∧ ep = 0 then h.timeEcho p
  else
    let h1 := (h.heardPackets p 1).clear [Reg.outToken p, Reg.inEp p, Reg.splitAck p]
    if dev ≠ h.rd (Reg.myAddr p) then h1
    else match k with
      | .out => h1.wr (Reg.outToken p) (ep + 1)
      | .ping => h1.pinged p ep
      | .in_ => if ep = 0 then h1.controlIn p count else if ep ≤ 2 then h1.frameIn p ep count else h1

/-! ### Bursts (R182, R186, R187) -/

end Hub

/-- What the receiver of a burst makes of it (R187): its next expected SEQ, the packets, bytes and payload accepted, the duplicates and the
gaps. -/
structure Burst where
  e : Nat
  packets : Nat
  len : Nat
  payload : Nat
  dups : Nat
  gaps : Nat

/-- One packet of a burst that passed its checks, with room for `room` packets in all. -/
def Burst.take (room : Nat) (b : Burst) (q : Packet) : Burst :=
  let d := (b.e + 16 - q.seq.val) % 16
  if 1 ≤ d ∧ d ≤ 8 then { b with dups := b.dups + 1 }
  else if d ≠ 0 then { b with gaps := b.gaps + 1 }
  else if room ≤ b.packets then b
  else { b with e := (b.e + 1) % 16, packets := b.packets + 1, len := b.len + q.len,
                payload := b.payload + 256 ^ b.len * (q.payload % 256 ^ q.len) }

/-- A burst received from e on. -/
def receiveBurst (e room : Nat) (qs : List Packet) : Burst :=
  (qs.filter (fun q => q.fault == .good)).foldl (Burst.take room) ⟨e % 16, 0, 0, 0, 0, 0⟩

namespace Hub

/-- The packets of a burst are counted: faults, valid packets, duplicates and gaps (Table 6-10, R187). -/
def countBurst (p : Nat) (qs : List Packet) (b : Burst) (h : Hub) : Hub :=
  let h1 := qs.foldl (fun (x : Hub) q => x.countFault p q.fault) h
  ((h1.heardPackets p (qs.filter (fun q => q.fault == .good)).length).add (Od.RX_DUPLICATES p) b.dups).add (Od.RX_SEQ_GAP p) b.gaps

/-- OUT data reach endpoint 0 (R192): data of an open transfer, which is served when they are whole, or the status packet of an IN
request. -/
def controlOut (p : Nat) (qs : List Packet) (h : Hub) : Hub :=
  match h.controlOf p with
  | none => h.countBurst p qs (receiveBurst (h.rd (Reg.myE p 0)) 0 qs)
  | some c =>
    let wants := !suIn c.setup && suLen c.setup != 0
    let room := if wants then (if c.stage = 0 then 8 else 0) else if c.stage = 1 then 0 else 1
    let b := receiveBurst (h.rd (Reg.myE p 0)) room qs
    let h1 := (h.countBurst p qs b).wr (Reg.myE p 0) b.e
    if qs.all (fun q => q.fault != .good) then h1
    else if h.controlStalls c then (h1.endControl p).sendStall p
    else if b.packets = 0 ∧ b.dups = 0 ∧ room = 0 then h1.emit (.handshake p 0xA b.e)
    else
      let h2 := h1.emit (.handshake p 9 b.e)
      if b.packets = 0 then h2
      else if !wants then h2.endControl p
      else
        let c1 : Control := { c with len := c.len + b.len, data := c.data + 256 ^ c.len * b.payload }
        if c1.len < suLen c.setup then h2.putControl c1 else (h2.putControl { c1 with stage := 1 }).serveControl p c1 true

/-- OUT data reach endpoint 1 (R185, R195, R290): a halt stalls them, and room is 8 cells for each packet with 9 free cells to start. -/
def frameOutIn (p : Nat) (qs : List Packet) (h : Hub) : Hub :=
  let free := h.freeCells
  let room := if free < 9 then 0 else min 8 ((free - 1) / 8)
  let halted := h.rd Od.EP1_OUT_HALT ≠ 0
  let b := receiveBurst (h.rd (Reg.myE p 1)) (if halted then 0 else room) qs
  let h1 := (h.countBurst p qs b).wr (Reg.myE p 1) b.e
  if qs.all (fun q => q.fault != .good) then h1
  else if halted then h1.sendStall p
  else if b.packets = 0 ∧ b.dups = 0 ∧ room = 0 then h1.emit (.handshake p 0xA b.e)
  else
    let full := decide (free - 8 * b.packets < 9) && h.rd (Od.LINK_CLASS p) == 3
    (if h.fabricPort p then h1 else h1.streamIn p 1 b.len b.payload).emit (.handshake p (if full then 0xC else 9) b.e)

/-- A packet that passed its checks but is longer than MAX is discarded as babble (R182, R191). -/
def judgeLength (mx : Nat) (q : Packet) : Packet := if q.fault = .good ∧ mx < q.len then { q with fault := .long } else q

/-- DATA packets after an OUT token at the hub as downstream end. -/
def burstDown (p : Nat) (qs : List Packet) (h : Hub) : Hub :=
  let h1 := h.wr (Reg.outToken p) 0
  if h.rd (Reg.outToken p) = 1 then h1.controlOut p qs
  else if h.rd (Reg.outToken p) = 2 then h1.frameOutIn p qs
  else h1.countBurst p qs ⟨0, 0, 0, 0, 0, 0⟩

/-- The SEQ that the upstream end expects of an IN transaction: its own count on endpoint 0, the target's on a split, the endpoint's
otherwise (R187, R190). -/
def expectedSeq (h : Hub) (x : Txn) (qs : List Packet) : Nat :=
  match x.kind with
  | .split _ => (((qs.filter (fun q => q.fault == .good)).head?).map (fun q => q.seq.val)).getD 0
  | _ => if x.ep = 0 then x.first % 16 else h.rd (Reg.seqIn (epIndex x.dev x.ep))

/-- What the packets of an IN transaction make of it (Table 8-3, R187): DATA, a burst of duplicates alone, or one without a packet in
sequence. -/
def burstResult (x : Txn) (e : Nat) (b : Burst) : TxnResult :=
  if b.packets ≠ 0 then .data e b.packets b.len b.payload
  else if b.dups ≠ 0 ∧ x.kind = .poll then .data e 0 0 0
  else .gap

/-- DATA packets at the upstream end (R186, R187, R222): a packet longer than MAX ends the transaction in error; a burst without a valid
packet is no answer; the answer to one whose slot an upstream reset freed is not acknowledged (R243). -/
def burstUp (x : Txn) (qs : List Packet) (ended : Bool) (h : Hub) : Hub :=
  let p := x.port
  let e := h.expectedSeq x qs
  let b := receiveBurst e x.packets qs
  let h1 := h.countBurst p qs b
  let freed := match x.kind with | .split i => h.slots.all (fun s => s.id != i) | _ => false
  if qs.any (fun q => q.fault == .long) then h1.startTxn { x with heard := true, result := some .babble }
  else if qs.all (fun q => q.fault != .good) then h1
  else if freed then h1.startTxn { x with heard := true, result := some .gap }
  else
    let h2 := h1.startTxn { x with heard := true, result := some (burstResult x e b) }
    let h3 := if x.ep = 0 then h2 else h2.wr (Reg.seqIn (epIndex x.dev x.ep)) b.e
    let h3 := if x.kind = .childIn ∧ h.fabricPort p = false then h3.streamIn p x.ep b.len b.payload else h3
    if ended then h3.emit (.handshake p 9 b.e) else h3.wr (Reg.burstAck p) (b.e + 1)

/-- A burst of DATA packets (R187): at the downstream end after an OUT token, at the upstream end the answer to an IN. -/
def burstReceived (p : Nat) (packets : List Packet) (ended : Bool) (h : Hub) : Hub :=
  let qs := packets.map (judgeLength (h.portMax p))
  if h.answersOn p then h.burstDown p qs
  else match h.onWire p with
    | none => h.countBurst p qs ⟨0, 0, 0, 0, 0, 0⟩
    | some x => if x.result.isSome ∨ !x.isIn ∨ h.rd (Od.LINK_CLASS p) = 4 then h.countBurst p qs ⟨0, 0, 0, 0, 0, 0⟩ else h.burstUp x qs ended

/-- No packet carrying END has come within tBurstEnd (R186). -/
def burstEnd (p : Nat) (h : Hub) : Hub :=
  if h.rd (Reg.burstAck p) = 0 then h else (h.emit (.handshake p 9 (h.rd (Reg.burstAck p) - 1))).wr (Reg.burstAck p) 0

/-! ### Handshakes (R183, R185 to R188) -/

/-- The hub's own data of endpoint ep are acknowledged up to NEXT at the downstream end (R187). -/
def acknowledged (p ep n : Nat) (h : Hub) : Hub :=
  if ep = 1 ∧ h.fabricPort p = true then h.fabricMoves p n
  else if ep ≠ 0 then h.wr (Reg.outPk p) (h.rd (Reg.outPk p) + n)
  else match h.controlOf p with
    | none => h
    | some c =>
      if suIn c.setup ∧ suLen c.setup ≠ 0 then
        let got := min c.len (n * h.portMax p)
        let c1 : Control := { c with len := c.len - got, data := c.data / 256 ^ got }
        if n = 0 then h else h.putControl (if c1.len = 0 then { c1 with stage := 3 } else c1)
      else if n = 0 then h
      else
        let h1 := h.endControl p
        if suKind c.setup = 0 ∧ suReq c.setup = 0x05 then h1.takeAddress p (suValue c.setup % 256) else h1

/-- ACK at the hub as downstream end: of the burst it sent last, or of a split's DATA, which frees its slot (R186, R190, R234). -/
def ackDown (p next : Nat) (h : Hub) : Hub :=
  if h.rd (Reg.splitAck p) ≠ 0 then
    ((h.freeSlot (h.rd (Reg.splitAck p) - 1)).inc Od.SPLITS_COMPLETED).wr (Reg.splitAck p) 0
  else if h.rd (Reg.inEp p) = 0 then h
  else
    let ep := h.rd (Reg.inEp p) - 1
    let n := ackedOf (h.rd (Reg.mySend p ep)) next
    if h.rd (Reg.myOut p ep) < n then h
    else ((h.wr (Reg.mySend p ep) next).wr (Reg.inEp p) 0).acknowledged p ep n

/-- A handshake answers the transaction on the wire, or is invalid and handled as none (R185 to R189). -/
def handshakeResult (h : Hub) (x : Txn) (k : Handshake) (next : Nat) : Option TxnResult :=
  match k with
  | .nak => some (.nak next)
  | .stall => some .stall
  | .ack => if x.isIn ∨ (x.kind ≠ .timePing ∧ x.packets < ackedOf x.first next) then none else some (.ack next)
  | .nyet => if x.isIn ∨ x.packets < ackedOf x.first next ∨ h.rd (Od.LINK_CLASS x.port) ≠ 3 then none else some (.nyet next)

/-- The round trip of a PING with TIME gives the cable's delay in units of 8 ns (R177). -/
def roundTrip (p ns : Nat) (h : Hub) : Hub :=
  h.wr (Od.CABLE_DELAY p) (min 65535 ((ns - 4000) / 2 / 8)) |>.wr (Reg.tickSeen p) 1

/-- A handshake (R183): at the upstream end it answers the transaction on the wire; the ACK of a PING with TIME gives the round trip `echo` (R177). -/
def handshakeReceived (p : Nat) (k : Handshake) (next : Nat) (echo : Option Nat) (fault : LineFault) (h : Hub) : Hub :=
  if h.rd (Od.LINK_STATE p) ≠ 4 ∨ h.rd (Od.LINK_CLASS p) = 4 ∨ !h.phyOn p then h
  else if fault ≠ .good then h.countFault p fault
  else
    let h1 := h.heardPackets p 1
    if h1.downstreamEnd p then (match k with | .ack => h1.ackDown p next | _ => h1)
    else match h1.onWire p with
      | none => h1
      | some x =>
        if x.result.isSome then h1
        else match h1.handshakeResult x k next with
          | none => h1.startTxn { x with heard := true }
          | some r =>
            let h2 := h1.startTxn { x with heard := true, result := some r }
            match x.kind, k, echo with
            | .timePing, .ack, some ns => h2.roundTrip p ns
            | _, _, _ => h2

/-- tResponse passes without a valid answer (R188): the transaction is repeated up to three times, then ends in error. A downstream end keeps
its data as unacknowledged. -/
def responseTimeout (p : Nat) (h : Hub) : Hub :=
  if !h.due (Tm.linkResp p) then h
  else if h.answersOn p then h.clear [Reg.inEp p, Reg.splitAck p, Tm.linkResp p]
  else match h.onWire p with
    | none => h
    | some x =>
      if x.result.isSome then h
      else
        let h1 := h.inc (Od.TIMEOUTS p)
        if x.tries < 3 then (h1.inc (Od.RETRIES p)).goTxn { x with tries := x.tries + 1 }
        else h1.startTxn { x with result := some .error }

/-! ### Trunk frames (R201 to R207, R451) -/

/-- The receiver's extended sequence follows a frame it accepted (R450). -/
def trackSeq (u q : Nat) (h : Hub) : Hub := h.wr (Reg.keyRxE u) (h.seqOf u q)

/-- A frame that failed its tag (R451, R452). -/
def tagFailed (u : Nat) (h : Hub) : Hub :=
  let h1 := (h.inc Od.TAG_FAILS).wr (Reg.tagRun u) (h.rd (Reg.tagRun u) + 1)
  if 64 ≤ h1.rd (Reg.tagRun u) then h1.retrainLink (16 + u) else h1

/-- A frame that passed its tag, under the next key where the current one did not pass it (R451). -/
def tagPassed (u : Nat) (next : Bool) (h : Hub) : Hub :=
  let h1 := h.wr (Reg.tagRun u) 0
  let h2 := if next then h1.nextKeyPassed u else h1
  h2.wr (Reg.keyFramesRx u) (h2.rd (Reg.keyFramesRx u) + 1)

/-- A whole frame that passed its checks on a TS link: counted and in sequence, unless the link refuses it for its policy or for the
switch (R202, R207, R448). Link-local CONTROL reaches endpoint 0 without the switch. -/
def frameAccepted (p header : Nat) (h : Hub) : Hub :=
  let h1 := ((h.inc (Od.RX_PACKETS p)).linkSeq p 0 header).trackSeq (p - 16) (hSeq header)
  if hFtype header = 3 ∨ (hFtype header = 2 ∧ hLocal header = true) then h1
  else if h.linkRefuses p header then h1.inc Od.CLEAR_DISCARDED
  else if !h1.switchOn then h1.inc (Od.FRAMES_REFUSED p)
  else h1

/-- A frame has arrived whole (R201): the checks in their order, over the payload bytes as received, the tag where the frame carries one and
the CRC-32; `code` says that a symbol was invalid. On a packet link its packets count as received. -/
def frameReceived (p header len data tag crc : Nat) (poisoned code : Bool) (h : Hub) : Hub :=
  if h.rd (Od.LINK_STATE p) ≠ 4 ∨ !h.phyOn p then h
  else if code then h.linkError p (Od.RX_CODE_ERR p)
  else if withCheck header ≠ header then h.inc (Od.HDR_CHECK_ERR p)
  else if poisoned then h.inc (Od.RX_POISONED p)
  else if !crcPasses header len data tag crc then h.linkError p (Od.RX_CRC_ERR p)
  else if reservedHeader header then h.inc (Od.HDR_CHECK_ERR p)
  else if hEnc header = 1 ∧ (h.trunkActive p = false ∨ h.linkRefuses p header = true) then h.inc Od.TAG_FAILS
  else if !h.trunkActive p then h
  else if hEnc header = 0 then h.frameAccepted p header
  else if h.tagUnder (p - 16) header len data tag (h.linkKeyOf (p - 16)).rxCur then (h.tagPassed (p - 16) false).frameAccepted p header
  else if h.tagUnder (p - 16) header len data tag (h.linkKeyOf (p - 16)).rxNext then (h.tagPassed (p - 16) true).frameAccepted p header
  else h.tagFailed (p - 16)

/-- CREDIT (R204): the cumulative limits of the four classes; CONTROL frames that waited for credit start. -/
def creditReceived (p limits : Nat) (h : Hub) : Hub :=
  if h.trunkActive p then ((List.range 4).foldl (fun x c => x.wr (Reg.crLimit p c) (field limits (2 * c) 2)) h).pumpControl p else h

/-- TICK at the downstream end (R268): a time message once the first ECHO has come. -/
def tickReceived (p time : Nat) (h : Hub) : Hub :=
  if h.trunkActive p && h.downstreamEnd p then
    h.timeMessage p time (if h.rd (Reg.tickSeen p) = 1 then some (h.rd (Od.CABLE_DELAY p) * 8) else none) h.timebase
  else h

/-- PROBE at the upstream end, answered with ECHO (R203). -/
def probeReceived (p t1 : Nat) (h : Hub) : Hub :=
  if h.trunkActive p && h.upstreamEnd p then h.sendLink p 4 (pack [(8, t1), (8, h.timebase), (8, h.timebase)]) else h

/-- ECHO at the downstream end gives the cable's delay in units of 8 ns (R203). -/
def echoReceived (p t1 t2 t3 : Nat) (h : Hub) : Hub :=
  if h.trunkActive p && h.downstreamEnd p then
    h.wr (Od.CABLE_DELAY p) (min 65535 (((h.timebase - t1) - (t3 - t2)) / 2 / 8)) |>.wr (Reg.tickSeen p) 1
  else h

/-- STATUS: the far end's halt reasons (R203). -/
def statusReceived (p v : Nat) (h : Hub) : Hub := if h.trunkActive p then h.wr (Reg.peerHalts p) v else h

/-- CREDIT is sent again 100 µs after the last (R204). -/
def creditTimer (p : Nat) (h : Hub) : Hub :=
  h.expire (Tm.credit p) (fun x =>
    if x.trunkActive p then ((x.sendLink p 1 (x.creditPayload p)).wr (Reg.creditTold p) (x.creditPayload p + 1)).arm (Tm.credit p) (us 100) else x)

/-- STATUS is sent again 100 ms after the last (R203). -/
def statusTimer (p : Nat) (h : Hub) : Hub :=
  h.expire (Tm.status p) (fun x =>
    if x.trunkActive p then ((x.sendLink p 5 x.statusPayload).wr (Reg.statusTold p) (x.statusPayload + 1)).arm (Tm.status p) (ms 100) else x)

/-! ### CONTROL frames (R205) -/

/-- The RESPONSE of a request, by its link and SRC (R205). -/
def storedOf (h : Hub) (port src tag : Nat) : Option StoredResponse :=
  h.stored.find? (fun s => s.port == port && s.src == src && s.tag == tag)

/-- A standard request in a CONTROL frame: whether it is stalled, its IN data, and its effect (R194, R197). SET_ADDRESS needs a link. -/
def standardFrame (port r : Nat) (h : Hub) : Bool × Nat × Nat × Hub :=
  if !standardOk r ∨ (port = 18 ∧ suReq r = 0x05) then (true, 0, 0, h)
  else if suReq r = 0x01 then let c := h.clearHalt port (suIndex r); (c.1, 0, 0, c.2)
  else if suReq r = 0x05 then (false, 0, 0, h.takeAddress port (suValue r % 256))
  else (false, (h.standardData r).1, (h.standardData r).2, h)

/-- A CONTROL REQUEST of `len` bytes (R205): a repeat of the TAG answered last gets the stored RESPONSE, a repeat of one still being served
is ignored, and any other is served. `port` is the trunk of a link-local frame, or 18 for a routed one, whose SRC is `src`. -/
def controlRequest (port src tag len data : Nat) (busy good : Bool) (h : Hub) : Hub :=
  let r := data % 2 ^ 64
  let who := if port = 18 then 0x1000 + src / 4096 else port
  match h.storedOf port src tag with
  | some s => if s.result = 2 then h else h.sendResponse s
  | none =>
    let h1 := { h with stored := ⟨src, port, tag, 2, 0, 0, keyEntry r⟩ :: h.stored }
    let mine (s : StoredResponse) : Bool := s.port == port && s.src == src && s.tag == tag
    let out := len - 8
    if len < 8 ∨ 2 ≤ suKind r ∨ 1016 < suLen r ∨ out ≠ (if suIn r then 0 else suLen r) then h1.answerFrame mine true 0 0
    else if suKind r = 0 then
      let x := h1.standardFrame port r
      x.2.2.2.answerFrame mine x.1 x.2.1 x.2.2.1
    else if !odDirOk r then h1.answerFrame mine true 0 0
    else h1.linkRequest who (suReq r) (suIndex r) (suValue r) (suLen r) (data / 2 ^ 64 % 256 ^ out) busy good false

/-- A link-local CONTROL REQUEST on an ACTIVE TS link, or a routed one at Flint of a hub that has its ID (R205, R284, R333). -/
def controlFrame (port src tag len data : Nat) (busy good : Bool) (h : Hub) : Hub :=
  if port = 18 then (if h.flintOn && h.rd Od.HUB_ID_ASSIGNED == 1 then h.controlRequest 18 src tag len data busy good else h)
  else if h.trunkActive port then h.controlRequest port 0 tag len data busy good
  else h

/-- A CONTROL RESPONSE to a link-local request of the hub's own (R205, R224, R227, R449): of an enumeration transaction, or of a key
exchange. -/
def controlResponse (u tag : Nat) (stall : Bool) (len data : Nat) (h : Hub) : Hub :=
  let p := 16 + u
  if !h.trunkActive p then h
  else match (h.txnOf p).filter (fun x => x.first == tag && x.result.isNone) with
    | some x =>
      let r : TxnResult := if stall then .stall else match x.kind with | .identify => .data 0 1 len (data % 256 ^ len) | _ => .ack 0
      h.startTxn { x with heard := true, result := some r }
    | none => match (h.keyxOf u).filter (fun k => k.upstream && k.tag == tag) with
      | some k => h.keyxAnswer k stall (data % 256 ^ len)
      | none => h

/-! ### Suspend and resume (R208 to R211) -/

/-- The link of the hub as downstream end is SUSPENDED; on the control upstream the ports follow, unless control moves to a standby that is
ACTIVE (R239, R334). -/
def suspendedDown (p : Nat) (h : Hub) : Hub :=
  let h1 := h.linkTo p 5
  if h1.rd Od.CONTROL_UPSTREAM = p ∧ h1.sinkActive (h1.rd Od.STANDBY_UPSTREAM) = false then h1.upstreamSuspended else h1

/-- tSuspend without a packet (R208, at its minimum): an HS link restores its pull-up, and the line reads J or SE0. -/
def suspendDetected (p : Nat) (se0 : Bool) (h : Hub) : Hub :=
  if !h.answersOn p ∨ h.now + 1 < h.rd (Reg.heardAt p) + us 2900 then h
  else
    let h1 := if h.rd (Od.LINK_CLASS p) = 3 then h.restorePull p else h
    if se0 then h1.resetSeen p else h1.suspendedDown p

/-- SUSPEND on a TS link (R211): the downstream end answers it; at the upstream end it is the answer. -/
def suspendFrame (p : Nat) (h : Hub) : Hub := if h.trunkActive p && h.downstreamEnd p then (h.sendLink p 6 0).suspendedDown p else h

/-- The upstream end's K, or /TR1/ on a TS link, at the hub as downstream end of a suspended link (R209, R211). -/
def resumeDetected (p : Nat) (h : Hub) : Hub :=
  if !h.downstreamEnd p ∨ h.rd (Od.LINK_STATE p) ≠ 5 then h
  else
    let h1 := h.linkTo p 6
    if h1.rd (Od.LINK_CLASS p) = 4 then ((h1.wr (Reg.retrain p) 1).emit (.train p 1)).arm (Tm.train p) (ms 11) else h1

/-- tResume of K ends: the EOP, and the first SOF 0.5 ms on at the earliest (R209). -/
def resumeEnd (p : Nat) (h : Hub) : Hub :=
  h.expire (Tm.resumeK p) (fun x => if x.rd (Od.LINK_STATE p) = 6 then (x.emit (.resumeEop p)).arm (Tm.firstSof p) (us 500) else x)

/-- K, or activity on a TS link, at the upstream end (R210, R241, R242): its onset and whether it is still present. -/
def wakeSeen (p onset : Nat) (present : Bool) (h : Hub) : Hub :=
  if !h.upstreamEnd p then h
  else
    let h1 := h.inc (Od.WAKES_RX p)
    if h1.rd (Od.PORT_STATE p) = 6 ∧ h1.rd (Od.WAKE_ENABLE p) = 1 then
      h1.wr (Reg.wakeOnset p) (onset + 1) |>.wr (Reg.wakePresent p) (if present then 1 else 0)
    else if h1.rd (Od.PORT_STATE p) = 7 then h1
    else h1.inc (Od.WAKES_IGNORED p)

end Hub
end Sys2Proof.Machine
end

