-- ==== Sys2Proof/Machine/Link.lean ====
section
/-!
DEFINITION. Sys2Proof/Machine/Link.lean: the Eclin-2 link (chapter 6, R161 to R214).
-/
namespace Sys2Proof.Machine

/-- A data line goes high: D−, or D+. -/
def execPullupDetected (t : Stamp) (p : Cable) (dMinus : Bool) (s : State) : Out := act t s (Hub.pullupSeen p dMinus)

/-- The presence pull-up disappears. -/
def execPullupLost (t : Stamp) (p : Cable) (s : State) : Out := act t s (Hub.pullupGone p)

/-- tConnect is complete. -/
def execConnectDebounceDone (t : Stamp) (p : Cable) (s : State) : Out := act t s (Hub.connected p)

/-- tResetSE0 ends. -/
def execResetSe0End (t : Stamp) (p : Cable) (s : State) : Out := act t s (Hub.offerWindow p)

/-- The hub as downstream end sees SE0 of at least 10 µs. -/
def execLinkResetSeen (t : Stamp) (p : Cable) (s : State) : Out := act t s (Hub.resetSeen p)

/-- An offer has ended: TS, or HS. -/
def execOfferEnd (t : Stamp) (p : Cable) (ts : Bool) (s : State) : Out := act t s (Hub.offerEnd p (if ts then 4 else 3))

/-- tOfferWindow passes. -/
def execOfferWindowEnd (t : Stamp) (p : Cable) (s : State) : Out := act t s (Hub.offerWindowEnd p)

/-- The downstream end has counted the runs of a grant. -/
def execGrantReceived (t : Stamp) (p : Cable) (runs : Nat) (s : State) : Out := act t s (Hub.grantSeen p runs)

/-- Training symbols were received: step 2 of R172 with the polarity found, or step 3, `active`. -/
def execTrainingLocked (t : Stamp) (p : Cable) (active inverted inverted2 : Bool) (s : State) : Out :=
  act t s (Hub.trained p active inverted inverted2)

/-- tTrain passes. -/
def execTrainTimeout (t : Stamp) (p : Cable) (s : State) : Out := act t s (Hub.trainTimeout p)

/-- A boundary of the timing grid at a port that sends. -/
def execSofBoundary (t : Stamp) (p : Cable) (s : State) : Out := act t s (Hub.sofBoundary p)

/-- OUT, IN or PING arrives at the hub as downstream end: DEV, EP, COUNT and TIME of Table 6-7. -/
def execTokenReceived (t : Stamp) (p : Cable) (k : Token) (dev : Byte) (ep : Fin 16) (count : Fin 8) (time : Bool) (fault : LineFault)
    (s : State) : Out :=
  act t s (Hub.tokenReceived p k dev.toNat ep count time fault)

/-- PING with TIME arrives at the hub as downstream end. -/
def execPingTimeEcho (t : Stamp) (p : Cable) (s : State) : Out := act t s (Hub.timeEcho p)

/-- SOF arrives at the hub as downstream end: the body of Table 6-8. -/
def execSofReceived (t : Stamp) (p : Cable) (body : BitVec 96) (fault : LineFault) (s : State) : Out :=
  act t s (Hub.sofReceived p body.toNat fault)

/-- A burst of DATA packets; `ended` says that a packet carrying END came. -/
def execDataBurstReceived (t : Stamp) (p : Cable) (packets : List Packet) (ended : Bool) (s : State) : Out :=
  act t s (Hub.burstReceived p packets ended)

/-- A handshake with NEXT; `echo` is the round trip in ns when it answers a PING with TIME. -/
def execHandshakeReceived (t : Stamp) (p : Cable) (k : Handshake) (next : Fin 16) (echo : Option Nat) (fault : LineFault) (s : State) : Out :=
  act t s (Hub.handshakeReceived p k next echo fault)

/-- tResponse passes without a valid answer. -/
def execLinkResponseTimeout (t : Stamp) (p : Cable) (s : State) : Out := act t s (Hub.responseTimeout p)

/-- SETUP and its record arrive. -/
def execSetupReceived (t : Stamp) (p : Cable) (dev : Byte) (record : BitVec 64) (fault : LineFault) (s : State) : Out :=
  act t s (Hub.setupReceived p dev.toNat record.toNat fault)

/-- GET_STATUS on a link whose downstream end the hub is, with INDEX: the answer, or STALL for an endpoint it does not have. -/
def execGetStatus (t : Stamp) (p : Cable) (index : BitVec 16) (s : State) : Out :=
  act t s (fun h =>
    if !h.answersOn p then h
    else match Hub.haltKey index.toNat with | none => h.sendStall p | some k => h.emit (.controlData p 4 (h.statusOf k)))

/-- CLEAR_HALT at its status stage. -/
def execClearHalt (t : Stamp) (p : Cable) (index : BitVec 16) (s : State) : Out :=
  act t s (fun h =>
    if !h.answersOn p then h
    else let x := h.clearHalt p index.toNat; if x.1 then x.2.sendStall p else x.2.emit (.controlData p 0 0))

/-- SET_ADDRESS whose status packet is acknowledged: the new address; a reserved one is stalled. -/
def execSetAddress (t : Stamp) (p : Cable) (addr : BitVec 16) (s : State) : Out :=
  act t s (fun h =>
    if !h.answersOn p then h
    else if 1 ≤ addr.toNat ∧ addr.toNat ≤ 254 then (h.takeAddress p addr.toNat).emit (.controlData p 0 0) else h.sendStall p)

/-- IDENTIFY. -/
def execIdentify (t : Stamp) (p : Cable) (s : State) : Out :=
  act t s (fun h => if h.answersOn p then h.emit (.controlData p 32 h.identifyRecord) else h)

/-- A frame has arrived whole: its header, its payload bytes as received, its tag where it carries one, its CRC-32, whether it ended poisoned, and
whether a symbol of it was invalid. -/
def execTrunkFrameReceived (t : Stamp) (p : Cable) (header : BitVec 128) (len data : Nat) (tag : BitVec 128) (crc : Word) (poisoned code : Bool)
    (s : State) : Out :=
  act t s (Hub.frameReceived p header.toNat len (data % 256 ^ len) tag.toNat crc.toNat poisoned code)

/-- CREDIT: four U16 limits. -/
def execLinkCredit (t : Stamp) (u : Trunk) (limits : BitVec 64) (s : State) : Out := act t s (Hub.creditReceived u.port limits.toNat)

/-- TICK: its TIME64. -/
def execLinkTick (t : Stamp) (u : Trunk) (time : BitVec 64) (s : State) : Out := act t s (Hub.tickReceived u.port time.toNat)

/-- PROBE: T1. -/
def execLinkProbe (t : Stamp) (u : Trunk) (t1 : BitVec 64) (s : State) : Out := act t s (Hub.probeReceived u.port t1.toNat)

/-- ECHO: T1, T2 and T3. -/
def execLinkEcho (t : Stamp) (u : Trunk) (t1 t2 t3 : BitVec 64) (s : State) : Out :=
  act t s (Hub.echoReceived u.port t1.toNat t2.toNat t3.toNat)

/-- STATUS: four halt reasons. -/
def execLinkStatus (t : Stamp) (u : Trunk) (reasons : BitVec 32) (s : State) : Out := act t s (Hub.statusReceived u.port reasons.toNat)

/-- SUSPEND. -/
def execLinkSuspend (t : Stamp) (u : Trunk) (s : State) : Out := act t s (Hub.suspendFrame u.port)

/-- RESET on a TS link. -/
def execLinkResetFrame (t : Stamp) (u : Trunk) (s : State) : Out :=
  act t s (fun h => if h.rd (Od.LINK_CLASS u.port) = 4 then h.resetSeen u.port else h)

/-- 100 µs pass since the last CREDIT. -/
def execCreditTimer (t : Stamp) (u : Trunk) (s : State) : Out := act t s (Hub.creditTimer u.port)

/-- 100 ms pass since the last STATUS. -/
def execLinkStatusTimer (t : Stamp) (u : Trunk) (s : State) : Out := act t s (Hub.statusTimer u.port)

/-- A CONTROL REQUEST: link-local on a trunk, or routed from SRC; its TAG, and its payload of `len` bytes. -/
def execControlFrameRequest (t : Stamp) (link : Option Trunk) (src : BitVec 24) (tag : BitVec 16) (len data : Nat) (busy good : Bool) (s : State) : Out :=
  act t s (Hub.controlFrame (match link with | some u => u.port | none => 18) src.toNat tag.toNat len (data % 256 ^ len) busy good)

/-- A TS receiver loses lock. -/
def execLossOfLock (t : Stamp) (u : Trunk) (s : State) : Out := act t s (Hub.trunkLockLost u.port)

/-- tSuspend without a packet: the line reads SE0, or J. -/
def execSuspendDetected (t : Stamp) (p : Cable) (se0 : Bool) (s : State) : Out := act t s (Hub.suspendDetected p se0)

/-- tResume of driven K ends. -/
def execResumeKEnd (t : Stamp) (p : Cable) (s : State) : Out := act t s (Hub.resumeEnd p)

/-- K, or activity on a TS link: the instant of its onset on the hub's clock, and whether it is still present. -/
def execWakeDetected (t : Stamp) (p : Cable) (onset : Stamp) (present : Bool) (s : State) : Out := act t s (Hub.wakeSeen p onset present)

/-- SE0 ends at the hub as downstream end. -/
def execSe0Ended (t : Stamp) (p : Cable) (s : State) : Out := act t s (Hub.makeOffer p)

/-- 1 ms passes without a valid symbol at the downstream end of a TS link. -/
def execNoValidSymbolTimeout (t : Stamp) (u : Trunk) (s : State) : Out := act t s (Hub.noSymbol u.port)

/-- tBurstEnd passes without a packet carrying END. -/
def execBurstEndTimeout (t : Stamp) (p : Cable) (s : State) : Out := act t s (Hub.burstEnd p)

/-- A CONTROL RESPONSE to a link-local request of the hub's own: TAG, RESULT, and its data. -/
def execControlResponseReceived (t : Stamp) (u : Trunk) (tag : BitVec 16) (stall : Bool) (len data : Nat) (s : State) : Out :=
  act t s (Hub.controlResponse u.val tag.toNat stall len data)

/-- The upstream end's resume is seen. -/
def execResumeDetected (t : Stamp) (p : Cable) (s : State) : Out := act t s (Hub.resumeDetected p)

end Sys2Proof.Machine
end

