-- ==== Sys2Proof/Machine/Dispatch.lean ====
section
/-!
DEFINITION. Sys2Proof/Machine/Dispatch.lean: one arm for each command.
-/
namespace Sys2Proof.Machine

def exec (i : Instr) (s : State) : Host.Outcome State Fault Refusal :=
  match i with
  | .fastTrip t p m peak busy ovr => Sys2Proof.Machine.execFastTrip t p m peak busy ovr s
  | .activeLimitingEntry t p left m => Sys2Proof.Machine.execActiveLimitingEntry t p left m s
  | .timedLimitTrip t p last m peak busy ovr => Sys2Proof.Machine.execTimedLimitTrip t p last m peak busy ovr s
  | .limitingGuardTrip t p last m peak busy ovr => Sys2Proof.Machine.execLimitingGuardTrip t p last m peak busy ovr s
  | .reverseTrip t p since m peak busy ovr => Sys2Proof.Machine.execReverseTrip t p since m peak busy ovr s
  | .retryHoldoffExpiry t p => Sys2Proof.Machine.execRetryHoldoffExpiry t p s
  | .dischargeComplete t p m => Sys2Proof.Machine.execDischargeComplete t p m s
  | .vbusBelow5v t p m => Sys2Proof.Machine.execVbusBelow5v t p m s
  | .dischargeTimeout t p m => Sys2Proof.Machine.execDischargeTimeout t p m s
  | .inrushSettled t p since m => Sys2Proof.Machine.execInrushSettled t p since m s
  | .powerCmdOff t p => Sys2Proof.Machine.execPowerCmdOff t p s
  | .powerCmdRestoreDefault t p m => Sys2Proof.Machine.execPowerCmdRestoreDefault t p m s
  | .limitSetWrite t p v => Sys2Proof.Machine.execLimitSetWrite t p v s
  | .ocGroupAssert t g => Sys2Proof.Machine.execOcGroupAssert t g s
  | .ocGroupRelease t g => Sys2Proof.Machine.execOcGroupRelease t g s
  | .budgetTick t => Sys2Proof.Machine.execBudgetTick t s
  | .screenReading t p r mean m => Sys2Proof.Machine.execScreenReading t p r mean m s
  | .hourlyMean t p r overlap => Sys2Proof.Machine.execHourlyMean t p r overlap s
  | .forcedMonitorSlot t p => Sys2Proof.Machine.execForcedMonitorSlot t p s
  | .tdrTraceComplete t p trace echoes => Sys2Proof.Machine.execTdrTraceComplete t p trace echoes s
  | .tdrIntervalExpiry t p => Sys2Proof.Machine.execTdrIntervalExpiry t p s
  | .tdrStart t p => Sys2Proof.Machine.execTdrStart t p s
  | .tripLocationTrace t p => Sys2Proof.Machine.execTripLocationTrace t p s
  | .captureBaseline t p => Sys2Proof.Machine.execCaptureBaseline t p s
  | .probeStart t p => Sys2Proof.Machine.execProbeStart t p s
  | .probePhaseEnd t p v cur m => Sys2Proof.Machine.execProbePhaseEnd t p v cur m s
  | .sniffSample t p cf1 cf2 => Sys2Proof.Machine.execSniffSample t p cf1 cf2 s
  | .classifyStageEnd t p v => Sys2Proof.Machine.execClassifyStageEnd t p v s
  | .attachDebounceDone t p => Sys2Proof.Machine.execAttachDebounceDone t p s
  | .candidateBackoffEnd t p cf1 cf2 => Sys2Proof.Machine.execCandidateBackoffEnd t p cf1 cf2 s
  | .togglePhaseEnd t p => Sys2Proof.Machine.execTogglePhaseEnd t p s
  | .tryDebounceDone t p => Sys2Proof.Machine.execTryDebounceDone t p s
  | .tryTimeout t p => Sys2Proof.Machine.execTryTimeout t p s
  | .tryWaitTimeout t p => Sys2Proof.Machine.execTryWaitTimeout t p s
  | .detach t p opened => Sys2Proof.Machine.execDetach t p opened s
  | .cfOvervoltage t p mv since => Sys2Proof.Machine.execCfOvervoltage t p mv since s
  | .attachRelease t p => Sys2Proof.Machine.execAttachRelease t p s
  | .cfMessageReceived t p header objs crc pre => Sys2Proof.Machine.execCfMessageReceived t p header objs crc pre s
  | .goodAckReceived t p id tag => Sys2Proof.Machine.execGoodAckReceived t p id tag s
  | .cfReceiveTimeout t p mv busy => Sys2Proof.Machine.execCfReceiveTimeout t p mv busy s
  | .hardResetReceived t p => Sys2Proof.Machine.execHardResetReceived t p s
  | .holdLeadExpiry t p busy => Sys2Proof.Machine.execHoldLeadExpiry t p busy s
  | .waitRetryExpiry t p type busy => Sys2Proof.Machine.execWaitRetryExpiry t p type busy s
  | .newExchangeStart t p mv busy => Sys2Proof.Machine.execNewExchangeStart t p mv busy s
  | .cfAnswerNewExchange t p type dest numDo objs busy => Sys2Proof.Machine.execCfAnswerNewExchange t p type dest numDo objs busy s
  | .cfAnswerAnswer t p type dest numDo ref fallback objs m busy => Sys2Proof.Machine.execCfAnswerAnswer t p type dest numDo ref fallback objs m busy s
  | .cfAnswerHardReset t p busy => Sys2Proof.Machine.execCfAnswerHardReset t p busy s
  | .answerDeadline t p busy => Sys2Proof.Machine.execAnswerDeadline t p busy s
  | .firstCapsExpiry t p busy => Sys2Proof.Machine.execFirstCapsExpiry t p busy s
  | .sinkRequestTimeout t p busy => Sys2Proof.Machine.execSinkRequestTimeout t p busy s
  | .responseTimeout t p busy => Sys2Proof.Machine.execResponseTimeout t p busy s
  | .readyWaitTimeout t p busy => Sys2Proof.Machine.execReadyWaitTimeout t p busy s
  | .moveRailReached t p m => Sys2Proof.Machine.execMoveRailReached t p m s
  | .moveSettled t p since m => Sys2Proof.Machine.execMoveSettled t p since m s
  | .slewGuardAbort t p since m busy ovr => Sys2Proof.Machine.execSlewGuardAbort t p since m busy ovr s
  | .transitionDetachAbort t p m ovr => Sys2Proof.Machine.execTransitionDetachAbort t p m ovr s
  | .detachGlitch t p busy => Sys2Proof.Machine.execDetachGlitch t p busy s
  | .srcRecoverExpiry t p m => Sys2Proof.Machine.execSrcRecoverExpiry t p m s
  | .softResetReceived t p id pre => Sys2Proof.Machine.execSoftResetReceived t p id pre s
  | .cfsFault t p => Sys2Proof.Machine.execCfsFault t p s
  | .cfsRestart t p => Sys2Proof.Machine.execCfsRestart t p s
  | .cfsEnableWrite t p v => Sys2Proof.Machine.execCfsEnableWrite t p v s
  | .cfsStable t p => Sys2Proof.Machine.execCfsStable t p s
  | .serialFrameClose t p flags count first chars => Sys2Proof.Machine.execSerialFrameClose t p flags count first chars s
  | .serialTxStart t p => Sys2Proof.Machine.execSerialTxStart t p s
  | .lineTestTrace t p trace loop => Sys2Proof.Machine.execLineTestTrace t p trace loop s
  | .pullupDetected t p dMinus => Sys2Proof.Machine.execPullupDetected t p dMinus s
  | .pullupLost t p => Sys2Proof.Machine.execPullupLost t p s
  | .connectDebounceDone t p => Sys2Proof.Machine.execConnectDebounceDone t p s
  | .resetSe0End t p => Sys2Proof.Machine.execResetSe0End t p s
  | .linkResetSeen t p => Sys2Proof.Machine.execLinkResetSeen t p s
  | .offerEnd t p ts => Sys2Proof.Machine.execOfferEnd t p ts s
  | .offerWindowEnd t p => Sys2Proof.Machine.execOfferWindowEnd t p s
  | .grantReceived t p runs => Sys2Proof.Machine.execGrantReceived t p runs s
  | .trainingLocked t p active inverted inverted2 => Sys2Proof.Machine.execTrainingLocked t p active inverted inverted2 s
  | .trainTimeout t p => Sys2Proof.Machine.execTrainTimeout t p s
  | .sofBoundary t p => Sys2Proof.Machine.execSofBoundary t p s
  | .tokenReceived t p k dev ep count time fault => Sys2Proof.Machine.execTokenReceived t p k dev ep count time fault s
  | .pingTimeEcho t p => Sys2Proof.Machine.execPingTimeEcho t p s
  | .sofReceived t p body fault => Sys2Proof.Machine.execSofReceived t p body fault s
  | .dataBurstReceived t p packets ended => Sys2Proof.Machine.execDataBurstReceived t p packets ended s
  | .handshakeReceived t p k next echo fault => Sys2Proof.Machine.execHandshakeReceived t p k next echo fault s
  | .linkResponseTimeout t p => Sys2Proof.Machine.execLinkResponseTimeout t p s
  | .setupReceived t p dev record fault => Sys2Proof.Machine.execSetupReceived t p dev record fault s
  | .getStatus t p index => Sys2Proof.Machine.execGetStatus t p index s
  | .clearHalt t p index => Sys2Proof.Machine.execClearHalt t p index s
  | .setAddress t p addr => Sys2Proof.Machine.execSetAddress t p addr s
  | .identify t p => Sys2Proof.Machine.execIdentify t p s
  | .trunkFrameReceived t p header len data tag crc poisoned code => Sys2Proof.Machine.execTrunkFrameReceived t p header len data tag crc poisoned code s
  | .linkCredit t u limits => Sys2Proof.Machine.execLinkCredit t u limits s
  | .linkTick t u time => Sys2Proof.Machine.execLinkTick t u time s
  | .linkProbe t u t1 => Sys2Proof.Machine.execLinkProbe t u t1 s
  | .linkEcho t u t1 t2 t3 => Sys2Proof.Machine.execLinkEcho t u t1 t2 t3 s
  | .linkStatus t u reasons => Sys2Proof.Machine.execLinkStatus t u reasons s
  | .linkSuspend t u => Sys2Proof.Machine.execLinkSuspend t u s
  | .linkResetFrame t u => Sys2Proof.Machine.execLinkResetFrame t u s
  | .creditTimer t u => Sys2Proof.Machine.execCreditTimer t u s
  | .linkStatusTimer t u => Sys2Proof.Machine.execLinkStatusTimer t u s
  | .controlFrameRequest t link src tag len data busy good => Sys2Proof.Machine.execControlFrameRequest t link src tag len data busy good s
  | .lossOfLock t u => Sys2Proof.Machine.execLossOfLock t u s
  | .suspendDetected t p se0 => Sys2Proof.Machine.execSuspendDetected t p se0 s
  | .resumeKEnd t p => Sys2Proof.Machine.execResumeKEnd t p s
  | .wakeDetected t p onset present => Sys2Proof.Machine.execWakeDetected t p onset present s
  | .portCmdDisable t p => Sys2Proof.Machine.execPortCmdDisable t p s
  | .portCmdEnable t p => Sys2Proof.Machine.execPortCmdEnable t p s
  | .portCmdReset t p => Sys2Proof.Machine.execPortCmdReset t p s
  | .portCmdSuspend t p => Sys2Proof.Machine.execPortCmdSuspend t p s
  | .portCmdResume t p => Sys2Proof.Machine.execPortCmdResume t p s
  | .hubPortTurn t p activity => Sys2Proof.Machine.execHubPortTurn t p activity s
  | .portTransactionEnd t p => Sys2Proof.Machine.execPortTransactionEnd t p s
  | .babbleDetected t p => Sys2Proof.Machine.execBabbleDetected t p s
  | .enumStart t p => Sys2Proof.Machine.execEnumStart t p s
  | .deliveryTimeout t p => Sys2Proof.Machine.execDeliveryTimeout t p s
  | .splitStartToken t u body seq len data => Sys2Proof.Machine.execSplitStartToken t u body seq len data s
  | .splitCompleteToken t u body => Sys2Proof.Machine.execSplitCompleteToken t u body s
  | .splitRequestFrame t src cls len payload => Sys2Proof.Machine.execSplitRequestFrame t src cls len payload s
  | .splitRunTimeout t slot => Sys2Proof.Machine.execSplitRunTimeout t slot s
  | .splitHoldExpiry t slot => Sys2Proof.Machine.execSplitHoldExpiry t slot s
  | .resumeListenEnd t p => Sys2Proof.Machine.execResumeListenEnd t p s
  | .wakeTaken t p => Sys2Proof.Machine.execWakeTaken t p s
  | .upstreamResumed t => Sys2Proof.Machine.execUpstreamResumed t s
  | .upstreamReset t => Sys2Proof.Machine.execUpstreamReset t s
  | .managerPathOn t => Sys2Proof.Machine.execManagerPathOn t s
  | .pollEntryWrite t e v => Sys2Proof.Machine.execPollEntryWrite t e v s
  | .microframeStart t => Sys2Proof.Machine.execMicroframeStart t s
  | .pollComplete t p => Sys2Proof.Machine.execPollComplete t p s
  | .reportWindowEnd t => Sys2Proof.Machine.execReportWindowEnd t s
  | .quartzStart t => Sys2Proof.Machine.execQuartzStart t s
  | .quartzStop t => Sys2Proof.Machine.execQuartzStop t s
  | .quartzPause t => Sys2Proof.Machine.execQuartzPause t s
  | .timeSet t v => Sys2Proof.Machine.execTimeSet t v s
  | .timeTrim t v => Sys2Proof.Machine.execTimeTrim t v s
  | .probeIntervalExpiry t p => Sys2Proof.Machine.execProbeIntervalExpiry t p s
  | .syncMessageTimeout t => Sys2Proof.Machine.execSyncMessageTimeout t s
  | .timebaseSlewTick t => Sys2Proof.Machine.execTimebaseSlewTick t s
  | .timebaseStep t => Sys2Proof.Machine.execTimebaseStep t s
  | .frameHeaderReceived t p header payload named => Sys2Proof.Machine.execFrameHeaderReceived t p header payload named s
  | .frameVerdict t p ep len data tag crc fin => Sys2Proof.Machine.execFrameVerdict t p ep len data tag crc fin s
  | .egressCopyStart t p cutReady => Sys2Proof.Machine.execEgressCopyStart t p cutReady s
  | .egressCopyEnd t p => Sys2Proof.Machine.execEgressCopyEnd t p s
  | .cutStallTimeout t p => Sys2Proof.Machine.execCutStallTimeout t p s
  | .eccError t bank cell double => Sys2Proof.Machine.execEccError t bank cell double s
  | .rejoinHoldExpiry t p => Sys2Proof.Machine.execRejoinHoldExpiry t p s
  | .publish t => Sys2Proof.Machine.execPublish t s
  | .publishEffect t => Sys2Proof.Machine.execPublishEffect t s
  | .revert t => Sys2Proof.Machine.execRevert t s
  | .ringClear t => Sys2Proof.Machine.execRingClear t s
  | .auditStart t => Sys2Proof.Machine.execAuditStart t s
  | .auditComplete t orphans doubles => Sys2Proof.Machine.execAuditComplete t orphans doubles s
  | .assign t via v => Sys2Proof.Machine.execAssign t via v s
  | .releaseId t => Sys2Proof.Machine.execReleaseId t s
  | .relayRequest t src len payload => Sys2Proof.Machine.execRelayRequest t src len payload s
  | .relayChildAnswer t p stall len data => Sys2Proof.Machine.execRelayChildAnswer t p stall len data s
  | .relayTimeout t p => Sys2Proof.Machine.execRelayTimeout t p s
  | .controlUpstreamLost t => Sys2Proof.Machine.execControlUpstreamLost t s
  | .standbyUp t u => Sys2Proof.Machine.execStandbyUp t u s
  | .reconnected t u => Sys2Proof.Machine.execReconnected t u s
  | .noticeReceived t p len payload => Sys2Proof.Machine.execNoticeReceived t p len payload s
  | .noticeSendOnChange t => Sys2Proof.Machine.execNoticeSendOnChange t s
  | .noticeTimer t => Sys2Proof.Machine.execNoticeTimer t s
  | .noticesExpired t p => Sys2Proof.Machine.execNoticesExpired t p s
  | .helloTimer t => Sys2Proof.Machine.execHelloTimer t s
  | .helloReceived t p node serial heard => Sys2Proof.Machine.execHelloReceived t p node serial heard s
  | .neighbourHoldExpiry t p => Sys2Proof.Machine.execNeighbourHoldExpiry t p s
  | .lsaOriginate t => Sys2Proof.Machine.execLsaOriginate t s
  | .lsaReceived t p node seq serial links => Sys2Proof.Machine.execLsaReceived t p node seq serial links s
  | .lsaAckReceived t p node seq => Sys2Proof.Machine.execLsaAckReceived t p node seq s
  | .lsaRetransmit t p node => Sys2Proof.Machine.execLsaRetransmit t p node s
  | .lsaLifetimeExpiry t node => Sys2Proof.Machine.execLsaLifetimeExpiry t node s
  | .pathCompute t => Sys2Proof.Machine.execPathCompute t s
  | .fabricDataReceived t p header payload => Sys2Proof.Machine.execFabricDataReceived t p header payload s
  | .fabricEventReceived t p header payload => Sys2Proof.Machine.execFabricEventReceived t p header payload s
  | .mcastDiscard t p => Sys2Proof.Machine.execMcastDiscard t p s
  | .gatewayTreeFrame t header payload => Sys2Proof.Machine.execGatewayTreeFrame t header payload s
  | .odRead t who idx val len => Sys2Proof.Machine.execOdRead t who idx val len s
  | .odWrite t who idx val len data busy good => Sys2Proof.Machine.execOdWrite t who idx val len data busy good s
  | .odBegin t who idx val len data => Sys2Proof.Machine.execOdBegin t who idx val len data s
  | .odCommit t who idx val len data => Sys2Proof.Machine.execOdCommit t who idx val len data s
  | .odAbort t who idx val len data => Sys2Proof.Machine.execOdAbort t who idx val len data s
  | .odStatus t who => Sys2Proof.Machine.execOdStatus t who s
  | .odDescribe t who idx val => Sys2Proof.Machine.execOdDescribe t who idx val s
  | .commitPoint t busy good => Sys2Proof.Machine.execCommitPoint t busy good s
  | .applyEnd t => Sys2Proof.Machine.execApplyEnd t s
  | .txnIdleExpiry t who => Sys2Proof.Machine.execTxnIdleExpiry t who s
  | .registerWrite t idx sub len v owner busy good => Sys2Proof.Machine.execRegisterWrite t idx sub len v owner busy good s
  | .save t => Sys2Proof.Machine.execSave t s
  | .saveComplete t first second => Sys2Proof.Machine.execSaveComplete t first second s
  | .factoryDefaults t => Sys2Proof.Machine.execFactoryDefaults t s
  | .clearStore t => Sys2Proof.Machine.execClearStore t s
  | .fullReset t => Sys2Proof.Machine.execFullReset t s
  | .fullResetDelay t => Sys2Proof.Machine.execFullResetDelay t s
  | .readStatus t n => Sys2Proof.Machine.execReadStatus t n s
  | .winRead t idx sub word count => Sys2Proof.Machine.execWinRead t idx sub word count s
  | .winWrite t idx sub word words => Sys2Proof.Machine.execWinWrite t idx sub word words s
  | .odRequest t bytes => Sys2Proof.Machine.execOdRequest t bytes s
  | .odResponseReady t => Sys2Proof.Machine.execOdResponseReady t s
  | .odResponse t offset n => Sys2Proof.Machine.execOdResponse t offset n s
  | .fifoRead t sel n => Sys2Proof.Machine.execFifoRead t sel n s
  | .fifoWrite t words => Sys2Proof.Machine.execFifoWrite t words s
  | .enterQuad t => Sys2Proof.Machine.execEnterQuad t s
  | .exitQuad t => Sys2Proof.Machine.execExitQuad t s
  | .badCommand t => Sys2Proof.Machine.execBadCommand t s
  | .domainCmd t v => Sys2Proof.Machine.execDomainCmd t v s
  | .domainCancel t => Sys2Proof.Machine.execDomainCancel t s
  | .armedUpstreamTrigger t => Sys2Proof.Machine.execArmedUpstreamTrigger t s
  | .armedHostSelectTrigger t => Sys2Proof.Machine.execArmedHostSelectTrigger t s
  | .sequencerVisit t => Sys2Proof.Machine.execSequencerVisit t s
  | .domainDelayEnd t => Sys2Proof.Machine.execDomainDelayEnd t s
  | .lfCrystalLoss t => Sys2Proof.Machine.execLfCrystalLoss t s
  | .clockGood t c => Sys2Proof.Machine.execClockGood t c s
  | .clockStartTimeout t => Sys2Proof.Machine.execClockStartTimeout t s
  | .clockLockLoss t trunkRef => Sys2Proof.Machine.execClockLockLoss t trunkRef s
  | .fwLoadComplete t => Sys2Proof.Machine.execFwLoadComplete t s
  | .attestNonce t v => Sys2Proof.Machine.execAttestNonce t v s
  | .ownerClaim t v => Sys2Proof.Machine.execOwnerClaim t v s
  | .transfer t v => Sys2Proof.Machine.execTransfer t v s
  | .transferDeadline t => Sys2Proof.Machine.execTransferDeadline t s
  | .slotInstall t slot key => Sys2Proof.Machine.execSlotInstall t slot key s
  | .slotRevoke t slot => Sys2Proof.Machine.execSlotRevoke t slot s
  | .sessionOpen t v => Sys2Proof.Machine.execSessionOpen t v s
  | .sessionClose t writer id => Sys2Proof.Machine.execSessionClose t writer id s
  | .sessionIdleExpiry t id => Sys2Proof.Machine.execSessionIdleExpiry t id s
  | .fwWriteData t v good => Sys2Proof.Machine.execFwWriteData t v good s
  | .eraseInactive t => Sys2Proof.Machine.execEraseInactive t s
  | .checkInactive t => Sys2Proof.Machine.execCheckInactive t s
  | .fwCheckComplete t => Sys2Proof.Machine.execFwCheckComplete t s
  | .preferInactive t => Sys2Proof.Machine.execPreferInactive t s
  | .commitSvn t => Sys2Proof.Machine.execCommitSvn t s
  | .keyxStart t u => Sys2Proof.Machine.execKeyxStart t u s
  | .linkKeyxAgree t u body => Sys2Proof.Machine.execLinkKeyxAgree t u body s
  | .linkKeyxRekey t u body => Sys2Proof.Machine.execLinkKeyxRekey t u body s
  | .keyxReplyReady t u cert ca => Sys2Proof.Machine.execKeyxReplyReady t u cert ca s
  | .rekeyDue t u => Sys2Proof.Machine.execRekeyDue t u s
  | .keyAgreeTimeout t u => Sys2Proof.Machine.execKeyAgreeTimeout t u s
  | .keyxRetryTimer t u => Sys2Proof.Machine.execKeyxRetryTimer t u s
  | .zeroise t => Sys2Proof.Machine.execZeroise t s
  | .faultReport t src detail value => Sys2Proof.Machine.execFaultReport t src detail value s
  | .linkErrorBurstWindow t => Sys2Proof.Machine.execLinkErrorBurstWindow t s
  | .tempThreshold t powerDie v => Sys2Proof.Machine.execTempThreshold t powerDie v s
  | .supplyLow t aux mv => Sys2Proof.Machine.execSupplyLow t aux mv s
  | .railLost t rail => Sys2Proof.Machine.execRailLost t rail s
  | .dieLinkLost t => Sys2Proof.Machine.execDieLinkLost t s
  | .lockstep t => Sys2Proof.Machine.execLockstep t s
  | .watchdog t => Sys2Proof.Machine.execWatchdog t s
  | .nvReadError t row => Sys2Proof.Machine.execNvReadError t row s
  | .faultAck t v => Sys2Proof.Machine.execFaultAck t v s
  | .safeExit t => Sys2Proof.Machine.execSafeExit t s
  | .sourceForce t id level => Sys2Proof.Machine.execSourceForce t id level s
  | .sourceLevelWrite t id level => Sys2Proof.Machine.execSourceLevelWrite t id level s
  | .shadowExpiry t => Sys2Proof.Machine.execShadowExpiry t s
  | .bankCopyDone t b => Sys2Proof.Machine.execBankCopyDone t b s
  | .bankMarchDone t b lasting => Sys2Proof.Machine.execBankMarchDone t b lasting s
  | .coreTestDone t ok0 ok1 ok2 => Sys2Proof.Machine.execCoreTestDone t ok0 ok1 ok2 s
  | .loopbackDone t p bitError => Sys2Proof.Machine.execLoopbackDone t p bitError s
  | .nvRereadDone t row clean correctable copy => Sys2Proof.Machine.execNvRereadDone t row clean correctable copy s
  | .repairMapSaved t => Sys2Proof.Machine.execRepairMapSaved t s
  | .l5ResetDelay t => Sys2Proof.Machine.execL5ResetDelay t s
  | .vinPowerOn t => Sys2Proof.Machine.execVinPowerOn t s
  | .brownout t => Sys2Proof.Machine.execBrownout t s
  | .rstNReset t => Sys2Proof.Machine.execRstNReset t s
  | .bootStageComplete t cfgA cfgB secA secB mapA mapB => Sys2Proof.Machine.execBootStageComplete t cfgA cfgB secA secB mapA mapB s
  | .lfCrystalGood t => Sys2Proof.Machine.execLfCrystalGood t s
  | .lfCrystalStartTimeout t => Sys2Proof.Machine.execLfCrystalStartTimeout t s
  | .holdDetach t p opened => Sys2Proof.Machine.execHoldDetach t p opened s
  | .powerDieAnswer t wires => Sys2Proof.Machine.execPowerDieAnswer t wires s
  | .vauxLockout t => Sys2Proof.Machine.execVauxLockout t s
  | .powerDieResetReport t => Sys2Proof.Machine.execPowerDieResetReport t s
  | .upstreamPullup t u => Sys2Proof.Machine.execUpstreamPullup t u s
  | .sourcePresent t p v => Sys2Proof.Machine.execSourcePresent t p v s
  | .rdSeen t p cf1 cf2 => Sys2Proof.Machine.execRdSeen t p cf1 cf2 s
  | .se0Ended t p => Sys2Proof.Machine.execSe0Ended t p s
  | .noValidSymbolTimeout t u => Sys2Proof.Machine.execNoValidSymbolTimeout t u s
  | .burstEndTimeout t p => Sys2Proof.Machine.execBurstEndTimeout t p s
  | .identityDerived t => Sys2Proof.Machine.execIdentityDerived t s
  | .controlResponseReceived t u tag stall len data => Sys2Proof.Machine.execControlResponseReceived t u tag stall len data s
  | .dieLinkRestored t => Sys2Proof.Machine.execDieLinkRestored t s
  | .resumeDetected t p => Sys2Proof.Machine.execResumeDetected t p s

end Sys2Proof.Machine
end

