-- ==== Sys2Proof/Safety.lean ====
section
/-!
DEFINITION. Sys2Proof/Safety.lean: what counts as a sound state of the hub, in the terms the statements use.
-/
namespace Sys2Proof.Machine

/-- A sound hub: the cell store is canonical, the clock stands on a step of 8 ns (R18), the fault log holds at most 512 records
(R462), the header-capture ring at most 4,096 (R319), EVQ at most 512 words (R396), and at most 16 consequence shadows are
open (R476). -/
structure Hub.Sound (h : Hub) : Prop where
  cells : cellsWf h.cells = true
  clock : h.now % 8 = 0
  log : h.log.length ≤ 512
  ring : h.ring.length ≤ 4096
  evq : h.evq.length ≤ 512
  shadows : h.shadows.length ≤ 16

/-- A sound state is one whose hub is sound; the waiting commands may be any. -/
def State.Sound (s : State) : Prop := s.toHub.Sound

/-- The attach events of a hub act: its ports are released (R63, R499) and the power die is not in hold (R496). -/
def Hub.Live (h : Hub) : Prop := h.ready = true ∧ h.rd Reg.hold = 0

/-- A register write passes the checks that all entries share: it names an entry, its value is in range, and its domain is ON (R364). -/
def Hub.Writable (h : Hub) (k v : Nat) : Prop := h.writeCode k v = 0

/-- Flint takes the requests of requester w (R194, R333, R372): of a trunk while PD6 is ON and it is not the standby upstream, of a routed
hub once the hub has its ID; Flint serves in both cases. -/
def Hub.Serves (h : Hub) (w : Nat) : Prop :=
  h.flintOn = true ∧ if w = 16 ∨ w = 17 then h.isOn 6 = true ∧ h.rd Od.STANDBY_UPSTREAM ≠ w else h.rd Od.HUB_ID_ASSIGNED = 1

end Sys2Proof.Machine
end

