-- ==== Sys2Proof/Certificates/Slice0/Obligations.lean ====
section
/-!
DEFINITION. Sys2Proof/Certificates/Slice0/Obligations.lean: the statements for the provers. In a statement about a command, H is the
hub as the command finds it (its clock stands at the command's stamp), and `s.settled x` is the state in which the command's own effects
have left the hub x and what those effects owe has been settled (SettleLaws says what settling leaves alone).
-/
open Sys2Proof Sys2Proof.Machine

/-- A step takes the command at the front of the queue and runs it on the state with the queue's rest; with no command waiting the block idles, and
nothing happens by itself (the model's choice, log entry 1). -/
def Obligations.StepRunsFront : Prop :=
  (∀ (c : Instr) (s : State), step { s with pending := c :: s.pending } = exec c s) ∧
  (∀ (c : Instr) (rest : List Instr) (s t : State), s.pending = c :: rest → exec c { s with pending := rest } = .next t →
    step s = .next t ∧ t.pending = rest) ∧
  (∀ s : State, s.pending = [] → step s = .next s)

/-- What a command's effects owe is settled at its end (R463, R466, R468, log entry 4): with no reaction owed, no core test under way and no held
message past its deadline, settling leaves every entry of the dictionary, the fault log, the acknowledgement state, the frames, the ports' held
records of Slate and the queue of commands as they are; with the manager's path not ON besides and no trunk in ACTIVE at TS it changes nothing
at all. -/
def Obligations.SettleLaws : Prop :=
  ∀ (h : Hub) (s : State), h.reactions = [] → h.underTest 2 0 = false → (∀ p ∈ List.range 18, h.due (Tm.held p) = false) →
    (∀ k : Nat, k < 2 ^ 24 → h.settle.rd k = h.rd k) ∧ h.settle.log = h.log ∧ h.settle.unacked = h.unacked ∧ h.settle.frames = h.frames ∧
    h.settle.budget = h.budget ∧ h.settle.now = h.now ∧ (s.settled h).pending = s.pending ∧
    (h.managerPath = false → (∀ p ∈ [16, 17], h.rd (Od.LINK_STATE p) ≠ 4 ∨ h.rd (Od.LINK_CLASS p) ≠ 4) → h.settle = h)

/-- The state after reset (R21, R406, R490): sound, with no command waiting; every entry reads its default, RESET_CAUSE that of power-on, every
domain is OFF, the log is empty and the repair map is the factory's (the rest of the state is empty: log entries 9 and 10). -/
def Obligations.ResetState : Prop :=
  State.reset.Sound ∧ State.reset.pending = [] ∧ (∀ k : Nat, State.reset.rd k = odDefault k) ∧ State.reset.rd Od.RESET_CAUSE = 1 ∧
    State.reset.rd Od.BOOT_STAGE = 0 ∧ (∀ d ∈ List.range 13, State.reset.dom d = 0) ∧ State.reset.log = [] ∧ State.reset.frames = [] ∧
    State.reset.repair = RepairMap.factory ∧ State.reset.ready = false

/-- Every step keeps the hub sound: the cell store canonical, the clock on its 8 ns grid, the log, the capture ring, EVQ and the shadows within
their sizes (R18, R319, R396, R462, R476). -/
def Obligations.StepKeepsSound : Prop := ∀ s t : State, s.Sound → step s = .next t → t.Sound

/-- No command of the block faults or is refused: each answers a next state, for every operand and state, and leaves the waiting commands as
they are. -/
def Obligations.EveryCommandCompletes : Prop := ∀ (i : Instr) (s : State), ∃ t : State, exec i s = .next t ∧ t.pending = s.pending

/-- R14: serial-number arithmetic of n bits: newer, equal, and neither newer. -/
def Obligations.SerialNumbers : Prop :=
  ∀ (n : Nat) (a b : BitVec n), 1 ≤ n →
    (newer n a.toNat b.toNat = true ↔ 1 ≤ (a - b).toNat ∧ (a - b).toNat ≤ 2 ^ (n - 1) - 1) ∧
    ((a - b).toNat = 0 ↔ a = b) ∧
    ((a - b).toNat = 2 ^ (n - 1) → newer n a.toNat b.toNat = false ∧ newer n b.toNat a.toNat = false)

/-- R16: the packing of a system address of hub ID, device address and endpoint in 24 bits. -/
def Obligations.SystemAddress : Prop :=
  ∀ (hub : Fin 4096) (dev : Fin 256) (ep : Fin 16),
    sysAddr hub dev ep < 2 ^ 24 ∧ bits (sysAddr hub dev ep) 23 12 = hub ∧ bits (sysAddr hub dev ep) 11 4 = dev ∧ bits (sysAddr hub dev ep) 3 0 = ep

/-- R22: a counter takes one more or n more, stops at the greatest value of its width and leaves every other entry alone; a write of 0 clears it
(FREE_MIN takes the present total, R542), and a write of any other value is refused with OUT_OF_RANGE. -/
def Obligations.CountersSaturate : Prop :=
  ∀ (h : Hub) (k n w : Nat) (r : OdRow) (c : WriteCtx) (at_ : Nat → Nat),
    (h.inc k w).rd k = min (h.rd k + 1) (2 ^ w - 1) ∧ (h.add k n w).rd k = min (h.rd k + n) (2 ^ w - 1) ∧
    (∀ j : Nat, j ≠ k → (h.inc k w).rd j = h.rd j ∧ (h.add k n w).rd j = h.rd j) ∧
    (odRow (k / 256) (k % 256) = some r → odCounter r = true →
      (n ≠ 0 → h.liveCode c at_ k n = 6) ∧ (k ≠ Od.FREE_MIN → (h.applyPlain c k 0).rd k = 0) ∧
      (∀ j : Nat, j ≠ k → (h.applyPlain c k 0).rd j = h.rd j))

/-- A timer's end that is not due does nothing (the model's choice of when a timer ends: log entry 7). -/
def Obligations.TimersNotDue : Prop :=
  ∀ (t : Stamp) (s : State) (p : Cable) (d : Dn) (u : Trunk),
    let H := s.arrive t
    ∀ x ∈ ([(.connectDebounceDone t p, Tm.connect p), (.resetSe0End t p, Tm.se0 p), (.offerWindowEnd t p, Tm.offer p), (.trainTimeout t p, Tm.train p),
        (.noValidSymbolTimeout t u, Tm.noSymbol u.port), (.resumeKEnd t p, Tm.resumeK p), (.creditTimer t u, Tm.credit u.port),
        (.linkStatusTimer t u, Tm.status u.port), (.probeIntervalExpiry t p, Tm.probeInterval p), (.syncMessageTimeout t, Tm.sync),
        (.rejoinHoldExpiry t p, Tm.rejoin p), (.publishEffect t, Tm.publish), (.auditComplete t [] [], Tm.auditEnd),
        (.keyAgreeTimeout t u, Tm.keyAgree u), (.keyxRetryTimer t u, Tm.keyRetry u), (.domainDelayEnd t, Tm.domDelay),
        (.clockStartTimeout t, Tm.clock), (.retryHoldoffExpiry t d, Tm.holdoff d), (.l5ResetDelay t, Tm.l5), (.identityDerived t, Tm.derive),
        (.enumStart t p, Tm.enumStart p), (.lfCrystalStartTimeout t, Tm.lfStart)] : List (Instr × Nat)),
      H.due x.2 = false → exec x.1 s = .next (s.settled H)

/-- R471: for L5 the record is written first, with the level applied and its reaction owed; the reaction, after its target's actions and the safe
state, sets the full reset 1 ms on; when that has passed the hub is reset with the cause FAULT, and the log still holds the record. -/
def Obligations.FaultLevel5 : Prop :=
  ∀ (t : Stamp) (s : State) (r : Hub.Report) (x : Reaction),
    let H := s.arrive t
    let seq := (H.rd Od.LOG_WRITTEN + 1) % 2 ^ 32
    let A := match (sourceRow x.source).target with
      | .none => H
      | .port => H.portReaction (x.detail % 256) x.level
      | .flint => H.flintReaction x
      | .granite => H.graniteReset
    (H.appliedLevel r.cls (sourceRow r.src).fault (H.rd (Od.SOURCE r.src) % 8) = 5 →
      (∃ y ∈ (H.writeNormal r).log, y.seq = seq ∧ y.source = r.src ∧ y.applied = 5 ∧ y.detail = r.detail ∧ y.value = r.value) ∧
      (⟨seq, r.src, 5, r.detail⟩ : Reaction) ∈ (H.writeNormal r).reactions) ∧
    (x.level = 5 → A.safeState.running Tm.l5 = false →
      H.react x = A.safeState.arm Tm.l5 (ms 1) ∧ (H.react x).rd Tm.l5 = A.safeState.now + 1000000 + 1) ∧
    (H.due Tm.l5 = true → exec (.l5ResetDelay t) s = .next (s.settled ((H.wr Tm.l5 0).fullReset 5))) ∧
    (H.due Tm.l5 = false → exec (.l5ResetDelay t) s = .next (s.settled H)) ∧
    (H.fullReset 5).rd Od.RESET_CAUSE = 5 ∧ (H.fullReset 5).log = H.log

/-- R66 to R68, R70 to R72: the search for an attach. A sample at tSniffSample counts candidates under SNIFF, and the second in a row on a wire
enters ATTACH_WAIT; a sample before its time is none; during a backoff candidates are ignored. The two classification stages follow each other
after 2 ms; in the third a sample that repeats the classification changes nothing else, one that loses Rd ends the search, and any other starts
tAttachDebounce again, whose end attaches a port with Rd on one wire and locks one that is bridged. A backoff's end readmits open wires; a
toggle phase follows the other; Rd in the source phase, and 600 mV in the sink state, enter ATTACH_WAIT. -/
def Obligations.AttachSearch : Prop :=
  ∀ (t : Stamp) (p : Cable) (s : State) (v v1 v2 : BitVec 16), (s.arrive t).Live →
    let H := s.arrive t
    let W := (H.wires p v1.toNat v2.toNat).wr (Reg.sniffAt p) (H.now + 1)
    let C := (W.countCandidate p 0 v1.toNat).countCandidate p 1 v2.toNat
    let D := (H.wr (Tm.debounce p) 0)
    (H.sniffDue p = false → exec (.sniffSample t p v1 v2) s = .next (s.settled H)) ∧
    (H.sniffDue p = true → H.rd (Od.ATTACH_STATE p) = 0 → H.rd (Od.CF_LEVEL p) = 1 → H.backingOff p = false → exec (.sniffSample t p v1 v2) s
        = .next (s.settled (if 2 ≤ C.rd (Reg.candidate p 0) ∨ 2 ≤ C.rd (Reg.candidate p 1) then C.enterWaitSource p else C))) ∧
    (H.sniffDue p = true → H.rd (Od.ATTACH_STATE p) = 0 → H.rd (Od.CF_LEVEL p) = 1 → H.backingOff p = true → exec (.sniffSample t p v1 v2) s
        = .next (s.settled (W.clear [Reg.candidate p 0, Reg.candidate p 1]))) ∧
    (H.sniffDue p = true → H.rd (Od.ATTACH_STATE p) = 1 → H.rd (Reg.stage p) = 3 → exec (.sniffSample t p v1 v2) s
        = .next (s.settled (W.stageSample p v1.toNat v2.toNat))) ∧
    (H.sniffDue p = true → H.rd (Od.ATTACH_STATE p) = 2 → exec (.sniffSample t p v1 v2) s
        = .next (s.settled (W.trySample p v1.toNat v2.toNat))) ∧
    (∀ h : Hub, (h.countCandidate p 0 v.toNat).rd (Reg.candidate p 0)
        = if v.toNat < 1000 ∧ h.rd (Reg.excluded p 0) = 0 then min (h.rd (Reg.candidate p 0) + 1) (2 ^ 32 - 1) else 0) ∧
    (H.due (Tm.stage p) = true → H.rd (Reg.stage p) = 1 → exec (.classifyStageEnd t p v) s
        = .next (s.settled (((((H.wr (Tm.stage p) 0).wires p v.toNat (H.rd (Od.CF_WIRE_MV p))).wr (Reg.classA p) (cfBand v.toNat)).wr
            (Reg.stage p) 2).arm (Tm.stage p) (ms 2)))) ∧
    (H.due (Tm.stage p) = true → H.rd (Reg.stage p) = 2 → exec (.classifyStageEnd t p v) s
        = .next (s.settled (((((H.wr (Tm.stage p) 0).wires p (H.rd (Od.CF_WIRE_MV p) / 65536) v.toNat).setClasses p (H.rd (Reg.classA p))
            (cfBand v.toNat)).wr (Reg.stage p) 3).arm (Tm.debounce p) (ms 145)))) ∧
    (H.due (Tm.debounce p) = true → H.rd (Od.ATTACH_STATE p) = 1 → H.rd (Reg.attachAs p) = 1 →
      exec (.attachDebounceDone t p) s = .next (s.settled (
        if H.rd (Od.CF_CONFIG p) = 1 ∨ H.rd (Od.CF_CONFIG p) = 2 then D.attachSource p
        else if H.rd (Od.CF_CONFIG p) = 5 then D.faultLock p 2 else D.candidateFail p))) ∧
    (H.due (Tm.debounce p) = true → H.rd (Od.ATTACH_STATE p) = 3 ∨ (H.rd (Od.ATTACH_STATE p) = 1 ∧ H.rd (Reg.attachAs p) ≠ 1) →
      exec (.attachDebounceDone t p) s = .next (s.settled (
        if H.rd (Od.ATTACH_STATE p) = 1 ∧ H.rd (Od.ATTACH_PREF_ACTIVE p) = 2 ∧ H.tryBlocked p = false then D.enterTrySource p else D.attachSink p))) ∧
    (H.due (Tm.backoff p) = true → H.rd (Od.ATTACH_STATE p) = 0 → exec (.candidateBackoffEnd t p v1 v2) s
        = .next (s.settled (((H.wr (Tm.backoff p) 0).recheck p 0 v1.toNat).recheck p 1 v2.toNat))) ∧
    (H.due (Tm.toggle p) = true → H.rd (Od.ATTACH_STATE p) = 0 → exec (.togglePhaseEnd t p) s
        = .next (s.settled ((H.wr (Tm.toggle p) 0).togglePhase p (if H.rd (Reg.toggle p) = 1 then 2 else 1)))) ∧
    (H.rd (Od.ATTACH_STATE p) = 0 → H.rd (Reg.toggle p) = 1 → H.backingOff p = false → (cfBand v1.toNat = 1 ∨ cfBand v2.toNat = 1) →
      exec (.rdSeen t p v1 v2) s = .next (s.settled ((H.wires p v1.toNat v2.toNat).enterWaitSource p))) ∧
    (600 ≤ v.toNat → H.rd (Od.ATTACH_STATE p) = 0 → H.rd (Od.CF_LEVEL p) = 4 →
      exec (.sourcePresent t p v) s = .next (s.settled (H.enterWaitSink p))) ∧
    (v.toNat < 600 → H.rd (Od.ATTACH_STATE p) = 1 → H.rd (Reg.attachAs p) = 2 →
      exec (.sourcePresent t p v) s = .next (s.settled (H.enterUnattached p)))

/-- R72, R74, R75: TRY_SOURCE and TRY_WAIT_SINK end as their timers say. An attached port whose message wire has read open for tDetach takes all
the effects of R74 and returns to UNATTACHED, or is locked at FLAP_LIMIT; before tDetach nothing happens. A CF wire above 6.0 V for tCfOver enters
FAULT_LOCK with cause 1 from any other state; a lower or shorter one does nothing. ATTACH_RELEASE leaves FAULT_LOCK for UNATTACHED, clears its
cause, and is refused with STATE in any other state. -/
def Obligations.AttachEnds : Prop :=
  ∀ (t : Stamp) (p : Cable) (s : State) (o : Stamp) (mv : BitVec 16),
    let H := s.arrive t
    (H.Live → H.due (Tm.tryDebounce p) = true → H.rd (Od.ATTACH_STATE p) = 2 →
      exec (.tryDebounceDone t p) s = .next (s.settled ((H.wr (Tm.tryDebounce p) 0).attachSource p))) ∧
    (H.Live → H.due (Tm.try p) = true → H.rd (Od.ATTACH_STATE p) = 2 →
      exec (.tryTimeout t p) s
        = .next (s.settled (((((H.wr (Tm.try p) 0).attachClear p).wr (Od.ATTACH_STATE p) 3).wr (Od.CF_LEVEL p) 4).arm (Tm.tryWait p) (ms 450)))) ∧
    (H.Live → H.due (Tm.tryWait p) = true → H.rd (Od.ATTACH_STATE p) = 3 →
      exec (.tryWaitTimeout t p) s = .next (s.settled ((H.wr (Tm.tryWait p) 0).enterUnattached p))) ∧
    (H.Live → H.attached p = true → ms 9 ≤ H.openTime p o → H.rd (Reg.detachDone p) = 0 →
      exec (.detach t p o) s = .next (s.settled (H.detachNow p))) ∧
    (H.Live → H.openTime p o < ms 9 → exec (.detach t p o) s = .next (s.settled H)) ∧
    (∀ h : Hub, (h.detachEffects p 2).rd (Od.CF_CONFIG p) = 0 ∧ (h.detachEffects p 2).rd (Reg.detachDone p) = 0) ∧
    (H.Live → H.rd (Od.ATTACH_STATE p) ≠ 6 → 6000 < mv.toNat → o + us 900 ≤ H.now →
      exec (.cfOvervoltage t p mv o) s = .next (s.settled (H.faultLock p 1))) ∧
    (H.Live → mv.toNat ≤ 6000 ∨ H.now < o + us 900 → exec (.cfOvervoltage t p mv o) s = .next (s.settled H)) ∧
    (H.rd (Od.ATTACH_STATE p) = 6 → exec (.attachRelease t p) s
        = .next (s.settled ((((((H.keep (Od.ATTACH_RELEASE p) 1).wr (Od.FAULT_LOCK_CAUSE p) 0).wr (Od.CF_CONFIG p) 0).enterUnattached p).wrote 0)))) ∧
    (H.rd (Od.ATTACH_STATE p) ≠ 6 → exec (.attachRelease t p) s = .next (s.settled (H.wrote 7)))

/-- Outside READY, or while the power die is in hold, the attach events and the messages of a port have no effect (R63, R496, R499). -/
def Obligations.NotLiveNoEffect : Prop :=
  ∀ (t : Stamp) (p : Cable) (s : State) (v1 v2 mv : BitVec 16) (o : Stamp) (busy : Bool),
    ¬ (s.arrive t).Live →
    ∀ i ∈ ([.sniffSample t p v1 v2, .classifyStageEnd t p v1, .attachDebounceDone t p, .candidateBackoffEnd t p v1 v2,
        .togglePhaseEnd t p, .tryDebounceDone t p, .tryTimeout t p, .tryWaitTimeout t p, .detach t p o, .cfOvervoltage t p mv o,
        .sourcePresent t p v1, .rdSeen t p v1 v2, .cfReceiveTimeout t p mv busy, .hardResetReceived t p, .holdLeadExpiry t p busy] : List Instr),
      exec i s = .next (s.settled (s.arrive t))

/-- R490 to R492, Table 17-2: VIN_POWER_ON, BROWNOUT and RST_N_RESET are full resets with causes 1 to 3, and FULL_RESET takes effect with
cause 4 once its delay has passed and no copy is being written; the reset sequence stands at stage 0 with that cause. -/
def Obligations.FullResets : Prop :=
  ∀ (t : Stamp) (s : State),
    let H := s.arrive t
    exec (.vinPowerOn t) s = .next (s.settled (H.fullReset 1)) ∧
    exec (.brownout t) s = .next (s.settled (H.fullReset 2)) ∧
    exec (.rstNReset t) s = .next (s.settled (H.fullReset 3)) ∧
    (H.due Tm.fullReset = true → H.saving = none → H.running Tm.repairSave = false →
      exec (.fullResetDelay t) s = .next (s.settled (H.fullReset 4))) ∧
    (H.due Tm.l5 = true → exec (.l5ResetDelay t) s = .next (s.settled ((H.wr Tm.l5 0).fullReset 5))) ∧
    (∀ c : Nat, (H.fullReset c).rd Od.RESET_CAUSE = c ∧ (H.fullReset c).rd Od.BOOT_STAGE = 0 ∧ (H.fullReset c).rd Reg.hold = 1 ∧
      (H.fullReset c).now = H.now ∧ (H.fullReset c).flash = H.flash ∧ (H.fullReset c).nv = H.nv ∧
      (H.fullReset c).log = (if c = 1 then [] else H.log) ∧ (H.fullReset c).unacked = [] ∧ (H.fullReset c).frames = [])

/-- R493, R499, R500, R501, Table 17-3: the start-up stages follow one another once the stage's own delays are over; a load that ended without
firmware ends in NO_FIRMWARE; the power die's answer releases the ports; the crystal takes over from the RC oscillator, or is late and reported; a
held port whose wire has been open for tDetach is a detach for its hold record; the lockout and the reset of the power die; and the presence
pull-up on a trunk, whose first time is stamped. -/
def Obligations.StartUp : Prop :=
  ∀ (t : Stamp) (s : State) (a b c d e f : Fin 8) (p : Dn) (u : Trunk) (w : BitVec 16) (o : Stamp),
    let H := s.arrive t
    (H.running Tm.bootStage = true → H.due Tm.bootStage = false → exec (.bootStageComplete t a b c d e f) s = .next (s.settled H)) ∧
    (H.running Tm.bootStage = false ∨ H.due Tm.bootStage = true →
      (H.rd Od.BOOT_STAGE = 0 → exec (.bootStageComplete t a b c d e f) s
          = .next (s.settled ((H.wr Reg.resetAt (H.now + 1)).toStage 1))) ∧
      (H.rd Od.BOOT_STAGE = 1 → exec (.bootStageComplete t a b c d e f) s = .next (s.settled ((H.inc Od.XO_STARTS).toStage 2))) ∧
      (H.rd Od.BOOT_STAGE = 2 → exec (.bootStageComplete t a b c d e f) s
          = .next (s.settled (((((H.bootClock 1).bootClock 2).bootOn 12).bootOn 11).gate400.toStage 3))) ∧
      (H.rd Od.BOOT_STAGE = 3 → exec (.bootStageComplete t a b c d e f) s
          = .next (s.settled (((if H.rd Reg.deriving = 1 then H.derived else H).bootOn 1).toStage 4))) ∧
      (H.rd Od.BOOT_STAGE = 4 → exec (.bootStageComplete t a b c d e f) s
          = .next (s.settled (((H.bootArray ⟨a, b, c, d, e, f⟩).fwLoad false).toStage 5))) ∧
      (H.rd Od.BOOT_STAGE = 5 → H.rd Od.FW_STATE = 2 → exec (.bootStageComplete t a b c d e f) s = .next (s.settled (H.toStage 6))) ∧
      (H.rd Od.BOOT_STAGE = 5 → H.rd Od.FW_STATE = 0 → exec (.bootStageComplete t a b c d e f) s = .next (s.settled (H.toStage 10))) ∧
      (H.rd Od.BOOT_STAGE = 6 → exec (.bootStageComplete t a b c d e f) s = .next (s.settled ((H.chooseConfig a b).bootRole.toStage 7))) ∧
      (H.rd Od.BOOT_STAGE = 7 → exec (.bootStageComplete t a b c d e f) s = .next (s.settled (H.bootDomains.toStage 8)))) ∧
    (H.rd Od.BOOT_STAGE = 8 → exec (.powerDieAnswer t w) s = .next (s.settled (H.enterReady w.toNat))) ∧
    (H.rd Od.LF_SOURCE = 1 → H.running Tm.lfStart = true → H.due Tm.lfStart = false → H.rd Tm.lfStart + 31250000 ≤ H.now + 1 + ms 2000 →
      exec (.lfCrystalGood t) s = .next (s.settled ((H.wr Od.LF_SOURCE 0).wr Tm.lfStart 0))) ∧
    (H.rd Od.LF_SOURCE = 1 → H.due Tm.lfStart = true → exec (.lfCrystalStartTimeout t) s
        = .next (s.settled ((H.wr Tm.lfStart 0).report 0x41 0 0))) ∧
    (∀ r : HoldRec, H.rd Reg.hold = 1 → H.holds.find? (fun x : HoldRec => x.port == p.val) = some r → r.attached = true → r.power = 3 → r.event = 0 →
      (o + ms 9 ≤ H.now → exec (.holdDetach t p o) s
        = .next (s.settled ({ H with holds := putBy HoldRec.port { r with event := 1, opens := true } H.holds }.holdOpen p))) ∧
      (H.now < o + ms 9 → exec (.holdDetach t p o) s = .next (s.settled H))) ∧
    exec (.vauxLockout t) s
      = .next (s.settled ((List.range 16).foldl (fun x q => x.emit (.powerDie q .openPairs)) ({ H with holds := [] }.wr Reg.hold 0))) ∧
    (H.ready = false → exec (.powerDieResetReport t) s = .next (s.settled ((H.wr Reg.dieLost 0).inc Od.POWER_DIE_RESETS))) ∧
    (H.ready = true → exec (.powerDieResetReport t) s = .next (s.settled H.dieReset)) ∧
    (H.Live → H.role ≠ 1 → H.flintOn = true → H.rd (Od.ATTACH_STATE u.port) = 5 → H.rd (Od.PULLUP u.port) = 0 →
      exec (.upstreamPullup t u) s = .next (s.settled (
        if (H.applyPull u.port).rd Reg.upReady = 0 then
          ((H.applyPull u.port).wr Reg.upReady 1).wr Od.UPSTREAM_READY_TIME ((H.applyPull u.port).wr Reg.upReady 1).stamp
        else H.applyPull u.port)))

/-- R460 to R462, R500: the detectors report their sources: a source of Table 16-1 with its DETAIL and VALUE; the temperatures and supplies against
their levels, each firing once until its reading has gone back past the level (5.0 °C for a die temperature); a lost rail that powers a port; the
die link; lockstep; the watchdog while Flint serves; an ECC error of an array row; and the burst window's roll. A report that no shadow covers and
that starts no test writes one record after all others, with the class of its source, its DETAIL and its VALUE, and LOG_WRITTEN is its
LOG_SEQ. -/
def Obligations.DetectorsReport : Prop :=
  ∀ (t : Stamp) (s : State) (v : BitVec 16) (detail value row : Word) (r : Fin 2),
    let H := s.arrive t
    (∀ src : Byte, sources.any (fun x => x.id == src.toNat) = true →
      exec (.faultReport t src detail value) s = .next (s.settled (H.report src.toNat detail.toNat value.toNat))) ∧
    (H.rd (Reg.tempFired 2) = 0 → 1350 ≤ toSigned 16 v.toNat → exec (.tempThreshold t true v) s
        = .next (s.settled (((H.wr Od.POWER_DIE_TEMP v.toNat).wr (Reg.tempFired 2) 1).report 0x83 (ofSigned 32 (toSigned 16 v.toNat)) 0))) ∧
    (H.rd (Reg.tempFired 2) = 0 → toSigned 16 v.toNat < 1350 → exec (.tempThreshold t true v) s
        = .next (s.settled (H.wr Od.POWER_DIE_TEMP v.toNat))) ∧
    (H.rd (Reg.tempFired 2) ≠ 0 → 1300 < toSigned 16 v.toNat → exec (.tempThreshold t true v) s
        = .next (s.settled (H.wr Od.POWER_DIE_TEMP v.toNat))) ∧
    (H.rd (Reg.tempFired 2) ≠ 0 → toSigned 16 v.toNat ≤ 1300 → exec (.tempThreshold t true v) s
        = .next (s.settled ((H.wr Od.POWER_DIE_TEMP v.toNat).wr (Reg.tempFired 2) 0))) ∧
    exec (.tempThreshold t false v) s = .next (s.settled (
      let x := toSigned 16 v.toNat
      let w := toSigned 16 (H.rd Od.THERM_WARN)
      let c := toSigned 16 (H.rd Od.THERM_CRIT)
      ((H.wr Od.DIE_TEMP v.toNat).hysteresis 0 0x81 (ofSigned 32 x) (decide (w ≤ x)) (decide (x ≤ w - 50))).hysteresis 1 0x82 (ofSigned 32 x)
        (decide (c ≤ x)) (decide (x ≤ c - 50)))) ∧
    (∀ (h : Hub) (i src det : Nat) (fires again : Bool), h.hysteresis i src det fires again
      = if h.rd (Reg.tempFired i) = 0 then (if fires then (h.wr (Reg.tempFired i) 1).report src det 0 else h)
        else if again then h.wr (Reg.tempFired i) 0 else h) ∧
    (∀ (h : Hub) (src det val : Nat) (f : Bool), h.coveringShadow src det = none → h.testFor src det = .nothing →
      h.reportAs src det val f = h.writeNormal ⟨src, (sourceRow src).cls, det, val, f, 0, 0, 0⟩) ∧
    (H.rd (Reg.tempFired 3) = 0 → v.toNat < H.rd Od.VIN_LOW_MV → exec (.supplyLow t false v) s
        = .next (s.settled ((H.wr (Reg.tempFired 3) 1).report 0x91 v.toNat 0))) ∧
    (H.rd (Reg.tempFired 4) = 0 → v.toNat < H.rd Od.VAUX_LOW_MV → exec (.supplyLow t true v) s
        = .next (s.settled ((H.wr (Reg.tempFired 4) 1).report 0x92 v.toNat 0))) ∧
    (H.rd (Reg.tempFired 3) ≠ 0 → exec (.supplyLow t false v) s
        = .next (s.settled (if H.rd Od.VIN_LOW_MV < v.toNat then H.wr (Reg.tempFired 3) 0 else H))) ∧
    (H.rd (Reg.tempFired 4) ≠ 0 → exec (.supplyLow t true v) s
        = .next (s.settled (if H.rd Od.VAUX_LOW_MV < v.toNat then H.wr (Reg.tempFired 4) 0 else H))) ∧
    (∀ p : Dn, H.powered p = true → H.rd (Reg.rail p) = r → exec (.railLost t r) s = .next (s.settled (H.report 0x93 r 0))) ∧
    ((∀ p : Dn, H.powered p = true → H.rd (Reg.rail p) ≠ r) → exec (.railLost t r) s = .next (s.settled H)) ∧
    (H.rd Reg.dieLost ≠ 1 → exec (.dieLinkLost t) s
        = .next (s.settled (((H.wr Reg.dieLost 1).wr Reg.dieLostAt (H.wr Reg.dieLost 1).stamp).report 0x94 0 0))) ∧
    exec (.dieLinkRestored t) s = .next (s.settled (H.wr Reg.dieLost 0)) ∧
    exec (.lockstep t) s = .next (s.settled (H.report 0x51 0 0)) ∧
    (H.flintOn = true → exec (.watchdog t) s = .next (s.settled (H.report 0x52 0 0))) ∧
    exec (.nvReadError t row) s = .next (s.settled (H.report 0x05 row.toNat 0)) ∧
    exec (.linkErrorBurstWindow t) s = .next (s.settled H.rollBurst)

/-- R470, R473 to R475, R487: FAULT_ACK removes the unacknowledged faults of its class up to its LOG_SEQ, SAFE_EXIT ends the safe state with
DONE, or is refused in SAFE_EXIT_RESULT while a fault of level L4 stands or the die is too hot, a write of a source's configuration sets its
LEVEL and with FORCE takes one report, and shadows whose window has ended close. -/
def Obligations.GarnetCommands : Prop :=
  ∀ (t : Stamp) (s : State) (v : BitVec 64) (id : Byte) (l : Fin 8),
    let H := s.arrive t
    (H.Writable Od.FAULT_ACK v.toNat → exec (.faultAck t v) s = .next (s.settled (
        (({ (H.keep Od.FAULT_ACK v.toNat) with
          unacked := (H.keep Od.FAULT_ACK v.toNat).unacked.filter
            (fun u => !(u.cls == byteAt v.toNat 0 && !newer 32 u.seq (field v.toNat 4 4))) } : Hub).wrote 0)))) ∧
    (H.Writable Od.SAFE_EXIT 1 → (H.keep Od.SAFE_EXIT 1).unacked.any (fun u => decide (4 ≤ u.level)) = false →
      toSigned 16 ((H.keep Od.SAFE_EXIT 1).rd Od.DIE_TEMP) < toSigned 16 ((H.keep Od.SAFE_EXIT 1).rd Od.THERM_CRIT) - 50 →
      exec (.safeExit t) s
        = .next (s.settled ((((H.keep Od.SAFE_EXIT 1).wr Od.SAFE_STATE 0).wr Od.SAFE_EXIT_RESULT 1).wrote 0))) ∧
    (H.Writable Od.SAFE_EXIT 1 → (H.keep Od.SAFE_EXIT 1).unacked.any (fun u => decide (4 ≤ u.level)) = true →
      exec (.safeExit t) s = .next (s.settled (((H.keep Od.SAFE_EXIT 1).wr Od.SAFE_EXIT_RESULT 2).wrote 0))) ∧
    (H.Writable (Od.SOURCE id.toNat) l → exec (.sourceLevelWrite t id l) s
        = .next (s.settled (((H.keep (Od.SOURCE id.toNat) l).wr (Od.SOURCE id.toNat) l).wrote 0))) ∧
    (H.Writable (Od.SOURCE id.toNat) (128 + l) → exec (.sourceForce t id l) s
        = .next (s.settled ((((H.keep (Od.SOURCE id.toNat) (128 + l)).wr (Od.SOURCE id.toNat) l).forceReport id.toNat).wrote 0))) ∧
    exec (.shadowExpiry t) s = .next (s.settled
      ({ H with shadows := H.shadows.filter (fun x => match x.ends with | none => true | some e => decide (H.now < e)) } : Hub))

/-- R477 to R483: the self-tests go on by their results. A bank's copy-out switches to the spare and its march begins; a march with no
failing bit is TRANSIENT and copies the bank back, after which the spare is free again, and one with a failing bit is LASTING and keeps the
remap, with REPAIR_DONE; a loopback ends once its 16 bursts can have run, with a bit error and without; the re-reads of a row, clean and not; the
core test of a pair that passes restarts Flint, and one in which a single core fails puts the spare in its place; and the repair map is saved. -/
def Obligations.SelfTests : Prop :=
  ∀ (t : Stamp) (s : State) (b : Fin 52) (p : Cable) (row : Word) (cp : Fin 7) (k : Bool) (x : SelfTest),
    let H := s.arrive t
    (H.testOf 1 b = some x → x.stage = 1 →
      exec (.bankCopyDone t b) s = .next (s.settled (((H.moveBank b x.spare).takeSpare x.spare).stageTest x 2))) ∧
    (H.testOf 1 b = some x → x.stage = 2 → exec (.bankMarchDone t b false) s = .next (s.settled (
      let h1 := { H with shadows := H.shadows.filter (fun w => w.test != some (1, b.val)) }.verdict x 1
      ({ h1 with sbeLast := putBy Prod.fst (b.val, h1.now) h1.sbeLast } : Hub).stageTest x 3))) ∧
    (H.testOf 1 b = some x → x.stage = 3 → exec (.bankCopyDone t b) s = .next (s.settled (
      ((H.moveBank x.spare b).wr Od.SPARES_FREE (setBit (H.rd Od.SPARES_FREE) (Hub.spareBit x.spare))).endTest 1 b))) ∧
    (H.testOf 1 b = some x → x.stage = 2 → exec (.bankMarchDone t b true) s = .next (s.settled (
      let h1 := { H with shadows := H.shadows.filter (fun w => w.test != some (1, b.val)) }.verdict x 2
      let h2 := (h1.saveRepair { h1.repair with badBanks := setBit h1.repair.badBanks b, bankMap := h1.rd Od.BANK_MAP }).inc Od.BANK_REMAPS
      ((h2.childReport 0xA2 x.cls x.parent (b + 256 * x.spare) 0).endTest 1 b).dropWaiting (Hub.bankDomain b)))) ∧
    (H.testOf 3 p = some x → (∀ n : Nat, H.loopTime p = some n → H.now + 1 < H.rd (Reg.loopFrom p) + n) → exec (.loopbackDone t p k) s
        = .next (s.settled H)) ∧
    (∀ n : Nat, H.testOf 3 p = some x → H.loopTime p = some n → H.rd (Reg.loopFrom p) + n ≤ H.now + 1 →
      exec (.loopbackDone t p false) s = .next (s.settled ((H.verdict x 1).endTest 3 p))) ∧
    (∀ n : Nat, H.testOf 3 p = some x → H.loopTime p = some n → H.rd (Reg.loopFrom p) + n ≤ H.now + 1 → exec (.loopbackDone t p true) s = .next (s.settled (
      let h1 := H.verdict x 2
      ((h1.saveRepair { h1.repair with phyFailed := setBit h1.repair.phyFailed p }).childReport 0xA3 x.cls x.parent p 0).endTest 3 p))) ∧
    (H.testOf 4 row.toNat = some x → exec (.nvRereadDone t row true k cp) s
        = .next (s.settled ((if k then (H.verdict x 1).inc Od.NV_SCRUBS else H.verdict x 1).endTest 4 row.toNat))) ∧
    (H.testOf 4 row.toNat = some x → H.repair.rowsUsed < 32 → exec (.nvRereadDone t row false true cp) s = .next (s.settled (
      let h1 := H.verdict x 2
      let h2 := h1.saveRepair { h1.repair with rowsUsed := h1.repair.rowsUsed + 1 }
      (h2.childReport 0xA2 x.cls x.parent (row.toNat % 256 + 256 * h1.repair.rowsUsed) 0).endTest 4 row.toNat))) ∧
    (H.testOf 2 0 = some x → H.repair.pairA = 0 → H.repair.pairB = 1 → hasBit H.repair.retired 2 = false →
      exec (.coreTestDone t true false true) s = .next (s.settled (
        let h2 := ((H.endTest 2 0).verdict x 2).retireCore 1
        (({ h2 with repair := { h2.repair with pairA := if h2.repair.pairA = 1 then 2 else h2.repair.pairA,
                                               pairB := if h2.repair.pairB = 1 then 2 else h2.repair.pairB } } : Hub).childReport 0xA2 x.cls x.parent
          (1 + 256 * 2) 0).flintRestart))) ∧
    (H.testOf 2 0 = some x → H.repair.pairA = 0 → H.repair.pairB = 1 → hasBit H.repair.retired 2 = false →
      exec (.coreTestDone t true true true) s = .next (s.settled (((H.endTest 2 0).verdict x 1).flintRestart))) ∧
    (H.due Tm.repairSave = true → exec (.repairMapSaved t) s
        = .next (s.settled ((((H.wr Tm.repairSave 0).storeRepair)).commandReset)))

/-- R45 to R51, R128, Table 2-12: the line monitor's readings. A period of screen injection that no event of R49 fell into gives
INSUL_SCREEN and its group, joins the hour's sum when it is in range and is judged; one that was spoiled only counts; with the monitor
disabled it gives nothing. The first HOURLY_MEAN of an hour window closes the hour's sums, takes the bridge's readings unless an event of R49
spoiled them, and judges; a second one in the window changes nothing. A slot is forced when shots are wanted and 64 micro-frames gave none. -/
def Obligations.LineReadings : Prop :=
  ∀ (t : Stamp) (s : State) (p : Dn) (r mean : Word) (m : Sense) (x : HourReadings) (ov : Bool),
    let H := s.arrive t
    let K := (H.sense p m).wr (Reg.screenFrom p) (H.now + 1)
    let W := H.wr (Reg.hourWin p) (hourOf H.stamp)
    let sums := [Reg.screenSum p, Reg.screenCount p, Reg.probeSum p, Reg.probeCount p]
    let M := ((W.meanOfSum p 0x06 (Reg.screenSum p) (Reg.screenCount p)).meanOfSum p 0x05 (Reg.probeSum p) (Reg.probeCount p)).clear sums
    (H.rd (Od.MONITOR_ENABLE p) ≠ 0 → K.measureSpoiled p (H.rd (Reg.screenFrom p)) = false → r.toNat ≤ 100000000 →
      exec (.screenReading t p r mean m) s
        = .next (s.settled (((((K.wr (Od.INSUL_SCREEN p) r.toNat).wr (Od.SCREEN_FAULT_GROUP p) (screenGroup mean.toInt m.vbus.toNat)).add
            (Reg.screenSum p) r.toNat 64).inc (Reg.screenCount p) 32).judgeLine p))) ∧
    (H.rd (Od.MONITOR_ENABLE p) ≠ 0 → K.measureSpoiled p (H.rd (Reg.screenFrom p)) = false → 100000000 < r.toNat →
      exec (.screenReading t p r mean m) s
        = .next (s.settled (((K.wr (Od.INSUL_SCREEN p) notMeasured).wr (Od.SCREEN_FAULT_GROUP p)
            (screenGroup mean.toInt m.vbus.toNat)).judgeLine p))) ∧
    (H.rd (Od.MONITOR_ENABLE p) ≠ 0 → K.measureSpoiled p (H.rd (Reg.screenFrom p)) = true →
      exec (.screenReading t p r mean m) s = .next (s.settled (K.inc (Od.MEAS_DISCARDED p)))) ∧
    (H.rd (Od.MONITOR_ENABLE p) = 0 → exec (.screenReading t p r mean m) s = .next (s.settled K)) ∧
    (hourOf H.stamp = H.rd (Reg.hourWin p) → exec (.hourlyMean t p x ov) s = .next (s.settled H)) ∧
    (hourOf H.stamp ≠ H.rd (Reg.hourWin p) → H.rd (Od.MONITOR_ENABLE p) = 0 →
      exec (.hourlyMean t p x ov) s = .next (s.settled (W.clear sums))) ∧
    (hourOf H.stamp ≠ H.rd (Reg.hourWin p) → H.rd (Od.MONITOR_ENABLE p) ≠ 0 → ov = false → M.measureBlocked p = false →
      exec (.hourlyMean t p x ov) s = .next (s.settled ((M.bridgeHour p x).judgeLine p))) ∧
    (hourOf H.stamp ≠ H.rd (Reg.hourWin p) → H.rd (Od.MONITOR_ENABLE p) ≠ 0 → (ov = true ∨ M.measureBlocked p = true) →
      exec (.hourlyMean t p x ov) s = .next (s.settled ((M.inc (Od.MEAS_DISCARDED p)).judgeLine p))) ∧
    (H.slotWanted p = true → H.rd (Reg.slotAt p) + 64 ≤ H.gridTime / 125000 + 1 → exec (.forcedMonitorSlot t p) s
        = .next (s.settled (H.wr (Reg.monOwed p) 1))) ∧
    ((H.slotWanted p = false ∨ H.gridTime / 125000 + 1 < H.rd (Reg.slotAt p) + 64) → exec (.forcedMonitorSlot t p) s
        = .next (s.settled H))

/-- R57 to R60, R49, R50: reflectometry. Where the pair may be measured, TDR_START and the interval begin a trace when none is under way,
and the trip-location trace begins once the discharge is over; a trace's 256 shots and as many more as were discarded end it: it is stored and
judged against the baseline, or discarded whole where an event of R49 fell into it; before that the end changes nothing. CAPTURE_BASELINE
stores the last trace with the present readings and the stamp. -/
def Obligations.Reflectometry : Prop :=
  ∀ (t : Stamp) (s : State) (p : Dn) (tr : BitVec 16384) (es : List Echo),
    let H := s.arrive t
    let B := H.keep (Od.TDR_START p) 1
    let I := H.wr (Reg.tdrLast p) H.now
    let ended := H.rd (Reg.tdrAt p) + (256 + H.rd (Reg.shotsLost p)) * 125000 ≤ H.now + 1
    (H.Writable (Od.TDR_START p) 1 → B.rd (Reg.tdrRun p) = 0 → B.traceAllowed p = true → exec (.tdrStart t p) s
        = .next (s.settled ((((B.wr (Reg.tdrRun p) 1).wr (Reg.tdrAt p) (B.now + 1)).wr (Reg.shotsLost p) 0).wrote 0))) ∧
    (H.Writable (Od.TDR_START p) 1 → (B.rd (Reg.tdrRun p) ≠ 0 ∨ B.traceAllowed p = false) → exec (.tdrStart t p) s
        = .next (s.settled (B.wrote 0))) ∧
    (H.rd (Reg.tdrLast p) + H.rd (Od.TDR_INTERVAL p) * 1000000000 ≤ H.now → I.rd (Reg.tdrRun p) = 0 → I.traceAllowed p = true →
      exec (.tdrIntervalExpiry t p) s
        = .next (s.settled (((I.wr (Reg.tdrRun p) 1).wr (Reg.tdrAt p) (I.now + 1)).wr (Reg.shotsLost p) 0))) ∧
    (H.rd (Reg.tdrLast p) + H.rd (Od.TDR_INTERVAL p) * 1000000000 ≤ H.now → (I.rd (Reg.tdrRun p) ≠ 0 ∨ I.traceAllowed p = false) →
      exec (.tdrIntervalExpiry t p) s = .next (s.settled I)) ∧
    (H.rd (Reg.tripTrace p) = 2 → H.traceAllowed p = true → exec (.tripLocationTrace t p) s
        = .next (s.settled ((H.wr (Reg.tripTrace p) 0).traceStart p 2))) ∧
    ((H.rd (Reg.tripTrace p) ≠ 2 ∨ H.traceAllowed p = false) → exec (.tripLocationTrace t p) s = .next (s.settled H)) ∧
    (H.rd (Reg.tdrRun p) = 1 → H.traceAllowed p = true → ended → H.measureSpoiled p (H.rd (Reg.tdrAt p)) = false →
      exec (.tdrTraceComplete t p tr es) s
        = .next (s.settled (((((H.wr (Reg.tdrRun p) 0).wr (Od.TDR_TRACE p) (tr.toNat % 256 ^ 2048)).putRecord
            ⟨p, 0, es, tr.toNat % 256 ^ 2048, []⟩).judgeTrace p es).judgeReach p))) ∧
    (H.rd (Reg.tdrRun p) = 2 → H.traceAllowed p = true → ended → H.measureSpoiled p (H.rd (Reg.tdrAt p)) = true →
      exec (.tdrTraceComplete t p tr es) s
        = .next (s.settled (((H.wr (Reg.tripTrace p) 2).wr (Reg.tdrRun p) 0).inc (Od.MEAS_DISCARDED p)))) ∧
    ((H.rd (Reg.tdrRun p) = 0 ∨ H.traceAllowed p = false ∨ ¬ ended) → exec (.tdrTraceComplete t p tr es) s = .next (s.settled H)) ∧
    (H.Writable (Od.CAPTURE_BASELINE p) 1 → exec (.captureBaseline t p) s
        = .next (s.settled (((H.keep (Od.CAPTURE_BASELINE p) 1).captureBaseline p).wrote 0))) ∧
    (∀ h : Hub, ((h.captureBaseline p).lineRecord p 1).map (·.readings) = some (lineSubs.map (fun i => h.rd (lineKey p i))))

/-- R52 to R56, Tables 2-6 and 2-8: the polarity probe. PROBE_START begins it on an unpowered source port whose last probe did not find the pair swapped,
withdrawing a power-on that still waits, and is refused with STATE otherwise; its four phases run in order, each with its source and its length,
the readings are kept for the end, and the last phase classifies; a phase whose time has not come changes nothing. -/
def Obligations.PolarityProbe : Prop :=
  ∀ (t : Stamp) (s : State) (p : Dn) (v cur : BitVec 16) (m : Sense),
    let H := s.arrive t
    let K := H.sense p m
    let E := K.wr (Tm.probe p) 0
    (H.probeRefused p = false → exec (.probeStart t p) s
        = .next (s.settled ((((((H.keep (Od.PROBE_START p) 1).withdrawPowerOn p).clear [Reg.probePre p, Reg.probeF p]).wr (Reg.probePhase p) 1).arm
            (Tm.probe p) (us 960)).wrote 0))) ∧
    (H.probeRefused p = true → exec (.probeStart t p) s = .next (s.settled (H.wrote 7))) ∧
    (∀ h : Hub, h.powered p = true → h.probeRefused p = true) ∧
    (∀ h : Hub, h.isSource p = false → h.probeRefused p = true) ∧
    (K.due (Tm.probe p) = true → E.rd (Reg.probePhase p) = 1 → exec (.probePhaseEnd t p v cur m) s
        = .next (s.settled ((((E.wr (Reg.probePre p) (ofSigned 16 v.toInt)).wr (Reg.probePhase p) 2).emit (.powerDie p (.probe 1))).arm
            (Tm.probe p) (ms 48)))) ∧
    (K.due (Tm.probe p) = true → E.rd (Reg.probePhase p) = 2 → exec (.probePhaseEnd t p v cur m) s
        = .next (s.settled (((((E.wr (Reg.probeF p) (cur.toNat % 65536)).wr (Reg.probePhase p) 3).emit
            (.powerDie p (.probe 0))).emit (.powerDie p (.discharge true))).arm (Tm.probe p) (us 9600)))) ∧
    (K.due (Tm.probe p) = true → E.rd (Reg.probePhase p) = 3 → exec (.probePhaseEnd t p v cur m) s
        = .next (s.settled ((((E.wr (Reg.probePhase p) 4).emit (.powerDie p (.discharge false))).emit (.powerDie p (.probe 2))).arm
            (Tm.probe p) (ms 48)))) ∧
    (K.due (Tm.probe p) = true → E.rd (Reg.probePhase p) = 4 → exec (.probePhaseEnd t p v cur m) s
        = .next (s.settled (E.probeDone p cur.toNat v.toInt.toNat))) ∧
    (K.due (Tm.probe p) = false → exec (.probePhaseEnd t p v cur m) s = .next (s.settled K))

/-- R85 to R97: the message layer's ends. On an attached port a message is judged with the waits it may end and the wire is free after it; a
GOOD_ACK ends the message in flight, but a sink ignores the tag's; tReceive repeats the message in flight up to two times and then reports
it lost, a sink repeats under PERMIT alone and abandons an exchange that meets HOLD; HARD_RESET takes its effects; and the lead and
the wait-and-retry time let what waits for them start. Where the condition does not hold the command changes nothing. -/
def Obligations.CfMessages : Prop :=
  ∀ (t : Stamp) (s : State) (p : Cable) (header : BitVec 16) (objs : List Word) (crc : Word) (pre : Stamp) (id : Fin 8) (type : Fin 16)
      (mv : BitVec 16) (busy tag : Bool) (x : CfTx),
    (s.arrive t).Live →
    let H := s.arrive t
    let W := H.wr (Tm.receive p) 0
    let ws := objs.map (fun o : Word => o.toNat)
    (H.attached p = true → exec (.cfMessageReceived t p header objs crc pre) s
      = .next (s.settled (((((H.hear p).waitsEnd p pre).receiveCf p header.toNat ws crc.toNat pre).waitsEnd p H.now).wireFree p))) ∧
    (H.attached p = false → exec (.cfMessageReceived t p header objs crc pre) s
      = .next (s.settled (H.receiveCf p header.toNat ws crc.toNat pre))) ∧
    (H.attached p = true → (H.isSink p = false ∨ tag = false) → exec (.goodAckReceived t p id tag) s
      = .next (s.settled ((((H.hear p).takeGoodAck p (mkHeader 0 id (1 - H.ownRole p) (if tag then 1 else 0) 0)).waitsEnd p H.now).wireFree p))) ∧
    (H.attached p = true → H.isSink p = true → exec (.goodAckReceived t p id true) s = .next (s.settled (H.hear p))) ∧
    (H.attached p = false → exec (.goodAckReceived t p id tag) s = .next (s.settled (H.inc (Od.CF_RX_DISCARDED p)))) ∧
    (H.due (Tm.receive p) = true → W.txOf p = some x → W.rd (Reg.hrWaiting p) = 0 → x.tries < 2 → W.isSink p = false →
      exec (.cfReceiveTimeout t p mv false) s = .next (s.settled (W.resend x))) ∧
    (H.due (Tm.receive p) = true → W.txOf p = some x → W.rd (Reg.hrWaiting p) = 0 → x.tries < 2 → W.isSink p = true →
      W.levelSettled p = true → W.permitRead p mv.toNat = true →
      exec (.cfReceiveTimeout t p mv false) s = .next (s.settled (W.resend x))) ∧
    (H.due (Tm.receive p) = true → W.txOf p = some x → W.rd (Reg.hrWaiting p) = 0 → x.tries < 2 → W.isSink p = true →
      W.levelSettled p = true → W.permitRead p mv.toNat = false → Hub.beginsExchange x = true →
      exec (.cfReceiveTimeout t p mv false) s = .next (s.settled ((W.abandon x).wireFree p))) ∧
    (H.due (Tm.receive p) = true → W.txOf p = some x → W.rd (Reg.hrWaiting p) = 0 → 2 ≤ x.tries →
      exec (.cfReceiveTimeout t p mv false) s = .next (s.settled ((W.lostMessage x).wireFree p))) ∧
    ((busy = true ∨ H.due (Tm.receive p) = false) → exec (.cfReceiveTimeout t p mv busy) s = .next (s.settled H)) ∧
    (H.attached p = true → H.rd (Reg.hrWaiting p) = 0 → exec (.hardResetReceived t p) s
      = .next (s.settled ((H.inc (Od.HARD_RESETS_RX p)).hardResetEffects p 1))) ∧
    (H.attached p = false → exec (.hardResetReceived t p) s = .next (s.settled H)) ∧
    (H.due (Tm.holdLead p) = true → exec (.holdLeadExpiry t p busy) s = .next (s.settled ((H.pumpOffer p busy).tryStartNew p busy))) ∧
    (H.due (Tm.holdLead p) = false → exec (.holdLeadExpiry t p busy) s = .next (s.settled H)) ∧
    (H.due (Tm.waitRetry p type) = true → exec (.waitRetryExpiry t p type busy) s
      = .next (s.settled (((H.wr (Tm.waitRetry p type) 0).pumpAns p busy).tryStartNew p busy))) ∧
    (H.due (Tm.waitRetry p type) = false → exec (.waitRetryExpiry t p type busy) s = .next (s.settled H))

/-- R326 to R329, R333 to R335: ASSIGN and RELEASE_ID write the identity and its result; a relay request to a hub with its ID starts, is
answered again from its stored completion, or is refused in its order of checks; the child's answer within 600 ms or 600 ms without
one ends it; the loss of the control upstream moves control to an ACTIVE standby or isolates the worker; and a standby and a reconnected trunk
take their place. -/
def Obligations.HierarchyCommands : Prop :=
  ∀ (t : Stamp) (s : State) (via : SwPort) (v : BitVec 64) (p : Cable) (u : Trunk) (src : BitVec 24) (len pay : Nat) (stall : Bool) (r : Relay),
    let H := s.arrive t
    let A := H.keep Od.ASSIGN v.toNat
    let same := H.relayOn (byteAt pay 2) (fun x => x.tag == field pay 0 2 && x.src == src.toNat)
    let sb := H.rd Od.STANDBY_UPSTREAM
    let may := H.hasUpstream = true ∧ H.rd Reg.isolated = 0 ∧ H.sinkActive u.port = true ∧ H.rd Od.CONTROL_UPSTREAM = 33 - u.port ∧ sb ≠ u.port
    (H.Writable Od.ASSIGN v.toNat → A.assignResult via ≠ 1 → exec (.assign t via v) s
        = .next (s.settled ((A.wr Od.ASSIGN_RESULT (A.assignResult via)).wrote 0))) ∧
    (H.Writable Od.ASSIGN v.toNat → A.assignResult via = 1 → exec (.assign t via v) s
        = .next (s.settled (((A.wr Od.ASSIGN_RESULT 1).assigned via v.toNat).wrote 0))) ∧
    (H.releaseCode = 0 → exec (.releaseId t) s = .next (s.settled (((H.keep Od.RELEASE_ID 1).releaseId).wrote 0))) ∧
    (H.releaseCode ≠ 0 → exec (.releaseId t) s = .next (s.settled (H.wrote H.releaseCode))) ∧
    (H.flintOn = true → H.rd Od.HUB_ID_ASSIGNED ≠ 0 → same = none → H.relayCheck len pay = 0 →
      exec (.relayRequest t src len pay) s = .next (s.settled (H.relayStart src.toNat pay))) ∧
    (H.flintOn = true → H.rd Od.HUB_ID_ASSIGNED ≠ 0 → same = none → H.relayCheck len pay ≠ 0 →
      exec (.relayRequest t src len pay) s = .next (s.settled (H.relayRefuse src.toNat pay (H.relayCheck len pay)))) ∧
    (H.flintOn = true → H.rd Od.HUB_ID_ASSIGNED ≠ 0 → same = some r → r.state = 3 →
      exec (.relayRequest t src len pay) s = .next (s.settled (H.relayReply src.toNat r.tag r.port r.result r.outLen r.data))) ∧
    (H.flintOn = true → H.rd Od.HUB_ID_ASSIGNED ≠ 0 → same = some r → r.state ≠ 3 →
      exec (.relayRequest t src len pay) s = .next (s.settled H)) ∧
    ((H.flintOn = false ∨ H.rd Od.HUB_ID_ASSIGNED = 0) → exec (.relayRequest t src len pay) s = .next (s.settled H)) ∧
    (H.relayOn p (fun x => x.state == 2) = some r → H.now < r.deadline → exec (.relayChildAnswer t p true len pay) s
        = .next (s.settled (H.relayEnd r 1 0 0))) ∧
    (H.relayOn p (fun x => x.state == 2) = some r → H.now < r.deadline → exec (.relayChildAnswer t p false len pay) s
        = .next (s.settled (H.relayEnd r 0 (min len 1008) pay))) ∧
    (H.relayOn p (fun x => x.state == 2) = some r → r.deadline ≤ H.now → exec (.relayChildAnswer t p stall len pay) s = .next (s.settled H)) ∧
    (H.relayOn p (fun x => x.state != 3) = some r → r.deadline ≤ H.now → exec (.relayTimeout t p) s = .next (s.settled (H.relayEnd r 4 0 0))) ∧
    (H.relayOn p (fun x => x.state != 3) = some r → H.now < r.deadline → exec (.relayTimeout t p) s = .next (s.settled H)) ∧
    (H.upstreamGone = true → (sb = 16 ∨ sb = 17) → H.sinkActive sb = true → exec (.controlUpstreamLost t) s
        = .next (s.settled (((((((((H.wr Od.CONTROL_UPSTREAM sb).wr Od.STANDBY_UPSTREAM 0xFF).wr Od.LAST_CONTROL_MOVE H.stamp).wr Reg.upCtl 1).wr
            Od.LINK_ADDRESS (H.rd (Reg.myAddr sb))).inc Od.CONTROL_MOVES).dropControl (H.rd Od.CONTROL_UPSTREAM)).dropTrunkTxn
            (H.rd Od.CONTROL_UPSTREAM) 6).hierRecord 2))) ∧
    (H.upstreamGone = true → ¬ ((sb = 16 ∨ sb = 17) ∧ H.sinkActive sb = true) → exec (.controlUpstreamLost t) s
        = .next (s.settled ((H.wr Reg.isolated 1).wr Reg.upCtl 0))) ∧
    (H.upstreamGone = false → exec (.controlUpstreamLost t) s = .next (s.settled H)) ∧
    (may → exec (.standbyUp t u) s = .next (s.settled ((H.wr Od.STANDBY_UPSTREAM u.port).hierRecord 3))) ∧
    (H.rd Reg.isolated = 1 → H.sinkActive u.port = true → exec (.reconnected t u) s
        = .next (s.settled (((((((H.wr Od.CONTROL_UPSTREAM u.port).wr Od.STANDBY_UPSTREAM (if sb = u.port then 0xFF else sb)).wr Reg.isolated
            0).wr Reg.upCtl 1).wr Od.LINK_ADDRESS (H.rd (Reg.myAddr u.port)))).hierRecord 5))) ∧
    (¬ may → exec (.standbyUp t u) s = .next (s.settled H)) ∧
    ((H.rd Reg.isolated ≠ 1 ∨ H.sinkActive u.port = false) → exec (.reconnected t u) s = .next (s.settled H))

/-- R336 to R338: a notice of the right length and version from a hub port is counted, re-arms its 350 ms and, newer than the last one, writes
REACH, and an older one does no more; any other local frame is counted as discarded; notices go out on every hub port on a change and every
100 ms; and 350 ms without one clear REACH. -/
def Obligations.ReachNotices : Prop :=
  ∀ (t : Stamp) (s : State) (p : Cable) (len pay : Nat),
    let H := s.arrive t
    let N := (H.inc Od.NOTICES_RX).arm (Tm.notices p) (ms 350)
    let fits := H.flintOn = true ∧ len = 260 ∧ byteAt pay 0 = 1 ∧ H.farIsHub p = true
    let old := H.rd (Reg.noticeRx p) ≠ 0 ∧ newer 16 (H.rd (Reg.noticeRx p) - 1) (field pay 2 2) = true
    (fits → ¬ old → H.isOn 2 = true → exec (.noticeReceived t p len pay) s
        = .next (s.settled ((N.wr (Od.REACH p) (field pay 4 256)).wr (Reg.noticeRx p) (field pay 2 2 + 1)))) ∧
    (fits → old → exec (.noticeReceived t p len pay) s = .next (s.settled N)) ∧
    (H.flintOn = true → (len ≠ 260 ∨ byteAt pay 0 ≠ 1 ∨ H.farIsHub p = false) → exec (.noticeReceived t p len pay) s
        = .next (s.settled (H.inc Od.LOCAL_DISCARDED))) ∧
    (H.flintOn = false → exec (.noticeReceived t p len pay) s = .next (s.settled H)) ∧
    (H.noticesRun = true → H.noticePorts.any (fun q => H.rd (Reg.noticeSent q) != H.declared q + 1) = true → exec (.noticeSendOnChange t) s
        = .next (s.settled H.sendNotices)) ∧
    ((H.noticesRun = false ∨ H.noticePorts.any (fun q => H.rd (Reg.noticeSent q) != H.declared q + 1) = false) →
      exec (.noticeSendOnChange t) s = .next (s.settled H)) ∧
    (H.noticesRun = true → (H.running Tm.noticeTimer = false ∨ H.due Tm.noticeTimer = true) → exec (.noticeTimer t) s
        = .next (s.settled (H.sendNotices.arm Tm.noticeTimer (ms 100)))) ∧
    ((H.noticesRun = false ∨ (H.running Tm.noticeTimer = true ∧ H.due Tm.noticeTimer = false)) → exec (.noticeTimer t) s
        = .next (s.settled H)) ∧
    (H.due (Tm.notices p) = true → exec (.noticesExpired t p) s
        = .next (s.settled (((H.wr (Tm.notices p) 0).wr (Od.REACH p) 0).inc Od.NOTICES_EXPIRED))) ∧
    (H.due (Tm.notices p) = false → exec (.noticesExpired t p) s = .next (s.settled H))

/-- R218, Table 7-3: the port commands. DISABLE of a running port enters DISABLED with cause COMMAND and answers DONE; ENABLE of a port in
ERROR_HOLD, or disabled by command, resets it and answers PENDING, or answers DONE where it goes to DISCONNECTED; RESET of an ENABLED or SUSPENDED
port; SUSPEND waits for the next SOF, or answers SLOTS_OPEN while a slot is open; RESUME of a SUSPENDED port starts the listen, or answers
DOMAIN_NOT_ON; and a command in any other state answers STATE. -/
def Obligations.PortCommands : Prop :=
  ∀ (t : Stamp) (s : State) (p : Cable),
    let H := s.arrive t
    let K (c : Nat) : Hub := H.keep (Od.PORT_CMD p) c
    let st (c : Nat) : Nat := (K c).rd (Od.PORT_STATE p)
    let alt := p.val < 16 ∧ (K 2).rd (Od.ALT_STATE p) ≠ 0
    let held := st 2 = 8 ∨ (st 2 = 3 ∧ (K 2).rd (Od.DISABLE_CAUSE p) = 1)
    let there := (K 2).rd (Reg.pullSeen p) ≠ 0 ∧ (K 2).phyOn p = true
    (H.Writable (Od.PORT_CMD p) 1 → 2 ≤ st 1 → exec (.portCmdDisable t p) s
        = .next (s.settled (((((K 1).movePort p 3 1).wr (Od.DISABLE_CAUSE p) 1).cmdResult p 1).wrote 0))) ∧
    (H.Writable (Od.PORT_CMD p) 1 → st 1 < 2 → exec (.portCmdDisable t p) s
        = .next (s.settled (((K 1).cmdResult p 2).wrote 0))) ∧
    (H.Writable (Od.PORT_CMD p) 2 → ¬ alt → held → there → exec (.portCmdEnable t p) s
        = .next (s.settled ((((K 2).enterResetting p).cmdResult p 5).wrote 0))) ∧
    (H.Writable (Od.PORT_CMD p) 2 → ¬ alt → held → ¬ there → exec (.portCmdEnable t p) s
        = .next (s.settled ((((K 2).enterDisconnected p).cmdResult p 1).wrote 0))) ∧
    (H.Writable (Od.PORT_CMD p) 2 → (alt ∨ ¬ held) → exec (.portCmdEnable t p) s
        = .next (s.settled (((K 2).cmdResult p 2).wrote 0))) ∧
    (H.Writable (Od.PORT_CMD p) 3 → (st 3 = 5 ∨ st 3 = 6) → exec (.portCmdReset t p) s
        = .next (s.settled ((((K 3).enterResetting p).cmdResult p 5).wrote 0))) ∧
    (H.Writable (Od.PORT_CMD p) 3 → st 3 ≠ 5 → st 3 ≠ 6 → exec (.portCmdReset t p) s
        = .next (s.settled (((K 3).cmdResult p 2).wrote 0))) ∧
    (H.Writable (Od.PORT_CMD p) 4 → st 4 = 5 → (K 4).slotsBusy p = false → exec (.portCmdSuspend t p) s
        = .next (s.settled ((((K 4).wr (Reg.suspendDue p) 1).cmdResult p 1).wrote 0))) ∧
    (H.Writable (Od.PORT_CMD p) 4 → st 4 = 5 → (K 4).slotsBusy p = true → exec (.portCmdSuspend t p) s
        = .next (s.settled (((K 4).cmdResult p 3).wrote 0))) ∧
    (H.Writable (Od.PORT_CMD p) 4 → st 4 ≠ 5 → exec (.portCmdSuspend t p) s
        = .next (s.settled (((K 4).cmdResult p 2).wrote 0))) ∧
    (H.Writable (Od.PORT_CMD p) 5 → st 5 = 6 → (K 5).phyOn p = true → (K 5).running (Tm.listen p) = false →
      exec (.portCmdResume t p) s = .next (s.settled ((((K 5).startListen p 1).cmdResult p 5).wrote 0))) ∧
    (H.Writable (Od.PORT_CMD p) 5 → st 5 = 6 → (K 5).phyOn p = true → (K 5).running (Tm.listen p) = true →
      exec (.portCmdResume t p) s = .next (s.settled (((K 5).cmdResult p 5).wrote 0))) ∧
    (H.Writable (Od.PORT_CMD p) 5 → st 5 = 6 → (K 5).phyOn p = false →
      exec (.portCmdResume t p) s = .next (s.settled (((K 5).cmdResult p 4).wrote 0))) ∧
    (H.Writable (Od.PORT_CMD p) 5 → st 5 ≠ 6 → exec (.portCmdResume t p) s
        = .next (s.settled (((K 5).cmdResult p 2).wrote 0)))

/-- R220, R222 to R224, R232, R48: the engine of a port. Its turn takes the next work, after a shot that met activity is discarded; a
transaction that ended without an error clears CONSECUTIVE_ERRORS, one that ended in an error counts and at ERROR_LIMIT holds an ENABLED port,
and either gives its originator the result; babble puts a running port in ERROR_HOLD; tEnumStart starts the enumeration of a RESETTING port
whose link is ACTIVE; and a delivery past its time is dropped. Where the condition does not hold the command changes nothing. -/
def Obligations.EngineRuns : Prop :=
  ∀ (t : Stamp) (s : State) (p : Cable) (active : Bool) (x : Txn) (r : TxnResult) (v : Delivery),
    let H := s.arrive t
    let D : Hub := { H with txns := dropBy Txn.port p H.txns }
    let G := ((D.wr (Od.CONSECUTIVE_ERRORS p) 0).heardValid p).originator x r
    let B := ((D.inc (Od.TRANSACTION_ERRORS p)).inc (Od.CONSECUTIVE_ERRORS p) 8).originator x r
    let full := B.rd (Od.PORT_STATE p) = 5 ∧ B.rd (Od.ERROR_LIMIT p) ≤ B.rd (Od.CONSECUTIVE_ERRORS p)
    let E := H.wr (Tm.enumStart p) 0
    let ended := H.txnOf p = some x ∧ H.rd (Reg.burstAck p) = 0 ∧ x.result = some r
    ((active = false ∨ 16 ≤ p.val) → exec (.hubPortTurn t p active) s = .next (s.settled (H.takeWork p))) ∧
    (p.val < 16 → exec (.hubPortTurn t p true) s = .next (s.settled ((H.shotLost p).takeWork p))) ∧
    (ended → Hub.isError r = false → exec (.portTransactionEnd t p) s = .next (s.settled G.suspendForUpstream)) ∧
    (ended → Hub.isError r = true → full → exec (.portTransactionEnd t p) s
        = .next (s.settled (B.errorHold p 6).suspendForUpstream)) ∧
    (ended → Hub.isError r = true → ¬ full → exec (.portTransactionEnd t p) s = .next (s.settled B.suspendForUpstream)) ∧
    (H.txnOf p = none → exec (.portTransactionEnd t p) s = .next (s.settled H)) ∧
    (H.engineRuns p = true → 4 ≤ H.rd (Od.PORT_STATE p) → exec (.babbleDetected t p) s
        = .next (s.settled (((H.pollEnds p .babble).inc (Od.BABBLE p)).errorHold p 7))) ∧
    ((H.engineRuns p = false ∨ H.rd (Od.PORT_STATE p) < 4) → exec (.babbleDetected t p) s = .next (s.settled (H.inc (Od.BABBLE p)))) ∧
    (H.due (Tm.enumStart p) = true → E.rd (Od.PORT_STATE p) = 4 → E.rd (Od.LINK_STATE p) = 4 → exec (.enumStart t p) s
        = .next (s.settled (E.startEnum p))) ∧
    (H.due (Tm.enumStart p) = true → (E.rd (Od.PORT_STATE p) ≠ 4 ∨ E.rd (Od.LINK_STATE p) ≠ 4) → exec (.enumStart t p) s
        = .next (s.settled E)) ∧
    (H.due (Tm.enumStart p) = false → exec (.enumStart t p) s = .next (s.settled H)) ∧
    (H.deliveries.find? (fun w => w.port == p.val) = some v → v.deadline ≤ H.now → exec (.deliveryTimeout t p) s
        = .next (s.settled (H.dropDelivery p))) ∧
    (H.deliveries.find? (fun w => w.port == p.val) = some v → H.now < v.deadline → exec (.deliveryTimeout t p) s = .next (s.settled H))

/-- R13, R182, R190, R233 to R236: split transactions. On an ACTIVE packet link whose downstream end the hub is, SPLIT_START takes a slot and
answers ACK, NAK when no slot is free and STALL on a port that cannot carry it, and a reserved encoding is discarded and counted;
SPLIT_COMPLETE answers NYET while the slot is not DONE, the held result when it is and STALL for no slot; a token for another device changes
nothing beyond the count. A request frame to a hub with its ID takes a slot; a slot QUEUED past its time is TIMEOUT; a DONE slot past its hold
is freed. -/
def Obligations.SplitSlots : Prop :=
  ∀ (t : Stamp) (s : State) (u : Cable) (body : Word) (seq : Fin 16) (len data : Nat) (src : BitVec 24) (cls : Fin 4) (i : Fin 128) (x : Slot),
    let H := s.arrive t
    let b := body.toNat
    let dir := hasBit b 25
    let pt := bits b 31 28
    let tdev := bits b 19 12
    let target := bits b 23 20 + 16 * bits b 27 26 + (if dir then 64 else 0) + (if hasBit b 24 then 128 else 0)
    let reserved := bits b 7 0 = 255 ∨ bits b 27 26 = 3 ∨ (hasBit b 24 && dir) = true
    let S := H.heardPackets u (if dir then 1 else 2)
    let C := H.heardPackets u 1
    let fits := H.answersOn u = true ∧ ¬ reserved ∧ (dir = false → len ≤ H.portMax u)
    let mine := fits ∧ bits b 7 0 = H.rd (Reg.myAddr u) ∧ (dir = false → len ≤ S.portMax pt) ∧ S.splitPortOk pt tdev = true
    let asked := H.answersOn u = true ∧ ¬ reserved ∧ bits b 7 0 = C.rd (Reg.myAddr u)
    (mine → S.slotFor pt tdev (bits b 23 20) dir = none → S.slotRoom pt = true → exec (.splitStartToken t u body seq len data) s
        = .next (s.settled ((S.createSlot pt tdev target 0 0 u 0 0 (if dir then 0 else len) (data % 256 ^ len) seq).emit
            (.handshake u 9 (if dir then 0 else (seq + 1) % 16))))) ∧
    (mine → S.slotFor pt tdev (bits b 23 20) dir = none → S.slotRoom pt = false → exec (.splitStartToken t u body seq len data) s
        = .next (s.settled ((S.emit (.handshake u 0xA 0)).inc Od.SPLITS_NO_SLOT))) ∧
    (mine → S.slotFor pt tdev (bits b 23 20) dir = some x → x.state ≠ 3 → exec (.splitStartToken t u body seq len data) s
        = .next (s.settled (S.emit (.handshake u 0xA 0)))) ∧
    (fits → bits b 7 0 = H.rd (Reg.myAddr u) → (S.splitPortOk pt tdev = false ∨ (dir = false ∧ S.portMax pt < len)) →
      exec (.splitStartToken t u body seq len data) s = .next (s.settled (S.emit (.handshake u 0xB 0)))) ∧
    (fits → bits b 7 0 ≠ H.rd (Reg.myAddr u) → exec (.splitStartToken t u body seq len data) s = .next (s.settled S)) ∧
    (H.answersOn u = true → reserved → exec (.splitStartToken t u body seq len data) s = .next (s.settled (H.reservedPacket u))) ∧
    (H.answersOn u = true → ¬ reserved → dir = false → H.portMax u < len → exec (.splitStartToken t u body seq len data) s
        = .next (s.settled (C.countFault u .long))) ∧
    (H.answersOn u = false → exec (.splitStartToken t u body seq len data) s = .next (s.settled H)) ∧
    (asked → C.slotFor pt tdev (bits b 23 20) dir = some x → x.state ≠ 3 → exec (.splitCompleteToken t u body) s
        = .next (s.settled (C.emit (.handshake u 0xC 0)))) ∧
    (asked → C.slotFor pt tdev (bits b 23 20) dir = some x → x.state = 3 → exec (.splitCompleteToken t u body) s
        = .next (s.settled (C.returnSplit u x))) ∧
    (asked → C.slotFor pt tdev (bits b 23 20) dir = none → exec (.splitCompleteToken t u body) s
        = .next (s.settled (C.emit (.handshake u 0xB 0)))) ∧
    (H.answersOn u = true → reserved → exec (.splitCompleteToken t u body) s = .next (s.settled (H.reservedPacket u))) ∧
    (H.rd Od.HUB_ID_ASSIGNED ≠ 0 → H.slots.find? (fun w => w.carrier == 1 && w.tag == field data 0 2 && w.src == src.toNat) = none →
      Hub.splitRequestOk len data = true → H.splitPortOk (byteAt data 2) (byteAt data 3) = true →
      field data 6 2 ≤ 8 * H.portMax (byteAt data 2) → H.slotFor (byteAt data 2) (byteAt data 3) (byteAt data 4 % 16) (hasBit (byteAt data 4) 6) = none →
      H.slotRoom (byteAt data 2) = true → exec (.splitRequestFrame t src cls len data) s
        = .next (s.settled (H.createSlot (byteAt data 2) (byteAt data 3) (byteAt data 4) 1 (field data 0 2) src.toNat cls (byteAt data 5 % 8)
            (field data 6 2) (field data 8 (field data 6 2)) 0))) ∧
    (H.rd Od.HUB_ID_ASSIGNED = 0 → exec (.splitRequestFrame t src cls len data) s = .next (s.settled H)) ∧
    (H.slots.find? (fun w => w.id == i.val) = some x → x.state = 1 → x.deadline ≤ H.now → exec (.splitRunTimeout t i) s
        = .next (s.settled (((H.slotDone { x with result := 9, len := 0, data := 0, packets := 0, seq := 0 }).inc
            Od.SPLITS_TIMEOUT).suspendForUpstream))) ∧
    (H.slots.find? (fun w => w.id == i.val) = some x → (x.state ≠ 1 ∨ H.now < x.deadline) → exec (.splitRunTimeout t i) s
        = .next (s.settled H)) ∧
    (H.slots.find? (fun w => w.id == i.val) = some x → x.state = 3 → x.deadline ≤ H.now → x.returned = false → exec (.splitHoldExpiry t i) s
        = .next (s.settled (((H.freeSlot i).inc Od.SPLITS_EXPIRED).suspendForUpstream))) ∧
    (H.slots.find? (fun w => w.id == i.val) = some x → x.state = 3 → x.deadline ≤ H.now → x.returned = true → exec (.splitHoldExpiry t i) s
        = .next (s.settled (H.freeSlot i).suspendForUpstream))

/-- R239 to R243: resume, wake and the upstream's resets. The listen's end drives the resume of a SUSPENDED port, counting a wake that coincided
or, as R241 has it, taking one that came first; a remote wake is taken over on a port that is SUSPENDED with its wake enabled; the
control upstream's return resumes what it suspended; its reset acts once at its stamp; and the path to the manager, once ON, brings out
what was held. Where the condition does not hold the command changes nothing. -/
def Obligations.ResumeAndWake : Prop :=
  ∀ (t : Stamp) (s : State) (p : Cable),
    let H := s.arrive t
    let L := H.wr (Tm.listen p) 0
    let tc := L.rd (Reg.listenStart p) - 1
    let k := L.rd (Reg.wakeOnset p)
    let near := tc ≤ k - 1 + 2000 ∧ k - 1 < tc + 2000
    let first := k - 1 < tc ∧ L.rd (Reg.wakePresent p) = 1
    let may := H.rd (Od.PORT_STATE p) = 6 ∧ H.rd (Od.WAKE_ENABLE p) = 1 ∧ H.rd (Reg.wakePresent p) = 1 ∧ H.phyOn p = true ∧
      H.running (Tm.listen p) = false
    let W := (H.wr (Od.RESUME_CAUSE p) 2).inc (Od.WAKES_TAKEN p)
    (H.due (Tm.listen p) = true → L.rd (Od.PORT_STATE p) = 6 → (k = 0 ∨ (¬ near ∧ ¬ first)) → exec (.resumeListenEnd t p) s
        = .next (s.settled (L.driveResume p))) ∧
    (H.due (Tm.listen p) = true → L.rd (Od.PORT_STATE p) = 6 → k ≠ 0 → near → exec (.resumeListenEnd t p) s
        = .next (s.settled (((L.wr (Od.COINCIDENT_WAKE p) 1).inc (Od.COINCIDENT_WAKES p)).driveResume p))) ∧
    (H.due (Tm.listen p) = true → L.rd (Od.PORT_STATE p) = 6 → k ≠ 0 → ¬ near → first → exec (.resumeListenEnd t p) s
        = .next (s.settled (((((L.wr (Od.RESUME_CAUSE p) 2).settleCmd p 1).inc (Od.WAKES_TAKEN p)).driveResume p).passWake p))) ∧
    (H.due (Tm.listen p) = true → L.rd (Od.PORT_STATE p) ≠ 6 → exec (.resumeListenEnd t p) s = .next (s.settled L)) ∧
    (H.due (Tm.listen p) = false → exec (.resumeListenEnd t p) s = .next (s.settled H)) ∧
    (may → W.rd (Od.LINK_STATE p) = 5 → exec (.wakeTaken t p) s = .next (s.settled ((W.driveResume p).passWake p))) ∧
    (may → W.rd (Od.LINK_STATE p) ≠ 5 → exec (.wakeTaken t p) s = .next (s.settled ((W.enterResetting p).passWake p))) ∧
    (¬ may → exec (.wakeTaken t p) s = .next (s.settled H)) ∧
    (H.rd Reg.upSuspend ≠ 0 → H.rd (Od.LINK_STATE (H.rd Od.CONTROL_UPSTREAM)) = 4 → H.group.any (fun g => g.source == 2) = false →
      exec (.upstreamResumed t) s = .next (s.settled H.resumeForUpstream)) ∧
    (H.rd Reg.upSuspend ≠ 0 → H.rd (Od.LINK_STATE (H.rd Od.CONTROL_UPSTREAM)) = 4 → H.group.any (fun g => g.source == 2) = true →
      exec (.upstreamResumed t) s = .next (s.settled (H.wr Reg.upSuspend 0))) ∧
    ((H.rd Reg.upSuspend = 0 ∨ H.rd (Od.LINK_STATE (H.rd Od.CONTROL_UPSTREAM)) ≠ 4) → exec (.upstreamResumed t) s = .next (s.settled H)) ∧
    (H.rd Reg.lastUpReset ≠ H.now + 1 → exec (.upstreamReset t) s
        = .next (s.settled (H.upstreamReset.wr Reg.lastUpReset (H.now + 1)))) ∧
    (H.rd Reg.lastUpReset = H.now + 1 → exec (.upstreamReset t) s = .next (s.settled H)) ∧
    (H.managerPath = true → exec (.managerPathOn t) s = .next (s.settled H.pathUp) ∧ H.pathUp.portHeld = [] ∧ H.pathUp.hierHeld = none ∧
      H.pathUp.domHeld = none ∧ (∀ c ∈ H.pathUp.cfExpired, H.phyOn c.1 = false)) ∧
    (H.managerPath = false → exec (.managerPathOn t) s = .next (s.settled H))

/-- R144, R145, R147, R123: the protective actions of a power die that is not in hold. Current above the fast-trip threshold takes the trip
sequence with cause SHORT, limiting that has lasted LIMIT_TIME without a break of 1 ms and a guard that fires while limiting with cause
OVERLOAD, and reverse current held for tReverse in ON with cause REVERSE; below their conditions they only take the readings; a command they
override is reported. Entry to limiting on a powered port is counted and stamped. The sequence, on a powered port, turns the port off, stamps it,
counts it, arms RETRY_HOLDOFF, owes the trace, reports source 0x21, cuts a transition short and discards the contract; on a source port it sends
HARD_RESET. -/
def Obligations.TripSequence : Prop :=
  ∀ (t left last since : Stamp) (s : State) (p : Dn) (m : Sense) (peak : BitVec 16) (busy ovr : Bool), (s.arrive t).rd Reg.hold ≠ 1 →
    let H := s.arrive t
    let K := H.sense p m
    let B := H.limitBroken last p
    let L := K.limitBroken left p
    let told (x : Hub) : Hub := if ovr then (x.powerResult p 11).inc (Od.OVERRIDDEN_CMDS p) else x
    (92 * H.fastThreshold p < 100 * peak.toNat → exec (.fastTrip t p m peak busy ovr) s = .next (s.settled (told (K.trip p 2 peak.toNat busy)))) ∧
    (100 * peak.toNat ≤ 92 * H.fastThreshold p → exec (.fastTrip t p m peak busy ovr) s = .next (s.settled K)) ∧
    (B.limitElapsed p = true → exec (.timedLimitTrip t p last m peak busy ovr) s
        = .next (s.settled (told ((B.sense p m).trip p 3 peak.toNat busy)))) ∧
    (B.limitElapsed p = false → exec (.timedLimitTrip t p last m peak busy ovr) s = .next (s.settled (B.sense p m))) ∧
    (B.rd (Reg.limiting p) ≠ 0 → exec (.limitingGuardTrip t p last m peak busy ovr) s
        = .next (s.settled (told ((B.sense p m).trip p 3 peak.toNat busy)))) ∧
    (B.rd (Reg.limiting p) = 0 → exec (.limitingGuardTrip t p last m peak busy ovr) s = .next (s.settled (B.sense p m))) ∧
    (H.reverseHeld p since peak.toNat m = true → exec (.reverseTrip t p since m peak busy ovr) s
        = .next (s.settled (told (K.trip p 4 peak.toNat busy)))) ∧
    (H.reverseHeld p since peak.toNat m = false → exec (.reverseTrip t p since m peak busy ovr) s = .next (s.settled K)) ∧
    (L.powered p = true → (L.inc (Od.LIMIT_EVENTS p)).rd (Reg.limiting p) = 0 → exec (.activeLimitingEntry t p left m) s
        = .next (s.settled ((L.inc (Od.LIMIT_EVENTS p)).wr (Reg.limiting p) ((L.inc (Od.LIMIT_EVENTS p)).now + 1)))) ∧
    (L.powered p = true → (L.inc (Od.LIMIT_EVENTS p)).rd (Reg.limiting p) ≠ 0 → exec (.activeLimitingEntry t p left m) s
        = .next (s.settled (L.inc (Od.LIMIT_EVENTS p)))) ∧
    (L.powered p = false → exec (.activeLimitingEntry t p left m) s = .next (s.settled L)) ∧
    (∀ (h : Hub) (c : Nat), h.powered p = true →
      let T := (((((((h.turnOff p c).wr (Od.TRIP_TIME p) h.stamp).wr (Od.TRIP_PEAK_MA p) peak.toNat).countTrip p c).arm (Tm.holdoff p)
            (ms (h.rd (Od.RETRY_HOLDOFF p)))).wr (Reg.tripTrace p) 1).report 0x21 (p + 256 * c) peak.toNat).abortTransition p
              (if c = 2 ∨ c = 4 then 3 else 4) (h.rd (Od.VBUS_MV p))
      (h.isSource p = false → h.trip p c peak.toNat busy = T.discardContract p) ∧
      (h.isSource p = true → h.trip p c peak.toNat busy
        = (((T.discardContract p).endExchange p).contractState p 1).orderHardReset p 3 false busy)) ∧
    (∀ (h : Hub) (c : Nat), h.powered p = false → h.trip p c peak.toNat busy = h.joinCause p (if c = 2 ∨ c = 4 then 3 else 4))

/-- While the power die is in hold (R23, R496, Table 17-4), its protective actions reach only the port's hold record, where the first event of
a powered port stands. -/
def Obligations.TripInHold : Prop :=
  ∀ (t last since : Stamp) (s : State) (p : Dn) (m : Sense) (peak : BitVec 16) (busy ovr : Bool) (r : HoldRec),
    let H := s.arrive t
    let B := H.limitBroken last p
    H.rd Reg.hold = 1 → H.holds.find? (fun x : HoldRec => x.port == p.val) = some r →
    ∀ x ∈ ([(.fastTrip t p m peak busy ovr, 2, H), (.timedLimitTrip t p last m peak busy ovr, 3, B),
        (.limitingGuardTrip t p last m peak busy ovr, 3, B), (.reverseTrip t p since m peak busy ovr, 4, H)] : List (Instr × Nat × Hub)),
      (r.power = 3 → r.event = 0 → exec x.1 s = .next (s.settled (({ x.2.2 with
        holds := putBy HoldRec.port { r with event := 2, offCause := x.2.1, peak := peak.toNat, opens := true } x.2.2.holds } : Hub).holdOpen p))) ∧
      ((r.power ≠ 3 ∨ r.event ≠ 0) → exec x.1 s = .next (s.settled x.2.2))

/-- R119, R140, R148, R216: a powered port is turned off with a cause: DISCHARGING, the cause recorded, the discharge path on for its 475 ms, both
pairs open, and a move cut short writes its energy; in INRUSH a cause other than the command's own gives POWER_CMD_RESULT ABORTED; a far end
that needed the power loses its port state; a port that is not powered is left alone. -/
def Obligations.TurnOff : Prop :=
  ∀ (h : Hub) (p : Dn) (c : Nat),
    let X := h.turnOff p c
    let moving := h.rd (Od.POWER_STATE p) = 2 ∨ h.rd (Od.POWER_STATE p) = 4
    (h.powered p = false → X = h) ∧
    (h.powered p = true → h.rd (Od.PROBE_RESULT p) ≠ 1 →
      X.rd (Od.POWER_STATE p) = 5 ∧ X.rd (Od.POWER_OFF_CAUSE p) = c ∧ X.rd (Reg.discharge p) = 1 ∧
      X.rd (Tm.discharge p) = h.now + ms 475 + 1 ∧ X.rd (Reg.limiting p) = 0 ∧ X.rd (Reg.trStep p) = 0 ∧
      X.out = h.out ++ [.powerDie p .openPairs, .powerDie p (.discharge true)] ∧ X.log = h.log ∧
      X.rd (Od.TRANSITION_ENERGY p) = (if moving then h.rd (Reg.energy p) else h.rd (Od.TRANSITION_ENERGY p)) ∧
      X.rd (Od.POWER_CMD_RESULT p) = (if h.rd (Od.POWER_STATE p) = 2 ∧ c ≠ 1 then 13 else h.rd (Od.POWER_CMD_RESULT p))) ∧
    (h.powered p = true → h.rd (Od.PROBE_RESULT p) = 1 → h.rd (Od.POWER_STATE p) = 3 →
      X = (((((((((((h.wr (Od.POWER_STATE p) 5).wr (Od.POWER_OFF_CAUSE p) c).wr (Reg.discharge p) 1).wr (Reg.limiting p) 0).wr (Reg.trStep p)
        0).arm (Tm.discharge p) (ms 475)).emit (.powerDie p .openPairs)).emit (.powerDie p (.discharge true))).refreshLimit p).bridgeCondition
          p).hubPowerLoss p))

/-- R114, R124, R141, R142, R147 to R149, R151: the power commands of a port and the supply's events. The retry holdoff ends; the discharge ends
and reaches OFF; step 4 of an INRUSH that has held 4 ms settles into ON and the default offer is due; POWER_CMD OFF by the contract and the
state it finds; RESTORE_DEFAULT in its order of checks; LIMIT_SET applies at once in ON; and an over-current group follows its input while it
is enabled. -/
def Obligations.PowerCommands : Prop :=
  ∀ (t since : Stamp) (s : State) (p : Dn) (m : Sense) (v : BitVec 16) (g : Fin 4),
    let H := s.arrive t
    let K := H.sense p m
    let rail := K.railMv (K.rd (Reg.rail p))
    let stands := K.rd (Od.POWER_STATE p) = 2 ∧ K.rd (Reg.trStep p) = 4 ∧ since + ms 4 ≤ K.now ∧ 95 * rail ≤ 100 * m.vbus.toNat ∧
      100 * m.vbus.toNat ≤ 105 * rail
    let I := (((((K.wr (Od.POWER_STATE p) 3).wr (Od.TRANSITION_ENERGY p) m.energy.toNat).wr (Reg.limiting p) 0).wr (Reg.trStep p)
      0).refreshLimit p).powerResult p 2
    let J := (I.emit (.powerDie p (.limit (I.rd (Od.LIMIT_ACTIVE p))))).wr (Tm.firstCaps p) (since + ms 46 + 1)
    let O := H.keep (Od.POWER_CMD p) 1
    let bound := (2 ≤ O.rd (Od.CONTRACT_STATE p) ∧ O.rd (Od.CONTRACT_STATE p) ≤ 6) ∨ O.rd (Reg.inForce p) = 1
    let R := K.keep (Od.POWER_CMD p) 2
    let idle := R.isSource p = true ∧ R.rd (Od.CONTRACT_STATE p) = 1 ∧ R.rd (Od.POWER_STATE p) = 0
    let waits := R.running (Tm.holdoff p) = true ∧ R.due (Tm.holdoff p) = false
    let A := H.wrBit Reg.ocInput g true
    (H.due (Tm.holdoff p) = true → exec (.retryHoldoffExpiry t p) s = .next (s.settled (H.wr (Tm.holdoff p) 0))) ∧
    (H.due (Tm.holdoff p) = false → exec (.retryHoldoffExpiry t p) s = .next (s.settled H)) ∧
    (m.vbus.toNat < 1000 → exec (.dischargeComplete t p m) s = .next (s.settled ((K.dischargeOff p).powerReachedOff p))) ∧
    (1000 ≤ m.vbus.toNat → exec (.dischargeComplete t p m) s = .next (s.settled K)) ∧
    (m.vbus.toNat < 5000 → exec (.vbusBelow5v t p m) s = .next (s.settled (K.powerReachedOff p))) ∧
    (5000 ≤ m.vbus.toNat → exec (.vbusBelow5v t p m) s = .next (s.settled K)) ∧
    (K.due (Tm.discharge p) = true → 5000 ≤ m.vbus.toNat → exec (.dischargeTimeout t p m) s
        = .next (s.settled ((((K.wr (Tm.discharge p) 0).dischargeOff p).inc (Od.DISCHARGE_FAILS p)).report 0x22 p 0))) ∧
    (K.due (Tm.discharge p) = true → m.vbus.toNat < 5000 → exec (.dischargeTimeout t p m) s
        = .next (s.settled ((K.wr (Tm.discharge p) 0).dischargeOff p))) ∧
    (K.due (Tm.discharge p) = false → exec (.dischargeTimeout t p m) s = .next (s.settled K)) ∧
    (stands → J.rd (Od.CONTRACT_STATE p) ≠ 6 → exec (.inrushSettled t p since m) s = .next (s.settled (J.hubPowerUp p))) ∧
    (stands → J.rd (Od.CONTRACT_STATE p) = 6 → exec (.inrushSettled t p since m) s
        = .next (s.settled ((J.contractState p 1).hubPowerUp p))) ∧
    (¬ stands → exec (.inrushSettled t p since m) s = .next (s.settled K)) ∧
    (H.Writable (Od.POWER_CMD p) 1 → bound → exec (.powerCmdOff t p) s = .next (s.settled ((O.powerResult p 12).wrote 0))) ∧
    (H.Writable (Od.POWER_CMD p) 1 → ¬ bound → O.rd (Od.POWER_STATE p) = 0 →
      exec (.powerCmdOff t p) s = .next (s.settled ((O.powerResult p 2).wrote 0))) ∧
    (H.Writable (Od.POWER_CMD p) 1 → ¬ bound → O.rd (Od.POWER_STATE p) = 1 →
      exec (.powerCmdOff t p) s = .next (s.settled ((O.withdrawPowerOn p).wrote 0))) ∧
    (H.Writable (Od.POWER_CMD p) 1 → ¬ bound → O.rd (Od.POWER_STATE p) = 5 →
      exec (.powerCmdOff t p) s = .next (s.settled ((O.wr (Reg.offPending p) 1).wrote 0))) ∧
    (H.Writable (Od.POWER_CMD p) 1 → ¬ bound → O.powered p = true →
      exec (.powerCmdOff t p) s = .next (s.settled (((O.turnOff p 1).wr (Reg.offPending p) 1).wrote 0))) ∧
    (K.Writable (Od.POWER_CMD p) 2 → ¬ idle → exec (.powerCmdRestoreDefault t p m) s
        = .next (s.settled ((R.powerResult p 3).wrote 0))) ∧
    (K.Writable (Od.POWER_CMD p) 2 → idle → R.probedDevice p = false → exec (.powerCmdRestoreDefault t p m) s
        = .next (s.settled ((R.powerResult p 4).wrote 0))) ∧
    (K.Writable (Od.POWER_CMD p) 2 → idle → R.probedDevice p = true → waits → exec (.powerCmdRestoreDefault t p m) s
        = .next (s.settled ((R.powerResult p 5).wrote 0))) ∧
    (K.Writable (Od.POWER_CMD p) 2 → idle → R.probedDevice p = true → ¬ waits → exec (.powerCmdRestoreDefault t p m) s
        = .next (s.settled ((R.askPowerOn p false).wrote 0))) ∧
    (H.Writable (Od.LIMIT_SET p) v.toNat → exec (.limitSetWrite t p v) s
        = .next (s.settled (((H.keep (Od.LIMIT_SET p) v.toNat).writeLimitSet p v.toNat).wrote 0))) ∧
    (hasBit (A.rd Od.OC_GROUP_ENABLE) g = true → hasBit (A.rd Od.OC_GROUP_STATE) g = false → exec (.ocGroupAssert t g) s
        = .next (s.settled (((A.wrBit Od.OC_GROUP_STATE g true).inc (Od.OC_G0_COUNT + g)).report 0x24 g 0))) ∧
    (hasBit (A.rd Od.OC_GROUP_ENABLE) g = true → hasBit (A.rd Od.OC_GROUP_STATE) g = true → exec (.ocGroupAssert t g) s
        = .next (s.settled A)) ∧
    (hasBit (A.rd Od.OC_GROUP_ENABLE) g = false → exec (.ocGroupAssert t g) s
        = .next (s.settled (A.wrBit Od.OC_GROUP_STATE g false))) ∧
    exec (.ocGroupRelease t g) s = .next (s.settled ((H.wrBit Reg.ocInput g false).wrBit Od.OC_GROUP_STATE g false))

/-- R153 to R157: Slate. At a budget tick, a 32nd period of the 32.768 kHz clock, the three levels recover, the entries above their capacity
leave, and the entries that fit are released in queue order; BUDGET_TICK at any other instant, or a second time at one, changes nothing. A level
recovers by recovery · 1,000 / 1,024 with the fraction carried and never below 0; a request that fits and waits behind none is released at
once, joining its level, unless it arrives at a tick, and one above the capacity never waits. A capacity written lower holds from the next tick
on, a higher one at once; an entry joins the queue behind those that arrived before it. -/
def Obligations.SlateBudget : Prop :=
  (∀ (t : Stamp) (s : State),
    let H := s.arrive t
    let T := (H.wr Reg.tickAt (H.now + 1)).budgetTick
    (tickFalls H.rtc = true → H.rd Reg.tickAt ≠ H.now + 1 → exec (.budgetTick t) s
      = .next (s.settled (T.2.1.foldl (fun x e => x.startReleased e) (T.1.foldl (fun x e => x.overCapacity e) T.2.2)))) ∧
    ((tickFalls H.rtc = false ∨ H.rd Reg.tickAt = H.now + 1) → exec (.budgetTick t) s = .next (s.settled H))) ∧
  (∀ h : Hub, h.budgetTick.2.1.Sublist h.budget ∧ h.budgetTick.2.2.budget.Sublist h.budget) ∧
  (∀ (h : Hub) (i : Fin 3),
    (h.recoverSupply i).rd (levelKey i) = h.rd (levelKey i) - (h.rd (Reg.fracAcc i) + h.rd (recoveryKey i) * 1000) / 1024 ∧
    (h.recoverSupply i).rd (Reg.fracAcc i) = (h.rd (Reg.fracAcc i) + h.rd (recoveryKey i) * 1000) % 1024) ∧
  (∀ (h : Hub) (i : Fin 3) (k : BudgetKind) (w c : Nat),
    let mayWait := c ≠ 0 ∧ h.rd Od.BUDGET_ENABLE ≠ 0 ∧ c ≤ h.capOf i
    let atOnce := h.rd (levelKey i) + c ≤ h.capOf i ∧ h.supplyWaits i = false ∧ h.tickOpen = false
    ((c = 0 ∨ h.rd Od.BUDGET_ENABLE = 0) → h.askBudget i k w c = (.released, h.releaseAction ⟨i, k, w, c, h.stamp⟩)) ∧
    (c ≠ 0 → h.rd Od.BUDGET_ENABLE ≠ 0 → h.capOf i < c → h.askBudget i k w c = (.overCapacity, h)) ∧
    (mayWait → atOnce → h.askBudget i k w c = (.released, h.releaseAction ⟨i, k, w, c, h.stamp⟩)) ∧
    (mayWait → ¬ atOnce → h.budget.length < 64 → h.askBudget i k w c = (.queued, h.enqueue ⟨i, k, w, c, h.stamp⟩)) ∧
    (mayWait → ¬ atOnce → 64 ≤ h.budget.length → h.askBudget i k w c = (.busy, h.inc Od.QUEUE_BUSY))) ∧
  (∀ (h : Hub) (i : Fin 3) (v : Nat),
    (h.rd (Reg.capHeld i) = 0 → h.capOf i = h.rd (capKey i)) ∧ (h.capOf i ≤ v → (h.writeCap i v).capOf i = v) ∧
    (v < h.capOf i → (h.writeCap i v).capOf i = h.capOf i ∧ (h.writeCap i v).rd (capKey i) = v)) ∧
  (∀ (h : Hub) (e : BudgetEntry), (∀ x ∈ h.budget, x.arrival ≠ e.arrival) → h.enqueue e = { h with budget := h.budget ++ [e] })

/-- R94, R104, R108 to R112, R114, R116: the manager's exchanges and their deadlines. What waits for an idle wire starts; CF_ANSWER by its ACTION;
the deadline of an answer, of a held message too; tFirstCaps' offer on a source; and the waits for REQUEST, for an answer and for READY, which a
message under way puts off to its end. Where the condition does not hold the command changes nothing. -/
def Obligations.ContractDeadlines : Prop :=
  ∀ (t : Stamp) (s : State) (p : Cable) (ty de nd fb : Byte) (ref : Word) (ob : BitVec 224) (m : Sense) (mv : BitVec 16) (busy : Bool),
    let H := s.arrive t
    let K := H.sense p m
    let vn := pack [(1, 1), (1, ty.toNat), (1, de.toNat), (1, nd.toNat), (8, 0), (28, ob.toNat)]
    let va := pack [(1, 2), (1, ty.toNat), (1, de.toNat), (1, nd.toNat), (4, ref.toNat), (1, fb.toNat), (3, 0), (28, ob.toNat)]
    let D := H.keep (Od.CF_ANSWER p) 3
    let Q := H.wr (Tm.sinkRequest p) 0
    let N := H.wr (Tm.response p) 0
    let Y := H.wr (Tm.readyWait p) 0
    (H.attached p = true → exec (.newExchangeStart t p mv false) s = .next (s.settled
        ((((H.flushHardReset p).pumpAns p false).pumpOffer p false).startPending p false (H.permitRead p mv.toNat)))) ∧
    ((busy = true ∨ H.attached p = false) → exec (.newExchangeStart t p mv busy) s = .next (s.settled H)) ∧
    (H.Writable (Od.CF_ANSWER p) vn → exec (.cfAnswerNewExchange t p ty de nd ob busy) s
        = .next (s.settled (((H.keep (Od.CF_ANSWER p) vn).newExchange p ty.toNat (de.toNat % 4) (objsOf (vn / 256 ^ 12) nd.toNat) busy).wrote 0))) ∧
    (K.Writable (Od.CF_ANSWER p) va → exec (.cfAnswerAnswer t p ty de nd ref fb ob m busy) s
        = .next (s.settled (((K.keep (Od.CF_ANSWER p) va).answerWrite p ty.toNat ref.toNat fb.toNat (objsOf (va / 256 ^ 12) nd.toNat) busy).wrote 0))) ∧
    (H.Writable (Od.CF_ANSWER p) 3 → D.attached p = true → exec (.cfAnswerHardReset t p busy) s
        = .next (s.settled (((D.answerResult p 1).orderHardReset p 2 true busy).wrote 0))) ∧
    (H.Writable (Od.CF_ANSWER p) 3 → D.attached p = false → exec (.cfAnswerHardReset t p busy) s
        = .next (s.settled ((D.answerResult p 6).wrote 0))) ∧
    ((H.due (Tm.answer p) = true ∨ H.due (Tm.held p) = true) → exec (.answerDeadline t p busy) s
        = .next (s.settled ((H.deadlines p).tryStartNew p busy))) ∧
    (H.due (Tm.answer p) = false → H.due (Tm.held p) = false → exec (.answerDeadline t p busy) s = .next (s.settled H)) ∧
    (H.due (Tm.firstCaps p) = true → (H.wr (Tm.firstCaps p) 0).isSource p = true → exec (.firstCapsExpiry t p busy) s
        = .next (s.settled (((H.wr (Tm.firstCaps p) 0).wr (Reg.offerPending p) 1).pumpOffer p busy))) ∧
    (H.due (Tm.firstCaps p) = true → (H.wr (Tm.firstCaps p) 0).isSource p = false → exec (.firstCapsExpiry t p busy) s
        = .next (s.settled (H.wr (Tm.firstCaps p) 0))) ∧
    (H.due (Tm.firstCaps p) = false → exec (.firstCapsExpiry t p busy) s = .next (s.settled H)) ∧
    (H.due (Tm.sinkRequest p) = true → exec (.sinkRequestTimeout t p false) s
        = .next (s.settled ((((Q.toPrior p).cfRecord p 10 0 0 []).endOwn p).wireFree p))) ∧
    ((busy = true ∨ H.due (Tm.sinkRequest p) = false) → exec (.sinkRequestTimeout t p busy) s = .next (s.settled H)) ∧
    (H.due (Tm.response p) = true → N.rd (Reg.exOwn p) = 15 → exec (.responseTimeout t p false) s
        = .next (s.settled ((N.orderHardReset p 6 false false).wireFree p))) ∧
    (H.due (Tm.response p) = true → N.rd (Reg.exOwn p) = 0 → exec (.responseTimeout t p false) s
        = .next (s.settled (((N.asWait p 4).endExchange p).wireFree p))) ∧
    (H.due (Tm.response p) = true → N.rd (Reg.exOwn p) ≠ 0 → N.rd (Reg.exOwn p) ≠ 15 → exec (.responseTimeout t p false) s
        = .next (s.settled ((((N.wr (Reg.altWant p) 0).asWait p (N.rd (Reg.exOwn p) - 1)).endOwn p).wireFree p))) ∧
    ((busy = true ∨ H.due (Tm.response p) = false) → exec (.responseTimeout t p busy) s = .next (s.settled H)) ∧
    (H.due (Tm.readyWait p) = true → Y.rd (Reg.cfsSwap p) = 0 → Y.isSink p = true → Y.rd (Od.CONTRACT_STATE p) = 4 →
      exec (.readyWaitTimeout t p false) s = .next (s.settled ((Y.orderHardReset p 6 false false).wireFree p))) ∧
    (H.due (Tm.readyWait p) = true → Y.rd (Reg.cfsSwap p) = 2 → exec (.readyWaitTimeout t p false) s
        = .next (s.settled ((((Y.dropSwap p).cfRecord p 7 0 (Y.rd (Od.CONTRACT_STATE p)) []).endExchange p).wireFree p))) ∧
    (H.due (Tm.readyWait p) = true → Y.rd (Reg.cfsSwap p) = 1 → exec (.readyWaitTimeout t p false) s
        = .next (s.settled (((Y.dropSwap p).endExchange p).wireFree p))) ∧
    ((busy = true ∨ H.due (Tm.readyWait p) = false) → exec (.readyWaitTimeout t p busy) s = .next (s.settled H))

/-- R115, R117, R119 to R124, R127, R137, R141, Table 4-16: the rail move. The incoming pair is driven fully on near the rail, of a power-on too; the
move that has stood within 5 % for 4 ms, and POSITION 0 with both pairs open as long, send READY; a guard's and the detach's aborts cut a move
or a power-on short, with the commands they override, or join the cause of an abort of the same cycle; the glitch undoes a detach;
tSrcRecover's end restores power, or counts anew while VBUS is high; and SOFT_RESET is received. -/
def Obligations.RailMoves : Prop :=
  ∀ (t since : Stamp) (s : State) (p : Dn) (q : Cable) (m : Sense) (busy ovr : Bool) (id : Fin 8) (pre : Stamp),
    let H := s.arrive t
    let K := H.sense p m
    let rail := K.railMv (K.rd (Reg.trNewRail p))
    let near := K.inMove p = true ∧ K.rd (Reg.trStep p) = 3 ∧ K.nearsRail p m.vbus.toNat = true
    let held := K.rd (Od.CONTRACT_STATE p) = 4 ∧ since + ms 4 ≤ K.now
    let told (x : Hub) : Hub := if ovr then (x.powerResult p 11).inc (Od.OVERRIDDEN_CMDS p) else x
    let G := ((H.wr (Reg.detachDone p) 0).wr (Od.ABORT_CAUSE p) 2).wr (Od.POWER_OFF_CAUSE p) 8
    let R := (H.sense q m).wr (Tm.srcRecover q) 0
    let high := q.val < 16 ∧ R.isSource q = true ∧ 5000 ≤ m.vbus.toNat
    let soft := mkHeader 0 id (1 - H.ownRole q) 0 14
    (near → exec (.moveRailReached t p m) s
        = .next (s.settled ((K.wr (Reg.trStep p) 4).emit (.powerDie p (.fullyOn (K.rd (Reg.trNewRail p))))))) ∧
    (¬ near → exec (.moveRailReached t p m) s = .next (s.settled K)) ∧
    (held → K.rd (Reg.trStep p) = 4 → 95 * rail ≤ 100 * m.vbus.toNat → 100 * m.vbus.toNat ≤ 105 * rail →
      exec (.moveSettled t p since m) s = .next (s.settled (K.railSettled p m.energy.toNat))) ∧
    (held → K.rd (Reg.trStep p) = 5 → K.powered p = false → exec (.moveSettled t p since m) s
        = .next (s.settled (((K.setContract p (K.rd (Reg.trRequest p) - 1)).wr (Reg.trStep p) 0).sendReady p))) ∧
    (¬ held → exec (.moveSettled t p since m) s = .next (s.settled K)) ∧
    (K.guardFires m since = true → K.inMove p = true → exec (.slewGuardAbort t p since m busy ovr) s
        = .next (s.settled (told ((K.cutMove p 7 5).orderHardReset p 4 false busy)))) ∧
    (K.guardFires m since = true → K.inMove p = false → exec (.slewGuardAbort t p since m busy ovr) s
        = .next (s.settled (K.joinCause p 5))) ∧
    (K.guardFires m since = false → exec (.slewGuardAbort t p since m busy ovr) s = .next (s.settled K)) ∧
    (K.inMove p = true → exec (.transitionDetachAbort t p m ovr) s
        = .next (s.settled (told ((K.cutMove p 5 1).wr (Reg.detachDone p) (if K.rd (Od.POWER_STATE p) = 4 then 1 else 3))))) ∧
    (K.inMove p = false → exec (.transitionDetachAbort t p m ovr) s = .next (s.settled (K.joinCause p 1))) ∧
    (H.rd (Reg.detachDone p) = 1 → exec (.detachGlitch t p busy) s = .next (s.settled (G.orderHardReset p 5 false busy))) ∧
    (H.rd (Reg.detachDone p) = 3 → exec (.detachGlitch t p busy) s = .next (s.settled (G.powerResult p 13))) ∧
    (H.rd (Reg.detachDone p) ≠ 1 → H.rd (Reg.detachDone p) ≠ 3 → exec (.detachGlitch t p busy) s = .next (s.settled H)) ∧
    ((H.sense q m).due (Tm.srcRecover q) = true → ¬ high → exec (.srcRecoverExpiry t q m) s = .next (s.settled (R.restorePower q))) ∧
    ((H.sense q m).due (Tm.srcRecover q) = true → high → exec (.srcRecoverExpiry t q m) s
        = .next (s.settled (R.arm (Tm.srcRecover q) (ms 660)))) ∧
    ((H.sense q m).due (Tm.srcRecover q) = false → exec (.srcRecoverExpiry t q m) s = .next (s.settled (H.sense q m))) ∧
    (H.Live → exec (.softResetReceived t q id pre) s
        = .next (s.settled (H.messageIn q soft [] (crc32 (toBytes 2 soft)) pre)))

/-- R128 to R130, R135, R136: the cable-electronics supply and the alternate functions. A supply's fault turns it off and reports it; CFS_RESTART
restores a supply in FAULT that is the hub's to give; CFS_ENABLE 0 removes it; a stable supply of a swap sends READY; a serial frame closes and the
next one starts; and a LINE_TEST trace is written, with the loop resistance of a far end in SHORT. Where the condition does not hold the
command changes nothing. -/
def Obligations.CableSupplyAndAlternates : Prop :=
  ∀ (t : Stamp) (s : State) (p : Cable) (n : Dn) (v fl : Byte) (c : Fin 257) (first : BitVec 64) (ch : BitVec 2048) (tr : BitVec 16384) (loop : Word)
      (f : Frame) (k : Copy),
    let H := s.arrive t
    let R := H.keep (Od.CFS_RESTART p) 1
    let E := H.keep (Od.CFS_ENABLE p) v.toNat
    let F := (((H.wr (Od.CFS_STATE p) 3).wr (Tm.cfsStable p) 0).emit (.powerDie p (.cfs false))).report 0x23 p 0
    let S := H.wr (Tm.cfsStable p) 0
    let T := H.wr (Od.TDR_TRACE n) (tr.toNat % 256 ^ 2048)
    let stable := S.rd (Reg.cfsSwap p) = 1 ∧ S.rd (Od.CFS_STATE p) = 1
    (H.rd (Od.CFS_STATE p) = 1 → exec (.cfsFault t p) s = .next (s.settled F)) ∧
    (H.rd (Od.CFS_STATE p) ≠ 1 → exec (.cfsFault t p) s = .next (s.settled H)) ∧
    (H.Writable (Od.CFS_RESTART p) 1 → R.rd (Od.CFS_STATE p) = 3 → (R.wr (Od.CFS_STATE p) 0).cfsOurs p = true → exec (.cfsRestart t p) s
        = .next (s.settled (((R.wr (Od.CFS_STATE p) 0).cfsOn p).wrote 0))) ∧
    (H.Writable (Od.CFS_RESTART p) 1 → R.rd (Od.CFS_STATE p) = 3 → (R.wr (Od.CFS_STATE p) 0).cfsOurs p = false → exec (.cfsRestart t p) s
        = .next (s.settled ((R.wr (Od.CFS_STATE p) 0).wrote 0))) ∧
    (H.Writable (Od.CFS_RESTART p) 1 → R.rd (Od.CFS_STATE p) ≠ 3 → exec (.cfsRestart t p) s = .next (s.settled (R.wrote 0))) ∧
    (H.Writable (Od.CFS_ENABLE p) v.toNat → v.toNat = 0 → exec (.cfsEnableWrite t p v) s
        = .next (s.settled (((E.wr (Od.CFS_ENABLE p) 0).cfsOff p).wrote 0))) ∧
    (H.Writable (Od.CFS_ENABLE p) v.toNat → v.toNat ≠ 0 → exec (.cfsEnableWrite t p v) s
        = .next (s.settled ((E.wr (Od.CFS_ENABLE p) v.toNat).wrote 0))) ∧
    (H.due (Tm.cfsStable p) = true → stable → exec (.cfsStable t p) s
        = .next (s.settled ((S.sendCf p 8 0 [6 * 2 ^ 28 + 2 ^ 26] .readyCfs).stop (Tm.readyWait p)))) ∧
    (H.due (Tm.cfsStable p) = true → ¬ stable → exec (.cfsStable t p) s = .next (s.settled S)) ∧
    (H.due (Tm.cfsStable p) = false → exec (.cfsStable t p) s = .next (s.settled H)) ∧
    (H.rd (Od.ALT_STATE n) = 1 → H.switchOn = true → exec (.serialFrameClose t n fl c first ch) s
        = .next (s.settled (H.enterFrame n (mkTrunk 0 2 (12 + min c 256) true (sysAddr H.ownHub 0 12) (sysAddr H.ownHub 0 12) 0)
            (pack [(1, n), (1, fl.toNat % 16), (2, min c 256), (8, first.toNat), (min c 256, ch.toNat)]) 0 true
            (some (H.toPort n 18 4 18 false)) (n + 2)))) ∧
    ((H.rd (Od.ALT_STATE n) ≠ 1 ∨ H.switchOn = false) → exec (.serialFrameClose t n fl c first ch) s = .next (s.settled H)) ∧
    (H.rd (Od.ALT_STATE n) = 1 → H.phyOn n = true → H.nextCopy n false = some (f, k) → exec (.serialTxStart t n) s
        = .next (s.settled (((H.emit (.serialOut n (min (field f.payload 2 2) (hLen f.header - 12))
            (field f.payload 12 (min (field f.payload 2 2) (hLen f.header - 12))))).countOut n f.header).releaseCopy f k))) ∧
    ((H.rd (Od.ALT_STATE n) ≠ 1 ∨ H.phyOn n = false ∨ H.nextCopy n false = none) → exec (.serialTxStart t n) s = .next (s.settled H)) ∧
    (H.rd (Od.ALT_STATE n) = 2 → bits (T.rd (Reg.altParams n)) 16 15 ≠ 1 → exec (.lineTestTrace t n tr loop) s = .next (s.settled T)) ∧
    (H.rd (Od.ALT_STATE n) = 2 → bits (T.rd (Reg.altParams n)) 16 15 = 1 → exec (.lineTestTrace t n tr loop) s
        = .next (s.settled (T.wr (Od.LOOP_RESISTANCE n) loop.toNat))) ∧
    (H.rd (Od.ALT_STATE n) ≠ 2 → exec (.lineTestTrace t n tr loop) s = .next (s.settled H))

/-- R162, R167, R168, R170 to R174, R206: a link comes up. The pull-up starts tConnect while the port is DISCONNECTED, its loss ends the wait,
tConnect leads to the reset, SE0 is followed by the offer window, an offer is granted at the lower of the two classes, no grant leaves the
class of the pull-up; the sink that may offer does so when SE0 ends, a fabric port never, and it counts the runs of the grant, taking its pull-up
off. Where the condition does not hold the command changes nothing. -/
def Obligations.LinkComesUp : Prop :=
  ∀ (t : Stamp) (s : State) (p : Cable) (ts d : Bool),
    let H := s.arrive t
    let P := H.wr (Reg.pullSeen p) (if d then 2 else 1)
    let C := H.wr (Tm.connect p) 0
    let E := H.wr (Tm.se0 p) 0
    let W := H.wr (Tm.offer p) 0
    let class_ := H.grantFor p (if ts then 4 else 3)
    let G (c : Nat) : Hub := ((H.stop (Tm.offer p)).wr (Reg.grant p) c).emit (.grant p c)
    let first := P.rd (Od.PORT_STATE p) = 2 ∧ P.rd (Od.LINK_STATE p) = 0
    let ready := C.rd (Od.PORT_STATE p) = 2 ∧ C.rd (Od.LINK_STATE p) = 1 ∧ C.phyOn p = true
    let sink := H.downstreamEnd p = true ∧ H.rd (Od.LINK_STATE p) = 2
    let offers := sink ∧ 3 ≤ H.rd (Od.CLASS_MAX p) ∧ 16 ≤ p.val ∧ H.fabricPort p = false
    (H.upstreamEnd p = true → H.phyOn p = true → first → exec (.pullupDetected t p d) s
        = .next (s.settled ((P.linkTo p 1).arm (Tm.connect p) (ms 95)))) ∧
    (H.upstreamEnd p = true → H.phyOn p = true → ¬ first → exec (.pullupDetected t p d) s = .next (s.settled P)) ∧
    ((H.upstreamEnd p = false ∨ H.phyOn p = false) → exec (.pullupDetected t p d) s = .next (s.settled H)) ∧
    (H.rd (Od.LINK_STATE p) ≤ 1 → H.upstreamEnd p = true → exec (.pullupLost t p) s
        = .next (s.settled ((H.linkTo p 0).clear [Reg.pullSeen p, Tm.connect p]))) ∧
    ((1 < H.rd (Od.LINK_STATE p) ∨ H.upstreamEnd p = false) → exec (.pullupLost t p) s = .next (s.settled H)) ∧
    (H.due (Tm.connect p) = true → ready → exec (.connectDebounceDone t p) s = .next (s.settled (C.enterResetting p))) ∧
    (H.due (Tm.connect p) = true → ¬ ready → exec (.connectDebounceDone t p) s = .next (s.settled C)) ∧
    (H.due (Tm.connect p) = false → exec (.connectDebounceDone t p) s = .next (s.settled H)) ∧
    (H.due (Tm.se0 p) = true → E.rd (Od.LINK_STATE p) = 2 → exec (.resetSe0End t p) s
        = .next (s.settled (E.arm (Tm.offer p) (ms 2)))) ∧
    (H.due (Tm.se0 p) = true → E.rd (Od.LINK_STATE p) ≠ 2 → exec (.resetSe0End t p) s = .next (s.settled E)) ∧
    (H.due (Tm.se0 p) = false → exec (.resetSe0End t p) s = .next (s.settled H)) ∧
    (H.running (Tm.offer p) = true → H.rd (Od.LINK_STATE p) = 2 → class_ = 3 → exec (.offerEnd t p ts) s
        = .next (s.settled ((G 3).arm (Tm.active p) (us 1640)))) ∧
    (H.running (Tm.offer p) = true → H.rd (Od.LINK_STATE p) = 2 → class_ = 4 → exec (.offerEnd t p ts) s
        = .next (s.settled ((((G 4).linkTo p 3).emit (.train p 1)).arm (Tm.train p) (us 11000)))) ∧
    ((H.running (Tm.offer p) = false ∨ H.rd (Od.LINK_STATE p) ≠ 2 ∨ class_ = 0) → exec (.offerEnd t p ts) s = .next (s.settled H)) ∧
    (∀ (h : Hub) (o : Nat), h.rd (Reg.pullSeen p) ≠ 2 → h.rd (Reg.trainCap p) ≠ 1 → 3 ≤ min o (h.rd (Od.CLASS_MAX p)) →
      h.grantFor p o = min o (h.rd (Od.CLASS_MAX p))) ∧
    (H.due (Tm.offer p) = true → W.rd (Od.LINK_STATE p) = 2 → exec (.offerWindowEnd t p) s
        = .next (s.settled ((W.wr (Reg.grant p) (if W.rd (Reg.pullSeen p) = 2 then 1 else 2)).arm (Tm.active p) 0))) ∧
    (H.due (Tm.offer p) = true → W.rd (Od.LINK_STATE p) ≠ 2 → exec (.offerWindowEnd t p) s = .next (s.settled W)) ∧
    (H.due (Tm.offer p) = false → exec (.offerWindowEnd t p) s = .next (s.settled H)) ∧
    (sink → exec (.grantReceived t p 6) s
        = .next (s.settled ((((H.setPull p 0).wr (Od.LINK_CLASS p) 3).judgeReach p).linkTo p 4))) ∧
    (sink → exec (.grantReceived t p 10) s
        = .next (s.settled (((((H.setPull p 0).wr (Reg.grant p) 4).linkTo p 3).emit (.train p 1)).arm (Tm.train p) (ms 11)))) ∧
    (∀ n : Nat, (¬ sink ∨ (n ≠ 6 ∧ n ≠ 10)) → exec (.grantReceived t p n) s = .next (s.settled H)) ∧
    (offers → exec (.se0Ended t p) s = .next (s.settled (H.emit (.offer p (H.rd (Od.CLASS_MAX p)))))) ∧
    (¬ offers → exec (.se0Ended t p) s = .next (s.settled H))

/-- R78, R172, R206, R211, R448: training. Step 2 sends /TR2/ and records the polarity of both pairs at the upstream end; step 3 enters ACTIVE at
TS, where a RESETTING port's enumeration follows and a trunk that trained again owes an exchange of keys; a training that does not end in time
falls back at the sink and resets the link at the source, which lowers the class after a first training; in RESUMING both ends are in RESET; 1 ms
without a symbol falls back at the sink; and a receiver that loses lock counts it and trains again. -/
def Obligations.Training : Prop :=
  ∀ (t : Stamp) (s : State) (p : Cable) (u : Trunk) (inv inv2 : Bool),
    let H := s.arrive t
    let T := H.wr (Tm.train p) 0
    let S := (H.stop (Tm.noSymbol p)).emit (.train p 2)
    let A := ((H.wr (Od.LINK_CLASS p) 4).judgeReach p).linkTo p 4
    let B := if A.upstreamEnd p = true ∧ A.rd (Od.PORT_STATE p) = 4 then A.arm (Tm.enumStart p) (ms 10) else A
    let keys := H.rd (Reg.retrain p) = 1 ∧ B.upstreamEnd p = true ∧ 16 ≤ p.val ∧ B.rd Od.TRUNK_ENC ≠ 0
    let on := H.running (Tm.train p) = true ∧ (H.rd (Od.LINK_STATE p) = 3 ∨ H.rd (Od.LINK_STATE p) = 6)
    let N := H.wr (Tm.noSymbol u.port) 0
    let st := T.rd (Od.LINK_STATE p)
    let quiet := T.rd (Od.PORT_STATE p) = 3 ∨ T.rd (Od.PORT_STATE p) = 8
    (on → S.upstreamEnd p = true → exec (.trainingLocked t p false inv inv2) s
        = .next (s.settled (S.wr (Od.ORIENTATION p) (putBit (putBit (S.rd (Od.ORIENTATION p)) 1 inv) 2 inv2)))) ∧
    (on → S.upstreamEnd p = false → exec (.trainingLocked t p false inv inv2) s = .next (s.settled S)) ∧
    (on → ¬ keys → exec (.trainingLocked t p true inv inv2) s = .next (s.settled B)) ∧
    (on → keys → exec (.trainingLocked t p true inv inv2) s
        = .next (s.settled ((B.wr (Reg.keyxDue (p - 16)) 1).arm (Tm.keyAgree (p - 16)) (ms 100)))) ∧
    (∀ a : Bool, ¬ on → exec (.trainingLocked t p a inv inv2) s = .next (s.settled H)) ∧
    (H.due (Tm.train p) = true → st = 3 → T.downstreamEnd p = true → exec (.trainTimeout t p) s
        = .next (s.settled ((T.linkDown p).restorePull p))) ∧
    (H.due (Tm.train p) = true → st = 6 → T.downstreamEnd p = true → exec (.trainTimeout t p) s
        = .next (s.settled (((T.clear [Reg.retrain p, Tm.noSymbol p]).linkTo p 2).restorePull p))) ∧
    (H.due (Tm.train p) = true → (st = 3 ∨ st = 6) → T.downstreamEnd p = false → ¬ quiet → T.rd (Reg.retrain p) ≠ 1 →
      exec (.trainTimeout t p) s = .next (s.settled (((T.inc (Od.TRAIN_FAILS p)).wr (Reg.trainCap p) 1).enterResetting p))) ∧
    (H.due (Tm.train p) = true → (st = 3 ∨ st = 6) → T.downstreamEnd p = false → ¬ quiet → T.rd (Reg.retrain p) = 1 →
      exec (.trainTimeout t p) s = .next (s.settled (T.enterResetting p))) ∧
    (H.due (Tm.train p) = true → ((st ≠ 3 ∧ st ≠ 6) ∨ (T.downstreamEnd p = false ∧ quiet)) → exec (.trainTimeout t p) s
        = .next (s.settled T)) ∧
    (H.due (Tm.train p) = false → exec (.trainTimeout t p) s = .next (s.settled H)) ∧
    (H.due (Tm.noSymbol u.port) = true → N.downstreamEnd u.port = true → N.rd (Od.LINK_STATE u.port) = 3 →
      exec (.noValidSymbolTimeout t u) s = .next (s.settled ((N.linkDown u.port).restorePull u.port))) ∧
    (H.due (Tm.noSymbol u.port) = true → (N.downstreamEnd u.port = false ∨ N.rd (Od.LINK_STATE u.port) ≠ 3) →
      exec (.noValidSymbolTimeout t u) s = .next (s.settled N)) ∧
    (H.due (Tm.noSymbol u.port) = false → exec (.noValidSymbolTimeout t u) s = .next (s.settled H)) ∧
    (H.trunkActive u.port = true → exec (.lossOfLock t u) s
        = .next (s.settled ((H.inc (Od.LINK_DROPS u.port)).retrainLink u.port))) ∧
    (H.trunkActive u.port = false → exec (.lossOfLock t u) s = .next (s.settled H))

/-- R169, R173, R243: a reset seen by the hub as the sink of a link. The reset of the control upstream first takes effect on the ports, once; then
the link enters RESET, the reset is counted, a pull-up that had been applied is back, its grant and training end, and the downstream end is reset;
a TS link is reset by its RESET frame. -/
def Obligations.ResetSeen : Prop :=
  ∀ (t : Stamp) (s : State) (p : Cable) (u : Trunk),
    let H := s.arrive t
    let R (q : Nat) (h : Hub) : Hub := ((((h.linkTo q 2).inc (Od.RESETS q)).restorePull q).clear
      [Reg.grant q, Tm.train q, Tm.noSymbol q, Reg.retrain q, Reg.inEp q]).downstreamReset q
    (H.downstreamEnd p = true → H.rd Od.CONTROL_UPSTREAM ≠ p.val → exec (.linkResetSeen t p) s = .next (s.settled (R p H))) ∧
    (H.downstreamEnd p = true → H.rd Od.CONTROL_UPSTREAM = p.val → exec (.linkResetSeen t p) s
        = .next (s.settled (R p H.upstreamResetOnce))) ∧
    (H.downstreamEnd p = false → exec (.linkResetSeen t p) s = .next (s.settled H)) ∧
    (H.rd (Od.LINK_CLASS u.port) = 4 → H.downstreamEnd u.port = true → H.rd Od.CONTROL_UPSTREAM ≠ u.port → exec (.linkResetFrame t u) s
        = .next (s.settled (R u.port H))) ∧
    (H.rd (Od.LINK_CLASS u.port) = 4 → H.downstreamEnd u.port = true → H.rd Od.CONTROL_UPSTREAM = u.port → exec (.linkResetFrame t u) s
        = .next (s.settled (R u.port H.upstreamResetOnce))) ∧
    ((H.rd (Od.LINK_CLASS u.port) ≠ 4 ∨ H.downstreamEnd u.port = false) → exec (.linkResetFrame t u) s = .next (s.settled H)) ∧
    (∀ h : Hub, h.rd (Reg.pullApplied p) ≠ 1 → h.restorePull p = h)

/-- R175 to R180, R208, R209, R238, R240, R268, R271: the grid. At a SOF time of its own a running port sends its SOF and what follows it, one to be
suspended and idle is suspended in place of it, and a boundary that is no SOF time, or had its SOF, sends none; SOF at the sink counts, opens a
link in RESET at its pull-up's class and one that resumes, an extended one is a time message, and a faulty one is counted as its fault. -/
def Obligations.TimingGrid : Prop :=
  ∀ (t : Stamp) (s : State) (p : Cable) (body : BitVec 96) (f : LineFault),
    let H := s.arrive t
    let hs := H.rd (Od.LINK_CLASS p) == 3 || (H.rd (Od.LINK_STATE p) == 2 && H.rd (Reg.grant p) == 3)
    let st := H.rd (Od.PORT_STATE p)
    let sends := H.upstreamEnd p = true ∧ H.phyOn p = true ∧ (st = 4 ∨ st = 5 ∨ st = 7) ∧ H.sofTime p hs = true
    let B := (H.wr (Reg.lastSof p) (H.gridTime / 125000 + 1)).sofOpens p
    let stops := st = 5 ∧ B.rd (Reg.suspendDue p) ≠ 0 ∧ B.onWire p = none ∧ B.slotsBusy p = false
    let ls := H.rd (Od.LINK_STATE p)
    let hears := H.downstreamEnd p = true ∧ H.phyOn p = true ∧ (ls = 2 ∨ ls = 4 ∨ ls = 6)
    let P := H.heardPackets p 1
    let Q := if ls = 2 then ((P.wr (Od.LINK_CLASS p) (if P.rd (Od.CLASS_MAX p) = 1 then 1 else 2)).judgeReach p).linkTo p 4
      else if ls = 6 then (if P.rd (Od.LINK_CLASS p) = 3 then P.setPull p 0 else P).linkTo p 4 else P
    let d := bits body.toNat 95 80
    (sends → B.rd (Od.LINK_STATE p) = 4 → ¬ stops → exec (.sofBoundary t p) s
        = .next (s.settled (((B.sendSof p).sofEnables p).afterSof p))) ∧
    (sends → B.rd (Od.LINK_STATE p) = 4 → stops → exec (.sofBoundary t p) s
        = .next (s.settled (B.enterSuspended p (B.rd (Reg.suspendDue p))))) ∧
    (sends → B.rd (Od.LINK_STATE p) ≠ 4 → exec (.sofBoundary t p) s = .next (s.settled B)) ∧
    (¬ sends → exec (.sofBoundary t p) s = .next (s.settled H)) ∧
    (∀ h : Hub, h.rd (Reg.lastSof p) = h.gridTime / 125000 + 1 → h.sofTime p hs = false) ∧
    (∀ h : Hub, h.isOn 5 = false → h.sofTime p hs = false) ∧
    (hears → f ≠ .good → exec (.sofReceived t p body f) s = .next (s.settled (H.countFault p f))) ∧
    (hears → hasBit body.toNat 15 = false → exec (.sofReceived t p body .good) s = .next (s.settled Q)) ∧
    (hears → hasBit body.toNat 15 = true → d = 0xFFFF → exec (.sofReceived t p body .good) s
        = .next (s.settled (Q.timeMessage p (bits body.toNat 79 16) none Q.timebase))) ∧
    (hears → hasBit body.toNat 15 = true → d ≠ 0xFFFF → exec (.sofReceived t p body .good) s
        = .next (s.settled (Q.timeMessage p (bits body.toNat 79 16) (some (d * 8)) Q.timebase))) ∧
    (¬ hears → exec (.sofReceived t p body f) s = .next (s.settled H))

/-- R13, R179, R182, R185, R189, R192, R195: tokens and bursts at the hub as the sink of an ACTIVE packet link. A token with a fault is counted
and no more, as is one of a reserved encoding, and one for another device is counted as heard; OUT opens its data phase; IN on endpoint 1 with no
frame begun answers NAK with the hub's own send number; IN and PING on a halted endpoint 1 answer STALL; PING answers NAK below 9 free
cells and ACK otherwise, and one with TIME always ACK; IN on endpoint 0 with no transfer open answers NAK; data after OUT on endpoints 0 and 1
reach them, each packet judged by MAX, and data after no OUT are only counted. -/
def Obligations.TokensAndData : Prop :=
  ∀ (t : Stamp) (s : State) (p : Cable) (d : Byte) (n : Fin 8) (f : LineFault) (qs : List Packet) (e time : Bool),
    let H := s.arrive t
    let T := (H.heardPackets p 1).clear [Reg.outToken p, Reg.inEp p, Reg.splitAck p]
    let js := qs.map (Hub.judgeLength (H.portMax p))
    let D := H.wr (Reg.outToken p) 0
    let mine := d.toNat = H.rd (Reg.myAddr p) ∧ d.toNat ≠ 255
    H.answersOn p = true →
    (∀ (k : Token) (ep : Fin 16), f ≠ .good → exec (.tokenReceived t p k d ep n time f) s = .next (s.settled (H.countFault p f))) ∧
    (∀ (k : Token) (ep : Fin 16), (d.toNat = 255 ∨ (time = true ∧ k ≠ .ping)) → exec (.tokenReceived t p k d ep n time .good) s
        = .next (s.settled (H.reservedPacket p))) ∧
    (∀ (k : Token) (ep : Fin 16), d.toNat ≠ H.rd (Reg.myAddr p) → d.toNat ≠ 255 → (time = false ∨ k = .ping) →
      exec (.tokenReceived t p k d ep n time .good) s = .next (s.settled T)) ∧
    (∀ ep : Fin 16, mine → exec (.tokenReceived t p .out d ep n false .good) s
        = .next (s.settled (T.wr (Reg.outToken p) (ep + 1)))) ∧
    (mine → T.controlOf p = none → exec (.tokenReceived t p .in_ d 0 n false .good) s
        = .next (s.settled (T.emit (.handshake p 0xA (T.rd (Reg.mySend p 0) % 16))))) ∧
    (mine → T.rd Od.EP1_IN_HALT ≠ 0 → exec (.tokenReceived t p .in_ d 1 n false .good) s
        = .next (s.settled ((T.emit (.handshake p 0xB 0)).inc Od.STALLS_SENT))) ∧
    (mine → T.rd Od.EP1_IN_HALT = 0 → T.fabricPort p = false → T.begunCopy p = none → exec (.tokenReceived t p .in_ d 1 n false .good) s
        = .next (s.settled (T.emit (.handshake p 0xA (T.rd (Reg.mySend p 1) % 16))))) ∧
    (mine → T.rd Od.EP1_IN_HALT = 0 → T.fabricPort p = true → exec (.tokenReceived t p .in_ d 1 n false .good) s
        = .next (s.settled (T.fabricIn p n))) ∧
    (mine → T.rd Od.EP1_OUT_HALT ≠ 0 → exec (.tokenReceived t p .ping d 1 n time .good) s
        = .next (s.settled ((T.emit (.handshake p 0xB 0)).inc Od.STALLS_SENT))) ∧
    (mine → T.rd Od.EP1_OUT_HALT = 0 → exec (.tokenReceived t p .ping d 1 n time .good) s
        = .next (s.settled (T.emit (.handshake p (if T.freeCells < 9 then 0xA else 9) 0)))) ∧
    (mine → exec (.tokenReceived t p .ping d 0 n true .good) s = .next (s.settled ((H.heardPackets p 1).emit (.handshake p 9 0)))) ∧
    exec (.pingTimeEcho t p) s = .next (s.settled ((H.heardPackets p 1).emit (.handshake p 9 0))) ∧
    (H.rd (Reg.outToken p) = 1 → exec (.dataBurstReceived t p qs e) s = .next (s.settled (D.controlOut p js))) ∧
    (H.rd (Reg.outToken p) = 2 → exec (.dataBurstReceived t p qs e) s = .next (s.settled (D.frameOutIn p js))) ∧
    (H.rd (Reg.outToken p) ≠ 1 → H.rd (Reg.outToken p) ≠ 2 → exec (.dataBurstReceived t p qs e) s
        = .next (s.settled (D.countBurst p js ⟨0, 0, 0, 0, 0, 0⟩)))

/-- R13, R162, R183, R186 to R193: endpoint 0 and the handshakes. SETUP for another device only counts, one of a reserved encoding is
discarded; an illegal KIND, length or request answers ACK NEXT 1 and leaves a transfer that stalls; a standard request leaves its answer; an OD
request of a trunk is served at once or waits for its data. At the sink ACK of a split frees its slot, and of a burst moves the acknowledged number;
at the upstream end a handshake answers the transaction on the wire or is invalid, and ACK of PING with TIME gives CABLE_DELAY; tResponse
repeats the transaction up to three times, then ends it in error; tBurstEnd acknowledges what came. -/
def Obligations.Handshakes : Prop :=
  ∀ (t : Stamp) (s : State) (p : Cable) (d : Byte) (r : BitVec 64) (k : Handshake) (n : Fin 16) (e : Option Nat) (f : LineFault) (x : Txn)
    (y : TxnResult),
    let H := s.arrive t
    let V := H.heardPackets p 1
    let S := (((((H.heardPackets p 2).endControl p).wr (Reg.myE p 0) 1).wr (Reg.mySend p 0) 0).clear
      [Reg.outToken p, Reg.inEp p, Reg.splitAck p]).emit (.handshake p 9 1)
    let C : Control := { port := p, setup := r.toNat, stage := 2, stall := false, len := 0, data := 0 }
    let kind := Hub.suKind r.toNat
    let long := 1016 < Hub.suLen r.toNat
    let mine := H.answersOn p = true ∧ d.toNat ≠ 255 ∧ d.toNat = H.rd (Reg.myAddr p)
    let od := kind = 1 ∧ ¬ long ∧ S.fabricPort p = false ∧ 16 ≤ p.val ∧ Hub.odDirOk r.toNat = true
    let atOnce := Hub.suIn r.toNat = true ∨ Hub.suLen r.toNat = 0 ∨ S.haltedFor p (Hub.suReq r.toNat) (Hub.suIndex r.toNat) (Hub.suValue r.toNat) = true
    let L := H.rd (Od.LINK_STATE p) = 4 ∧ H.rd (Od.LINK_CLASS p) ≠ 4 ∧ H.phyOn p = true
    let open_ := L ∧ V.downstreamEnd p = false ∧ V.onWire p = some x ∧ x.result = none
    let ep := V.rd (Reg.inEp p) - 1
    let acks := ackedOf (V.rd (Reg.mySend p ep)) n
    (H.answersOn p = true → f ≠ .good → exec (.setupReceived t p d r f) s = .next (s.settled (H.countFault p f))) ∧
    (H.answersOn p = true → d.toNat = 255 → exec (.setupReceived t p d r .good) s = .next (s.settled (H.reservedPacket p))) ∧
    (H.answersOn p = true → d.toNat ≠ 255 → d.toNat ≠ H.rd (Reg.myAddr p) → exec (.setupReceived t p d r .good) s = .next (s.settled V)) ∧
    (mine → (2 ≤ kind ∨ long ∨ (kind = 0 ∧ Hub.standardOk r.toNat = false) ∨
      (kind = 1 ∧ (S.fabricPort p = true ∨ p.val < 16 ∨ Hub.odDirOk r.toNat = false))) →
      exec (.setupReceived t p d r .good) s = .next (s.settled (S.putControl { C with stall := true }))) ∧
    (mine → kind = 0 → ¬ long → Hub.standardOk r.toNat = true → exec (.setupReceived t p d r .good) s
        = .next (s.settled (S.putControl { C with len := (S.standardData r.toNat).1, data := (S.standardData r.toNat).2 }))) ∧
    (mine → od → atOnce → exec (.setupReceived t p d r .good) s
        = .next (s.settled ((S.putControl { C with stage := 1 }).serveControl p C false))) ∧
    (mine → od → ¬ atOnce → exec (.setupReceived t p d r .good) s = .next (s.settled (S.putControl { C with stage := 0 }))) ∧
    (H.answersOn p = false → exec (.setupReceived t p d r f) s = .next (s.settled H)) ∧
    (¬ L → exec (.handshakeReceived t p k n e f) s = .next (s.settled H)) ∧
    (L → f ≠ .good → exec (.handshakeReceived t p k n e f) s = .next (s.settled (H.countFault p f))) ∧
    (open_ → V.handshakeResult x k n = some y → (x.kind ≠ .timePing ∨ k ≠ .ack ∨ e = none) → exec (.handshakeReceived t p k n e .good) s
        = .next (s.settled (V.startTxn { x with heard := true, result := some y }))) ∧
    (open_ → x.kind = .timePing → x.isIn = false → ∀ ns : Nat, exec (.handshakeReceived t p .ack n (some ns) .good) s
        = .next (s.settled (((V.startTxn { x with heard := true, result := some (.ack n) }).wr (Od.CABLE_DELAY p)
            (min 65535 ((ns - 4000) / 2 / 8))).wr (Reg.tickSeen p) 1))) ∧
    (open_ → V.handshakeResult x k n = none → exec (.handshakeReceived t p k n e .good) s
        = .next (s.settled (V.startTxn { x with heard := true }))) ∧
    (∀ h : Hub, h.handshakeResult x .nak n = some (.nak n) ∧ h.handshakeResult x .stall n = some .stall ∧
      (x.isIn = false → ackedOf x.first n ≤ x.packets → h.handshakeResult x .ack n = some (.ack n)) ∧
      (x.isIn = true → h.handshakeResult x .ack n = none) ∧ (h.rd (Od.LINK_CLASS x.port) ≠ 3 → h.handshakeResult x .nyet n = none)) ∧
    (L → V.downstreamEnd p = true → V.rd (Reg.splitAck p) ≠ 0 → exec (.handshakeReceived t p .ack n e .good) s
        = .next (s.settled (((V.freeSlot (V.rd (Reg.splitAck p) - 1)).inc Od.SPLITS_COMPLETED).wr (Reg.splitAck p) 0))) ∧
    (L → V.downstreamEnd p = true → V.rd (Reg.splitAck p) = 0 → V.rd (Reg.inEp p) ≠ 0 → acks ≤ V.rd (Reg.myOut p ep) →
      exec (.handshakeReceived t p .ack n e .good) s
        = .next (s.settled (((V.wr (Reg.mySend p ep) n).wr (Reg.inEp p) 0).acknowledged p ep acks))) ∧
    (H.due (Tm.linkResp p) = true → H.answersOn p = true → exec (.linkResponseTimeout t p) s
        = .next (s.settled (H.clear [Reg.inEp p, Reg.splitAck p, Tm.linkResp p]))) ∧
    (H.due (Tm.linkResp p) = true → H.answersOn p = false → H.onWire p = some x → x.result = none → x.tries < 3 →
      exec (.linkResponseTimeout t p) s
        = .next (s.settled (((H.inc (Od.TIMEOUTS p)).inc (Od.RETRIES p)).goTxn { x with tries := x.tries + 1 }))) ∧
    (H.due (Tm.linkResp p) = true → H.answersOn p = false → H.onWire p = some x → x.result = none → 3 ≤ x.tries →
      exec (.linkResponseTimeout t p) s = .next (s.settled ((H.inc (Od.TIMEOUTS p)).startTxn { x with result := some .error }))) ∧
    (H.due (Tm.linkResp p) = false → exec (.linkResponseTimeout t p) s = .next (s.settled H)) ∧
    (H.rd (Reg.burstAck p) ≠ 0 → exec (.burstEndTimeout t p) s
        = .next (s.settled ((H.emit (.handshake p 9 (H.rd (Reg.burstAck p) - 1))).wr (Reg.burstAck p) 0))) ∧
    (H.rd (Reg.burstAck p) = 0 → exec (.burstEndTimeout t p) s = .next (s.settled H))

/-- R194, R197, R205, R224, R225, R284: the standard requests at the hub as the sink of an ACTIVE packet link, and CONTROL frames. GET_STATUS and
IDENTIFY answer their records, an endpoint the hub does not have and a reserved address are stalled, CLEAR_HALT is stalled while its cause is
present and else clears the halt and its sequence; a CONTROL REQUEST is served, a repeat of the TAG answered last gets the stored RESPONSE and one
still being served is ignored, a routed one waits for the hub's ID; a RESPONSE answers the hub's own request on the wire. -/
def Obligations.StandardRequests : Prop :=
  ∀ (t : Stamp) (s : State) (p : Cable) (u : Trunk) (i : BitVec 16) (k : Nat) (src : BitVec 24) (tag : BitVec 16) (len data : Nat)
    (b g stalls : Bool) (r : StoredResponse) (x : Txn),
    let H := s.arrive t
    let stall : Hub := (H.emit (.handshake p 0xB 0)).inc Od.STALLS_SENT
    let ep := i.toNat % 16
    let clears := H.answersOn p = true ∧ Hub.haltKey i.toNat = some k ∧ H.haltCause i.toNat = 0
    let payload := data % 256 ^ len
    let rec_ := payload % 2 ^ 64
    let wants := if Hub.suIn rec_ then 0 else Hub.suLen rec_
    let H1 : Hub := { H with stored := ⟨0, u.port, tag.toNat, 2, 0, 0, Hub.keyEntry rec_⟩ :: H.stored }
    let mine (z : StoredResponse) : Bool := z.port == u.port && z.src == 0 && z.tag == tag.toNat
    let fresh := H.trunkActive u.port = true ∧ H.storedOf u.port 0 tag.toNat = none
    let bad := len < 8 ∨ 2 ≤ Hub.suKind rec_ ∨ 1016 < Hub.suLen rec_ ∨ len - 8 ≠ wants
    let F := H1.standardFrame u.port rec_
    let asked := (H.txnOf u.port).filter (fun y => y.first == tag.toNat && y.result.isNone)
    (H.answersOn p = true → Hub.haltKey i.toNat = some k → exec (.getStatus t p i) s = .next (s.settled (H.emit (.controlData p 4 (H.statusOf k))))) ∧
    (H.answersOn p = true → Hub.haltKey i.toNat = none → exec (.getStatus t p i) s = .next (s.settled stall)) ∧
    (H.answersOn p = false → exec (.getStatus t p i) s = .next (s.settled H)) ∧
    (clears → ep = 0 → exec (.clearHalt t p i) s = .next (s.settled ((H.wr k 0).emit (.controlData p 0 0)))) ∧
    (clears → ep ≠ 0 → hasBit i.toNat 7 = true → exec (.clearHalt t p i) s
        = .next (s.settled (((H.wr k 0).wr (Reg.mySend p ep) 0).emit (.controlData p 0 0)))) ∧
    (clears → ep ≠ 0 → hasBit i.toNat 7 = false → exec (.clearHalt t p i) s
        = .next (s.settled (((H.wr k 0).wr (Reg.myE p ep) 0).emit (.controlData p 0 0)))) ∧
    (H.answersOn p = true → (Hub.haltKey i.toNat = none ∨ H.haltCause i.toNat ≠ 0) → exec (.clearHalt t p i) s = .next (s.settled stall)) ∧
    (H.answersOn p = false → exec (.clearHalt t p i) s = .next (s.settled H)) ∧
    (H.answersOn p = true → 1 ≤ i.toNat → i.toNat ≤ 254 → exec (.setAddress t p i) s
        = .next (s.settled ((H.takeAddress p i.toNat).emit (.controlData p 0 0)))) ∧
    (H.answersOn p = true → (i.toNat = 0 ∨ 254 < i.toNat) → exec (.setAddress t p i) s = .next (s.settled stall)) ∧
    (H.answersOn p = false → exec (.setAddress t p i) s = .next (s.settled H)) ∧
    (H.answersOn p = true → exec (.identify t p) s = .next (s.settled (H.emit (.controlData p 32 H.identifyRecord)))) ∧
    (H.answersOn p = false → exec (.identify t p) s = .next (s.settled H)) ∧
    (H.trunkActive u.port = true → H.storedOf u.port 0 tag.toNat = some r → r.result ≠ 2 →
      exec (.controlFrameRequest t (some u) src tag len data b g) s = .next (s.settled (H.sendResponse r))) ∧
    (H.trunkActive u.port = true → H.storedOf u.port 0 tag.toNat = some r → r.result = 2 →
      exec (.controlFrameRequest t (some u) src tag len data b g) s = .next (s.settled H)) ∧
    (fresh → bad → exec (.controlFrameRequest t (some u) src tag len data b g) s = .next (s.settled (H1.answerFrame mine true 0 0))) ∧
    (fresh → ¬ bad → Hub.suKind rec_ = 0 → exec (.controlFrameRequest t (some u) src tag len data b g) s
        = .next (s.settled (F.2.2.2.answerFrame mine F.1 F.2.1 F.2.2.1))) ∧
    (fresh → ¬ bad → Hub.suKind rec_ = 1 → Hub.odDirOk rec_ = false → exec (.controlFrameRequest t (some u) src tag len data b g) s
        = .next (s.settled (H1.answerFrame mine true 0 0))) ∧
    (fresh → ¬ bad → Hub.suKind rec_ = 1 → Hub.odDirOk rec_ = true → exec (.controlFrameRequest t (some u) src tag len data b g) s
        = .next (s.settled (H1.linkRequest u.port (Hub.suReq rec_) (Hub.suIndex rec_) (Hub.suValue rec_) (Hub.suLen rec_)
            (payload / 2 ^ 64 % 256 ^ (len - 8)) b g false))) ∧
    (H.trunkActive u.port = false → exec (.controlFrameRequest t (some u) src tag len data b g) s = .next (s.settled H)) ∧
    (H.flintOn = true → H.rd Od.HUB_ID_ASSIGNED = 1 → exec (.controlFrameRequest t none src tag len data b g) s
        = .next (s.settled (H.controlRequest 18 src.toNat tag.toNat len payload b g))) ∧
    ((H.flintOn = false ∨ H.rd Od.HUB_ID_ASSIGNED ≠ 1) → exec (.controlFrameRequest t none src tag len data b g) s = .next (s.settled H)) ∧
    (H.trunkActive u.port = true → asked = some x → exec (.controlResponseReceived t u tag true len data) s
        = .next (s.settled (H.startTxn { x with heard := true, result := some .stall }))) ∧
    (H.trunkActive u.port = true → asked = some x → x.kind = .identify → exec (.controlResponseReceived t u tag false len data) s
        = .next (s.settled (H.startTxn { x with heard := true, result := some (.data 0 1 len payload) }))) ∧
    (H.trunkActive u.port = true → asked = some x → x.kind ≠ .identify → exec (.controlResponseReceived t u tag false len data) s
        = .next (s.settled (H.startTxn { x with heard := true, result := some (.ack 0) }))) ∧
    (H.trunkActive u.port = false → exec (.controlResponseReceived t u tag stalls len data) s = .next (s.settled H))

/-- R13, R201 to R204, R207, R268, R448, R451: frames on an ACTIVE link in the order of their checks (code, header check, poisoned, CRC-32 over
header, payload and tag, reserved encoding, tag under the current or the next key), and the link-control frames of a trunk: CREDIT gives
the four limits and CONTROL that waited for credit starts, TICK is a time message, PROBE is answered with ECHO, ECHO gives CABLE_DELAY, STATUS the
far end's halts, and CREDIT and STATUS go again when their times have passed. -/
def Obligations.TrunkFrames : Prop :=
  ∀ (t : Stamp) (s : State) (p : Cable) (u : Trunk) (h : BitVec 128) (len data : Nat) (tag : BitVec 128) (crc : Word) (poi code : Bool)
    (w t1 t2 t3 : BitVec 64) (v : Word),
    let H := s.arrive t
    let hd := h.toNat
    let pay := data % 256 ^ len
    let L := H.rd (Od.LINK_STATE p) = 4 ∧ H.phyOn p = true
    let whole := L ∧ withCheck hd = hd ∧ Hub.crcPasses hd len pay tag.toNat crc.toNat = true
    let fit := whole ∧ reservedHeader hd = false
    let keyed := fit ∧ hEnc hd = 1 ∧ H.trunkActive p = true ∧ H.linkRefuses p hd = false
    let under (k : Option (Nat × Nat)) : Bool := H.tagUnder (p - 16) hd len pay tag.toNat k
    let ks := H.linkKeyOf (p - 16)
    let C := H.wr (Tm.credit u.port) 0
    let S := H.wr (Tm.status u.port) 0
    (L → exec (.trunkFrameReceived t p h len data tag crc poi true) s = .next (s.settled (H.linkError p (Od.RX_CODE_ERR p)))) ∧
    (L → withCheck hd ≠ hd → exec (.trunkFrameReceived t p h len data tag crc poi false) s = .next (s.settled (H.inc (Od.HDR_CHECK_ERR p)))) ∧
    (L → withCheck hd = hd → exec (.trunkFrameReceived t p h len data tag crc true false) s = .next (s.settled (H.inc (Od.RX_POISONED p)))) ∧
    (L → withCheck hd = hd → Hub.crcPasses hd len pay tag.toNat crc.toNat = false →
      exec (.trunkFrameReceived t p h len data tag crc false false) s = .next (s.settled (H.linkError p (Od.RX_CRC_ERR p)))) ∧
    (whole → reservedHeader hd = true → exec (.trunkFrameReceived t p h len data tag crc false false) s
        = .next (s.settled (H.inc (Od.HDR_CHECK_ERR p)))) ∧
    (fit → hEnc hd = 1 → (H.trunkActive p = false ∨ H.linkRefuses p hd = true) →
      exec (.trunkFrameReceived t p h len data tag crc false false) s = .next (s.settled (H.inc Od.TAG_FAILS))) ∧
    (fit → hEnc hd = 0 → H.trunkActive p = true → exec (.trunkFrameReceived t p h len data tag crc false false) s
        = .next (s.settled (H.frameAccepted p hd))) ∧
    (fit → hEnc hd = 0 → H.trunkActive p = false → exec (.trunkFrameReceived t p h len data tag crc false false) s = .next (s.settled H)) ∧
    (keyed → under ks.rxCur = true → exec (.trunkFrameReceived t p h len data tag crc false false) s
        = .next (s.settled ((H.tagPassed (p - 16) false).frameAccepted p hd))) ∧
    (keyed → under ks.rxCur = false → under ks.rxNext = true → exec (.trunkFrameReceived t p h len data tag crc false false) s
        = .next (s.settled ((H.tagPassed (p - 16) true).frameAccepted p hd))) ∧
    (keyed → under ks.rxCur = false → under ks.rxNext = false → exec (.trunkFrameReceived t p h len data tag crc false false) s
        = .next (s.settled (H.tagFailed (p - 16)))) ∧
    (¬ L → exec (.trunkFrameReceived t p h len data tag crc poi code) s = .next (s.settled H)) ∧
    (H.trunkActive u.port = true → exec (.linkCredit t u w) s
        = .next (s.settled (((((H.wr (Reg.crLimit u.port 0) (field w.toNat 0 2)).wr (Reg.crLimit u.port 1) (field w.toNat 2 2)).wr
            (Reg.crLimit u.port 2) (field w.toNat 4 2)).wr (Reg.crLimit u.port 3) (field w.toNat 6 2)).pumpControl u.port))) ∧
    (H.trunkActive u.port = false → exec (.linkCredit t u w) s = .next (s.settled H)) ∧
    (H.trunkActive u.port = true → H.downstreamEnd u.port = true → H.rd (Reg.tickSeen u.port) = 1 → exec (.linkTick t u w) s
        = .next (s.settled (H.timeMessage u.port w.toNat (some (H.rd (Od.CABLE_DELAY u.port) * 8)) H.timebase))) ∧
    (H.trunkActive u.port = true → H.downstreamEnd u.port = true → H.rd (Reg.tickSeen u.port) ≠ 1 → exec (.linkTick t u w) s
        = .next (s.settled (H.timeMessage u.port w.toNat none H.timebase))) ∧
    ((H.trunkActive u.port = false ∨ H.downstreamEnd u.port = false) → exec (.linkTick t u w) s = .next (s.settled H)) ∧
    (H.trunkActive u.port = true → H.upstreamEnd u.port = true → exec (.linkProbe t u t1) s
        = .next (s.settled (H.sendLink u.port 4 (pack [(8, t1.toNat), (8, H.timebase), (8, H.timebase)])))) ∧
    ((H.trunkActive u.port = false ∨ H.upstreamEnd u.port = false) → exec (.linkProbe t u t1) s = .next (s.settled H)) ∧
    (H.trunkActive u.port = true → H.downstreamEnd u.port = true → exec (.linkEcho t u t1 t2 t3) s
        = .next (s.settled ((H.wr (Od.CABLE_DELAY u.port) (min 65535 (((H.timebase - t1.toNat) - (t3.toNat - t2.toNat)) / 2 / 8))).wr
            (Reg.tickSeen u.port) 1))) ∧
    ((H.trunkActive u.port = false ∨ H.downstreamEnd u.port = false) → exec (.linkEcho t u t1 t2 t3) s = .next (s.settled H)) ∧
    (H.trunkActive u.port = true → exec (.linkStatus t u v) s = .next (s.settled (H.wr (Reg.peerHalts u.port) v.toNat))) ∧
    (H.trunkActive u.port = false → exec (.linkStatus t u v) s = .next (s.settled H)) ∧
    (H.due (Tm.credit u.port) = true → C.trunkActive u.port = true → exec (.creditTimer t u) s
        = .next (s.settled (((C.sendLink u.port 1 (C.creditPayload u.port)).wr (Reg.creditTold u.port) (C.creditPayload u.port + 1)).arm
            (Tm.credit u.port) (us 100)))) ∧
    (H.due (Tm.credit u.port) = true → C.trunkActive u.port = false → exec (.creditTimer t u) s = .next (s.settled C)) ∧
    (H.due (Tm.credit u.port) = false → exec (.creditTimer t u) s = .next (s.settled H)) ∧
    (H.due (Tm.status u.port) = true → S.trunkActive u.port = true → exec (.linkStatusTimer t u) s
        = .next (s.settled (((S.sendLink u.port 5 S.statusPayload).wr (Reg.statusTold u.port) (S.statusPayload + 1)).arm
            (Tm.status u.port) (ms 100)))) ∧
    (H.due (Tm.status u.port) = true → S.trunkActive u.port = false → exec (.linkStatusTimer t u) s = .next (s.settled S)) ∧
    (H.due (Tm.status u.port) = false → exec (.linkStatusTimer t u) s = .next (s.settled H))

/-- R208 to R212, R239, R241, R242, R334: suspend, resume and wake. A link silent for tSuspend is suspended on J, or reset on SE0, and one heard
since is left alone; SUSPEND on a trunk is answered; the upstream end's resume is seen on a SUSPENDED link; tResume ends in the EOP and the first
SOF; a wake is counted, taken note of on a SUSPENDED port that enables it, and ignored and counted where the port is not to take it. -/
def Obligations.SuspendAndResume : Prop :=
  ∀ (t : Stamp) (s : State) (p : Cable) (u : Trunk) (o : Stamp) (b : Bool),
    let H := s.arrive t
    let silent := H.answersOn p = true ∧ H.rd (Reg.heardAt p) + us 2900 ≤ H.now + 1
    let J := if H.rd (Od.LINK_CLASS p) = 3 then H.restorePull p else H
    let D (q : Nat) (h : Hub) : Hub :=
      if (h.linkTo q 5).rd Od.CONTROL_UPSTREAM = q ∧ (h.linkTo q 5).sinkActive ((h.linkTo q 5).rd Od.STANDBY_UPSTREAM) = false then
        (h.linkTo q 5).upstreamSuspended else h.linkTo q 5
    let R := H.linkTo p 6
    let K := H.wr (Tm.resumeK p) 0
    let W := H.inc (Od.WAKES_RX p)
    let takes := W.rd (Od.PORT_STATE p) = 6 ∧ W.rd (Od.WAKE_ENABLE p) = 1
    (silent → exec (.suspendDetected t p false) s = .next (s.settled (D p J))) ∧
    (silent → exec (.suspendDetected t p true) s = .next (s.settled (J.resetSeen p))) ∧
    (¬ silent → exec (.suspendDetected t p b) s = .next (s.settled H)) ∧
    (H.trunkActive u.port = true → H.downstreamEnd u.port = true → exec (.linkSuspend t u) s
        = .next (s.settled (D u.port (H.sendLink u.port 6 0)))) ∧
    ((H.trunkActive u.port = false ∨ H.downstreamEnd u.port = false) → exec (.linkSuspend t u) s = .next (s.settled H)) ∧
    (H.downstreamEnd p = true → H.rd (Od.LINK_STATE p) = 5 → R.rd (Od.LINK_CLASS p) ≠ 4 → exec (.resumeDetected t p) s
        = .next (s.settled R)) ∧
    (H.downstreamEnd p = true → H.rd (Od.LINK_STATE p) = 5 → R.rd (Od.LINK_CLASS p) = 4 → exec (.resumeDetected t p) s
        = .next (s.settled (((R.wr (Reg.retrain p) 1).emit (.train p 1)).arm (Tm.train p) (ms 11)))) ∧
    ((H.downstreamEnd p = false ∨ H.rd (Od.LINK_STATE p) ≠ 5) → exec (.resumeDetected t p) s = .next (s.settled H)) ∧
    (H.due (Tm.resumeK p) = true → K.rd (Od.LINK_STATE p) = 6 → exec (.resumeKEnd t p) s
        = .next (s.settled ((K.emit (.resumeEop p)).arm (Tm.firstSof p) (us 500)))) ∧
    (H.due (Tm.resumeK p) = true → K.rd (Od.LINK_STATE p) ≠ 6 → exec (.resumeKEnd t p) s = .next (s.settled K)) ∧
    (H.due (Tm.resumeK p) = false → exec (.resumeKEnd t p) s = .next (s.settled H)) ∧
    (H.upstreamEnd p = true → takes → exec (.wakeDetected t p o b) s
        = .next (s.settled ((W.wr (Reg.wakeOnset p) (o + 1)).wr (Reg.wakePresent p) (if b then 1 else 0)))) ∧
    (H.upstreamEnd p = true → ¬ takes → W.rd (Od.PORT_STATE p) ≠ 7 → exec (.wakeDetected t p o b) s
        = .next (s.settled (W.inc (Od.WAKES_IGNORED p)))) ∧
    (H.upstreamEnd p = true → W.rd (Od.PORT_STATE p) = 7 → exec (.wakeDetected t p o b) s = .next (s.settled W)) ∧
    (H.upstreamEnd p = false → exec (.wakeDetected t p o b) s = .next (s.settled H))

/-- R249 to R253, R262, R264, R265: Quartz. A write of a poll entry waits for the next micro-frame; START needs an assigned hub and a state other
than RUNNING; STOP and PAUSE by the state they find; while PD5 is not ON the result of every one of them is 3; a micro-frame is begun once, and
while Quartz does not run only its writes take effect; a START that pended takes effect in a later micro-frame; a window that ended closes its
batch; a poll that ended leaves the list and is judged. -/
def Obligations.QuartzRuns : Prop :=
  ∀ (t : Stamp) (s : State) (e : Fin 4096) (v : BitVec 256) (p : Dn) (j : PollJob),
    let H := s.arrive t
    let code (c : Nat) : Nat := H.writeCode Od.QUARTZ_CMD c
    let X (c : Nat) : Hub := if code c = 0 then H.keep Od.QUARTZ_CMD c else H
    let k := H.timebase / 125000
    let sm := (H.takeWrites k).wr Reg.lastUframe (k + 1)
    let begins := H.isOn 5 = true ∧ H.rd Reg.lastUframe < k + 1
    let noStart := sm.rd Reg.startPend = 0 ∨ k < sm.rd Reg.startUframe
    let run (x : Hub) : Hub := (x.dueIn k).foldl (Hub.fallDue k) (x.raisePeaks (x.dueIn k))
    let go (x : Hub) : Hub := ((x.wr Od.QUARTZ_STATE 1).wr Od.PAUSE_CAUSE 0).wr Reg.startPend 0
    (H.Writable (Od.POLL e) v.toNat → exec (.pollEntryWrite t e v) s
        = .next (s.settled (({ H.keep (Od.POLL e) v.toNat with
            pollWrites := (H.keep (Od.POLL e) v.toNat).pollWrites ++ [⟨e, v.toNat, (H.keep (Od.POLL e) v.toNat).timebase / 125000⟩] } : Hub).wrote 0))) ∧
    ((X 1).isOn 5 = true → (X 1).rd Od.QUARTZ_STATE ≠ 1 → (X 1).rd Od.HUB_ID_ASSIGNED ≠ 0 →
      exec (.quartzStart t) s
        = .next (s.settled (((((X 1).wr Reg.startPend (if (X 1).rd Od.QUARTZ_STATE = 0 then 1 else 2)).wr Reg.startUframe
            ((X 1).timebase / 125000 + 1)).wr Od.QUARTZ_CMD_RESULT 1).wrote (code 1)))) ∧
    ((X 1).isOn 5 = true → (X 1).rd Od.QUARTZ_STATE = 1 ∨ (X 1).rd Od.HUB_ID_ASSIGNED = 0 →
      exec (.quartzStart t) s = .next (s.settled (((X 1).wr Od.QUARTZ_CMD_RESULT 2).wrote (code 1)))) ∧
    ((X 1).isOn 5 = false → exec (.quartzStart t) s = .next (s.settled (((X 1).wr Od.QUARTZ_CMD_RESULT 3).wrote (code 1)))) ∧
    ((X 2).isOn 5 = true → (X 2).rd Od.QUARTZ_STATE ≠ 0 →
      exec (.quartzStop t) s = .next (s.settled ((((X 2).quartzLeave 0 0).wr Od.QUARTZ_CMD_RESULT 1).wrote (code 2)))) ∧
    ((X 2).isOn 5 = true → (X 2).rd Od.QUARTZ_STATE = 0 →
      exec (.quartzStop t) s = .next (s.settled (((X 2).wr Od.QUARTZ_CMD_RESULT 2).wrote (code 2)))) ∧
    ((X 2).isOn 5 = false → exec (.quartzStop t) s = .next (s.settled (((X 2).wr Od.QUARTZ_CMD_RESULT 3).wrote (code 2)))) ∧
    ((X 3).isOn 5 = true → (X 3).rd Od.QUARTZ_STATE = 1 →
      exec (.quartzPause t) s = .next (s.settled ((((X 3).quartzLeave 2 1).wr Od.QUARTZ_CMD_RESULT 1).wrote (code 3)))) ∧
    ((X 3).isOn 5 = true → (X 3).rd Od.QUARTZ_STATE ≠ 1 →
      exec (.quartzPause t) s = .next (s.settled (((X 3).wr Od.QUARTZ_CMD_RESULT 2).wrote (code 3)))) ∧
    ((X 3).isOn 5 = false → exec (.quartzPause t) s = .next (s.settled (((X 3).wr Od.QUARTZ_CMD_RESULT 3).wrote (code 3)))) ∧
    (H.isOn 5 = false ∨ k + 1 ≤ H.rd Reg.lastUframe → exec (.microframeStart t) s = .next (s.settled H)) ∧
    (begins → noStart → sm.rd Od.QUARTZ_STATE ≠ 1 → exec (.microframeStart t) s = .next (s.settled sm)) ∧
    (begins → noStart → sm.rd Od.QUARTZ_STATE = 1 → exec (.microframeStart t) s = .next (s.settled (run sm))) ∧
    (begins → sm.rd Reg.startPend = 1 → sm.rd Reg.startUframe ≤ k →
      exec (.microframeStart t) s = .next (s.settled (run (go sm.clearEntries)))) ∧
    (begins → sm.rd Reg.startPend = 2 → sm.rd Reg.startUframe ≤ k → exec (.microframeStart t) s = .next (s.settled (run (go sm)))) ∧
    (H.polls.find? (fun x => x.port == p.val && x.stage == 3) = some j → exec (.pollComplete t p) s
        = .next (s.settled (({ H with
            polls := H.polls.filter (fun x => !(x.port == p.val && x.entry == j.entry && x.stage == 3)) } : Hub).judgePoll j).closeAfterPoll)) ∧
    (H.polls.find? (fun x => x.port == p.val && x.stage == 3) = none → exec (.pollComplete t p) s = .next (s.settled H)) ∧
    (H.batch ≠ [] → H.rd Reg.batchWin ≠ H.windowStart H.timebase + 1 → exec (.reportWindowEnd t) s = .next (s.settled H.closeBatch)) ∧
    (H.batch = [] ∨ H.rd Reg.batchWin = H.windowStart H.timebase + 1 → exec (.reportWindowEnd t) s = .next (s.settled H))

/-- R267 to R273: the timebase. TIME_SET and TIME_TRIM are a source's alone, TIME_SET only ahead of the timebase; a step takes effect at the first
boundary after its decision, skips the polls it passes over and closes the batch, and one that does not lead forward is not taken (log entry 59);
the slew adds or omits one tick of 8 ns and none twice within 16 µs; 16 ms without an accepted message end alignment; and PROBE_INTERVAL sends
the next delay probe of an ACTIVE link. -/
def Obligations.Timebase : Prop :=
  ∀ (t : Stamp) (s : State) (v : BitVec 64) (w : BitVec 32) (p : Cable),
    let H := s.arrive t
    let K := H.keep Od.TIME_SET v.toNat
    let T := H.wr (Tm.probeInterval p) 0
    let S := H.wr Tm.sync 0
    let again (x : Hub) : Hub := x.arm (Tm.probeInterval p) (ms (T.rd Od.PROBE_INTERVAL))
    let a := H.stepBoundary
    let offset := H.rd Reg.stepTo = 0
    let b := if H.rd Reg.stepTo ≠ 0 then H.rd Reg.stepTo - 1 else a + H.rd Reg.stepBy
    let C := H.clear [Reg.stepTo, Reg.stepBy, Reg.stepAt]
    let P := if C.rd Od.QUARTZ_STATE = 1 then C.enabledEntries.foldl (Hub.skipStep (a / 125000 + 1) (b / 125000 - 1)) C else C
    let N := ((P.closeBatch.setTimebase (b + (H.timebase - a))).wr Reg.stepUframe (b / 125000 + 1)).wr Reg.stepFrame
      (if a % 1000000 = 0 then 1 else 0)
    let due := H.isOn 5 = true ∧ H.stepDue = true ∧ a ≤ H.timebase
    let spaced := H.isOn 5 = true ∧ (H.rd Reg.lastSlew = 0 ∨ H.rd Reg.lastSlew + 16000 ≤ H.now + 1)
    (H.Writable Od.TIME_SET v.toNat → H.rd Od.SYNC_STATE = 0 → H.timebase < v.toNat → exec (.timeSet t v) s
        = .next (s.settled ((((K.wr Reg.stepTo (v.toNat + 1)).wr Reg.stepBy 0).wr Reg.stepAt (K.timebase + 1)).wrote 0))) ∧
    (H.Writable Od.TIME_SET v.toNat → H.rd Od.SYNC_STATE ≠ 0 ∨ v.toNat ≤ H.timebase → exec (.timeSet t v) s = .next (s.settled (H.wrote 7))) ∧
    (H.writeCode Od.TIME_SET v.toNat ≠ 0 → exec (.timeSet t v) s = .next (s.settled (H.wrote (H.writeCode Od.TIME_SET v.toNat)))) ∧
    (H.Writable Od.TIME_TRIM w.toNat → H.rd Od.SYNC_STATE = 0 → exec (.timeTrim t w) s
        = .next (s.settled (((H.keep Od.TIME_TRIM w.toNat).rebase.wr Od.TIME_TRIM w.toNat).wrote 0))) ∧
    (H.Writable Od.TIME_TRIM w.toNat → H.rd Od.SYNC_STATE ≠ 0 → exec (.timeTrim t w) s = .next (s.settled (H.wrote 7))) ∧
    (H.writeCode Od.TIME_TRIM w.toNat ≠ 0 → exec (.timeTrim t w) s = .next (s.settled (H.wrote (H.writeCode Od.TIME_TRIM w.toNat)))) ∧
    (due → b ≤ a → exec (.timebaseStep t) s = .next (s.settled C)) ∧
    (due → a < b → offset → exec (.timebaseStep t) s = .next (s.settled ((N.inc Od.TIME_STEPS).wr Od.LAST_STEP (b - a)))) ∧
    (due → a < b → ¬ offset → exec (.timebaseStep t) s = .next (s.settled N)) ∧
    (¬ due → exec (.timebaseStep t) s = .next (s.settled H)) ∧
    (spaced → 8 ≤ H.rd Reg.slewUp → exec (.timebaseSlewTick t) s
        = .next (s.settled (((H.setTimebase (H.timebase + 8)).wr Reg.slewUp (H.rd Reg.slewUp - 8)).wr Reg.lastSlew (H.now + 1)))) ∧
    (spaced → H.rd Reg.slewUp < 8 → 8 ≤ H.rd Reg.slewDown → exec (.timebaseSlewTick t) s
        = .next (s.settled ((((H.setTimebase H.timebase).wr Reg.tbAt (H.now + 8)).wr Reg.slewDown (H.rd Reg.slewDown - 8)).wr
            Reg.lastSlew (H.now + 1)))) ∧
    (¬ spaced ∨ (H.rd Reg.slewUp < 8 ∧ H.rd Reg.slewDown < 8) → exec (.timebaseSlewTick t) s = .next (s.settled H)) ∧
    (H.due Tm.sync = true → H.rd Od.SYNC_STATE = 2 ∨ H.rd Od.SYNC_STATE = 3 → exec (.syncMessageTimeout t) s
        = .next (s.settled ((S.wr Od.SYNC_STATE 4).wr Reg.goodOffsets 0))) ∧
    (H.due Tm.sync = true → H.rd Od.SYNC_STATE ≠ 2 → H.rd Od.SYNC_STATE ≠ 3 → exec (.syncMessageTimeout t) s = .next (s.settled S)) ∧
    (H.due Tm.sync = false → exec (.syncMessageTimeout t) s = .next (s.settled H)) ∧
    (H.due (Tm.probeInterval p) = true → H.rd (Od.LINK_STATE p) = 4 → H.rd (Od.LINK_CLASS p) = 4 → exec (.probeIntervalExpiry t p) s
        = .next (s.settled (again (T.sendLink p 3 T.timebase)))) ∧
    (H.due (Tm.probeInterval p) = true → H.rd (Od.LINK_STATE p) = 4 → H.rd (Od.LINK_CLASS p) ≠ 4 → T.givesTime p = true →
      exec (.probeIntervalExpiry t p) s = .next (s.settled (again ((T.wr (Reg.timeOwed p) 1).startTimePing p)))) ∧
    (H.due (Tm.probeInterval p) = true → H.rd (Od.LINK_STATE p) = 4 → H.rd (Od.LINK_CLASS p) ≠ 4 → T.givesTime p = false →
      exec (.probeIntervalExpiry t p) s = .next (s.settled (again T))) ∧
    (H.due (Tm.probeInterval p) = true → H.rd (Od.LINK_STATE p) ≠ 4 → exec (.probeIntervalExpiry t p) s = .next (s.settled T)) ∧
    (H.due (Tm.probeInterval p) = false → exec (.probeIntervalExpiry t p) s = .next (s.settled H))

/-- R279, R281, R283 to R297, R301, R302: the switch. A header is judged in the order of its checks and a frame refused before its lookup is
counted once with its credit returned; a frame's end gives its verdict; the copy at an egress's turn is dropped as EGRESS_GONE where the port
cannot take it, and begins otherwise; a copy ends once the verdict is known and all its packets went; a CUT copy that stalls is poisoned; a single
bit error is corrected and a double one is reported and makes the frame that holds the cell BAD; REJOIN_HOLD ends. -/
def Obligations.SwitchMoves : Prop :=
  ∀ (t : Stamp) (s : State) (p : Cable) (q : SwPort) (h : BitVec 128) (pay : Nat) (f : Frame) (c : Copy) (cut : Bool) (bank : Fin 52)
      (cell : Fin 512) (ep : Fin 3) (len data : Nat) (tag : BitVec 128) (crc : Word) (fin : FrameFin) (named : SwPort),
    let H := s.arrive t
    let n := h.toNat
    let at_ := H.frameEpIn p (hClass n)
    let L := ((H.dropUntold p at_).putStream (H.streamOf p at_)).linkSeq p at_ n
    let passes := p.val = q.val ∧ H.takesIn p = true ∧ withCheck n = n ∧ hFtype n ≠ 3 ∧ H.linkRefuses p n = false
    let whole := data % 256 ^ len
    let plain := H.plainOf p f.header len whole tag.toNat
    let good := H.frameJudged p f.header len whole tag.toNat crc.toNat fin
    let D := if ep.val = 0 then H else H.streamDone p ep (20 + hLen f.header)
    let got := min len (hLen f.header)
    let turn := H.switchOn = true ∧ H.phyOn q = true ∧ H.begunCopy q = none ∧ H.serialTakes q 4 = false ∧ H.nextCopy q cut = some (f, c)
    let stray := q.val < 16 ∧ H.farIsHub q = false ∧ H.assignedTo q (hDest f.header % 4096 / 16) = false
    let packets := q.val < 18 ∧ H.rd (Od.LINK_CLASS q) ≠ 4 ∧ H.rd (Reg.outPk q) < Hub.packetsOf (H.portMax q) (Hub.childLen f)
    let lastByte := (H.streamOf f.ingress (H.frameEpIn f.ingress (hClass f.header))).last
    let stalled := c.cut = true ∧ f.verdict = 0 ∧ H.rd (Od.LINK_CLASS p) ≠ 4 ∧ lastByte + ms (H.rd Od.CUT_STALL) ≤ H.now
    let U := (H.inc Od.ECC_UNCORRECTED).report 0x02 (bank + cell * 65536) 0
    (passes → hHops n = 15 → exec (.frameHeaderReceived t q h pay named) s
        = .next (s.settled ((L.inc (Od.HOPS_EXCEEDED p)).refuseFrame p n 14))) ∧
    (passes → hHops n ≠ 15 → 1024 < hLen n ∨ (hFtype n ≠ 0 ∧ hFtype n ≠ 2) →
      exec (.frameHeaderReceived t q h pay named) s = .next (s.settled (L.refuseFrame p n 9))) ∧
    (passes → hHops n ≠ 15 → hFtype n = 0 ∨ hFtype n = 2 → hLen n ≤ 1024 → exec (.frameHeaderReceived t q h pay named) s
        = .next (s.settled ((L.enterFrame p n 0 0 false none 0).returnCredit p (hClass n) (frameCost n)))) ∧
    (p.val = q.val → H.takesIn p = true → withCheck n = n → hFtype n ≠ 3 → H.linkRefuses p n = true → exec (.frameHeaderReceived t q h pay named) s
        = .next (s.settled (H.returnCredit p (hClass n) (frameCost n)))) ∧
    (p.val = q.val → H.takesIn p = false ∨ withCheck n ≠ n ∨ hFtype n = 3 → exec (.frameHeaderReceived t q h pay named) s = .next (s.settled H)) ∧
    (H.switchOn = true → exec (.frameHeaderReceived t 18 h pay named) s
        = .next (s.settled (H.enterFrame 18 n (pay % 256 ^ hLen n) named true none 0))) ∧
    (H.switchOn = true → exec (.frameHeaderReceived t 19 h pay named) s
        = .next (s.settled (H.enterFrame 19 n (pay % 256 ^ hLen n) named true none 0))) ∧
    (H.switchOn = false → exec (.frameHeaderReceived t 18 h pay named) s = .next (s.settled H)) ∧
    (H.receiving p ep = some f → good = true → exec (.frameVerdict t p ep len data tag crc fin) s = .next (s.settled (D.frameGood f plain))) ∧
    (H.receiving p ep = some f → good = false → exec (.frameVerdict t p ep len data tag crc fin) s
        = .next (s.settled (D.frameBad { f with payload := plain % 256 ^ got, got := got } (fin == .truncated)))) ∧
    (H.receiving p ep = none → exec (.frameVerdict t p ep len data tag crc fin) s = .next (s.settled H)) ∧
    (turn → H.canTake q = false → H.engineRuns q = false → exec (.egressCopyStart t q cut) s = .next (s.settled (H.dropCopy 12 f.id q))) ∧
    (turn → H.canTake q = false → H.engineRuns q = true → exec (.egressCopyStart t q cut) s = .next (s.settled H)) ∧
    (turn → H.canTake q = true → stray → exec (.egressCopyStart t q cut) s = .next (s.settled (H.dropCopy 12 f.id q))) ∧
    (turn → H.canTake q = true → ¬ stray → q.val < 18 → exec (.egressCopyStart t q cut) s
        = .next (s.settled ((H.beginCopy f c).wr (Reg.outPk q) 0))) ∧
    (turn → H.canTake q = true → 18 ≤ q.val → exec (.egressCopyStart t q cut) s = .next (s.settled (H.beginCopy f c))) ∧
    ((H.switchOn = false ∨ H.phyOn q = false ∨ H.begunCopy q ≠ none ∨ H.serialTakes q 4 = true ∨ H.nextCopy q cut = none) →
      exec (.egressCopyStart t q cut) s = .next (s.settled H)) ∧
    (H.begunCopy q = some (f, c) → f.verdict ≠ 0 → H.deliveries.any (fun v => v.port == q.val) = false → ¬ packets →
      exec (.egressCopyEnd t q) s = .next (s.settled ((H.finishCopy f c).keyWorn q))) ∧
    (H.begunCopy q = some (f, c) → f.verdict = 0 ∨ H.deliveries.any (fun v => v.port == q.val) = true ∨ packets →
      exec (.egressCopyEnd t q) s = .next (s.settled (H.keyWorn q))) ∧
    (H.begunCopy q = none → exec (.egressCopyEnd t q) s = .next (s.settled (H.keyWorn q))) ∧
    (H.begunCopy p = some (f, c) → stalled → exec (.cutStallTimeout t p) s
        = .next (s.settled ((H.poisonCopy (H.soFar f) c).countDrop 13 p))) ∧
    (H.begunCopy p = some (f, c) → ¬ stalled → exec (.cutStallTimeout t p) s = .next (s.settled H)) ∧
    (H.begunCopy p = none → exec (.cutStallTimeout t p) s = .next (s.settled H)) ∧
    (exec (.eccError t bank cell false) s
        = .next (s.settled ((H.inc Od.ECC_CORRECTED).report 0x01 (bank + cell * 65536) 0))) ∧
    ((H.inc Od.ECC_UNCORRECTED).cellHolder bank cell = none → exec (.eccError t bank cell true) s = .next (s.settled U)) ∧
    ((H.inc Od.ECC_UNCORRECTED).cellHolder bank cell = some f → exec (.eccError t bank cell true) s = .next (s.settled (U.badByEcc f.id))) ∧
    (H.due (Tm.rejoin p) = true → exec (.rejoinHoldExpiry t p) s = .next (s.settled (H.wr (Tm.rejoin p) 0))) ∧
    (H.due (Tm.rejoin p) = false → exec (.rejoinHoldExpiry t p) s = .next (s.settled H))

/-- R312 to R314, R319 to R321: the routing tables. PUBLISH is refused while an epoch drains or a PUBLISH is on its way (log entry 68), and takes
effect at its instant: the shadow becomes live, the epoch advances modulo 4 and the old one drains; REVERT copies the live tables into the shadow;
RING_CLEAR empties the ring; an audit starts at its stamp when enabled, keeps what it finds, reclaims what two audits found with one tag, and
raises the cells doubly linked. -/
def Obligations.TablesAndAudit : Prop :=
  ∀ (t : Stamp) (s : State) (os ds : List Nat),
    let H := s.arrive t
    let code := H.writeCode Od.PUBLISH 1
    let K := if code = 0 then H.keep Od.PUBLISH 1 else H
    let E := H.wr Tm.publish 0
    let N := H.keep Od.REVERT 1
    let R := H.keep Od.RING_CLEAR 1
    let A := H.wr Tm.auditEnd 0
    let starts := H.rd Od.AUDIT_ENABLE = 1 ∧ H.isOn 2 = true ∧ H.running Tm.auditEnd = false ∧ H.auditFalls = true
    let found : List (Nat × Nat) := (os.filter (fun c => !A.cellHeld (c / 512) (c % 512) && A.isOn (Hub.bankDomain (c / 512)))).map
      (fun c => (c, A.rd (Reg.cellTag c)))
    let again := found.filter (fun o => A.orphans.contains o)
    let Y := ((({ A with orphans := found.filter (fun o => !A.orphans.contains o) } : Hub).wr Od.LAST_AUDIT_TIME A.stamp).wr
      Od.ORPHANS_LAST found.length).inc Od.AUDITS
    let Z := ((((Y.reclaim 3 (again.filter (fun o => Hub.orphanDomain o == 3)).length).reclaim 4
      (again.filter (fun o => Hub.orphanDomain o == 4)).length).add Od.ORPHANS_RECLAIMED again.length).report 0x07 again.length 0)
    let raise (x : Hub) : Hub := (ds.filter (fun c => A.isOn (Hub.bankDomain (c / 512)))).foldl
      (fun v c => (v.inc Od.DOUBLE_LINKS).report 0x08 c 0) x
    (K.isOn 2 = true → K.rd Od.EPOCH_DRAINING = 0xFF → K.running Tm.publish = false → exec (.publish t) s
        = .next (s.settled ((((K.wr Od.PUBLISH_RESULT 1).inc Od.PUBLISHES).arm Tm.publish 0).wrote code))) ∧
    (K.isOn 2 = true → K.rd Od.EPOCH_DRAINING ≠ 0xFF → K.running Tm.publish = false → exec (.publish t) s
        = .next (s.settled (((K.wr Od.PUBLISH_RESULT 2).wr Reg.publishAt (K.now + 1)).wrote code))) ∧
    (K.isOn 2 = true → K.running Tm.publish = true → exec (.publish t) s = .next (s.settled ((K.wr Od.PUBLISH_RESULT 2).wrote code))) ∧
    (K.isOn 2 = false → exec (.publish t) s = .next (s.settled ((K.wr Od.PUBLISH_RESULT 3).wrote code))) ∧
    (H.due Tm.publish = true → exec (.publishEffect t) s
        = .next (s.settled (((((E.moveCells 0x440000 (Reg.live 0) 0x20400).wr Od.EPOCH_LIVE ((H.rd Od.EPOCH_LIVE + 1) % 4)).wr
            Od.EPOCH_DRAINING (H.rd Od.EPOCH_LIVE)).wr Od.PUBLISH_TIME E.stamp).refreshEpochs))) ∧
    (H.due Tm.publish = false → exec (.publishEffect t) s = .next (s.settled H)) ∧
    (H.Writable Od.REVERT 1 → exec (.revert t) s = .next (s.settled ((N.moveCells (Reg.live 0) 0x440000 0x20400).wrote 0))) ∧
    (H.Writable Od.RING_CLEAR 1 → exec (.ringClear t) s
        = .next (s.settled ((({ R with ring := [] } : Hub).wr Od.RING_WRITTEN 0).wrote 0))) ∧
    (starts → exec (.auditStart t) s = .next (s.settled (H.arm Tm.auditEnd 0))) ∧
    (¬ starts → exec (.auditStart t) s = .next (s.settled H)) ∧
    (H.isOn 2 = true → H.due Tm.auditEnd = true → again.length = 0 → exec (.auditComplete t os ds) s = .next (s.settled (raise Y))) ∧
    (H.isOn 2 = true → H.due Tm.auditEnd = true → again.length ≠ 0 → exec (.auditComplete t os ds) s = .next (s.settled (raise Z))) ∧
    (H.isOn 2 = false ∨ H.due Tm.auditEnd = false → exec (.auditComplete t os ds) s = .next (s.settled H))

/-- R340 to R343, Table 11-12: the fabric's neighbours and link-state advertisements. HELLO goes out on every fabric link when due; a received
HELLO renews its neighbour and a change of two-way standing owes an LSA, and one with a reserved node ID is counted against its port; a silent
neighbour lapses; an LSA is originated when owed or due; a newer one is stored and flooded, an equal one acknowledged, an older one answered with
the stored one, and the 257th originator sets OVER_SIZE; an acknowledgement ends the wait; a wait of 950 ms sends again; a stored LSA of 60 minutes
is removed. -/
def Obligations.FabricNeighbours : Prop :=
  ∀ (t : Stamp) (s : State) (p : Cable) (n : BitVec 16) (q : BitVec 32) (serial : BitVec 64) (l : List Nat) (k : List (Nat × Nat)) (y : Lsa) (w : LsaWait),
    let H := s.arrive t
    let nb : Neighbour := { port := p, node := n.toNat, serial := serial.toNat, twoWay := l.contains H.node, last := H.now }
    let N : Hub := { H with neighbours := nb :: H.neighbours.filter (fun x => !(x.port == p.val && x.node == n.toNat)) }
    let was := H.neighbours.any (fun x => x.port == p.val && x.node == n.toNat && x.twoWay)
    let G : Hub := { H with neighbours := H.neighbours.filter (fun x => !(x.port == p.val && decide (x.last + ms 1000 ≤ H.now))) }
    let lapsed := (H.neighbours.filter (fun x => x.port == p.val && decide (x.last + ms 1000 ≤ H.now))).any (fun x => x.twoWay)
    let seq := (H.rd Reg.lsaSeq + 1) % 2 ^ 32
    let own : Lsa := { node := H.node, seq := seq, serial := Config.serial, links := H.ownLinks, at_ := H.now }
    let O := ((H.wr Reg.lsaSeq seq).wr Reg.lsaDue 0).arm Tm.lsaRefresh (29 * 60 * ms 1000)
    let x : Lsa := { node := n.toNat, seq := q.toNat, serial := serial.toNat, links := k, at_ := H.now }
    let heard := H.fabricRuns = true ∧ H.fabricLink p = true
    let R := heard ∧ nodeOk n.toNat = true
    let sends := H.running Tm.hello = false ∨ H.due Tm.hello = true
    let owes := H.rd Reg.lsaDue = 1 ∨ H.running Tm.lsaRefresh = false ∨ H.due Tm.lsaRefresh = true
    let stored := H.lsdb.find? (fun z => z.node == n.toNat)
    let waits := H.lsaWaits.find? (fun z => z.port == p.val && z.node == n.toNat)
    (H.fabricActive = true → sends → exec (.helloTimer t) s
        = .next (s.settled ((H.fabricLinks.foldl (fun z r => z.sendHello r) H).arm Tm.hello (ms 240)))) ∧
    (H.fabricActive = false ∨ ¬ sends → exec (.helloTimer t) s = .next (s.settled H)) ∧
    (R → l.length ≤ 16 → l.contains H.node = was → exec (.helloReceived t p n serial l) s = .next (s.settled N)) ∧
    (R → l.length ≤ 16 → l.contains H.node ≠ was → exec (.helloReceived t p n serial l) s
        = .next (s.settled ((N.wr Reg.lsaDue 1).wr Reg.pathDue 1))) ∧
    (heard → nodeOk n.toNat = false ∨ 16 < l.length → exec (.helloReceived t p n serial l) s = .next (s.settled (H.inc (Od.HDR_CHECK_ERR p)))) ∧
    (¬ heard → exec (.helloReceived t p n serial l) s = .next (s.settled H)) ∧
    (lapsed = false → exec (.neighbourHoldExpiry t p) s = .next (s.settled G)) ∧
    (lapsed = true → exec (.neighbourHoldExpiry t p) s = .next (s.settled ((G.wr Reg.lsaDue 1).wr Reg.pathDue 1))) ∧
    (H.fabricActive = true → owes → exec (.lsaOriginate t) s = .next (s.settled ((O.setLsdb (own :: dropBy Lsa.node H.node H.lsdb)).floodLsa own O.fabricLinks))) ∧
    (H.fabricActive = false ∨ ¬ owes → exec (.lsaOriginate t) s = .next (s.settled H)) ∧
    (R → stored = none → 256 ≤ H.lsdb.length → exec (.lsaReceived t p n q serial k) s = .next (s.settled (H.wr Od.FABRIC_STATE 3))) ∧
    (R → stored = none → H.lsdb.length < 256 → exec (.lsaReceived t p n q serial k) s = .next (s.settled (H.storeLsa p x))) ∧
    (R → stored = some y → newer 32 q.toNat y.seq = true → exec (.lsaReceived t p n q serial k) s = .next (s.settled (H.storeLsa p x))) ∧
    (R → stored = some y → newer 32 q.toNat y.seq = false → q.toNat = y.seq →
      exec (.lsaReceived t p n q serial k) s = .next (s.settled (H.ackLsa p n.toNat q.toNat))) ∧
    (R → stored = some y → newer 32 q.toNat y.seq = false → q.toNat ≠ y.seq →
      exec (.lsaReceived t p n q serial k) s = .next (s.settled ((H.ackLsa p n.toNat q.toNat).sendLsa y p))) ∧
    (heard → nodeOk n.toNat = false → exec (.lsaReceived t p n q serial k) s = .next (s.settled (H.inc (Od.HDR_CHECK_ERR p)))) ∧
    (¬ heard → exec (.lsaReceived t p n q serial k) s = .next (s.settled H)) ∧
    (exec (.lsaAckReceived t p n q) s
        = .next (s.settled ({ H with
            lsaWaits := H.lsaWaits.filter (fun z => !(z.port == p.val && z.node == n.toNat && z.seq == q.toNat)) } : Hub))) ∧
    (waits = some w → w.sent + ms 950 ≤ H.now → stored = some y → H.fabricActive = true → H.fabricLink p = true →
      exec (.lsaRetransmit t p n) s = .next (s.settled (H.sendLsa y p))) ∧
    (waits = some w → w.sent + ms 950 ≤ H.now → stored = some y → H.fabricActive = false ∨ H.fabricLink p = false →
      exec (.lsaRetransmit t p n) s = .next (s.settled H)) ∧
    (waits = some w → w.sent + ms 950 ≤ H.now → stored = none → exec (.lsaRetransmit t p n) s
        = .next (s.settled ({ H with lsaWaits := H.lsaWaits.filter (fun z => !(z.port == p.val && z.node == n.toNat)) } : Hub))) ∧
    (waits = some w → H.now < w.sent + ms 950 → exec (.lsaRetransmit t p n) s = .next (s.settled H)) ∧
    (waits = none → exec (.lsaRetransmit t p n) s = .next (s.settled H)) ∧
    (stored = some y → y.at_ + 60 * 60 * ms 1000 ≤ H.now → exec (.lsaLifetimeExpiry t n) s
        = .next (s.settled (H.setLsdb (dropBy Lsa.node n.toNat H.lsdb)))) ∧
    (stored = some y → H.now < y.at_ + 60 * 60 * ms 1000 → exec (.lsaLifetimeExpiry t n) s = .next (s.settled H)) ∧
    (stored = none → exec (.lsaLifetimeExpiry t n) s = .next (s.settled H))

/-- R340, R343 to R346: the fabric's frames. Owed paths are computed; a frame with a reserved encoding is counted against its port; a DATA frame
for another node goes on by its next hop with its TTL one less and is counted as transit, one without a path is dropped and counted, one that would
leave with TTL 0 is discarded, and the 20,001st frame of a second is dropped; a DATA frame for this node is delivered; an EVENT frame for another
node is not counted as transit, and the coordinator passes one for itself on whole; multicast is discarded and counted; a tree frame whose device has
no map entry, or that is over 512 bytes, is dropped as unmapped. -/
def Obligations.FabricFrames : Prop :=
  ∀ (t : Stamp) (s : State) (p : Cable) (hd : BitVec 96) (pay : Nat) (th : BitVec 128) (r : Nat × Nat),
    let H := s.arrive t
    let n := hd.toNat
    let sec := H.now / 1000000000 + 1
    let used := if H.rd Reg.fabSec = sec then H.rd Reg.fabCount else 0
    let A := (H.wr Reg.fabSec sec).wr Reg.fabCount (used + 1)
    let on := putField n 5 1 (e1Ttl n - 1)
    let comes := H.fabricRuns = true ∧ H.fabricLink p = true
    let R := comes ∧ e1Ok n = true
    let forUs := e1Dest n = A.node ∨ e1Dest n = 0xFFFF
    let hop := A.nextHops.find? (fun x => x.1 == e1Dest on)
    let clear := A.fabricLink r.2 = true ∧ (A.rd Od.FABRIC_STATE ≠ 2 ∨ e1Type on ≠ 1)
    let e := H.rd (Od.FABRIC_MAP (hDest th.toNat % 4096 / 16))
    let gate := H.fabricRuns = true ∧ H.role = 3
    let whole := n % 256 ^ 12 + 256 ^ 12 * (pay % 256 ^ e1Len n)
    let self_ := sysAddr A.ownHub 0 0
    (H.fabricRuns = true → H.rd Reg.pathDue = 1 → exec (.pathCompute t) s
        = .next (s.settled (({ H with
            nextHops := (pathRounds H.lsdb H.node H.lsdb.length H.firstPaths).filterMap
              (fun x : Path => (H.portToward x.2.2).map (fun o => (x.1, o))) } : Hub).wr Reg.pathDue 0))) ∧
    (H.fabricRuns = false ∨ H.rd Reg.pathDue ≠ 1 → exec (.pathCompute t) s = .next (s.settled H)) ∧
    (R → 20000 ≤ used → exec (.fabricDataReceived t p hd pay) s = .next (s.settled (H.inc Od.FABRIC_DROPPED))) ∧
    (R → used < 20000 → forUs → exec (.fabricDataReceived t p hd pay) s = .next (s.settled (A.e1Local n pay))) ∧
    (R → used < 20000 → ¬ forUs → e1Ttl n ≤ 1 → exec (.fabricDataReceived t p hd pay) s = .next (s.settled A)) ∧
    (R → used < 20000 → ¬ forUs → 1 < e1Ttl n → hop = none → exec (.fabricDataReceived t p hd pay) s
        = .next (s.settled (A.inc Od.FABRIC_DROPPED))) ∧
    (R → used < 20000 → ¬ forUs → 1 < e1Ttl n → hop = some r → clear → exec (.fabricDataReceived t p hd pay) s
        = .next (s.settled ((A.sendFabric r.2 on pay).inc Od.TRANSIT_FRAMES))) ∧
    (R → used < 20000 → ¬ forUs → 1 < e1Ttl n → hop = some r → ¬ clear → exec (.fabricDataReceived t p hd pay) s
        = .next (s.settled (A.inc Od.FABRIC_DROPPED))) ∧
    (comes → e1Ok n = false → exec (.fabricDataReceived t p hd pay) s = .next (s.settled (H.inc (Od.HDR_CHECK_ERR p)))) ∧
    (¬ comes → exec (.fabricDataReceived t p hd pay) s = .next (s.settled H)) ∧
    (R → 20000 ≤ used → exec (.fabricEventReceived t p hd pay) s = .next (s.settled (H.inc Od.FABRIC_DROPPED))) ∧
    (R → used < 20000 → ¬ forUs → e1Ttl n ≤ 1 → exec (.fabricEventReceived t p hd pay) s = .next (s.settled A)) ∧
    (R → used < 20000 → ¬ forUs → 1 < e1Ttl n → hop = some r → clear → exec (.fabricEventReceived t p hd pay) s
        = .next (s.settled (A.sendFabric r.2 on pay))) ∧
    (R → used < 20000 → forUs → A.rd Od.COORDINATOR ≠ A.node → exec (.fabricEventReceived t p hd pay) s = .next (s.settled A)) ∧
    (R → used < 20000 → forUs → A.rd Od.COORDINATOR = A.node → A.role = 2 → exec (.fabricEventReceived t p hd pay) s
        = .next (s.settled (A.injectFrame 18 (mkTrunk 0 2 (12 + e1Len n) true self_ self_ 0) whole 19))) ∧
    (R → used < 20000 → forUs → A.rd Od.COORDINATOR = A.node → A.role ≠ 2 → exec (.fabricEventReceived t p hd pay) s
        = .next (s.settled (A.injectFrame 18 (mkTrunk 0 2 (12 + e1Len n) false (A.rd Od.GATEWAY_UP_DEST % 2 ^ 24) self_ 0) whole 0))) ∧
    (comes → e1Ok n = false → exec (.fabricEventReceived t p hd pay) s = .next (s.settled (H.inc (Od.HDR_CHECK_ERR p)))) ∧
    (¬ comes → exec (.fabricEventReceived t p hd pay) s = .next (s.settled H)) ∧
    (comes → exec (.mcastDiscard t p) s = .next (s.settled (H.inc Od.MCAST_DISCARDED))) ∧
    (¬ comes → exec (.mcastDiscard t p) s = .next (s.settled H)) ∧
    (gate → 512 < hLen th.toNat ∨ hasBit e 31 = false → exec (.gatewayTreeFrame t th pay) s
        = .next (s.settled (H.inc Od.UNMAPPED_DROPPED))) ∧
    (gate → hLen th.toNat ≤ 512 → hasBit e 31 = true → 20000 ≤ used → exec (.gatewayTreeFrame t th pay) s
        = .next (s.settled (H.inc Od.FABRIC_DROPPED))) ∧
    (gate → hLen th.toNat ≤ 512 → hasBit e 31 = true → used < 20000 → exec (.gatewayTreeFrame t th pay) s
        = .next (s.settled (A.e1Send (e1Header (bits e 23 8) A.node 1 32 (hLen th.toNat) (sysAddr 0 (bits e 7 0) (hDest th.toNat % 16)) 0)
            pay false))) ∧
    (¬ gate → exec (.gatewayTreeFrame t th pay) s = .next (s.settled H))

/-- R353, R359 to R372, R440: dictionary requests on a link. A request without Flint, or on the standby trunk, is answered STALL; under a halt
HALTED; OD_READ, OD_STATUS and OD_DESCRIBE answer their data; OD_WRITE judges the entry, the trailer, the right and the length in that order, and
a write that passes takes effect and is counted, or is staged in the requester's transaction; OD_BEGIN opens a transaction, OD_COMMIT starts its
validation, OD_ABORT ends it. -/
def Obligations.DictionaryRequests : Prop :=
  ∀ (t : Stamp) (s : State) (q : Requester) (i v : BitVec 16) (len : Fin 1017) (data : Nat) (b g : Bool) (x : OdTxn),
    let H := s.arrive t
    let w := q.code
    let T := H.touchTxn w
    let sub := v.toNat % 256
    let k := i.toNat * 256 + sub
    let n := len.val - 40
    let tr := field data n 40
    let tb := field data 4 40
    let tc := data % 256 ^ 40
    let V := data % 256 ^ n
    let ans (c req m d : Nat) (h : Hub) : Hub := ((h.noteRequest w c req i.toNat sub).answer w req c m d).zeroiseDue
    let done (c req m d : Nat) (h : Hub) : Out := .next (s.settled (ans c req m d h))
    let served (req : Nat) : Prop := H.Serves w ∧ T.haltedFor w req i.toNat v.toNat = false
    let halted (req : Nat) : Prop := H.Serves w ∧ T.haltedFor w req i.toNat v.toNat = true
    let B := T.trailerTaken tb
    let W := T.trailerTaken tr
    let E := (T.trailerTaken tc).counterSpent tc
    let C : WriteCtx := ⟨w, trSession tr, b, g, []⟩
    let wr := exec (.odWrite t q i v len data b g) s
    let carries := served 0x11 ∧ odExists i.toNat sub = true ∧ 40 ≤ len.val
    let right := Hub.rightCode i.toNat sub (W.sessionRole (trSession tr)) (trSession tr)
    let signed := T.trailerOk 0x11 i.toNat v.toNat len (toBytes n data) tr (some k) ((T.txnBefore w).map (·.session)) = true
    let allowed := carries ∧ signed ∧ right = 0
    let fits := Hub.lengthCode i.toNat sub (v.toNat / 256 % 256) n = 0
    let plain := allowed ∧ W.txnBefore w = none ∧ fits ∧ i.toNat ≠ 0xF000 ∧ k ≠ Od.SESSION_OPEN ∧ k ≠ Od.OWNER_CLAIM
    let staged := allowed ∧ W.txnBefore w = some x ∧ odNoStage i.toNat sub = false ∧ fits
    let l := Hub.stageIn x.staged ⟨k, n, V⟩
    let big := 256 < l.length ∨ 16384 < (l.map (fun y : Staged => y.len)).foldl (· + ·) 0
    let device := allowed ∧ W.txnBefore w = none ∧ fits ∧ i.toNat = 0xF000
    let D := W.deviceWrite C k V
    let began := served 0x12 ∧ len.val = 44 ∧ T.trailerOk 0x12 i.toNat v.toNat len (toBytes 4 data) tb none none = true
    let openCount := (B.odTxns.filter (fun y => y.stage != 2)).length
    let names (req : Nat) : Prop := served req ∧ len.val = 40 ∧ T.txnBefore w = some x
    let proves (req : Nat) : Bool := T.trailerOk req i.toNat v.toNat len [] tc none (some x.session)
    let reads : List Instr := [.odRead t q i v len, .odStatus t q, .odDescribe t q i v, .odWrite t q i v len data b g, .odBegin t q i v len data,
      .odCommit t q i v len data, .odAbort t q i v len data]
    (∀ u : Trunk, H.isOn 6 = true → H.flintOn = false ∨ H.rd Od.STANDBY_UPSTREAM = 16 + u.val →
      exec (.odRead t (.trunk u) i v len) s = .next (s.settled (H.answer (16 + u.val) 0x10 9 0 0)) ∧
      exec (.odWrite t (.trunk u) i v len data b g) s = .next (s.settled (H.answer (16 + u.val) 0x11 9 0 0)) ∧
      exec (.odBegin t (.trunk u) i v len data) s = .next (s.settled (H.answer (16 + u.val) 0x12 9 0 0)) ∧
      exec (.odCommit t (.trunk u) i v len data) s = .next (s.settled (H.answer (16 + u.val) 0x13 9 0 0)) ∧
      exec (.odAbort t (.trunk u) i v len data) s = .next (s.settled (H.answer (16 + u.val) 0x14 9 0 0)) ∧
      exec (.odStatus t (.trunk u)) s = .next (s.settled (H.answer (16 + u.val) 0x15 9 0 0)) ∧
      exec (.odDescribe t (.trunk u) i v) s = .next (s.settled (H.answer (16 + u.val) 0x16 9 0 0))) ∧
    ((w = 16 ∨ w = 17) → H.isOn 6 = false → ∀ y ∈ reads, exec y s = .next (s.settled H)) ∧
    (w ≠ 16 → w ≠ 17 → (H.flintOn = false ∨ H.rd Od.HUB_ID_ASSIGNED ≠ 1) → ∀ y ∈ reads, exec y s = .next (s.settled H)) ∧
    (halted 0x10 → exec (.odRead t q i v len) s = done 9 0x10 0 0 T) ∧
    (served 0x10 → exec (.odRead t q i v len) s
        = done (T.odRead w i.toNat v.toNat len).1 0x10 (T.odRead w i.toNat v.toNat len).2.1 (T.odRead w i.toNat v.toNat len).2.2 T) ∧
    (H.Serves w → exec (.odStatus t q) s = .next (s.settled ((T.answer w 0x15 0 16 (T.statusRecord w)).zeroiseDue))) ∧
    (halted 0x16 → exec (.odDescribe t q i v) s = done 9 0x16 0 0 T) ∧
    (served 0x16 → odExists i.toNat sub = true → exec (.odDescribe t q i v) s = done 0 0x16 16 (odDescriptor T i.toNat sub) T) ∧
    (served 0x16 → odExists i.toNat sub = false → exec (.odDescribe t q i v) s = done 1 0x16 0 0 T) ∧
    (halted 0x11 → wr = done 9 0x11 0 0 T) ∧
    (served 0x11 → odExists i.toNat sub = false → wr = done 1 0x11 0 0 T) ∧
    (served 0x11 → odExists i.toNat sub = true → len.val < 40 → wr = done 4 0x11 0 0 T) ∧
    (carries → ¬ signed → wr = done 4 0x11 0 0 T) ∧
    (carries → signed → right ≠ 0 → wr = done right 0x11 0 0 (W.counterSpent tr)) ∧
    (allowed → W.txnBefore w = some x → odNoStage i.toNat sub = true → wr = done 14 0x11 0 0 (W.counterSpent tr)) ∧
    (allowed → W.txnBefore w = none ∨ odNoStage i.toNat sub = false → ¬ fits → wr = done 5 0x11 0 0 (W.counterSpent tr)) ∧
    (staged → Hub.rangeOk (W.overlay x.staged) k V = false → wr = done 6 0x11 0 0 (W.counterSpent tr)) ∧
    (staged → Hub.rangeOk (W.overlay x.staged) k V = true → big → wr = done 13 0x11 0 0 (W.counterSpent tr)) ∧
    (staged → Hub.rangeOk (W.overlay x.staged) k V = true → ¬ big → wr = done 0 0x11 0 0 ((W.putTxn { x with staged := l }).counterSpent tr)) ∧
    (plain → W.liveCode C W.rd k V = 0 → wr = done 0 0x11 0 0 ((((W.applyPlain C k V).inc Od.OD_WRITES).opsDone w 1).counterSpent tr)) ∧
    (plain → W.liveCode C W.rd k V ≠ 0 → wr
        = done (W.liveCode C W.rd k V) 0x11 0 0 ((W.refusedEffect k (W.liveCode C W.rd k V)).counterSpent tr)) ∧
    (device → wr = match D.1 with
      | some 0 => done 0 0x11 0 0 (((D.2.inc Od.OD_WRITES).opsDone w 1).counterSpent tr)
      | some (c + 1) => done (c + 1) 0x11 0 0 (D.2.counterSpent tr)
      | none => .next (s.settled ((((D.2.inc Od.OD_WRITES).opsDone w 1).counterSpent tr).noteRequest w 0 0x11 i.toNat sub))) ∧
    (halted 0x12 → exec (.odBegin t q i v len data) s = done 9 0x12 0 0 T) ∧
    (served 0x12 → len.val ≠ 44 → exec (.odBegin t q i v len data) s = done 5 0x12 0 0 T) ∧
    (served 0x12 → len.val = 44 → T.trailerOk 0x12 i.toNat v.toNat len (toBytes 4 data) tb none none = false →
      exec (.odBegin t q i v len data) s = done 4 0x12 0 0 T) ∧
    (began → B.txnBefore w = some x → exec (.odBegin t q i v len data) s = done 11 0x12 0 0 (B.counterSpent tb)) ∧
    (began → B.txnBefore w = none → 4 ≤ openCount → exec (.odBegin t q i v len data) s = done 12 0x12 0 0 (B.counterSpent tb)) ∧
    (began → B.txnBefore w = none → openCount < 4 → exec (.odBegin t q i v len data) s
        = done 0 0x12 0 0 ((({ B with odTxns := B.odTxns ++ [(⟨w, trSession tb, field data 0 4, [], B.now, 0⟩ : OdTxn)] } : Hub).refreshOdOpen).counterSpent
            tb)) ∧
    (halted 0x13 → exec (.odCommit t q i v len data) s = done 9 0x13 0 0 T) ∧
    (served 0x13 → len.val ≠ 40 → exec (.odCommit t q i v len data) s = done 5 0x13 0 0 T) ∧
    (served 0x13 → len.val = 40 → T.txnBefore w = none → exec (.odCommit t q i v len data) s = done 10 0x13 0 0 T) ∧
    (names 0x13 → proves 0x13 = true → exec (.odCommit t q i v len data) s
        = .next (s.settled (((((E.putTxn { x with stage := 1, last := E.now }).wr Reg.committing 1).refreshHalts).refreshOdOpen).noteRequest w 0 0x13
            i.toNat sub))) ∧
    (names 0x13 → proves 0x13 = false → exec (.odCommit t q i v len data) s = done 4 0x13 0 0 T) ∧
    (halted 0x14 → exec (.odAbort t q i v len data) s = done 9 0x14 0 0 T) ∧
    (served 0x14 → len.val ≠ 40 → exec (.odAbort t q i v len data) s = done 5 0x14 0 0 T) ∧
    (served 0x14 → len.val = 40 → T.txnBefore w = none → exec (.odAbort t q i v len data) s = done 10 0x14 0 0 T) ∧
    (names 0x14 → proves 0x14 = true → exec (.odAbort t q i v len data) s = done 0 0x14 0 0 (E.dropTxn x 3)) ∧
    (names 0x14 → proves 0x14 = false → exec (.odAbort t q i v len data) s = done 4 0x14 0 0 T)

/-- R364, R368 to R371: what a transaction becomes: the commit point applies its writes in their order and counts them, or records and answers the
first refusal; the end of the apply phase lets held window writes take effect; an idle one is discarded; and a write of an entry through no
transaction is judged by existence, right, length, range and the entry's own condition. -/
def Obligations.CommitAndApply : Prop :=
  ∀ (t : Stamp) (s : State) (x : OdTxn) (b g : Bool) (c n : Nat) (q : Option Requester) (i len : BitVec 16) (sub : Byte) (v : Nat) (o : Bool),
    let H := s.arrive t
    let Z := H.wr Reg.committing 0
    let C : WriteCtx := ⟨x.who, x.session, b, g, Hub.barredBy x.staged⟩
    let m := x.staged.length
    let A := ((((Z.recordEnd x 1 0 m).putTxn { x with stage := 2 }).applyStaged C x.staged).add Od.OD_WRITES m).opsDone x.who (m + 1)
    let R := (({ Z with odTxns := dropBy OdTxn.who x.who Z.odTxns } : Hub).recordEnd x 2 c n).refreshOdOpen
    let who := match q with | some r => r.code | none => 19
    let F : Hub := { H with odTxns := H.odTxns.filter (fun y => y.stage != 2), winHeld := [] }
    let idle := H.odTxns.find? (fun y => y.who == who && y.stage == 0)
    let k := i.toNat * 256 + sub.toNat
    let V := v % 256 ^ len.toNat
    let right := Hub.rightCode i.toNat sub.toNat (if o then 1 else 2) 1
    let W : WriteCtx := ⟨0, 0, b, g, []⟩
    let code := H.liveCode W H.rd k V
    let reaches := odExists i.toNat sub.toNat = true ∧ right = 0 ∧ Hub.lengthCode i.toNat sub.toNat 0 len.toNat = 0
    let plain := reaches ∧ i.toNat ≠ 0xF000 ∧ k ≠ Od.SESSION_OPEN ∧ k ≠ Od.OWNER_CLAIM
    (H.odTxns.find? (fun y => y.stage == 1) = some x → Z.validate C [] 1 x.staged = none → exec (.commitPoint t b g) s
        = .next (s.settled ((A.refreshOdOpen.answer x.who 0x13 0 0 0).zeroiseDue))) ∧
    (H.odTxns.find? (fun y => y.stage == 1) = some x → Z.validate C [] 1 x.staged = some (c, n) → exec (.commitPoint t b g) s
        = .next (s.settled ((R.noteRequest x.who c (R.requester x.who).request (R.requester x.who).index (R.requester x.who).sub).answer x.who 0x13
            c 0 0))) ∧
    (H.odTxns.find? (fun y => y.stage == 1) = none → exec (.commitPoint t b g) s = .next (s.settled H)) ∧
    (exec (.applyEnd t) s
        = .next (s.settled ((H.winHeld.foldl (fun y w => y.applyPlain ⟨0, 0, false, true, []⟩ w.1 w.2) F).refreshOdOpen))) ∧
    (idle = some x → x.last + H.rd Od.TXN_IDLE_TIMEOUT * 1000000000 ≤ H.now → exec (.txnIdleExpiry t q) s = .next (s.settled (H.dropTxn x 5))) ∧
    (idle = some x → H.now < x.last + H.rd Od.TXN_IDLE_TIMEOUT * 1000000000 → exec (.txnIdleExpiry t q) s = .next (s.settled H)) ∧
    (idle = none → exec (.txnIdleExpiry t q) s = .next (s.settled H)) ∧
    (odExists i.toNat sub.toNat = false → exec (.registerWrite t i sub len v o b g) s = .next (s.settled (H.wrote 1))) ∧
    (odExists i.toNat sub.toNat = true → right ≠ 0 → exec (.registerWrite t i sub len v o b g) s = .next (s.settled (H.wrote right))) ∧
    (odExists i.toNat sub.toNat = true → right = 0 → Hub.lengthCode i.toNat sub.toNat 0 len.toNat ≠ 0 →
      exec (.registerWrite t i sub len v o b g) s = .next (s.settled (H.wrote 5))) ∧
    (plain → code = 0 → exec (.registerWrite t i sub len v o b g) s = .next (s.settled ((H.applyPlain W k V).wrote 0))) ∧
    (plain → code ≠ 0 → exec (.registerWrite t i sub len v o b g) s = .next (s.settled ((H.refusedEffect k code).wrote code))) ∧
    (reaches → i.toNat = 0xF000 → exec (.registerWrite t i sub len v o b g) s = .next (s.settled (H.deviceCommand k V)))

/-- R373 to R379: the device-wide commands act while Flint serves and no commit or save is under way. SAVE is
NV_FAIL when its records do not fit a copy of the array, else it starts; a save that reads back well, at the first or the second attempt, is the
copy in use, and one that fails twice is a fault; FACTORY_DEFAULTS, CLEAR_STORE and FULL_RESET take effect; any of them under a commit or a save is HALTED. -/
def Obligations.DeviceCommands : Prop :=
  ∀ (t : Stamp) (s : State) (j : SaveJob) (a b : Fin 8),
    let H := s.arrive t
    let K (k : Nat) : Hub := H.keep k 1
    let R := H.flintOn = true ∧ H.rd Reg.committing ≠ 1
    let closes (x : Hub) : Hub := (({ x with saving := none } : Hub).wr Reg.committing 0).refreshOdOpen
    let notes (code : Nat) (x : Hub) : Hub := if j.who = 0 then x else
      x.noteRequest j.who code (x.requester j.who).request (x.requester j.who).index (x.requester j.who).sub
    let ends (code : Nat) (x : Hub) : Hub := ((notes code (closes x)).answer j.who 0x11 code 0 0).commandReset
    let Y := H.eraseTarget j.target
    let E (x : Hub) : Hub := ({ x with
        saving := some ⟨0, x.saveTarget, x.savedRecords⟩ } : Hub).wr Od.SAVE_RESULT 2 |>.wr Reg.committing 1 |>.wr Reg.odOpen 1
    (R → exec (.save t) s
        = .next (s.settled (if 65484 < Hub.recordsLength (K Od.CMD_SAVE).savedRecords then ((K Od.CMD_SAVE).wr Od.SAVE_RESULT 3).wrote 16
            else ((E (K Od.CMD_SAVE)).refreshHalts).eraseTarget (K Od.CMD_SAVE).saveTarget))) ∧
    (H.saving = some j → exec (.saveComplete t 0 b) s = .next (s.settled (ends 0 (H.saveDone j)))) ∧
    (H.saving = some j → a ≠ 0 → exec (.saveComplete t a 0) s = .next (s.settled (ends 0 (Y.saveDone j)))) ∧
    (H.saving = some j → a ≠ 0 → b ≠ 0 → exec (.saveComplete t a b) s = .next (s.settled (ends 16 (Y.saveFailed j b)))) ∧
    (H.saving = none → exec (.saveComplete t a b) s = .next (s.settled H)) ∧
    (R → exec (.factoryDefaults t) s
        = .next (s.settled (((K Od.CMD_FACTORY_DEFAULTS).factoryDefaults ⟨0, 0, false, true, []⟩).wrote 0))) ∧
    (R → exec (.clearStore t) s
        = .next (s.settled (((((K Od.CMD_CLEAR_STORE).raiseHalt Od.EP0_OD_HALT 2).eraseCopies).wr Od.STORE_STATE 0).wrote 0))) ∧
    (R → exec (.fullReset t) s = .next (s.settled (((K Od.CMD_FULL_RESET).arm Tm.fullReset (ms 10)).wrote 0))) ∧
    (H.flintOn = true → H.rd Reg.committing = 1 → ∀ y ∈ ([.save t, .factoryDefaults t, .clearStore t, .fullReset t] : List Instr),
      exec y s = .next (s.settled (H.wrote 9))) ∧
    (H.flintOn = false → ∀ y ∈ ([.save t, .factoryDefaults t, .clearStore t, .fullReset t] : List Instr), exec y s = .next (s.settled H))

/-- R358, R386 to R402, R404: the host link while PD12 is ON; with PD12 not ON no command of the host has any effect. READ_STATUS repeats HL_STATUS;
WIN_READ of an entry outside the window reads 0, of a domain that is not ON its marker, and of a word past the value's end free values (log entry
2); WIN_WRITE takes effect, or is refused, counted and shown; OD_REQUEST while one is served is an overrun, one of a bad length is answered
BAD_LENGTH; OD_RESPONSE reads the bytes held; FIFO_READ of an empty FIFO reads 0; FIFO_WRITE takes a valid word into the packet that SOP opened, and
discards as Table 13-8 has it; quad mode is entered and left; and an unknown code is counted. -/
def Obligations.HostLinkCommands : Prop :=
  ∀ (t : Stamp) (s : State) (n : Byte) (i : BitVec 16) (sub word : Byte) (cnt off len : BitVec 16) (ws : List Word) (bs : List Byte) (sel : Fin 3)
    (w : BitVec 40) (f : FifoWord) (r : List FifoWord) (held : Nat × Nat),
    let H := s.arrive t
    let k := i.toNat * 256 + sub.toNat
    let words := Hub.windowCount i.toNat sub.toNat
    let v := pack ((ws.map (fun x => x.toNat)).take words |>.map (fun x => (4, x))) % 256 ^ Hub.entrySize i.toNat sub.toNat
    let ok := word.toNat == 0 && decide (words ≤ (ws.map (fun x => x.toNat)).length)
    let code := H.windowCode i.toNat sub.toNat ok v
    let data := ofBytes (bs.map (fun x => x.toNat))
    let Q := (({ H with odReq := some (bs.length, data), odResp := none } : Hub).inc Od.OD_REQUESTS).wr Reg.odNotice 0 |>.wr Reg.hostTaken 0
    let on := H.isOn 12 = true
    let reads := Hub.windowed i.toNat sub.toNat = true ∧ (odDomain i.toNat sub.toNat = 0 ∨ H.isOn (odDomain i.toNat sub.toNat) = true)
    let free := (List.range cnt.toNat).foldl (fun (x : List Nat × Hub) _ => (x.1 ++ [x.2.fresh.1 % 2 ^ 32], x.2.fresh.2)) ([], H)
    let bytesOf (z : Nat) : Emission := .hostWords ((List.range len.toNat).map (fun j => byteAt z (off.toNat + j)))
    let answered := H.hostServe.odState = 1 ∧ H.hostServe.odResp.isSome = true
    let valid := on ∧ hasBit w.toNat 39 = true
    let opened := openWords H.txq ≠ []
    let X := (if hasBit w.toNat 38 = true ∧ opened then H.dropOpen.txDiscard 2 else H).wr Reg.txqSkip 0
    let takes := valid ∧ (hasBit w.toNat 38 = true ∨ (H.rd Reg.txqSkip ≠ 1 ∧ opened))
    (H.isOn 12 = false → ∀ x ∈ ([.readStatus t n, .winRead t i sub word cnt, .winWrite t i sub word ws, .odRequest t bs, .odResponseReady t,
        .odResponse t off len, .fifoRead t sel len, .fifoWrite t [w], .enterQuad t, .exitQuad t, .badCommand t] : List Instr),
      exec x s = .next (s.settled H)) ∧
    (on → exec (.readStatus t n) s = .next (s.settled (H.emit (.hostWords (List.replicate n.toNat H.hlStatus))))) ∧
    (on → Hub.windowed i.toNat sub.toNat = false → exec (.winRead t i sub word cnt) s
        = .next (s.settled (H.emit (.hostWords (List.replicate cnt.toNat 0))))) ∧
    (on → Hub.windowed i.toNat sub.toNat = true → odDomain i.toNat sub.toNat ≠ 0 → H.isOn (odDomain i.toNat sub.toNat) = false →
      exec (.winRead t i sub word cnt) s
        = .next (s.settled (H.emit (.hostWords (List.replicate cnt.toNat (0xDEAD0000 + odDomain i.toNat sub.toNat)))))) ∧
    (on → reads → word.toNat < words → exec (.winRead t i sub word cnt) s
        = .next (s.settled (H.emit (.hostWords ((List.range cnt.toNat).map (fun j =>
            (windowWords words (H.view 0 i.toNat sub.toNat)).getD ((word.toNat + j) % words) 0)))))) ∧
    (on → reads → words ≤ word.toNat → exec (.winRead t i sub word cnt) s = .next (s.settled (free.2.emit (.hostWords free.1)))) ∧
    (on → (words ≠ 1 ∨ ws ≠ []) → code = 0 → exec (.winWrite t i sub word ws) s = .next (s.settled ((H.windowTake k v).wrote 0))) ∧
    (on → (words ≠ 1 ∨ ws ≠ []) → code ≠ 0 → exec (.winWrite t i sub word ws) s
        = .next (s.settled (((((H.inc Od.WINDOW_REFUSED).wr Od.WINDOW_LAST_REFUSED (i.toNat * 65536 + sub.toNat * 256 + code)).refusedEffect k
            code).wrote code)))) ∧
    (on → words = 1 → exec (.winWrite t i sub word []) s = .next (s.settled H)) ∧
    (on → H.odState = 1 ∨ H.odState = 3 → exec (.odRequest t bs) s = .next (s.settled (H.inc Od.OD_OVERRUNS))) ∧
    (on → H.odState ≠ 1 → H.odState ≠ 3 → bs.length ≠ 12 + field data 8 2 ∨ 1016 < field data 8 2 → exec (.odRequest t bs) s
        = .next (s.settled (((Q.hostAnswer 5 (byteAt data 0) 0 0).wr Reg.mailbox 2).wr Reg.odNotice 1))) ∧
    (on → H.odState ≠ 1 → H.odState ≠ 3 → bs.length = 12 + field data 8 2 → field data 8 2 ≤ 1016 → exec (.odRequest t bs) s
        = .next (s.settled (Q.wr Reg.mailbox 1).hostServe)) ∧
    (on → answered → exec (.odResponseReady t) s = .next (s.settled ((H.hostServe.wr Reg.mailbox 2).wr Reg.odNotice 1))) ∧
    (on → ¬ answered → exec (.odResponseReady t) s = .next (s.settled H.hostServe)) ∧
    (on → H.rd Reg.mailbox ≠ 2 ∨ H.odResp = none → (off.toNat ≠ 0 ∨ len.toNat = 0 ∨ H.rd Reg.mailbox ≠ 2) → exec (.odResponse t off len) s
        = .next (s.settled (H.emit (bytesOf 0)))) ∧
    (on → H.rd Reg.mailbox = 2 → H.odResp = some held → off.toNat = 0 → 1 ≤ len.toNat → exec (.odResponse t off len) s
        = .next (s.settled ((H.emit (bytesOf (held.2 % 256 ^ held.1))).wr Reg.odNotice 0))) ∧
    (on → H.rd Reg.mailbox = 2 → H.odResp = some held → (off.toNat ≠ 0 ∨ len.toNat = 0) → exec (.odResponse t off len) s
        = .next (s.settled (H.emit (bytesOf (held.2 % 256 ^ held.1))))) ∧
    (on → H.fifo sel = [] → exec (.fifoRead t sel 1) s = .next (s.settled (H.emit (.hostWords [0])))) ∧
    (on → H.fifo sel = f :: r → exec (.fifoRead t sel 1) s
        = .next (s.settled ((H.consumeWord sel f r).emit (.hostWords [fifoBits f])))) ∧
    (on → hasBit w.toNat 39 = false → exec (.fifoWrite t [w]) s = .next (s.settled H)) ∧
    (valid → hasBit w.toNat 38 = false → H.rd Reg.txqSkip = 1 → exec (.fifoWrite t [w]) s = .next (s.settled H)) ∧
    (valid → hasBit w.toNat 38 = false → H.rd Reg.txqSkip ≠ 1 → ¬ opened → exec (.fifoWrite t [w]) s = .next (s.settled (H.txDiscard 1))) ∧
    (takes → hasBit w.toNat 36 = true → exec (.fifoWrite t [w]) s = .next (s.settled (X.dropOpen.txDiscard 3))) ∧
    (takes → hasBit w.toNat 36 = false → X.txqFree = 0 → exec (.fifoWrite t [w]) s
        = .next (s.settled ((X.dropOpen.txDiscard 4).wr Reg.txqSkip 1))) ∧
    (takes → hasBit w.toNat 36 = false → X.txqFree ≠ 0 → exec (.fifoWrite t [w]) s = .next (s.settled (X.joinTxq (fifoWord w.toNat)))) ∧
    (on → exec (.enterQuad t) s = .next (s.settled (H.wr Reg.quad 1))) ∧
    (on → exec (.exitQuad t) s = .next (s.settled (H.wr Reg.quad 0))) ∧
    (on → exec (.badCommand t) s = .next (s.settled (H.inc Od.BAD_COMMANDS)))

/-- R408 to R427, R446: power domains and clocks. A DOMAIN_CMD begins a group command, and is refused with STATE under another; DOMAIN_CANCEL
stops a manager's or an armed one; a visit at an edge without a command does nothing, and one with nothing left ends it; a delay ends its move; a
clock that is good starts the next; one that is not good in time refuses the visit and reports; a lost lock is reported; the crystal's loss moves
Bedrock to the RC oscillator once; the armed triggers begin, are held or are dropped; a good image runs, and a bad one leaves the other slot to be
tried. -/
def Obligations.DomainsAndClocks : Prop :=
  ∀ (t : Stamp) (s : State) (v : BitVec 256) (g : GroupCmd) (c : Fin 3) (cs : List Nat) (b : Bool),
    let H := s.arrive t
    let K := H.keep Od.DOMAIN_CMD v.toNat
    let N := H.keep Od.DOMAIN_CANCEL 1
    let D := H.wr Tm.domDelay 0
    let C := H.wr Tm.clock 0
    let w := H.rd Od.ARMED_CMD
    let n := c.val + 1
    let early := H.due Tm.clock = true ∨ H.now + 1 + clockMax n < H.rd Tm.clock + clockMin n
    let bit := clockBit (if b then 3 else 2)
    let wakes := H.rd Od.CONTROL_UPSTREAM = 16 ∧ H.rd (Od.LINK_STATE 16) = 5
    let armed (j : Nat) : Prop := byteAt w 4 ≠ 0 ∧ hasBit (byteAt w 5) j = true
    let runs := (H.inc Od.ARMED_RUNS).beginGroup (field w 0 4) 2 (cmdPairs w) [] none
    let slot := H.rd Reg.fwSlot
    let verdict := H.fwVerdict slot
    let P := ((((({ H with shadows := H.shadows.filter (fun x => x.test != some (2, 0)) } : Hub).wr Od.FW_STATE 0).wr Od.FW_LAST_FAIL
      verdict).inc Od.FW_LOAD_FAILS).report 0x61 (verdict + 256 * slot) 0)
    (H.Writable Od.DOMAIN_CMD v.toNat → H.group = none → exec (.domainCmd t v) s
        = .next (s.settled ((K.beginGroup (field v.toNat 0 4) 1 (cmdPairs v.toNat) [] none).wrote 0))) ∧
    (H.Writable Od.DOMAIN_CMD v.toNat → H.group = some g → exec (.domainCmd t v) s = .next (s.settled (H.wrote 7))) ∧
    (H.writeCode Od.DOMAIN_CMD v.toNat ≠ 0 → exec (.domainCmd t v) s = .next (s.settled (H.wrote (H.writeCode Od.DOMAIN_CMD v.toNat)))) ∧
    (H.group = some g → g.source ≠ 3 → N.group = some g → g.phase ≠ 2 → g.phase ≠ 4 → exec (.domainCancel t) s
        = .next (s.settled (({ N with group := some { g with stop := 4 } } : Hub).wrote 0))) ∧
    (H.group = some g → g.source ≠ 3 → N.group = some g → g.phase = 2 → exec (.domainCancel t) s
        = .next (s.settled (((N.withdraw false g.at_).rollback { g with outcome := 4 }).wrote 0))) ∧
    (H.group = some g → g.source ≠ 3 → N.group = some g → g.phase = 4 → exec (.domainCancel t) s = .next (s.settled (N.wrote 0))) ∧
    (H.group = some g → g.source = 3 → exec (.domainCancel t) s = .next (s.settled (H.wrote 7))) ∧
    (H.group = none → exec (.domainCancel t) s = .next (s.settled (H.wrote 7))) ∧
    (H.group = none → exec (.sequencerVisit t) s = .next (s.settled H)) ∧
    (H.group = some g → (g.phase ≠ 0 ∨ H.edge = false) → exec (.sequencerVisit t) s = .next (s.settled H)) ∧
    (H.group = some g → g.phase = 0 → H.edge = true → g.stop = 0 → g.todo = [] → exec (.sequencerVisit t) s = .next (s.settled (H.endGroup g))) ∧
    (H.group = some g → g.phase = 0 → H.edge = true → g.stop ≠ 0 → exec (.sequencerVisit t) s
        = .next (s.settled (H.rollback { g with outcome := g.stop }))) ∧
    (H.edge = true → H.due Tm.domDelay = true → H.group = some g → g.phase = 1 → g.at_ ≠ 1 → D.dom g.at_ = 3 → g.stop = 0 → g.todo = [] →
      exec (.domainDelayEnd t) s = .next (s.settled ((D.setDom g.at_ 4 g.source true).endGroup { g with phase := 0 }))) ∧
    (H.edge = true → H.due Tm.domDelay = true → H.group = none → exec (.domainDelayEnd t) s = .next (s.settled D)) ∧
    ((H.edge = false ∨ H.due Tm.domDelay = false) → exec (.domainDelayEnd t) s = .next (s.settled H)) ∧
    (H.group = some g → g.phase = 3 → g.clocks.head? = some n → ¬ early → exec (.clockGood t c) s
        = .next (s.settled (((H.wrBit Od.CLOCK_STATE (clockBit n) true).wr Tm.clock 0).startClocks { g with clocks := g.clocks.drop 1 }))) ∧
    (H.group = some g → g.phase = 3 → g.clocks.head? = some n → early → exec (.clockGood t c) s = .next (s.settled H)) ∧
    (H.group = some g → (g.phase ≠ 3 ∨ g.clocks.head? ≠ some n) → exec (.clockGood t c) s = .next (s.settled (H.clockBack n))) ∧
    (H.group = none → exec (.clockGood t c) s = .next (s.settled (H.clockBack n))) ∧
    (H.due Tm.clock = true → H.group = some g → g.phase = 3 → g.clocks = n :: cs → exec (.clockStartTimeout t) s
        = .next (s.settled ((((C.wrBit Od.CLOCK_STATE (clockBit n) false).inc Od.CLOCK_FAILS).report 0x42 n 0).refuseVisit g g.at_ 14 n))) ∧
    (H.due Tm.clock = true → H.group = none → exec (.clockStartTimeout t) s = .next (s.settled C)) ∧
    (H.due Tm.clock = false → exec (.clockStartTimeout t) s = .next (s.settled H)) ∧
    (hasBit (H.rd Od.CLOCK_STATE) bit = true → exec (.clockLockLoss t b) s
        = .next (s.settled ((H.wrBit Od.CLOCK_STATE bit false).report 0x43 (if b then 3 else 2) 0))) ∧
    (hasBit (H.rd Od.CLOCK_STATE) bit = false → exec (.clockLockLoss t b) s = .next (s.settled H)) ∧
    (H.rd Od.LF_SOURCE ≠ 1 → exec (.lfCrystalLoss t) s = .next (s.settled ((H.wr Od.LF_SOURCE 1).report 0x41 0 0))) ∧
    (H.rd Od.LF_SOURCE = 1 → exec (.lfCrystalLoss t) s = .next (s.settled H)) ∧
    (H.isOn 12 = false → armed 1 → H.group = none → exec (.armedHostSelectTrigger t) s = .next (s.settled runs)) ∧
    (H.isOn 12 = true ∨ ¬ armed 1 → exec (.armedHostSelectTrigger t) s = .next (s.settled H)) ∧
    (wakes → armed 0 → H.group = none → exec (.armedUpstreamTrigger t) s = .next (s.settled runs)) ∧
    (wakes → armed 0 → H.group = some g → H.rd Reg.armedHeld ≠ 1 → exec (.armedUpstreamTrigger t) s = .next (s.settled (H.wr Reg.armedHeld 1))) ∧
    (wakes → armed 0 → H.group = some g → H.rd Reg.armedHeld = 1 → exec (.armedUpstreamTrigger t) s = .next (s.settled (H.inc Od.ARMED_DROPPED))) ∧
    (¬ armed 0 → exec (.armedUpstreamTrigger t) s = .next (s.settled H)) ∧
    (H.rd Od.FW_STATE = 1 → H.rd Reg.fwWarm = 1 → H.codeDigest slot = H.rd Od.FW_DIGEST → exec (.fwLoadComplete t) s
        = .next (s.settled (H.fwRuns slot))) ∧
    (H.rd Od.FW_STATE = 1 → H.rd Reg.fwWarm = 1 → H.codeDigest slot ≠ H.rd Od.FW_DIGEST → exec (.fwLoadComplete t) s
        = .next (s.settled (H.warmLost.flintLost.fwLoad false))) ∧
    (H.rd Od.FW_STATE = 1 → H.rd Reg.fwWarm ≠ 1 → exec (.fwLoadComplete t) s
        = .next (s.settled (if verdict = 0 then
            (if (H.fwRuns slot).rd Reg.fwTries = 0 then H.fwRuns slot else ((H.fwRuns slot).wr Od.FW_PREFERRED slot).saveSecurity)
          else if P.rd Reg.fwTries = 0 then ((P.wr Od.FW_STATE 1).wr Reg.fwTries 1).wr Reg.fwSlot (1 - slot) else P))) ∧
    (H.rd Od.FW_STATE ≠ 1 → exec (.fwLoadComplete t) s = .next (s.settled H))

/-- R433 to R437: attestation, ownership and slots. ATTEST_NONCE leaves a signed report; a claim that fails or succeeds shows its CLAIM_RESULT,
renews the challenge and raises the event; TRANSFER starts a transfer or, with a zero target, cancels it; its deadline ends it; INSTALL and REVOKE
change their slot, raise the event and close its sessions, or are refused by their result. -/
def Obligations.OwnershipAndSlots : Prop :=
  ∀ (t : Stamp) (s : State) (v : BitVec 256) (c : BitVec 1024) (x : BitVec 288) (i : Fin 12) (key : BitVec 512),
    let H := s.arrive t
    let C := H.claimResult c.toNat
    let signed : Bool := Config.ecdsaVerify (field c.toNat 0 64)
      (digest (labelOf "CLM1" ++ serialBytes ++ toBytes 16 (H.rd Od.CLAIM_CHALLENGE) ++ toBytes 64 c.toNat)) (field c.toNat 64 64)
    let raised (h : Hub) (n : Nat) : Hub := ((h.wr Od.CLAIM_RESULT n).renew Od.CLAIM_CHALLENGE 16).secEvent 1
    let X := H.keep Od.TRANSFER x.toNat
    let vi := pack [(1, 1), (1, i.val + 1), (2, 0), (64, key.toNat)]
    let vr := pack [(1, 2), (1, i.val + 1), (66, 0)]
    let I := H.keep Od.SLOT_CMD vi
    let V := H.keep Od.SLOT_CMD vr
    let refuses (k w : Nat) (y : Instr) : Prop := H.writeCode k w ≠ 0 → exec y s = .next (s.settled (H.wrote (H.writeCode k w)))
    (H.Writable Od.ATTEST_NONCE v.toNat → exec (.attestNonce t v) s
        = .next (s.settled (((H.keep Od.ATTEST_NONCE v.toNat).attest v.toNat).wrote 0))) ∧
    refuses Od.ATTEST_NONCE v.toNat (.attestNonce t v) ∧ refuses Od.OWNER_CLAIM c.toNat (.ownerClaim t c) ∧
    refuses Od.TRANSFER x.toNat (.transfer t x) ∧ refuses Od.SLOT_CMD vi (.slotInstall t i key) ∧ refuses Od.SLOT_CMD vr (.slotRevoke t i) ∧
    (H.Writable Od.OWNER_CLAIM c.toNat → exec (.ownerClaim t c) s
        = .next (s.settled (if C = 1 then (raised ((H.keep Od.OWNER_CLAIM c.toNat).claimDone c.toNat) 1).wrote 0
            else if C = 3 then (raised H 3).wrote 4
            else if C = 5 then (raised H.refreshSecState 5).wrote 7
            else (raised H C).wrote 7))) ∧
    (H.rd Od.SEC_STATE = 1 → C = 2) ∧
    (H.rd Od.SEC_STATE = 2 → H.rd Od.TRANSFER_DEADLINE ≤ H.stamp → C = 5) ∧
    (H.rd Od.SEC_STATE = 2 → H.stamp < H.rd Od.TRANSFER_DEADLINE → C =
      if H.rd Reg.transferTo ≠ ofBytes (digest (toBytes 64 (field c.toNat 0 64))) then 4 else if signed then 1 else 3) ∧
    (H.rd Od.SEC_STATE = 0 → C = if signed then 1 else 3) ∧
    (H.Writable Od.TRANSFER x.toNat → field x.toNat 0 32 ≠ 0 → exec (.transfer t x) s
        = .next (s.settled (((((X.wr Od.SEC_STATE 2).wr Reg.transferTo (field x.toNat 0 32)).wr Reg.transferErase (byteAt x.toNat 32 % 2)).wr
            Od.TRANSFER_DEADLINE ((X.stamp + X.rd Od.TRANSFER_WINDOW * 1000000000) % 2 ^ 64)).wrote 0))) ∧
    (H.Writable Od.TRANSFER x.toNat → field x.toNat 0 32 = 0 → exec (.transfer t x) s
        = .next (s.settled ((if X.rd Od.SEC_STATE = 2 then X.refreshSecState else X).wrote 0))) ∧
    (H.rd Od.SEC_STATE = 2 → H.rd Od.TRANSFER_DEADLINE ≤ H.stamp → exec (.transferDeadline t) s = .next (s.settled H.refreshSecState)) ∧
    (H.rd Od.SEC_STATE ≠ 2 ∨ H.stamp < H.rd Od.TRANSFER_DEADLINE → exec (.transferDeadline t) s = .next (s.settled H)) ∧
    (H.Writable Od.SLOT_CMD vi → exec (.slotInstall t i key) s
        = .next (s.settled (if I.slotResult vi = 1 then
            (((((I.wr Od.SLOT_RESULT 1).wr (Od.KEY_SLOT (byteAt vi 1)) (pack [(1, 1), (1, if byteAt vi 1 ≤ 4 then 1 else 2), (2, 0),
              (32, ofBytes (digest (toBytes 64 (field vi 4 64))))])).slotsChanged).secEvent 2).closeSessions (fun r => seSlot r == byteAt vi 1)).wrote 0
            else (I.wr Od.SLOT_RESULT (I.slotResult vi)).wrote 0))) ∧
    (H.Writable Od.SLOT_CMD vr → V.slotResult vr = 1 → exec (.slotRevoke t i) s
        = .next (s.settled (((((((V.wr Od.SLOT_RESULT 1).wr (Od.KEY_SLOT (byteAt vr 1)) (putField
            ((V.wr Od.SLOT_RESULT 1).rd (Od.KEY_SLOT (byteAt vr 1))) 0 1 2)).slotsChanged).secEvent 2).closeSessions
              (fun r => seSlot r == byteAt vr 1)).wrote 0)))) ∧
    (H.Writable Od.SLOT_CMD vr → V.slotResult vr ≠ 1 → exec (.slotRevoke t i) s
        = .next (s.settled ((V.wr Od.SLOT_RESULT (V.slotResult vr)).wrote 0)))

/-- R441 to R443, R454, R432: sessions, zeroisation and the identity. SESSION_OPEN passes its checks in their order, and either outcome renews the
challenge; SESSION_CLOSE closes the named session; an idle session is closed; ZEROISE is answered and then zeroises. -/
def Obligations.SessionCommands : Prop :=
  ∀ (t : Stamp) (s : State) (v : BitVec 1696) (a b : BitVec 16) (i : Fin 8) (n : Nat),
    let H := s.arrive t
    let O := H.keep Od.SESSION_OPEN v.toNat
    let K := H.keep Od.SESSION_CLOSE b.toNat
    let place := (firstFrom 1 8 (fun j => !H.sessionOpen j)).getD 1
    let idle := seLastUse (H.sessionRec (i + 1)) + H.rd Od.SESSION_IDLE * 1000000000 ≤ H.stamp
    (H.Writable Od.SESSION_OPEN v.toNat → exec (.sessionOpen t v) s
        = .next (s.settled (if H.openChecks v.toNat = false then ((H.inc Od.SESSION_OPEN_FAILS).renew Od.SESSION_CHALLENGE 16).wrote 4
            else if 8 ≤ H.sessionsOpen then ((H.inc Od.SESSION_OPEN_FAILS).renew Od.SESSION_CHALLENGE 16).wrote 7
            else ((O.openSession place v.toNat).renew Od.SESSION_CHALLENGE 16).wrote 0))) ∧
    (H.writeCode Od.SESSION_OPEN v.toNat = 6 ∨ H.writeCode Od.SESSION_OPEN v.toNat = 8 → exec (.sessionOpen t v) s
        = .next (s.settled (H.wrote (H.writeCode Od.SESSION_OPEN v.toNat)))) ∧
    (H.Writable Od.SESSION_CLOSE b.toNat → (H.sessionOf a.toNat).isSome = true → (H.sessionOf b.toNat).isSome = true →
      a.toNat = b.toNat ∨ H.sessionRole a.toNat = 1 → K.sessionOf b.toNat = some n → exec (.sessionClose t a b) s
        = .next (s.settled ((K.closeSession n).wrote 0))) ∧
    (H.Writable Od.SESSION_CLOSE b.toNat → (H.sessionOf a.toNat).isSome = true → (H.sessionOf b.toNat).isSome = true → a.toNat ≠ b.toNat →
      H.sessionRole a.toNat ≠ 1 → exec (.sessionClose t a b) s = .next (s.settled (H.wrote 3))) ∧
    (H.Writable Od.SESSION_CLOSE b.toNat → H.sessionOf a.toNat = none → exec (.sessionClose t a b) s = .next (s.settled (H.wrote 4))) ∧
    (H.Writable Od.SESSION_CLOSE b.toNat → (H.sessionOf a.toNat).isSome = true → H.sessionOf b.toNat = none → exec (.sessionClose t a b) s
        = .next (s.settled (H.wrote 7))) ∧
    (H.writeCode Od.SESSION_CLOSE b.toNat ≠ 0 → exec (.sessionClose t a b) s
        = .next (s.settled (H.wrote (H.writeCode Od.SESSION_CLOSE b.toNat)))) ∧
    (H.sessionOpen (i + 1) = true → idle →
      exec (.sessionIdleExpiry t i) s = .next (s.settled (H.closeSession (i + 1)))) ∧
    (H.sessionOpen (i + 1) = false ∨ ¬ idle → exec (.sessionIdleExpiry t i) s = .next (s.settled H)) ∧
    (H.Writable Od.ZEROISE 1 → exec (.zeroise t) s = .next (s.settled (H.wrote 0).zeroise)) ∧
    (H.writeCode Od.ZEROISE 1 ≠ 0 → exec (.zeroise t) s = .next (s.settled (H.wrote (H.writeCode Od.ZEROISE 1)))) ∧
    (H.due Tm.derive = true → exec (.identityDerived t) s = .next (s.settled (H.wr Tm.derive 0).derived)) ∧
    (H.due Tm.derive = false → exec (.identityDerived t) s = .next (s.settled H))

/-- R445, R447: the firmware slots. A block is written where FW_WRITE_AT points while PD12 is ON, past the slot's end the write is refused in
FW_RESULT, a failed readback is FLASH_FAIL; the inactive slot is erased, checked and, once checked, preferred; COMMIT_SVN raises MIN_SVN; and any
FW_CMD or FW_WRITE_DATA during a check is refused with STATE. -/
def Obligations.FirmwareSlots : Prop :=
  ∀ (t : Stamp) (s : State) (v : BitVec 4096) (g : Bool),
    let H := s.arrive t
    let K := H.keep Od.FW_WRITE_DATA v.toNat
    let F (c : Nat) : Hub := H.keep Od.FW_CMD c
    let at_ := K.rd Od.FW_WRITE_AT
    let B := K.wr Reg.fwChecked 0
    let okW := H.Writable Od.FW_WRITE_DATA v.toNat ∧ H.isOn 12 = true ∧ H.rd Od.FW_RESULT ≠ 2
    let okC (c : Nat) : Prop := H.Writable Od.FW_CMD c ∧ H.rd Od.FW_RESULT ≠ 2
    (okW → at_ ≤ 523776 → exec (.fwWriteData t v true) s
        = .next (s.settled ((((B.putFlash B.inactive (at_ / 512) v.toNat).wr Od.FW_WRITE_AT (at_ + 512)).wr Od.FW_RESULT 1).wrote 0))) ∧
    (okW → at_ ≤ 523776 → exec (.fwWriteData t v false) s
        = .next (s.settled (((B.fresh.2.putFlash B.fresh.2.inactive (at_ / 512) (B.fresh.1 % 256 ^ 512)).wr Od.FW_RESULT 9).wrote 0))) ∧
    (okW → 523776 < at_ → exec (.fwWriteData t v g) s = .next (s.settled ((K.wr Od.FW_RESULT 3).wrote 0))) ∧
    (H.Writable Od.FW_WRITE_DATA v.toNat → H.isOn 12 = false → exec (.fwWriteData t v g) s = .next (s.settled (H.wrote 8))) ∧
    (H.Writable Od.FW_WRITE_DATA v.toNat → H.isOn 12 = true → H.rd Od.FW_RESULT = 2 → exec (.fwWriteData t v g) s = .next (s.settled (H.wrote 7))) ∧
    (H.writeCode Od.FW_WRITE_DATA v.toNat ≠ 0 → exec (.fwWriteData t v g) s
        = .next (s.settled (H.wrote (H.writeCode Od.FW_WRITE_DATA v.toNat)))) ∧
    (∀ y ∈ ([(1, .eraseInactive t), (2, .checkInactive t), (3, .preferInactive t), (4, .commitSvn t)] : List (Nat × Instr)),
      (H.writeCode Od.FW_CMD y.1 ≠ 0 → exec y.2 s = .next (s.settled (H.wrote (H.writeCode Od.FW_CMD y.1)))) ∧
      (H.Writable Od.FW_CMD y.1 → H.rd Od.FW_RESULT = 2 → exec y.2 s = .next (s.settled (H.wrote 7)))) ∧
    (okC 1 → exec (.eraseInactive t) s = .next (s.settled ((F 1).fwErase.wrote 0))) ∧
    (okC 2 → exec (.checkInactive t) s = .next (s.settled ((((F 2).wr Od.FW_RESULT 2).wr Reg.secOp 1).wrote 0))) ∧
    (H.rd Od.FW_RESULT = 2 → exec (.fwCheckComplete t) s
        = .next (s.settled (((H.wr Od.FW_RESULT (if H.fwVerdict H.inactive = 0 then 1 else H.fwVerdict H.inactive)).wr Reg.secOp 0).wr Reg.fwChecked
            (if H.fwVerdict H.inactive = 0 then 1 else 0)))) ∧
    (H.rd Od.FW_RESULT ≠ 2 → exec (.fwCheckComplete t) s = .next (s.settled H)) ∧
    (okC 3 → (F 3).rd Reg.fwChecked = 1 → exec (.preferInactive t) s
        = .next (s.settled ((((F 3).wr Od.FW_PREFERRED (F 3).inactive).wr Od.FW_RESULT 1).saveSecurity.wrote 0))) ∧
    (okC 3 → (F 3).rd Reg.fwChecked ≠ 1 → exec (.preferInactive t) s = .next (s.settled (((F 3).wr Od.FW_RESULT 3).wrote 0))) ∧
    (okC 4 → exec (.commitSvn t) s
        = .next (s.settled ((((F 4).wr Od.MIN_SVN ((F 4).rd Od.FW_SVN)).wr Od.FW_RESULT 1).wrote 0)))

/-- R448 to R453: key exchanges. An AGREE that is owed begins at the upstream end; at the child LINK_KEYX is BUSY while the exchange runs, REFUSED
where encryption is OFF, and STATE on a link that is no ACTIVE TS link or has an exchange under way; a certificate that is not valid is refused; a REKEY begins when its
interval has passed or a key has carried 2^30 frames; 100 ms without keys under REQUIRED reset the link; and 60 s after a failure AGREE is owed again. -/
def Obligations.KeyExchanges : Prop :=
  ∀ (t : Stamp) (s : State) (u : Trunk) (body : BitVec 1152) (cert ca : BitVec 6144) (k : KeyExchange),
    let H := s.arrive t
    let va := pack [(1, 1), (3, 0), (144, body.toNat)]
    let vk := pack [(1, 2), (3, 0), (144, body.toNat)]
    let child := H.downstreamEnd (16 + u) = true ∧ H.rd (Od.LINK_STATE (16 + u)) = 4 ∧ H.rd (Od.LINK_CLASS (16 + u)) = 4 ∧ H.keyxOf u = none
    let N (v : Nat) (x : Hub) : Hub := ({ x with
      keyx := putBy KeyExchange.trunk ⟨u, false, byteAt v 0, 0, 0, 0, 0, v⟩ x.keyx } : Hub).wr (Reg.keyxReply u) 1
    let A := H.keep Od.LINK_KEYX va
    let R := H.keep Od.LINK_KEYX vk
    let T := H.wr (Tm.keyAgree u) 0
    let able := H.keyxUpstream u = true ∧ H.keyxOf u = none ∧ H.isOn 11 = true ∧ H.flintOn = true
    let starts := H.rd (Reg.keyxDue u) = 1 ∧ H.rd Od.TRUNK_ENC ≠ 0 ∧ able
    let worn := H.due (Tm.rekey u) = true ∨ 2 ^ 30 ≤ H.rd (Reg.keyE u) ∨ 2 ^ 30 ≤ H.rd (Reg.keyFramesRx u)
    let rekeys := H.rd (Reg.keyTx u) = 1 ∧ worn ∧ able
    let unkeyed := H.rd Od.TRUNK_ENC = 2 ∧ H.rd (Reg.keyTx u) = 0 ∧ T.upstreamEnd (16 + u) = true ∧ 4 ≤ H.rd (Od.PORT_STATE (16 + u))
    let deaf := H.downstreamEnd (16 + u) = false ∨ H.rd (Od.LINK_STATE (16 + u)) ≠ 4 ∨ H.rd (Od.LINK_CLASS (16 + u)) ≠ 4 ∨ H.keyxOf u ≠ none
    let Y := H.wr (Tm.keyRetry u) 0
    let f := H.fresh
    let g := f.2.fresh
    let z := g.2.fresh
    let head := pack [(1, 2), (3, 0), (16, f.1), (64, Config.ecdhPublic g.1)]
    let sig := Config.ecdsaSign (digest (labelOf "LKX2" ++ toBytes 8 (Config.certSerial cert.toNat) ++ toBytes 84 k.message ++ toBytes 84 head)) z.1
    let dk := deriveLink (Config.ecdh g.1 (field k.message 20 64)) (field k.message 4 16) (f.1 % 256 ^ 16)
    let kk : LinkKey := { z.2.linkKeyOf u with rxNext := some dk.down, txNext := some dk.up }
    let done := ((({ z.2 with linkKeys := putBy LinkKey.trunk kk z.2.linkKeys } : Hub).endKeyx u).wr (Reg.keyxReply u)
      (pack [(84, head), (64, sig)])).rotation u false
    (starts → exec (.keyxStart t u) s = .next (s.settled ((H.wr (Reg.keyxDue u) 0).beginKeyx u 1))) ∧
    (¬ starts → exec (.keyxStart t u) s = .next (s.settled H)) ∧
    (H.Writable Od.LINK_KEYX va → child → A.rd Od.TRUNK_ENC ≠ 0 → byteAt va 0 = 1 → exec (.linkKeyxAgree t u body) s
        = .next (s.settled (((N va A).wr (Od.UA_SEC_STATE + u) 1).wrote 0))) ∧
    (H.Writable Od.LINK_KEYX va → child → A.rd Od.TRUNK_ENC = 0 → exec (.linkKeyxAgree t u body) s
        = .next (s.settled ((A.wr (Reg.keyxReply u) 259).wrote 0))) ∧
    (H.Writable Od.LINK_KEYX va → deaf → exec (.linkKeyxAgree t u body) s = .next (s.settled (H.wrote 7))) ∧
    (H.Writable Od.LINK_KEYX vk → child → R.rd Od.TRUNK_ENC ≠ 0 → byteAt vk 0 = 2 → exec (.linkKeyxRekey t u body) s
        = .next (s.settled ((((N vk R).wr (Od.UA_SEC_STATE + u) 3).rotation u true).wrote 0))) ∧
    (H.Writable Od.LINK_KEYX vk → deaf → exec (.linkKeyxRekey t u body) s = .next (s.settled (H.wrote 7))) ∧
    (H.Writable Od.LINK_KEYX vk → child → R.rd Od.TRUNK_ENC = 0 → exec (.linkKeyxRekey t u body) s
        = .next (s.settled ((R.wr (Reg.keyxReply u) 259).wrote 0))) ∧
    (H.writeCode Od.LINK_KEYX va ≠ 0 → exec (.linkKeyxAgree t u body) s = .next (s.settled (H.wrote (H.writeCode Od.LINK_KEYX va)))) ∧
    (H.writeCode Od.LINK_KEYX vk ≠ 0 → exec (.linkKeyxRekey t u body) s = .next (s.settled (H.wrote (H.writeCode Od.LINK_KEYX vk)))) ∧
    (H.keyxOf u = some k → k.upstream = false → exec (.keyxReplyReady t u cert ca) s
        = .next (s.settled (if Config.certValid cert.toNat ca.toNat (H.rd Od.ID_ROOT_HASH) = false then H.keyxRefuse k 2
            else if Config.ecdsaVerify (Config.certKey cert.toNat) (digest (labelOf "LKX1" ++ serialBytes ++ toBytes 84 k.message))
              (field k.message 84 64) = false then H.keyxRefuse k 3
            else if k.op = 2 then done.inc Od.REKEYS else done))) ∧
    (H.keyxOf u = some k → k.upstream = true → exec (.keyxReplyReady t u cert ca) s = .next (s.settled H)) ∧
    (H.keyxOf u = none → exec (.keyxReplyReady t u cert ca) s = .next (s.settled H)) ∧
    (rekeys → exec (.rekeyDue t u) s = .next (s.settled ((H.wr (Tm.rekey u) 0).beginKeyx u 2))) ∧
    (¬ rekeys → exec (.rekeyDue t u) s = .next (s.settled H)) ∧
    (H.due (Tm.keyAgree u) = true → unkeyed → exec (.keyAgreeTimeout t u) s
        = .next (s.settled (((T.endKeyx u).enterResetting (16 + u)).egressGone (16 + u)))) ∧
    (H.due (Tm.keyAgree u) = true → ¬ unkeyed → exec (.keyAgreeTimeout t u) s = .next (s.settled T)) ∧
    (H.due (Tm.keyAgree u) = false → exec (.keyAgreeTimeout t u) s = .next (s.settled H)) ∧
    (H.due (Tm.keyRetry u) = true → H.rd Od.TRUNK_ENC = 1 → H.rd (Reg.keyTx u) = 0 → exec (.keyxRetryTimer t u) s
        = .next (s.settled ((Y.wr (Reg.keyxDue u) 1).keyxStart u))) ∧
    (H.due (Tm.keyRetry u) = true → (H.rd Od.TRUNK_ENC ≠ 1 ∨ H.rd (Reg.keyTx u) ≠ 0) → exec (.keyxRetryTimer t u) s = .next (s.settled Y)) ∧
    (H.due (Tm.keyRetry u) = false → exec (.keyxRetryTimer t u) s = .next (s.settled H))
end

