-- ==== Sys2Proof/Laws/Cells.lean ====
section
/-!
SUPPORT. Sys2Proof/Laws/Cells.lean: the laws of the cell store: a read after a write, in every store, and the canonical form, which
every write keeps.
-/
namespace Sys2Proof.Machine

/-- After the entries up to k are dropped, cell k holds its default. -/
theorem cellGet_drop_self (l : List (Nat × Nat)) (k : Nat) : cellGet (cellDrop l k) k = odDefault k := by
  induction l with
  | nil => rfl
  | cons c r ih =>
    obtain ⟨k', v⟩ := c
    by_cases h : k' ≤ k
    · simpa [cellDrop, h] using ih
    · have h1 : k ≠ k' := by omega
      have h2 : k < k' := by omega
      simp [cellDrop, h, cellGet, h1, h2]

/-- Dropping the entries up to k leaves a cell above k as a search past them finds it. -/
theorem cellGet_drop_gt (l : List (Nat × Nat)) (k j : Nat) (h : k < j) : cellGet (cellDrop l k) j = cellGet l j := by
  induction l with
  | nil => rfl
  | cons c r ih =>
    obtain ⟨k', v⟩ := c
    by_cases hk : k' ≤ k
    · have h1 : j ≠ k' := by omega
      have h2 : ¬ j < k' := by omega
      simp [cellDrop, hk, cellGet, h1, h2, ih]
    · simp [cellDrop, hk]

/-- A cell below the dropped ones holds its default when they stood first. -/
theorem cellGet_drop_lt (l : List (Nat × Nat)) (k j : Nat) (h : j < k) : cellGet (cellDrop l k) j = odDefault j := by
  induction l with
  | nil => rfl
  | cons c r ih =>
    obtain ⟨k', v⟩ := c
    by_cases hk : k' ≤ k
    · simpa [cellDrop, hk] using ih
    · have h1 : j ≠ k' := by omega
      have h2 : j < k' := by omega
      simp [cellDrop, hk, cellGet, h1, h2]

/-- A read after a write: the cell written holds the value, every other cell what it held. It holds of every store. -/
theorem cellGet_put (l : List (Nat × Nat)) (k v j : Nat) : cellGet (cellPut l k v) j = if j = k then v else cellGet l j := by
  induction l with
  | nil =>
    by_cases hv : v = odDefault k
    · by_cases hj : j = k <;> simp [cellPut, hv, cellGet, hj]
    · by_cases hj : j = k <;> simp [cellPut, hv, cellGet, hj]
  | cons c r ih =>
    obtain ⟨k', v'⟩ := c
    rcases Nat.lt_trichotomy k k' with hk | hk | hk
    · by_cases hv : v = odDefault k
      · by_cases hj : j = k
        · subst hj
          have h1 : j ≠ k' := by omega
          simp [cellPut, hk, hv, cellGet, h1]
        · simp [cellPut, hk, hv, hj]
      · by_cases hj : j = k
        · simp [cellPut, hk, hv, cellGet, hj]
        · by_cases hjk : j < k
          · have h1 : j ≠ k' := by omega
            have h2 : j < k' := by omega
            simp [cellPut, hk, hv, cellGet, hj, hjk, h1, h2]
          · simp [cellPut, hk, hv, cellGet, hj, hjk]
    · subst hk
      by_cases hv : v = odDefault k
      · rcases Nat.lt_trichotomy j k with hj | hj | hj
        · have h1 : j ≠ k := by omega
          simp [cellPut, hv, cellGet_drop_lt r k j hj, cellGet, h1, hj]
        · subst hj
          simp [cellPut, hv, cellGet_drop_self]
        · have h1 : j ≠ k := by omega
          have h2 : ¬ j < k := by omega
          simp [cellPut, hv, cellGet_drop_gt r k j hj, cellGet, h1, h2]
      · by_cases hj : j = k <;> simp [cellPut, hv, cellGet, hj]
    · have h1 : ¬ k < k' := by omega
      have h2 : k ≠ k' := by omega
      by_cases hj : j = k'
      · have h3 : j ≠ k := by omega
        simp [cellPut, h1, h2, cellGet, hj, Ne.symm h2]
      · by_cases hjk : j < k'
        · have h3 : j ≠ k := by omega
          simp [cellPut, h1, h2, cellGet, hj, hjk, h3]
        · simp [cellPut, h1, h2, cellGet, hj, hjk, ih]

/-- A canonical list above a bound is canonical above any lower one. -/
theorem cellsWfFrom_lower (l : List (Nat × Nat)) (b a : Nat) (hab : a ≤ b) (w : cellsWfFrom (some b) l = true) :
    cellsWfFrom (some a) l = true := by
  cases l with
  | nil => rfl
  | cons c r =>
    obtain ⟨k, v⟩ := c
    simp only [cellsWfFrom, Bool.and_eq_true, decide_eq_true_eq] at w ⊢
    exact ⟨⟨by omega, w.1.2⟩, w.2⟩

/-- A canonical list above a bound is canonical. -/
theorem cellsWfFrom_none (l : List (Nat × Nat)) (b : Nat) (w : cellsWfFrom (some b) l = true) : cellsWfFrom none l = true := by
  cases l with
  | nil => rfl
  | cons c r =>
    obtain ⟨k, v⟩ := c
    simp only [cellsWfFrom, Bool.and_eq_true, decide_eq_true_eq] at w ⊢
    exact ⟨⟨trivial, w.1.2⟩, w.2⟩

/-- Dropping leading entries keeps the canonical form. -/
theorem cellsWfFrom_drop (l : List (Nat × Nat)) (b : Option Nat) (k : Nat) (w : cellsWfFrom b l = true) :
    cellsWfFrom b (cellDrop l k) = true := by
  induction l generalizing b with
  | nil => rfl
  | cons c r ih =>
    obtain ⟨k', v⟩ := c
    by_cases hk : k' ≤ k
    · simp only [cellDrop, hk, if_true]
      simp only [cellsWfFrom, Bool.and_eq_true, decide_eq_true_eq] at w
      have := w.2
      cases b with
      | none => exact cellsWfFrom_none _ k' (ih _ this)
      | some m => exact cellsWfFrom_lower _ k' m (by have h : m < k' := (by simpa using w.1.1); omega) (ih _ this)
    · simpa [cellDrop, hk] using w

/-- A write above a bound keeps the canonical form above it. -/
theorem cellsWfFrom_put (l : List (Nat × Nat)) (b : Option Nat) (k v : Nat) (hb : ∀ m, b = some m → m < k)
    (w : cellsWfFrom b l = true) : cellsWfFrom b (cellPut l k v) = true := by
  induction l generalizing b with
  | nil =>
    by_cases hv : v = odDefault k
    · simp [cellPut, hv, cellsWfFrom]
    · cases b with
      | none => simp [cellPut, hv, cellsWfFrom]
      | some m => simp [cellPut, hv, cellsWfFrom, hb m rfl]
  | cons c r ih =>
    obtain ⟨k', v'⟩ := c
    have w0 := w
    simp only [cellsWfFrom, Bool.and_eq_true, decide_eq_true_eq] at w
    obtain ⟨⟨w1, w2⟩, w3⟩ := w
    rcases Nat.lt_trichotomy k k' with hk | hk | hk
    · by_cases hv : v = odDefault k
      · simpa [cellPut, hk, hv] using w0
      · cases b with
        | none => simp [cellPut, hk, hv, cellsWfFrom, w2, w3]
        | some m => simp [cellPut, hk, hv, cellsWfFrom, hb m rfl, w2, w3]
    · subst hk
      by_cases hv : v = odDefault k
      · have h1 := cellsWfFrom_drop r (some k) k w3
        simp only [cellPut, lt_irrefl, if_false, if_true, hv]
        cases b with
        | none => exact cellsWfFrom_none _ k h1
        | some m => exact cellsWfFrom_lower _ k m (by have := hb m rfl; omega) h1
      · cases b with
        | none => simp [cellPut, hv, cellsWfFrom, w3]
        | some m => simp [cellPut, hv, cellsWfFrom, hb m rfl, w3]
    · have h1 : ¬ k < k' := by omega
      have h2 : k ≠ k' := by omega
      have h3 := ih (some k') (by intro m hm; injection hm; omega) w3
      simp only [cellPut, h1, h2, if_false, cellsWfFrom, Bool.and_eq_true, decide_eq_true_eq]
      exact ⟨⟨w1, w2⟩, h3⟩

/-- A write keeps the canonical form. -/
theorem cellsWf_put (l : List (Nat × Nat)) (k v : Nat) (w : cellsWf l = true) : cellsWf (cellPut l k v) = true :=
  cellsWfFrom_put l none k v (fun _ h => by cases h) w

/-- Taking entries away keeps the canonical form. -/
theorem cellsWfFrom_filter (l : List (Nat × Nat)) (b : Option Nat) (f : Nat × Nat → Bool) (w : cellsWfFrom b l = true) :
    cellsWfFrom b (l.filter f) = true := by
  induction l generalizing b with
  | nil => rfl
  | cons c r ih =>
    obtain ⟨k', v⟩ := c
    simp only [cellsWfFrom, Bool.and_eq_true, decide_eq_true_eq] at w
    by_cases hf : f (k', v) = true
    · simp only [List.filter_cons, hf, if_true, cellsWfFrom, Bool.and_eq_true, decide_eq_true_eq]
      exact ⟨w.1, ih _ w.2⟩
    · simp only [List.filter_cons, hf, Bool.false_eq_true, if_false]
      cases b with
      | none => exact cellsWfFrom_none _ k' (ih _ w.2)
      | some m => exact cellsWfFrom_lower _ k' m (by have h : m < k' := (by simpa using w.1.1); omega) (ih _ w.2)

/-- Taking entries away keeps the canonical form. -/
theorem cellsWf_filter (l : List (Nat × Nat)) (f : Nat × Nat → Bool) (w : cellsWf l = true) : cellsWf (l.filter f) = true :=
  cellsWfFrom_filter l none f w

end Sys2Proof.Machine
end

