-- ==== Sys2Proof/Laws/Codec.lean ====
section
/-!
SUPPORT. Sys2Proof/Laws/Codec.lean: fields and strings of bytes put together and read back; the CRC-32's width; what a trailer under its session's
key passes (R369).
-/
namespace Sys2Proof.Machine

/-! ### Fields -/

theorem field_above (lo n hi len : Nat) (hl : lo < 256 ^ n) (hh : hi < 256 ^ len) : field (lo + 256 ^ n * hi) n len = hi := by
  have p : 0 < 256 ^ n := Nat.pow_pos (by decide)
  unfold field
  rw [Nat.add_mul_div_left _ _ p, Nat.div_eq_of_lt hl, Nat.zero_add, Nat.mod_eq_of_lt hh]

theorem low_below (lo n hi : Nat) (hl : lo < 256 ^ n) : (lo + 256 ^ n * hi) % 256 ^ n = lo := by
  rw [Nat.add_mul_mod_self_left, Nat.mod_eq_of_lt hl]

theorem toBytes_below (n lo hi : Nat) : toBytes n (lo + 256 ^ n * hi) = toBytes n lo := by
  induction n generalizing lo hi with
  | zero => rfl
  | succ n ih =>
    have e : lo + 256 ^ (n + 1) * hi = lo + 256 * (256 ^ n * hi) := by rw [Nat.pow_succ]; ring
    simp only [toBytes, e, Nat.add_mul_mod_self_left, Nat.add_mul_div_left _ _ (show 0 < 256 by decide)]
    rw [ih]

theorem trSession_below (lo x : Nat) : trSession (lo + 256 ^ 8 * x) = trSession lo := by unfold trSession field; omega

theorem trCounter_below (lo x : Nat) : trCounter (lo + 256 ^ 8 * x) = trCounter lo := by unfold trCounter field; omega

/-! ### The CRC-32 (R14) -/

theorem crcBit_lt (g c : Nat) (hg : g < 2 ^ 32) (hc : c < 2 ^ 32) : crcBit g c < 2 ^ 32 := by
  unfold crcBit
  split
  · exact Nat.xor_lt_two_pow (by omega) hg
  · omega

theorem crcSteps_lt (g k c : Nat) (hg : g < 2 ^ 32) (hc : c < 2 ^ 32) : crcSteps g k c < 2 ^ 32 := by
  induction k generalizing c with
  | zero => exact hc
  | succ k ih => exact ih _ (crcBit_lt g c hg hc)

theorem crcReflected_lt (g c : Nat) (bs : Bytes) (hg : g < 2 ^ 32) (hc : c < 2 ^ 32) : crcReflected g c bs < 2 ^ 32 := by
  induction bs generalizing c with
  | nil => exact hc
  | cons b r ih =>
    exact ih _ (crcSteps_lt g 8 _ hg (Nat.xor_lt_two_pow hc (Nat.lt_of_lt_of_le (Nat.mod_lt b (by decide)) (by decide))))

theorem crc32_lt (bs : Bytes) : crc32 bs < 2 ^ 32 :=
  Nat.xor_lt_two_pow (crcReflected_lt _ _ bs (by decide) (by decide)) (by decide)

namespace Hub

theorem frameCrc_lt (header len data : Nat) (tag : Option Nat) : frameCrc header len data tag < 2 ^ 32 := crc32_lt _

/-! ### A signed request's trailer (R369) -/

/-- A trailer reads its session and counter below its MAC. -/
theorem trailerTaken_below (h : Hub) (lo x : Nat) : h.trailerTaken (lo + 256 ^ 8 * x) = h.trailerTaken lo := by
  simp only [trailerTaken, trSession_below, trCounter_below]

/-- The MAC under the session's key, over a counter above the session's, passes, in a transaction of that session or in none. -/
theorem trailerOk_signed (h : Hub) (req idx val len lo i : Nat) (d : Bytes) (entry txn : Option Nat) (h0 : trSession lo ≠ 0)
    (hs : h.sessionOf (trSession lo) = some i) (hc : seCounter (h.sessionRec i) < trCounter lo) (ht : txn = none ∨ txn = some (trSession lo)) :
    h.trailerOk req idx val len d
      (lo % 256 ^ 8 + 256 ^ 8 * (Config.hmac ((h.sessionKeys.lookup i).getD 0) (macInput req idx val len d (lo % 256 ^ 8)) % 256 ^ 32))
      entry txn = true := by
  have e1 : ∀ x, trSession (lo % 256 ^ 8 + 256 ^ 8 * x) = trSession lo := fun x => by unfold trSession field; omega
  have e2 : ∀ x, trCounter (lo % 256 ^ 8 + 256 ^ 8 * x) = trCounter lo := fun x => by unfold trCounter field; omega
  have e3 : ∀ x, x < 256 ^ 32 → trMac (lo % 256 ^ 8 + 256 ^ 8 * x) = x := fun x hx => field_above _ 8 x 32 (Nat.mod_lt _ (by decide)) hx
  have e4 : ∀ x, macInput req idx val len d (lo % 256 ^ 8 + 256 ^ 8 * x) = macInput req idx val len d (lo % 256 ^ 8) := fun x => by
    unfold macInput
    rw [toBytes_below]
  unfold trailerOk
  rw [e1, e2, e3 _ (Nat.mod_lt _ (by decide)), e4, if_neg h0, hs]
  rcases ht with rfl | rfl <;> simp [hc]

end Hub

end Sys2Proof.Machine
end

