-- ==== Sys2Proof/Laws/State.lean ====
section
/-!
SUPPORT. Sys2Proof/Laws/State.lean: what the primitive updates of the hub do to each of its parts: a cell written, something sent out, the
clock advanced, cells wiped; and a read of a cell after each of them. No later proof unfolds a record update.
-/
namespace Sys2Proof.Machine

namespace Hub

/-! ### The parts that an update leaves alone -/

@[simp] theorem wr_now (h : Hub) (k v : Nat) : (h.wr k v).now = h.now := rfl
@[simp] theorem wr_out (h : Hub) (k v : Nat) : (h.wr k v).out = h.out := rfl
@[simp] theorem wr_portHeld (h : Hub) (k v : Nat) : (h.wr k v).portHeld = h.portHeld := rfl
@[simp] theorem wr_hierHeld (h : Hub) (k v : Nat) : (h.wr k v).hierHeld = h.hierHeld := rfl
@[simp] theorem wr_domHeld (h : Hub) (k v : Nat) : (h.wr k v).domHeld = h.domHeld := rfl
@[simp] theorem wr_log (h : Hub) (k v : Nat) : (h.wr k v).log = h.log := rfl
@[simp] theorem wr_unacked (h : Hub) (k v : Nat) : (h.wr k v).unacked = h.unacked := rfl
@[simp] theorem wr_shadows (h : Hub) (k v : Nat) : (h.wr k v).shadows = h.shadows := rfl
@[simp] theorem wr_tests (h : Hub) (k v : Nat) : (h.wr k v).tests = h.tests := rfl
@[simp] theorem wr_reactions (h : Hub) (k v : Nat) : (h.wr k v).reactions = h.reactions := rfl
@[simp] theorem wr_sbeLast (h : Hub) (k v : Nat) : (h.wr k v).sbeLast = h.sbeLast := rfl
@[simp] theorem wr_repair (h : Hub) (k v : Nat) : (h.wr k v).repair = h.repair := rfl
@[simp] theorem wr_fencePending (h : Hub) (k v : Nat) : (h.wr k v).fencePending = h.fencePending := rfl
@[simp] theorem wr_cfTx (h : Hub) (k v : Nat) : (h.wr k v).cfTx = h.cfTx := rfl
@[simp] theorem wr_drives (h : Hub) (k v : Nat) : (h.wr k v).drives = h.drives := rfl
@[simp] theorem wr_cfAwait (h : Hub) (k v : Nat) : (h.wr k v).cfAwait = h.cfAwait := rfl
@[simp] theorem wr_cfNew (h : Hub) (k v : Nat) : (h.wr k v).cfNew = h.cfNew := rfl
@[simp] theorem wr_cfAns (h : Hub) (k v : Nat) : (h.wr k v).cfAns = h.cfAns := rfl
@[simp] theorem wr_cfHeld (h : Hub) (k v : Nat) : (h.wr k v).cfHeld = h.cfHeld := rfl
@[simp] theorem wr_cfExpired (h : Hub) (k v : Nat) : (h.wr k v).cfExpired = h.cfExpired := rfl
@[simp] theorem wr_budget (h : Hub) (k v : Nat) : (h.wr k v).budget = h.budget := rfl
@[simp] theorem wr_evq (h : Hub) (k v : Nat) : (h.wr k v).evq = h.evq := rfl
@[simp] theorem wr_rxq0 (h : Hub) (k v : Nat) : (h.wr k v).rxq0 = h.rxq0 := rfl
@[simp] theorem wr_rxq1 (h : Hub) (k v : Nat) : (h.wr k v).rxq1 = h.rxq1 := rfl
@[simp] theorem wr_frames (h : Hub) (k v : Nat) : (h.wr k v).frames = h.frames := rfl
@[simp] theorem wr_deliveries (h : Hub) (k v : Nat) : (h.wr k v).deliveries = h.deliveries := rfl
@[simp] theorem wr_ring (h : Hub) (k v : Nat) : (h.wr k v).ring = h.ring := rfl
@[simp] theorem wr_txns (h : Hub) (k v : Nat) : (h.wr k v).txns = h.txns := rfl
@[simp] theorem wr_polls (h : Hub) (k v : Nat) : (h.wr k v).polls = h.polls := rfl
@[simp] theorem wr_neighbours (h : Hub) (k v : Nat) : (h.wr k v).neighbours = h.neighbours := rfl
@[simp] theorem wr_relays (h : Hub) (k v : Nat) : (h.wr k v).relays = h.relays := rfl
@[simp] theorem wr_linkKeys (h : Hub) (k v : Nat) : (h.wr k v).linkKeys = h.linkKeys := rfl
@[simp] theorem wr_keyx (h : Hub) (k v : Nat) : (h.wr k v).keyx = h.keyx := rfl
@[simp] theorem wr_slots (h : Hub) (k v : Nat) : (h.wr k v).slots = h.slots := rfl
@[simp] theorem wr_controls (h : Hub) (k v : Nat) : (h.wr k v).controls = h.controls := rfl
@[simp] theorem wr_stored (h : Hub) (k v : Nat) : (h.wr k v).stored = h.stored := rfl
@[simp] theorem wr_trends (h : Hub) (k v : Nat) : (h.wr k v).trends = h.trends := rfl
@[simp] theorem wr_lineRecords (h : Hub) (k v : Nat) : (h.wr k v).lineRecords = h.lineRecords := rfl
@[simp] theorem wr_group (h : Hub) (k v : Nat) : (h.wr k v).group = h.group := rfl
@[simp] theorem wr_reactCmds (h : Hub) (k v : Nat) : (h.wr k v).reactCmds = h.reactCmds := rfl
@[simp] theorem wr_holds (h : Hub) (k v : Nat) : (h.wr k v).holds = h.holds := rfl
@[simp] theorem wr_nv (h : Hub) (k v : Nat) : (h.wr k v).nv = h.nv := rfl
@[simp] theorem wr_flash (h : Hub) (k v : Nat) : (h.wr k v).flash = h.flash := rfl
@[simp] theorem wr_pollWrites (h : Hub) (k v : Nat) : (h.wr k v).pollWrites = h.pollWrites := rfl
@[simp] theorem wr_batch (h : Hub) (k v : Nat) : (h.wr k v).batch = h.batch := rfl
@[simp] theorem wr_odTxns (h : Hub) (k v : Nat) : (h.wr k v).odTxns = h.odTxns := rfl
@[simp] theorem wr_requesters (h : Hub) (k v : Nat) : (h.wr k v).requesters = h.requesters := rfl
@[simp] theorem wr_saving (h : Hub) (k v : Nat) : (h.wr k v).saving = h.saving := rfl
@[simp] theorem wr_winHeld (h : Hub) (k v : Nat) : (h.wr k v).winHeld = h.winHeld := rfl
@[simp] theorem wr_odReq (h : Hub) (k v : Nat) : (h.wr k v).odReq = h.odReq := rfl
@[simp] theorem wr_odResp (h : Hub) (k v : Nat) : (h.wr k v).odResp = h.odResp := rfl
@[simp] theorem wr_txq (h : Hub) (k v : Nat) : (h.wr k v).txq = h.txq := rfl
@[simp] theorem wr_sessionKeys (h : Hub) (k v : Nat) : (h.wr k v).sessionKeys = h.sessionKeys := rfl
@[simp] theorem wr_lsdb (h : Hub) (k v : Nat) : (h.wr k v).lsdb = h.lsdb := rfl
@[simp] theorem wr_lsaWaits (h : Hub) (k v : Nat) : (h.wr k v).lsaWaits = h.lsaWaits := rfl
@[simp] theorem wr_ctlWait (h : Hub) (k v : Nat) : (h.wr k v).ctlWait = h.ctlWait := rfl
@[simp] theorem wr_fabOut (h : Hub) (k v : Nat) : (h.wr k v).fabOut = h.fabOut := rfl
@[simp] theorem wr_rxStreams (h : Hub) (k v : Nat) : (h.wr k v).rxStreams = h.rxStreams := rfl
@[simp] theorem wr_nextHops (h : Hub) (k v : Nat) : (h.wr k v).nextHops = h.nextHops := rfl
@[simp] theorem wr_orphans (h : Hub) (k v : Nat) : (h.wr k v).orphans = h.orphans := rfl

@[simp] theorem emit_cells (h : Hub) (e : Emission) : (h.emit e).cells = h.cells := rfl
@[simp] theorem emit_now (h : Hub) (e : Emission) : (h.emit e).now = h.now := rfl
@[simp] theorem emit_portHeld (h : Hub) (e : Emission) : (h.emit e).portHeld = h.portHeld := rfl
@[simp] theorem emit_hierHeld (h : Hub) (e : Emission) : (h.emit e).hierHeld = h.hierHeld := rfl
@[simp] theorem emit_domHeld (h : Hub) (e : Emission) : (h.emit e).domHeld = h.domHeld := rfl
@[simp] theorem emit_log (h : Hub) (e : Emission) : (h.emit e).log = h.log := rfl
@[simp] theorem emit_unacked (h : Hub) (e : Emission) : (h.emit e).unacked = h.unacked := rfl
@[simp] theorem emit_shadows (h : Hub) (e : Emission) : (h.emit e).shadows = h.shadows := rfl
@[simp] theorem emit_tests (h : Hub) (e : Emission) : (h.emit e).tests = h.tests := rfl
@[simp] theorem emit_reactions (h : Hub) (e : Emission) : (h.emit e).reactions = h.reactions := rfl
@[simp] theorem emit_sbeLast (h : Hub) (e : Emission) : (h.emit e).sbeLast = h.sbeLast := rfl
@[simp] theorem emit_repair (h : Hub) (e : Emission) : (h.emit e).repair = h.repair := rfl
@[simp] theorem emit_fencePending (h : Hub) (e : Emission) : (h.emit e).fencePending = h.fencePending := rfl
@[simp] theorem emit_cfTx (h : Hub) (e : Emission) : (h.emit e).cfTx = h.cfTx := rfl
@[simp] theorem emit_drives (h : Hub) (e : Emission) : (h.emit e).drives = h.drives := rfl
@[simp] theorem emit_cfAwait (h : Hub) (e : Emission) : (h.emit e).cfAwait = h.cfAwait := rfl
@[simp] theorem emit_cfNew (h : Hub) (e : Emission) : (h.emit e).cfNew = h.cfNew := rfl
@[simp] theorem emit_cfAns (h : Hub) (e : Emission) : (h.emit e).cfAns = h.cfAns := rfl
@[simp] theorem emit_cfHeld (h : Hub) (e : Emission) : (h.emit e).cfHeld = h.cfHeld := rfl
@[simp] theorem emit_cfExpired (h : Hub) (e : Emission) : (h.emit e).cfExpired = h.cfExpired := rfl
@[simp] theorem emit_budget (h : Hub) (e : Emission) : (h.emit e).budget = h.budget := rfl
@[simp] theorem emit_evq (h : Hub) (e : Emission) : (h.emit e).evq = h.evq := rfl
@[simp] theorem emit_rxq0 (h : Hub) (e : Emission) : (h.emit e).rxq0 = h.rxq0 := rfl
@[simp] theorem emit_rxq1 (h : Hub) (e : Emission) : (h.emit e).rxq1 = h.rxq1 := rfl
@[simp] theorem emit_frames (h : Hub) (e : Emission) : (h.emit e).frames = h.frames := rfl
@[simp] theorem emit_deliveries (h : Hub) (e : Emission) : (h.emit e).deliveries = h.deliveries := rfl
@[simp] theorem emit_ring (h : Hub) (e : Emission) : (h.emit e).ring = h.ring := rfl
@[simp] theorem emit_txns (h : Hub) (e : Emission) : (h.emit e).txns = h.txns := rfl
@[simp] theorem emit_polls (h : Hub) (e : Emission) : (h.emit e).polls = h.polls := rfl
@[simp] theorem emit_neighbours (h : Hub) (e : Emission) : (h.emit e).neighbours = h.neighbours := rfl
@[simp] theorem emit_relays (h : Hub) (e : Emission) : (h.emit e).relays = h.relays := rfl
@[simp] theorem emit_linkKeys (h : Hub) (e : Emission) : (h.emit e).linkKeys = h.linkKeys := rfl
@[simp] theorem emit_keyx (h : Hub) (e : Emission) : (h.emit e).keyx = h.keyx := rfl
@[simp] theorem emit_slots (h : Hub) (e : Emission) : (h.emit e).slots = h.slots := rfl
@[simp] theorem emit_controls (h : Hub) (e : Emission) : (h.emit e).controls = h.controls := rfl
@[simp] theorem emit_stored (h : Hub) (e : Emission) : (h.emit e).stored = h.stored := rfl
@[simp] theorem emit_trends (h : Hub) (e : Emission) : (h.emit e).trends = h.trends := rfl
@[simp] theorem emit_lineRecords (h : Hub) (e : Emission) : (h.emit e).lineRecords = h.lineRecords := rfl
@[simp] theorem emit_group (h : Hub) (e : Emission) : (h.emit e).group = h.group := rfl
@[simp] theorem emit_reactCmds (h : Hub) (e : Emission) : (h.emit e).reactCmds = h.reactCmds := rfl
@[simp] theorem emit_holds (h : Hub) (e : Emission) : (h.emit e).holds = h.holds := rfl
@[simp] theorem emit_nv (h : Hub) (e : Emission) : (h.emit e).nv = h.nv := rfl
@[simp] theorem emit_flash (h : Hub) (e : Emission) : (h.emit e).flash = h.flash := rfl
@[simp] theorem emit_pollWrites (h : Hub) (e : Emission) : (h.emit e).pollWrites = h.pollWrites := rfl
@[simp] theorem emit_batch (h : Hub) (e : Emission) : (h.emit e).batch = h.batch := rfl
@[simp] theorem emit_odTxns (h : Hub) (e : Emission) : (h.emit e).odTxns = h.odTxns := rfl
@[simp] theorem emit_requesters (h : Hub) (e : Emission) : (h.emit e).requesters = h.requesters := rfl
@[simp] theorem emit_saving (h : Hub) (e : Emission) : (h.emit e).saving = h.saving := rfl
@[simp] theorem emit_winHeld (h : Hub) (e : Emission) : (h.emit e).winHeld = h.winHeld := rfl
@[simp] theorem emit_odReq (h : Hub) (e : Emission) : (h.emit e).odReq = h.odReq := rfl
@[simp] theorem emit_odResp (h : Hub) (e : Emission) : (h.emit e).odResp = h.odResp := rfl
@[simp] theorem emit_txq (h : Hub) (e : Emission) : (h.emit e).txq = h.txq := rfl
@[simp] theorem emit_sessionKeys (h : Hub) (e : Emission) : (h.emit e).sessionKeys = h.sessionKeys := rfl
@[simp] theorem emit_lsdb (h : Hub) (e : Emission) : (h.emit e).lsdb = h.lsdb := rfl
@[simp] theorem emit_lsaWaits (h : Hub) (e : Emission) : (h.emit e).lsaWaits = h.lsaWaits := rfl
@[simp] theorem emit_ctlWait (h : Hub) (e : Emission) : (h.emit e).ctlWait = h.ctlWait := rfl
@[simp] theorem emit_fabOut (h : Hub) (e : Emission) : (h.emit e).fabOut = h.fabOut := rfl
@[simp] theorem emit_rxStreams (h : Hub) (e : Emission) : (h.emit e).rxStreams = h.rxStreams := rfl
@[simp] theorem emit_nextHops (h : Hub) (e : Emission) : (h.emit e).nextHops = h.nextHops := rfl
@[simp] theorem emit_orphans (h : Hub) (e : Emission) : (h.emit e).orphans = h.orphans := rfl

@[simp] theorem advance_cells (h : Hub) (t : Nat) : (h.advance t).cells = h.cells := rfl
@[simp] theorem advance_out (h : Hub) (t : Nat) : (h.advance t).out = h.out := rfl
@[simp] theorem advance_portHeld (h : Hub) (t : Nat) : (h.advance t).portHeld = h.portHeld := rfl
@[simp] theorem advance_hierHeld (h : Hub) (t : Nat) : (h.advance t).hierHeld = h.hierHeld := rfl
@[simp] theorem advance_domHeld (h : Hub) (t : Nat) : (h.advance t).domHeld = h.domHeld := rfl
@[simp] theorem advance_log (h : Hub) (t : Nat) : (h.advance t).log = h.log := rfl
@[simp] theorem advance_unacked (h : Hub) (t : Nat) : (h.advance t).unacked = h.unacked := rfl
@[simp] theorem advance_shadows (h : Hub) (t : Nat) : (h.advance t).shadows = h.shadows := rfl
@[simp] theorem advance_tests (h : Hub) (t : Nat) : (h.advance t).tests = h.tests := rfl
@[simp] theorem advance_reactions (h : Hub) (t : Nat) : (h.advance t).reactions = h.reactions := rfl
@[simp] theorem advance_sbeLast (h : Hub) (t : Nat) : (h.advance t).sbeLast = h.sbeLast := rfl
@[simp] theorem advance_repair (h : Hub) (t : Nat) : (h.advance t).repair = h.repair := rfl
@[simp] theorem advance_fencePending (h : Hub) (t : Nat) : (h.advance t).fencePending = h.fencePending := rfl
@[simp] theorem advance_cfTx (h : Hub) (t : Nat) : (h.advance t).cfTx = h.cfTx := rfl
@[simp] theorem advance_drives (h : Hub) (t : Nat) : (h.advance t).drives = h.drives := rfl
@[simp] theorem advance_cfAwait (h : Hub) (t : Nat) : (h.advance t).cfAwait = h.cfAwait := rfl
@[simp] theorem advance_cfNew (h : Hub) (t : Nat) : (h.advance t).cfNew = h.cfNew := rfl
@[simp] theorem advance_cfAns (h : Hub) (t : Nat) : (h.advance t).cfAns = h.cfAns := rfl
@[simp] theorem advance_cfHeld (h : Hub) (t : Nat) : (h.advance t).cfHeld = h.cfHeld := rfl
@[simp] theorem advance_cfExpired (h : Hub) (t : Nat) : (h.advance t).cfExpired = h.cfExpired := rfl
@[simp] theorem advance_budget (h : Hub) (t : Nat) : (h.advance t).budget = h.budget := rfl
@[simp] theorem advance_evq (h : Hub) (t : Nat) : (h.advance t).evq = h.evq := rfl
@[simp] theorem advance_rxq0 (h : Hub) (t : Nat) : (h.advance t).rxq0 = h.rxq0 := rfl
@[simp] theorem advance_rxq1 (h : Hub) (t : Nat) : (h.advance t).rxq1 = h.rxq1 := rfl
@[simp] theorem advance_frames (h : Hub) (t : Nat) : (h.advance t).frames = h.frames := rfl
@[simp] theorem advance_deliveries (h : Hub) (t : Nat) : (h.advance t).deliveries = h.deliveries := rfl
@[simp] theorem advance_ring (h : Hub) (t : Nat) : (h.advance t).ring = h.ring := rfl
@[simp] theorem advance_txns (h : Hub) (t : Nat) : (h.advance t).txns = h.txns := rfl
@[simp] theorem advance_polls (h : Hub) (t : Nat) : (h.advance t).polls = h.polls := rfl
@[simp] theorem advance_neighbours (h : Hub) (t : Nat) : (h.advance t).neighbours = h.neighbours := rfl
@[simp] theorem advance_relays (h : Hub) (t : Nat) : (h.advance t).relays = h.relays := rfl
@[simp] theorem advance_linkKeys (h : Hub) (t : Nat) : (h.advance t).linkKeys = h.linkKeys := rfl
@[simp] theorem advance_keyx (h : Hub) (t : Nat) : (h.advance t).keyx = h.keyx := rfl
@[simp] theorem advance_slots (h : Hub) (t : Nat) : (h.advance t).slots = h.slots := rfl
@[simp] theorem advance_controls (h : Hub) (t : Nat) : (h.advance t).controls = h.controls := rfl
@[simp] theorem advance_stored (h : Hub) (t : Nat) : (h.advance t).stored = h.stored := rfl
@[simp] theorem advance_trends (h : Hub) (t : Nat) : (h.advance t).trends = h.trends := rfl
@[simp] theorem advance_lineRecords (h : Hub) (t : Nat) : (h.advance t).lineRecords = h.lineRecords := rfl
@[simp] theorem advance_group (h : Hub) (t : Nat) : (h.advance t).group = h.group := rfl
@[simp] theorem advance_reactCmds (h : Hub) (t : Nat) : (h.advance t).reactCmds = h.reactCmds := rfl
@[simp] theorem advance_holds (h : Hub) (t : Nat) : (h.advance t).holds = h.holds := rfl
@[simp] theorem advance_nv (h : Hub) (t : Nat) : (h.advance t).nv = h.nv := rfl
@[simp] theorem advance_flash (h : Hub) (t : Nat) : (h.advance t).flash = h.flash := rfl
@[simp] theorem advance_pollWrites (h : Hub) (t : Nat) : (h.advance t).pollWrites = h.pollWrites := rfl
@[simp] theorem advance_batch (h : Hub) (t : Nat) : (h.advance t).batch = h.batch := rfl
@[simp] theorem advance_odTxns (h : Hub) (t : Nat) : (h.advance t).odTxns = h.odTxns := rfl
@[simp] theorem advance_requesters (h : Hub) (t : Nat) : (h.advance t).requesters = h.requesters := rfl
@[simp] theorem advance_saving (h : Hub) (t : Nat) : (h.advance t).saving = h.saving := rfl
@[simp] theorem advance_winHeld (h : Hub) (t : Nat) : (h.advance t).winHeld = h.winHeld := rfl
@[simp] theorem advance_odReq (h : Hub) (t : Nat) : (h.advance t).odReq = h.odReq := rfl
@[simp] theorem advance_odResp (h : Hub) (t : Nat) : (h.advance t).odResp = h.odResp := rfl
@[simp] theorem advance_txq (h : Hub) (t : Nat) : (h.advance t).txq = h.txq := rfl
@[simp] theorem advance_sessionKeys (h : Hub) (t : Nat) : (h.advance t).sessionKeys = h.sessionKeys := rfl
@[simp] theorem advance_lsdb (h : Hub) (t : Nat) : (h.advance t).lsdb = h.lsdb := rfl
@[simp] theorem advance_lsaWaits (h : Hub) (t : Nat) : (h.advance t).lsaWaits = h.lsaWaits := rfl
@[simp] theorem advance_ctlWait (h : Hub) (t : Nat) : (h.advance t).ctlWait = h.ctlWait := rfl
@[simp] theorem advance_fabOut (h : Hub) (t : Nat) : (h.advance t).fabOut = h.fabOut := rfl
@[simp] theorem advance_rxStreams (h : Hub) (t : Nat) : (h.advance t).rxStreams = h.rxStreams := rfl
@[simp] theorem advance_nextHops (h : Hub) (t : Nat) : (h.advance t).nextHops = h.nextHops := rfl
@[simp] theorem advance_orphans (h : Hub) (t : Nat) : (h.advance t).orphans = h.orphans := rfl

@[simp] theorem wr_cells (h : Hub) (k v : Nat) : (h.wr k v).cells = cellPut h.cells k v := rfl
@[simp] theorem emit_out (h : Hub) (e : Emission) : (h.emit e).out = h.out ++ [e] := rfl
@[simp] theorem advance_now (h : Hub) (t : Nat) : (h.advance t).now = max h.now (t / 8 * 8) := rfl

/-! ### A read of a cell after an update -/

/-- The cell written holds the value, every other what it held, in every store. -/
theorem rd_wr (h : Hub) (k v j : Nat) : (h.wr k v).rd j = if j = k then v else h.rd j := cellGet_put h.cells k v j

@[simp] theorem rd_wr_self (h : Hub) (k v : Nat) : (h.wr k v).rd k = v := by simp [rd_wr]

theorem rd_wr_ne (h : Hub) (k v j : Nat) (n : j ≠ k) : (h.wr k v).rd j = h.rd j := by simp [rd_wr, n]

@[simp] theorem rd_emit (h : Hub) (e : Emission) (j : Nat) : (h.emit e).rd j = h.rd j := rfl
@[simp] theorem rd_advance (h : Hub) (t j : Nat) : (h.advance t).rd j = h.rd j := rfl

/-- A timer keeps its deadline, and so whether it is due, under a write of another cell. -/
theorem due_wr_ne (h : Hub) (k v j : Nat) (n : j ≠ k) : (h.wr k v).due j = h.due j := by simp [due, rd_wr_ne, n]
/-- A timer keeps running, or stopped, under a write of another cell. -/
theorem running_wr_ne (h : Hub) (k v j : Nat) (n : j ≠ k) : (h.wr k v).running j = h.running j := by simp [running, rd_wr_ne, n]
/-- A domain's state stands under a write of a cell that is not its record. -/
theorem isOn_wr_ne (h : Hub) (k v d : Nat) (n : Od.DOMAIN_RECORD d ≠ k) : (h.wr k v).isOn d = h.isOn d := by simp [isOn, dom, rd_wr_ne, n]

theorem rd_inc (h : Hub) (k w j : Nat) : (h.inc k w).rd j = if j = k then satInc w (h.rd k) else h.rd j := rd_wr _ _ _ _
theorem rd_add (h : Hub) (k n w j : Nat) : (h.add k n w).rd j = if j = k then satAdd w (h.rd k) n else h.rd j := rd_wr _ _ _ _
theorem rd_arm (h : Hub) (k d j : Nat) : (h.arm k d).rd j = if j = k then h.now + d + 1 else h.rd j := rd_wr _ _ _ _
theorem rd_stop (h : Hub) (k j : Nat) : (h.stop k).rd j = if j = k then 0 else h.rd j := rd_wr _ _ _ _
theorem rd_wrBit (h : Hub) (k i : Nat) (b : Bool) (j : Nat) :
    (h.wrBit k i b).rd j = if j = k then putBit (h.rd k) i b else h.rd j := rd_wr _ _ _ _

/-- A list of registers cleared. -/
theorem rd_clear (h : Hub) (l : List Nat) (j : Nat) : (h.clear l).rd j = if j ∈ l then 0 else h.rd j := by
  induction l generalizing h with
  | nil => simp [clear]
  | cons k r ih =>
    simp only [clear, ih, rd_wr, List.mem_cons]
    by_cases hr : j ∈ r <;> by_cases hk : j = k <;> simp [hr, hk]

/-- A cell that a list of writes does not name keeps its value. -/
theorem rd_wrAll_ne (h : Hub) (l : List (Nat × Nat)) (j : Nat) (n : ∀ x ∈ l, j ≠ x.1) : (h.wrAll l).rd j = h.rd j := by
  induction l generalizing h with
  | nil => rfl
  | cons x r ih =>
    rw [wrAll, ih _ (fun y hy => n y (List.mem_cons_of_mem _ hy)), rd_wr_ne _ _ _ _ (n x List.mem_cons_self)]

@[simp] theorem now_clear (h : Hub) (l : List Nat) : (h.clear l).now = h.now := by
  induction l generalizing h with
  | nil => rfl
  | cons k r ih => rw [clear, ih, wr_now]

/-- An expiry that is not due changes nothing. -/
theorem expire_not_due (h : Hub) (k : Nat) (f : Hub → Hub) (n : h.due k = false) : h.expire k f = h := by simp [expire, n]

/-- An expiry that is due stops its timer, and what it owes follows. -/
theorem expire_due (h : Hub) (k : Nat) (f : Hub → Hub) (d : h.due k = true) : h.expire k f = f (h.wr k 0) := by simp [expire, d]

/-- A timer that was just armed is not due before its time. -/
theorem due_arm (h : Hub) (k d : Nat) : (h.arm k d).due k = decide (d = 0) := by
  by_cases hd : d = 0 <;> simp [arm, due, hd]

end Hub

/-- The states that exec answers with keep the commands that wait. -/
theorem act_pending (t : Stamp) (s s' : State) (f : Hub → Hub) (e : act t s f = .next s') : s'.pending = s.pending := by
  cases e; rfl

end Sys2Proof.Machine
end

