-- ==== Sys2Proof/Laws/Exec.lean ====
section
/-!
SUPPORT. Sys2Proof/Laws/Exec.lean: the one form that every meaning has, so that what holds of all commands is proved once.
-/
namespace Sys2Proof.Machine

/-- Every command's meaning advances the clock to its stamp, takes its own effect, and settles what that owes. -/
theorem exec_act (i : Instr) (s : State) : ∃ (t : Stamp) (f : Hub → Hub), exec i s = act t s f := by
  cases i <;> (dsimp only [exec]; exact ⟨_, _, rfl⟩)

/-- Every command answers a next state, which keeps the commands that wait. -/
theorem exec_next (i : Instr) (s : State) : ∃ t : State, exec i s = .next t ∧ t.pending = s.pending := by
  obtain ⟨t, f, e⟩ := exec_act i s
  exact ⟨_, e, rfl⟩

end Sys2Proof.Machine
end

