-- ==== Sys2Proof/Laws/Flash.lean ====
section
/-!
SUPPORT. Sys2Proof/Laws/Flash.lean: the external flash (R444, R447): reading a block after one was written, and that every operation
on it keeps its canonical form.
-/
namespace Sys2Proof.Machine

open Hub

/-- A block reads as it was last written, and a write leaves every other block alone. -/
theorem flashPut_lookup (l : List (Nat × Nat)) (a v b : Nat) : (flashPut l a v).lookup b = if b = a then some v else l.lookup b := by
  induction l with
  | nil => by_cases hb : b = a <;> simp [flashPut, List.lookup, hb]
  | cons x r ih =>
    obtain ⟨c, w⟩ := x
    unfold flashPut
    have hl : ∀ (m n : Nat) (t : List (Nat × Nat)), ((m, n) :: t).lookup b = if b = m then some n else t.lookup b := by
      intro m n t
      by_cases hb : b = m
      · simp [List.lookup, hb]
      · have hf : (b == m) = false := by simpa using hb
        simp [List.lookup, hb, hf]
    split
    · rw [hl]
    · split
      · rename_i h2; subst h2; rw [hl, hl]; by_cases hb : b = a <;> simp [hb]
      · rename_i h2; rw [hl, ih, hl]
        by_cases hb : b = c
        · subst hb; simp [Ne.symm h2]
        · simp [hb]

/-- The addresses after a write: those before, and the written one. -/
theorem flashPut_mem (l : List (Nat × Nat)) (a v b : Nat) (h : b ∈ (flashPut l a v).map Prod.fst) : b = a ∨ b ∈ l.map Prod.fst := by
  induction l with
  | nil => simp [flashPut] at h; exact .inl h
  | cons x r ih =>
    obtain ⟨c, w⟩ := x
    unfold flashPut at h
    split at h
    · simpa using h
    · split at h
      · simp at h ⊢; rcases h with h | h
        · exact .inl h
        · exact .inr (.inr h)
      · simp at h ⊢
        rcases h with h | h
        · exact .inr (.inl h)
        · rcases ih (by simpa using h) with h | h
          · exact .inl h
          · exact .inr (.inr (by simpa using h))

/-- A write keeps the canonical form. -/
theorem flashWf_put (l : List (Nat × Nat)) (a v : Nat) (w : flashWf l) : flashWf (flashPut l a v) := by
  induction l with
  | nil => simp [flashPut, flashWf]
  | cons x r ih =>
    obtain ⟨c, y⟩ := x
    simp only [flashWf, List.map_cons, List.pairwise_cons] at w
    unfold flashPut
    split
    · rename_i h
      simp only [flashWf, List.map_cons, List.pairwise_cons, List.mem_cons]
      refine ⟨fun b hb => ?_, w.1, w.2⟩
      rcases hb with rfl | hb
      · exact h
      · exact Nat.lt_trans h (w.1 b hb)
    · split
      · rename_i h; subst h
        exact List.pairwise_cons.2 ⟨w.1, w.2⟩
      · rename_i h1 h2
        refine List.pairwise_cons.2 ⟨fun b hb => ?_, ih w.2⟩
        rcases flashPut_mem r a v b hb with rfl | hb
        · simp only; omega
        · exact w.1 b hb

/-- A block's write keeps the flash in its canonical form. -/
theorem putFlash_wf (h : Hub) (slot i v : Nat) (w : flashWf h.flash) : flashWf (h.putFlash slot i v).flash := flashWf_put _ _ _ w

/-- Writing any number of blocks keeps the canonical form. -/
theorem foldl_wf (is : List Nat) (f : Nat → Nat) (v : Nat) (l : List (Nat × Nat)) (w : flashWf l) :
    flashWf (is.foldl (fun x i => flashPut x (f i) v) l) := by
  induction is generalizing l with
  | nil => exact w
  | cons i r ih => exact ih _ (flashWf_put _ _ _ w)

/-- An erase keeps the flash in its canonical form. -/
theorem fwErase_wf (h : Hub) (w : flashWf h.flash) : flashWf h.fwErase.flash := by
  simp only [fwErase, wr]
  exact foldl_wf (List.range 1024) (fun i => h.inactive * 1024 + i) Config.flashErased h.flash w

/-- The flash after reset lists nothing: it is as delivered. -/
theorem reset_flash_wf : flashWf Hub.reset.flash := List.Pairwise.nil

end Sys2Proof.Machine
end

