-- ==== Sys2Proof/Laws/Requests.lean ====
section
/-!
SUPPORT. Sys2Proof/Laws/Requests.lean: what the dictionary's shared operations do where their conditions hold.
-/
namespace Sys2Proof.Machine.Hub

/-- A request that Flint takes is served. -/
theorem linkRequest_of_serves (h : Hub) (w req i v l d : Nat) (b g a : Bool) (hs : h.Serves w) :
    h.linkRequest w req i v l d b g a = h.request w req i v l d b g a := by
  unfold Hub.Serves at hs
  unfold linkRequest
  obtain ⟨h1, h2⟩ := hs
  split at h2 <;> simp_all

/-- SAVE passes its value check: the save begins, or its records do not fit. -/
theorem deviceWrite_save (h : Hub) (c : WriteCtx) (hc : h.deviceCode Od.CMD_SAVE 1 = 0) :
    h.deviceWrite c Od.CMD_SAVE 1 = (h.keep Od.CMD_SAVE 1).saveBegin c.who := by
  simp [deviceWrite, hc]

/-- A save whose records fit begins with the erase of its target. -/
theorem saveBegin_of_fits (w : Nat) (h : Hub) (hf : ¬ 65484 < recordsLength h.savedRecords) :
    h.saveBegin w = (none, (({ h with saving := some ⟨w, h.saveTarget, h.savedRecords⟩ }.wr Od.SAVE_RESULT 2
      |>.wr Reg.committing 1 |>.wr Reg.odOpen 1).refreshHalts).eraseTarget h.saveTarget) := by
  unfold saveBegin
  rw [if_neg hf]

end Sys2Proof.Machine.Hub
end

