-- ==== Sys2Proof/Laws/Sound.lean ====
section
/-!
SUPPORT. Sys2Proof/Laws/Sound.lean: a sound hub stays sound: the primitive operations, and the rules by which every other operation is
built from them.
-/
namespace Sys2Proof.Machine

/-- A hub that agrees with a sound one on the six parts is sound. -/
theorem Hub.Sound.congr {h x : Hub} (w : h.Sound) (c : x.cells = h.cells) (n : x.now = h.now) (l : x.log = h.log)
    (r : x.ring = h.ring) (e : x.evq = h.evq) (d : x.shadows = h.shadows) : x.Sound :=
  ⟨c ▸ w.cells, n ▸ w.clock, l ▸ w.log, r ▸ w.ring, e ▸ w.evq, d ▸ w.shadows⟩

theorem Hub.Sound.ite {c : Prop} [Decidable c] {x y : Hub} (a : x.Sound) (b : y.Sound) : (if c then x else y).Sound := by
  split <;> assumption

theorem Hub.Sound.foldl {α : Type} {f : Hub → α → Hub} {l : List α} {h : Hub} (w : h.Sound)
    (hf : ∀ (x : Hub) (a : α), x.Sound → (f x a).Sound) : (l.foldl f h).Sound := by
  induction l generalizing h with
  | nil => exact w
  | cons a r ih => exact ih (hf h a w)

theorem Hub.Sound.bind {v : Hub} {f : Hub → Hub} (w : v.Sound) (hf : ∀ x : Hub, x.Sound → (f x).Sound) : (f v).Sound := hf v w

theorem Hub.Sound.pair {α : Type} {x : α × Hub} {a : α} {h : Hub} (e : x = (a, h)) (w : x.2.Sound) : h.Sound := by
  subst e; exact w

theorem Hub.Sound.wr {h : Hub} (w : h.Sound) (k v : Nat) : (h.wr k v).Sound :=
  ⟨cellsWf_put _ _ _ w.cells, w.clock, w.log, w.ring, w.evq, w.shadows⟩

theorem Hub.Sound.wipe {h : Hub} (w : h.Sound) (lo hi : Nat) : (h.wipe lo hi).Sound :=
  ⟨cellsWf_filter _ _ w.cells, w.clock, w.log, w.ring, w.evq, w.shadows⟩

theorem Hub.Sound.advance {h : Hub} (w : h.Sound) (t : Nat) : (h.advance t).Sound := by
  refine ⟨w.cells, ?_, w.log, w.ring, w.evq, w.shadows⟩
  have := w.clock
  simp only [Hub.advance]
  omega

theorem Hub.Sound.wrAll {h : Hub} (w : h.Sound) (l : List (Nat × Nat)) : (h.wrAll l).Sound := by
  induction l generalizing h with
  | nil => exact w
  | cons a r ih => exact ih (w.wr _ _)

theorem Hub.Sound.clear {h : Hub} (w : h.Sound) (l : List Nat) : (h.clear l).Sound := by
  induction l generalizing h with
  | nil => exact w
  | cons a r ih => exact ih (w.wr _ _)

theorem Hub.Sound.pair3 {α β : Type} {x : α × β × Hub} {a : α} {b : β} {h : Hub} (e : x = (a, b, h)) (w : x.2.2.Sound) : h.Sound := by
  subst e; exact w

theorem Hub.Sound.pair4 {α β γ : Type} {x : α × β × γ × Hub} {a : α} {b : β} {c : γ} {h : Hub} (e : x = (a, b, c, h))
    (w : x.2.2.2.Sound) : h.Sound := by
  subst e; exact w

/-- A hub that takes the six parts of another is sound when that one is. -/
theorem Hub.Sound.of_mk {h : Hub} {out : List Emission} {portHeld : List (Nat × Nat)} {hierHeld : Option Nat}
    {domHeld : Option Nat} {unacked : List Unacked} {tests : List SelfTest} {reactions : List Reaction} {sbeLast : List
    (Nat × Nat)} {repair : RepairMap} {fencePending : List (Nat × Nat)} {cfTx : List CfTx} {drives : List CfDrive}
    {cfAwait : List CfAwait} {cfNew : List CfPending} {cfAns : List CfPending} {cfHeld : List CfHeld} {cfExpired : List
    (Nat × Nat)} {budget : List BudgetEntry} {rxq0 : List FifoWord} {rxq1 : List FifoWord} {frames : List Frame}
    {deliveries : List Delivery} {txns : List Txn} {polls : List PollJob} {neighbours : List Neighbour} {relays : List
    Relay} {linkKeys : List LinkKey} {keyx : List KeyExchange} {slots : List Slot} {controls : List Control} {stored :
    List StoredResponse} {trends : List LineTrend} {lineRecords : List LineRecord} {group : Option GroupCmd} {reactCmds
    : List (Nat × Nat × Nat)} {holds : List HoldRec} {nv : List NvCopy} {flash : List (Nat × Nat)} {pollWrites : List
    PollWrite} {batch : List PollReport} {odTxns : List OdTxn} {requesters : List OdRequester} {saving : Option SaveJob}
    {winHeld : List (Nat × Nat)} {odReq : Option (Nat × Nat)} {odResp : Option (Nat × Nat)} {txq : List FifoWord}
    {sessionKeys : List (Nat × Nat)} {lsdb : List Lsa} {lsaWaits : List LsaWait} {ctlWait : List ControlFrame} {fabOut :
    List FabricOut} {rxStreams : List RxStream} {nextHops : List (Nat × Nat)} {orphans : List (Nat × Nat)} : (Hub.mk
    h.cells h.now out portHeld hierHeld domHeld h.log unacked h.shadows tests reactions sbeLast repair fencePending cfTx
    drives cfAwait cfNew cfAns cfHeld cfExpired budget h.evq rxq0 rxq1 frames deliveries h.ring txns polls neighbours
    relays linkKeys keyx slots controls stored trends lineRecords group reactCmds holds nv flash pollWrites batch odTxns
    requesters saving winHeld odReq odResp txq sessionKeys lsdb lsaWaits ctlWait fabOut rxStreams nextHops
    orphans).Sound ↔ h.Sound :=
  ⟨fun w => ⟨w.cells, w.clock, w.log, w.ring, w.evq, w.shadows⟩, fun w => ⟨w.cells, w.clock, w.log, w.ring, w.evq, w.shadows⟩⟩

/-- What a list loses, it does not gain. -/
theorem length_filter_le' {α : Type} {n : Nat} (l : List α) (f : α → Bool) (w : l.length ≤ n) : (l.filter f).length ≤ n :=
  (List.length_filter_le _ _).trans w

theorem Hub.Sound.lessShadows {h : Hub} (w : h.Sound) (f : Shadow → Bool) :
    ({ h with shadows := h.shadows.filter f } : Hub).Sound :=
  ⟨w.cells, w.clock, w.log, w.ring, w.evq, length_filter_le' _ _ w.shadows⟩

theorem Hub.Sound.noRing {h : Hub} (w : h.Sound) : ({ h with ring := [] } : Hub).Sound :=
  ⟨w.cells, w.clock, w.log, Nat.zero_le _, w.evq, w.shadows⟩

theorem Hub.Sound.noEvq {h : Hub} (w : h.Sound) : ({ h with evq := [] } : Hub).Sound :=
  ⟨w.cells, w.clock, w.log, w.ring, Nat.zero_le _, w.shadows⟩

end Sys2Proof.Machine
end

