-- ==== Sys2Proof/Laws/SoundOps.lean ====
section
/-!
SUPPORT. Sys2Proof/Laws/SoundOps.lean: a sound hub stays sound under the shared operations of the switch, of Slate, of the CF layer and of the links: one lemma for each, in the order
in which they call one another.
-/
set_option linter.unusedTactic false
set_option linter.unreachableTactic false
set_option linter.unusedVariables false

namespace Sys2Proof.Machine

theorem Hub.Sound.add (h : Hub) (k : Nat) (n : Nat) (w : optParam Nat 32) (w_h : h.Sound) : (Hub.add h k n w).Sound := by
  unfold Hub.add
  repeat'
    first
    | intro _ | with_reducible assumption | with_reducible apply Hub.Sound.wr | dsimp only | split

theorem Hub.Sound.emit (h : Hub) (e : Emission) (w_h : h.Sound) : (Hub.emit h e).Sound := by
  unfold Hub.emit
  repeat'
    first
    | intro _ | simp only [Hub.Sound.of_mk] | with_reducible assumption | dsimp only | split

theorem Hub.Sound.sendHierRecord (r : Nat) (h : Hub) (w_h : h.Sound) : (Hub.sendHierRecord r h).Sound := by
  unfold Hub.sendHierRecord
  repeat'
    first
    | intro _ | simp only [Hub.Sound.of_mk] | with_reducible assumption | with_reducible apply Hub.Sound.emit
    | with_reducible apply Hub.Sound.ite | dsimp only | split

theorem Hub.Sound.setTimebase (v : Nat) (h : Hub) (w_h : h.Sound) : (Hub.setTimebase v h).Sound := by
  unfold Hub.setTimebase
  repeat'
    first
    | intro _ | with_reducible assumption | with_reducible apply Hub.Sound.wr | dsimp only | split

theorem Hub.Sound.sendPortRecord (p : Nat) (r : Nat) (h : Hub) (w_h : h.Sound) : (Hub.sendPortRecord p r h).Sound := by
  unfold Hub.sendPortRecord
  repeat'
    first
    | intro _ | simp only [Hub.Sound.of_mk] | with_reducible assumption | with_reducible apply Hub.Sound.emit
    | with_reducible apply Hub.Sound.ite | with_reducible refine Hub.Sound.pair (by assumption) ?_
    | with_reducible refine Hub.Sound.pair3 (by assumption) ?_ | with_reducible refine Hub.Sound.pair4 (by assumption) ?_
    | dsimp only | split

theorem Hub.Sound.arm (h : Hub) (k : Nat) (d : Nat) (w_h : h.Sound) : (Hub.arm h k d).Sound := by
  unfold Hub.arm
  repeat'
    first
    | intro _ | with_reducible assumption | with_reducible apply Hub.Sound.wr | dsimp only | split

theorem Hub.Sound.sendDomainRecord (r : Nat) (h : Hub) (w_h : h.Sound) : (Hub.sendDomainRecord r h).Sound := by
  unfold Hub.sendDomainRecord
  repeat'
    first
    | intro _ | simp only [Hub.Sound.of_mk] | with_reducible assumption | with_reducible apply Hub.Sound.emit
    | with_reducible apply Hub.Sound.ite | dsimp only | split

theorem Hub.Sound.wrBit (h : Hub) (k : Nat) (i : Nat) (b : Bool) (w_h : h.Sound) : (Hub.wrBit h k i b).Sound := by
  unfold Hub.wrBit
  repeat'
    first
    | intro _ | with_reducible assumption | with_reducible apply Hub.Sound.wr | dsimp only | split

theorem Hub.Sound.inc (h : Hub) (k : Nat) (w : optParam Nat 32) (w_h : h.Sound) : (Hub.inc h k w).Sound := by
  unfold Hub.inc
  repeat'
    first
    | intro _ | with_reducible assumption | with_reducible apply Hub.Sound.wr | dsimp only | split

theorem Hub.Sound.stop (h : Hub) (k : Nat) (w_h : h.Sound) : (Hub.stop h k).Sound := by
  unfold Hub.stop
  repeat'
    first
    | intro _ | with_reducible assumption | with_reducible apply Hub.Sound.wr | dsimp only | split

theorem Hub.Sound.expire {h : Hub} (w_h : h.Sound) (k : Nat) (f : Hub → Hub) (w_f : ∀ x : Hub, x.Sound → (f x).Sound) :
    (Hub.expire h k f).Sound := by
  unfold Hub.expire
  split
  · exact w_f _ (w_h.wr _ _)
  · exact w_h

theorem Hub.Sound.rebase (h : Hub) (w_h : h.Sound) : (Hub.rebase h).Sound := by
  unfold Hub.rebase
  repeat'
    first
    | intro _ | with_reducible assumption | with_reducible apply Hub.Sound.setTimebase | dsimp only | split

theorem Hub.Sound.fresh (h : Hub) (w_h : h.Sound) : (Hub.fresh h).2.Sound := by
  unfold Hub.fresh
  repeat'
    first
    | intro _ | with_reducible assumption | with_reducible apply Hub.Sound.wr
    | with_reducible refine Hub.Sound.pair (by assumption) ?_ | with_reducible refine Hub.Sound.pair3 (by assumption) ?_
    | with_reducible refine Hub.Sound.pair4 (by assumption) ?_ | dsimp only | split

theorem Hub.Sound.appendLog (r : LogRec) (h : Hub) (w_h : h.Sound) : (Hub.appendLog r h).Sound := by
  have hl := w_h.log
  have c1 : cellsWf (cellPut h.cells Od.LOG_WRITTEN r.seq) = true := cellsWf_put _ _ _ w_h.cells
  unfold Hub.appendLog
  split
  · next hn => exact ⟨c1, w_h.clock, by simp [Hub.wr]; omega, w_h.ring, w_h.evq, w_h.shadows⟩
  · split
    · next hn _ => simp_all
    · next old rest _ =>
      have w2 : ({ ({ h with log := h.log ++ [r] } : Hub).wr Od.LOG_WRITTEN r.seq with log := (h.log ++ [r]).drop 1 } : Hub).Sound :=
        ⟨c1, w_h.clock, by simp; omega, w_h.ring, w_h.evq, w_h.shadows⟩
      exact Hub.Sound.bind (f := fun h2 =>
        let h3 := if seqAfter old.seq (h.rd Reg.evqQueued) then h2.wr Reg.evqQueued old.seq else h2
        let h4 := if seqAfter old.seq (h.rd Reg.mgrSent) then h3.wr Reg.mgrSent old.seq else h3
        if seqAfter old.seq (h.rd Reg.evqQueued) || (forManager old && seqAfter old.seq (h.rd Reg.mgrSent)) then h4.inc Od.LOG_OVERRUN
        else h4) w2 (by
          intro x wx
          dsimp only
          repeat'
            first
            | with_reducible assumption | with_reducible apply Hub.Sound.inc | with_reducible apply Hub.Sound.wr
            | with_reducible apply Hub.Sound.ite)

theorem Hub.Sound.openShadow (s : Shadow) (h : Hub) (w_h : h.Sound) : (Hub.openShadow s h).Sound := by
  unfold Hub.openShadow
  extract_lets live
  have hl : live.length ≤ 16 := length_filter_le' _ _ w_h.shadows
  clear_value live
  split
  · exact ⟨w_h.cells, w_h.clock, w_h.log, w_h.ring, w_h.evq, by simp; omega⟩
  · apply Hub.Sound.inc
    exact ⟨w_h.cells, w_h.clock, w_h.log, w_h.ring, w_h.evq, hl⟩

theorem Hub.Sound.pumpManager (h : Hub) (w_h : h.Sound) : (Hub.pumpManager h).Sound := by
  unfold Hub.pumpManager
  repeat'
    first
    | intro _ | simp only [Hub.Sound.of_mk] | with_reducible assumption | with_reducible apply Hub.Sound.wr
    | with_reducible apply Hub.Sound.ite | dsimp only | split

theorem Hub.Sound.pumpEvqN (n : Nat) (h : Hub) (w_h : h.Sound) : (Hub.pumpEvqN n h).Sound := by
  induction n generalizing h with
  | zero => exact w_h
  | succ n ih =>
    unfold Hub.pumpEvqN
    split
    · exact w_h
    · split
      · next hc =>
        apply ih
        apply Hub.Sound.wr
        apply Hub.Sound.wr
        simp only [Bool.and_eq_true, decide_eq_true_eq] at hc
        exact ⟨w_h.cells, w_h.clock, w_h.log, w_h.ring, by simp [evqWords]; omega, w_h.shadows⟩
      · exact w_h

theorem Hub.Sound.pumpEvq (h : Hub) (w_h : h.Sound) : (Hub.pumpEvq h).Sound := by
  unfold Hub.pumpEvq
  repeat'
    first
    | intro _ | with_reducible assumption | with_reducible apply Hub.Sound.pumpEvqN | dsimp only | split

theorem Hub.Sound.writeNormal (r : Hub.Report) (h : Hub) (w_h : h.Sound) : (Hub.writeNormal r h).Sound := by
  unfold Hub.writeNormal
  repeat'
    first
    | intro _ | simp only [Hub.Sound.of_mk] | with_reducible assumption | with_reducible apply Hub.Sound.appendLog
    | with_reducible apply Hub.Sound.inc | with_reducible apply Hub.Sound.openShadow
    | with_reducible apply Hub.Sound.pumpManager | with_reducible apply Hub.Sound.pumpEvq | with_reducible apply Hub.Sound.ite
    | with_reducible apply Hub.Sound.foldl | with_reducible refine Hub.Sound.pair (by assumption) ?_
    | with_reducible refine Hub.Sound.pair3 (by assumption) ?_ | with_reducible refine Hub.Sound.pair4 (by assumption) ?_
    | dsimp only | split

theorem Hub.Sound.writeConsequential (r : Hub.Report) (sh : Shadow) (h : Hub) (w_h : h.Sound) : (Hub.writeConsequential r sh
    h).Sound := by
  unfold Hub.writeConsequential
  repeat'
    first
    | intro _ | with_reducible assumption | with_reducible apply Hub.Sound.pumpEvq | with_reducible apply Hub.Sound.inc
    | with_reducible apply Hub.Sound.appendLog | with_reducible apply Hub.Sound.ite | dsimp only | split

theorem Hub.Sound.writeReport (r : Hub.Report) (h : Hub) (w_h : h.Sound) : (Hub.writeReport r h).Sound := by
  unfold Hub.writeReport
  repeat'
    first
    | intro _ | with_reducible assumption | with_reducible apply Hub.Sound.writeConsequential
    | with_reducible apply Hub.Sound.writeNormal | dsimp only | split

theorem Hub.Sound.childReport (src : Nat) (cls : Nat) (parent : Nat) (detail : Nat) (verdict : Nat) (h : Hub) (w_h : h.Sound) :
    (Hub.childReport src cls parent detail verdict h).Sound := by
  unfold Hub.childReport
  repeat'
    first
    | intro _ | with_reducible assumption | with_reducible apply Hub.Sound.writeReport | dsimp only | split

theorem Hub.Sound.saveRepair (m : RepairMap) (h : Hub) (w_h : h.Sound) : (Hub.saveRepair m h).Sound := by
  unfold Hub.saveRepair
  repeat'
    first
    | intro _ | simp only [Hub.Sound.of_mk] | with_reducible assumption | with_reducible apply Hub.Sound.arm | dsimp only
    | split

theorem Hub.Sound.haltFlint (h : Hub) (w_h : h.Sound) : (Hub.haltFlint h).Sound := by
  unfold Hub.haltFlint
  repeat'
    first
    | intro _ | simp only [Hub.Sound.of_mk] | with_reducible assumption | with_reducible apply Hub.Sound.wr
    | with_reducible apply Hub.Sound.ite | with_reducible refine Hub.Sound.pair (by assumption) ?_
    | with_reducible refine Hub.Sound.pair3 (by assumption) ?_ | with_reducible refine Hub.Sound.pair4 (by assumption) ?_
    | dsimp only | split

theorem Hub.Sound.countTest (k : Nat) (h : Hub) (w_h : h.Sound) : (Hub.countTest k h).Sound := by
  unfold Hub.countTest
  repeat'
    first
    | intro _ | with_reducible assumption | with_reducible apply Hub.Sound.inc | with_reducible apply Hub.Sound.ite
    | dsimp only | split

theorem Hub.Sound.fenceCell (b : Nat) (c : Nat) (h : Hub) (w_h : h.Sound) : (Hub.fenceCell b c h).Sound := by
  unfold Hub.fenceCell
  repeat'
    first
    | intro _ | with_reducible assumption | with_reducible apply Hub.Sound.inc | with_reducible apply Hub.Sound.saveRepair
    | with_reducible apply Hub.Sound.ite | with_reducible refine Hub.Sound.pair (by assumption) ?_
    | with_reducible refine Hub.Sound.pair3 (by assumption) ?_ | with_reducible refine Hub.Sound.pair4 (by assumption) ?_
    | dsimp only | split

theorem Hub.Sound.fenceOrWait (b : Nat) (c : Nat) (h : Hub) (w_h : h.Sound) : (Hub.fenceOrWait b c h).Sound := by
  unfold Hub.fenceOrWait
  repeat'
    first
    | intro _ | simp only [Hub.Sound.of_mk] | with_reducible assumption | with_reducible apply Hub.Sound.fenceCell
    | with_reducible apply Hub.Sound.ite | with_reducible refine Hub.Sound.pair (by assumption) ?_
    | with_reducible refine Hub.Sound.pair3 (by assumption) ?_ | with_reducible refine Hub.Sound.pair4 (by assumption) ?_
    | dsimp only | split

theorem Hub.Sound.reportAs (src : Nat) (detail : Nat) (value : Nat) (forced : Bool) (h : Hub) (w_h : h.Sound) : (Hub.reportAs src
    detail value forced h).Sound := by
  unfold Hub.reportAs
  repeat'
    first
    | intro _ | simp only [Hub.Sound.of_mk] | with_reducible assumption | with_reducible apply Hub.Sound.writeConsequential
    | with_reducible apply Hub.Sound.writeNormal | with_reducible apply Hub.Sound.childReport
    | with_reducible apply Hub.Sound.fenceOrWait | with_reducible apply Hub.Sound.openShadow
    | with_reducible apply Hub.Sound.countTest | with_reducible apply Hub.Sound.haltFlint | with_reducible apply Hub.Sound.wr
    | with_reducible apply Hub.Sound.ite | with_reducible refine Hub.Sound.pair (by assumption) ?_
    | with_reducible refine Hub.Sound.pair3 (by assumption) ?_ | with_reducible refine Hub.Sound.pair4 (by assumption) ?_
    | dsimp only | split

theorem Hub.Sound.report (src : Nat) (detail : Nat) (value : Nat) (h : Hub) (w_h : h.Sound) : (Hub.report src detail value h).Sound
    := by
  unfold Hub.report
  repeat'
    first
    | intro _ | with_reducible assumption | with_reducible apply Hub.Sound.reportAs | dsimp only | split

theorem Hub.Sound.takeSpare (s : Nat) (h : Hub) (w_h : h.Sound) : (Hub.takeSpare s h).Sound := by
  unfold Hub.takeSpare
  repeat'
    first
    | intro _ | with_reducible assumption | with_reducible apply Hub.Sound.wr | dsimp only | split

theorem Hub.Sound.recoverSupply (s : Nat) (h : Hub) (w_h : h.Sound) : (Hub.recoverSupply s h).Sound := by
  unfold Hub.recoverSupply
  repeat'
    first
    | intro _ | with_reducible assumption | with_reducible apply Hub.Sound.wr | dsimp only | split

theorem Hub.Sound.releaseAction (e : BudgetEntry) (h : Hub) (w_h : h.Sound) : (Hub.releaseAction e h).Sound := by
  unfold Hub.releaseAction
  repeat'
    first
    | intro _ | with_reducible assumption | with_reducible apply Hub.Sound.inc | with_reducible apply Hub.Sound.wr
    | with_reducible apply Hub.Sound.ite | dsimp only | split

theorem Hub.Sound.enqueue (e : BudgetEntry) (h : Hub) (w_h : h.Sound) : (Hub.enqueue e h).Sound := by
  unfold Hub.enqueue
  repeat'
    first
    | intro _ | simp only [Hub.Sound.of_mk] | with_reducible assumption | with_reducible apply Hub.Sound.ite | dsimp only
    | split

theorem Hub.Sound.walkQueue (l : List BudgetEntry) (b : List Nat) (h : Hub) (w_h : h.Sound) : (Hub.walkQueue l b h).2.2.Sound := by
  induction l generalizing b h with
  | nil => exact w_h
  | cons e r ih =>
    unfold Hub.walkQueue
    split
    · exact ih b _ (Hub.Sound.releaseAction _ _ w_h)
    · exact ih _ h w_h

theorem Hub.Sound.budgetTick (h : Hub) (w_h : h.Sound) : (Hub.budgetTick h).2.2.Sound := by
  unfold Hub.budgetTick
  repeat'
    first
    | intro _ | simp only [Hub.Sound.of_mk] | with_reducible assumption | with_reducible apply Hub.Sound.clear
    | with_reducible apply Hub.Sound.recoverSupply | with_reducible apply Hub.Sound.add
    | with_reducible apply Hub.Sound.walkQueue | with_reducible apply Hub.Sound.ite
    | with_reducible refine Hub.Sound.pair (by assumption) ?_ | with_reducible refine Hub.Sound.pair3 (by assumption) ?_
    | with_reducible refine Hub.Sound.pair4 (by assumption) ?_ | dsimp only | split

theorem Hub.Sound.withdraw (port : Bool) (who : Nat) (h : Hub) (w_h : h.Sound) : (Hub.withdraw port who h).Sound := by
  unfold Hub.withdraw
  repeat'
    first
    | intro _ | simp only [Hub.Sound.of_mk] | with_reducible assumption | with_reducible apply Hub.Sound.add
    | with_reducible apply Hub.Sound.ite | dsimp only | split

theorem Hub.Sound.askBudget (s : Nat) (k : BudgetKind) (who : Nat) (cost : Nat) (h : Hub) (w_h : h.Sound) : (Hub.askBudget s k who
    cost h).2.Sound := by
  unfold Hub.askBudget
  repeat'
    first
    | intro _ | with_reducible assumption | with_reducible apply Hub.Sound.releaseAction | with_reducible apply Hub.Sound.inc
    | with_reducible apply Hub.Sound.enqueue | with_reducible apply Hub.Sound.ite
    | with_reducible refine Hub.Sound.pair (by assumption) ?_ | with_reducible refine Hub.Sound.pair3 (by assumption) ?_
    | with_reducible refine Hub.Sound.pair4 (by assumption) ?_ | dsimp only | split

theorem Hub.Sound.writeCap (s : Nat) (v : Nat) (h : Hub) (w_h : h.Sound) : (Hub.writeCap s v h).Sound := by
  unfold Hub.writeCap
  repeat'
    first
    | intro _ | with_reducible assumption | with_reducible apply Hub.Sound.wr | with_reducible apply Hub.Sound.ite
    | dsimp only | split

theorem Hub.Sound.drive (p : Nat) (start : Nat) (len : Nat) (h : Hub) (w_h : h.Sound) : (Hub.drive p start len h).Sound := by
  unfold Hub.drive
  repeat'
    first
    | intro _ | simp only [Hub.Sound.of_mk] | with_reducible assumption | with_reducible apply Hub.Sound.wr
    | with_reducible apply Hub.Sound.ite | dsimp only | split

theorem Hub.Sound.cfRecordAt (p : Nat) (kind : Nat) (header : Nat) (cause : Nat) (objs : List Nat) (stamp : Nat) (h : Hub) (w_h : h.Sound)
    : (Hub.cfRecordAt p kind header cause objs stamp h).Sound := by
  unfold Hub.cfRecordAt
  repeat'
    first
    | intro _ | with_reducible assumption | with_reducible apply Hub.Sound.wr | with_reducible apply Hub.Sound.emit
    | with_reducible apply Hub.Sound.ite | dsimp only | split

theorem Hub.Sound.cfRecord (p : Nat) (kind : Nat) (header : Nat) (cause : Nat) (objs : List Nat) (h : Hub) (w_h : h.Sound) :
    (Hub.cfRecord p kind header cause objs h).Sound := by
  unfold Hub.cfRecord
  repeat'
    first
    | intro _ | with_reducible assumption | with_reducible apply Hub.Sound.cfRecordAt | dsimp only | split

theorem Hub.Sound.toPermit (p : Nat) (h : Hub) (w_h : h.Sound) : (Hub.toPermit p h).Sound := by
  unfold Hub.toPermit
  repeat'
    first
    | intro _ | with_reducible assumption | with_reducible apply Hub.Sound.wr | with_reducible apply Hub.Sound.ite
    | dsimp only | split

theorem Hub.Sound.applyHold (p : Nat) (h : Hub) (w_h : h.Sound) : (Hub.applyHold p h).Sound := by
  unfold Hub.applyHold
  repeat'
    first
    | intro _ | with_reducible assumption | with_reducible apply Hub.Sound.wr | with_reducible apply Hub.Sound.ite
    | dsimp only | split

theorem Hub.Sound.hear (p : Nat) (h : Hub) (w_h : h.Sound) : (Hub.hear p h).Sound := by
  unfold Hub.hear
  repeat'
    first
    | intro _ | simp only [Hub.Sound.of_mk] | with_reducible assumption | with_reducible apply Hub.Sound.wr | dsimp only
    | split

theorem Hub.Sound.endFar (p : Nat) (h : Hub) (w_h : h.Sound) : (Hub.endFar p h).Sound := by
  unfold Hub.endFar
  repeat'
    first
    | intro _ | simp only [Hub.Sound.of_mk] | with_reducible assumption | with_reducible apply Hub.Sound.toPermit
    | with_reducible apply Hub.Sound.clear | dsimp only | split

theorem Hub.Sound.answerResult (p : Nat) (r : Nat) (h : Hub) (w_h : h.Sound) : (Hub.answerResult p r h).Sound := by
  unfold Hub.answerResult
  repeat'
    first
    | intro _ | with_reducible assumption | with_reducible apply Hub.Sound.wr | dsimp only | split

theorem Hub.Sound.endOwn (p : Nat) (h : Hub) (w_h : h.Sound) : (Hub.endOwn p h).Sound := by
  unfold Hub.endOwn
  repeat'
    first
    | intro _ | with_reducible assumption | with_reducible apply Hub.Sound.toPermit | with_reducible apply Hub.Sound.clear
    | dsimp only | split

theorem Hub.Sound.resetIds (p : Nat) (h : Hub) (w_h : h.Sound) : (Hub.resetIds p h).Sound := by
  unfold Hub.resetIds
  repeat'
    first
    | intro _ | with_reducible assumption | with_reducible apply Hub.Sound.clear | dsimp only | split

theorem Hub.Sound.txUndelivered (x : CfTx) (cause : Nat) (h : Hub) (w_h : h.Sound) : (Hub.txUndelivered x cause h).Sound := by
  unfold Hub.txUndelivered
  repeat'
    first
    | intro _ | with_reducible assumption | with_reducible apply Hub.Sound.cfRecordAt
    | with_reducible apply Hub.Sound.answerResult | with_reducible apply Hub.Sound.ite | dsimp only | split

theorem Hub.Sound.endExchange (p : Nat) (h : Hub) (w_h : h.Sound) : (Hub.endExchange p h).Sound := by
  unfold Hub.endExchange
  repeat'
    first
    | intro _ | with_reducible assumption | with_reducible apply Hub.Sound.endOwn | with_reducible apply Hub.Sound.endFar
    | dsimp only | split

theorem Hub.Sound.putOnWire (x : CfTx) (h : Hub) (w_h : h.Sound) : (Hub.putOnWire x h).Sound := by
  unfold Hub.putOnWire
  repeat'
    first
    | intro _ | simp only [Hub.Sound.of_mk] | with_reducible assumption | with_reducible apply Hub.Sound.arm
    | with_reducible apply Hub.Sound.emit | with_reducible apply Hub.Sound.drive | dsimp only | split

theorem Hub.Sound.sendCf (p : Nat) (type : Nat) (dest : Nat) (objs : List Nat) (why : TxWhy) (h : Hub) (w_h : h.Sound) : (Hub.sendCf p
    type dest objs why h).Sound := by
  unfold Hub.sendCf
  repeat'
    first
    | intro _ | with_reducible assumption | with_reducible apply Hub.Sound.putOnWire | dsimp only | split

theorem Hub.Sound.cfReceived (p : Nat) (header : Nat) (objs : List Nat) (h : Hub) (w_h : h.Sound) : (Hub.cfReceived p header objs
    h).Sound := by
  unfold Hub.cfReceived
  repeat'
    first
    | intro _ | simp only [Hub.Sound.of_mk] | with_reducible assumption | with_reducible apply Hub.Sound.wr
    | with_reducible apply Hub.Sound.emit | with_reducible apply Hub.Sound.inc | with_reducible apply Hub.Sound.arm
    | with_reducible apply Hub.Sound.ite | dsimp only | split

theorem Hub.Sound.undelivered (p : Nat) (header : Nat) (cause : Nat) (objs : List Nat) (why : TxWhy) (h : Hub) (w_h : h.Sound) :
    (Hub.undelivered p header cause objs why h).Sound := by
  unfold Hub.undelivered
  repeat'
    first
    | intro _ | with_reducible assumption | with_reducible apply Hub.Sound.cfRecord
    | with_reducible apply Hub.Sound.answerResult | with_reducible apply Hub.Sound.ite | dsimp only | split

theorem Hub.Sound.goodAck (p : Nat) (header : Nat) (h : Hub) (w_h : h.Sound) : (Hub.goodAck p header h).Sound := by
  unfold Hub.goodAck
  repeat'
    first
    | intro _ | with_reducible assumption | with_reducible apply Hub.Sound.emit | with_reducible apply Hub.Sound.drive
    | dsimp only | split

theorem Hub.Sound.contractState (p : Nat) (s : Nat) (h : Hub) (w_h : h.Sound) : (Hub.contractState p s h).Sound := by
  unfold Hub.contractState
  repeat'
    first
    | intro _ | with_reducible assumption | with_reducible apply Hub.Sound.cfRecord | with_reducible apply Hub.Sound.wr
    | with_reducible apply Hub.Sound.ite | dsimp only | split

theorem Hub.Sound.toPrior (p : Nat) (h : Hub) (w_h : h.Sound) : (Hub.toPrior p h).Sound := by
  unfold Hub.toPrior
  repeat'
    first
    | intro _ | with_reducible assumption | with_reducible apply Hub.Sound.contractState | with_reducible apply Hub.Sound.ite
    | dsimp only | split

theorem Hub.Sound.writeRing (record : Nat) (h : Hub) (w_h : h.Sound) : (Hub.writeRing record h).Sound := by
  have hr := w_h.ring
  unfold Hub.writeRing
  apply Hub.Sound.wr
  refine ⟨w_h.cells, w_h.clock, w_h.log, ?_, w_h.evq, w_h.shadows⟩
  dsimp only
  split <;> simp <;> omega

theorem Hub.Sound.sampleToRing (f : Frame) (dropped : Bool) (reason : Nat) (route : Nat) (bad : Bool) (h : Hub) (w_h : h.Sound) :
    (Hub.sampleToRing f dropped reason route bad h).Sound := by
  unfold Hub.sampleToRing
  repeat'
    first
    | intro _ | with_reducible assumption | with_reducible apply Hub.Sound.inc | with_reducible apply Hub.Sound.writeRing
    | dsimp only | split

theorem Hub.Sound.pushRx (c1 : Bool) (ws : List FifoWord) (h : Hub) (w_h : h.Sound) : (Hub.pushRx c1 ws h).Sound := by
  unfold Hub.pushRx
  repeat'
    first
    | intro _ | simp only [Hub.Sound.of_mk] | with_reducible assumption | with_reducible apply Hub.Sound.ite | dsimp only
    | split

theorem Hub.Sound.publishDone (h : Hub) (w_h : h.Sound) : (Hub.publishDone h).Sound := by
  unfold Hub.publishDone
  repeat'
    first
    | intro _ | with_reducible assumption | with_reducible apply Hub.Sound.arm | with_reducible apply Hub.Sound.inc
    | with_reducible apply Hub.Sound.wr | dsimp only | split

theorem Hub.Sound.publishAgain (h : Hub) (w_h : h.Sound) : (Hub.publishAgain h).Sound := by
  unfold Hub.publishAgain
  repeat'
    first
    | intro _ | with_reducible assumption | with_reducible apply Hub.Sound.publishDone | with_reducible apply Hub.Sound.wr
    | with_reducible apply Hub.Sound.ite | dsimp only | split

theorem Hub.Sound.refreshEpochs (h : Hub) (w_h : h.Sound) : (Hub.refreshEpochs h).Sound := by
  unfold Hub.refreshEpochs
  repeat'
    first
    | intro _ | with_reducible assumption | with_reducible apply Hub.Sound.wr | with_reducible apply Hub.Sound.publishAgain
    | with_reducible apply Hub.Sound.ite | dsimp only | split

theorem Hub.Sound.freeFrame (f : Frame) (h : Hub) (w_h : h.Sound) : (Hub.freeFrame f h).Sound := by
  unfold Hub.freeFrame
  repeat'
    first
    | intro _ | simp only [Hub.Sound.of_mk] | with_reducible assumption | with_reducible apply Hub.Sound.wr
    | with_reducible apply Hub.Sound.fenceCell | with_reducible apply Hub.Sound.foldl
    | with_reducible refine Hub.Sound.pair (by assumption) ?_ | with_reducible refine Hub.Sound.pair3 (by assumption) ?_
    | with_reducible refine Hub.Sound.pair4 (by assumption) ?_ | dsimp only | split

theorem Hub.Sound.putFrame (f : Frame) (h : Hub) (w_h : h.Sound) : (Hub.putFrame f h).Sound := by
  unfold Hub.putFrame
  repeat'
    first
    | intro _ | simp only [Hub.Sound.of_mk] | with_reducible assumption | with_reducible apply Hub.Sound.refreshEpochs
    | with_reducible apply Hub.Sound.freeFrame | with_reducible apply Hub.Sound.ite | dsimp only | split

theorem Hub.Sound.releaseCopy (f : Frame) (c : Copy) (h : Hub) (w_h : h.Sound) : (Hub.releaseCopy f c h).Sound := by
  unfold Hub.releaseCopy
  repeat'
    first
    | intro _ | with_reducible assumption | with_reducible apply Hub.Sound.wr | with_reducible apply Hub.Sound.putFrame
    | with_reducible apply Hub.Sound.ite | dsimp only | split

theorem Hub.Sound.poisonCopy (f : Frame) (c : Copy) (h : Hub) (w_h : h.Sound) : (Hub.poisonCopy f c h).Sound := by
  unfold Hub.poisonCopy
  repeat'
    first
    | intro _ | with_reducible assumption | with_reducible apply Hub.Sound.inc | with_reducible apply Hub.Sound.pushRx
    | with_reducible apply Hub.Sound.emit | with_reducible apply Hub.Sound.releaseCopy | with_reducible apply Hub.Sound.ite
    | dsimp only | split

theorem Hub.Sound.countDrop (reason : Nat) (p : Nat) (h : Hub) (w_h : h.Sound) : (Hub.countDrop reason p h).Sound := by
  unfold Hub.countDrop
  repeat'
    first
    | intro _ | with_reducible assumption | with_reducible apply Hub.Sound.inc | with_reducible apply Hub.Sound.ite
    | dsimp only | split

theorem Hub.Sound.dropCopy (reason : Nat) (id : Nat) (p : Nat) (h : Hub) (w_h : h.Sound) : (Hub.dropCopy reason id p h).Sound := by
  unfold Hub.dropCopy
  repeat'
    first
    | intro _ | with_reducible assumption | with_reducible apply Hub.Sound.releaseCopy
    | with_reducible apply Hub.Sound.countDrop | dsimp only | split

theorem Hub.Sound.endDelivery (p : Nat) (h : Hub) (w_h : h.Sound) : (Hub.endDelivery p h).Sound := by
  unfold Hub.endDelivery
  repeat'
    first
    | intro _ | simp only [Hub.Sound.of_mk] | with_reducible assumption | with_reducible apply Hub.Sound.wr
    | with_reducible apply Hub.Sound.inc | with_reducible apply Hub.Sound.ite | dsimp only | split

theorem Hub.Sound.dropEgress (reason : Nat) (p : Nat) (h : Hub) (w_h : h.Sound) : (Hub.dropEgress reason p h).Sound := by
  unfold Hub.dropEgress
  repeat'
    first
    | intro _ | with_reducible assumption | with_reducible apply Hub.Sound.dropCopy
    | with_reducible apply Hub.Sound.endDelivery | with_reducible apply Hub.Sound.foldl | dsimp only | split

theorem Hub.Sound.dropDead (f : Frame) (h : Hub) (w_h : h.Sound) : (Hub.dropDead f h).Sound := by
  unfold Hub.dropDead
  repeat'
    first
    | intro _ | simp only [Hub.Sound.of_mk] | with_reducible assumption | dsimp only | split

theorem Hub.Sound.putStream (x : RxStream) (h : Hub) (w_h : h.Sound) : (Hub.putStream x h).Sound := by
  unfold Hub.putStream
  repeat'
    first
    | intro _ | simp only [Hub.Sound.of_mk] | with_reducible assumption | dsimp only | split

theorem Hub.Sound.countIn (p : Nat) (header : Nat) (h : Hub) (w_h : h.Sound) : (Hub.countIn p header h).Sound := by
  unfold Hub.countIn
  repeat'
    first
    | intro _ | with_reducible assumption | with_reducible apply Hub.Sound.add | with_reducible apply Hub.Sound.inc
    | dsimp only | split

theorem Hub.Sound.markBegun (f : Frame) (p : Nat) (h : Hub) (w_h : h.Sound) : (Hub.markBegun f p h).Sound := by
  unfold Hub.markBegun
  repeat'
    first
    | intro _ | simp only [Hub.Sound.of_mk] | with_reducible assumption | with_reducible apply Hub.Sound.ite | dsimp only
    | split

theorem Hub.Sound.awaitVerdict (f : Frame) (h : Hub) (w_h : h.Sound) : (Hub.awaitVerdict f h).Sound := by
  unfold Hub.awaitVerdict
  repeat'
    first
    | intro _ | simp only [Hub.Sound.of_mk] | with_reducible assumption | with_reducible apply Hub.Sound.wr
    | with_reducible apply Hub.Sound.ite | dsimp only | split

theorem Hub.Sound.deepen (p : Nat) (c : Nat) (cells : Nat) (h : Hub) (w_h : h.Sound) : (Hub.deepen p c cells h).Sound := by
  unfold Hub.deepen
  repeat'
    first
    | intro _ | with_reducible assumption | with_reducible apply Hub.Sound.wr | with_reducible apply Hub.Sound.ite
    | dsimp only | split

theorem Hub.Sound.admitCopy (ingress : Nat) (header : Nat) (p : Nat) (cells : Nat) (whole : Bool) (h : Hub) (w_h : h.Sound) :
    (Hub.admitCopy ingress header p cells whole h).2.Sound := by
  unfold Hub.admitCopy
  repeat'
    first
    | intro _ | with_reducible assumption | with_reducible apply Hub.Sound.wr | with_reducible apply Hub.Sound.deepen
    | with_reducible refine Hub.Sound.pair (by assumption) ?_ | with_reducible refine Hub.Sound.pair3 (by assumption) ?_
    | with_reducible refine Hub.Sound.pair4 (by assumption) ?_ | dsimp only | split

theorem Hub.Sound.tagCell (h : Hub) (a : Nat) (w_h : h.Sound) : (Hub.tagCell h a).Sound := by
  unfold Hub.tagCell
  repeat'
    first
    | intro _ | with_reducible assumption | with_reducible apply Hub.Sound.wr
    | with_reducible refine Hub.Sound.pair (by assumption) ?_ | with_reducible refine Hub.Sound.pair3 (by assumption) ?_
    | with_reducible refine Hub.Sound.pair4 (by assumption) ?_ | dsimp only | split

theorem Hub.Sound.storeFrame (f : Frame) (h : Hub) (w_h : h.Sound) : (Hub.storeFrame f h).Sound := by
  unfold Hub.storeFrame
  repeat'
    first
    | intro _ | simp only [Hub.Sound.of_mk] | with_reducible assumption | with_reducible apply Hub.Sound.wr
    | with_reducible apply Hub.Sound.tagCell | with_reducible apply Hub.Sound.foldl
    | with_reducible refine Hub.Sound.pair (by assumption) ?_ | with_reducible refine Hub.Sound.pair3 (by assumption) ?_
    | with_reducible refine Hub.Sound.pair4 (by assumption) ?_ | dsimp only | split

theorem Hub.Sound.mirrorFrame (f : Frame) (dropped : Bool) (reason : Nat) (bad : Bool) (h : Hub) (w_h : h.Sound) (x : Hub)
    (e : Hub.mirrorFrame f dropped reason bad h = some x) : x.Sound := by
  unfold Hub.mirrorFrame at e
  dsimp only at e
  split at e
  · cases e
  · split at e
    · cases e
    · split at e
      · cases e
      · cases e
        exact Hub.Sound.storeFrame _ _ (Hub.Sound.admitCopy _ _ _ _ _ _ w_h)

theorem Hub.Sound.mirror (f : Frame) (dropped : Bool) (reason : Nat) (bad : Bool) (h : Hub) (w_h : h.Sound) :
    (Hub.mirror f dropped reason bad h).Sound := by
  unfold Hub.mirror
  split
  · exact w_h
  · dsimp only
    split
    · exact w_h.wr _ _
    · have w1 : (((h.wr Reg.mirrorCount 0).inc Od.MIRROR_SAMPLES).inc (Od.MIRRORED f.ingress)).Sound :=
        Hub.Sound.inc _ _ _ (Hub.Sound.inc _ _ _ (w_h.wr _ _))
      split
      · exact Hub.Sound.sampleToRing _ _ _ _ _ _ w1
      · split
        · exact Hub.Sound.sampleToRing _ _ _ _ _ _ w1
        · split
          · next h2 e => exact Hub.Sound.refreshEpochs _ (Hub.Sound.mirrorFrame _ _ _ _ _ w1 _ e)
          · exact Hub.Sound.sampleToRing _ _ _ _ _ _ w1

theorem Hub.Sound.dropWhole (f : Frame) (reason : Nat) (port : Nat) (h : Hub) (w_h : h.Sound) : (Hub.dropWhole f reason port
    h).Sound := by
  unfold Hub.dropWhole
  repeat'
    first
    | intro _ | with_reducible assumption | with_reducible apply Hub.Sound.awaitVerdict
    | with_reducible apply Hub.Sound.mirror | with_reducible apply Hub.Sound.countDrop | dsimp only | split

theorem Hub.Sound.admitCopies (ingress header cells : Nat) (whole : Bool) (l : List Nat) (h : Hub) (w_h : h.Sound) :
    (Hub.admitCopies ingress header cells whole l h).2.Sound := by
  induction l generalizing h with
  | nil => exact w_h
  | cons p r ih =>
    unfold Hub.admitCopies
    split
    · exact ih _ (Hub.Sound.countDrop _ _ _ w_h)
    · exact ih _ (Hub.Sound.admitCopy _ _ _ _ _ _ w_h)

theorem Hub.Sound.handOver (id : Nat) (h : Hub) (w_h : h.Sound) : (Hub.handOver id h).Sound := by
  unfold Hub.handOver
  repeat'
    first
    | intro _ | with_reducible assumption | with_reducible apply Hub.Sound.releaseCopy | dsimp only | split

theorem Hub.Sound.enterFrame (ingress : Nat) (header : Nat) (payload : Nat) (named : Nat) (whole : Bool) (forced : Option Lookup)
    (pass : Nat) (h : Hub) (w_h : h.Sound) : (Hub.enterFrame ingress header payload named whole forced pass h).Sound := by
  unfold Hub.enterFrame
  repeat'
    first
    | intro _ | with_reducible assumption | with_reducible apply Hub.Sound.countIn | with_reducible apply Hub.Sound.dropWhole
    | with_reducible apply Hub.Sound.countDrop | with_reducible apply Hub.Sound.admitCopies
    | with_reducible apply Hub.Sound.awaitVerdict | with_reducible apply Hub.Sound.mirror
    | with_reducible apply Hub.Sound.storeFrame | with_reducible apply Hub.Sound.handOver
    | with_reducible apply Hub.Sound.refreshEpochs | with_reducible apply Hub.Sound.ite | with_reducible apply Hub.Sound.foldl
    | with_reducible refine Hub.Sound.pair (by assumption) ?_ | with_reducible refine Hub.Sound.pair3 (by assumption) ?_
    | with_reducible refine Hub.Sound.pair4 (by assumption) ?_ | dsimp only | split

theorem Hub.Sound.injectFrame (ingress : Nat) (header : Nat) (payload : Nat) (named : Nat) (h : Hub) (w_h : h.Sound) :
    (Hub.injectFrame ingress header payload named h).Sound := by
  unfold Hub.injectFrame
  repeat'
    first
    | intro _ | with_reducible assumption | with_reducible apply Hub.Sound.enterFrame | with_reducible apply Hub.Sound.ite
    | dsimp only | split

theorem Hub.Sound.sendData (cls : Nat) (dest : Nat) (ep : Nat) (len : Nat) (payload : Nat) (h : Hub) (w_h : h.Sound) : (Hub.sendData cls
    dest ep len payload h).Sound := by
  unfold Hub.sendData
  repeat'
    first
    | intro _ | with_reducible assumption | with_reducible apply Hub.Sound.injectFrame | dsimp only | split

theorem Hub.Sound.frameBad (f : Frame) (truncated : Bool) (h : Hub) (w_h : h.Sound) : (Hub.frameBad f truncated h).Sound := by
  unfold Hub.frameBad
  repeat'
    first
    | intro _ | with_reducible assumption | with_reducible apply Hub.Sound.countDrop | with_reducible apply Hub.Sound.dropDead
    | with_reducible apply Hub.Sound.mirror | with_reducible apply Hub.Sound.wr | with_reducible apply Hub.Sound.putFrame
    | with_reducible apply Hub.Sound.poisonCopy | with_reducible apply Hub.Sound.ite | with_reducible apply Hub.Sound.foldl
    | dsimp only | split

theorem Hub.Sound.ingressLost (p : Nat) (h : Hub) (w_h : h.Sound) : (Hub.ingressLost p h).Sound := by
  unfold Hub.ingressLost
  repeat'
    first
    | intro _ | simp only [Hub.Sound.of_mk] | with_reducible assumption | with_reducible apply Hub.Sound.frameBad
    | with_reducible apply Hub.Sound.foldl | dsimp only | split

theorem Hub.Sound.frameGood (f : Frame) (payload : Nat) (h : Hub) (w_h : h.Sound) : (Hub.frameGood f payload h).Sound := by
  unfold Hub.frameGood
  repeat'
    first
    | intro _ | with_reducible assumption | with_reducible apply Hub.Sound.dropDead | with_reducible apply Hub.Sound.mirror
    | with_reducible apply Hub.Sound.putFrame | with_reducible apply Hub.Sound.wr | with_reducible apply Hub.Sound.ite
    | dsimp only | split

theorem Hub.Sound.advanceCredit (p : Nat) (h : Hub) (w_h : h.Sound) : (Hub.advanceCredit p h).Sound := by
  unfold Hub.advanceCredit
  repeat'
    first
    | intro _ | with_reducible assumption | with_reducible apply Hub.Sound.wr | with_reducible apply Hub.Sound.ite
    | with_reducible apply Hub.Sound.foldl | dsimp only | split

theorem Hub.Sound.enterPacket (ws : List FifoWord) (h : Hub) (w_h : h.Sound) : (Hub.enterPacket ws h).Sound := by
  unfold Hub.enterPacket
  repeat'
    first
    | intro _ | with_reducible assumption | with_reducible apply Hub.Sound.inc | with_reducible apply Hub.Sound.injectFrame
    | with_reducible refine Hub.Sound.pair (by assumption) ?_ | with_reducible refine Hub.Sound.pair3 (by assumption) ?_
    | with_reducible refine Hub.Sound.pair4 (by assumption) ?_ | dsimp only | split

theorem Hub.Sound.pumpTxqN (n : Nat) (h : Hub) (w_h : h.Sound) : (Hub.pumpTxqN n h).Sound := by
  induction n generalizing h with
  | zero => exact w_h
  | succ n ih =>
    unfold Hub.pumpTxqN
    split
    · exact w_h
    · split
      · exact w_h
      · apply ih
        exact Hub.Sound.enterPacket _ _ (Hub.Sound.of_mk.2 w_h)

theorem Hub.Sound.pumpTxq (h : Hub) (w_h : h.Sound) : (Hub.pumpTxq h).Sound := by
  unfold Hub.pumpTxq
  repeat'
    first
    | intro _ | with_reducible assumption | with_reducible apply Hub.Sound.pumpTxqN | dsimp only | split

theorem Hub.Sound.beginCopy (f : Frame) (c : Copy) (h : Hub) (w_h : h.Sound) : (Hub.beginCopy f c h).Sound := by
  unfold Hub.beginCopy
  repeat'
    first
    | intro _ | simp only [Hub.Sound.of_mk] | with_reducible assumption | with_reducible apply Hub.Sound.markBegun
    | with_reducible apply Hub.Sound.inc | with_reducible apply Hub.Sound.wr | with_reducible apply Hub.Sound.pushRx
    | with_reducible apply Hub.Sound.emit | with_reducible apply Hub.Sound.ite
    | with_reducible refine Hub.Sound.pair (by assumption) ?_ | with_reducible refine Hub.Sound.pair3 (by assumption) ?_
    | with_reducible refine Hub.Sound.pair4 (by assumption) ?_ | dsimp only | split

theorem Hub.Sound.countOut (p : Nat) (header : Nat) (h : Hub) (w_h : h.Sound) : (Hub.countOut p header h).Sound := by
  unfold Hub.countOut
  repeat'
    first
    | intro _ | with_reducible assumption | with_reducible apply Hub.Sound.add | with_reducible apply Hub.Sound.inc
    | dsimp only | split

theorem Hub.Sound.egressGone (p : Nat) (h : Hub) (w_h : h.Sound) : (Hub.egressGone p h).Sound := by
  unfold Hub.egressGone
  repeat'
    first
    | intro _ | with_reducible assumption | with_reducible apply Hub.Sound.dropEgress | dsimp only | split

theorem Hub.Sound.streamIn (p : Nat) (ep : Nat) (len : Nat) (data : Nat) (h : Hub) (w_h : h.Sound) : (Hub.streamIn p ep len data
    h).Sound := by
  unfold Hub.streamIn
  repeat'
    first
    | intro _ | with_reducible assumption | with_reducible apply Hub.Sound.putStream | with_reducible apply Hub.Sound.ite
    | dsimp only | split

theorem Hub.Sound.flintForward (f : Frame) (h : Hub) (w_h : h.Sound) : (Hub.flintForward f h).Sound := by
  unfold Hub.flintForward
  repeat'
    first
    | intro _ | with_reducible assumption | with_reducible apply Hub.Sound.injectFrame
    | with_reducible apply Hub.Sound.sendData | with_reducible apply Hub.Sound.enterFrame | with_reducible apply Hub.Sound.ite
    | dsimp only | split

theorem Hub.Sound.finishCopy (f : Frame) (c : Copy) (h : Hub) (w_h : h.Sound) : (Hub.finishCopy f c h).Sound := by
  unfold Hub.finishCopy
  repeat'
    first
    | intro _ | with_reducible assumption | with_reducible apply Hub.Sound.poisonCopy
    | with_reducible apply Hub.Sound.countOut | with_reducible apply Hub.Sound.flintForward
    | with_reducible apply Hub.Sound.releaseCopy | with_reducible apply Hub.Sound.pushRx | with_reducible apply Hub.Sound.emit
    | with_reducible apply Hub.Sound.ite | dsimp only | split

theorem Hub.Sound.returnCredit (p : Nat) (cls : Nat) (cost : Nat) (h : Hub) (w_h : h.Sound) : (Hub.returnCredit p cls cost h).Sound
    := by
  unfold Hub.returnCredit
  repeat'
    first
    | intro _ | with_reducible assumption | with_reducible apply Hub.Sound.advanceCredit | with_reducible apply Hub.Sound.wr
    | with_reducible apply Hub.Sound.ite | dsimp only | split

theorem Hub.Sound.streamDone (p : Nat) (ep : Nat) (n : Nat) (h : Hub) (w_h : h.Sound) : (Hub.streamDone p ep n h).Sound := by
  unfold Hub.streamDone
  repeat'
    first
    | intro _ | with_reducible assumption | with_reducible apply Hub.Sound.putStream | dsimp only | split

theorem Hub.Sound.pathGone (p : Nat) (h : Hub) (w_h : h.Sound) : (Hub.pathGone p h).Sound := by
  unfold Hub.pathGone
  repeat'
    first
    | intro _ | with_reducible assumption | with_reducible apply Hub.Sound.endDelivery
    | with_reducible apply Hub.Sound.dropCopy | with_reducible apply Hub.Sound.ite | with_reducible apply Hub.Sound.foldl
    | dsimp only | split

theorem Hub.Sound.setPull (p : Nat) (line : Nat) (h : Hub) (w_h : h.Sound) : (Hub.setPull p line h).Sound := by
  unfold Hub.setPull
  repeat'
    first
    | intro _ | with_reducible assumption | with_reducible apply Hub.Sound.emit | with_reducible apply Hub.Sound.wr
    | with_reducible apply Hub.Sound.ite | dsimp only | split

theorem Hub.Sound.closeBatch (h : Hub) (w_h : h.Sound) : (Hub.closeBatch h).Sound := by
  unfold Hub.closeBatch
  repeat'
    first
    | intro _ | simp only [Hub.Sound.of_mk] | with_reducible assumption | with_reducible apply Hub.Sound.wr
    | with_reducible apply Hub.Sound.sendData | with_reducible apply Hub.Sound.inc | with_reducible apply Hub.Sound.ite
    | with_reducible refine Hub.Sound.pair (by assumption) ?_ | with_reducible refine Hub.Sound.pair3 (by assumption) ?_
    | with_reducible refine Hub.Sound.pair4 (by assumption) ?_ | dsimp only | split

theorem Hub.Sound.closeAfterPoll (h : Hub) (w_h : h.Sound) : (Hub.closeAfterPoll h).Sound := by
  unfold Hub.closeAfterPoll
  repeat'
    first
    | intro _ | with_reducible assumption | with_reducible apply Hub.Sound.closeBatch | with_reducible apply Hub.Sound.wr
    | with_reducible apply Hub.Sound.ite | dsimp only | split

theorem Hub.Sound.countSkip (entry : Nat) (counter : Nat) (h : Hub) (w_h : h.Sound) : (Hub.countSkip entry counter h).Sound := by
  unfold Hub.countSkip
  repeat'
    first
    | intro _ | with_reducible assumption | with_reducible apply Hub.Sound.inc | with_reducible apply Hub.Sound.wr
    | dsimp only | split

theorem Hub.Sound.cutTxn (p : Nat) (h : Hub) (w_h : h.Sound) : (Hub.cutTxn p h).Sound := by
  unfold Hub.cutTxn
  repeat'
    first
    | intro _ | simp only [Hub.Sound.of_mk] | with_reducible assumption | with_reducible apply Hub.Sound.closeAfterPoll
    | with_reducible apply Hub.Sound.countSkip | with_reducible apply Hub.Sound.clear | with_reducible apply Hub.Sound.foldl
    | dsimp only | split

theorem Hub.Sound.startControl (x : ControlFrame) (h : Hub) (w_h : h.Sound) : (Hub.startControl x h).Sound := by
  unfold Hub.startControl
  repeat'
    first
    | intro _ | with_reducible assumption | with_reducible apply Hub.Sound.wr | with_reducible apply Hub.Sound.emit
    | with_reducible apply Hub.Sound.ite | dsimp only | split

theorem Hub.Sound.pumpControlN (p : Nat) (a1 : Nat) (a2 : Hub) (w_a2 : a2.Sound) : (Hub.pumpControlN p a1 a2).Sound := by
  induction a1 generalizing a2 with
  | zero => exact w_a2
  | succ n ih =>
    unfold Hub.pumpControlN
    split
    · exact w_a2
    · split
      · exact ih _ (Hub.Sound.startControl _ _ (Hub.Sound.of_mk.2 w_a2))
      · exact w_a2

theorem Hub.Sound.pumpControl (p : Nat) (h : Hub) (w_h : h.Sound) : (Hub.pumpControl p h).Sound := by
  unfold Hub.pumpControl
  repeat'
    first
    | intro _ | with_reducible assumption | with_reducible apply Hub.Sound.pumpControlN | dsimp only | split

theorem Hub.Sound.raiseHalt (k : Nat) (cause : Nat) (h : Hub) (w_h : h.Sound) : (Hub.raiseHalt k cause h).Sound := by
  unfold Hub.raiseHalt
  repeat'
    first
    | intro _ | with_reducible assumption | with_reducible apply Hub.Sound.wr | with_reducible apply Hub.Sound.ite
    | dsimp only | split

theorem Hub.Sound.refreshHalts (h : Hub) (w_h : h.Sound) : (Hub.refreshHalts h).Sound := by
  unfold Hub.refreshHalts
  repeat'
    first
    | intro _ | with_reducible assumption | with_reducible apply Hub.Sound.raiseHalt | dsimp only | split

theorem Hub.Sound.dropLinkKeys (u : Nat) (h : Hub) (w_h : h.Sound) : (Hub.dropLinkKeys u h).Sound := by
  unfold Hub.dropLinkKeys
  repeat'
    first
    | intro _ | simp only [Hub.Sound.of_mk] | with_reducible assumption | with_reducible apply Hub.Sound.clear
    | with_reducible apply Hub.Sound.wr | with_reducible apply Hub.Sound.refreshHalts | with_reducible apply Hub.Sound.ite
    | dsimp only | split

theorem Hub.Sound.hierRecord (kind : Nat) (h : Hub) (w_h : h.Sound) : (Hub.hierRecord kind h).Sound := by
  unfold Hub.hierRecord
  repeat'
    first
    | intro _ | with_reducible assumption | with_reducible apply Hub.Sound.sendHierRecord
    | with_reducible refine Hub.Sound.pair (by assumption) ?_ | with_reducible refine Hub.Sound.pair3 (by assumption) ?_
    | with_reducible refine Hub.Sound.pair4 (by assumption) ?_ | dsimp only | split

theorem Hub.Sound.linkLost (p : Nat) (h : Hub) (w_h : h.Sound) : (Hub.linkLost p h).Sound := by
  unfold Hub.linkLost
  repeat'
    first
    | intro _ | simp only [Hub.Sound.of_mk] | with_reducible assumption | with_reducible apply Hub.Sound.clear
    | with_reducible apply Hub.Sound.wr | with_reducible apply Hub.Sound.ingressLost
    | with_reducible apply Hub.Sound.egressGone | with_reducible apply Hub.Sound.pathGone
    | with_reducible apply Hub.Sound.dropLinkKeys | with_reducible apply Hub.Sound.hierRecord
    | with_reducible apply Hub.Sound.ite | dsimp only | split

theorem Hub.Sound.startCredit (p : Nat) (h : Hub) (w_h : h.Sound) : (Hub.startCredit p h).Sound := by
  unfold Hub.startCredit
  repeat'
    first
    | intro _ | with_reducible assumption | with_reducible apply Hub.Sound.advanceCredit | with_reducible apply Hub.Sound.wr
    | with_reducible apply Hub.Sound.foldl | dsimp only | split

theorem Hub.Sound.portRecord (p : Nat) (kind : Nat) (cause : Nat) (flags : Nat) (h : Hub) (w_h : h.Sound) : (Hub.portRecord p kind
    cause flags h).Sound := by
  unfold Hub.portRecord
  repeat'
    first
    | intro _ | with_reducible assumption | with_reducible apply Hub.Sound.sendPortRecord | with_reducible apply Hub.Sound.ite
    | with_reducible refine Hub.Sound.pair (by assumption) ?_ | with_reducible refine Hub.Sound.pair3 (by assumption) ?_
    | with_reducible refine Hub.Sound.pair4 (by assumption) ?_ | dsimp only | split

theorem Hub.Sound.wakeRecords (h : Hub) (w_h : h.Sound) : (Hub.wakeRecords h).Sound := by
  unfold Hub.wakeRecords
  repeat'
    first
    | intro _ | with_reducible assumption | with_reducible apply Hub.Sound.wr | with_reducible apply Hub.Sound.portRecord
    | with_reducible apply Hub.Sound.ite | with_reducible apply Hub.Sound.foldl | dsimp only | split

theorem Hub.Sound.linkUp (p : Nat) (h : Hub) (w_h : h.Sound) : (Hub.linkUp p h).Sound := by
  unfold Hub.linkUp
  repeat'
    first
    | intro _ | with_reducible assumption | with_reducible apply Hub.Sound.wr | with_reducible apply Hub.Sound.clear
    | with_reducible apply Hub.Sound.arm | with_reducible apply Hub.Sound.startCredit
    | with_reducible apply Hub.Sound.wakeRecords | with_reducible apply Hub.Sound.ite | dsimp only | split

theorem Hub.Sound.linkTo (p : Nat) (s : Nat) (h : Hub) (w_h : h.Sound) : (Hub.linkTo p s h).Sound := by
  unfold Hub.linkTo
  repeat'
    first
    | intro _ | with_reducible assumption | with_reducible apply Hub.Sound.wr | with_reducible apply Hub.Sound.linkLost
    | with_reducible apply Hub.Sound.linkUp | with_reducible apply Hub.Sound.inc | with_reducible apply Hub.Sound.ite
    | dsimp only | split

theorem Hub.Sound.linkDown (p : Nat) (h : Hub) (w_h : h.Sound) : (Hub.linkDown p h).Sound := by
  unfold Hub.linkDown
  repeat'
    first
    | intro _ | with_reducible assumption | with_reducible apply Hub.Sound.clear | with_reducible apply Hub.Sound.linkTo
    | with_reducible apply Hub.Sound.cutTxn | dsimp only | split

theorem Hub.Sound.skipPolls (p : Nat) (h : Hub) (w_h : h.Sound) : (Hub.skipPolls p h).Sound := by
  unfold Hub.skipPolls
  repeat'
    first
    | intro _ | simp only [Hub.Sound.of_mk] | with_reducible assumption | with_reducible apply Hub.Sound.closeAfterPoll
    | with_reducible apply Hub.Sound.countSkip | with_reducible apply Hub.Sound.foldl | dsimp only | split

theorem Hub.Sound.putSlot (s : Slot) (h : Hub) (w_h : h.Sound) : (Hub.putSlot s h).Sound := by
  unfold Hub.putSlot
  repeat'
    first
    | intro _ | simp only [Hub.Sound.of_mk] | with_reducible assumption | with_reducible apply Hub.Sound.ite | dsimp only
    | split

theorem Hub.Sound.completionFrame (s : Slot) (h : Hub) (w_h : h.Sound) : (Hub.completionFrame s h).Sound := by
  unfold Hub.completionFrame
  repeat'
    first
    | intro _ | with_reducible assumption | with_reducible apply Hub.Sound.sendData
    | with_reducible refine Hub.Sound.pair (by assumption) ?_ | with_reducible refine Hub.Sound.pair3 (by assumption) ?_
    | with_reducible refine Hub.Sound.pair4 (by assumption) ?_ | dsimp only | split

theorem Hub.Sound.completion (s : Slot) (h : Hub) (w_h : h.Sound) : (Hub.completion s h).Sound := by
  unfold Hub.completion
  repeat'
    first
    | intro _ | with_reducible assumption | with_reducible apply Hub.Sound.inc
    | with_reducible apply Hub.Sound.completionFrame | dsimp only | split

theorem Hub.Sound.slotDone (s : Slot) (h : Hub) (w_h : h.Sound) : (Hub.slotDone s h).Sound := by
  unfold Hub.slotDone
  repeat'
    first
    | intro _ | with_reducible assumption | with_reducible apply Hub.Sound.putSlot | with_reducible apply Hub.Sound.completion
    | with_reducible apply Hub.Sound.ite | dsimp only | split

theorem Hub.Sound.abortSlots (p : Nat) (h : Hub) (w_h : h.Sound) : (Hub.abortSlots p h).Sound := by
  unfold Hub.abortSlots
  repeat'
    first
    | intro _ | with_reducible assumption | with_reducible apply Hub.Sound.inc | with_reducible apply Hub.Sound.slotDone
    | with_reducible apply Hub.Sound.foldl | dsimp only | split

theorem Hub.Sound.setAddresses (p : Nat) (state : Nat) (h : Hub) (w_h : h.Sound) : (Hub.setAddresses p state h).Sound := by
  unfold Hub.setAddresses
  repeat'
    first
    | intro _ | with_reducible assumption | with_reducible apply Hub.Sound.wr | with_reducible apply Hub.Sound.ite
    | with_reducible apply Hub.Sound.foldl | dsimp only | split

theorem Hub.Sound.movePort (p : Nat) (new : Nat) (cause : Nat) (h : Hub) (w_h : h.Sound) : (Hub.movePort p new cause h).Sound := by
  unfold Hub.movePort
  repeat'
    first
    | intro _ | with_reducible assumption | with_reducible apply Hub.Sound.skipPolls
    | with_reducible apply Hub.Sound.abortSlots | with_reducible apply Hub.Sound.egressGone
    | with_reducible apply Hub.Sound.setAddresses | with_reducible apply Hub.Sound.wr | with_reducible apply Hub.Sound.clear
    | with_reducible apply Hub.Sound.cutTxn | with_reducible apply Hub.Sound.portRecord | with_reducible apply Hub.Sound.ite
    | dsimp only | split

theorem Hub.Sound.enterDisconnected (p : Nat) (h : Hub) (w_h : h.Sound) : (Hub.enterDisconnected p h).Sound := by
  unfold Hub.enterDisconnected
  repeat'
    first
    | intro _ | with_reducible assumption | with_reducible apply Hub.Sound.linkDown | with_reducible apply Hub.Sound.movePort
    | with_reducible apply Hub.Sound.arm | with_reducible apply Hub.Sound.linkTo | with_reducible apply Hub.Sound.ite
    | dsimp only | split

theorem Hub.Sound.sendControl (p : Nat) (context : Nat) (len : Nat) (payload : Nat) (clear : Bool) (h : Hub) (w_h : h.Sound) :
    (Hub.sendControl p context len payload clear h).Sound := by
  unfold Hub.sendControl
  repeat'
    first
    | intro _ | simp only [Hub.Sound.of_mk] | with_reducible assumption | with_reducible apply Hub.Sound.startControl
    | with_reducible apply Hub.Sound.ite | dsimp only | split

theorem Hub.Sound.emitTxn (x : Txn) (h : Hub) (w_h : h.Sound) : (Hub.emitTxn x h).Sound := by
  unfold Hub.emitTxn
  repeat'
    first
    | intro _ | with_reducible assumption | with_reducible apply Hub.Sound.sendControl | with_reducible apply Hub.Sound.emit
    | with_reducible apply Hub.Sound.ite | dsimp only | split

theorem Hub.Sound.startTxn (x : Txn) (h : Hub) (w_h : h.Sound) : (Hub.startTxn x h).Sound := by
  unfold Hub.startTxn
  repeat'
    first
    | intro _ | simp only [Hub.Sound.of_mk] | with_reducible assumption | dsimp only | split

theorem Hub.Sound.goTxn (x : Txn) (h : Hub) (w_h : h.Sound) : (Hub.goTxn x h).Sound := by
  unfold Hub.goTxn
  repeat'
    first
    | intro _ | with_reducible assumption | with_reducible apply Hub.Sound.arm | with_reducible apply Hub.Sound.emitTxn
    | with_reducible apply Hub.Sound.startTxn | with_reducible apply Hub.Sound.ite | dsimp only | split

theorem Hub.Sound.startPoll (j : PollJob) (h : Hub) (w_h : h.Sound) : (Hub.startPoll j h).Sound := by
  unfold Hub.startPoll
  repeat'
    first
    | intro _ | simp only [Hub.Sound.of_mk] | with_reducible assumption | with_reducible apply Hub.Sound.inc
    | with_reducible apply Hub.Sound.wr | with_reducible apply Hub.Sound.goTxn | with_reducible apply Hub.Sound.ite
    | dsimp only | split

theorem Hub.Sound.pollTurn (p : Nat) (h : Hub) (w_h : h.Sound) : (Hub.pollTurn p h).Sound := by
  unfold Hub.pollTurn
  repeat'
    first
    | intro _ | with_reducible assumption | with_reducible apply Hub.Sound.wr | with_reducible apply Hub.Sound.startPoll
    | with_reducible apply Hub.Sound.ite | dsimp only | split

theorem Hub.Sound.tryTxn (x : Txn) (h : Hub) (w_h : h.Sound) : (Hub.tryTxn x h).Sound := by
  unfold Hub.tryTxn
  repeat'
    first
    | intro _ | with_reducible assumption | with_reducible apply Hub.Sound.goTxn | with_reducible apply Hub.Sound.ite
    | dsimp only | split

theorem Hub.Sound.goFitting (mk : Nat → Txn) (n : Nat) (h : Hub) (w_h : h.Sound) : (Hub.goFitting mk n h).Sound := by
  unfold Hub.goFitting
  repeat'
    first
    | intro _ | with_reducible assumption | with_reducible apply Hub.Sound.goTxn | dsimp only | split

theorem Hub.Sound.startFrameOut (f : Frame) (p : Nat) (h : Hub) (w_h : h.Sound) : (Hub.startFrameOut f p h).Sound := by
  unfold Hub.startFrameOut
  repeat'
    first
    | intro _ | with_reducible assumption | with_reducible apply Hub.Sound.tryTxn | with_reducible apply Hub.Sound.goFitting
    | with_reducible apply Hub.Sound.ite | dsimp only | split

theorem Hub.Sound.startDelivery (v : Delivery) (f : Frame) (h : Hub) (w_h : h.Sound) : (Hub.startDelivery v f h).Sound := by
  unfold Hub.startDelivery
  repeat'
    first
    | intro _ | with_reducible assumption | with_reducible apply Hub.Sound.tryTxn | with_reducible apply Hub.Sound.goFitting
    | with_reducible apply Hub.Sound.ite | dsimp only | split

theorem Hub.Sound.frameWork (p : Nat) (h : Hub) (w_h : h.Sound) : (Hub.frameWork p h).Sound := by
  unfold Hub.frameWork
  repeat'
    first
    | intro _ | with_reducible assumption | with_reducible apply Hub.Sound.startFrameOut
    | with_reducible apply Hub.Sound.startDelivery | with_reducible apply Hub.Sound.dropCopy
    | with_reducible apply Hub.Sound.wr | with_reducible apply Hub.Sound.beginCopy | with_reducible apply Hub.Sound.ite
    | with_reducible refine Hub.Sound.pair (by assumption) ?_ | with_reducible refine Hub.Sound.pair3 (by assumption) ?_
    | with_reducible refine Hub.Sound.pair4 (by assumption) ?_ | dsimp only | split

theorem Hub.Sound.restorePull (p : Nat) (h : Hub) (w_h : h.Sound) : (Hub.restorePull p h).Sound := by
  unfold Hub.restorePull
  repeat'
    first
    | intro _ | with_reducible assumption | with_reducible apply Hub.Sound.setPull | with_reducible apply Hub.Sound.ite
    | dsimp only | split

theorem Hub.Sound.hubPowerLoss (p : Nat) (h : Hub) (w_h : h.Sound) : (Hub.hubPowerLoss p h).Sound := by
  unfold Hub.hubPowerLoss
  repeat'
    first
    | intro _ | with_reducible assumption | with_reducible apply Hub.Sound.wr | with_reducible apply Hub.Sound.linkDown
    | with_reducible apply Hub.Sound.movePort | with_reducible apply Hub.Sound.ite | dsimp only | split

theorem Hub.Sound.sendLink (p : Nat) (kind : Nat) (payload : Nat) (h : Hub) (w_h : h.Sound) : (Hub.sendLink p kind payload h).Sound
    := by
  unfold Hub.sendLink
  repeat'
    first
    | intro _ | with_reducible assumption | with_reducible apply Hub.Sound.wr | with_reducible apply Hub.Sound.emit
    | dsimp only | split

theorem Hub.Sound.resetDeviceSeq (p : Nat) (h : Hub) (w_h : h.Sound) : (Hub.resetDeviceSeq p h).Sound := by
  unfold Hub.resetDeviceSeq
  repeat'
    first
    | intro _ | with_reducible assumption | with_reducible apply Hub.Sound.wipe | dsimp only | split

theorem Hub.Sound.resetLink (p : Nat) (h : Hub) (w_h : h.Sound) : (Hub.resetLink p h).Sound := by
  unfold Hub.resetLink
  repeat'
    first
    | intro _ | with_reducible assumption | with_reducible apply Hub.Sound.sendLink
    | with_reducible apply Hub.Sound.resetDeviceSeq | with_reducible apply Hub.Sound.inc
    | with_reducible apply Hub.Sound.linkTo | with_reducible apply Hub.Sound.cutTxn | with_reducible apply Hub.Sound.arm
    | with_reducible apply Hub.Sound.emit | with_reducible apply Hub.Sound.clear | with_reducible apply Hub.Sound.ite
    | dsimp only | split

theorem Hub.Sound.enterResetting (p : Nat) (h : Hub) (w_h : h.Sound) : (Hub.enterResetting p h).Sound := by
  unfold Hub.enterResetting
  repeat'
    first
    | intro _ | with_reducible assumption | with_reducible apply Hub.Sound.resetLink | with_reducible apply Hub.Sound.wr
    | with_reducible apply Hub.Sound.movePort | dsimp only | split

theorem Hub.Sound.controlStage (p : Nat) (k : TxnKind) (dev : Nat) (stage : Nat) (record : Nat) (packets : Nat) (heard : Bool) (h : Hub)
    (w_h : h.Sound) : (Hub.controlStage p k dev stage record packets heard h).Sound := by
  unfold Hub.controlStage
  repeat'
    first
    | intro _ | with_reducible assumption | with_reducible apply Hub.Sound.goTxn | with_reducible apply Hub.Sound.ite
    | dsimp only | split

theorem Hub.Sound.controlRequestTxn (x : Txn) (record : Nat) (h : Hub) (w_h : h.Sound) : (Hub.controlRequestTxn x record
    h).Sound := by
  unfold Hub.controlRequestTxn
  repeat'
    first
    | intro _ | with_reducible assumption | with_reducible apply Hub.Sound.goTxn | with_reducible apply Hub.Sound.wr
    | dsimp only | split

theorem Hub.Sound.settleCmd (p : Nat) (r : Nat) (h : Hub) (w_h : h.Sound) : (Hub.settleCmd p r h).Sound := by
  unfold Hub.settleCmd
  repeat'
    first
    | intro _ | with_reducible assumption | with_reducible apply Hub.Sound.wr | with_reducible apply Hub.Sound.ite
    | dsimp only | split

theorem Hub.Sound.portAddressed (p : Nat) (b : Nat) (h : Hub) (w_h : h.Sound) : (Hub.portAddressed p b h).Sound := by
  unfold Hub.portAddressed
  repeat'
    first
    | intro _ | with_reducible assumption | with_reducible apply Hub.Sound.setAddresses | with_reducible apply Hub.Sound.wr
    | with_reducible apply Hub.Sound.resetDeviceSeq | with_reducible apply Hub.Sound.portRecord
    | with_reducible apply Hub.Sound.movePort | with_reducible apply Hub.Sound.clear
    | with_reducible apply Hub.Sound.settleCmd | with_reducible apply Hub.Sound.ite | with_reducible apply Hub.Sound.foldl
    | with_reducible refine Hub.Sound.pair (by assumption) ?_ | with_reducible refine Hub.Sound.pair3 (by assumption) ?_
    | with_reducible refine Hub.Sound.pair4 (by assumption) ?_ | dsimp only | split

theorem Hub.Sound.startChildIn (p : Nat) (h : Hub) (w_h : h.Sound) : (Hub.startChildIn p h).Sound := by
  unfold Hub.startChildIn
  repeat'
    first
    | intro _ | with_reducible assumption | with_reducible apply Hub.Sound.goFitting | with_reducible apply Hub.Sound.ite
    | dsimp only | split

theorem Hub.Sound.heardValid (p : Nat) (h : Hub) (w_h : h.Sound) : (Hub.heardValid p h).Sound := by
  unfold Hub.heardValid
  repeat'
    first
    | intro _ | with_reducible assumption | with_reducible apply Hub.Sound.wr | dsimp only | split

theorem Hub.Sound.retrainLink (p : Nat) (h : Hub) (w_h : h.Sound) : (Hub.retrainLink p h).Sound := by
  unfold Hub.retrainLink
  repeat'
    first
    | intro _ | with_reducible assumption | with_reducible apply Hub.Sound.emit | with_reducible apply Hub.Sound.wr
    | with_reducible apply Hub.Sound.linkTo | with_reducible apply Hub.Sound.arm | with_reducible apply Hub.Sound.ite
    | dsimp only | split

theorem Hub.Sound.hubDetach (p : Nat) (h : Hub) (w_h : h.Sound) : (Hub.hubDetach p h).Sound := by
  unfold Hub.hubDetach
  repeat'
    first
    | intro _ | simp only [Hub.Sound.of_mk] | with_reducible assumption | with_reducible apply Hub.Sound.linkDown
    | with_reducible apply Hub.Sound.movePort | with_reducible apply Hub.Sound.setPull | with_reducible apply Hub.Sound.clear
    | with_reducible apply Hub.Sound.wr | with_reducible apply Hub.Sound.ite | dsimp only | split

theorem Hub.Sound.startTimePing (p : Nat) (h : Hub) (w_h : h.Sound) : (Hub.startTimePing p h).Sound := by
  unfold Hub.startTimePing
  repeat'
    first
    | intro _ | with_reducible assumption | with_reducible apply Hub.Sound.goTxn | with_reducible apply Hub.Sound.wr
    | with_reducible apply Hub.Sound.ite | dsimp only | split

theorem Hub.Sound.startSplit (s : Slot) (h : Hub) (w_h : h.Sound) : (Hub.startSplit s h).Sound := by
  unfold Hub.startSplit
  repeat'
    first
    | intro _ | with_reducible assumption | with_reducible apply Hub.Sound.goTxn | with_reducible apply Hub.Sound.putSlot
    | with_reducible apply Hub.Sound.tryTxn | with_reducible apply Hub.Sound.ite | dsimp only | split

theorem Hub.Sound.otherWork (p : Nat) (h : Hub) (w_h : h.Sound) : (Hub.otherWork p h).Sound := by
  unfold Hub.otherWork
  repeat'
    first
    | intro _ | simp only [Hub.Sound.of_mk] | with_reducible assumption | with_reducible apply Hub.Sound.startSplit
    | with_reducible apply Hub.Sound.controlStage | with_reducible apply Hub.Sound.inc | with_reducible apply Hub.Sound.wr
    | with_reducible apply Hub.Sound.emit | with_reducible apply Hub.Sound.frameWork | with_reducible apply Hub.Sound.ite
    | dsimp only | split

theorem Hub.Sound.idleSlot (p : Nat) (h : Hub) (w_h : h.Sound) : (Hub.idleSlot p h).Sound := by
  unfold Hub.idleSlot
  repeat'
    first
    | intro _ | with_reducible assumption | with_reducible apply Hub.Sound.wr | with_reducible apply Hub.Sound.ite
    | dsimp only | split

theorem Hub.Sound.nextWork (p : Nat) (h : Hub) (w_h : h.Sound) : (Hub.nextWork p h).Sound := by
  unfold Hub.nextWork
  repeat'
    first
    | intro _ | with_reducible assumption | with_reducible apply Hub.Sound.startChildIn
    | with_reducible apply Hub.Sound.pollTurn | with_reducible apply Hub.Sound.otherWork | with_reducible apply Hub.Sound.wr
    | with_reducible apply Hub.Sound.idleSlot | with_reducible apply Hub.Sound.ite | dsimp only | split

theorem Hub.Sound.takeWork (p : Nat) (h : Hub) (w_h : h.Sound) : (Hub.takeWork p h).Sound := by
  unfold Hub.takeWork
  repeat'
    first
    | intro _ | with_reducible assumption | with_reducible apply Hub.Sound.goTxn
    | with_reducible apply Hub.Sound.startTimePing | with_reducible apply Hub.Sound.nextWork
    | with_reducible apply Hub.Sound.ite | dsimp only | split

theorem Hub.Sound.freeSlot (i : Nat) (h : Hub) (w_h : h.Sound) : (Hub.freeSlot i h).Sound := by
  unfold Hub.freeSlot
  repeat'
    first
    | intro _ | simp only [Hub.Sound.of_mk] | with_reducible assumption | dsimp only | split

theorem Hub.Sound.startSetAddress (p : Nat) (b : Nat) (h : Hub) (w_h : h.Sound) : (Hub.startSetAddress p b h).Sound := by
  unfold Hub.startSetAddress
  repeat'
    first
    | intro _ | with_reducible assumption | with_reducible apply Hub.Sound.controlRequestTxn
    | with_reducible apply Hub.Sound.controlStage | with_reducible apply Hub.Sound.ite | dsimp only | split

theorem Hub.Sound.resetHalts (h : Hub) (w_h : h.Sound) : (Hub.resetHalts h).Sound := by
  unfold Hub.resetHalts
  repeat'
    first
    | intro _ | with_reducible assumption | with_reducible apply Hub.Sound.wr | dsimp only | split

theorem Hub.Sound.startListen (p : Nat) (cause : Nat) (h : Hub) (w_h : h.Sound) : (Hub.startListen p cause h).Sound := by
  unfold Hub.startListen
  repeat'
    first
    | intro _ | with_reducible assumption | with_reducible apply Hub.Sound.arm | with_reducible apply Hub.Sound.wr
    | dsimp only | split

theorem Hub.Sound.resumeForUpstream (h : Hub) (w_h : h.Sound) : (Hub.resumeForUpstream h).Sound := by
  unfold Hub.resumeForUpstream
  repeat'
    first
    | intro _ | with_reducible assumption | with_reducible apply Hub.Sound.startListen
    | with_reducible apply Hub.Sound.portRecord | with_reducible apply Hub.Sound.wr | with_reducible apply Hub.Sound.ite
    | with_reducible apply Hub.Sound.foldl | dsimp only | split

theorem Hub.Sound.hubAltEnter (p : Nat) (h : Hub) (w_h : h.Sound) : (Hub.hubAltEnter p h).Sound := by
  unfold Hub.hubAltEnter
  repeat'
    first
    | intro _ | with_reducible assumption | with_reducible apply Hub.Sound.wr | with_reducible apply Hub.Sound.movePort
    | with_reducible apply Hub.Sound.ite | dsimp only | split

theorem Hub.Sound.startEnum (p : Nat) (h : Hub) (w_h : h.Sound) : (Hub.startEnum p h).Sound := by
  unfold Hub.startEnum
  repeat'
    first
    | intro _ | with_reducible assumption | with_reducible apply Hub.Sound.wr | with_reducible apply Hub.Sound.inc
    | with_reducible apply Hub.Sound.controlRequestTxn | with_reducible apply Hub.Sound.controlStage
    | with_reducible apply Hub.Sound.ite | dsimp only | split

theorem Hub.Sound.leavePoweredOff (p : Nat) (h : Hub) (w_h : h.Sound) : (Hub.leavePoweredOff p h).Sound := by
  unfold Hub.leavePoweredOff
  repeat'
    first
    | intro _ | with_reducible assumption | with_reducible apply Hub.Sound.enterDisconnected
    | with_reducible apply Hub.Sound.linkDown | with_reducible apply Hub.Sound.movePort | with_reducible apply Hub.Sound.ite
    | dsimp only | split

theorem Hub.Sound.sendRequest (p : Nat) (len : Nat) (payload : Nat) (clear : Bool) (h : Hub) (w_h : h.Sound) : (Hub.sendRequest p
    len payload clear h).Sound := by
  unfold Hub.sendRequest
  repeat'
    first
    | intro _ | with_reducible assumption | with_reducible apply Hub.Sound.wr | with_reducible apply Hub.Sound.sendControl
    | dsimp only | split

theorem Hub.Sound.errorHold (p : Nat) (cause : Nat) (h : Hub) (w_h : h.Sound) : (Hub.errorHold p cause h).Sound := by
  unfold Hub.errorHold
  repeat'
    first
    | intro _ | with_reducible assumption | with_reducible apply Hub.Sound.report | with_reducible apply Hub.Sound.settleCmd
    | with_reducible apply Hub.Sound.movePort | with_reducible apply Hub.Sound.ite | dsimp only | split

theorem Hub.Sound.downstreamReset (p : Nat) (h : Hub) (w_h : h.Sound) : (Hub.downstreamReset p h).Sound := by
  unfold Hub.downstreamReset
  repeat'
    first
    | intro _ | simp only [Hub.Sound.of_mk] | with_reducible assumption | with_reducible apply Hub.Sound.clear
    | with_reducible apply Hub.Sound.wipe | with_reducible apply Hub.Sound.resetHalts | with_reducible apply Hub.Sound.wr
    | with_reducible apply Hub.Sound.ite | dsimp only | split

theorem Hub.Sound.suspendForUpstream (h : Hub) (w_h : h.Sound) : (Hub.suspendForUpstream h).Sound := by
  unfold Hub.suspendForUpstream
  repeat'
    first
    | intro _ | with_reducible assumption | with_reducible apply Hub.Sound.wr | with_reducible apply Hub.Sound.ite
    | with_reducible apply Hub.Sound.foldl | dsimp only | split

theorem Hub.Sound.identified (p : Nat) (ident : Nat) (h : Hub) (w_h : h.Sound) : (Hub.identified p ident h).Sound := by
  unfold Hub.identified
  repeat'
    first
    | intro _ | with_reducible assumption | with_reducible apply Hub.Sound.wr | with_reducible apply Hub.Sound.errorHold
    | with_reducible apply Hub.Sound.arm | with_reducible apply Hub.Sound.startSetAddress | with_reducible apply Hub.Sound.ite
    | dsimp only | split

theorem Hub.Sound.upstreamSuspended (h : Hub) (w_h : h.Sound) : (Hub.upstreamSuspended h).Sound := by
  unfold Hub.upstreamSuspended
  repeat'
    first
    | intro _ | with_reducible assumption | with_reducible apply Hub.Sound.suspendForUpstream
    | with_reducible apply Hub.Sound.wr | dsimp only | split

theorem Hub.Sound.enterSuspended (p : Nat) (cause : Nat) (h : Hub) (w_h : h.Sound) : (Hub.enterSuspended p cause h).Sound := by
  unfold Hub.enterSuspended
  repeat'
    first
    | intro _ | with_reducible assumption | with_reducible apply Hub.Sound.wr | with_reducible apply Hub.Sound.movePort
    | with_reducible apply Hub.Sound.sendLink | with_reducible apply Hub.Sound.clear | with_reducible apply Hub.Sound.linkTo
    | with_reducible apply Hub.Sound.ite | dsimp only | split

theorem Hub.Sound.enumSilent (p : Nat) (h : Hub) (w_h : h.Sound) : (Hub.enumSilent p h).Sound := by
  unfold Hub.enumSilent
  repeat'
    first
    | intro _ | with_reducible assumption | with_reducible apply Hub.Sound.wr | with_reducible apply Hub.Sound.resetLink
    | with_reducible apply Hub.Sound.errorHold | with_reducible apply Hub.Sound.ite | dsimp only | split

theorem Hub.Sound.judgeReach (p : Nat) (h : Hub) (w_h : h.Sound) : (Hub.judgeReach p h).Sound := by
  unfold Hub.judgeReach
  repeat'
    first
    | intro _ | with_reducible assumption | with_reducible apply Hub.Sound.wr | with_reducible apply Hub.Sound.ite
    | dsimp only | split

theorem Hub.Sound.hubPowerUp (p : Nat) (h : Hub) (w_h : h.Sound) : (Hub.hubPowerUp p h).Sound := by
  unfold Hub.hubPowerUp
  repeat'
    first
    | intro _ | with_reducible assumption | with_reducible apply Hub.Sound.leavePoweredOff | dsimp only | split

theorem Hub.Sound.hubAltLeave (p : Nat) (h : Hub) (w_h : h.Sound) : (Hub.hubAltLeave p h).Sound := by
  unfold Hub.hubAltLeave
  repeat'
    first
    | intro _ | with_reducible assumption | with_reducible apply Hub.Sound.egressGone
    | with_reducible apply Hub.Sound.enterDisconnected | with_reducible apply Hub.Sound.ite | dsimp only | split

theorem Hub.Sound.applyPull (p : Nat) (h : Hub) (w_h : h.Sound) : (Hub.applyPull p h).Sound := by
  unfold Hub.applyPull
  repeat'
    first
    | intro _ | with_reducible assumption | with_reducible apply Hub.Sound.setPull | with_reducible apply Hub.Sound.wr
    | dsimp only | split

theorem Hub.Sound.driveResume (p : Nat) (h : Hub) (w_h : h.Sound) : (Hub.driveResume p h).Sound := by
  unfold Hub.driveResume
  repeat'
    first
    | intro _ | with_reducible assumption | with_reducible apply Hub.Sound.wr | with_reducible apply Hub.Sound.linkTo
    | with_reducible apply Hub.Sound.movePort | with_reducible apply Hub.Sound.arm | with_reducible apply Hub.Sound.emit
    | with_reducible apply Hub.Sound.ite | dsimp only | split

theorem Hub.Sound.hubAttach (p : Nat) (h : Hub) (w_h : h.Sound) : (Hub.hubAttach p h).Sound := by
  unfold Hub.hubAttach
  repeat'
    first
    | intro _ | with_reducible assumption | with_reducible apply Hub.Sound.leavePoweredOff
    | with_reducible apply Hub.Sound.clear | with_reducible apply Hub.Sound.movePort | dsimp only | split

theorem Hub.Sound.groupLevel (g : Nat) (h : Hub) (w_h : h.Sound) : (Hub.groupLevel g h).Sound := by
  unfold Hub.groupLevel
  repeat'
    first
    | intro _ | with_reducible assumption | with_reducible apply Hub.Sound.report | with_reducible apply Hub.Sound.inc
    | with_reducible apply Hub.Sound.wrBit | with_reducible apply Hub.Sound.ite | dsimp only | split

theorem Hub.Sound.cfsOn (p : Nat) (h : Hub) (w_h : h.Sound) : (Hub.cfsOn p h).Sound := by
  unfold Hub.cfsOn
  repeat'
    first
    | intro _ | with_reducible assumption | with_reducible apply Hub.Sound.emit | with_reducible apply Hub.Sound.wr
    | with_reducible apply Hub.Sound.ite | dsimp only | split

theorem Hub.Sound.refreshLimit (p : Nat) (h : Hub) (w_h : h.Sound) : (Hub.refreshLimit p h).Sound := by
  unfold Hub.refreshLimit
  repeat'
    first
    | intro _ | with_reducible assumption | with_reducible apply Hub.Sound.wr | with_reducible apply Hub.Sound.ite
    | dsimp only | split

theorem Hub.Sound.powerResult (p : Nat) (r : Nat) (h : Hub) (w_h : h.Sound) : (Hub.powerResult p r h).Sound := by
  unfold Hub.powerResult
  repeat'
    first
    | intro _ | with_reducible assumption | with_reducible apply Hub.Sound.wr | dsimp only | split

theorem Hub.Sound.startPowerOn (p : Nat) (h : Hub) (w_h : h.Sound) : (Hub.startPowerOn p h).Sound := by
  unfold Hub.startPowerOn
  repeat'
    first
    | intro _ | with_reducible assumption | with_reducible apply Hub.Sound.wr | with_reducible apply Hub.Sound.refreshLimit
    | with_reducible apply Hub.Sound.inc | with_reducible apply Hub.Sound.emit | dsimp only | split

theorem Hub.Sound.askPowerOn (p : Nat) (atAttach : Bool) (h : Hub) (w_h : h.Sound) : (Hub.askPowerOn p atAttach h).Sound := by
  unfold Hub.askPowerOn
  repeat'
    first
    | intro _ | with_reducible assumption | with_reducible apply Hub.Sound.powerResult
    | with_reducible apply Hub.Sound.askBudget | with_reducible apply Hub.Sound.startPowerOn
    | with_reducible apply Hub.Sound.wr | with_reducible apply Hub.Sound.report | with_reducible apply Hub.Sound.ite
    | with_reducible refine Hub.Sound.pair (by assumption) ?_ | with_reducible refine Hub.Sound.pair3 (by assumption) ?_
    | with_reducible refine Hub.Sound.pair4 (by assumption) ?_ | dsimp only | split

theorem Hub.Sound.bridgeCondition (p : Nat) (h : Hub) (w_h : h.Sound) : (Hub.bridgeCondition p h).Sound := by
  unfold Hub.bridgeCondition
  repeat'
    first
    | intro _ | with_reducible assumption | with_reducible apply Hub.Sound.wr | with_reducible apply Hub.Sound.ite
    | dsimp only | split

theorem Hub.Sound.sense (p : Nat) (m : Sense) (h : Hub) (w_h : h.Sound) : (Hub.sense p m h).Sound := by
  unfold Hub.sense
  repeat'
    first
    | intro _ | with_reducible assumption | with_reducible apply Hub.Sound.wr | with_reducible apply Hub.Sound.bridgeCondition
    | with_reducible apply Hub.Sound.ite | dsimp only | split

theorem Hub.Sound.contractLimit (p : Nat) (h : Hub) (w_h : h.Sound) : (Hub.contractLimit p h).Sound := by
  unfold Hub.contractLimit
  repeat'
    first
    | intro _ | with_reducible assumption | with_reducible apply Hub.Sound.refreshLimit | with_reducible apply Hub.Sound.ite
    | dsimp only | split

theorem Hub.Sound.withdrawPowerOn (p : Nat) (h : Hub) (w_h : h.Sound) : (Hub.withdrawPowerOn p h).Sound := by
  unfold Hub.withdrawPowerOn
  repeat'
    first
    | intro _ | with_reducible assumption | with_reducible apply Hub.Sound.powerResult | with_reducible apply Hub.Sound.wr
    | with_reducible apply Hub.Sound.withdraw | with_reducible apply Hub.Sound.ite | dsimp only | split

theorem Hub.Sound.altReturn (p : Nat) (h : Hub) (w_h : h.Sound) : (Hub.altReturn p h).Sound := by
  unfold Hub.altReturn
  repeat'
    first
    | intro _ | with_reducible assumption | with_reducible apply Hub.Sound.clear | with_reducible apply Hub.Sound.hubAltLeave
    | with_reducible apply Hub.Sound.ite | dsimp only | split

theorem Hub.Sound.writeGroupEnable (v : Nat) (h : Hub) (w_h : h.Sound) : (Hub.writeGroupEnable v h).Sound := by
  unfold Hub.writeGroupEnable
  repeat'
    first
    | intro _ | with_reducible assumption | with_reducible apply Hub.Sound.groupLevel | with_reducible apply Hub.Sound.wr
    | with_reducible apply Hub.Sound.foldl | dsimp only | split

theorem Hub.Sound.cfsOff (p : Nat) (h : Hub) (w_h : h.Sound) : (Hub.cfsOff p h).Sound := by
  unfold Hub.cfsOff
  repeat'
    first
    | intro _ | with_reducible assumption | with_reducible apply Hub.Sound.clear | with_reducible apply Hub.Sound.emit
    | with_reducible apply Hub.Sound.wr | with_reducible apply Hub.Sound.ite | dsimp only | split

theorem Hub.Sound.spoil (p : Nat) (h : Hub) (w_h : h.Sound) : (Hub.spoil p h).Sound := by
  unfold Hub.spoil
  repeat'
    first
    | intro _ | with_reducible assumption | with_reducible apply Hub.Sound.wr | dsimp only | split

theorem Hub.Sound.turnOff (p : Nat) (cause : Nat) (h : Hub) (w_h : h.Sound) : (Hub.turnOff p cause h).Sound := by
  unfold Hub.turnOff
  repeat'
    first
    | intro _ | with_reducible assumption | with_reducible apply Hub.Sound.wr | with_reducible apply Hub.Sound.spoil
    | with_reducible apply Hub.Sound.powerResult | with_reducible apply Hub.Sound.arm
    | with_reducible apply Hub.Sound.hubPowerLoss | with_reducible apply Hub.Sound.bridgeCondition
    | with_reducible apply Hub.Sound.refreshLimit | with_reducible apply Hub.Sound.emit | with_reducible apply Hub.Sound.ite
    | dsimp only | split

theorem Hub.Sound.cfsEnd (p : Nat) (h : Hub) (w_h : h.Sound) : (Hub.cfsEnd p h).Sound := by
  unfold Hub.cfsEnd
  repeat'
    first
    | intro _ | with_reducible assumption | with_reducible apply Hub.Sound.cfsOff | with_reducible apply Hub.Sound.wr
    | with_reducible apply Hub.Sound.ite | dsimp only | split

theorem Hub.Sound.setContract (p : Nat) (req : Nat) (h : Hub) (w_h : h.Sound) : (Hub.setContract p req h).Sound := by
  unfold Hub.setContract
  repeat'
    first
    | intro _ | with_reducible assumption | with_reducible apply Hub.Sound.contractLimit | with_reducible apply Hub.Sound.wr
    | with_reducible apply Hub.Sound.ite | dsimp only | split

theorem Hub.Sound.endContractExchange (p : Nat) (h : Hub) (w_h : h.Sound) : (Hub.endContractExchange p h).Sound := by
  unfold Hub.endContractExchange
  repeat'
    first
    | intro _ | with_reducible assumption | with_reducible apply Hub.Sound.wr | with_reducible apply Hub.Sound.endOwn
    | with_reducible apply Hub.Sound.endExchange | with_reducible apply Hub.Sound.ite | dsimp only | split

theorem Hub.Sound.dropHardReset (p : Nat) (cause : Nat) (h : Hub) (w_h : h.Sound) : (Hub.dropHardReset p cause h).Sound := by
  unfold Hub.dropHardReset
  repeat'
    first
    | intro _ | with_reducible assumption | with_reducible apply Hub.Sound.clear | with_reducible apply Hub.Sound.answerResult
    | with_reducible apply Hub.Sound.cfRecord | with_reducible apply Hub.Sound.ite | dsimp only | split

theorem Hub.Sound.offerUndelivered (p : Nat) (cause : Nat) (h : Hub) (w_h : h.Sound) : (Hub.offerUndelivered p cause h).Sound :=
    by
  unfold Hub.offerUndelivered
  repeat'
    first
    | intro _ | with_reducible assumption | with_reducible apply Hub.Sound.cfRecord | dsimp only | split

theorem Hub.Sound.cutMessages (p : Nat) (cause : Nat) (h : Hub) (w_h : h.Sound) : (Hub.cutMessages p cause h).Sound := by
  unfold Hub.cutMessages
  repeat'
    first
    | intro _ | simp only [Hub.Sound.of_mk] | with_reducible assumption | with_reducible apply Hub.Sound.txUndelivered
    | with_reducible apply Hub.Sound.withdraw | with_reducible apply Hub.Sound.undelivered
    | with_reducible apply Hub.Sound.offerUndelivered | with_reducible apply Hub.Sound.endExchange
    | with_reducible apply Hub.Sound.clear | with_reducible apply Hub.Sound.ite | dsimp only | split

theorem Hub.Sound.discardContract (p : Nat) (h : Hub) (w_h : h.Sound) : (Hub.discardContract p h).Sound := by
  unfold Hub.discardContract
  repeat'
    first
    | intro _ | with_reducible assumption | with_reducible apply Hub.Sound.contractLimit
    | with_reducible apply Hub.Sound.clear | dsimp only | split

theorem Hub.Sound.readyLost (p : Nat) (h : Hub) (w_h : h.Sound) : (Hub.readyLost p h).Sound := by
  unfold Hub.readyLost
  repeat'
    first
    | intro _ | with_reducible assumption | with_reducible apply Hub.Sound.answerResult | with_reducible apply Hub.Sound.ite
    | dsimp only | split

theorem Hub.Sound.recordAbort (p : Nat) (cause : Nat) (vbus : Nat) (h : Hub) (w_h : h.Sound) : (Hub.recordAbort p cause vbus
    h).Sound := by
  unfold Hub.recordAbort
  repeat'
    first
    | intro _ | with_reducible assumption | with_reducible apply Hub.Sound.cfRecord | with_reducible apply Hub.Sound.inc
    | with_reducible apply Hub.Sound.wr | with_reducible apply Hub.Sound.readyLost | dsimp only | split

theorem Hub.Sound.abortTransition (p : Nat) (cause : Nat) (vbus : Nat) (h : Hub) (w_h : h.Sound) : (Hub.abortTransition p cause vbus
    h).Sound := by
  unfold Hub.abortTransition
  repeat'
    first
    | intro _ | with_reducible assumption | with_reducible apply Hub.Sound.recordAbort | with_reducible apply Hub.Sound.ite
    | dsimp only | split

theorem Hub.Sound.contractStop (p : Nat) (cutCause : Nat) (h : Hub) (w_h : h.Sound) : (Hub.contractStop p cutCause h).Sound := by
  unfold Hub.contractStop
  repeat'
    first
    | intro _ | with_reducible assumption | with_reducible apply Hub.Sound.dropHardReset
    | with_reducible apply Hub.Sound.cutMessages | with_reducible apply Hub.Sound.stop
    | with_reducible apply Hub.Sound.discardContract | with_reducible apply Hub.Sound.abortTransition
    | with_reducible apply Hub.Sound.altReturn | with_reducible apply Hub.Sound.cfsEnd
    | with_reducible apply Hub.Sound.turnOff | with_reducible apply Hub.Sound.withdrawPowerOn
    | with_reducible apply Hub.Sound.contractState | with_reducible apply Hub.Sound.ite | dsimp only | split

theorem Hub.Sound.countTrip (p : Nat) (cause : Nat) (h : Hub) (w_h : h.Sound) : (Hub.countTrip p cause h).Sound := by
  unfold Hub.countTrip
  repeat'
    first
    | intro _ | with_reducible assumption | with_reducible apply Hub.Sound.inc | with_reducible apply Hub.Sound.ite
    | dsimp only | split

theorem Hub.Sound.joinCause (p : Nat) (cause : Nat) (h : Hub) (w_h : h.Sound) : (Hub.joinCause p cause h).Sound := by
  unfold Hub.joinCause
  repeat'
    first
    | intro _ | with_reducible assumption | with_reducible apply Hub.Sound.wr | with_reducible apply Hub.Sound.ite
    | dsimp only | split

theorem Hub.Sound.enterContract (p : Nat) (h : Hub) (w_h : h.Sound) : (Hub.enterContract p h).Sound := by
  unfold Hub.enterContract
  repeat'
    first
    | intro _ | with_reducible assumption | with_reducible apply Hub.Sound.clear
    | with_reducible apply Hub.Sound.endContractExchange | with_reducible apply Hub.Sound.contractState | dsimp only | split

theorem Hub.Sound.contractStart (p : Nat) (h : Hub) (w_h : h.Sound) : (Hub.contractStart p h).Sound := by
  unfold Hub.contractStart
  repeat'
    first
    | intro _ | with_reducible assumption | with_reducible apply Hub.Sound.contractState
    | with_reducible apply Hub.Sound.clear | with_reducible apply Hub.Sound.resetIds | dsimp only | split

theorem Hub.Sound.sendReady (p : Nat) (h : Hub) (w_h : h.Sound) : (Hub.sendReady p h).Sound := by
  unfold Hub.sendReady
  repeat'
    first
    | intro _ | with_reducible assumption | with_reducible apply Hub.Sound.sendCf | with_reducible apply Hub.Sound.ite
    | dsimp only | split

theorem Hub.Sound.startTransition (p : Nat) (req : Nat) (h : Hub) (w_h : h.Sound) : (Hub.startTransition p req h).Sound := by
  unfold Hub.startTransition
  repeat'
    first
    | intro _ | with_reducible assumption | with_reducible apply Hub.Sound.wr | with_reducible apply Hub.Sound.contractState
    | with_reducible apply Hub.Sound.cfsOn | with_reducible apply Hub.Sound.sendReady
    | with_reducible apply Hub.Sound.setContract | with_reducible apply Hub.Sound.turnOff
    | with_reducible apply Hub.Sound.withdrawPowerOn | with_reducible apply Hub.Sound.inc
    | with_reducible apply Hub.Sound.emit | with_reducible apply Hub.Sound.ite | dsimp only | split

theorem Hub.Sound.hardResetEffects (p : Nat) (cause : Nat) (h : Hub) (w_h : h.Sound) : (Hub.hardResetEffects p cause h).Sound :=
    by
  unfold Hub.hardResetEffects
  repeat'
    first
    | intro _ | with_reducible assumption | with_reducible apply Hub.Sound.wr | with_reducible apply Hub.Sound.resetIds
    | with_reducible apply Hub.Sound.cutMessages | with_reducible apply Hub.Sound.discardContract
    | with_reducible apply Hub.Sound.abortTransition | with_reducible apply Hub.Sound.clear
    | with_reducible apply Hub.Sound.cfsEnd | with_reducible apply Hub.Sound.withdrawPowerOn
    | with_reducible apply Hub.Sound.altReturn | with_reducible apply Hub.Sound.turnOff
    | with_reducible apply Hub.Sound.contractState | with_reducible apply Hub.Sound.arm | with_reducible apply Hub.Sound.ite
    | dsimp only | split

theorem Hub.Sound.sendHardReset (p : Nat) (cause : Nat) (ordered : Bool) (h : Hub) (w_h : h.Sound) : (Hub.sendHardReset p cause
    ordered h).Sound := by
  unfold Hub.sendHardReset
  repeat'
    first
    | intro _ | with_reducible assumption | with_reducible apply Hub.Sound.inc | with_reducible apply Hub.Sound.emit
    | with_reducible apply Hub.Sound.drive | with_reducible apply Hub.Sound.cfRecord
    | with_reducible apply Hub.Sound.hardResetEffects | with_reducible apply Hub.Sound.clear
    | with_reducible apply Hub.Sound.answerResult | with_reducible apply Hub.Sound.ite | dsimp only | split

theorem Hub.Sound.orderHardReset (p : Nat) (cause : Nat) (ordered : Bool) (busy : Bool) (h : Hub) (w_h : h.Sound) :
    (Hub.orderHardReset p cause ordered busy h).Sound := by
  unfold Hub.orderHardReset
  repeat'
    first
    | intro _ | with_reducible assumption | with_reducible apply Hub.Sound.wr | with_reducible apply Hub.Sound.sendHardReset
    | with_reducible apply Hub.Sound.ite | dsimp only | split

theorem Hub.Sound.trip (p : Nat) (cause : Nat) (peak : Nat) (busy : Bool) (h : Hub) (w_h : h.Sound) : (Hub.trip p cause peak busy
    h).Sound := by
  unfold Hub.trip
  repeat'
    first
    | intro _ | with_reducible assumption | with_reducible apply Hub.Sound.wr | with_reducible apply Hub.Sound.turnOff
    | with_reducible apply Hub.Sound.arm | with_reducible apply Hub.Sound.countTrip | with_reducible apply Hub.Sound.report
    | with_reducible apply Hub.Sound.discardContract | with_reducible apply Hub.Sound.abortTransition
    | with_reducible apply Hub.Sound.orderHardReset | with_reducible apply Hub.Sound.contractState
    | with_reducible apply Hub.Sound.endExchange | with_reducible apply Hub.Sound.joinCause
    | with_reducible apply Hub.Sound.ite | dsimp only | split

theorem Hub.Sound.flushHardReset (p : Nat) (h : Hub) (w_h : h.Sound) : (Hub.flushHardReset p h).Sound := by
  unfold Hub.flushHardReset
  repeat'
    first
    | intro _ | with_reducible assumption | with_reducible apply Hub.Sound.sendHardReset | with_reducible apply Hub.Sound.ite
    | dsimp only | split

theorem Hub.Sound.traceStart (p : Nat) (kind : Nat) (h : Hub) (w_h : h.Sound) : (Hub.traceStart p kind h).Sound := by
  unfold Hub.traceStart
  repeat'
    first
    | intro _ | with_reducible assumption | with_reducible apply Hub.Sound.wr | dsimp only | split

theorem Hub.Sound.tripTrace (p : Nat) (h : Hub) (w_h : h.Sound) : (Hub.tripTrace p h).Sound := by
  unfold Hub.tripTrace
  repeat'
    first
    | intro _ | with_reducible assumption | with_reducible apply Hub.Sound.traceStart | with_reducible apply Hub.Sound.wr
    | with_reducible apply Hub.Sound.ite | dsimp only | split

theorem Hub.Sound.probeAbort (p : Nat) (h : Hub) (w_h : h.Sound) : (Hub.probeAbort p h).Sound := by
  unfold Hub.probeAbort
  repeat'
    first
    | intro _ | with_reducible assumption | with_reducible apply Hub.Sound.emit | with_reducible apply Hub.Sound.wr
    | with_reducible apply Hub.Sound.spoil | with_reducible apply Hub.Sound.clear | with_reducible apply Hub.Sound.ite
    | dsimp only | split

theorem Hub.Sound.probeStart (p : Nat) (h : Hub) (w_h : h.Sound) : (Hub.probeStart p h).Sound := by
  unfold Hub.probeStart
  repeat'
    first
    | intro _ | with_reducible assumption | with_reducible apply Hub.Sound.arm | with_reducible apply Hub.Sound.wr
    | with_reducible apply Hub.Sound.clear | with_reducible apply Hub.Sound.withdrawPowerOn | dsimp only | split

theorem Hub.Sound.addMean (p : Nat) (sub : Nat) (v : Nat) (h : Hub) (w_h : h.Sound) : (Hub.addMean p sub v h).Sound := by
  unfold Hub.addMean
  repeat'
    first
    | intro _ | simp only [Hub.Sound.of_mk] | with_reducible assumption | with_reducible apply Hub.Sound.ite | dsimp only
    | split

theorem Hub.Sound.putRecord (x : LineRecord) (h : Hub) (w_h : h.Sound) : (Hub.putRecord x h).Sound := by
  unfold Hub.putRecord
  repeat'
    first
    | intro _ | simp only [Hub.Sound.of_mk] | with_reducible assumption | dsimp only | split

theorem Hub.Sound.shotLost (p : Nat) (h : Hub) (w_h : h.Sound) : (Hub.shotLost p h).Sound := by
  unfold Hub.shotLost
  repeat'
    first
    | intro _ | with_reducible assumption | with_reducible apply Hub.Sound.inc | with_reducible apply Hub.Sound.ite
    | dsimp only | split

theorem Hub.Sound.judgeLine (p : Nat) (h : Hub) (w_h : h.Sound) : (Hub.judgeLine p h).Sound := by
  unfold Hub.judgeLine
  repeat'
    first
    | intro _ | with_reducible assumption | with_reducible apply Hub.Sound.report | with_reducible apply Hub.Sound.wr
    | with_reducible apply Hub.Sound.ite | with_reducible refine Hub.Sound.pair (by assumption) ?_
    | with_reducible refine Hub.Sound.pair3 (by assumption) ?_ | with_reducible refine Hub.Sound.pair4 (by assumption) ?_
    | dsimp only | split

theorem Hub.Sound.rejudgeLine (p : Nat) (h : Hub) (w_h : h.Sound) : (Hub.rejudgeLine p h).Sound := by
  unfold Hub.rejudgeLine
  repeat'
    first
    | intro _ | with_reducible assumption | with_reducible apply Hub.Sound.judgeLine | with_reducible apply Hub.Sound.ite
    | dsimp only | split

theorem Hub.Sound.judgeTrace (p : Nat) (es : List Echo) (h : Hub) (w_h : h.Sound) : (Hub.judgeTrace p es h).Sound := by
  unfold Hub.judgeTrace
  repeat'
    first
    | intro _ | with_reducible assumption | with_reducible apply Hub.Sound.wr | with_reducible apply Hub.Sound.ite
    | with_reducible refine Hub.Sound.pair (by assumption) ?_ | with_reducible refine Hub.Sound.pair3 (by assumption) ?_
    | with_reducible refine Hub.Sound.pair4 (by assumption) ?_ | dsimp only | split

theorem Hub.Sound.monitorOff (p : Nat) (h : Hub) (w_h : h.Sound) : (Hub.monitorOff p h).Sound := by
  unfold Hub.monitorOff
  repeat'
    first
    | intro _ | with_reducible assumption | with_reducible apply Hub.Sound.wr | dsimp only | split

theorem Hub.Sound.traceStop (p : Nat) (h : Hub) (w_h : h.Sound) : (Hub.traceStop p h).Sound := by
  unfold Hub.traceStop
  repeat'
    first
    | intro _ | with_reducible assumption | with_reducible apply Hub.Sound.wr | with_reducible apply Hub.Sound.ite
    | dsimp only | split

theorem Hub.Sound.probeDone (p : Nat) (rv : Nat) (mv : Nat) (h : Hub) (w_h : h.Sound) : (Hub.probeDone p rv mv h).Sound := by
  unfold Hub.probeDone
  repeat'
    first
    | intro _ | with_reducible assumption | with_reducible apply Hub.Sound.emit | with_reducible apply Hub.Sound.wr
    | with_reducible apply Hub.Sound.spoil | with_reducible apply Hub.Sound.clear | with_reducible apply Hub.Sound.judgeLine
    | with_reducible apply Hub.Sound.inc | with_reducible apply Hub.Sound.add | with_reducible apply Hub.Sound.askPowerOn
    | with_reducible apply Hub.Sound.hubPowerUp | with_reducible apply Hub.Sound.arm | with_reducible apply Hub.Sound.ite
    | dsimp only | split

theorem Hub.Sound.countFlap (p : Nat) (h : Hub) (w_h : h.Sound) : (Hub.countFlap p h).Sound := by
  unfold Hub.countFlap
  repeat'
    first
    | intro _ | with_reducible assumption | with_reducible apply Hub.Sound.wr | with_reducible apply Hub.Sound.ite
    | dsimp only | split

theorem Hub.Sound.detachEffects (p : Nat) (cutCause : Nat) (h : Hub) (w_h : h.Sound) : (Hub.detachEffects p cutCause h).Sound :=
    by
  unfold Hub.detachEffects
  repeat'
    first
    | intro _ | with_reducible assumption | with_reducible apply Hub.Sound.wr | with_reducible apply Hub.Sound.hubDetach
    | with_reducible apply Hub.Sound.contractStop | with_reducible apply Hub.Sound.probeAbort | dsimp only | split

theorem Hub.Sound.attachClear (p : Nat) (h : Hub) (w_h : h.Sound) : (Hub.attachClear p h).Sound := by
  unfold Hub.attachClear
  repeat'
    first
    | intro _ | with_reducible assumption | with_reducible apply Hub.Sound.clear | dsimp only | split

theorem Hub.Sound.faultLock (p : Nat) (cause : Nat) (h : Hub) (w_h : h.Sound) : (Hub.faultLock p cause h).Sound := by
  unfold Hub.faultLock
  repeat'
    first
    | intro _ | with_reducible assumption | with_reducible apply Hub.Sound.detachEffects | with_reducible apply Hub.Sound.wr
    | with_reducible apply Hub.Sound.attachClear | with_reducible apply Hub.Sound.report | with_reducible apply Hub.Sound.ite
    | dsimp only | split

theorem Hub.Sound.togglePhase (p : Nat) (phase : Nat) (h : Hub) (w_h : h.Sound) : (Hub.togglePhase p phase h).Sound := by
  unfold Hub.togglePhase
  repeat'
    first
    | intro _ | with_reducible assumption | with_reducible apply Hub.Sound.fresh | with_reducible apply Hub.Sound.arm
    | with_reducible apply Hub.Sound.wr | with_reducible apply Hub.Sound.ite
    | with_reducible refine Hub.Sound.pair (by assumption) ?_ | with_reducible refine Hub.Sound.pair3 (by assumption) ?_
    | with_reducible refine Hub.Sound.pair4 (by assumption) ?_ | dsimp only | split

theorem Hub.Sound.enterUnattached (p : Nat) (h : Hub) (w_h : h.Sound) : (Hub.enterUnattached p h).Sound := by
  unfold Hub.enterUnattached
  repeat'
    first
    | intro _ | with_reducible assumption | with_reducible apply Hub.Sound.wr | with_reducible apply Hub.Sound.attachClear
    | with_reducible apply Hub.Sound.togglePhase | with_reducible apply Hub.Sound.ite | dsimp only | split

theorem Hub.Sound.detachNow (p : Nat) (h : Hub) (w_h : h.Sound) : (Hub.detachNow p h).Sound := by
  unfold Hub.detachNow
  repeat'
    first
    | intro _ | with_reducible assumption | with_reducible apply Hub.Sound.spoil | with_reducible apply Hub.Sound.countFlap
    | with_reducible apply Hub.Sound.detachEffects | with_reducible apply Hub.Sound.faultLock
    | with_reducible apply Hub.Sound.enterUnattached | with_reducible apply Hub.Sound.clear
    | with_reducible apply Hub.Sound.ite | dsimp only | split

theorem Hub.Sound.unlock (p : Nat) (h : Hub) (w_h : h.Sound) : (Hub.unlock p h).Sound := by
  unfold Hub.unlock
  repeat'
    first
    | intro _ | with_reducible assumption | with_reducible apply Hub.Sound.enterUnattached | with_reducible apply Hub.Sound.wr
    | dsimp only | split

theorem Hub.Sound.candidateFail (p : Nat) (h : Hub) (w_h : h.Sound) : (Hub.candidateFail p h).Sound := by
  unfold Hub.candidateFail
  repeat'
    first
    | intro _ | with_reducible assumption | with_reducible apply Hub.Sound.enterUnattached
    | with_reducible apply Hub.Sound.inc | with_reducible apply Hub.Sound.wr | with_reducible apply Hub.Sound.arm
    | with_reducible apply Hub.Sound.ite | dsimp only | split

theorem Hub.Sound.enterWaitSource (p : Nat) (h : Hub) (w_h : h.Sound) : (Hub.enterWaitSource p h).Sound := by
  unfold Hub.enterWaitSource
  repeat'
    first
    | intro _ | with_reducible assumption | with_reducible apply Hub.Sound.arm | with_reducible apply Hub.Sound.wr
    | with_reducible apply Hub.Sound.attachClear | dsimp only | split

theorem Hub.Sound.powerReachedOff (p : Nat) (h : Hub) (w_h : h.Sound) : (Hub.powerReachedOff p h).Sound := by
  unfold Hub.powerReachedOff
  repeat'
    first
    | intro _ | with_reducible assumption | with_reducible apply Hub.Sound.spoil | with_reducible apply Hub.Sound.wr
    | with_reducible apply Hub.Sound.refreshLimit | with_reducible apply Hub.Sound.powerResult
    | with_reducible apply Hub.Sound.detachNow | with_reducible apply Hub.Sound.arm | with_reducible apply Hub.Sound.ite
    | dsimp only | split

theorem Hub.Sound.attachCommon (p : Nat) (s : Nat) (h : Hub) (w_h : h.Sound) : (Hub.attachCommon p s h).Sound := by
  unfold Hub.attachCommon
  repeat'
    first
    | intro _ | with_reducible assumption | with_reducible apply Hub.Sound.contractStart | with_reducible apply Hub.Sound.inc
    | with_reducible apply Hub.Sound.wr | with_reducible apply Hub.Sound.attachClear | dsimp only | split

theorem Hub.Sound.attachSink (p : Nat) (h : Hub) (w_h : h.Sound) : (Hub.attachSink p h).Sound := by
  unfold Hub.attachSink
  repeat'
    first
    | intro _ | with_reducible assumption | with_reducible apply Hub.Sound.wr | with_reducible apply Hub.Sound.attachCommon
    | with_reducible apply Hub.Sound.applyPull | with_reducible apply Hub.Sound.ite | dsimp only | split

theorem Hub.Sound.attachSource (p : Nat) (h : Hub) (w_h : h.Sound) : (Hub.attachSource p h).Sound := by
  unfold Hub.attachSource
  repeat'
    first
    | intro _ | with_reducible assumption | with_reducible apply Hub.Sound.wr | with_reducible apply Hub.Sound.attachCommon
    | with_reducible apply Hub.Sound.probeStart | with_reducible apply Hub.Sound.arm | with_reducible apply Hub.Sound.cfsOn
    | with_reducible apply Hub.Sound.hubAttach | with_reducible apply Hub.Sound.ite | dsimp only | split

theorem Hub.Sound.restorePower (p : Nat) (h : Hub) (w_h : h.Sound) : (Hub.restorePower p h).Sound := by
  unfold Hub.restorePower
  repeat'
    first
    | intro _ | with_reducible assumption | with_reducible apply Hub.Sound.askPowerOn
    | with_reducible apply Hub.Sound.contractState | with_reducible apply Hub.Sound.arm | with_reducible apply Hub.Sound.ite
    | dsimp only | split

theorem Hub.Sound.setClasses (p : Nat) (a : Nat) (b : Nat) (h : Hub) (w_h : h.Sound) : (Hub.setClasses p a b h).Sound := by
  unfold Hub.setClasses
  repeat'
    first
    | intro _ | with_reducible assumption | with_reducible apply Hub.Sound.wr | dsimp only | split

theorem Hub.Sound.wires (p : Nat) (cf1 : Nat) (cf2 : Nat) (h : Hub) (w_h : h.Sound) : (Hub.wires p cf1 cf2 h).Sound := by
  unfold Hub.wires
  repeat'
    first
    | intro _ | with_reducible assumption | with_reducible apply Hub.Sound.wr | dsimp only | split

theorem Hub.Sound.enterWaitSink (p : Nat) (h : Hub) (w_h : h.Sound) : (Hub.enterWaitSink p h).Sound := by
  unfold Hub.enterWaitSink
  repeat'
    first
    | intro _ | with_reducible assumption | with_reducible apply Hub.Sound.arm | with_reducible apply Hub.Sound.wr
    | with_reducible apply Hub.Sound.attachClear | dsimp only | split

theorem Hub.Sound.sendAnswer (x : CfPending) (h : Hub) (w_h : h.Sound) : (Hub.sendAnswer x h).Sound := by
  unfold Hub.sendAnswer
  repeat'
    first
    | intro _ | simp only [Hub.Sound.of_mk] | with_reducible assumption | with_reducible apply Hub.Sound.wr
    | with_reducible apply Hub.Sound.applyHold | with_reducible apply Hub.Sound.contractState
    | with_reducible apply Hub.Sound.sendCf | with_reducible apply Hub.Sound.ite | dsimp only | split

theorem Hub.Sound.pumpAns (p : Nat) (busy : Bool) (h : Hub) (w_h : h.Sound) : (Hub.pumpAns p busy h).Sound := by
  unfold Hub.pumpAns
  repeat'
    first
    | intro _ | with_reducible assumption | with_reducible apply Hub.Sound.sendAnswer | with_reducible apply Hub.Sound.ite
    | dsimp only | split

theorem Hub.Sound.lostEffects (x : CfTx) (h : Hub) (w_h : h.Sound) : (Hub.lostEffects x h).Sound := by
  unfold Hub.lostEffects
  repeat'
    first
    | intro _ | with_reducible assumption | with_reducible apply Hub.Sound.endOwn | with_reducible apply Hub.Sound.toPrior
    | with_reducible apply Hub.Sound.endExchange | with_reducible apply Hub.Sound.endFar
    | with_reducible apply Hub.Sound.pumpAns | with_reducible apply Hub.Sound.enterContract
    | with_reducible apply Hub.Sound.answerResult | with_reducible apply Hub.Sound.wr | with_reducible apply Hub.Sound.ite
    | dsimp only | split

theorem Hub.Sound.lostMessage (x : CfTx) (h : Hub) (w_h : h.Sound) : (Hub.lostMessage x h).Sound := by
  unfold Hub.lostMessage
  repeat'
    first
    | intro _ | simp only [Hub.Sound.of_mk] | with_reducible assumption | with_reducible apply Hub.Sound.wr
    | with_reducible apply Hub.Sound.pumpAns | with_reducible apply Hub.Sound.lostEffects
    | with_reducible apply Hub.Sound.txUndelivered | with_reducible apply Hub.Sound.inc | dsimp only | split

theorem Hub.Sound.altEnter (p : Nat) (obj : Nat) (h : Hub) (w_h : h.Sound) : (Hub.altEnter p obj h).Sound := by
  unfold Hub.altEnter
  repeat'
    first
    | intro _ | with_reducible assumption | with_reducible apply Hub.Sound.hubAltEnter | with_reducible apply Hub.Sound.wr
    | with_reducible apply Hub.Sound.traceStop | dsimp only | split

theorem Hub.Sound.dropSwap (p : Nat) (h : Hub) (w_h : h.Sound) : (Hub.dropSwap p h).Sound := by
  unfold Hub.dropSwap
  repeat'
    first
    | intro _ | with_reducible assumption | with_reducible apply Hub.Sound.clear | dsimp only | split

theorem Hub.Sound.newAcked (p : Nat) (type : Nat) (h : Hub) (w_h : h.Sound) : (Hub.newAcked p type h).Sound := by
  unfold Hub.newAcked
  repeat'
    first
    | intro _ | with_reducible assumption | with_reducible apply Hub.Sound.arm | with_reducible apply Hub.Sound.contractState
    | with_reducible apply Hub.Sound.endOwn | with_reducible apply Hub.Sound.toPrior | with_reducible apply Hub.Sound.resetIds
    | with_reducible apply Hub.Sound.endFar | with_reducible apply Hub.Sound.dropSwap | with_reducible apply Hub.Sound.ite
    | dsimp only | split

theorem Hub.Sound.cancelSwap (p : Nat) (h : Hub) (w_h : h.Sound) : (Hub.cancelSwap p h).Sound := by
  unfold Hub.cancelSwap
  repeat'
    first
    | intro _ | simp only [Hub.Sound.of_mk] | with_reducible assumption | with_reducible apply Hub.Sound.answerResult
    | with_reducible apply Hub.Sound.cfRecord | with_reducible apply Hub.Sound.toPermit | with_reducible apply Hub.Sound.stop
    | with_reducible apply Hub.Sound.ite | dsimp only | split

theorem Hub.Sound.startSwap (p : Nat) (lead : Nat) (h : Hub) (w_h : h.Sound) : (Hub.startSwap p lead h).Sound := by
  unfold Hub.startSwap
  repeat'
    first
    | intro _ | with_reducible assumption | with_reducible apply Hub.Sound.arm | with_reducible apply Hub.Sound.cancelSwap
    | with_reducible apply Hub.Sound.wr | with_reducible apply Hub.Sound.cfsOn | with_reducible apply Hub.Sound.ite
    | dsimp only | split

theorem Hub.Sound.answerAcked (p : Nat) (type : Nat) (hd : Nat) (obj : Nat) (h : Hub) (w_h : h.Sound) : (Hub.answerAcked p type hd obj
    h).Sound := by
  unfold Hub.answerAcked
  repeat'
    first
    | intro _ | with_reducible assumption | with_reducible apply Hub.Sound.startTransition
    | with_reducible apply Hub.Sound.startSwap | with_reducible apply Hub.Sound.answerResult
    | with_reducible apply Hub.Sound.endFar | with_reducible apply Hub.Sound.altEnter
    | with_reducible apply Hub.Sound.altReturn | with_reducible apply Hub.Sound.endExchange
    | with_reducible apply Hub.Sound.toPrior | with_reducible apply Hub.Sound.arm | with_reducible apply Hub.Sound.ite
    | dsimp only | split

theorem Hub.Sound.dutyMoved (p : Nat) (h : Hub) (w_h : h.Sound) : (Hub.dutyMoved p h).Sound := by
  unfold Hub.dutyMoved
  repeat'
    first
    | intro _ | with_reducible assumption | with_reducible apply Hub.Sound.wr | with_reducible apply Hub.Sound.ite
    | dsimp only | split

theorem Hub.Sound.ackedEffects (x : CfTx) (h : Hub) (w_h : h.Sound) : (Hub.ackedEffects x h).Sound := by
  unfold Hub.ackedEffects
  repeat'
    first
    | intro _ | with_reducible assumption | with_reducible apply Hub.Sound.newAcked
    | with_reducible apply Hub.Sound.answerResult | with_reducible apply Hub.Sound.answerAcked
    | with_reducible apply Hub.Sound.endExchange | with_reducible apply Hub.Sound.toPrior
    | with_reducible apply Hub.Sound.pumpAns | with_reducible apply Hub.Sound.enterContract
    | with_reducible apply Hub.Sound.dutyMoved | dsimp only | split

theorem Hub.Sound.acked (x : CfTx) (h : Hub) (w_h : h.Sound) : (Hub.acked x h).Sound := by
  unfold Hub.acked
  repeat'
    first
    | intro _ | simp only [Hub.Sound.of_mk] | with_reducible assumption | with_reducible apply Hub.Sound.wr
    | with_reducible apply Hub.Sound.pumpAns | with_reducible apply Hub.Sound.ackedEffects
    | with_reducible apply Hub.Sound.cfRecordAt | with_reducible apply Hub.Sound.inc | dsimp only | split

theorem Hub.Sound.takeGoodAck (p : Nat) (header : Nat) (h : Hub) (w_h : h.Sound) : (Hub.takeGoodAck p header h).Sound := by
  unfold Hub.takeGoodAck
  repeat'
    first
    | intro _ | with_reducible assumption | with_reducible apply Hub.Sound.inc | with_reducible apply Hub.Sound.acked
    | with_reducible apply Hub.Sound.ite | dsimp only | split

theorem Hub.Sound.replaceAwait (p : Nat) (h : Hub) (w_h : h.Sound) : (Hub.replaceAwait p h).Sound := by
  unfold Hub.replaceAwait
  repeat'
    first
    | intro _ | simp only [Hub.Sound.of_mk] | with_reducible assumption | with_reducible apply Hub.Sound.answerResult
    | with_reducible apply Hub.Sound.withdraw | with_reducible apply Hub.Sound.clear | with_reducible apply Hub.Sound.toPrior
    | with_reducible apply Hub.Sound.ite | dsimp only | split

theorem Hub.Sound.await (p : Nat) (header : Nat) (objs : List Nat) (h : Hub) (w_h : h.Sound) : (Hub.await p header objs h).Sound :=
    by
  unfold Hub.await
  repeat'
    first
    | intro _ | simp only [Hub.Sound.of_mk] | with_reducible assumption | with_reducible apply Hub.Sound.arm | dsimp only
    | split

theorem Hub.Sound.asWait (p : Nat) (type : Nat) (h : Hub) (w_h : h.Sound) : (Hub.asWait p type h).Sound := by
  unfold Hub.asWait
  repeat'
    first
    | intro _ | with_reducible assumption | with_reducible apply Hub.Sound.arm | with_reducible apply Hub.Sound.toPrior
    | with_reducible apply Hub.Sound.ite | dsimp only | split

theorem Hub.Sound.takeAnswer (p : Nat) (own : Nat) (type : Nat) (objs : List Nat) (h : Hub) (w_h : h.Sound) : (Hub.takeAnswer p own
    type objs h).Sound := by
  unfold Hub.takeAnswer
  repeat'
    first
    | intro _ | with_reducible assumption | with_reducible apply Hub.Sound.wr | with_reducible apply Hub.Sound.endOwn
    | with_reducible apply Hub.Sound.startSwap | with_reducible apply Hub.Sound.asWait
    | with_reducible apply Hub.Sound.altEnter | with_reducible apply Hub.Sound.altReturn | with_reducible apply Hub.Sound.arm
    | with_reducible apply Hub.Sound.contractState | with_reducible apply Hub.Sound.toPrior
    | with_reducible apply Hub.Sound.ite | dsimp only | split

theorem Hub.Sound.sinkContract (p : Nat) (ready : Nat) (h : Hub) (w_h : h.Sound) : (Hub.sinkContract p ready h).Sound := by
  unfold Hub.sinkContract
  repeat'
    first
    | intro _ | with_reducible assumption | with_reducible apply Hub.Sound.wr | with_reducible apply Hub.Sound.endExchange
    | with_reducible apply Hub.Sound.contractState | with_reducible apply Hub.Sound.ite | dsimp only | split

theorem Hub.Sound.beginExchange (p : Nat) (type : Nat) (dest : Nat) (objs : List Nat) (why : TxWhy) (h : Hub) (w_h : h.Sound) :
    (Hub.beginExchange p type dest objs why h).Sound := by
  unfold Hub.beginExchange
  repeat'
    first
    | intro _ | with_reducible assumption | with_reducible apply Hub.Sound.wr | with_reducible apply Hub.Sound.sendCf
    | with_reducible apply Hub.Sound.contractState | with_reducible apply Hub.Sound.ite | dsimp only | split

theorem Hub.Sound.startNew (x : CfPending) (h : Hub) (w_h : h.Sound) : (Hub.startNew x h).Sound := by
  unfold Hub.startNew
  repeat'
    first
    | intro _ | simp only [Hub.Sound.of_mk] | with_reducible assumption | with_reducible apply Hub.Sound.beginExchange
    | dsimp only | split

theorem Hub.Sound.softReset (p : Nat) (header : Nat) (objs : List Nat) (h : Hub) (w_h : h.Sound) : (Hub.softReset p header objs
    h).Sound := by
  unfold Hub.softReset
  repeat'
    first
    | intro _ | simp only [Hub.Sound.of_mk] | with_reducible assumption | with_reducible apply Hub.Sound.await
    | with_reducible apply Hub.Sound.replaceAwait | with_reducible apply Hub.Sound.wr
    | with_reducible apply Hub.Sound.txUndelivered | with_reducible apply Hub.Sound.withdraw
    | with_reducible apply Hub.Sound.undelivered | with_reducible apply Hub.Sound.toPrior
    | with_reducible apply Hub.Sound.endExchange | with_reducible apply Hub.Sound.dropSwap
    | with_reducible apply Hub.Sound.ite | dsimp only | split

theorem Hub.Sound.awaitFar (p : Nat) (header : Nat) (objs : List Nat) (h : Hub) (w_h : h.Sound) : (Hub.awaitFar p header objs
    h).Sound := by
  unfold Hub.awaitFar
  repeat'
    first
    | intro _ | with_reducible assumption | with_reducible apply Hub.Sound.await | with_reducible apply Hub.Sound.wr
    | dsimp only | split

theorem Hub.Sound.capsIn (p : Nat) (header : Nat) (objs : List Nat) (h : Hub) (w_h : h.Sound) : (Hub.capsIn p header objs h).Sound
    := by
  unfold Hub.capsIn
  repeat'
    first
    | intro _ | with_reducible assumption | with_reducible apply Hub.Sound.replaceAwait | with_reducible apply Hub.Sound.wr
    | with_reducible apply Hub.Sound.contractState | with_reducible apply Hub.Sound.awaitFar
    | with_reducible apply Hub.Sound.ite | dsimp only | split

theorem Hub.Sound.requestIn (p : Nat) (header : Nat) (objs : List Nat) (h : Hub) (w_h : h.Sound) : (Hub.requestIn p header objs
    h).Sound := by
  unfold Hub.requestIn
  repeat'
    first
    | intro _ | with_reducible assumption | with_reducible apply Hub.Sound.wr | with_reducible apply Hub.Sound.replaceAwait
    | with_reducible apply Hub.Sound.contractState | with_reducible apply Hub.Sound.await
    | with_reducible apply Hub.Sound.awaitFar | with_reducible apply Hub.Sound.ite | dsimp only | split

theorem Hub.Sound.swapReady (p : Nat) (h : Hub) (w_h : h.Sound) : (Hub.swapReady p h).Sound := by
  unfold Hub.swapReady
  repeat'
    first
    | intro _ | with_reducible assumption | with_reducible apply Hub.Sound.endExchange
    | with_reducible apply Hub.Sound.dutyMoved | with_reducible apply Hub.Sound.wr | with_reducible apply Hub.Sound.cfsOff
    | with_reducible apply Hub.Sound.ite | dsimp only | split

theorem Hub.Sound.deliverType (p : Nat) (header : Nat) (objs : List Nat) (h : Hub) (w_h : h.Sound) : (Hub.deliverType p header objs
    h).Sound := by
  unfold Hub.deliverType
  repeat'
    first
    | intro _ | with_reducible assumption | with_reducible apply Hub.Sound.softReset
    | with_reducible apply Hub.Sound.takeAnswer | with_reducible apply Hub.Sound.capsIn
    | with_reducible apply Hub.Sound.requestIn | with_reducible apply Hub.Sound.wr | with_reducible apply Hub.Sound.swapReady
    | with_reducible apply Hub.Sound.sinkContract | with_reducible apply Hub.Sound.awaitFar
    | with_reducible apply Hub.Sound.replaceAwait | with_reducible apply Hub.Sound.ite | dsimp only | split

theorem Hub.Sound.missed (p : Nat) (a : CfAwait) (h : Hub) (w_h : h.Sound) : (Hub.missed p a h).Sound := by
  unfold Hub.missed
  repeat'
    first
    | intro _ | with_reducible assumption | with_reducible apply Hub.Sound.wr | with_reducible apply Hub.Sound.toPrior
    | with_reducible apply Hub.Sound.endExchange | with_reducible apply Hub.Sound.endFar | with_reducible apply Hub.Sound.ite
    | dsimp only | split

theorem Hub.Sound.heldReplaced (p : Nat) (h : Hub) (w_h : h.Sound) : (Hub.heldReplaced p h).Sound := by
  unfold Hub.heldReplaced
  repeat'
    first
    | intro _ | with_reducible assumption | with_reducible apply Hub.Sound.missed | with_reducible apply Hub.Sound.ite
    | dsimp only | split

theorem Hub.Sound.deliver (p : Nat) (header : Nat) (objs : List Nat) (h : Hub) (w_h : h.Sound) : (Hub.deliver p header objs h).Sound
    := by
  unfold Hub.deliver
  repeat'
    first
    | intro _ | with_reducible assumption | with_reducible apply Hub.Sound.cfRecord | with_reducible apply Hub.Sound.inc
    | with_reducible apply Hub.Sound.deliverType | with_reducible apply Hub.Sound.cfReceived
    | with_reducible apply Hub.Sound.heldReplaced | with_reducible apply Hub.Sound.ite | dsimp only | split

theorem Hub.Sound.acceptCf (p : Nat) (header : Nat) (objs : List Nat) (h : Hub) (w_h : h.Sound) : (Hub.acceptCf p header objs
    h).Sound := by
  unfold Hub.acceptCf
  repeat'
    first
    | intro _ | with_reducible assumption | with_reducible apply Hub.Sound.resetIds | with_reducible apply Hub.Sound.wr
    | with_reducible apply Hub.Sound.inc | with_reducible apply Hub.Sound.deliver | with_reducible apply Hub.Sound.goodAck
    | with_reducible apply Hub.Sound.ite | dsimp only | split

theorem Hub.Sound.receiveCf (p : Nat) (header : Nat) (objs : List Nat) (crc : Nat) (pre : Nat) (h : Hub) (w_h : h.Sound) :
    (Hub.receiveCf p header objs crc pre h).Sound := by
  unfold Hub.receiveCf
  repeat'
    first
    | intro _ | with_reducible assumption | with_reducible apply Hub.Sound.inc | with_reducible apply Hub.Sound.takeGoodAck
    | with_reducible apply Hub.Sound.goodAck | with_reducible apply Hub.Sound.acceptCf | with_reducible apply Hub.Sound.ite
    | dsimp only | split

theorem Hub.Sound.queueAnswer (x : CfPending) (busy : Bool) (h : Hub) (w_h : h.Sound) : (Hub.queueAnswer x busy h).Sound := by
  unfold Hub.queueAnswer
  repeat'
    first
    | intro _ | simp only [Hub.Sound.of_mk] | with_reducible assumption | with_reducible apply Hub.Sound.pumpAns
    | with_reducible apply Hub.Sound.answerResult | dsimp only | split

end Sys2Proof.Machine
end

