-- ==== Sys2Proof/Laws/SoundBlocks.lean ====
section
/-!
SUPPORT. Sys2Proof/Laws/SoundBlocks.lean: a sound hub stays sound under the operations of the contract layer, of attach, of the domains, of Garnet and of start-up: one lemma for each, in the order
in which they call one another.
-/
set_option linter.unusedTactic false
set_option linter.unreachableTactic false
set_option linter.unusedVariables false

namespace Sys2Proof.Machine

theorem Hub.Sound.sendFallback (x : CfPending) (h : Hub) (w_h : h.Sound) : (Hub.sendFallback x h).Sound := by
  unfold Hub.sendFallback
  repeat'
    first
    | intro _ | simp only [Hub.Sound.of_mk] | with_reducible assumption | with_reducible apply Hub.Sound.queueAnswer
    | with_reducible apply Hub.Sound.wr | dsimp only | split

theorem Hub.Sound.deadlinePassed (p : Nat) (h : Hub) (w_h : h.Sound) : (Hub.deadlinePassed p h).Sound := by
  unfold Hub.deadlinePassed
  repeat'
    first
    | intro _ | simp only [Hub.Sound.of_mk] | with_reducible assumption | with_reducible apply Hub.Sound.inc
    | with_reducible apply Hub.Sound.sendFallback | with_reducible apply Hub.Sound.withdraw
    | with_reducible apply Hub.Sound.missed | with_reducible apply Hub.Sound.answerResult | with_reducible apply Hub.Sound.ite
    | dsimp only | split

theorem Hub.Sound.heldExpired (p : Nat) (h : Hub) (w_h : h.Sound) : (Hub.heldExpired p h).Sound := by
  unfold Hub.heldExpired
  repeat'
    first
    | intro _ | simp only [Hub.Sound.of_mk] | with_reducible assumption | with_reducible apply Hub.Sound.wr
    | with_reducible apply Hub.Sound.inc | with_reducible refine Hub.Sound.pair (by assumption) ?_
    | with_reducible refine Hub.Sound.pair3 (by assumption) ?_ | with_reducible refine Hub.Sound.pair4 (by assumption) ?_
    | dsimp only | split

theorem Hub.Sound.deadlines (p : Nat) (h : Hub) (w_h : h.Sound) : (Hub.deadlines p h).Sound := by
  unfold Hub.deadlines
  repeat'
    first
    | intro _ | with_reducible assumption | with_reducible apply Hub.Sound.expire
    | with_reducible apply Hub.Sound.deadlinePassed | with_reducible apply Hub.Sound.heldExpired | dsimp only | split

theorem Hub.Sound.pathUp (h : Hub) (w_h : h.Sound) : (Hub.pathUp h).Sound := by
  unfold Hub.pathUp
  repeat'
    first
    | intro _ | simp only [Hub.Sound.of_mk] | with_reducible assumption | with_reducible apply Hub.Sound.deadlines
    | with_reducible apply Hub.Sound.wr | with_reducible apply Hub.Sound.emit | with_reducible apply Hub.Sound.pumpManager
    | with_reducible apply Hub.Sound.ite | with_reducible apply Hub.Sound.foldl
    | with_reducible refine Hub.Sound.pair (by assumption) ?_ | with_reducible refine Hub.Sound.pair3 (by assumption) ?_
    | with_reducible refine Hub.Sound.pair4 (by assumption) ?_ | dsimp only | split

theorem Hub.Sound.startOffer (p : Nat) (h : Hub) (w_h : h.Sound) : (Hub.startOffer p h).Sound := by
  unfold Hub.startOffer
  repeat'
    first
    | intro _ | with_reducible assumption | with_reducible apply Hub.Sound.beginExchange | with_reducible apply Hub.Sound.wr
    | dsimp only | split

theorem Hub.Sound.acceptRequest (x : CfPending) (req : Nat) (busy : Bool) (h : Hub) (w_h : h.Sound) : (Hub.acceptRequest x req
    busy h).Sound := by
  unfold Hub.acceptRequest
  repeat'
    first
    | intro _ | with_reducible assumption | with_reducible apply Hub.Sound.answerResult
    | with_reducible apply Hub.Sound.queueAnswer | with_reducible apply Hub.Sound.askBudget
    | with_reducible apply Hub.Sound.sendFallback | with_reducible apply Hub.Sound.ite
    | with_reducible refine Hub.Sound.pair (by assumption) ?_ | with_reducible refine Hub.Sound.pair3 (by assumption) ?_
    | with_reducible refine Hub.Sound.pair4 (by assumption) ?_ | dsimp only | split

theorem Hub.Sound.startPending (p : Nat) (busy : Bool) (permit : Bool) (h : Hub) (w_h : h.Sound) : (Hub.startPending p busy
    permit h).Sound := by
  unfold Hub.startPending
  repeat'
    first
    | intro _ | with_reducible assumption | with_reducible apply Hub.Sound.arm | with_reducible apply Hub.Sound.applyHold
    | with_reducible apply Hub.Sound.startNew | with_reducible apply Hub.Sound.wr | with_reducible apply Hub.Sound.ite
    | dsimp only | split

theorem Hub.Sound.tryStartNew (p : Nat) (busy : Bool) (h : Hub) (w_h : h.Sound) : (Hub.tryStartNew p busy h).Sound := by
  unfold Hub.tryStartNew
  repeat'
    first
    | intro _ | with_reducible assumption | with_reducible apply Hub.Sound.startPending | dsimp only | split

theorem Hub.Sound.newExchange (p : Nat) (type : Nat) (dest : Nat) (objs : List Nat) (busy : Bool) (h : Hub) (w_h : h.Sound) :
    (Hub.newExchange p type dest objs busy h).Sound := by
  unfold Hub.newExchange
  repeat'
    first
    | intro _ | simp only [Hub.Sound.of_mk] | with_reducible assumption | with_reducible apply Hub.Sound.answerResult
    | with_reducible apply Hub.Sound.tryStartNew | with_reducible apply Hub.Sound.ite | dsimp only | split

theorem Hub.Sound.answerAwaited (p : Nat) (type : Nat) (ref : Nat) (fallback : Nat) (objs : List Nat) (busy : Bool) (h : Hub) (w_h :
    h.Sound) : (Hub.answerAwaited p type ref fallback objs busy h).Sound := by
  unfold Hub.answerAwaited
  repeat'
    first
    | intro _ | with_reducible assumption | with_reducible apply Hub.Sound.answerResult
    | with_reducible apply Hub.Sound.acceptRequest | with_reducible apply Hub.Sound.queueAnswer
    | with_reducible apply Hub.Sound.ite | dsimp only | split

theorem Hub.Sound.answerWrite (p : Nat) (type : Nat) (ref : Nat) (fallback : Nat) (objs : List Nat) (busy : Bool) (h : Hub) (w_h :
    h.Sound) : (Hub.answerWrite p type ref fallback objs busy h).Sound := by
  unfold Hub.answerWrite
  repeat'
    first
    | intro _ | with_reducible assumption | with_reducible apply Hub.Sound.answerAwaited
    | with_reducible apply Hub.Sound.expire | with_reducible apply Hub.Sound.deadlinePassed | dsimp only | split

theorem Hub.Sound.moveReleased (p : Nat) (h : Hub) (w_h : h.Sound) : (Hub.moveReleased p h).Sound := by
  unfold Hub.moveReleased
  repeat'
    first
    | intro _ | simp only [Hub.Sound.of_mk] | with_reducible assumption | with_reducible apply Hub.Sound.sendFallback
    | with_reducible apply Hub.Sound.pumpAns | with_reducible apply Hub.Sound.ite | dsimp only | split

theorem Hub.Sound.moveRefused (p : Nat) (h : Hub) (w_h : h.Sound) : (Hub.moveRefused p h).Sound := by
  unfold Hub.moveRefused
  repeat'
    first
    | intro _ | with_reducible assumption | with_reducible apply Hub.Sound.sendFallback | dsimp only | split

theorem Hub.Sound.beginGroup (ref : Nat) (source : Nat) (pairs : List (Nat × Nat)) (barred : List Nat) (fault : Option (Nat × Nat × Nat)) (h :
    Hub) (w_h : h.Sound) : (Hub.beginGroup ref source pairs barred fault h).Sound := by
  unfold Hub.beginGroup
  repeat'
    first
    | intro _ | simp only [Hub.Sound.of_mk] | with_reducible assumption | with_reducible apply Hub.Sound.inc
    | with_reducible apply Hub.Sound.wr | with_reducible refine Hub.Sound.pair (by assumption) ?_
    | with_reducible refine Hub.Sound.pair3 (by assumption) ?_ | with_reducible refine Hub.Sound.pair4 (by assumption) ?_
    | dsimp only | split

theorem Hub.Sound.nextGroup (h : Hub) (w_h : h.Sound) : (Hub.nextGroup h).Sound := by
  unfold Hub.nextGroup
  repeat'
    first
    | intro _ | simp only [Hub.Sound.of_mk] | with_reducible assumption | with_reducible apply Hub.Sound.beginGroup
    | with_reducible apply Hub.Sound.wr | with_reducible apply Hub.Sound.inc | with_reducible apply Hub.Sound.ite
    | with_reducible refine Hub.Sound.pair (by assumption) ?_ | with_reducible refine Hub.Sound.pair3 (by assumption) ?_
    | with_reducible refine Hub.Sound.pair4 (by assumption) ?_ | dsimp only | split

theorem Hub.Sound.fwLoad (warm : Bool) (h : Hub) (w_h : h.Sound) : (Hub.fwLoad warm h).Sound := by
  unfold Hub.fwLoad
  repeat'
    first
    | intro _ | with_reducible assumption | with_reducible apply Hub.Sound.wr | with_reducible apply Hub.Sound.ite
    | dsimp only | split

theorem Hub.Sound.heldFlint (g : GroupCmd) (h : Hub) (w_h : h.Sound) : (Hub.heldFlint g h).Sound := by
  unfold Hub.heldFlint
  repeat'
    first
    | intro _ | with_reducible assumption | with_reducible apply Hub.Sound.fwLoad | with_reducible apply Hub.Sound.ite
    | with_reducible refine Hub.Sound.pair (by assumption) ?_ | with_reducible refine Hub.Sound.pair3 (by assumption) ?_
    | with_reducible refine Hub.Sound.pair4 (by assumption) ?_ | dsimp only | split

theorem Hub.Sound.flintLost (h : Hub) (w_h : h.Sound) : (Hub.flintLost h).Sound := by
  unfold Hub.flintLost
  repeat'
    first
    | intro _ | simp only [Hub.Sound.of_mk] | with_reducible assumption | with_reducible apply Hub.Sound.clear
    | with_reducible apply Hub.Sound.wr | with_reducible refine Hub.Sound.pair (by assumption) ?_
    | with_reducible refine Hub.Sound.pair3 (by assumption) ?_ | with_reducible refine Hub.Sound.pair4 (by assumption) ?_
    | dsimp only | split

theorem Hub.Sound.wipeIndex (idx : Nat) (h : Hub) (w_h : h.Sound) : (Hub.wipeIndex idx h).Sound := by
  unfold Hub.wipeIndex
  repeat'
    first
    | intro _ | with_reducible assumption | with_reducible apply Hub.Sound.wipe | dsimp only | split

theorem Hub.Sound.domainLost (d : Nat) (h : Hub) (w_h : h.Sound) : (Hub.domainLost d h).Sound := by
  have w2 : ({ h with ring := [] } : Hub).Sound := w_h.noRing
  have w12 : ({ h with rxq0 := [], rxq1 := [], evq := [], txq := [], odReq := none, odResp := none } : Hub).Sound := by
    have := Hub.Sound.noEvq w_h
    exact this.congr rfl rfl rfl rfl rfl rfl
  unfold Hub.domainLost
  split
  · exact Hub.Sound.flintLost _ w_h
  · exact ((Hub.Sound.wipeIndex _ _ ((w2.wipe _ _).wipe _ _)).wipe _ _).clear _
  · have w5 : (List.foldl (fun (x : Hub) p => x.wipeIndex (0x2060 + 0x100 * p)) h (List.range 16)).Sound :=
      w_h.foldl (fun _ _ w => Hub.Sound.wipeIndex _ _ w)
    exact ((Hub.Sound.of_mk.2 w5).wipe _ _).wipe _ _
  · exact ((Hub.Sound.wipeIndex _ _ (Hub.Sound.wipeIndex _ _ (Hub.Sound.linkDown _ _ (Hub.Sound.linkDown _ _ w_h)))).wr _ _).wr _ _
  · have w11 : ((({ h with sessionKeys := [], keyx := [] } : Hub).wipe (Od.key 0x7020 0x11) (Od.key 0x7020 0x19)).clear
        [Reg.deriving]).Sound := ((Hub.Sound.of_mk.2 w_h).wipe _ _).clear _
    dsimp only
    split
    · exact w11.wr _ _
    · exact w11
  · exact ((Hub.Sound.add _ _ _ _ w12).wr _ _).clear _
  · split
    · exact w_h.foldl (fun _ _ w => Hub.Sound.wipeIndex _ _ (Hub.Sound.linkDown _ _ w))
    · exact w_h

theorem Hub.Sound.armedTrigger (b : Nat) (h : Hub) (w_h : h.Sound) : (Hub.armedTrigger b h).Sound := by
  unfold Hub.armedTrigger
  repeat'
    first
    | intro _ | with_reducible assumption | with_reducible apply Hub.Sound.beginGroup | with_reducible apply Hub.Sound.inc
    | with_reducible apply Hub.Sound.wr | with_reducible apply Hub.Sound.ite
    | with_reducible refine Hub.Sound.pair (by assumption) ?_ | with_reducible refine Hub.Sound.pair3 (by assumption) ?_
    | with_reducible refine Hub.Sound.pair4 (by assumption) ?_ | dsimp only | split

theorem Hub.Sound.domainLeaves (d : Nat) (h : Hub) (w_h : h.Sound) : (Hub.domainLeaves d h).Sound := by
  unfold Hub.domainLeaves
  repeat'
    first
    | intro _ | simp only [Hub.Sound.of_mk] | with_reducible assumption | with_reducible apply Hub.Sound.wr
    | with_reducible apply Hub.Sound.dropEgress | with_reducible apply Hub.Sound.traceStop
    | with_reducible apply Hub.Sound.altReturn | with_reducible apply Hub.Sound.ite | with_reducible apply Hub.Sound.foldl
    | with_reducible refine Hub.Sound.pair (by assumption) ?_ | with_reducible refine Hub.Sound.pair3 (by assumption) ?_
    | with_reducible refine Hub.Sound.pair4 (by assumption) ?_ | dsimp only | split

theorem Hub.Sound.renew (k : Nat) (n : Nat) (h : Hub) (w_h : h.Sound) : (Hub.renew k n h).Sound := by
  unfold Hub.renew
  repeat'
    first
    | intro _ | with_reducible assumption | with_reducible apply Hub.Sound.fresh | with_reducible apply Hub.Sound.wr
    | with_reducible refine Hub.Sound.pair (by assumption) ?_ | with_reducible refine Hub.Sound.pair3 (by assumption) ?_
    | with_reducible refine Hub.Sound.pair4 (by assumption) ?_ | dsimp only | split

theorem Hub.Sound.securityUp (h : Hub) (w_h : h.Sound) : (Hub.securityUp h).Sound := by
  unfold Hub.securityUp
  repeat'
    first
    | intro _ | with_reducible assumption | with_reducible apply Hub.Sound.wr | with_reducible apply Hub.Sound.renew
    | with_reducible apply Hub.Sound.fresh | with_reducible apply Hub.Sound.arm
    | with_reducible refine Hub.Sound.pair (by assumption) ?_ | with_reducible refine Hub.Sound.pair3 (by assumption) ?_
    | with_reducible refine Hub.Sound.pair4 (by assumption) ?_ | dsimp only | split

theorem Hub.Sound.applyBankMap (h : Hub) (w_h : h.Sound) : (Hub.applyBankMap h).Sound := by
  unfold Hub.applyBankMap
  repeat'
    first
    | intro _ | with_reducible assumption | with_reducible apply Hub.Sound.wr | with_reducible apply Hub.Sound.ite
    | with_reducible apply Hub.Sound.foldl | with_reducible refine Hub.Sound.pair (by assumption) ?_
    | with_reducible refine Hub.Sound.pair3 (by assumption) ?_ | with_reducible refine Hub.Sound.pair4 (by assumption) ?_
    | dsimp only | split

theorem Hub.Sound.domainUp (d : Nat) (cold : Bool) (h : Hub) (w_h : h.Sound) : (Hub.domainUp d cold h).Sound := by
  unfold Hub.domainUp
  repeat'
    first
    | intro _ | with_reducible assumption | with_reducible apply Hub.Sound.wr | with_reducible apply Hub.Sound.securityUp
    | with_reducible apply Hub.Sound.pumpEvq | with_reducible apply Hub.Sound.advanceCredit
    | with_reducible apply Hub.Sound.pumpTxq | with_reducible apply Hub.Sound.applyBankMap
    | with_reducible apply Hub.Sound.tripTrace | with_reducible apply Hub.Sound.enterDisconnected
    | with_reducible apply Hub.Sound.arm | with_reducible apply Hub.Sound.linkTo | with_reducible apply Hub.Sound.ite
    | with_reducible apply Hub.Sound.foldl | dsimp only | split

theorem Hub.Sound.setDom (d : Nat) (st : Nat) (src : Nat) (count : Bool) (h : Hub) (w_h : h.Sound) : (Hub.setDom d st src count
    h).Sound := by
  unfold Hub.setDom
  repeat'
    first
    | intro _ | with_reducible assumption | with_reducible apply Hub.Sound.wr | with_reducible apply Hub.Sound.ite
    | dsimp only | split

theorem Hub.Sound.enterOn (d : Nat) (src : Nat) (h : Hub) (w_h : h.Sound) : (Hub.enterOn d src h).Sound := by
  unfold Hub.enterOn
  repeat'
    first
    | intro _ | with_reducible assumption | with_reducible apply Hub.Sound.domainUp | with_reducible apply Hub.Sound.wr
    | with_reducible apply Hub.Sound.setDom | dsimp only | split

theorem Hub.Sound.enterOff (d : Nat) (src : Nat) (h : Hub) (w_h : h.Sound) : (Hub.enterOff d src h).Sound := by
  unfold Hub.enterOff
  repeat'
    first
    | intro _ | with_reducible assumption | with_reducible apply Hub.Sound.domainLost | with_reducible apply Hub.Sound.wr
    | with_reducible apply Hub.Sound.setDom | dsimp only | split

theorem Hub.Sound.gate400 (h : Hub) (w_h : h.Sound) : (Hub.gate400 h).Sound := by
  unfold Hub.gate400
  repeat'
    first
    | intro _ | with_reducible assumption | with_reducible apply Hub.Sound.wrBit | dsimp only | split

theorem Hub.Sound.stopClocks (h : Hub) (w_h : h.Sound) : (Hub.stopClocks h).Sound := by
  unfold Hub.stopClocks
  repeat'
    first
    | intro _ | with_reducible assumption | with_reducible apply Hub.Sound.gate400 | with_reducible apply Hub.Sound.wr
    | with_reducible apply Hub.Sound.ite | dsimp only | split

theorem Hub.Sound.raiseToL4 (x : Nat × Nat × Nat) (h : Hub) (w_h : h.Sound) : (Hub.raiseToL4 x h).Sound := by
  have w1 : ({ h with
      log := h.log.map (fun r : LogRec => if r.seq == x.1 then { r with applied := max r.applied 4 } else r)
      unacked := h.unacked.map (fun u : Unacked => if u.seq == x.1 then { u with level := max u.level 4 } else u)
      reactions := h.reactions ++ [⟨x.1, 0, 4, 0⟩] } : Hub).Sound :=
    ⟨w_h.cells, w_h.clock, by simpa using w_h.log, w_h.ring, w_h.evq, w_h.shadows⟩
  unfold Hub.raiseToL4
  dsimp only
  split
  · exact Hub.Sound.openShadow _ _ w1
  · exact w1

theorem Hub.Sound.armedResume (g : GroupCmd) (h : Hub) (w_h : h.Sound) : (Hub.armedResume g h).Sound := by
  unfold Hub.armedResume
  repeat'
    first
    | intro _ | with_reducible assumption | with_reducible apply Hub.Sound.resumeForUpstream
    | with_reducible apply Hub.Sound.ite | dsimp only | split

theorem Hub.Sound.endGroup (g : GroupCmd) (h : Hub) (w_h : h.Sound) : (Hub.endGroup g h).Sound := by
  unfold Hub.endGroup
  repeat'
    first
    | intro _ | simp only [Hub.Sound.of_mk] | with_reducible assumption | with_reducible apply Hub.Sound.enterOn
    | with_reducible apply Hub.Sound.enterOff | with_reducible apply Hub.Sound.setDom
    | with_reducible apply Hub.Sound.stopClocks | with_reducible apply Hub.Sound.clear
    | with_reducible apply Hub.Sound.sendDomainRecord | with_reducible apply Hub.Sound.wr | with_reducible apply Hub.Sound.inc
    | with_reducible apply Hub.Sound.raiseToL4 | with_reducible apply Hub.Sound.nextGroup
    | with_reducible apply Hub.Sound.armedResume | with_reducible apply Hub.Sound.refreshHalts
    | with_reducible apply Hub.Sound.ite | with_reducible apply Hub.Sound.foldl
    | with_reducible refine Hub.Sound.pair (by assumption) ?_ | with_reducible refine Hub.Sound.pair3 (by assumption) ?_
    | with_reducible refine Hub.Sound.pair4 (by assumption) ?_ | dsimp only | split

theorem Hub.Sound.rollStep (g : GroupCmd) (n : Nat) (h : Hub) (w_h : h.Sound) : (Hub.rollStep g n h).Sound := by
  induction n generalizing g h with
  | zero => exact w_h
  | succ n ih =>
    unfold Hub.rollStep
    split
    · exact Hub.Sound.endGroup _ _ w_h
    · dsimp only
      split
      · exact Hub.Sound.arm _ _ _ (Hub.Sound.setDom _ _ _ _ _ (Hub.Sound.of_mk.2 w_h))
      · split
        · exact Hub.Sound.arm _ _ _ (Hub.Sound.setDom _ _ _ _ _ (Hub.Sound.of_mk.2 (w_h.wr _ _)))
        · exact ih _ _ (Hub.Sound.setDom _ _ _ _ _ w_h)

theorem Hub.Sound.rollback (g : GroupCmd) (h : Hub) (w_h : h.Sound) : (Hub.rollback g h).Sound := by
  unfold Hub.rollback
  repeat'
    first
    | intro _ | with_reducible assumption | with_reducible apply Hub.Sound.rollStep | with_reducible apply Hub.Sound.wr
    | with_reducible refine Hub.Sound.pair (by assumption) ?_ | with_reducible refine Hub.Sound.pair3 (by assumption) ?_
    | with_reducible refine Hub.Sound.pair4 (by assumption) ?_ | dsimp only | split

theorem Hub.Sound.clockBack (c : Nat) (h : Hub) (w_h : h.Sound) : (Hub.clockBack c h).Sound := by
  unfold Hub.clockBack
  repeat'
    first
    | intro _ | with_reducible assumption | with_reducible apply Hub.Sound.wrBit | with_reducible apply Hub.Sound.ite
    | dsimp only | split

theorem Hub.Sound.startWaking (g : GroupCmd) (h : Hub) (w_h : h.Sound) : (Hub.startWaking g h).Sound := by
  unfold Hub.startWaking
  repeat'
    first
    | intro _ | simp only [Hub.Sound.of_mk] | with_reducible assumption | with_reducible apply Hub.Sound.arm
    | with_reducible apply Hub.Sound.gate400 | with_reducible apply Hub.Sound.setDom | with_reducible apply Hub.Sound.ite
    | with_reducible refine Hub.Sound.pair (by assumption) ?_ | with_reducible refine Hub.Sound.pair3 (by assumption) ?_
    | with_reducible refine Hub.Sound.pair4 (by assumption) ?_ | dsimp only | split

theorem Hub.Sound.startClocks (g : GroupCmd) (h : Hub) (w_h : h.Sound) : (Hub.startClocks g h).Sound := by
  unfold Hub.startClocks
  repeat'
    first
    | intro _ | simp only [Hub.Sound.of_mk] | with_reducible assumption | with_reducible apply Hub.Sound.startWaking
    | with_reducible apply Hub.Sound.inc | with_reducible apply Hub.Sound.arm | with_reducible apply Hub.Sound.ite
    | dsimp only | split

theorem Hub.Sound.clockGood (c : Nat) (h : Hub) (w_h : h.Sound) : (Hub.clockGood c h).Sound := by
  unfold Hub.clockGood
  repeat'
    first
    | intro _ | with_reducible assumption | with_reducible apply Hub.Sound.clockBack
    | with_reducible apply Hub.Sound.startClocks | with_reducible apply Hub.Sound.wr | with_reducible apply Hub.Sound.wrBit
    | with_reducible apply Hub.Sound.ite | dsimp only | split

theorem Hub.Sound.delayEnd (h : Hub) (w_h : h.Sound) : (Hub.delayEnd h).Sound := by
  unfold Hub.delayEnd
  repeat'
    first
    | intro _ | simp only [Hub.Sound.of_mk] | with_reducible assumption | with_reducible apply Hub.Sound.setDom
    | with_reducible apply Hub.Sound.heldFlint | with_reducible apply Hub.Sound.rollback
    | with_reducible apply Hub.Sound.endGroup | with_reducible apply Hub.Sound.domainUp
    | with_reducible apply Hub.Sound.domainLost | with_reducible apply Hub.Sound.wr | with_reducible apply Hub.Sound.fwLoad
    | with_reducible apply Hub.Sound.rollStep | with_reducible apply Hub.Sound.refreshHalts
    | with_reducible apply Hub.Sound.ite | with_reducible refine Hub.Sound.pair (by assumption) ?_
    | with_reducible refine Hub.Sound.pair3 (by assumption) ?_ | with_reducible refine Hub.Sound.pair4 (by assumption) ?_
    | dsimp only | split

theorem Hub.Sound.refuseVisit (g : GroupCmd) (d : Nat) (cause : Nat) (detail : Nat) (h : Hub) (w_h : h.Sound) : (Hub.refuseVisit g d
    cause detail h).Sound := by
  unfold Hub.refuseVisit
  repeat'
    first
    | intro _ | with_reducible assumption | with_reducible apply Hub.Sound.rollback | dsimp only | split

theorem Hub.Sound.wakeGranted (g : GroupCmd) (h : Hub) (w_h : h.Sound) : (Hub.wakeGranted g h).Sound := by
  unfold Hub.wakeGranted
  repeat'
    first
    | intro _ | with_reducible assumption | with_reducible apply Hub.Sound.startClocks | dsimp only | split

theorem Hub.Sound.visitN (n : Nat) (g : GroupCmd) (h : Hub) (w_h : h.Sound) : (Hub.visitN n g h).Sound := by
  induction n generalizing g h with
  | zero => exact w_h
  | succ n ih =>
    unfold Hub.visitN
    dsimp only
    repeat'
      first
      | intro _ | simp only [Hub.Sound.of_mk] | with_reducible assumption | with_reducible apply ih
      | with_reducible apply Hub.Sound.setDom | with_reducible apply Hub.Sound.endGroup | with_reducible apply Hub.Sound.refuseVisit
      | with_reducible apply Hub.Sound.arm | with_reducible apply Hub.Sound.refreshHalts
      | with_reducible apply Hub.Sound.domainLeaves | with_reducible apply Hub.Sound.wakeGranted
      | with_reducible apply Hub.Sound.askBudget | with_reducible refine Hub.Sound.pair (by assumption) ?_ | split

theorem Hub.Sound.flintRestart (h : Hub) (w_h : h.Sound) : (Hub.flintRestart h).Sound := by
  unfold Hub.flintRestart
  repeat'
    first
    | intro _ | with_reducible assumption | with_reducible apply Hub.Sound.refreshHalts
    | with_reducible apply Hub.Sound.flintLost | with_reducible apply Hub.Sound.haltFlint
    | with_reducible apply Hub.Sound.dropEgress | with_reducible apply Hub.Sound.fwLoad | with_reducible apply Hub.Sound.ite
    | dsimp only | split

theorem Hub.Sound.clockFailed (h : Hub) (w_h : h.Sound) : (Hub.clockFailed h).Sound := by
  unfold Hub.clockFailed
  repeat'
    first
    | intro _ | with_reducible assumption | with_reducible apply Hub.Sound.refuseVisit | with_reducible apply Hub.Sound.report
    | with_reducible apply Hub.Sound.inc | with_reducible apply Hub.Sound.wrBit | dsimp only | split

theorem Hub.Sound.wakeReleased (e : BudgetEntry) (h : Hub) (w_h : h.Sound) : (Hub.wakeReleased e h).Sound := by
  unfold Hub.wakeReleased
  repeat'
    first
    | intro _ | with_reducible assumption | with_reducible apply Hub.Sound.wakeGranted | with_reducible apply Hub.Sound.ite
    | dsimp only | split

theorem Hub.Sound.stopGroup (outcome : Nat) (h : Hub) (w_h : h.Sound) : (Hub.stopGroup outcome h).Sound := by
  unfold Hub.stopGroup
  repeat'
    first
    | intro _ | simp only [Hub.Sound.of_mk] | with_reducible assumption | with_reducible apply Hub.Sound.rollback
    | with_reducible apply Hub.Sound.withdraw | with_reducible apply Hub.Sound.ite | dsimp only | split

theorem Hub.Sound.reactCommand (x : Nat × Nat × Nat) (h : Hub) (w_h : h.Sound) : (Hub.reactCommand x h).Sound := by
  unfold Hub.reactCommand
  repeat'
    first
    | intro _ | simp only [Hub.Sound.of_mk] | with_reducible assumption | with_reducible apply Hub.Sound.nextGroup
    | with_reducible apply Hub.Sound.stopGroup | with_reducible apply Hub.Sound.ite
    | with_reducible refine Hub.Sound.pair (by assumption) ?_ | with_reducible refine Hub.Sound.pair3 (by assumption) ?_
    | with_reducible refine Hub.Sound.pair4 (by assumption) ?_ | dsimp only | split

theorem Hub.Sound.wakeRefused (d : Nat) (h : Hub) (w_h : h.Sound) : (Hub.wakeRefused d h).Sound := by
  unfold Hub.wakeRefused
  repeat'
    first
    | intro _ | with_reducible assumption | with_reducible apply Hub.Sound.refuseVisit | with_reducible apply Hub.Sound.ite
    | dsimp only | split

theorem Hub.Sound.visit (h : Hub) (w_h : h.Sound) : (Hub.visit h).Sound := by
  unfold Hub.visit
  repeat'
    first
    | intro _ | with_reducible assumption | with_reducible apply Hub.Sound.rollback | with_reducible apply Hub.Sound.visitN
    | with_reducible apply Hub.Sound.ite | dsimp only | split

theorem Hub.Sound.wrote (code : Nat) (h : Hub) (w_h : h.Sound) : (Hub.wrote code h).Sound := by
  unfold Hub.wrote
  repeat'
    first
    | intro _ | with_reducible assumption | with_reducible apply Hub.Sound.emit | dsimp only | split

theorem Hub.Sound.keep (k : Nat) (v : Nat) (h : Hub) (w_h : h.Sound) : (Hub.keep k v h).Sound := by
  unfold Hub.keep
  repeat'
    first
    | intro _ | with_reducible assumption | with_reducible apply Hub.Sound.wr | with_reducible apply Hub.Sound.ite
    | dsimp only | split

theorem Hub.Sound.judged (code : Nat) (k : Nat) (v : Nat) (f : Hub → Hub) (h : Hub) (w_f : ∀ (y0 : Hub), y0.Sound → (f y0).Sound)
    (w_h : h.Sound) : (Hub.judged code k v f h).Sound := by
  unfold Hub.judged
  repeat'
    first
    | intro _ | with_reducible assumption | with_reducible apply Hub.Sound.wrote | with_reducible apply Hub.Sound.keep
    | with_reducible apply w_f | with_reducible apply Hub.Sound.ite | dsimp only | split

theorem Hub.Sound.writing (k : Nat) (v : Nat) (f : Hub → Hub) (h : Hub) (w_f : ∀ (y0 : Hub), y0.Sound → (f y0).Sound) (w_h :
    h.Sound) : (Hub.writing k v f h).Sound := by
  unfold Hub.writing
  repeat'
    first
    | intro _ | with_reducible assumption | with_reducible apply Hub.Sound.judged | with_reducible apply w_f | dsimp only
    | split

theorem Hub.Sound.loadRecord (h : Hub) (c : Nat × Nat) (w_h : h.Sound) : (Hub.loadRecord h c).Sound := by
  unfold Hub.loadRecord
  repeat'
    first
    | intro _ | with_reducible assumption | with_reducible apply Hub.Sound.inc | with_reducible apply Hub.Sound.wr
    | with_reducible apply Hub.Sound.ite | with_reducible refine Hub.Sound.pair (by assumption) ?_
    | with_reducible refine Hub.Sound.pair3 (by assumption) ?_ | with_reducible refine Hub.Sound.pair4 (by assumption) ?_
    | dsimp only | split

theorem Hub.Sound.loadConfig (records : List (Nat × Nat)) (h : Hub) (w_h : h.Sound) : (Hub.loadConfig records h).Sound := by
  unfold Hub.loadConfig
  repeat'
    first
    | intro _ | with_reducible assumption | with_reducible apply Hub.Sound.loadRecord | with_reducible apply Hub.Sound.wr
    | with_reducible apply Hub.Sound.report | with_reducible apply Hub.Sound.ite | with_reducible apply Hub.Sound.foldl
    | with_reducible refine Hub.Sound.pair (by assumption) ?_ | with_reducible refine Hub.Sound.pair3 (by assumption) ?_
    | with_reducible refine Hub.Sound.pair4 (by assumption) ?_ | dsimp only | split

theorem Hub.Sound.putCopy (c : NvCopy) (h : Hub) (w_h : h.Sound) : (Hub.putCopy c h).Sound := by
  unfold Hub.putCopy
  repeat'
    first
    | intro _ | simp only [Hub.Sound.of_mk] | with_reducible assumption | dsimp only | split

theorem Hub.Sound.storeRepair (h : Hub) (w_h : h.Sound) : (Hub.storeRepair h).Sound := by
  unfold Hub.storeRepair
  repeat'
    first
    | intro _ | with_reducible assumption | with_reducible apply Hub.Sound.wr | with_reducible apply Hub.Sound.putCopy
    | with_reducible apply Hub.Sound.ite | with_reducible refine Hub.Sound.pair (by assumption) ?_
    | with_reducible refine Hub.Sound.pair3 (by assumption) ?_ | with_reducible refine Hub.Sound.pair4 (by assumption) ?_
    | dsimp only | split

theorem Hub.Sound.chooseConfig (a : Nat) (b : Nat) (h : Hub) (w_h : h.Sound) : (Hub.chooseConfig a b h).Sound := by
  unfold Hub.chooseConfig
  repeat'
    first
    | intro _ | with_reducible assumption | with_reducible apply Hub.Sound.putCopy | with_reducible apply Hub.Sound.wr
    | with_reducible apply Hub.Sound.report | with_reducible apply Hub.Sound.loadConfig | with_reducible apply Hub.Sound.ite
    | dsimp only | split

theorem Hub.Sound.eraseCopies (h : Hub) (w_h : h.Sound) : (Hub.eraseCopies h).Sound := by
  unfold Hub.eraseCopies
  repeat'
    first
    | intro _ | simp only [Hub.Sound.of_mk] | with_reducible assumption | with_reducible apply Hub.Sound.wr
    | with_reducible apply Hub.Sound.inc | dsimp only | split

theorem Hub.Sound.saveSecurity (h : Hub) (w_h : h.Sound) : (Hub.saveSecurity h).Sound := by
  unfold Hub.saveSecurity
  repeat'
    first
    | intro _ | with_reducible assumption | with_reducible apply Hub.Sound.wr | with_reducible apply Hub.Sound.putCopy
    | with_reducible apply Hub.Sound.ite | with_reducible refine Hub.Sound.pair (by assumption) ?_
    | with_reducible refine Hub.Sound.pair3 (by assumption) ?_ | with_reducible refine Hub.Sound.pair4 (by assumption) ?_
    | dsimp only | split

theorem Hub.Sound.warmLost (h : Hub) (w_h : h.Sound) : (Hub.warmLost h).Sound := by
  unfold Hub.warmLost
  repeat'
    first
    | intro _ | simp only [Hub.Sound.of_mk] | with_reducible assumption | with_reducible apply Hub.Sound.wr | dsimp only
    | split

theorem Hub.Sound.fwRuns (slot : Nat) (h : Hub) (w_h : h.Sound) : (Hub.fwRuns slot h).Sound := by
  unfold Hub.fwRuns
  exact (((((Hub.Sound.lessShadows w_h _).wr _ _).wr _ _).wr _ _).wr _ _).wr _ _

theorem Hub.Sound.fwLoaded (h : Hub) (w_h : h.Sound) : (Hub.fwLoaded h).Sound := by
  have w0 : ({ h with shadows := h.shadows.filter (fun s => s.test != some (2, 0)) } : Hub).Sound := Hub.Sound.lessShadows w_h _
  unfold Hub.fwLoaded
  generalize ({ h with shadows := h.shadows.filter (fun s => s.test != some (2, 0)) } : Hub) = h0 at w0
  repeat'
    first
    | intro _ | with_reducible assumption | with_reducible apply Hub.Sound.fwRuns | with_reducible apply Hub.Sound.fwLoad
    | with_reducible apply Hub.Sound.flintLost | with_reducible apply Hub.Sound.warmLost | with_reducible apply Hub.Sound.saveSecurity
    | with_reducible apply Hub.Sound.wr | with_reducible apply Hub.Sound.report | with_reducible apply Hub.Sound.inc
    | with_reducible apply Hub.Sound.ite | dsimp only | split

theorem Hub.Sound.refreshOwner (h : Hub) (w_h : h.Sound) : (Hub.refreshOwner h).Sound := by
  unfold Hub.refreshOwner
  repeat'
    first
    | intro _ | with_reducible assumption | with_reducible apply Hub.Sound.wr | dsimp only | split

theorem Hub.Sound.refreshSecState (h : Hub) (w_h : h.Sound) : (Hub.refreshSecState h).Sound := by
  unfold Hub.refreshSecState
  repeat'
    first
    | intro _ | with_reducible assumption | with_reducible apply Hub.Sound.wr | with_reducible apply Hub.Sound.refreshOwner
    | with_reducible apply Hub.Sound.ite | dsimp only | split

theorem Hub.Sound.chooseSecurity (a : Nat) (b : Nat) (h : Hub) (w_h : h.Sound) : (Hub.chooseSecurity a b h).Sound := by
  unfold Hub.chooseSecurity
  repeat'
    first
    | intro _ | with_reducible assumption | with_reducible apply Hub.Sound.report | with_reducible apply Hub.Sound.clear
    | with_reducible apply Hub.Sound.wr | with_reducible apply Hub.Sound.refreshSecState | with_reducible apply Hub.Sound.ite
    | with_reducible apply Hub.Sound.foldl | with_reducible refine Hub.Sound.pair (by assumption) ?_
    | with_reducible refine Hub.Sound.pair3 (by assumption) ?_ | with_reducible refine Hub.Sound.pair4 (by assumption) ?_
    | dsimp only | split

theorem Hub.Sound.chooseRepair (a : Nat) (b : Nat) (h : Hub) (w_h : h.Sound) : (Hub.chooseRepair a b h).Sound := by
  unfold Hub.chooseRepair
  repeat'
    first
    | intro _ | simp only [Hub.Sound.of_mk] | with_reducible assumption | with_reducible apply Hub.Sound.wr
    | with_reducible apply Hub.Sound.report | with_reducible apply Hub.Sound.ite | dsimp only | split

theorem Hub.Sound.putFlash (slot : Nat) (i : Nat) (v : Nat) (h : Hub) (w_h : h.Sound) : (Hub.putFlash slot i v h).Sound := by
  unfold Hub.putFlash
  repeat'
    first
    | intro _ | simp only [Hub.Sound.of_mk] | with_reducible assumption | dsimp only | split

theorem Hub.Sound.portReaction (p : Nat) (level : Nat) (h : Hub) (w_h : h.Sound) : (Hub.portReaction p level h).Sound := by
  unfold Hub.portReaction
  repeat'
    first
    | intro _ | with_reducible assumption | with_reducible apply Hub.Sound.enterResetting
    | with_reducible apply Hub.Sound.trip | with_reducible apply Hub.Sound.retrainLink
    | with_reducible apply Hub.Sound.resetLink | with_reducible apply Hub.Sound.ite | dsimp only | split

theorem Hub.Sound.announceOn (h : Hub) (p : Nat) (w_h : h.Sound) : (Hub.announceOn h p).Sound := by
  unfold Hub.announceOn
  repeat'
    first
    | intro _ | with_reducible assumption | with_reducible apply Hub.Sound.arm | with_reducible apply Hub.Sound.wr
    | with_reducible apply Hub.Sound.sendLink | with_reducible apply Hub.Sound.advanceCredit
    | with_reducible apply Hub.Sound.ite | dsimp only | split

theorem Hub.Sound.announce (h : Hub) (w_h : h.Sound) : (Hub.announce h).Sound := by
  unfold Hub.announce
  repeat'
    first
    | intro _ | with_reducible assumption | with_reducible apply Hub.Sound.announceOn | dsimp only | split

theorem Hub.Sound.graniteContents (h : Hub) (w_h : h.Sound) : (Hub.graniteContents h).Sound := by
  unfold Hub.graniteContents
  exact (Hub.Sound.wipeIndex _ _ ((((((((w_h.noRing.wipe _ _).wipe _ _).wr _ _).wr _ _).wr _ _).wr _ _).wr _ _))).clear _

theorem Hub.Sound.graniteReset (h : Hub) (w_h : h.Sound) : (Hub.graniteReset h).Sound := by
  unfold Hub.graniteReset
  repeat'
    first
    | intro _ | with_reducible assumption | with_reducible apply Hub.Sound.dropEgress | with_reducible apply Hub.Sound.wr
    | with_reducible apply Hub.Sound.abortSlots | with_reducible apply Hub.Sound.refreshEpochs
    | with_reducible apply Hub.Sound.graniteContents | with_reducible apply Hub.Sound.foldl | dsimp only | split

theorem Hub.Sound.haltedFlint (h : Hub) (w_h : h.Sound) : (Hub.haltedFlint h).Sound := by
  unfold Hub.haltedFlint
  repeat'
    first
    | intro _ | with_reducible assumption | with_reducible apply Hub.Sound.dropEgress
    | with_reducible apply Hub.Sound.refreshHalts | with_reducible apply Hub.Sound.flintLost
    | with_reducible apply Hub.Sound.ite | dsimp only | split

theorem Hub.Sound.rollBurst (h : Hub) (w_h : h.Sound) : (Hub.rollBurst h).Sound := by
  unfold Hub.rollBurst
  repeat'
    first
    | intro _ | with_reducible assumption | with_reducible apply Hub.Sound.wr | with_reducible apply Hub.Sound.ite
    | with_reducible apply Hub.Sound.foldl | dsimp only | split

theorem Hub.Sound.linkError (p : Nat) (key : Nat) (h : Hub) (w_h : h.Sound) : (Hub.linkError p key h).Sound := by
  unfold Hub.linkError
  repeat'
    first
    | intro _ | with_reducible assumption | with_reducible apply Hub.Sound.inc | with_reducible apply Hub.Sound.rollBurst
    | with_reducible apply Hub.Sound.report | with_reducible apply Hub.Sound.wr | with_reducible apply Hub.Sound.ite
    | dsimp only | split

theorem Hub.Sound.flintReaction (x : Reaction) (h : Hub) (w_h : h.Sound) : (Hub.flintReaction x h).Sound := by
  unfold Hub.flintReaction
  repeat'
    first
    | intro _ | with_reducible assumption | with_reducible apply Hub.Sound.flintRestart
    | with_reducible apply Hub.Sound.reactCommand | with_reducible apply Hub.Sound.ite
    | with_reducible refine Hub.Sound.pair (by assumption) ?_ | with_reducible refine Hub.Sound.pair3 (by assumption) ?_
    | with_reducible refine Hub.Sound.pair4 (by assumption) ?_ | dsimp only | split

theorem Hub.Sound.safeState (h : Hub) (w_h : h.Sound) : (Hub.safeState h).Sound := by
  unfold Hub.safeState
  repeat'
    first
    | intro _ | with_reducible assumption | with_reducible apply Hub.Sound.wr | with_reducible apply Hub.Sound.trip
    | with_reducible apply Hub.Sound.ite | with_reducible apply Hub.Sound.foldl | dsimp only | split

theorem Hub.Sound.react (x : Reaction) (h : Hub) (w_h : h.Sound) : (Hub.react x h).Sound := by
  unfold Hub.react
  repeat'
    first
    | intro _ | with_reducible assumption | with_reducible apply Hub.Sound.portReaction
    | with_reducible apply Hub.Sound.flintReaction | with_reducible apply Hub.Sound.graniteReset
    | with_reducible apply Hub.Sound.safeState | with_reducible apply Hub.Sound.arm | with_reducible apply Hub.Sound.ite
    | dsimp only | split

theorem Hub.Sound.dropTest (h : Hub) (t : SelfTest) (w_h : h.Sound) : (Hub.dropTest h t).Sound := by
  unfold Hub.dropTest
  apply Hub.Sound.fenceOrWait
  apply Hub.Sound.childReport
  apply Hub.Sound.childReport
  exact (Hub.Sound.lessShadows w_h _).congr rfl rfl rfl rfl rfl rfl

theorem Hub.Sound.dropWaiting (d : Nat) (h : Hub) (w_h : h.Sound) : (Hub.dropWaiting d h).Sound := by
  unfold Hub.dropWaiting
  repeat'
    first
    | intro _ | with_reducible assumption | with_reducible apply Hub.Sound.dropTest | with_reducible apply Hub.Sound.ite
    | with_reducible apply Hub.Sound.foldl | dsimp only | split

theorem Hub.Sound.endTest (kind subject : Nat) (h : Hub) (w_h : h.Sound) : (Hub.endTest kind subject h).Sound := by
  unfold Hub.endTest
  have w1 : ({ h with
      tests := h.tests.filter (fun t => !(t.kind == kind && t.subject == subject))
      shadows := h.shadows.filter (fun s => kind == 2 || s.test != some (kind, subject)) } : Hub).Sound :=
    (Hub.Sound.lessShadows w_h _).congr rfl rfl rfl rfl rfl rfl
  dsimp only
  split
  · exact w1
  · split
    · exact w1
    · split
      · exact ⟨w1.cells, w1.clock, w1.log, w1.ring, w1.evq, by simpa using w1.shadows⟩
      · exact w1

theorem Hub.Sound.settleN (n : Nat) (h : Hub) (w_h : h.Sound) : (Hub.settleN n h).Sound := by
  induction n generalizing h with
  | zero => exact w_h
  | succ n ih =>
    unfold Hub.settleN
    split
    · exact w_h
    · exact ih _ (Hub.Sound.react _ _ (Hub.Sound.of_mk.2 w_h))

theorem Hub.Sound.settle (h : Hub) (w_h : h.Sound) : (Hub.settle h).Sound := by
  unfold Hub.settle
  repeat'
    first
    | intro _ | with_reducible assumption | with_reducible apply Hub.Sound.announce | with_reducible apply Hub.Sound.pathUp
    | with_reducible apply Hub.Sound.haltedFlint | with_reducible apply Hub.Sound.settleN | dsimp only | split

theorem Hub.Sound.verdict (t : SelfTest) (v : Nat) (h : Hub) (w_h : h.Sound) : (Hub.verdict t v h).Sound := by
  unfold Hub.verdict
  repeat'
    first
    | intro _ | with_reducible assumption | with_reducible apply Hub.Sound.inc | with_reducible apply Hub.Sound.childReport
    | with_reducible apply Hub.Sound.ite | dsimp only | split

theorem Hub.Sound.holdOpen (p : Nat) (h : Hub) (w_h : h.Sound) : (Hub.holdOpen p h).Sound := by
  unfold Hub.holdOpen
  repeat'
    first
    | intro _ | with_reducible assumption | with_reducible apply Hub.Sound.emit | dsimp only | split

theorem Hub.Sound.holdDetach (p : Nat) (opened : Nat) (h : Hub) (w_h : h.Sound) : (Hub.holdDetach p opened h).Sound := by
  unfold Hub.holdDetach
  repeat'
    first
    | intro _ | simp only [Hub.Sound.of_mk] | with_reducible assumption | with_reducible apply Hub.Sound.holdOpen
    | with_reducible apply Hub.Sound.ite | dsimp only | split

theorem Hub.Sound.bootOn (d : Nat) (h : Hub) (w_h : h.Sound) : (Hub.bootOn d h).Sound := by
  unfold Hub.bootOn
  repeat'
    first
    | intro _ | with_reducible assumption | with_reducible apply Hub.Sound.wr | with_reducible apply Hub.Sound.domainUp
    | with_reducible refine Hub.Sound.pair (by assumption) ?_ | with_reducible refine Hub.Sound.pair3 (by assumption) ?_
    | with_reducible refine Hub.Sound.pair4 (by assumption) ?_ | dsimp only | split

theorem Hub.Sound.rolePrefs (h : Hub) (w_h : h.Sound) : (Hub.rolePrefs h).Sound := by
  unfold Hub.rolePrefs
  repeat'
    first
    | intro _ | with_reducible assumption | with_reducible apply Hub.Sound.wr | with_reducible apply Hub.Sound.ite
    | with_reducible apply Hub.Sound.foldl | dsimp only | split

theorem Hub.Sound.copyCells (src : Hub) (l : List Nat) (h : Hub) (w_h : h.Sound) : (Machine.copyCells src l h).Sound := by
  induction l generalizing h with
  | nil => exact w_h
  | cons k r ih => exact ih _ (w_h.wr _ _)

theorem Hub.Sound.bootRole (h : Hub) (w_h : h.Sound) : (Hub.bootRole h).Sound := by
  unfold Hub.bootRole
  repeat'
    first
    | intro _ | with_reducible assumption | with_reducible apply Hub.Sound.rolePrefs | with_reducible apply Hub.Sound.wr
    | with_reducible apply Hub.Sound.ite | dsimp only | split

theorem Hub.Sound.adoptPort (r : HoldRec) (h : Hub) (w_h : h.Sound) : (Hub.adoptPort r h).Sound := by
  unfold Hub.adoptPort
  repeat'
    first
    | intro _ | with_reducible assumption | with_reducible apply Hub.Sound.wr | with_reducible apply Hub.Sound.contractState
    | with_reducible apply Hub.Sound.arm | with_reducible apply Hub.Sound.refreshLimit
    | with_reducible apply Hub.Sound.movePort | with_reducible apply Hub.Sound.enterDisconnected
    | with_reducible apply Hub.Sound.ite | dsimp only | split

theorem Hub.Sound.refusePort (r : HoldRec) (rd : Bool) (h : Hub) (w_h : h.Sound) : (Hub.refusePort r rd h).Sound := by
  unfold Hub.refusePort
  repeat'
    first
    | intro _ | with_reducible assumption | with_reducible apply Hub.Sound.arm | with_reducible apply Hub.Sound.wr
    | with_reducible apply Hub.Sound.holdOpen | with_reducible apply Hub.Sound.cfRecord | with_reducible apply Hub.Sound.inc
    | with_reducible apply Hub.Sound.emit | with_reducible apply Hub.Sound.report
    | with_reducible apply Hub.Sound.enterUnattached | with_reducible apply Hub.Sound.ite | dsimp only | split

theorem Hub.Sound.enterReady (rd : Nat) (h : Hub) (w_h : h.Sound) : (Hub.enterReady rd h).Sound := by
  unfold Hub.enterReady
  repeat'
    first
    | intro _ | simp only [Hub.Sound.of_mk] | with_reducible assumption | with_reducible apply Hub.Sound.wr
    | with_reducible apply Hub.Sound.emit | with_reducible apply Hub.Sound.enterUnattached
    | with_reducible apply Hub.Sound.adoptPort | with_reducible apply Hub.Sound.refusePort
    | with_reducible apply Hub.Sound.ite | with_reducible apply Hub.Sound.foldl | dsimp only | split

theorem Hub.Sound.holdTrip (p : Nat) (cause : Nat) (peak : Nat) (h : Hub) (w_h : h.Sound) : (Hub.holdTrip p cause peak h).Sound :=
    by
  unfold Hub.holdTrip
  repeat'
    first
    | intro _ | simp only [Hub.Sound.of_mk] | with_reducible assumption | with_reducible apply Hub.Sound.holdOpen
    | with_reducible apply Hub.Sound.ite | dsimp only | split

theorem Hub.Sound.enterHold (src : Hub) (h : Hub) (w_src : src.Sound) (w_h : h.Sound) : (Hub.enterHold src h).Sound := by
  unfold Hub.enterHold
  repeat'
    first
    | intro _ | simp only [Hub.Sound.of_mk] | with_reducible assumption | with_reducible apply Hub.Sound.wr
    | with_reducible apply Hub.Sound.emit | with_reducible apply Hub.Sound.holdOpen | with_reducible apply Hub.Sound.ite
    | with_reducible apply Hub.Sound.foldl | dsimp only | split

theorem Hub.Sound.toStage (s : Nat) (h : Hub) (w_h : h.Sound) : (Hub.toStage s h).Sound := by
  unfold Hub.toStage
  repeat'
    first
    | intro _ | with_reducible assumption | with_reducible apply Hub.Sound.arm | with_reducible apply Hub.Sound.wr
    | dsimp only | split

theorem Hub.Sound.finishZeroise (h : Hub) (w_h : h.Sound) : (Hub.finishZeroise h).Sound := by
  unfold Hub.finishZeroise
  repeat'
    first
    | intro _ | with_reducible assumption | with_reducible apply Hub.Sound.wr | with_reducible apply Hub.Sound.clear
    | with_reducible apply Hub.Sound.eraseCopies | with_reducible apply Hub.Sound.saveSecurity
    | with_reducible apply Hub.Sound.refreshSecState | dsimp only | split

theorem Hub.Sound.bootArray (f : Hub.Found) (h : Hub) (w_h : h.Sound) : (Hub.bootArray f h).Sound := by
  unfold Hub.bootArray
  repeat'
    first
    | intro _ | with_reducible assumption | with_reducible apply Hub.Sound.chooseSecurity
    | with_reducible apply Hub.Sound.finishZeroise | with_reducible apply Hub.Sound.saveSecurity
    | with_reducible apply Hub.Sound.inc | with_reducible apply Hub.Sound.chooseRepair | with_reducible apply Hub.Sound.ite
    | dsimp only | split

theorem Hub.Sound.bootClock (c : Nat) (h : Hub) (w_h : h.Sound) : (Hub.bootClock c h).Sound := by
  unfold Hub.bootClock
  repeat'
    first
    | intro _ | with_reducible assumption | with_reducible apply Hub.Sound.wr | with_reducible apply Hub.Sound.wrBit
    | dsimp only | split

theorem Hub.Sound.bootDomains (h : Hub) (w_h : h.Sound) : (Hub.bootDomains h).Sound := by
  unfold Hub.bootDomains
  repeat'
    first
    | intro _ | with_reducible assumption | with_reducible apply Hub.Sound.wr | with_reducible apply Hub.Sound.bootOn
    | with_reducible apply Hub.Sound.bootClock | with_reducible apply Hub.Sound.ite | with_reducible apply Hub.Sound.foldl
    | dsimp only | split

theorem Hub.Sound.fullReset (cause : Nat) (h : Hub) (w_h : h.Sound) : (Hub.fullReset cause h).Sound := by
  have wb : ({ Hub.reset with now := h.now, out := h.out, nv := h.nv, flash := h.flash } : Hub).Sound :=
    ⟨rfl, w_h.clock, Nat.zero_le _, Nat.zero_le _, Nat.zero_le _, Nat.zero_le _⟩
  unfold Hub.fullReset
  generalize ({ Hub.reset with now := h.now, out := h.out, nv := h.nv, flash := h.flash } : Hub) = b at wb
  have w1 := Hub.Sound.copyCells h nvKeys b wb
  have wl : ({ Machine.copyCells h nvKeys b with log := h.log } : Hub).Sound :=
    ⟨w1.cells, w1.clock, w_h.log, w1.ring, w1.evq, w1.shadows⟩
  have w2 := Hub.Sound.copyCells h retainedKeys _ wl
  dsimp only
  generalize Machine.copyCells h retainedKeys { Machine.copyCells h nvKeys b with log := h.log } = x at w2
  generalize Machine.copyCells h nvKeys b = y at w1
  repeat'
    first
    | intro _ | with_reducible assumption | with_reducible apply Hub.Sound.wr | with_reducible apply Hub.Sound.arm
    | with_reducible apply Hub.Sound.enterHold | with_reducible apply Hub.Sound.inc | with_reducible apply Hub.Sound.ite | split

theorem Hub.Sound.commandReset (h : Hub) (w_h : h.Sound) : (Hub.commandReset h).Sound := by
  unfold Hub.commandReset
  repeat'
    first
    | intro _ | with_reducible assumption | with_reducible apply Hub.Sound.fullReset | with_reducible apply Hub.Sound.ite
    | dsimp only | split

theorem Hub.Sound.derived (h : Hub) (w_h : h.Sound) : (Hub.derived h).Sound := by
  unfold Hub.derived
  repeat'
    first
    | intro _ | with_reducible assumption | with_reducible apply Hub.Sound.clear | with_reducible apply Hub.Sound.wr
    | dsimp only | split

theorem Hub.Sound.bootStage (f : Hub.Found) (h : Hub) (w_h : h.Sound) : (Hub.bootStage f h).Sound := by
  unfold Hub.bootStage
  repeat'
    first
    | intro _ | with_reducible assumption | with_reducible apply Hub.Sound.toStage | with_reducible apply Hub.Sound.wr
    | with_reducible apply Hub.Sound.inc | with_reducible apply Hub.Sound.gate400 | with_reducible apply Hub.Sound.bootOn
    | with_reducible apply Hub.Sound.bootClock | with_reducible apply Hub.Sound.derived
    | with_reducible apply Hub.Sound.fwLoad | with_reducible apply Hub.Sound.bootArray
    | with_reducible apply Hub.Sound.bootRole | with_reducible apply Hub.Sound.chooseConfig
    | with_reducible apply Hub.Sound.bootDomains | with_reducible apply Hub.Sound.ite | dsimp only | split

theorem Hub.Sound.countCandidate (p : Nat) (w : Nat) (mv : Nat) (h : Hub) (w_h : h.Sound) : (Hub.countCandidate p w mv h).Sound :=
    by
  unfold Hub.countCandidate
  repeat'
    first
    | intro _ | with_reducible assumption | with_reducible apply Hub.Sound.inc | with_reducible apply Hub.Sound.wr
    | with_reducible apply Hub.Sound.ite | dsimp only | split

theorem Hub.Sound.watchSample (p : Nat) (v1 : Nat) (v2 : Nat) (h : Hub) (w_h : h.Sound) : (Hub.watchSample p v1 v2 h).Sound := by
  unfold Hub.watchSample
  repeat'
    first
    | intro _ | with_reducible assumption | with_reducible apply Hub.Sound.clear
    | with_reducible apply Hub.Sound.countCandidate | with_reducible apply Hub.Sound.enterWaitSource
    | with_reducible apply Hub.Sound.ite | dsimp only | split

theorem Hub.Sound.stageSample (p : Nat) (v1 : Nat) (v2 : Nat) (h : Hub) (w_h : h.Sound) : (Hub.stageSample p v1 v2 h).Sound := by
  unfold Hub.stageSample
  repeat'
    first
    | intro _ | with_reducible assumption | with_reducible apply Hub.Sound.candidateFail
    | with_reducible apply Hub.Sound.setClasses | with_reducible apply Hub.Sound.arm | with_reducible apply Hub.Sound.ite
    | dsimp only | split

theorem Hub.Sound.rdSeen (p : Nat) (v1 : Nat) (v2 : Nat) (h : Hub) (w_h : h.Sound) : (Hub.rdSeen p v1 v2 h).Sound := by
  unfold Hub.rdSeen
  repeat'
    first
    | intro _ | with_reducible assumption | with_reducible apply Hub.Sound.wires
    | with_reducible apply Hub.Sound.enterWaitSource | with_reducible apply Hub.Sound.ite | dsimp only | split

theorem Hub.Sound.trySample (p : Nat) (v1 : Nat) (v2 : Nat) (h : Hub) (w_h : h.Sound) : (Hub.trySample p v1 v2 h).Sound := by
  unfold Hub.trySample
  repeat'
    first
    | intro _ | with_reducible assumption | with_reducible apply Hub.Sound.setClasses | with_reducible apply Hub.Sound.stop
    | with_reducible apply Hub.Sound.arm | with_reducible apply Hub.Sound.ite | dsimp only | split

theorem Hub.Sound.classified (p : Nat) (h : Hub) (w_h : h.Sound) : (Hub.classified p h).Sound := by
  unfold Hub.classified
  repeat'
    first
    | intro _ | with_reducible assumption | with_reducible apply Hub.Sound.attachSource
    | with_reducible apply Hub.Sound.faultLock | with_reducible apply Hub.Sound.candidateFail | dsimp only | split

theorem Hub.Sound.takeSample (p : Nat) (v1 : Nat) (v2 : Nat) (h : Hub) (w_h : h.Sound) : (Hub.takeSample p v1 v2 h).Sound := by
  unfold Hub.takeSample
  repeat'
    first
    | intro _ | with_reducible assumption | with_reducible apply Hub.Sound.wr | with_reducible apply Hub.Sound.wires
    | with_reducible apply Hub.Sound.watchSample | with_reducible apply Hub.Sound.stageSample
    | with_reducible apply Hub.Sound.trySample | with_reducible apply Hub.Sound.ite | dsimp only | split

theorem Hub.Sound.sniff (p : Nat) (v1 : Nat) (v2 : Nat) (h : Hub) (w_h : h.Sound) : (Hub.sniff p v1 v2 h).Sound := by
  unfold Hub.sniff
  repeat'
    first
    | intro _ | with_reducible assumption | with_reducible apply Hub.Sound.takeSample | with_reducible apply Hub.Sound.ite
    | dsimp only | split

theorem Hub.Sound.sourceSeen (p : Nat) (mv : Nat) (h : Hub) (w_h : h.Sound) : (Hub.sourceSeen p mv h).Sound := by
  unfold Hub.sourceSeen
  repeat'
    first
    | intro _ | with_reducible assumption | with_reducible apply Hub.Sound.enterWaitSink | with_reducible apply Hub.Sound.arm
    | with_reducible apply Hub.Sound.enterUnattached | with_reducible apply Hub.Sound.stop
    | with_reducible apply Hub.Sound.ite | dsimp only | split

theorem Hub.Sound.live (f : Hub → Hub) (h : Hub) (w_f : ∀ (y0 : Hub), y0.Sound → (f y0).Sound) (w_h : h.Sound) : (Hub.live f
    h).Sound := by
  unfold Hub.live
  repeat'
    first
    | intro _ | with_reducible assumption | with_reducible apply w_f | with_reducible apply Hub.Sound.ite | dsimp only | split

theorem Hub.Sound.stageEnd (p : Nat) (v : Nat) (h : Hub) (w_h : h.Sound) : (Hub.stageEnd p v h).Sound := by
  unfold Hub.stageEnd
  repeat'
    first
    | intro _ | with_reducible assumption | with_reducible apply Hub.Sound.expire | with_reducible apply Hub.Sound.arm
    | with_reducible apply Hub.Sound.wr | with_reducible apply Hub.Sound.wires | with_reducible apply Hub.Sound.setClasses
    | with_reducible apply Hub.Sound.ite | dsimp only | split

theorem Hub.Sound.tryEnd (p : Nat) (h : Hub) (w_h : h.Sound) : (Hub.tryEnd p h).Sound := by
  unfold Hub.tryEnd
  repeat'
    first
    | intro _ | with_reducible assumption | with_reducible apply Hub.Sound.expire | with_reducible apply Hub.Sound.arm
    | with_reducible apply Hub.Sound.wr | with_reducible apply Hub.Sound.attachClear | with_reducible apply Hub.Sound.ite
    | dsimp only | split

theorem Hub.Sound.tryDebounced (p : Nat) (h : Hub) (w_h : h.Sound) : (Hub.tryDebounced p h).Sound := by
  unfold Hub.tryDebounced
  repeat'
    first
    | intro _ | with_reducible assumption | with_reducible apply Hub.Sound.expire
    | with_reducible apply Hub.Sound.attachSource | with_reducible apply Hub.Sound.ite | dsimp only | split

theorem Hub.Sound.toggleEnd (p : Nat) (h : Hub) (w_h : h.Sound) : (Hub.toggleEnd p h).Sound := by
  unfold Hub.toggleEnd
  repeat'
    first
    | intro _ | with_reducible assumption | with_reducible apply Hub.Sound.expire | with_reducible apply Hub.Sound.togglePhase
    | with_reducible apply Hub.Sound.ite | dsimp only | split

theorem Hub.Sound.enterTrySource (p : Nat) (h : Hub) (w_h : h.Sound) : (Hub.enterTrySource p h).Sound := by
  unfold Hub.enterTrySource
  repeat'
    first
    | intro _ | with_reducible assumption | with_reducible apply Hub.Sound.arm | with_reducible apply Hub.Sound.wr
    | with_reducible apply Hub.Sound.attachClear | dsimp only | split

theorem Hub.Sound.attachRelease (p : Nat) (h : Hub) (w_h : h.Sound) : (Hub.attachRelease p h).Sound := by
  unfold Hub.attachRelease
  repeat'
    first
    | intro _ | with_reducible assumption | with_reducible apply Hub.Sound.judged | with_reducible apply Hub.Sound.unlock
    | with_reducible apply Hub.Sound.ite | dsimp only | split

theorem Hub.Sound.tryWaitEnd (p : Nat) (h : Hub) (w_h : h.Sound) : (Hub.tryWaitEnd p h).Sound := by
  unfold Hub.tryWaitEnd
  repeat'
    first
    | intro _ | with_reducible assumption | with_reducible apply Hub.Sound.expire
    | with_reducible apply Hub.Sound.enterUnattached | with_reducible apply Hub.Sound.ite | dsimp only | split

theorem Hub.Sound.sourceHeld (p : Nat) (h : Hub) (w_h : h.Sound) : (Hub.sourceHeld p h).Sound := by
  unfold Hub.sourceHeld
  repeat'
    first
    | intro _ | with_reducible assumption | with_reducible apply Hub.Sound.enterTrySource
    | with_reducible apply Hub.Sound.attachSink | with_reducible apply Hub.Sound.ite | dsimp only | split

theorem Hub.Sound.debounced (p : Nat) (h : Hub) (w_h : h.Sound) : (Hub.debounced p h).Sound := by
  unfold Hub.debounced
  repeat'
    first
    | intro _ | with_reducible assumption | with_reducible apply Hub.Sound.expire | with_reducible apply Hub.Sound.classified
    | with_reducible apply Hub.Sound.sourceHeld | with_reducible apply Hub.Sound.ite | dsimp only | split

theorem Hub.Sound.overvoltage (p : Nat) (mv : Nat) (since : Nat) (h : Hub) (w_h : h.Sound) : (Hub.overvoltage p mv since h).Sound :=
    by
  unfold Hub.overvoltage
  repeat'
    first
    | intro _ | with_reducible assumption | with_reducible apply Hub.Sound.faultLock | with_reducible apply Hub.Sound.ite
    | dsimp only | split

theorem Hub.Sound.recheck (p : Nat) (w : Nat) (mv : Nat) (h : Hub) (w_h : h.Sound) : (Hub.recheck p w mv h).Sound := by
  unfold Hub.recheck
  repeat'
    first
    | intro _ | with_reducible assumption | with_reducible apply Hub.Sound.wr | with_reducible apply Hub.Sound.ite
    | dsimp only | split

theorem Hub.Sound.backoffEnd (p : Nat) (v1 : Nat) (v2 : Nat) (h : Hub) (w_h : h.Sound) : (Hub.backoffEnd p v1 v2 h).Sound := by
  unfold Hub.backoffEnd
  repeat'
    first
    | intro _ | with_reducible assumption | with_reducible apply Hub.Sound.expire | with_reducible apply Hub.Sound.recheck
    | with_reducible apply Hub.Sound.ite | dsimp only | split

theorem Hub.Sound.detached (p : Nat) (opened : Nat) (h : Hub) (w_h : h.Sound) : (Hub.detached p opened h).Sound := by
  unfold Hub.detached
  repeat'
    first
    | intro _ | with_reducible assumption | with_reducible apply Hub.Sound.wr | with_reducible apply Hub.Sound.detachNow
    | with_reducible apply Hub.Sound.ite | dsimp only | split

theorem Hub.Sound.vauxLost (h : Hub) (w_h : h.Sound) : (Hub.vauxLost h).Sound := by
  unfold Hub.vauxLost
  repeat'
    first
    | intro _ | simp only [Hub.Sound.of_mk] | with_reducible assumption | with_reducible apply Hub.Sound.emit
    | with_reducible apply Hub.Sound.wr | with_reducible apply Hub.Sound.foldl | dsimp only | split

theorem Hub.Sound.crystalLate (h : Hub) (w_h : h.Sound) : (Hub.crystalLate h).Sound := by
  unfold Hub.crystalLate
  repeat'
    first
    | intro _ | with_reducible assumption | with_reducible apply Hub.Sound.expire | with_reducible apply Hub.Sound.report
    | with_reducible apply Hub.Sound.ite | dsimp only | split

theorem Hub.Sound.pullUp (p : Nat) (h : Hub) (w_h : h.Sound) : (Hub.pullUp p h).Sound := by
  unfold Hub.pullUp
  repeat'
    first
    | intro _ | with_reducible assumption | with_reducible apply Hub.Sound.applyPull | with_reducible apply Hub.Sound.wr
    | with_reducible apply Hub.Sound.ite | dsimp only | split

theorem Hub.Sound.portDieReset (p : Nat) (h : Hub) (w_h : h.Sound) : (Hub.portDieReset p h).Sound := by
  unfold Hub.portDieReset
  repeat'
    first
    | intro _ | with_reducible assumption | with_reducible apply Hub.Sound.wr | with_reducible apply Hub.Sound.countFlap
    | with_reducible apply Hub.Sound.detachEffects | with_reducible apply Hub.Sound.ite | dsimp only | split

theorem Hub.Sound.dieReset (h : Hub) (w_h : h.Sound) : (Hub.dieReset h).Sound := by
  unfold Hub.dieReset
  repeat'
    first
    | intro _ | with_reducible assumption | with_reducible apply Hub.Sound.inc | with_reducible apply Hub.Sound.wr
    | with_reducible apply Hub.Sound.portDieReset | with_reducible apply Hub.Sound.enterUnattached
    | with_reducible apply Hub.Sound.ite | with_reducible apply Hub.Sound.foldl | dsimp only | split

theorem Hub.Sound.crystalGood (h : Hub) (w_h : h.Sound) : (Hub.crystalGood h).Sound := by
  unfold Hub.crystalGood
  repeat'
    first
    | intro _ | with_reducible assumption | with_reducible apply Hub.Sound.wr | with_reducible apply Hub.Sound.ite
    | dsimp only | split

theorem Hub.Sound.pumpOffer (p : Nat) (busy : Bool) (h : Hub) (w_h : h.Sound) : (Hub.pumpOffer p busy h).Sound := by
  unfold Hub.pumpOffer
  repeat'
    first
    | intro _ | with_reducible assumption | with_reducible apply Hub.Sound.arm | with_reducible apply Hub.Sound.applyHold
    | with_reducible apply Hub.Sound.startOffer | with_reducible apply Hub.Sound.wr | with_reducible apply Hub.Sound.ite
    | dsimp only | split

theorem Hub.Sound.noAnswer (p : Nat) (h : Hub) (w_h : h.Sound) : (Hub.noAnswer p h).Sound := by
  unfold Hub.noAnswer
  repeat'
    first
    | intro _ | with_reducible assumption | with_reducible apply Hub.Sound.orderHardReset
    | with_reducible apply Hub.Sound.endExchange | with_reducible apply Hub.Sound.asWait
    | with_reducible apply Hub.Sound.endOwn | with_reducible apply Hub.Sound.wr | with_reducible apply Hub.Sound.ite
    | dsimp only | split

theorem Hub.Sound.noReady (p : Nat) (h : Hub) (w_h : h.Sound) : (Hub.noReady p h).Sound := by
  unfold Hub.noReady
  repeat'
    first
    | intro _ | with_reducible assumption | with_reducible apply Hub.Sound.endExchange
    | with_reducible apply Hub.Sound.cfRecord | with_reducible apply Hub.Sound.dropSwap
    | with_reducible apply Hub.Sound.orderHardReset | with_reducible apply Hub.Sound.ite | dsimp only | split

theorem Hub.Sound.noRequest (p : Nat) (h : Hub) (w_h : h.Sound) : (Hub.noRequest p h).Sound := by
  unfold Hub.noRequest
  repeat'
    first
    | intro _ | with_reducible assumption | with_reducible apply Hub.Sound.endOwn | with_reducible apply Hub.Sound.cfRecord
    | with_reducible apply Hub.Sound.toPrior | dsimp only | split

theorem Hub.Sound.waitsEnd (p : Nat) (by_ : Nat) (h : Hub) (w_h : h.Sound) : (Hub.waitsEnd p by_ h).Sound := by
  unfold Hub.waitsEnd
  repeat'
    first
    | intro _ | with_reducible assumption | with_reducible apply Hub.Sound.wr | with_reducible apply Hub.Sound.noAnswer
    | with_reducible apply Hub.Sound.noReady | with_reducible apply Hub.Sound.noRequest | with_reducible apply Hub.Sound.ite
    | dsimp only | split

theorem Hub.Sound.resend (x : CfTx) (h : Hub) (w_h : h.Sound) : (Hub.resend x h).Sound := by
  unfold Hub.resend
  repeat'
    first
    | intro _ | with_reducible assumption | with_reducible apply Hub.Sound.putOnWire | with_reducible apply Hub.Sound.inc
    | dsimp only | split

theorem Hub.Sound.wireFree (p : Nat) (h : Hub) (w_h : h.Sound) : (Hub.wireFree p h).Sound := by
  unfold Hub.wireFree
  repeat'
    first
    | intro _ | with_reducible assumption | with_reducible apply Hub.Sound.tryStartNew
    | with_reducible apply Hub.Sound.pumpOffer | with_reducible apply Hub.Sound.pumpAns
    | with_reducible apply Hub.Sound.flushHardReset | dsimp only | split

theorem Hub.Sound.abandon (x : CfTx) (h : Hub) (w_h : h.Sound) : (Hub.abandon x h).Sound := by
  unfold Hub.abandon
  repeat'
    first
    | intro _ | simp only [Hub.Sound.of_mk] | with_reducible assumption | with_reducible apply Hub.Sound.cfRecordAt
    | with_reducible apply Hub.Sound.answerResult | with_reducible apply Hub.Sound.endOwn
    | with_reducible apply Hub.Sound.asWait | with_reducible apply Hub.Sound.ite | dsimp only | split

theorem Hub.Sound.receiveTimeout (p : Nat) (mv : Nat) (busy : Bool) (h : Hub) (w_h : h.Sound) : (Hub.receiveTimeout p mv busy
    h).Sound := by
  unfold Hub.receiveTimeout
  repeat'
    first
    | intro _ | with_reducible assumption | with_reducible apply Hub.Sound.wr | with_reducible apply Hub.Sound.flushHardReset
    | with_reducible apply Hub.Sound.wireFree | with_reducible apply Hub.Sound.lostMessage
    | with_reducible apply Hub.Sound.abandon | with_reducible apply Hub.Sound.resend | with_reducible apply Hub.Sound.ite
    | dsimp only | split

theorem Hub.Sound.wireStart (p : Nat) (mv : Nat) (h : Hub) (w_h : h.Sound) : (Hub.wireStart p mv h).Sound := by
  unfold Hub.wireStart
  repeat'
    first
    | intro _ | with_reducible assumption | with_reducible apply Hub.Sound.startPending
    | with_reducible apply Hub.Sound.pumpOffer | with_reducible apply Hub.Sound.pumpAns
    | with_reducible apply Hub.Sound.flushHardReset | dsimp only | split

theorem Hub.Sound.hardResetIn (p : Nat) (h : Hub) (w_h : h.Sound) : (Hub.hardResetIn p h).Sound := by
  unfold Hub.hardResetIn
  repeat'
    first
    | intro _ | with_reducible assumption | with_reducible apply Hub.Sound.inc
    | with_reducible apply Hub.Sound.hardResetEffects | with_reducible apply Hub.Sound.answerResult
    | with_reducible apply Hub.Sound.cfRecord | with_reducible apply Hub.Sound.clear | with_reducible apply Hub.Sound.ite
    | dsimp only | split

theorem Hub.Sound.waitRetryEnd (p : Nat) (type : Nat) (busy : Bool) (h : Hub) (w_h : h.Sound) : (Hub.waitRetryEnd p type busy
    h).Sound := by
  unfold Hub.waitRetryEnd
  repeat'
    first
    | intro _ | with_reducible assumption | with_reducible apply Hub.Sound.expire | with_reducible apply Hub.Sound.tryStartNew
    | with_reducible apply Hub.Sound.pumpAns | dsimp only | split

theorem Hub.Sound.holdLeadEnd (p : Nat) (busy : Bool) (h : Hub) (w_h : h.Sound) : (Hub.holdLeadEnd p busy h).Sound := by
  unfold Hub.holdLeadEnd
  repeat'
    first
    | intro _ | with_reducible assumption | with_reducible apply Hub.Sound.tryStartNew
    | with_reducible apply Hub.Sound.pumpOffer | with_reducible apply Hub.Sound.ite | dsimp only | split

theorem Hub.Sound.messageIn (p : Nat) (header : Nat) (objs : List Nat) (crc : Nat) (pre : Nat) (h : Hub) (w_h : h.Sound) :
    (Hub.messageIn p header objs crc pre h).Sound := by
  unfold Hub.messageIn
  repeat'
    first
    | intro _ | with_reducible assumption | with_reducible apply Hub.Sound.wireFree | with_reducible apply Hub.Sound.waitsEnd
    | with_reducible apply Hub.Sound.receiveCf | with_reducible apply Hub.Sound.hear | with_reducible apply Hub.Sound.ite
    | dsimp only | split

theorem Hub.Sound.goodAckIn (p : Nat) (id : Nat) (tag : Bool) (h : Hub) (w_h : h.Sound) : (Hub.goodAckIn p id tag h).Sound := by
  unfold Hub.goodAckIn
  repeat'
    first
    | intro _ | with_reducible assumption | with_reducible apply Hub.Sound.hear | with_reducible apply Hub.Sound.wireFree
    | with_reducible apply Hub.Sound.waitsEnd | with_reducible apply Hub.Sound.takeGoodAck
    | with_reducible apply Hub.Sound.inc | with_reducible apply Hub.Sound.ite | dsimp only | split

theorem Hub.Sound.groupRelease (g : Nat) (h : Hub) (w_h : h.Sound) : (Hub.groupRelease g h).Sound := by
  unfold Hub.groupRelease
  repeat'
    first
    | intro _ | with_reducible assumption | with_reducible apply Hub.Sound.groupLevel | with_reducible apply Hub.Sound.wrBit
    | dsimp only | split

theorem Hub.Sound.commandRestore (p : Nat) (h : Hub) (w_h : h.Sound) : (Hub.commandRestore p h).Sound := by
  unfold Hub.commandRestore
  repeat'
    first
    | intro _ | with_reducible assumption | with_reducible apply Hub.Sound.powerResult
    | with_reducible apply Hub.Sound.askPowerOn | with_reducible apply Hub.Sound.ite | dsimp only | split

theorem Hub.Sound.limitBroken (last : Nat) (p : Nat) (h : Hub) (w_h : h.Sound) : (Hub.limitBroken last p h).Sound := by
  unfold Hub.limitBroken
  repeat'
    first
    | intro _ | with_reducible assumption | with_reducible apply Hub.Sound.wr | with_reducible apply Hub.Sound.ite
    | dsimp only | split

theorem Hub.Sound.groupAssert (g : Nat) (h : Hub) (w_h : h.Sound) : (Hub.groupAssert g h).Sound := by
  unfold Hub.groupAssert
  repeat'
    first
    | intro _ | with_reducible assumption | with_reducible apply Hub.Sound.groupLevel | with_reducible apply Hub.Sound.wrBit
    | dsimp only | split

theorem Hub.Sound.overridden (p : Nat) (ovr : Bool) (h : Hub) (w_h : h.Sound) : (Hub.overridden p ovr h).Sound := by
  unfold Hub.overridden
  repeat'
    first
    | intro _ | with_reducible assumption | with_reducible apply Hub.Sound.inc | with_reducible apply Hub.Sound.powerResult
    | with_reducible apply Hub.Sound.ite | dsimp only | split

theorem Hub.Sound.protect (p : Nat) (cause : Nat) (peak : Nat) (m : Sense) (busy : Bool) (ovr : Bool) (h : Hub) (w_h : h.Sound) :
    (Hub.protect p cause peak m busy ovr h).Sound := by
  unfold Hub.protect
  repeat'
    first
    | intro _ | with_reducible assumption | with_reducible apply Hub.Sound.holdTrip
    | with_reducible apply Hub.Sound.overridden | with_reducible apply Hub.Sound.trip | with_reducible apply Hub.Sound.sense
    | with_reducible apply Hub.Sound.ite | dsimp only | split

theorem Hub.Sound.guardTrip (p : Nat) (last : Nat) (peak : Nat) (m : Sense) (busy : Bool) (ovr : Bool) (h : Hub) (w_h : h.Sound) :
    (Hub.guardTrip p last peak m busy ovr h).Sound := by
  unfold Hub.guardTrip
  repeat'
    first
    | intro _ | with_reducible assumption | with_reducible apply Hub.Sound.limitBroken
    | with_reducible apply Hub.Sound.protect | with_reducible apply Hub.Sound.sense | with_reducible apply Hub.Sound.ite
    | dsimp only | split

theorem Hub.Sound.fastTrip (p : Nat) (peak : Nat) (m : Sense) (busy : Bool) (ovr : Bool) (h : Hub) (w_h : h.Sound) : (Hub.fastTrip
    p peak m busy ovr h).Sound := by
  unfold Hub.fastTrip
  repeat'
    first
    | intro _ | with_reducible assumption | with_reducible apply Hub.Sound.protect | with_reducible apply Hub.Sound.sense
    | with_reducible apply Hub.Sound.ite | dsimp only | split

theorem Hub.Sound.overCapacity (e : BudgetEntry) (h : Hub) (w_h : h.Sound) : (Hub.overCapacity e h).Sound := by
  unfold Hub.overCapacity
  repeat'
    first
    | intro _ | with_reducible assumption | with_reducible apply Hub.Sound.powerResult | with_reducible apply Hub.Sound.wr
    | with_reducible apply Hub.Sound.contractState | with_reducible apply Hub.Sound.moveRefused
    | with_reducible apply Hub.Sound.wakeRefused | with_reducible apply Hub.Sound.ite | dsimp only | split

theorem Hub.Sound.dischargeOff (p : Nat) (h : Hub) (w_h : h.Sound) : (Hub.dischargeOff p h).Sound := by
  unfold Hub.dischargeOff
  repeat'
    first
    | intro _ | with_reducible assumption | with_reducible apply Hub.Sound.emit | with_reducible apply Hub.Sound.clear
    | with_reducible apply Hub.Sound.ite | dsimp only | split

theorem Hub.Sound.dischargeDone (p : Nat) (m : Sense) (h : Hub) (w_h : h.Sound) : (Hub.dischargeDone p m h).Sound := by
  unfold Hub.dischargeDone
  repeat'
    first
    | intro _ | with_reducible assumption | with_reducible apply Hub.Sound.sense
    | with_reducible apply Hub.Sound.powerReachedOff | with_reducible apply Hub.Sound.dischargeOff
    | with_reducible apply Hub.Sound.ite | dsimp only | split

theorem Hub.Sound.reverseTrip (p : Nat) (since : Nat) (peak : Nat) (m : Sense) (busy : Bool) (ovr : Bool) (h : Hub) (w_h : h.Sound)
    : (Hub.reverseTrip p since peak m busy ovr h).Sound := by
  unfold Hub.reverseTrip
  repeat'
    first
    | intro _ | with_reducible assumption | with_reducible apply Hub.Sound.protect | with_reducible apply Hub.Sound.sense
    | with_reducible apply Hub.Sound.ite | dsimp only | split

theorem Hub.Sound.startReleased (e : BudgetEntry) (h : Hub) (w_h : h.Sound) : (Hub.startReleased e h).Sound := by
  unfold Hub.startReleased
  repeat'
    first
    | intro _ | with_reducible assumption | with_reducible apply Hub.Sound.startPowerOn
    | with_reducible apply Hub.Sound.moveReleased | with_reducible apply Hub.Sound.wakeReleased | dsimp only | split

theorem Hub.Sound.writeLimitSet (p : Nat) (v : Nat) (h : Hub) (w_h : h.Sound) : (Hub.writeLimitSet p v h).Sound := by
  unfold Hub.writeLimitSet
  repeat'
    first
    | intro _ | with_reducible assumption | with_reducible apply Hub.Sound.wr | with_reducible apply Hub.Sound.refreshLimit
    | with_reducible apply Hub.Sound.emit | with_reducible apply Hub.Sound.ite | dsimp only | split

theorem Hub.Sound.drain (h : Hub) (w_h : h.Sound) : (Hub.drain h).Sound := by
  unfold Hub.drain
  repeat'
    first
    | intro _ | with_reducible assumption | with_reducible apply Hub.Sound.budgetTick
    | with_reducible apply Hub.Sound.startReleased | with_reducible apply Hub.Sound.overCapacity
    | with_reducible apply Hub.Sound.foldl | with_reducible refine Hub.Sound.pair (by assumption) ?_
    | with_reducible refine Hub.Sound.pair3 (by assumption) ?_ | with_reducible refine Hub.Sound.pair4 (by assumption) ?_
    | dsimp only | split

theorem Hub.Sound.tick (h : Hub) (w_h : h.Sound) : (Hub.tick h).Sound := by
  unfold Hub.tick
  repeat'
    first
    | intro _ | with_reducible assumption | with_reducible apply Hub.Sound.drain | with_reducible apply Hub.Sound.wr
    | with_reducible apply Hub.Sound.ite | dsimp only | split

theorem Hub.Sound.dischargeTimeout (p : Nat) (m : Sense) (h : Hub) (w_h : h.Sound) : (Hub.dischargeTimeout p m h).Sound := by
  unfold Hub.dischargeTimeout
  repeat'
    first
    | intro _ | with_reducible assumption | with_reducible apply Hub.Sound.expire | with_reducible apply Hub.Sound.sense
    | with_reducible apply Hub.Sound.report | with_reducible apply Hub.Sound.inc | with_reducible apply Hub.Sound.dischargeOff
    | with_reducible apply Hub.Sound.ite | dsimp only | split

theorem Hub.Sound.limitTrip (p : Nat) (last : Nat) (peak : Nat) (m : Sense) (busy : Bool) (ovr : Bool) (h : Hub) (w_h : h.Sound) :
    (Hub.limitTrip p last peak m busy ovr h).Sound := by
  unfold Hub.limitTrip
  repeat'
    first
    | intro _ | with_reducible assumption | with_reducible apply Hub.Sound.limitBroken
    | with_reducible apply Hub.Sound.protect | with_reducible apply Hub.Sound.sense | with_reducible apply Hub.Sound.ite
    | dsimp only | split

theorem Hub.Sound.inrushSettled (p : Nat) (since : Nat) (m : Sense) (h : Hub) (w_h : h.Sound) : (Hub.inrushSettled p since m
    h).Sound := by
  unfold Hub.inrushSettled
  repeat'
    first
    | intro _ | with_reducible assumption | with_reducible apply Hub.Sound.sense | with_reducible apply Hub.Sound.powerResult
    | with_reducible apply Hub.Sound.refreshLimit | with_reducible apply Hub.Sound.wr | with_reducible apply Hub.Sound.emit
    | with_reducible apply Hub.Sound.contractState | with_reducible apply Hub.Sound.hubPowerUp
    | with_reducible apply Hub.Sound.ite | dsimp only | split

theorem Hub.Sound.commandOff (p : Nat) (h : Hub) (w_h : h.Sound) : (Hub.commandOff p h).Sound := by
  unfold Hub.commandOff
  repeat'
    first
    | intro _ | with_reducible assumption | with_reducible apply Hub.Sound.powerResult
    | with_reducible apply Hub.Sound.withdrawPowerOn | with_reducible apply Hub.Sound.wr
    | with_reducible apply Hub.Sound.turnOff | with_reducible apply Hub.Sound.ite | dsimp only | split

theorem Hub.Sound.limitEntry (p : Nat) (left : Nat) (m : Sense) (h : Hub) (w_h : h.Sound) : (Hub.limitEntry p left m h).Sound :=
    by
  unfold Hub.limitEntry
  repeat'
    first
    | intro _ | with_reducible assumption | with_reducible apply Hub.Sound.limitBroken | with_reducible apply Hub.Sound.sense
    | with_reducible apply Hub.Sound.inc | with_reducible apply Hub.Sound.wr | with_reducible apply Hub.Sound.ite | dsimp only
    | split

theorem Hub.Sound.vbusLow (p : Nat) (m : Sense) (h : Hub) (w_h : h.Sound) : (Hub.vbusLow p m h).Sound := by
  unfold Hub.vbusLow
  repeat'
    first
    | intro _ | with_reducible assumption | with_reducible apply Hub.Sound.sense
    | with_reducible apply Hub.Sound.powerReachedOff | with_reducible apply Hub.Sound.ite | dsimp only | split

theorem Hub.Sound.answerDeadline (p : Nat) (busy : Bool) (h : Hub) (w_h : h.Sound) : (Hub.answerDeadline p busy h).Sound := by
  unfold Hub.answerDeadline
  repeat'
    first
    | intro _ | with_reducible assumption | with_reducible apply Hub.Sound.tryStartNew
    | with_reducible apply Hub.Sound.deadlines | with_reducible apply Hub.Sound.ite | dsimp only | split

theorem Hub.Sound.cutMove (p : Nat) (offCause : Nat) (abort : Nat) (h : Hub) (w_h : h.Sound) : (Hub.cutMove p offCause abort
    h).Sound := by
  unfold Hub.cutMove
  repeat'
    first
    | intro _ | with_reducible assumption | with_reducible apply Hub.Sound.recordAbort
    | with_reducible apply Hub.Sound.turnOff | with_reducible apply Hub.Sound.contractState
    | with_reducible apply Hub.Sound.endExchange | with_reducible apply Hub.Sound.discardContract | dsimp only | split

theorem Hub.Sound.detachAbort (p : Nat) (m : Sense) (ovr : Bool) (h : Hub) (w_h : h.Sound) : (Hub.detachAbort p m ovr h).Sound
    := by
  unfold Hub.detachAbort
  repeat'
    first
    | intro _ | with_reducible assumption | with_reducible apply Hub.Sound.sense | with_reducible apply Hub.Sound.overridden
    | with_reducible apply Hub.Sound.wr | with_reducible apply Hub.Sound.cutMove | with_reducible apply Hub.Sound.joinCause
    | with_reducible apply Hub.Sound.ite | dsimp only | split

theorem Hub.Sound.slewGuard (p : Nat) (since : Nat) (m : Sense) (busy : Bool) (ovr : Bool) (h : Hub) (w_h : h.Sound) :
    (Hub.slewGuard p since m busy ovr h).Sound := by
  unfold Hub.slewGuard
  repeat'
    first
    | intro _ | with_reducible assumption | with_reducible apply Hub.Sound.sense | with_reducible apply Hub.Sound.overridden
    | with_reducible apply Hub.Sound.orderHardReset | with_reducible apply Hub.Sound.cutMove
    | with_reducible apply Hub.Sound.joinCause | with_reducible apply Hub.Sound.ite | dsimp only | split

theorem Hub.Sound.detachGlitch (p : Nat) (busy : Bool) (h : Hub) (w_h : h.Sound) : (Hub.detachGlitch p busy h).Sound := by
  unfold Hub.detachGlitch
  repeat'
    first
    | intro _ | with_reducible assumption | with_reducible apply Hub.Sound.wr | with_reducible apply Hub.Sound.orderHardReset
    | with_reducible apply Hub.Sound.powerResult | with_reducible apply Hub.Sound.ite | dsimp only | split

theorem Hub.Sound.lineTest (p : Nat) (trace : Nat) (loop : Nat) (h : Hub) (w_h : h.Sound) : (Hub.lineTest p trace loop h).Sound :=
    by
  unfold Hub.lineTest
  repeat'
    first
    | intro _ | with_reducible assumption | with_reducible apply Hub.Sound.wr | with_reducible apply Hub.Sound.ite
    | dsimp only | split

theorem Hub.Sound.answerHardReset (p : Nat) (busy : Bool) (h : Hub) (w_h : h.Sound) : (Hub.answerHardReset p busy h).Sound := by
  unfold Hub.answerHardReset
  repeat'
    first
    | intro _ | with_reducible assumption | with_reducible apply Hub.Sound.orderHardReset
    | with_reducible apply Hub.Sound.answerResult | with_reducible apply Hub.Sound.ite | dsimp only | split

theorem Hub.Sound.cfAnswer (p : Nat) (v : Nat) (busy : Bool) (h : Hub) (w_h : h.Sound) : (Hub.cfAnswer p v busy h).Sound := by
  unfold Hub.cfAnswer
  repeat'
    first
    | intro _ | with_reducible assumption | with_reducible apply Hub.Sound.newExchange
    | with_reducible apply Hub.Sound.answerWrite | with_reducible apply Hub.Sound.answerHardReset | dsimp only | split

theorem Hub.Sound.cfsFault (p : Nat) (h : Hub) (w_h : h.Sound) : (Hub.cfsFault p h).Sound := by
  unfold Hub.cfsFault
  repeat'
    first
    | intro _ | with_reducible assumption | with_reducible apply Hub.Sound.report | with_reducible apply Hub.Sound.emit
    | with_reducible apply Hub.Sound.wr | with_reducible apply Hub.Sound.ite | dsimp only | split

theorem Hub.Sound.serialStart (p : Nat) (h : Hub) (w_h : h.Sound) : (Hub.serialStart p h).Sound := by
  unfold Hub.serialStart
  repeat'
    first
    | intro _ | with_reducible assumption | with_reducible apply Hub.Sound.releaseCopy
    | with_reducible apply Hub.Sound.countOut | with_reducible apply Hub.Sound.emit | with_reducible apply Hub.Sound.ite
    | with_reducible refine Hub.Sound.pair (by assumption) ?_ | with_reducible refine Hub.Sound.pair3 (by assumption) ?_
    | with_reducible refine Hub.Sound.pair4 (by assumption) ?_ | dsimp only | split

theorem Hub.Sound.serialClose (p : Nat) (flags : Nat) (count : Nat) (stamp : Nat) (chars : Nat) (h : Hub) (w_h : h.Sound) :
    (Hub.serialClose p flags count stamp chars h).Sound := by
  unfold Hub.serialClose
  repeat'
    first
    | intro _ | with_reducible assumption | with_reducible apply Hub.Sound.enterFrame | with_reducible apply Hub.Sound.ite
    | with_reducible refine Hub.Sound.pair (by assumption) ?_ | with_reducible refine Hub.Sound.pair3 (by assumption) ?_
    | with_reducible refine Hub.Sound.pair4 (by assumption) ?_ | dsimp only | split

theorem Hub.Sound.railReached (p : Nat) (m : Sense) (h : Hub) (w_h : h.Sound) : (Hub.railReached p m h).Sound := by
  unfold Hub.railReached
  repeat'
    first
    | intro _ | with_reducible assumption | with_reducible apply Hub.Sound.sense | with_reducible apply Hub.Sound.emit
    | with_reducible apply Hub.Sound.wr | with_reducible apply Hub.Sound.ite | dsimp only | split

theorem Hub.Sound.railSettled (p : Nat) (energy : Nat) (h : Hub) (w_h : h.Sound) : (Hub.railSettled p energy h).Sound := by
  unfold Hub.railSettled
  repeat'
    first
    | intro _ | with_reducible assumption | with_reducible apply Hub.Sound.wr | with_reducible apply Hub.Sound.spoil
    | with_reducible apply Hub.Sound.setContract | with_reducible apply Hub.Sound.sendReady
    | with_reducible apply Hub.Sound.emit | dsimp only | split

theorem Hub.Sound.moveSettled (p : Nat) (since : Nat) (m : Sense) (h : Hub) (w_h : h.Sound) : (Hub.moveSettled p since m h).Sound
    := by
  unfold Hub.moveSettled
  repeat'
    first
    | intro _ | with_reducible assumption | with_reducible apply Hub.Sound.sense | with_reducible apply Hub.Sound.railSettled
    | with_reducible apply Hub.Sound.sendReady | with_reducible apply Hub.Sound.wr
    | with_reducible apply Hub.Sound.setContract | with_reducible apply Hub.Sound.ite | dsimp only | split

theorem Hub.Sound.firstCapsEnd (p : Nat) (busy : Bool) (h : Hub) (w_h : h.Sound) : (Hub.firstCapsEnd p busy h).Sound := by
  unfold Hub.firstCapsEnd
  repeat'
    first
    | intro _ | with_reducible assumption | with_reducible apply Hub.Sound.expire | with_reducible apply Hub.Sound.pumpOffer
    | with_reducible apply Hub.Sound.wr | with_reducible apply Hub.Sound.ite | dsimp only | split

theorem Hub.Sound.waitPassed (p : Nat) (k : Nat) (f : Hub → Hub) (busy : Bool) (h : Hub) (w_f : ∀ (y0 : Hub), y0.Sound → (f
    y0).Sound) (w_h : h.Sound) : (Hub.waitPassed p k f busy h).Sound := by
  unfold Hub.waitPassed
  repeat'
    first
    | intro _ | with_reducible assumption | with_reducible apply Hub.Sound.expire | with_reducible apply Hub.Sound.wireFree
    | with_reducible apply w_f | with_reducible apply Hub.Sound.ite | dsimp only | split

theorem Hub.Sound.exchangeStart (p : Nat) (mv : Nat) (busy : Bool) (h : Hub) (w_h : h.Sound) : (Hub.exchangeStart p mv busy
    h).Sound := by
  unfold Hub.exchangeStart
  repeat'
    first
    | intro _ | with_reducible assumption | with_reducible apply Hub.Sound.wireStart | with_reducible apply Hub.Sound.ite
    | dsimp only | split

theorem Hub.Sound.writeCfsEnable (p : Nat) (v : Nat) (h : Hub) (w_h : h.Sound) : (Hub.writeCfsEnable p v h).Sound := by
  unfold Hub.writeCfsEnable
  repeat'
    first
    | intro _ | with_reducible assumption | with_reducible apply Hub.Sound.wr | with_reducible apply Hub.Sound.cfsOff
    | with_reducible apply Hub.Sound.ite | dsimp only | split

theorem Hub.Sound.srcRecoverEnd (p : Nat) (m : Sense) (h : Hub) (w_h : h.Sound) : (Hub.srcRecoverEnd p m h).Sound := by
  unfold Hub.srcRecoverEnd
  repeat'
    first
    | intro _ | with_reducible assumption | with_reducible apply Hub.Sound.expire | with_reducible apply Hub.Sound.sense
    | with_reducible apply Hub.Sound.arm | with_reducible apply Hub.Sound.restorePower | with_reducible apply Hub.Sound.ite
    | dsimp only | split

theorem Hub.Sound.cfsRestart (p : Nat) (h : Hub) (w_h : h.Sound) : (Hub.cfsRestart p h).Sound := by
  unfold Hub.cfsRestart
  repeat'
    first
    | intro _ | with_reducible assumption | with_reducible apply Hub.Sound.wr | with_reducible apply Hub.Sound.cfsOn
    | with_reducible apply Hub.Sound.ite | dsimp only | split

theorem Hub.Sound.softResetIn (p : Nat) (id : Nat) (pre : Nat) (h : Hub) (w_h : h.Sound) : (Hub.softResetIn p id pre h).Sound := by
  unfold Hub.softResetIn
  repeat'
    first
    | intro _ | with_reducible assumption | with_reducible apply Hub.Sound.messageIn | dsimp only | split

theorem Hub.Sound.cfsStable (p : Nat) (h : Hub) (w_h : h.Sound) : (Hub.cfsStable p h).Sound := by
  unfold Hub.cfsStable
  repeat'
    first
    | intro _ | with_reducible assumption | with_reducible apply Hub.Sound.expire | with_reducible apply Hub.Sound.stop
    | with_reducible apply Hub.Sound.sendCf | with_reducible apply Hub.Sound.ite | dsimp only | split

theorem Hub.Sound.lockLost (c : Nat) (h : Hub) (w_h : h.Sound) : (Hub.lockLost c h).Sound := by
  unfold Hub.lockLost
  repeat'
    first
    | intro _ | with_reducible assumption | with_reducible apply Hub.Sound.report | with_reducible apply Hub.Sound.wrBit
    | with_reducible apply Hub.Sound.ite | dsimp only | split

theorem Hub.Sound.crystalLost (h : Hub) (w_h : h.Sound) : (Hub.crystalLost h).Sound := by
  unfold Hub.crystalLost
  repeat'
    first
    | intro _ | with_reducible assumption | with_reducible apply Hub.Sound.report | with_reducible apply Hub.Sound.wr
    | with_reducible apply Hub.Sound.ite | dsimp only | split

theorem Hub.Sound.armedUpstream (h : Hub) (w_h : h.Sound) : (Hub.armedUpstream h).Sound := by
  unfold Hub.armedUpstream
  repeat'
    first
    | intro _ | with_reducible assumption | with_reducible apply Hub.Sound.armedTrigger | with_reducible apply Hub.Sound.ite
    | dsimp only | split

theorem Hub.Sound.armedHost (h : Hub) (w_h : h.Sound) : (Hub.armedHost h).Sound := by
  unfold Hub.armedHost
  repeat'
    first
    | intro _ | with_reducible assumption | with_reducible apply Hub.Sound.armedTrigger | with_reducible apply Hub.Sound.ite
    | dsimp only | split

theorem Hub.Sound.domainCmd (v : Nat) (barred : List Nat) (h : Hub) (w_h : h.Sound) : (Hub.domainCmd v barred h).Sound := by
  unfold Hub.domainCmd
  repeat'
    first
    | intro _ | with_reducible assumption | with_reducible apply Hub.Sound.beginGroup
    | with_reducible refine Hub.Sound.pair (by assumption) ?_ | with_reducible refine Hub.Sound.pair3 (by assumption) ?_
    | with_reducible refine Hub.Sound.pair4 (by assumption) ?_ | dsimp only | split

theorem Hub.Sound.quartzLeave (state : Nat) (cause : Nat) (h : Hub) (w_h : h.Sound) : (Hub.quartzLeave state cause h).Sound := by
  unfold Hub.quartzLeave
  repeat'
    first
    | intro _ | simp only [Hub.Sound.of_mk] | with_reducible assumption | with_reducible apply Hub.Sound.wr
    | with_reducible apply Hub.Sound.closeBatch | with_reducible apply Hub.Sound.ite | dsimp only | split

theorem Hub.Sound.quartzStop (h : Hub) (w_h : h.Sound) : (Hub.quartzStop h).Sound := by
  unfold Hub.quartzStop
  repeat'
    first
    | intro _ | with_reducible assumption | with_reducible apply Hub.Sound.wr | with_reducible apply Hub.Sound.quartzLeave
    | with_reducible apply Hub.Sound.ite | dsimp only | split

theorem Hub.Sound.clearEntries (h : Hub) (w_h : h.Sound) : (Hub.clearEntries h).Sound := by
  unfold Hub.clearEntries
  repeat'
    first
    | intro _ | with_reducible assumption | with_reducible apply Hub.Sound.wipe | dsimp only | split

theorem Hub.Sound.judgeGap (j : PollJob) (h : Hub) (w_h : h.Sound) : (Hub.judgeGap j h).Sound := by
  unfold Hub.judgeGap
  repeat'
    first
    | intro _ | with_reducible assumption | with_reducible apply Hub.Sound.wr | with_reducible apply Hub.Sound.ite
    | dsimp only | split

theorem Hub.Sound.suppressReport (e : Nat) (h : Hub) (w_h : h.Sound) : (Hub.suppressReport e h).Sound := by
  unfold Hub.suppressReport
  repeat'
    first
    | intro _ | with_reducible assumption | with_reducible apply Hub.Sound.inc | with_reducible apply Hub.Sound.wr
    | dsimp only | split

theorem Hub.Sound.addReport (stamp : Nat) (record : Nat) (h : Hub) (w_h : h.Sound) : (Hub.addReport stamp record h).Sound := by
  unfold Hub.addReport
  repeat'
    first
    | intro _ | simp only [Hub.Sound.of_mk] | with_reducible assumption | with_reducible apply Hub.Sound.closeBatch
    | with_reducible apply Hub.Sound.inc | with_reducible apply Hub.Sound.wr | with_reducible apply Hub.Sound.ite | dsimp only
    | split

theorem Hub.Sound.countBudget (stamp : Nat) (h : Hub) (w_h : h.Sound) : (Hub.countBudget stamp h).Sound := by
  unfold Hub.countBudget
  repeat'
    first
    | intro _ | with_reducible assumption | with_reducible apply Hub.Sound.wr | with_reducible apply Hub.Sound.ite
    | dsimp only | split

theorem Hub.Sound.sendReport (j : PollJob) (flags : Nat) (len : Nat) (value : Nat) (h : Hub) (w_h : h.Sound) : (Hub.sendReport j
    flags len value h).Sound := by
  unfold Hub.sendReport
  repeat'
    first
    | intro _ | with_reducible assumption | with_reducible apply Hub.Sound.addReport
    | with_reducible apply Hub.Sound.countBudget | with_reducible apply Hub.Sound.wr | with_reducible apply Hub.Sound.ite
    | dsimp only | split

theorem Hub.Sound.judgeValue (j : PollJob) (h : Hub) (w_h : h.Sound) : (Hub.judgeValue j h).Sound := by
  unfold Hub.judgeValue
  repeat'
    first
    | intro _ | with_reducible assumption | with_reducible apply Hub.Sound.wr | with_reducible apply Hub.Sound.suppressReport
    | with_reducible apply Hub.Sound.sendReport | with_reducible apply Hub.Sound.ite | dsimp only | split

theorem Hub.Sound.judgeError (j : PollJob) (h : Hub) (w_h : h.Sound) : (Hub.judgeError j h).Sound := by
  unfold Hub.judgeError
  repeat'
    first
    | intro _ | with_reducible assumption | with_reducible apply Hub.Sound.wr | with_reducible apply Hub.Sound.sendReport
    | with_reducible apply Hub.Sound.ite | dsimp only | split

theorem Hub.Sound.judgePoll (j : PollJob) (h : Hub) (w_h : h.Sound) : (Hub.judgePoll j h).Sound := by
  unfold Hub.judgePoll
  repeat'
    first
    | intro _ | with_reducible assumption | with_reducible apply Hub.Sound.judgeGap | with_reducible apply Hub.Sound.wr
    | with_reducible apply Hub.Sound.judgeValue | with_reducible apply Hub.Sound.judgeError
    | with_reducible apply Hub.Sound.ite | dsimp only | split

theorem Hub.Sound.completePoll (p : Nat) (h : Hub) (w_h : h.Sound) : (Hub.completePoll p h).Sound := by
  unfold Hub.completePoll
  repeat'
    first
    | intro _ | simp only [Hub.Sound.of_mk] | with_reducible assumption | with_reducible apply Hub.Sound.closeAfterPoll
    | with_reducible apply Hub.Sound.judgePoll | dsimp only | split

theorem Hub.Sound.pollEnds (p : Nat) (r : TxnResult) (h : Hub) (w_h : h.Sound) : (Hub.pollEnds p r h).Sound := by
  unfold Hub.pollEnds
  repeat'
    first
    | intro _ | simp only [Hub.Sound.of_mk] | with_reducible assumption | with_reducible apply Hub.Sound.ite
    | with_reducible refine Hub.Sound.pair (by assumption) ?_ | with_reducible refine Hub.Sound.pair3 (by assumption) ?_
    | with_reducible refine Hub.Sound.pair4 (by assumption) ?_ | dsimp only | split

theorem Hub.Sound.syncTo (o : Int) (h : Hub) (w_h : h.Sound) : (Hub.syncTo o h).Sound := by
  unfold Hub.syncTo
  repeat'
    first
    | intro _ | with_reducible assumption | with_reducible apply Hub.Sound.wr | with_reducible apply Hub.Sound.inc
    | with_reducible apply Hub.Sound.ite | dsimp only | split

theorem Hub.Sound.skipStep (lo : Nat) (hi : Nat) (h : Hub) (x : Nat × Nat) (w_h : h.Sound) : (Hub.skipStep lo hi h x).Sound := by
  unfold Hub.skipStep
  repeat'
    first
    | intro _ | with_reducible assumption | with_reducible apply Hub.Sound.add | with_reducible apply Hub.Sound.wr
    | with_reducible apply Hub.Sound.ite | with_reducible refine Hub.Sound.pair (by assumption) ?_
    | with_reducible refine Hub.Sound.pair3 (by assumption) ?_ | with_reducible refine Hub.Sound.pair4 (by assumption) ?_
    | dsimp only | split

theorem Hub.Sound.stepTimebase (h : Hub) (w_h : h.Sound) : (Hub.stepTimebase h).Sound := by
  unfold Hub.stepTimebase
  repeat'
    first
    | intro _ | with_reducible assumption | with_reducible apply Hub.Sound.clear | with_reducible apply Hub.Sound.skipStep
    | with_reducible apply Hub.Sound.wr | with_reducible apply Hub.Sound.setTimebase
    | with_reducible apply Hub.Sound.closeBatch | with_reducible apply Hub.Sound.inc | with_reducible apply Hub.Sound.ite
    | with_reducible apply Hub.Sound.foldl | with_reducible refine Hub.Sound.pair (by assumption) ?_
    | with_reducible refine Hub.Sound.pair3 (by assumption) ?_ | with_reducible refine Hub.Sound.pair4 (by assumption) ?_
    | dsimp only | split

theorem Hub.Sound.raisePeaks (due : List (Nat × Nat)) (h : Hub) (w_h : h.Sound) : (Hub.raisePeaks due h).Sound := by
  unfold Hub.raisePeaks
  repeat'
    first
    | intro _ | with_reducible assumption | with_reducible apply Hub.Sound.wr | with_reducible apply Hub.Sound.ite
    | with_reducible apply Hub.Sound.foldl | with_reducible refine Hub.Sound.pair (by assumption) ?_
    | with_reducible refine Hub.Sound.pair3 (by assumption) ?_ | with_reducible refine Hub.Sound.pair4 (by assumption) ?_
    | dsimp only | split

theorem Hub.Sound.timeSet (v : Nat) (h : Hub) (w_h : h.Sound) : (Hub.timeSet v h).Sound := by
  unfold Hub.timeSet
  repeat'
    first
    | intro _ | with_reducible assumption | with_reducible apply Hub.Sound.wr | dsimp only | split

theorem Hub.Sound.syncLapse (h : Hub) (w_h : h.Sound) : (Hub.syncLapse h).Sound := by
  unfold Hub.syncLapse
  repeat'
    first
    | intro _ | with_reducible assumption | with_reducible apply Hub.Sound.expire | with_reducible apply Hub.Sound.wr
    | with_reducible apply Hub.Sound.ite | dsimp only | split

theorem Hub.Sound.adjustRate (h : Hub) (w_h : h.Sound) : (Hub.adjustRate h).Sound := by
  unfold Hub.adjustRate
  repeat'
    first
    | intro _ | with_reducible assumption | with_reducible apply Hub.Sound.fresh | with_reducible apply Hub.Sound.rebase
    | with_reducible apply Hub.Sound.wr | with_reducible refine Hub.Sound.pair (by assumption) ?_
    | with_reducible refine Hub.Sound.pair3 (by assumption) ?_ | with_reducible refine Hub.Sound.pair4 (by assumption) ?_
    | dsimp only | split

theorem Hub.Sound.acceptTime (o : Int) (h : Hub) (w_h : h.Sound) : (Hub.acceptTime o h).Sound := by
  unfold Hub.acceptTime
  repeat'
    first
    | intro _ | with_reducible assumption | with_reducible apply Hub.Sound.syncLapse
    | with_reducible apply Hub.Sound.adjustRate | with_reducible apply Hub.Sound.wr | with_reducible apply Hub.Sound.syncTo
    | with_reducible apply Hub.Sound.clear | with_reducible apply Hub.Sound.arm | with_reducible apply Hub.Sound.ite
    | dsimp only | split

theorem Hub.Sound.slewTick (h : Hub) (w_h : h.Sound) : (Hub.slewTick h).Sound := by
  unfold Hub.slewTick
  repeat'
    first
    | intro _ | with_reducible assumption | with_reducible apply Hub.Sound.wr | with_reducible apply Hub.Sound.setTimebase
    | with_reducible apply Hub.Sound.ite | dsimp only | split

theorem Hub.Sound.pendStart (m : Nat) (h : Hub) (w_h : h.Sound) : (Hub.pendStart m h).Sound := by
  unfold Hub.pendStart
  repeat'
    first
    | intro _ | with_reducible assumption | with_reducible apply Hub.Sound.wr | dsimp only | split

theorem Hub.Sound.quartzCmd (c : Nat) (h : Hub) (w_h : h.Sound) : (Hub.quartzCmd c h).Sound := by
  unfold Hub.quartzCmd
  repeat'
    first
    | intro _ | with_reducible assumption | with_reducible apply Hub.Sound.wr | with_reducible apply Hub.Sound.pendStart
    | with_reducible apply Hub.Sound.quartzStop | with_reducible apply Hub.Sound.quartzLeave
    | with_reducible apply Hub.Sound.ite | dsimp only | split

theorem Hub.Sound.quartzWrite (c : Nat) (h : Hub) (w_h : h.Sound) : (Hub.quartzWrite c h).Sound := by
  unfold Hub.quartzWrite
  repeat'
    first
    | intro _ | with_reducible assumption | with_reducible apply Hub.Sound.wrote | with_reducible apply Hub.Sound.quartzCmd
    | with_reducible apply Hub.Sound.keep | with_reducible apply Hub.Sound.ite | dsimp only | split

theorem Hub.Sound.clearEntry (e : Nat) (h : Hub) (w_h : h.Sound) : (Hub.clearEntry e h).Sound := by
  unfold Hub.clearEntry
  repeat'
    first
    | intro _ | with_reducible assumption | with_reducible apply Hub.Sound.wr | dsimp only | split

theorem Hub.Sound.entryTakes (e : Nat) (v : Nat) (h : Hub) (w_h : h.Sound) : (Hub.entryTakes e v h).Sound := by
  unfold Hub.entryTakes
  repeat'
    first
    | intro _ | simp only [Hub.Sound.of_mk] | with_reducible assumption | with_reducible apply Hub.Sound.clearEntry
    | with_reducible apply Hub.Sound.wr | dsimp only | split

theorem Hub.Sound.timeTrim (v : Nat) (h : Hub) (w_h : h.Sound) : (Hub.timeTrim v h).Sound := by
  unfold Hub.timeTrim
  repeat'
    first
    | intro _ | with_reducible assumption | with_reducible apply Hub.Sound.wr | with_reducible apply Hub.Sound.rebase
    | dsimp only | split

theorem Hub.Sound.countOverrun (e : Nat) (p : Nat) (h : Hub) (w_h : h.Sound) : (Hub.countOverrun e p h).Sound := by
  unfold Hub.countOverrun
  repeat'
    first
    | intro _ | with_reducible assumption | with_reducible apply Hub.Sound.inc | with_reducible apply Hub.Sound.wr
    | dsimp only | split

theorem Hub.Sound.takeWrites (k : Nat) (h : Hub) (w_h : h.Sound) : (Hub.takeWrites k h).Sound := by
  unfold Hub.takeWrites
  repeat'
    first
    | intro _ | simp only [Hub.Sound.of_mk] | with_reducible assumption | with_reducible apply Hub.Sound.entryTakes
    | with_reducible apply Hub.Sound.foldl | dsimp only | split

theorem Hub.Sound.queuePoll (e : Nat) (v : Nat) (k : Nat) (p : Nat) (h : Hub) (w_h : h.Sound) : (Hub.queuePoll e v k p h).Sound := by
  unfold Hub.queuePoll
  repeat'
    first
    | intro _ | simp only [Hub.Sound.of_mk] | with_reducible assumption | with_reducible apply Hub.Sound.countOverrun
    | with_reducible apply Hub.Sound.ite | dsimp only | split

theorem Hub.Sound.fallDue (k : Nat) (h : Hub) (x : Nat × Nat) (w_h : h.Sound) : (Hub.fallDue k h x).Sound := by
  unfold Hub.fallDue
  repeat'
    first
    | intro _ | with_reducible assumption | with_reducible apply Hub.Sound.countSkip
    | with_reducible apply Hub.Sound.queuePoll | with_reducible refine Hub.Sound.pair (by assumption) ?_
    | with_reducible refine Hub.Sound.pair3 (by assumption) ?_ | with_reducible refine Hub.Sound.pair4 (by assumption) ?_
    | dsimp only | split

theorem Hub.Sound.microframe (h : Hub) (w_h : h.Sound) : (Hub.microframe h).Sound := by
  unfold Hub.microframe
  repeat'
    first
    | intro _ | with_reducible assumption | with_reducible apply Hub.Sound.wr | with_reducible apply Hub.Sound.takeWrites
    | with_reducible apply Hub.Sound.clearEntries | with_reducible apply Hub.Sound.fallDue
    | with_reducible apply Hub.Sound.raisePeaks | with_reducible apply Hub.Sound.ite | with_reducible apply Hub.Sound.foldl
    | with_reducible refine Hub.Sound.pair (by assumption) ?_ | with_reducible refine Hub.Sound.pair3 (by assumption) ?_
    | with_reducible refine Hub.Sound.pair4 (by assumption) ?_ | dsimp only | split

theorem Hub.Sound.writePoll (e : Nat) (v : Nat) (h : Hub) (w_h : h.Sound) : (Hub.writePoll e v h).Sound := by
  unfold Hub.writePoll
  repeat'
    first
    | intro _ | simp only [Hub.Sound.of_mk] | with_reducible assumption | dsimp only | split

theorem Hub.Sound.endWindow (h : Hub) (w_h : h.Sound) : (Hub.endWindow h).Sound := by
  unfold Hub.endWindow
  repeat'
    first
    | intro _ | with_reducible assumption | with_reducible apply Hub.Sound.closeBatch | with_reducible apply Hub.Sound.ite
    | dsimp only | split

theorem Hub.Sound.timeMessage (p : Nat) (time : Nat) (delay : Option Nat) (rx : Nat) (h : Hub) (w_h : h.Sound) : (Hub.timeMessage p
    time delay rx h).Sound := by
  unfold Hub.timeMessage
  repeat'
    first
    | intro _ | with_reducible assumption | with_reducible apply Hub.Sound.inc | with_reducible apply Hub.Sound.acceptTime
    | with_reducible apply Hub.Sound.ite | dsimp only | split

theorem Hub.Sound.standbyUp (p : Nat) (h : Hub) (w_h : h.Sound) : (Hub.standbyUp p h).Sound := by
  unfold Hub.standbyUp
  repeat'
    first
    | intro _ | with_reducible assumption | with_reducible apply Hub.Sound.hierRecord | with_reducible apply Hub.Sound.wr
    | with_reducible apply Hub.Sound.ite | dsimp only | split

theorem Hub.Sound.freeAllSlots (h : Hub) (w_h : h.Sound) : (Hub.freeAllSlots h).Sound := by
  unfold Hub.freeAllSlots
  repeat'
    first
    | intro _ | simp only [Hub.Sound.of_mk] | with_reducible assumption | with_reducible apply Hub.Sound.add | dsimp only
    | split

theorem Hub.Sound.recordEnd (x : OdTxn) (outcome : Nat) (code : Nat) (write : Nat) (h : Hub) (w_h : h.Sound) : (Hub.recordEnd x
    outcome code write h).Sound := by
  unfold Hub.recordEnd
  repeat'
    first
    | intro _ | with_reducible assumption | with_reducible apply Hub.Sound.wr | with_reducible apply Hub.Sound.inc
    | with_reducible apply Hub.Sound.ite | with_reducible refine Hub.Sound.pair (by assumption) ?_
    | with_reducible refine Hub.Sound.pair3 (by assumption) ?_ | with_reducible refine Hub.Sound.pair4 (by assumption) ?_
    | dsimp only | split

theorem Hub.Sound.refreshOdOpen (h : Hub) (w_h : h.Sound) : (Hub.refreshOdOpen h).Sound := by
  unfold Hub.refreshOdOpen
  repeat'
    first
    | intro _ | with_reducible assumption | with_reducible apply Hub.Sound.wr | with_reducible apply Hub.Sound.ite
    | dsimp only | split

theorem Hub.Sound.dropTxn (x : OdTxn) (outcome : Nat) (h : Hub) (w_h : h.Sound) : (Hub.dropTxn x outcome h).Sound := by
  unfold Hub.dropTxn
  repeat'
    first
    | intro _ | simp only [Hub.Sound.of_mk] | with_reducible assumption | with_reducible apply Hub.Sound.recordEnd
    | with_reducible apply Hub.Sound.refreshOdOpen | with_reducible apply Hub.Sound.wr | with_reducible apply Hub.Sound.ite
    | dsimp only | split

theorem Hub.Sound.dropTrunkTxn (p : Nat) (outcome : Nat) (h : Hub) (w_h : h.Sound) : (Hub.dropTrunkTxn p outcome h).Sound := by
  unfold Hub.dropTrunkTxn
  repeat'
    first
    | intro _ | with_reducible assumption | with_reducible apply Hub.Sound.dropTxn | dsimp only | split

theorem Hub.Sound.dropControl (p : Nat) (h : Hub) (w_h : h.Sound) : (Hub.dropControl p h).Sound := by
  unfold Hub.dropControl
  repeat'
    first
    | intro _ | simp only [Hub.Sound.of_mk] | with_reducible assumption | dsimp only | split

theorem Hub.Sound.upstreamReset (h : Hub) (w_h : h.Sound) : (Hub.upstreamReset h).Sound := by
  unfold Hub.upstreamReset
  repeat'
    first
    | intro _ | with_reducible assumption | with_reducible apply Hub.Sound.freeAllSlots
    | with_reducible apply Hub.Sound.dropTrunkTxn | with_reducible apply Hub.Sound.dropControl
    | with_reducible apply Hub.Sound.quartzLeave | with_reducible apply Hub.Sound.inc | with_reducible apply Hub.Sound.wr
    | with_reducible apply Hub.Sound.ite | dsimp only | split

theorem Hub.Sound.countFault (p : Nat) (f : LineFault) (h : Hub) (w_h : h.Sound) : (Hub.countFault p f h).Sound := by
  unfold Hub.countFault
  repeat'
    first
    | intro _ | with_reducible assumption | with_reducible apply Hub.Sound.wr | with_reducible apply Hub.Sound.inc
    | with_reducible apply Hub.Sound.linkError | dsimp only | split

theorem Hub.Sound.reservedPacket (p : Nat) (h : Hub) (w_h : h.Sound) : (Hub.reservedPacket p h).Sound := by
  unfold Hub.reservedPacket
  repeat'
    first
    | intro _ | with_reducible assumption | with_reducible apply Hub.Sound.countFault | dsimp only | split

theorem Hub.Sound.controlLost (h : Hub) (w_h : h.Sound) : (Hub.controlLost h).Sound := by
  unfold Hub.controlLost
  repeat'
    first
    | intro _ | with_reducible assumption | with_reducible apply Hub.Sound.wr | with_reducible apply Hub.Sound.hierRecord
    | with_reducible apply Hub.Sound.dropTrunkTxn | with_reducible apply Hub.Sound.dropControl
    | with_reducible apply Hub.Sound.inc | with_reducible apply Hub.Sound.ite | dsimp only | split

theorem Hub.Sound.heardPackets (p : Nat) (n : Nat) (h : Hub) (w_h : h.Sound) : (Hub.heardPackets p n h).Sound := by
  unfold Hub.heardPackets
  repeat'
    first
    | intro _ | with_reducible assumption | with_reducible apply Hub.Sound.wr | with_reducible apply Hub.Sound.heardValid
    | with_reducible apply Hub.Sound.add | with_reducible apply Hub.Sound.ite | dsimp only | split

theorem Hub.Sound.reconnected (p : Nat) (h : Hub) (w_h : h.Sound) : (Hub.reconnected p h).Sound := by
  unfold Hub.reconnected
  repeat'
    first
    | intro _ | with_reducible assumption | with_reducible apply Hub.Sound.hierRecord | with_reducible apply Hub.Sound.wr
    | with_reducible apply Hub.Sound.ite | dsimp only | split

theorem Hub.Sound.frameOutEnds (x : Txn) (r : TxnResult) (h : Hub) (w_h : h.Sound) : (Hub.frameOutEnds x r h).Sound := by
  unfold Hub.frameOutEnds
  repeat'
    first
    | intro _ | with_reducible assumption | with_reducible apply Hub.Sound.wr | dsimp only | split

theorem Hub.Sound.cmdResult (p : Nat) (r : Nat) (h : Hub) (w_h : h.Sound) : (Hub.cmdResult p r h).Sound := by
  unfold Hub.cmdResult
  repeat'
    first
    | intro _ | with_reducible assumption | with_reducible apply Hub.Sound.wr | with_reducible apply Hub.Sound.ite
    | dsimp only | split

theorem Hub.Sound.cmdReset (p : Nat) (h : Hub) (w_h : h.Sound) : (Hub.cmdReset p h).Sound := by
  unfold Hub.cmdReset
  repeat'
    first
    | intro _ | with_reducible assumption | with_reducible apply Hub.Sound.cmdResult
    | with_reducible apply Hub.Sound.enterResetting | with_reducible apply Hub.Sound.ite | dsimp only | split

theorem Hub.Sound.again (x : Txn) (h : Hub) (w_h : h.Sound) : (Hub.again x h).Sound := by
  unfold Hub.again
  repeat'
    first
    | intro _ | with_reducible assumption | with_reducible apply Hub.Sound.goTxn | dsimp only | split

theorem Hub.Sound.identifyEnds (x : Txn) (r : TxnResult) (h : Hub) (w_h : h.Sound) : (Hub.identifyEnds x r h).Sound := by
  unfold Hub.identifyEnds
  repeat'
    first
    | intro _ | with_reducible assumption | with_reducible apply Hub.Sound.errorHold
    | with_reducible apply Hub.Sound.enumSilent | with_reducible apply Hub.Sound.again
    | with_reducible apply Hub.Sound.controlStage | with_reducible apply Hub.Sound.identified
    | with_reducible apply Hub.Sound.startTxn | with_reducible apply Hub.Sound.ite | dsimp only | split

theorem Hub.Sound.closeEnds (x : Txn) (r : TxnResult) (h : Hub) (w_h : h.Sound) : (Hub.closeEnds x r h).Sound := by
  unfold Hub.closeEnds
  repeat'
    first
    | intro _ | with_reducible assumption | with_reducible apply Hub.Sound.wr | dsimp only | split

theorem Hub.Sound.cmdDisable (p : Nat) (h : Hub) (w_h : h.Sound) : (Hub.cmdDisable p h).Sound := by
  unfold Hub.cmdDisable
  repeat'
    first
    | intro _ | with_reducible assumption | with_reducible apply Hub.Sound.cmdResult | with_reducible apply Hub.Sound.wr
    | with_reducible apply Hub.Sound.movePort | with_reducible apply Hub.Sound.ite | dsimp only | split

theorem Hub.Sound.enumStart (p : Nat) (h : Hub) (w_h : h.Sound) : (Hub.enumStart p h).Sound := by
  unfold Hub.enumStart
  repeat'
    first
    | intro _ | with_reducible assumption | with_reducible apply Hub.Sound.expire | with_reducible apply Hub.Sound.startEnum
    | with_reducible apply Hub.Sound.ite | dsimp only | split

theorem Hub.Sound.cmdSuspend (p : Nat) (h : Hub) (w_h : h.Sound) : (Hub.cmdSuspend p h).Sound := by
  unfold Hub.cmdSuspend
  repeat'
    first
    | intro _ | with_reducible assumption | with_reducible apply Hub.Sound.cmdResult | with_reducible apply Hub.Sound.wr
    | with_reducible apply Hub.Sound.ite | dsimp only | split

theorem Hub.Sound.cmdResume (p : Nat) (h : Hub) (w_h : h.Sound) : (Hub.cmdResume p h).Sound := by
  unfold Hub.cmdResume
  repeat'
    first
    | intro _ | with_reducible assumption | with_reducible apply Hub.Sound.cmdResult
    | with_reducible apply Hub.Sound.startListen | with_reducible apply Hub.Sound.ite | dsimp only | split

theorem Hub.Sound.wakeUpstream (u : Nat) (h : Hub) (w_h : h.Sound) : (Hub.wakeUpstream u h).Sound := by
  unfold Hub.wakeUpstream
  repeat'
    first
    | intro _ | with_reducible assumption | with_reducible apply Hub.Sound.emit | with_reducible apply Hub.Sound.arm
    | with_reducible apply Hub.Sound.wr | with_reducible apply Hub.Sound.linkTo | with_reducible apply Hub.Sound.ite
    | dsimp only | split

theorem Hub.Sound.passWake (p : Nat) (h : Hub) (w_h : h.Sound) : (Hub.passWake p h).Sound := by
  unfold Hub.passWake
  repeat'
    first
    | intro _ | with_reducible assumption | with_reducible apply Hub.Sound.wrBit | with_reducible apply Hub.Sound.wakeUpstream
    | with_reducible apply Hub.Sound.portRecord | with_reducible apply Hub.Sound.ite | dsimp only | split

theorem Hub.Sound.listenEnd (p : Nat) (h : Hub) (w_h : h.Sound) : (Hub.listenEnd p h).Sound := by
  unfold Hub.listenEnd
  repeat'
    first
    | intro _ | with_reducible assumption | with_reducible apply Hub.Sound.expire | with_reducible apply Hub.Sound.driveResume
    | with_reducible apply Hub.Sound.inc | with_reducible apply Hub.Sound.wr | with_reducible apply Hub.Sound.passWake
    | with_reducible apply Hub.Sound.settleCmd | with_reducible apply Hub.Sound.ite | dsimp only | split

theorem Hub.Sound.dropDelivery (p : Nat) (h : Hub) (w_h : h.Sound) : (Hub.dropDelivery p h).Sound := by
  unfold Hub.dropDelivery
  repeat'
    first
    | intro _ | with_reducible assumption | with_reducible apply Hub.Sound.releaseCopy | with_reducible apply Hub.Sound.inc
    | with_reducible apply Hub.Sound.endDelivery | with_reducible refine Hub.Sound.pair (by assumption) ?_
    | with_reducible refine Hub.Sound.pair3 (by assumption) ?_ | with_reducible refine Hub.Sound.pair4 (by assumption) ?_
    | dsimp only | split

theorem Hub.Sound.deliveryTimeout (p : Nat) (h : Hub) (w_h : h.Sound) : (Hub.deliveryTimeout p h).Sound := by
  unfold Hub.deliveryTimeout
  repeat'
    first
    | intro _ | with_reducible assumption | with_reducible apply Hub.Sound.dropDelivery | with_reducible apply Hub.Sound.ite
    | dsimp only | split

theorem Hub.Sound.babble (p : Nat) (h : Hub) (w_h : h.Sound) : (Hub.babble p h).Sound := by
  unfold Hub.babble
  repeat'
    first
    | intro _ | with_reducible assumption | with_reducible apply Hub.Sound.errorHold | with_reducible apply Hub.Sound.inc
    | with_reducible apply Hub.Sound.pollEnds | with_reducible apply Hub.Sound.ite | dsimp only | split

theorem Hub.Sound.resyncEnds (x : Txn) (a : Nat) (r : TxnResult) (h : Hub) (w_h : h.Sound) : (Hub.resyncEnds x a r h).Sound :=
    by
  unfold Hub.resyncEnds
  repeat'
    first
    | intro _ | with_reducible assumption | with_reducible apply Hub.Sound.controlStage | with_reducible apply Hub.Sound.wr
    | with_reducible apply Hub.Sound.again | with_reducible apply Hub.Sound.ite | dsimp only | split

theorem Hub.Sound.cmdEnable (p : Nat) (h : Hub) (w_h : h.Sound) : (Hub.cmdEnable p h).Sound := by
  unfold Hub.cmdEnable
  repeat'
    first
    | intro _ | with_reducible assumption | with_reducible apply Hub.Sound.cmdResult
    | with_reducible apply Hub.Sound.enterResetting | with_reducible apply Hub.Sound.enterDisconnected
    | with_reducible apply Hub.Sound.ite | dsimp only | split

theorem Hub.Sound.portCmd (p : Nat) (c : Nat) (h : Hub) (w_h : h.Sound) : (Hub.portCmd p c h).Sound := by
  unfold Hub.portCmd
  repeat'
    first
    | intro _ | with_reducible assumption | with_reducible apply Hub.Sound.cmdDisable
    | with_reducible apply Hub.Sound.cmdEnable | with_reducible apply Hub.Sound.cmdReset
    | with_reducible apply Hub.Sound.cmdSuspend | with_reducible apply Hub.Sound.cmdResume
    | with_reducible apply Hub.Sound.ite | dsimp only | split

theorem Hub.Sound.upstreamResumed (h : Hub) (w_h : h.Sound) : (Hub.upstreamResumed h).Sound := by
  unfold Hub.upstreamResumed
  repeat'
    first
    | intro _ | with_reducible assumption | with_reducible apply Hub.Sound.wr
    | with_reducible apply Hub.Sound.resumeForUpstream | with_reducible apply Hub.Sound.ite | dsimp only | split

theorem Hub.Sound.splitHoldExpiry (i : Nat) (h : Hub) (w_h : h.Sound) : (Hub.splitHoldExpiry i h).Sound := by
  unfold Hub.splitHoldExpiry
  repeat'
    first
    | intro _ | with_reducible assumption | with_reducible apply Hub.Sound.freeSlot | with_reducible apply Hub.Sound.inc
    | with_reducible apply Hub.Sound.ite | dsimp only | split

theorem Hub.Sound.splitMoves (s : Slot) (n : Nat) (h : Hub) (w_h : h.Sound) : (Hub.splitMoves s n h).Sound := by
  unfold Hub.splitMoves
  repeat'
    first
    | intro _ | with_reducible assumption | with_reducible apply Hub.Sound.wr | with_reducible apply Hub.Sound.ite
    | dsimp only | split

theorem Hub.Sound.splitEnds (i : Nat) (r : TxnResult) (h : Hub) (w_h : h.Sound) : (Hub.splitEnds i r h).Sound := by
  unfold Hub.splitEnds
  repeat'
    first
    | intro _ | with_reducible assumption | with_reducible apply Hub.Sound.slotDone
    | with_reducible apply Hub.Sound.splitMoves | with_reducible apply Hub.Sound.wr | dsimp only | split

theorem Hub.Sound.createSlot (p : Nat) (tdev : Nat) (target : Nat) (carrier : Nat) (tag : Nat) (src : Nat) (cls : Nat) (count : Nat) (len : Nat)
    (data : Nat) (seq : Nat) (h : Hub) (w_h : h.Sound) : (Hub.createSlot p tdev target carrier tag src cls count len data seq
    h).Sound := by
  unfold Hub.createSlot
  repeat'
    first
    | intro _ | simp only [Hub.Sound.of_mk] | with_reducible assumption | with_reducible apply Hub.Sound.inc | dsimp only
    | split

theorem Hub.Sound.splitRequest (src : Nat) (cls : Nat) (len : Nat) (v : Nat) (h : Hub) (w_h : h.Sound) : (Hub.splitRequest src cls len
    v h).Sound := by
  unfold Hub.splitRequest
  repeat'
    first
    | intro _ | with_reducible assumption | with_reducible apply Hub.Sound.completionFrame
    | with_reducible apply Hub.Sound.inc | with_reducible apply Hub.Sound.createSlot | with_reducible apply Hub.Sound.freeSlot
    | with_reducible apply Hub.Sound.ite | dsimp only | split

theorem Hub.Sound.childInEnds (x : Txn) (r : TxnResult) (h : Hub) (w_h : h.Sound) : (Hub.childInEnds x r h).Sound := by
  unfold Hub.childInEnds
  repeat'
    first
    | intro _ | with_reducible assumption | with_reducible apply Hub.Sound.wrBit | with_reducible apply Hub.Sound.ite
    | dsimp only | split

theorem Hub.Sound.splitTaken (u : Nat) (body : Nat) (seq : Nat) (len : Nat) (data : Nat) (h : Hub) (w_h : h.Sound) : (Hub.splitTaken u
    body seq len data h).Sound := by
  unfold Hub.splitTaken
  repeat'
    first
    | intro _ | with_reducible assumption | with_reducible apply Hub.Sound.emit | with_reducible apply Hub.Sound.freeSlot
    | with_reducible apply Hub.Sound.inc | with_reducible apply Hub.Sound.createSlot | with_reducible apply Hub.Sound.ite
    | dsimp only | split

theorem Hub.Sound.setAddressEnds (x : Txn) (b : Nat) (r : TxnResult) (h : Hub) (w_h : h.Sound) : (Hub.setAddressEnds x b r
    h).Sound := by
  unfold Hub.setAddressEnds
  repeat'
    first
    | intro _ | with_reducible assumption | with_reducible apply Hub.Sound.errorHold | with_reducible apply Hub.Sound.again
    | with_reducible apply Hub.Sound.controlStage | with_reducible apply Hub.Sound.portAddressed
    | with_reducible apply Hub.Sound.ite | dsimp only | split

theorem Hub.Sound.finishDelivery (p : Nat) (h : Hub) (w_h : h.Sound) : (Hub.finishDelivery p h).Sound := by
  unfold Hub.finishDelivery
  repeat'
    first
    | intro _ | simp only [Hub.Sound.of_mk] | with_reducible assumption | with_reducible apply Hub.Sound.releaseCopy
    | with_reducible apply Hub.Sound.countOut | with_reducible apply Hub.Sound.inc
    | with_reducible refine Hub.Sound.pair (by assumption) ?_ | with_reducible refine Hub.Sound.pair3 (by assumption) ?_
    | with_reducible refine Hub.Sound.pair4 (by assumption) ?_ | dsimp only | split

theorem Hub.Sound.deliveryMoves (x : Txn) (next : Nat) (h : Hub) (w_h : h.Sound) : (Hub.deliveryMoves x next h).Sound := by
  unfold Hub.deliveryMoves
  repeat'
    first
    | intro _ | simp only [Hub.Sound.of_mk] | with_reducible assumption | with_reducible apply Hub.Sound.wr
    | with_reducible apply Hub.Sound.finishDelivery | with_reducible apply Hub.Sound.inc | with_reducible apply Hub.Sound.ite
    | with_reducible refine Hub.Sound.pair (by assumption) ?_ | with_reducible refine Hub.Sound.pair3 (by assumption) ?_
    | with_reducible refine Hub.Sound.pair4 (by assumption) ?_ | dsimp only | split

theorem Hub.Sound.deliverEnds (x : Txn) (r : TxnResult) (h : Hub) (w_h : h.Sound) : (Hub.deliverEnds x r h).Sound := by
  unfold Hub.deliverEnds
  repeat'
    first
    | intro _ | with_reducible assumption | with_reducible apply Hub.Sound.deliveryMoves | with_reducible apply Hub.Sound.wr
    | with_reducible apply Hub.Sound.dropDelivery | dsimp only | split

theorem Hub.Sound.pingFailed (x : Txn) (h : Hub) (w_h : h.Sound) : (Hub.pingFailed x h).Sound := by
  unfold Hub.pingFailed
  repeat'
    first
    | intro _ | with_reducible assumption | with_reducible apply Hub.Sound.dropDelivery | dsimp only | split

theorem Hub.Sound.pingEnds (x : Txn) (r : TxnResult) (h : Hub) (w_h : h.Sound) : (Hub.pingEnds x r h).Sound := by
  unfold Hub.pingEnds
  repeat'
    first
    | intro _ | with_reducible assumption | with_reducible apply Hub.Sound.wr | with_reducible apply Hub.Sound.pingFailed
    | dsimp only | split

theorem Hub.Sound.originator (x : Txn) (r : TxnResult) (h : Hub) (w_h : h.Sound) : (Hub.originator x r h).Sound := by
  unfold Hub.originator
  repeat'
    first
    | intro _ | with_reducible assumption | with_reducible apply Hub.Sound.identifyEnds
    | with_reducible apply Hub.Sound.setAddressEnds | with_reducible apply Hub.Sound.pollEnds
    | with_reducible apply Hub.Sound.splitEnds | with_reducible apply Hub.Sound.deliverEnds
    | with_reducible apply Hub.Sound.closeEnds | with_reducible apply Hub.Sound.pingEnds
    | with_reducible apply Hub.Sound.childInEnds | with_reducible apply Hub.Sound.frameOutEnds
    | with_reducible apply Hub.Sound.resyncEnds | dsimp only | split

theorem Hub.Sound.transactionEnd (p : Nat) (h : Hub) (w_h : h.Sound) : (Hub.transactionEnd p h).Sound := by
  unfold Hub.transactionEnd
  repeat'
    first
    | intro _ | simp only [Hub.Sound.of_mk] | with_reducible assumption | with_reducible apply Hub.Sound.inc
    | with_reducible apply Hub.Sound.heardValid | with_reducible apply Hub.Sound.wr
    | with_reducible apply Hub.Sound.originator | with_reducible apply Hub.Sound.errorHold
    | with_reducible apply Hub.Sound.suspendForUpstream | with_reducible apply Hub.Sound.ite | dsimp only | split

theorem Hub.Sound.wakeTaken (p : Nat) (h : Hub) (w_h : h.Sound) : (Hub.wakeTaken p h).Sound := by
  unfold Hub.wakeTaken
  repeat'
    first
    | intro _ | with_reducible assumption | with_reducible apply Hub.Sound.inc | with_reducible apply Hub.Sound.wr
    | with_reducible apply Hub.Sound.passWake | with_reducible apply Hub.Sound.driveResume
    | with_reducible apply Hub.Sound.enterResetting | with_reducible apply Hub.Sound.ite | dsimp only | split

end Sys2Proof.Machine
end

