-- ==== Sys2Proof/Laws/SoundFamilies.lean ====
section
/-!
SUPPORT. Sys2Proof/Laws/SoundFamilies.lean: a sound hub stays sound under the operations of the command families: one lemma for each, in the order
in which they call one another.
-/
set_option linter.unusedTactic false
set_option linter.unreachableTactic false
set_option linter.unusedVariables false

namespace Sys2Proof.Machine

theorem Hub.Sound.splitStart (u : Nat) (body : Nat) (seq : Nat) (len : Nat) (data : Nat) (h : Hub) (w_h : h.Sound) : (Hub.splitStart u
    body seq len data h).Sound := by
  unfold Hub.splitStart
  repeat'
    first
    | intro _ | with_reducible assumption | with_reducible apply Hub.Sound.reservedPacket
    | with_reducible apply Hub.Sound.countFault | with_reducible apply Hub.Sound.heardPackets
    | with_reducible apply Hub.Sound.splitTaken | with_reducible apply Hub.Sound.ite | dsimp only | split

theorem Hub.Sound.returnSplit (u : Nat) (s : Slot) (h : Hub) (w_h : h.Sound) : (Hub.returnSplit u s h).Sound := by
  unfold Hub.returnSplit
  repeat'
    first
    | intro _ | with_reducible assumption | with_reducible apply Hub.Sound.wr | with_reducible apply Hub.Sound.emit
    | with_reducible apply Hub.Sound.putSlot | with_reducible apply Hub.Sound.inc | with_reducible apply Hub.Sound.freeSlot
    | with_reducible apply Hub.Sound.ite | dsimp only | split

theorem Hub.Sound.upstreamResetOnce (h : Hub) (w_h : h.Sound) : (Hub.upstreamResetOnce h).Sound := by
  unfold Hub.upstreamResetOnce
  repeat'
    first
    | intro _ | with_reducible assumption | with_reducible apply Hub.Sound.wr | with_reducible apply Hub.Sound.upstreamReset
    | with_reducible apply Hub.Sound.ite | dsimp only | split

theorem Hub.Sound.splitRunTimeout (i : Nat) (h : Hub) (w_h : h.Sound) : (Hub.splitRunTimeout i h).Sound := by
  unfold Hub.splitRunTimeout
  repeat'
    first
    | intro _ | with_reducible assumption | with_reducible apply Hub.Sound.suspendForUpstream
    | with_reducible apply Hub.Sound.inc | with_reducible apply Hub.Sound.slotDone | with_reducible apply Hub.Sound.ite
    | dsimp only | split

theorem Hub.Sound.splitComplete (u : Nat) (body : Nat) (h : Hub) (w_h : h.Sound) : (Hub.splitComplete u body h).Sound := by
  unfold Hub.splitComplete
  repeat'
    first
    | intro _ | with_reducible assumption | with_reducible apply Hub.Sound.reservedPacket
    | with_reducible apply Hub.Sound.heardPackets | with_reducible apply Hub.Sound.emit
    | with_reducible apply Hub.Sound.returnSplit | with_reducible apply Hub.Sound.ite | dsimp only | split

theorem Hub.Sound.bridgeReading (p : Nat) (sub : Nat) (top : Nat) (ok : Bool) (v : Nat) (mean : Nat) (h : Hub) (w_h : h.Sound) :
    (Hub.bridgeReading p sub top ok v mean h).Sound := by
  unfold Hub.bridgeReading
  repeat'
    first
    | intro _ | with_reducible assumption | with_reducible apply Hub.Sound.addMean | with_reducible apply Hub.Sound.wr
    | with_reducible apply Hub.Sound.ite | dsimp only | split

theorem Hub.Sound.bridgeHour (p : Nat) (r : HourReadings) (h : Hub) (w_h : h.Sound) : (Hub.bridgeHour p r h).Sound := by
  unfold Hub.bridgeHour
  repeat'
    first
    | intro _ | with_reducible assumption | with_reducible apply Hub.Sound.bridgeReading | with_reducible apply Hub.Sound.wr
    | with_reducible apply Hub.Sound.ite | dsimp only | split

theorem Hub.Sound.traceSpoiled (p : Nat) (kind : Nat) (h : Hub) (w_h : h.Sound) : (Hub.traceSpoiled p kind h).Sound := by
  unfold Hub.traceSpoiled
  repeat'
    first
    | intro _ | with_reducible assumption | with_reducible apply Hub.Sound.inc | with_reducible apply Hub.Sound.wr
    | with_reducible apply Hub.Sound.ite | dsimp only | split

theorem Hub.Sound.meanOfSum (p : Nat) (sub : Nat) (sum : Nat) (count : Nat) (h : Hub) (w_h : h.Sound) : (Hub.meanOfSum p sub sum count
    h).Sound := by
  unfold Hub.meanOfSum
  repeat'
    first
    | intro _ | with_reducible assumption | with_reducible apply Hub.Sound.addMean | with_reducible apply Hub.Sound.ite
    | dsimp only | split

theorem Hub.Sound.hourEnd (p : Nat) (r : HourReadings) (overlap : Bool) (h : Hub) (w_h : h.Sound) : (Hub.hourEnd p r overlap
    h).Sound := by
  unfold Hub.hourEnd
  repeat'
    first
    | intro _ | with_reducible assumption | with_reducible apply Hub.Sound.wr | with_reducible apply Hub.Sound.clear
    | with_reducible apply Hub.Sound.meanOfSum | with_reducible apply Hub.Sound.judgeLine | with_reducible apply Hub.Sound.inc
    | with_reducible apply Hub.Sound.bridgeHour | with_reducible apply Hub.Sound.ite | dsimp only | split

theorem Hub.Sound.forceSlot (p : Nat) (h : Hub) (w_h : h.Sound) : (Hub.forceSlot p h).Sound := by
  unfold Hub.forceSlot
  repeat'
    first
    | intro _ | with_reducible assumption | with_reducible apply Hub.Sound.wr | with_reducible apply Hub.Sound.ite
    | dsimp only | split

theorem Hub.Sound.captureBaseline (p : Nat) (h : Hub) (w_h : h.Sound) : (Hub.captureBaseline p h).Sound := by
  unfold Hub.captureBaseline
  repeat'
    first
    | intro _ | with_reducible assumption | with_reducible apply Hub.Sound.wr | with_reducible apply Hub.Sound.putRecord
    | dsimp only | split

theorem Hub.Sound.probeWrite (p : Nat) (h : Hub) (w_h : h.Sound) : (Hub.probeWrite p h).Sound := by
  unfold Hub.probeWrite
  repeat'
    first
    | intro _ | with_reducible assumption | with_reducible apply Hub.Sound.judged | with_reducible apply Hub.Sound.probeStart
    | with_reducible apply Hub.Sound.ite | dsimp only | split

theorem Hub.Sound.screenEnd (p : Nat) (r : Nat) (mean : Int) (m : Sense) (h : Hub) (w_h : h.Sound) : (Hub.screenEnd p r mean m
    h).Sound := by
  unfold Hub.screenEnd
  repeat'
    first
    | intro _ | with_reducible assumption | with_reducible apply Hub.Sound.wr | with_reducible apply Hub.Sound.sense
    | with_reducible apply Hub.Sound.inc | with_reducible apply Hub.Sound.judgeLine | with_reducible apply Hub.Sound.add
    | with_reducible apply Hub.Sound.ite | dsimp only | split

theorem Hub.Sound.beginTrace (p : Nat) (h : Hub) (w_h : h.Sound) : (Hub.beginTrace p h).Sound := by
  unfold Hub.beginTrace
  repeat'
    first
    | intro _ | with_reducible assumption | with_reducible apply Hub.Sound.traceStart | with_reducible apply Hub.Sound.ite
    | dsimp only | split

theorem Hub.Sound.intervalTrace (p : Nat) (h : Hub) (w_h : h.Sound) : (Hub.intervalTrace p h).Sound := by
  unfold Hub.intervalTrace
  repeat'
    first
    | intro _ | with_reducible assumption | with_reducible apply Hub.Sound.beginTrace | with_reducible apply Hub.Sound.wr
    | with_reducible apply Hub.Sound.ite | dsimp only | split

theorem Hub.Sound.probePhaseEnd (p : Nat) (v : Int) (i : Nat) (h : Hub) (w_h : h.Sound) : (Hub.probePhaseEnd p v i h).Sound := by
  unfold Hub.probePhaseEnd
  repeat'
    first
    | intro _ | with_reducible assumption | with_reducible apply Hub.Sound.expire | with_reducible apply Hub.Sound.arm
    | with_reducible apply Hub.Sound.emit | with_reducible apply Hub.Sound.wr | with_reducible apply Hub.Sound.probeDone
    | dsimp only | split

theorem Hub.Sound.traceEnd (p : Nat) (trace : Nat) (echoes : List Echo) (h : Hub) (w_h : h.Sound) : (Hub.traceEnd p trace echoes
    h).Sound := by
  unfold Hub.traceEnd
  repeat'
    first
    | intro _ | with_reducible assumption | with_reducible apply Hub.Sound.traceSpoiled
    | with_reducible apply Hub.Sound.putRecord | with_reducible apply Hub.Sound.wr | with_reducible apply Hub.Sound.judgeReach
    | with_reducible apply Hub.Sound.judgeTrace | with_reducible apply Hub.Sound.ite | dsimp only | split

theorem Hub.Sound.assigned (via : Nat) (v : Nat) (h : Hub) (w_h : h.Sound) : (Hub.assigned via v h).Sound := by
  unfold Hub.assigned
  repeat'
    first
    | intro _ | with_reducible assumption | with_reducible apply Hub.Sound.hierRecord | with_reducible apply Hub.Sound.wrAll
    | with_reducible apply Hub.Sound.ite | with_reducible refine Hub.Sound.pair (by assumption) ?_
    | with_reducible refine Hub.Sound.pair3 (by assumption) ?_ | with_reducible refine Hub.Sound.pair4 (by assumption) ?_
    | dsimp only | split

theorem Hub.Sound.sendNotice (p : Nat) (h : Hub) (w_h : h.Sound) : (Hub.sendNotice p h).Sound := by
  unfold Hub.sendNotice
  repeat'
    first
    | intro _ | with_reducible assumption | with_reducible apply Hub.Sound.injectFrame | with_reducible apply Hub.Sound.inc
    | with_reducible apply Hub.Sound.wr | with_reducible refine Hub.Sound.pair (by assumption) ?_
    | with_reducible refine Hub.Sound.pair3 (by assumption) ?_ | with_reducible refine Hub.Sound.pair4 (by assumption) ?_
    | dsimp only | split

theorem Hub.Sound.sendNotices (h : Hub) (w_h : h.Sound) : (Hub.sendNotices h).Sound := by
  unfold Hub.sendNotices
  repeat'
    first
    | intro _ | with_reducible assumption | with_reducible apply Hub.Sound.sendNotice | with_reducible apply Hub.Sound.foldl
    | dsimp only | split

theorem Hub.Sound.relayReply (src : Nat) (tag : Nat) (port : Nat) (result : Nat) (len : Nat) (data : Nat) (h : Hub) (w_h : h.Sound) :
    (Hub.relayReply src tag port result len data h).Sound := by
  unfold Hub.relayReply
  repeat'
    first
    | intro _ | with_reducible assumption | with_reducible apply Hub.Sound.sendData | dsimp only | split

theorem Hub.Sound.relayEnd (r : Relay) (result : Nat) (len : Nat) (data : Nat) (h : Hub) (w_h : h.Sound) : (Hub.relayEnd r result
    len data h).Sound := by
  unfold Hub.relayEnd
  repeat'
    first
    | intro _ | simp only [Hub.Sound.of_mk] | with_reducible assumption | with_reducible apply Hub.Sound.relayReply
    | with_reducible apply Hub.Sound.inc | with_reducible apply Hub.Sound.ite | dsimp only | split

theorem Hub.Sound.relayTimeout (p : Nat) (h : Hub) (w_h : h.Sound) : (Hub.relayTimeout p h).Sound := by
  unfold Hub.relayTimeout
  repeat'
    first
    | intro _ | with_reducible assumption | with_reducible apply Hub.Sound.relayEnd | with_reducible apply Hub.Sound.ite
    | dsimp only | split

theorem Hub.Sound.relayRefuse (src : Nat) (v : Nat) (result : Nat) (h : Hub) (w_h : h.Sound) : (Hub.relayRefuse src v result
    h).Sound := by
  unfold Hub.relayRefuse
  repeat'
    first
    | intro _ | with_reducible assumption | with_reducible apply Hub.Sound.relayReply | with_reducible apply Hub.Sound.inc
    | dsimp only | split

theorem Hub.Sound.assign (via : Nat) (v : Nat) (h : Hub) (w_h : h.Sound) : (Hub.assign via v h).Sound := by
  unfold Hub.assign
  repeat'
    first
    | intro _ | with_reducible assumption | with_reducible apply Hub.Sound.wr | with_reducible apply Hub.Sound.assigned
    | with_reducible apply Hub.Sound.ite | dsimp only | split

theorem Hub.Sound.noticeChange (h : Hub) (w_h : h.Sound) : (Hub.noticeChange h).Sound := by
  unfold Hub.noticeChange
  repeat'
    first
    | intro _ | with_reducible assumption | with_reducible apply Hub.Sound.sendNotices | with_reducible apply Hub.Sound.ite
    | dsimp only | split

theorem Hub.Sound.noticeIn (p : Nat) (len : Nat) (v : Nat) (h : Hub) (w_h : h.Sound) : (Hub.noticeIn p len v h).Sound := by
  unfold Hub.noticeIn
  repeat'
    first
    | intro _ | with_reducible assumption | with_reducible apply Hub.Sound.inc | with_reducible apply Hub.Sound.arm
    | with_reducible apply Hub.Sound.wr | with_reducible apply Hub.Sound.ite | dsimp only | split

theorem Hub.Sound.releaseId (h : Hub) (w_h : h.Sound) : (Hub.releaseId h).Sound := by
  unfold Hub.releaseId
  repeat'
    first
    | intro _ | with_reducible assumption | with_reducible apply Hub.Sound.quartzStop | with_reducible apply Hub.Sound.wrAll
    | with_reducible refine Hub.Sound.pair (by assumption) ?_ | with_reducible refine Hub.Sound.pair3 (by assumption) ?_
    | with_reducible refine Hub.Sound.pair4 (by assumption) ?_ | dsimp only | split

theorem Hub.Sound.relayStart (src : Nat) (v : Nat) (h : Hub) (w_h : h.Sound) : (Hub.relayStart src v h).Sound := by
  unfold Hub.relayStart
  repeat'
    first
    | intro _ | simp only [Hub.Sound.of_mk] | with_reducible assumption | with_reducible apply Hub.Sound.inc
    | with_reducible apply Hub.Sound.sendRequest | with_reducible apply Hub.Sound.ite | dsimp only | split

theorem Hub.Sound.upstreamLoss (h : Hub) (w_h : h.Sound) : (Hub.upstreamLoss h).Sound := by
  unfold Hub.upstreamLoss
  repeat'
    first
    | intro _ | with_reducible assumption | with_reducible apply Hub.Sound.controlLost | with_reducible apply Hub.Sound.ite
    | dsimp only | split

theorem Hub.Sound.relayAnswered (p : Nat) (stall : Bool) (len : Nat) (data : Nat) (h : Hub) (w_h : h.Sound) : (Hub.relayAnswered p
    stall len data h).Sound := by
  unfold Hub.relayAnswered
  repeat'
    first
    | intro _ | with_reducible assumption | with_reducible apply Hub.Sound.relayEnd | with_reducible apply Hub.Sound.ite
    | dsimp only | split

theorem Hub.Sound.noticeRound (h : Hub) (w_h : h.Sound) : (Hub.noticeRound h).Sound := by
  unfold Hub.noticeRound
  repeat'
    first
    | intro _ | with_reducible assumption | with_reducible apply Hub.Sound.arm | with_reducible apply Hub.Sound.sendNotices
    | with_reducible apply Hub.Sound.ite | dsimp only | split

theorem Hub.Sound.relayRequest (src : Nat) (len : Nat) (v : Nat) (h : Hub) (w_h : h.Sound) : (Hub.relayRequest src len v h).Sound :=
    by
  unfold Hub.relayRequest
  repeat'
    first
    | intro _ | with_reducible assumption | with_reducible apply Hub.Sound.relayReply
    | with_reducible apply Hub.Sound.relayStart | with_reducible apply Hub.Sound.relayRefuse
    | with_reducible apply Hub.Sound.ite | dsimp only | split

theorem Hub.Sound.noticesLapse (p : Nat) (h : Hub) (w_h : h.Sound) : (Hub.noticesLapse p h).Sound := by
  unfold Hub.noticesLapse
  repeat'
    first
    | intro _ | with_reducible assumption | with_reducible apply Hub.Sound.expire | with_reducible apply Hub.Sound.inc
    | with_reducible apply Hub.Sound.wr | dsimp only | split

theorem Hub.Sound.checkDuplicate (h : Hub) (w_h : h.Sound) : (Hub.checkDuplicate h).Sound := by
  unfold Hub.checkDuplicate
  repeat'
    first
    | intro _ | with_reducible assumption | with_reducible apply Hub.Sound.wr | with_reducible apply Hub.Sound.ite
    | dsimp only | split

theorem Hub.Sound.setLsdb (l : List Lsa) (h : Hub) (w_h : h.Sound) : (Hub.setLsdb l h).Sound := by
  unfold Hub.setLsdb
  repeat'
    first
    | intro _ | simp only [Hub.Sound.of_mk] | with_reducible assumption | with_reducible apply Hub.Sound.wr
    | with_reducible apply Hub.Sound.ite | with_reducible apply Hub.Sound.foldl | dsimp only | split

theorem Hub.Sound.sendFabric (p : Nat) (header : Nat) (payload : Nat) (h : Hub) (w_h : h.Sound) : (Hub.sendFabric p header payload
    h).Sound := by
  unfold Hub.sendFabric
  repeat'
    first
    | intro _ | simp only [Hub.Sound.of_mk] | with_reducible assumption | with_reducible apply Hub.Sound.emit
    | with_reducible apply Hub.Sound.ite | dsimp only | split

theorem Hub.Sound.ackLsa (p : Nat) (node : Nat) (seq : Nat) (h : Hub) (w_h : h.Sound) : (Hub.ackLsa p node seq h).Sound := by
  unfold Hub.ackLsa
  repeat'
    first
    | intro _ | with_reducible assumption | with_reducible apply Hub.Sound.sendFabric
    | with_reducible refine Hub.Sound.pair (by assumption) ?_ | with_reducible refine Hub.Sound.pair3 (by assumption) ?_
    | with_reducible refine Hub.Sound.pair4 (by assumption) ?_ | dsimp only | split

theorem Hub.Sound.sendLsa (x : Lsa) (p : Nat) (h : Hub) (w_h : h.Sound) : (Hub.sendLsa x p h).Sound := by
  unfold Hub.sendLsa
  repeat'
    first
    | intro _ | simp only [Hub.Sound.of_mk] | with_reducible assumption | with_reducible apply Hub.Sound.sendFabric
    | with_reducible apply Hub.Sound.ite | dsimp only | split

theorem Hub.Sound.floodLsa (x : Lsa) (ps : List Nat) (h : Hub) (w_h : h.Sound) : (Hub.floodLsa x ps h).Sound := by
  unfold Hub.floodLsa
  repeat'
    first
    | intro _ | with_reducible assumption | with_reducible apply Hub.Sound.sendLsa | with_reducible apply Hub.Sound.foldl
    | dsimp only | split

theorem Hub.Sound.storeLsa (p : Nat) (x : Lsa) (h : Hub) (w_h : h.Sound) : (Hub.storeLsa p x h).Sound := by
  unfold Hub.storeLsa
  repeat'
    first
    | intro _ | with_reducible assumption | with_reducible apply Hub.Sound.checkDuplicate | with_reducible apply Hub.Sound.inc
    | with_reducible apply Hub.Sound.setLsdb | with_reducible apply Hub.Sound.ackLsa | with_reducible apply Hub.Sound.floodLsa
    | dsimp only | split

theorem Hub.Sound.mcastIn (p : Nat) (h : Hub) (w_h : h.Sound) : (Hub.mcastIn p h).Sound := by
  unfold Hub.mcastIn
  repeat'
    first
    | intro _ | with_reducible assumption | with_reducible apply Hub.Sound.inc | with_reducible apply Hub.Sound.ite
    | dsimp only | split

theorem Hub.Sound.sendHello (p : Nat) (h : Hub) (w_h : h.Sound) : (Hub.sendHello p h).Sound := by
  unfold Hub.sendHello
  repeat'
    first
    | intro _ | with_reducible assumption | with_reducible apply Hub.Sound.inc | with_reducible apply Hub.Sound.sendFabric
    | with_reducible refine Hub.Sound.pair (by assumption) ?_ | with_reducible refine Hub.Sound.pair3 (by assumption) ?_
    | with_reducible refine Hub.Sound.pair4 (by assumption) ?_ | dsimp only | split

theorem Hub.Sound.rateLimited (f : Hub → Hub) (h : Hub) (w_f : ∀ (y0 : Hub), y0.Sound → (f y0).Sound) (w_h : h.Sound) :
    (Hub.rateLimited f h).Sound := by
  unfold Hub.rateLimited
  repeat'
    first
    | intro _ | with_reducible assumption | with_reducible apply Hub.Sound.inc | with_reducible apply Hub.Sound.wr
    | with_reducible apply w_f | with_reducible apply Hub.Sound.ite | dsimp only | split

theorem Hub.Sound.helloRound (h : Hub) (w_h : h.Sound) : (Hub.helloRound h).Sound := by
  unfold Hub.helloRound
  repeat'
    first
    | intro _ | with_reducible assumption | with_reducible apply Hub.Sound.arm | with_reducible apply Hub.Sound.sendHello
    | with_reducible apply Hub.Sound.ite | with_reducible apply Hub.Sound.foldl | dsimp only | split

theorem Hub.Sound.lsaLapse (node : Nat) (h : Hub) (w_h : h.Sound) : (Hub.lsaLapse node h).Sound := by
  unfold Hub.lsaLapse
  repeat'
    first
    | intro _ | with_reducible assumption | with_reducible apply Hub.Sound.setLsdb | with_reducible apply Hub.Sound.ite
    | dsimp only | split

theorem Hub.Sound.lsaAckIn (p : Nat) (node : Nat) (seq : Nat) (h : Hub) (w_h : h.Sound) : (Hub.lsaAckIn p node seq h).Sound := by
  unfold Hub.lsaAckIn
  repeat'
    first
    | intro _ | simp only [Hub.Sound.of_mk] | with_reducible assumption | dsimp only | split

theorem Hub.Sound.e1Refused (p : Nat) (h : Hub) (w_h : h.Sound) : (Hub.e1Refused p h).Sound := by
  unfold Hub.e1Refused
  repeat'
    first
    | intro _ | with_reducible assumption | with_reducible apply Hub.Sound.inc | dsimp only | split

theorem Hub.Sound.writeNodeId (v : Nat) (h : Hub) (w_h : h.Sound) : (Hub.writeNodeId v h).Sound := by
  unfold Hub.writeNodeId
  repeat'
    first
    | intro _ | with_reducible assumption | with_reducible apply Hub.Sound.wr | with_reducible apply Hub.Sound.checkDuplicate
    | with_reducible apply Hub.Sound.ite | dsimp only | split

theorem Hub.Sound.e1Send (header : Nat) (payload : Nat) (transit : Bool) (h : Hub) (w_h : h.Sound) : (Hub.e1Send header payload
    transit h).Sound := by
  unfold Hub.e1Send
  repeat'
    first
    | intro _ | with_reducible assumption | with_reducible apply Hub.Sound.inc | with_reducible apply Hub.Sound.sendFabric
    | with_reducible apply Hub.Sound.ite | with_reducible refine Hub.Sound.pair (by assumption) ?_
    | with_reducible refine Hub.Sound.pair3 (by assumption) ?_ | with_reducible refine Hub.Sound.pair4 (by assumption) ?_
    | dsimp only | split

theorem Hub.Sound.e1Pass (header : Nat) (payload : Nat) (transit : Bool) (h : Hub) (w_h : h.Sound) : (Hub.e1Pass header payload
    transit h).Sound := by
  unfold Hub.e1Pass
  repeat'
    first
    | intro _ | with_reducible assumption | with_reducible apply Hub.Sound.e1Send | with_reducible apply Hub.Sound.ite
    | dsimp only | split

theorem Hub.Sound.eventIn (p : Nat) (header : Nat) (payload : Nat) (h : Hub) (w_h : h.Sound) : (Hub.eventIn p header payload
    h).Sound := by
  unfold Hub.eventIn
  repeat'
    first
    | intro _ | with_reducible assumption | with_reducible apply Hub.Sound.e1Refused
    | with_reducible apply Hub.Sound.rateLimited | with_reducible apply Hub.Sound.injectFrame
    | with_reducible apply Hub.Sound.e1Pass | with_reducible apply Hub.Sound.ite | dsimp only | split

theorem Hub.Sound.neighbourChange (h : Hub) (w_h : h.Sound) : (Hub.neighbourChange h).Sound := by
  unfold Hub.neighbourChange
  repeat'
    first
    | intro _ | with_reducible assumption | with_reducible apply Hub.Sound.wr | dsimp only | split

theorem Hub.Sound.e1Local (header : Nat) (payload : Nat) (h : Hub) (w_h : h.Sound) : (Hub.e1Local header payload h).Sound := by
  unfold Hub.e1Local
  repeat'
    first
    | intro _ | with_reducible assumption | with_reducible apply Hub.Sound.fresh | with_reducible apply Hub.Sound.injectFrame
    | with_reducible apply Hub.Sound.inc | with_reducible apply Hub.Sound.ite
    | with_reducible refine Hub.Sound.pair (by assumption) ?_ | with_reducible refine Hub.Sound.pair3 (by assumption) ?_
    | with_reducible refine Hub.Sound.pair4 (by assumption) ?_ | dsimp only | split

theorem Hub.Sound.treeFrame (header : Nat) (payload : Nat) (h : Hub) (w_h : h.Sound) : (Hub.treeFrame header payload h).Sound :=
    by
  unfold Hub.treeFrame
  repeat'
    first
    | intro _ | with_reducible assumption | with_reducible apply Hub.Sound.inc | with_reducible apply Hub.Sound.rateLimited
    | with_reducible apply Hub.Sound.e1Send | with_reducible apply Hub.Sound.ite | dsimp only | split

theorem Hub.Sound.writeCosts (v : Nat) (h : Hub) (w_h : h.Sound) : (Hub.writeCosts v h).Sound := by
  unfold Hub.writeCosts
  repeat'
    first
    | intro _ | with_reducible assumption | with_reducible apply Hub.Sound.neighbourChange | with_reducible apply Hub.Sound.wr
    | with_reducible apply Hub.Sound.ite | dsimp only | split

theorem Hub.Sound.lsaAgain (p : Nat) (node : Nat) (h : Hub) (w_h : h.Sound) : (Hub.lsaAgain p node h).Sound := by
  unfold Hub.lsaAgain
  repeat'
    first
    | intro _ | simp only [Hub.Sound.of_mk] | with_reducible assumption | with_reducible apply Hub.Sound.sendLsa
    | with_reducible apply Hub.Sound.ite | dsimp only | split

theorem Hub.Sound.lsaIn (p : Nat) (x : Lsa) (h : Hub) (w_h : h.Sound) : (Hub.lsaIn p x h).Sound := by
  unfold Hub.lsaIn
  repeat'
    first
    | intro _ | with_reducible assumption | with_reducible apply Hub.Sound.e1Refused | with_reducible apply Hub.Sound.wr
    | with_reducible apply Hub.Sound.storeLsa | with_reducible apply Hub.Sound.ackLsa | with_reducible apply Hub.Sound.sendLsa
    | with_reducible apply Hub.Sound.ite | dsimp only | split

theorem Hub.Sound.helloIn (p : Nat) (node : Nat) (serial : Nat) (heard : List Nat) (h : Hub) (w_h : h.Sound) : (Hub.helloIn p node
    serial heard h).Sound := by
  unfold Hub.helloIn
  repeat'
    first
    | intro _ | simp only [Hub.Sound.of_mk] | with_reducible assumption | with_reducible apply Hub.Sound.e1Refused
    | with_reducible apply Hub.Sound.neighbourChange | with_reducible apply Hub.Sound.ite | dsimp only | split

theorem Hub.Sound.computePaths (h : Hub) (w_h : h.Sound) : (Hub.computePaths h).Sound := by
  unfold Hub.computePaths
  repeat'
    first
    | intro _ | simp only [Hub.Sound.of_mk] | with_reducible assumption | with_reducible apply Hub.Sound.wr
    | with_reducible apply Hub.Sound.ite | with_reducible refine Hub.Sound.pair (by assumption) ?_
    | with_reducible refine Hub.Sound.pair3 (by assumption) ?_ | with_reducible refine Hub.Sound.pair4 (by assumption) ?_
    | dsimp only | split

theorem Hub.Sound.dataIn (p : Nat) (header : Nat) (payload : Nat) (h : Hub) (w_h : h.Sound) : (Hub.dataIn p header payload h).Sound
    := by
  unfold Hub.dataIn
  repeat'
    first
    | intro _ | with_reducible assumption | with_reducible apply Hub.Sound.e1Refused
    | with_reducible apply Hub.Sound.rateLimited | with_reducible apply Hub.Sound.e1Local
    | with_reducible apply Hub.Sound.e1Pass | with_reducible apply Hub.Sound.ite | dsimp only | split

theorem Hub.Sound.neighbourLapse (p : Nat) (h : Hub) (w_h : h.Sound) : (Hub.neighbourLapse p h).Sound := by
  unfold Hub.neighbourLapse
  repeat'
    first
    | intro _ | simp only [Hub.Sound.of_mk] | with_reducible assumption | with_reducible apply Hub.Sound.neighbourChange
    | with_reducible apply Hub.Sound.ite | dsimp only | split

theorem Hub.Sound.originate (h : Hub) (w_h : h.Sound) : (Hub.originate h).Sound := by
  unfold Hub.originate
  repeat'
    first
    | intro _ | with_reducible assumption | with_reducible apply Hub.Sound.arm | with_reducible apply Hub.Sound.wr
    | with_reducible apply Hub.Sound.floodLsa | with_reducible apply Hub.Sound.setLsdb | with_reducible apply Hub.Sound.ite
    | dsimp only | split

theorem Hub.Sound.forceReport (id : Nat) (h : Hub) (w_h : h.Sound) : (Hub.forceReport id h).Sound := by
  unfold Hub.forceReport
  repeat'
    first
    | intro _ | with_reducible assumption | with_reducible apply Hub.Sound.inc | with_reducible apply Hub.Sound.writeReport
    | with_reducible apply Hub.Sound.reportAs | with_reducible apply Hub.Sound.ite | dsimp only | split

theorem Hub.Sound.hysteresis (i : Nat) (src : Nat) (detail : Nat) (fires : Bool) (ready : Bool) (h : Hub) (w_h : h.Sound) :
    (Hub.hysteresis i src detail fires ready h).Sound := by
  unfold Hub.hysteresis
  repeat'
    first
    | intro _ | with_reducible assumption | with_reducible apply Hub.Sound.report | with_reducible apply Hub.Sound.wr
    | with_reducible apply Hub.Sound.ite | dsimp only | split

theorem Hub.Sound.dieTemp (v : Nat) (h : Hub) (w_h : h.Sound) : (Hub.dieTemp v h).Sound := by
  unfold Hub.dieTemp
  repeat'
    first
    | intro _ | with_reducible assumption | with_reducible apply Hub.Sound.hysteresis | with_reducible apply Hub.Sound.wr
    | dsimp only | split

theorem Hub.Sound.faultAck (v : Nat) (h : Hub) (w_h : h.Sound) : (Hub.faultAck v h).Sound := by
  unfold Hub.faultAck
  repeat'
    first
    | intro _ | simp only [Hub.Sound.of_mk] | with_reducible assumption | dsimp only | split

theorem Hub.Sound.shadowsLapse (h : Hub) (w_h : h.Sound) : (Hub.shadowsLapse h).Sound := Hub.Sound.lessShadows w_h _

theorem Hub.Sound.retireCore (c : Nat) (h : Hub) (w_h : h.Sound) : (Hub.retireCore c h).Sound := by
  unfold Hub.retireCore
  repeat'
    first
    | intro _ | with_reducible assumption | with_reducible apply Hub.Sound.inc | with_reducible apply Hub.Sound.saveRepair
    | dsimp only | split

theorem Hub.Sound.safeExit (h : Hub) (w_h : h.Sound) : (Hub.safeExit h).Sound := by
  unfold Hub.safeExit
  repeat'
    first
    | intro _ | with_reducible assumption | with_reducible apply Hub.Sound.wr | with_reducible apply Hub.Sound.ite
    | dsimp only | split

theorem Hub.Sound.stageTest (t : SelfTest) (st : Nat) (h : Hub) (w_h : h.Sound) : (Hub.stageTest t st h).Sound := by
  unfold Hub.stageTest
  repeat'
    first
    | intro _ | simp only [Hub.Sound.of_mk] | with_reducible assumption | with_reducible apply Hub.Sound.ite | dsimp only
    | split

theorem Hub.Sound.looped (p : Nat) (bitError : Bool) (h : Hub) (w_h : h.Sound) : (Hub.looped p bitError h).Sound := by
  unfold Hub.looped
  repeat'
    first
    | intro _ | with_reducible assumption | with_reducible apply Hub.Sound.verdict
    | with_reducible apply Hub.Sound.childReport | with_reducible apply Hub.Sound.saveRepair
    | with_reducible apply Hub.Sound.endTest | with_reducible apply Hub.Sound.ite | dsimp only | split

theorem Hub.Sound.moveBank (src : Nat) (dst : Nat) (h : Hub) (w_h : h.Sound) : (Hub.moveBank src dst h).Sound := by
  unfold Hub.moveBank
  repeat'
    first
    | intro _ | with_reducible assumption | with_reducible apply Hub.Sound.wr | with_reducible apply Hub.Sound.ite
    | with_reducible refine Hub.Sound.pair (by assumption) ?_ | with_reducible refine Hub.Sound.pair3 (by assumption) ?_
    | with_reducible refine Hub.Sound.pair4 (by assumption) ?_ | dsimp only | split

theorem Hub.Sound.bankCopied (b : Nat) (h : Hub) (w_h : h.Sound) : (Hub.bankCopied b h).Sound := by
  unfold Hub.bankCopied
  repeat'
    first
    | intro _ | with_reducible assumption | with_reducible apply Hub.Sound.stageTest
    | with_reducible apply Hub.Sound.takeSpare | with_reducible apply Hub.Sound.moveBank
    | with_reducible apply Hub.Sound.endTest | with_reducible apply Hub.Sound.wr | with_reducible apply Hub.Sound.ite
    | dsimp only | split

theorem Hub.Sound.spoilCopy (id : Nat) (h : Hub) (w_h : h.Sound) : (Hub.spoilCopy id h).Sound := by
  unfold Hub.spoilCopy
  repeat'
    first
    | intro _ | with_reducible assumption | with_reducible apply Hub.Sound.putCopy | with_reducible apply Hub.Sound.wr
    | with_reducible apply Hub.Sound.ite | dsimp only | split

theorem Hub.Sound.dieLinkLost (h : Hub) (w_h : h.Sound) : (Hub.dieLinkLost h).Sound := by
  unfold Hub.dieLinkLost
  repeat'
    first
    | intro _ | with_reducible assumption | with_reducible apply Hub.Sound.report | with_reducible apply Hub.Sound.wr
    | with_reducible apply Hub.Sound.ite | dsimp only | split

theorem Hub.Sound.railLost (r : Nat) (h : Hub) (w_h : h.Sound) : (Hub.railLost r h).Sound := by
  unfold Hub.railLost
  repeat'
    first
    | intro _ | with_reducible assumption | with_reducible apply Hub.Sound.report | with_reducible apply Hub.Sound.ite
    | dsimp only | split

theorem Hub.Sound.supplyLevel (aux : Bool) (mv : Nat) (h : Hub) (w_h : h.Sound) : (Hub.supplyLevel aux mv h).Sound := by
  unfold Hub.supplyLevel
  repeat'
    first
    | intro _ | with_reducible assumption | with_reducible apply Hub.Sound.hysteresis | with_reducible apply Hub.Sound.ite
    | dsimp only | split

theorem Hub.Sound.writeSource (id : Nat) (v : Nat) (h : Hub) (w_h : h.Sound) : (Hub.writeSource id v h).Sound := by
  unfold Hub.writeSource
  repeat'
    first
    | intro _ | with_reducible assumption | with_reducible apply Hub.Sound.wr | with_reducible apply Hub.Sound.forceReport
    | with_reducible apply Hub.Sound.ite | dsimp only | split

theorem Hub.Sound.bankMarched (b : Nat) (lasting : Bool) (h : Hub) (w_h : h.Sound) : (Hub.bankMarched b lasting h).Sound := by
  have w1 : ∀ (t : SelfTest) (v : Nat),
      (Hub.verdict t v { h with shadows := h.shadows.filter (fun s => s.test != some (1, b)) }).Sound :=
    fun t v => Hub.Sound.verdict t v _ (Hub.Sound.lessShadows w_h _)
  unfold Hub.bankMarched
  split
  · exact w_h
  · next t _ =>
    split
    · exact w_h
    · have w2 := w1 t (if lasting then 2 else 1)
      dsimp only
      generalize Hub.verdict t (if lasting then 2 else 1) { h with shadows := h.shadows.filter (fun s => s.test != some (1, b)) } = h1
        at w2
      split
      · apply Hub.Sound.dropWaiting
        apply Hub.Sound.endTest
        apply Hub.Sound.childReport
        apply Hub.Sound.inc
        apply Hub.Sound.saveRepair
        exact w2
      · apply Hub.Sound.stageTest
        exact w2.congr rfl rfl rfl rfl rfl rfl

theorem Hub.Sound.powerDieTemp (v : Nat) (h : Hub) (w_h : h.Sound) : (Hub.powerDieTemp v h).Sound := by
  unfold Hub.powerDieTemp
  repeat'
    first
    | intro _ | with_reducible assumption | with_reducible apply Hub.Sound.hysteresis | with_reducible apply Hub.Sound.wr
    | dsimp only | split

theorem Hub.Sound.detector (src : Nat) (detail : Nat) (value : Nat) (h : Hub) (w_h : h.Sound) : (Hub.detector src detail value
    h).Sound := by
  unfold Hub.detector
  repeat'
    first
    | intro _ | with_reducible assumption | with_reducible apply Hub.Sound.report | with_reducible apply Hub.Sound.ite
    | dsimp only | split

theorem Hub.Sound.reread (row : Nat) (clean : Bool) (correctable : Bool) (copy : Nat) (h : Hub) (w_h : h.Sound) : (Hub.reread row
    clean correctable copy h).Sound := by
  unfold Hub.reread
  repeat'
    first
    | intro _ | with_reducible assumption | with_reducible apply Hub.Sound.verdict | with_reducible apply Hub.Sound.inc
    | with_reducible apply Hub.Sound.spoilCopy | with_reducible apply Hub.Sound.childReport
    | with_reducible apply Hub.Sound.saveRepair | with_reducible apply Hub.Sound.endTest | with_reducible apply Hub.Sound.ite
    | dsimp only | split

theorem Hub.Sound.coreTested (ok : Nat → Bool) (h : Hub) (w_h : h.Sound) : (Hub.coreTested ok h).Sound := by
  unfold Hub.coreTested
  split
  · exact w_h
  · next t _ =>
    have w0 : (Hub.endTest 2 0 h).Sound := Hub.Sound.endTest _ _ _ w_h
    dsimp only
    generalize Hub.endTest 2 0 h = h0 at w0
    have w1 : (if (!hasBit h.repair.retired (spareCore h.repair) && !ok (spareCore h.repair)) = true then h0.retireCore (spareCore h.repair)
        else h0).Sound := Hub.Sound.ite (Hub.Sound.retireCore _ _ w0) w0
    generalize (if (!hasBit h.repair.retired (spareCore h.repair) && !ok (spareCore h.repair)) = true then
        h0.retireCore (spareCore h.repair) else h0) = h1 at w1
    split
    · exact Hub.Sound.flintRestart _ (Hub.Sound.verdict _ _ _ w1)
    · have w2 : (Hub.verdict t 2 h1).Sound := Hub.Sound.verdict _ _ _ w1
      generalize Hub.verdict t 2 h1 = h2 at w2
      split
      · apply Hub.Sound.flintRestart
        apply Hub.Sound.childReport
        exact (Hub.Sound.retireCore _ _ w2).congr rfl rfl rfl rfl rfl rfl
      · apply Hub.Sound.childReport
        exact Hub.Sound.flintRestart _ ((Hub.Sound.lessShadows w2 _).wr _ _)

theorem Hub.Sound.rotation (u : Nat) (on : Bool) (h : Hub) (w_h : h.Sound) : (Hub.rotation u on h).Sound := by
  unfold Hub.rotation
  repeat'
    first
    | intro _ | with_reducible assumption | with_reducible apply Hub.Sound.refreshHalts | with_reducible apply Hub.Sound.wr
    | with_reducible apply Hub.Sound.ite | dsimp only | split

theorem Hub.Sound.secEvent (detail : Nat) (h : Hub) (w_h : h.Sound) : (Hub.secEvent detail h).Sound := by
  unfold Hub.secEvent
  repeat'
    first
    | intro _ | with_reducible assumption | with_reducible apply Hub.Sound.report | dsimp only | split

theorem Hub.Sound.endKeyx (u : Nat) (h : Hub) (w_h : h.Sound) : (Hub.endKeyx u h).Sound := by
  unfold Hub.endKeyx
  repeat'
    first
    | intro _ | simp only [Hub.Sound.of_mk] | with_reducible assumption | dsimp only | split

theorem Hub.Sound.keyxFail (u : Nat) (upstream : Bool) (h : Hub) (w_h : h.Sound) : (Hub.keyxFail u upstream h).Sound := by
  unfold Hub.keyxFail
  repeat'
    first
    | intro _ | with_reducible assumption | with_reducible apply Hub.Sound.secEvent | with_reducible apply Hub.Sound.wr
    | with_reducible apply Hub.Sound.inc | with_reducible apply Hub.Sound.endKeyx | with_reducible apply Hub.Sound.arm
    | with_reducible apply Hub.Sound.ite | dsimp only | split

theorem Hub.Sound.keyxRefuse (k : KeyExchange) (reason : Nat) (h : Hub) (w_h : h.Sound) : (Hub.keyxRefuse k reason h).Sound :=
    by
  unfold Hub.keyxRefuse
  repeat'
    first
    | intro _ | with_reducible assumption | with_reducible apply Hub.Sound.rotation | with_reducible apply Hub.Sound.keyxFail
    | with_reducible apply Hub.Sound.wr | dsimp only | split

theorem Hub.Sound.keyxReply (u : Nat) (cert : Nat) (ca : Nat) (h : Hub) (w_h : h.Sound) : (Hub.keyxReply u cert ca h).Sound := by
  unfold Hub.keyxReply
  repeat'
    first
    | intro _ | simp only [Hub.Sound.of_mk] | with_reducible assumption | with_reducible apply Hub.Sound.keyxRefuse
    | with_reducible apply Hub.Sound.fresh | with_reducible apply Hub.Sound.rotation | with_reducible apply Hub.Sound.wr
    | with_reducible apply Hub.Sound.endKeyx | with_reducible apply Hub.Sound.inc | with_reducible apply Hub.Sound.ite
    | with_reducible refine Hub.Sound.pair (by assumption) ?_ | with_reducible refine Hub.Sound.pair3 (by assumption) ?_
    | with_reducible refine Hub.Sound.pair4 (by assumption) ?_ | dsimp only | split

theorem Hub.Sound.nextKeyPassed (u : Nat) (h : Hub) (w_h : h.Sound) : (Hub.nextKeyPassed u h).Sound := by
  unfold Hub.nextKeyPassed
  repeat'
    first
    | intro _ | simp only [Hub.Sound.of_mk] | with_reducible assumption | with_reducible apply Hub.Sound.wr
    | with_reducible refine Hub.Sound.pair (by assumption) ?_ | with_reducible refine Hub.Sound.pair3 (by assumption) ?_
    | with_reducible refine Hub.Sound.pair4 (by assumption) ?_ | dsimp only | split

theorem Hub.Sound.askKeyx (k : KeyExchange) (h : Hub) (w_h : h.Sound) : (Hub.askKeyx k h).Sound := by
  unfold Hub.askKeyx
  repeat'
    first
    | intro _ | simp only [Hub.Sound.of_mk] | with_reducible assumption | with_reducible apply Hub.Sound.sendRequest
    | with_reducible refine Hub.Sound.pair (by assumption) ?_ | with_reducible refine Hub.Sound.pair3 (by assumption) ?_
    | with_reducible refine Hub.Sound.pair4 (by assumption) ?_ | dsimp only | split

theorem Hub.Sound.beginKeyx (u : Nat) (op : Nat) (h : Hub) (w_h : h.Sound) : (Hub.beginKeyx u op h).Sound := by
  unfold Hub.beginKeyx
  repeat'
    first
    | intro _ | with_reducible assumption | with_reducible apply Hub.Sound.askKeyx | with_reducible apply Hub.Sound.wr
    | with_reducible apply Hub.Sound.ite | dsimp only | split

theorem Hub.Sound.openAfter (code : Nat) (h : Hub) (w_h : h.Sound) : (Hub.openAfter code h).Sound := by
  unfold Hub.openAfter
  repeat'
    first
    | intro _ | with_reducible assumption | with_reducible apply Hub.Sound.renew | with_reducible apply Hub.Sound.inc
    | with_reducible apply Hub.Sound.ite | dsimp only | split

theorem Hub.Sound.openSession (i : Nat) (v : Nat) (h : Hub) (w_h : h.Sound) : (Hub.openSession i v h).Sound := by
  unfold Hub.openSession
  repeat'
    first
    | intro _ | simp only [Hub.Sound.of_mk] | with_reducible assumption | with_reducible apply Hub.Sound.fresh
    | with_reducible apply Hub.Sound.inc | with_reducible apply Hub.Sound.wr | with_reducible apply Hub.Sound.ite
    | with_reducible refine Hub.Sound.pair (by assumption) ?_ | with_reducible refine Hub.Sound.pair3 (by assumption) ?_
    | with_reducible refine Hub.Sound.pair4 (by assumption) ?_ | dsimp only | split

theorem Hub.Sound.sessionOpenWrite (v : Nat) (h : Hub) (w_h : h.Sound) : (Hub.sessionOpenWrite v h).2.Sound := by
  unfold Hub.sessionOpenWrite
  repeat'
    first
    | intro _ | with_reducible assumption | with_reducible apply Hub.Sound.openAfter
    | with_reducible apply Hub.Sound.openSession | with_reducible apply Hub.Sound.keep | with_reducible apply Hub.Sound.ite
    | with_reducible refine Hub.Sound.pair (by assumption) ?_ | with_reducible refine Hub.Sound.pair3 (by assumption) ?_
    | with_reducible refine Hub.Sound.pair4 (by assumption) ?_ | dsimp only | split

theorem Hub.Sound.attest (v : Nat) (h : Hub) (w_h : h.Sound) : (Hub.attest v h).Sound := by
  unfold Hub.attest
  repeat'
    first
    | intro _ | with_reducible assumption | with_reducible apply Hub.Sound.fresh | with_reducible apply Hub.Sound.wr
    | with_reducible refine Hub.Sound.pair (by assumption) ?_ | with_reducible refine Hub.Sound.pair3 (by assumption) ?_
    | with_reducible refine Hub.Sound.pair4 (by assumption) ?_ | dsimp only | split

theorem Hub.Sound.keyAgreeLapse (u : Nat) (h : Hub) (w_h : h.Sound) : (Hub.keyAgreeLapse u h).Sound := by
  unfold Hub.keyAgreeLapse
  repeat'
    first
    | intro _ | with_reducible assumption | with_reducible apply Hub.Sound.expire | with_reducible apply Hub.Sound.egressGone
    | with_reducible apply Hub.Sound.enterResetting | with_reducible apply Hub.Sound.endKeyx
    | with_reducible apply Hub.Sound.ite | dsimp only | split

theorem Hub.Sound.closeSession (i : Nat) (h : Hub) (w_h : h.Sound) : (Hub.closeSession i h).Sound := by
  unfold Hub.closeSession
  repeat'
    first
    | intro _ | simp only [Hub.Sound.of_mk] | with_reducible assumption | with_reducible apply Hub.Sound.wr
    | with_reducible refine Hub.Sound.pair (by assumption) ?_ | with_reducible refine Hub.Sound.pair3 (by assumption) ?_
    | with_reducible refine Hub.Sound.pair4 (by assumption) ?_ | dsimp only | split

theorem Hub.Sound.closeSessions (f : Nat → Bool) (h : Hub) (w_h : h.Sound) : (Hub.closeSessions f h).Sound := by
  unfold Hub.closeSessions
  repeat'
    first
    | intro _ | with_reducible assumption | with_reducible apply Hub.Sound.closeSession | with_reducible apply Hub.Sound.ite
    | with_reducible apply Hub.Sound.foldl | dsimp only | split

theorem Hub.Sound.keyxDone (k : KeyExchange) (s : LinkSecrets) (h : Hub) (w_h : h.Sound) : (Hub.keyxDone k s h).Sound := by
  unfold Hub.keyxDone
  repeat'
    first
    | intro _ | simp only [Hub.Sound.of_mk] | with_reducible assumption | with_reducible apply Hub.Sound.endKeyx
    | with_reducible apply Hub.Sound.wr | with_reducible apply Hub.Sound.clear | with_reducible apply Hub.Sound.arm
    | with_reducible apply Hub.Sound.inc | with_reducible apply Hub.Sound.ite
    | with_reducible refine Hub.Sound.pair (by assumption) ?_ | with_reducible refine Hub.Sound.pair3 (by assumption) ?_
    | with_reducible refine Hub.Sound.pair4 (by assumption) ?_ | dsimp only | split

theorem Hub.Sound.keyxAnswer (k : KeyExchange) (stall : Bool) (v : Nat) (h : Hub) (w_h : h.Sound) : (Hub.keyxAnswer k stall v
    h).Sound := by
  unfold Hub.keyxAnswer
  repeat'
    first
    | intro _ | with_reducible assumption | with_reducible apply Hub.Sound.keyxFail | with_reducible apply Hub.Sound.askKeyx
    | with_reducible apply Hub.Sound.fresh | with_reducible apply Hub.Sound.keyxDone | with_reducible apply Hub.Sound.ite
    | with_reducible refine Hub.Sound.pair (by assumption) ?_ | with_reducible refine Hub.Sound.pair3 (by assumption) ?_
    | with_reducible refine Hub.Sound.pair4 (by assumption) ?_ | dsimp only | split

theorem Hub.Sound.closeById (id : Nat) (h : Hub) (w_h : h.Sound) : (Hub.closeById id h).Sound := by
  unfold Hub.closeById
  repeat'
    first
    | intro _ | with_reducible assumption | with_reducible apply Hub.Sound.closeSession | dsimp only | split

theorem Hub.Sound.sessionIdle (i : Nat) (h : Hub) (w_h : h.Sound) : (Hub.sessionIdle i h).Sound := by
  unfold Hub.sessionIdle
  repeat'
    first
    | intro _ | with_reducible assumption | with_reducible apply Hub.Sound.closeSession | with_reducible apply Hub.Sound.ite
    | dsimp only | split

theorem Hub.Sound.transferLapse (h : Hub) (w_h : h.Sound) : (Hub.transferLapse h).Sound := by
  unfold Hub.transferLapse
  repeat'
    first
    | intro _ | with_reducible assumption | with_reducible apply Hub.Sound.refreshSecState
    | with_reducible apply Hub.Sound.ite | dsimp only | split

theorem Hub.Sound.zeroise (h : Hub) (w_h : h.Sound) : (Hub.zeroise h).Sound := by
  unfold Hub.zeroise
  repeat'
    first
    | intro _ | with_reducible assumption | with_reducible apply Hub.Sound.closeSessions | with_reducible apply Hub.Sound.wr
    | with_reducible apply Hub.Sound.secEvent | with_reducible apply Hub.Sound.retrainLink
    | with_reducible apply Hub.Sound.dropLinkKeys | with_reducible apply Hub.Sound.fullReset
    | with_reducible apply Hub.Sound.finishZeroise | with_reducible apply Hub.Sound.ite | with_reducible apply Hub.Sound.foldl
    | with_reducible refine Hub.Sound.pair (by assumption) ?_ | with_reducible refine Hub.Sound.pair3 (by assumption) ?_
    | with_reducible refine Hub.Sound.pair4 (by assumption) ?_ | dsimp only | split

theorem Hub.Sound.slotsChanged (h : Hub) (w_h : h.Sound) : (Hub.slotsChanged h).Sound := by
  unfold Hub.slotsChanged
  repeat'
    first
    | intro _ | with_reducible assumption | with_reducible apply Hub.Sound.saveSecurity
    | with_reducible apply Hub.Sound.refreshOwner | with_reducible apply Hub.Sound.refreshSecState
    | with_reducible apply Hub.Sound.ite | dsimp only | split

theorem Hub.Sound.transferDone (h : Hub) (w_h : h.Sound) : (Hub.transferDone h).Sound := by
  unfold Hub.transferDone
  repeat'
    first
    | intro _ | with_reducible assumption | with_reducible apply Hub.Sound.closeSessions
    | with_reducible apply Hub.Sound.clear | with_reducible apply Hub.Sound.wr | with_reducible apply Hub.Sound.eraseCopies
    | with_reducible apply Hub.Sound.raiseHalt | with_reducible apply Hub.Sound.ite | dsimp only | split

theorem Hub.Sound.claimDone (v : Nat) (h : Hub) (w_h : h.Sound) : (Hub.claimDone v h).Sound := by
  unfold Hub.claimDone
  repeat'
    first
    | intro _ | with_reducible assumption | with_reducible apply Hub.Sound.transferDone | with_reducible apply Hub.Sound.wr
    | with_reducible apply Hub.Sound.renew | with_reducible apply Hub.Sound.saveSecurity
    | with_reducible apply Hub.Sound.refreshSecState | with_reducible apply Hub.Sound.ite
    | with_reducible refine Hub.Sound.pair (by assumption) ?_ | with_reducible refine Hub.Sound.pair3 (by assumption) ?_
    | with_reducible refine Hub.Sound.pair4 (by assumption) ?_ | dsimp only | split

theorem Hub.Sound.ownerClaim (v : Nat) (h : Hub) (w_h : h.Sound) : (Hub.ownerClaim v h).2.Sound := by
  unfold Hub.ownerClaim
  repeat'
    first
    | intro _ | with_reducible assumption | with_reducible apply Hub.Sound.claimDone | with_reducible apply Hub.Sound.keep
    | with_reducible apply Hub.Sound.refreshSecState | with_reducible apply Hub.Sound.secEvent
    | with_reducible apply Hub.Sound.renew | with_reducible apply Hub.Sound.wr | with_reducible apply Hub.Sound.ite
    | with_reducible refine Hub.Sound.pair (by assumption) ?_ | with_reducible refine Hub.Sound.pair3 (by assumption) ?_
    | with_reducible refine Hub.Sound.pair4 (by assumption) ?_ | dsimp only | split

theorem Hub.Sound.fwCommitSvn (h : Hub) (w_h : h.Sound) : (Hub.fwCommitSvn h).Sound := by
  unfold Hub.fwCommitSvn
  repeat'
    first
    | intro _ | with_reducible assumption | with_reducible apply Hub.Sound.wr | dsimp only | split

theorem Hub.Sound.fwChecked (h : Hub) (w_h : h.Sound) : (Hub.fwChecked h).Sound := by
  unfold Hub.fwChecked
  repeat'
    first
    | intro _ | with_reducible assumption | with_reducible apply Hub.Sound.wr | with_reducible apply Hub.Sound.ite
    | dsimp only | split

theorem Hub.Sound.fwCheck (h : Hub) (w_h : h.Sound) : (Hub.fwCheck h).Sound := by
  unfold Hub.fwCheck
  repeat'
    first
    | intro _ | with_reducible assumption | with_reducible apply Hub.Sound.wr | dsimp only | split

theorem Hub.Sound.keyxStart (u : Nat) (h : Hub) (w_h : h.Sound) : (Hub.keyxStart u h).Sound := by
  unfold Hub.keyxStart
  repeat'
    first
    | intro _ | with_reducible assumption | with_reducible apply Hub.Sound.beginKeyx | with_reducible apply Hub.Sound.wr
    | with_reducible apply Hub.Sound.ite | dsimp only | split

theorem Hub.Sound.keyxRetry (u : Nat) (h : Hub) (w_h : h.Sound) : (Hub.keyxRetry u h).Sound := by
  unfold Hub.keyxRetry
  repeat'
    first
    | intro _ | with_reducible assumption | with_reducible apply Hub.Sound.expire | with_reducible apply Hub.Sound.keyxStart
    | with_reducible apply Hub.Sound.wr | with_reducible apply Hub.Sound.ite | dsimp only | split

theorem Hub.Sound.fwWrite (v : Nat) (good : Bool) (h : Hub) (w_h : h.Sound) : (Hub.fwWrite v good h).Sound := by
  unfold Hub.fwWrite
  repeat'
    first
    | intro _ | with_reducible assumption | with_reducible apply Hub.Sound.wr | with_reducible apply Hub.Sound.putFlash
    | with_reducible apply Hub.Sound.fresh | with_reducible apply Hub.Sound.ite
    | with_reducible refine Hub.Sound.pair (by assumption) ?_ | with_reducible refine Hub.Sound.pair3 (by assumption) ?_
    | with_reducible refine Hub.Sound.pair4 (by assumption) ?_ | dsimp only | split

theorem Hub.Sound.fwErase (h : Hub) (w_h : h.Sound) : (Hub.fwErase h).Sound := by
  unfold Hub.fwErase
  repeat'
    first
    | intro _ | simp only [Hub.Sound.of_mk] | with_reducible assumption | with_reducible apply Hub.Sound.wr
    | with_reducible apply Hub.Sound.foldl | with_reducible refine Hub.Sound.pair (by assumption) ?_
    | with_reducible refine Hub.Sound.pair3 (by assumption) ?_ | with_reducible refine Hub.Sound.pair4 (by assumption) ?_
    | dsimp only | split

theorem Hub.Sound.slotCmd (v : Nat) (h : Hub) (w_h : h.Sound) : (Hub.slotCmd v h).Sound := by
  unfold Hub.slotCmd
  repeat'
    first
    | intro _ | with_reducible assumption | with_reducible apply Hub.Sound.wr | with_reducible apply Hub.Sound.closeSessions
    | with_reducible apply Hub.Sound.secEvent | with_reducible apply Hub.Sound.slotsChanged
    | with_reducible apply Hub.Sound.ite | with_reducible refine Hub.Sound.pair (by assumption) ?_
    | with_reducible refine Hub.Sound.pair3 (by assumption) ?_ | with_reducible refine Hub.Sound.pair4 (by assumption) ?_
    | dsimp only | split

theorem Hub.Sound.rekeyDue (u : Nat) (h : Hub) (w_h : h.Sound) : (Hub.rekeyDue u h).Sound := by
  unfold Hub.rekeyDue
  repeat'
    first
    | intro _ | with_reducible assumption | with_reducible apply Hub.Sound.beginKeyx | with_reducible apply Hub.Sound.wr
    | with_reducible apply Hub.Sound.ite | dsimp only | split

theorem Hub.Sound.fwPrefer (h : Hub) (w_h : h.Sound) : (Hub.fwPrefer h).Sound := by
  unfold Hub.fwPrefer
  repeat'
    first
    | intro _ | with_reducible assumption | with_reducible apply Hub.Sound.saveSecurity | with_reducible apply Hub.Sound.wr
    | with_reducible apply Hub.Sound.ite | dsimp only | split

theorem Hub.Sound.fwCmd (c : Nat) (h : Hub) (w_h : h.Sound) : (Hub.fwCmd c h).Sound := by
  unfold Hub.fwCmd
  repeat'
    first
    | intro _ | with_reducible assumption | with_reducible apply Hub.Sound.fwErase | with_reducible apply Hub.Sound.fwCheck
    | with_reducible apply Hub.Sound.fwPrefer | with_reducible apply Hub.Sound.fwCommitSvn
    | with_reducible apply Hub.Sound.ite | dsimp only | split

theorem Hub.Sound.trailerTaken (trailer : Nat) (h : Hub) (w_h : h.Sound) : (Hub.trailerTaken trailer h).Sound := by
  unfold Hub.trailerTaken
  repeat'
    first
    | intro _ | with_reducible assumption | with_reducible apply Hub.Sound.wr | dsimp only | split

theorem Hub.Sound.counterSpent (trailer : Nat) (h : Hub) (w_h : h.Sound) : (Hub.counterSpent trailer h).Sound := by
  unfold Hub.counterSpent
  repeat'
    first
    | intro _ | with_reducible assumption | with_reducible apply Hub.Sound.closeSession | with_reducible apply Hub.Sound.ite
    | dsimp only | split

theorem Hub.Sound.keyxWrite (u : Nat) (v : Nat) (h : Hub) (w_h : h.Sound) : (Hub.keyxWrite u v h).Sound := by
  unfold Hub.keyxWrite
  repeat'
    first
    | intro _ | simp only [Hub.Sound.of_mk] | with_reducible assumption | with_reducible apply Hub.Sound.wr
    | with_reducible apply Hub.Sound.rotation | with_reducible apply Hub.Sound.ite | dsimp only | split

theorem Hub.Sound.transferWrite (v : Nat) (h : Hub) (w_h : h.Sound) : (Hub.transferWrite v h).Sound := by
  unfold Hub.transferWrite
  repeat'
    first
    | intro _ | with_reducible assumption | with_reducible apply Hub.Sound.refreshSecState | with_reducible apply Hub.Sound.wr
    | with_reducible apply Hub.Sound.ite | dsimp only | split

theorem Hub.Sound.moveCells (src : Nat) (dst : Nat) (len : Nat) (h : Hub) (w_h : h.Sound) : (Hub.moveCells src dst len h).Sound :=
    by
  unfold Hub.moveCells
  repeat'
    first
    | intro _ | with_reducible assumption | with_reducible apply Hub.Sound.wrAll | with_reducible apply Hub.Sound.wipe
    | with_reducible refine Hub.Sound.pair (by assumption) ?_ | with_reducible refine Hub.Sound.pair3 (by assumption) ?_
    | with_reducible refine Hub.Sound.pair4 (by assumption) ?_ | dsimp only | split

theorem Hub.Sound.liveToShadow (h : Hub) (w_h : h.Sound) : (Hub.liveToShadow h).Sound := by
  unfold Hub.liveToShadow
  repeat'
    first
    | intro _ | with_reducible assumption | with_reducible apply Hub.Sound.moveCells | dsimp only | split

theorem Hub.Sound.publish (h : Hub) (w_h : h.Sound) : (Hub.publish h).Sound := by
  unfold Hub.publish
  repeat'
    first
    | intro _ | with_reducible assumption | with_reducible apply Hub.Sound.wr | with_reducible apply Hub.Sound.publishDone
    | with_reducible apply Hub.Sound.ite | dsimp only | split

theorem Hub.Sound.publishWrite (h : Hub) (w_h : h.Sound) : (Hub.publishWrite h).Sound := by
  unfold Hub.publishWrite
  repeat'
    first
    | intro _ | with_reducible assumption | with_reducible apply Hub.Sound.wrote | with_reducible apply Hub.Sound.publish
    | with_reducible apply Hub.Sound.keep | with_reducible apply Hub.Sound.ite | dsimp only | split

theorem Hub.Sound.shadowToLive (h : Hub) (w_h : h.Sound) : (Hub.shadowToLive h).Sound := by
  unfold Hub.shadowToLive
  repeat'
    first
    | intro _ | with_reducible assumption | with_reducible apply Hub.Sound.moveCells | dsimp only | split

theorem Hub.Sound.publishEffect (h : Hub) (w_h : h.Sound) : (Hub.publishEffect h).Sound := by
  unfold Hub.publishEffect
  repeat'
    first
    | intro _ | with_reducible assumption | with_reducible apply Hub.Sound.expire | with_reducible apply Hub.Sound.wr
    | with_reducible apply Hub.Sound.shadowToLive | with_reducible apply Hub.Sound.refreshEpochs | dsimp only | split

theorem Hub.Sound.reclaim (d : Nat) (n : Nat) (h : Hub) (w_h : h.Sound) : (Hub.reclaim d n h).Sound := by
  unfold Hub.reclaim
  repeat'
    first
    | intro _ | with_reducible assumption | with_reducible apply Hub.Sound.wr | dsimp only | split

theorem Hub.Sound.auditComplete (orphans : List Nat) (doubles : List Nat) (h : Hub) (w_h : h.Sound) : (Hub.auditComplete orphans
    doubles h).Sound := by
  unfold Hub.auditComplete
  repeat'
    first
    | intro _ | simp only [Hub.Sound.of_mk] | with_reducible assumption | with_reducible apply Hub.Sound.expire
    | with_reducible apply Hub.Sound.inc | with_reducible apply Hub.Sound.wr | with_reducible apply Hub.Sound.reclaim
    | with_reducible apply Hub.Sound.report | with_reducible apply Hub.Sound.add | with_reducible apply Hub.Sound.ite
    | with_reducible apply Hub.Sound.foldl | with_reducible refine Hub.Sound.pair (by assumption) ?_
    | with_reducible refine Hub.Sound.pair3 (by assumption) ?_ | with_reducible refine Hub.Sound.pair4 (by assumption) ?_
    | dsimp only | split

theorem Hub.Sound.auditStart (h : Hub) (w_h : h.Sound) : (Hub.auditStart h).Sound := by
  unfold Hub.auditStart
  repeat'
    first
    | intro _ | with_reducible assumption | with_reducible apply Hub.Sound.arm | with_reducible apply Hub.Sound.ite
    | dsimp only | split

theorem Hub.Sound.ringClear (h : Hub) (w_h : h.Sound) : (Hub.ringClear h).Sound := w_h.noRing.wr _ _

theorem Hub.Sound.probeDelay (p : Nat) (h : Hub) (w_h : h.Sound) : (Hub.probeDelay p h).Sound := by
  unfold Hub.probeDelay
  repeat'
    first
    | intro _ | with_reducible assumption | with_reducible apply Hub.Sound.expire | with_reducible apply Hub.Sound.arm
    | with_reducible apply Hub.Sound.sendLink | with_reducible apply Hub.Sound.startTimePing
    | with_reducible apply Hub.Sound.wr | with_reducible apply Hub.Sound.ite | dsimp only | split

theorem Hub.Sound.outcome (x : Nat × Hub) (w_x : (x.2).Sound) : (Hub.outcome x).Sound := by
  unfold Hub.outcome
  repeat'
    first
    | intro _ | with_reducible assumption | with_reducible apply Hub.Sound.wrote
    | with_reducible refine Hub.Sound.pair (by assumption) ?_ | with_reducible refine Hub.Sound.pair3 (by assumption) ?_
    | with_reducible refine Hub.Sound.pair4 (by assumption) ?_ | dsimp only | split

theorem Hub.Sound.writeRekey (v : Nat) (h : Hub) (w_h : h.Sound) : (Hub.writeRekey v h).Sound := by
  unfold Hub.writeRekey
  repeat'
    first
    | intro _ | with_reducible assumption | with_reducible apply Hub.Sound.wr | with_reducible apply Hub.Sound.ite
    | with_reducible apply Hub.Sound.foldl | dsimp only | split

theorem Hub.Sound.clearCounter (k : Nat) (h : Hub) (w_h : h.Sound) : (Hub.clearCounter k h).Sound := by
  unfold Hub.clearCounter
  repeat'
    first
    | intro _ | with_reducible assumption | with_reducible apply Hub.Sound.wr | with_reducible apply Hub.Sound.ite
    | dsimp only | split

theorem Hub.Sound.onOne (v : Nat) (f : Hub → Hub) (h : Hub) (w_f : ∀ (y0 : Hub), y0.Sound → (f y0).Sound) (w_h : h.Sound) :
    (Hub.onOne v f h).Sound := by
  unfold Hub.onOne
  repeat'
    first
    | intro _ | with_reducible assumption | with_reducible apply w_f | with_reducible apply Hub.Sound.ite | dsimp only | split

theorem Hub.Sound.writeMonitor (p : Nat) (v : Nat) (h : Hub) (w_h : h.Sound) : (Hub.writeMonitor p v h).Sound := by
  unfold Hub.writeMonitor
  repeat'
    first
    | intro _ | with_reducible assumption | with_reducible apply Hub.Sound.wr | with_reducible apply Hub.Sound.clear
    | with_reducible apply Hub.Sound.monitorOff | with_reducible apply Hub.Sound.ite | dsimp only | split

theorem Hub.Sound.portEffect (c : WriteCtx) (p : Nat) (blk : Nat) (sub : Nat) (k : Nat) (v : Nat) (h : Hub) (w_h : h.Sound) :
    (Hub.portEffect c p blk sub k v h).Sound := by
  unfold Hub.portEffect
  repeat'
    first
    | intro _ | with_reducible assumption | with_reducible apply Hub.Sound.onOne | with_reducible apply Hub.Sound.unlock
    | with_reducible apply Hub.Sound.wr | with_reducible apply Hub.Sound.captureBaseline
    | with_reducible apply Hub.Sound.rejudgeLine | with_reducible apply Hub.Sound.probeStart
    | with_reducible apply Hub.Sound.beginTrace | with_reducible apply Hub.Sound.writeMonitor
    | with_reducible apply Hub.Sound.writeCfsEnable | with_reducible apply Hub.Sound.cfsRestart
    | with_reducible apply Hub.Sound.cfAnswer | with_reducible apply Hub.Sound.writeLimitSet
    | with_reducible apply Hub.Sound.commandOff | with_reducible apply Hub.Sound.commandRestore
    | with_reducible apply Hub.Sound.portCmd | with_reducible apply Hub.Sound.ite | dsimp only | split

theorem Hub.Sound.writeDefaultLimit (v : Nat) (h : Hub) (w_h : h.Sound) : (Hub.writeDefaultLimit v h).Sound := by
  unfold Hub.writeDefaultLimit
  repeat'
    first
    | intro _ | with_reducible assumption | with_reducible apply Hub.Sound.refreshLimit | with_reducible apply Hub.Sound.emit
    | with_reducible apply Hub.Sound.wr | with_reducible apply Hub.Sound.ite | with_reducible apply Hub.Sound.foldl
    | dsimp only | split

theorem Hub.Sound.writeFabricPorts (v : Nat) (h : Hub) (w_h : h.Sound) : (Hub.writeFabricPorts v h).Sound := by
  unfold Hub.writeFabricPorts
  repeat'
    first
    | intro _ | simp only [Hub.Sound.of_mk] | with_reducible assumption | with_reducible apply Hub.Sound.wr
    | with_reducible apply Hub.Sound.neighbourChange | with_reducible apply Hub.Sound.ite | dsimp only | split

theorem Hub.Sound.engineEffect (c : WriteCtx) (k : Nat) (v : Nat) (h : Hub) (w_h : h.Sound) : (Hub.engineEffect c k v h).Sound :=
    by
  unfold Hub.engineEffect
  repeat'
    first
    | intro _ | with_reducible assumption | with_reducible apply Hub.Sound.writeDefaultLimit
    | with_reducible apply Hub.Sound.writeGroupEnable | with_reducible apply Hub.Sound.wr
    | with_reducible apply Hub.Sound.onOne | with_reducible apply Hub.Sound.ringClear
    | with_reducible apply Hub.Sound.liveToShadow | with_reducible apply Hub.Sound.publish
    | with_reducible apply Hub.Sound.quartzCmd | with_reducible apply Hub.Sound.writePoll
    | with_reducible apply Hub.Sound.timeSet | with_reducible apply Hub.Sound.timeTrim | with_reducible apply Hub.Sound.assign
    | with_reducible apply Hub.Sound.releaseId | with_reducible apply Hub.Sound.writeNodeId
    | with_reducible apply Hub.Sound.writeCosts | with_reducible apply Hub.Sound.writeFabricPorts
    | with_reducible apply Hub.Sound.ite | dsimp only | split

theorem Hub.Sound.serviceEffect (c : WriteCtx) (k : Nat) (v : Nat) (h : Hub) (w_h : h.Sound) : (Hub.serviceEffect c k v h).Sound
    := by
  unfold Hub.serviceEffect
  repeat'
    first
    | intro _ | with_reducible assumption | with_reducible apply Hub.Sound.domainCmd | with_reducible apply Hub.Sound.writeCap
    | with_reducible apply Hub.Sound.onOne | with_reducible apply Hub.Sound.stopGroup | with_reducible apply Hub.Sound.attest
    | with_reducible apply Hub.Sound.transferWrite | with_reducible apply Hub.Sound.wr
    | with_reducible apply Hub.Sound.slotCmd | with_reducible apply Hub.Sound.closeById
    | with_reducible apply Hub.Sound.fwWrite | with_reducible apply Hub.Sound.fwCmd | with_reducible apply Hub.Sound.keyxWrite
    | with_reducible apply Hub.Sound.saveSecurity | with_reducible apply Hub.Sound.writeRekey
    | with_reducible apply Hub.Sound.faultAck | with_reducible apply Hub.Sound.safeExit
    | with_reducible apply Hub.Sound.writeSource | with_reducible apply Hub.Sound.ite | dsimp only | split

theorem Hub.Sound.applyPlain (c : WriteCtx) (k : Nat) (v0 : Nat) (h : Hub) (w_h : h.Sound) : (Hub.applyPlain c k v0 h).Sound := by
  unfold Hub.applyPlain
  repeat'
    first
    | intro _ | with_reducible assumption | with_reducible apply Hub.Sound.clearCounter | with_reducible apply Hub.Sound.keep
    | with_reducible apply Hub.Sound.portEffect | with_reducible apply Hub.Sound.engineEffect
    | with_reducible apply Hub.Sound.serviceEffect | with_reducible apply Hub.Sound.ite | dsimp only | split

theorem Hub.Sound.refusedEffect (k : Nat) (code : Nat) (h : Hub) (w_h : h.Sound) : (Hub.refusedEffect k code h).Sound := by
  unfold Hub.refusedEffect
  repeat'
    first
    | intro _ | with_reducible assumption | with_reducible apply Hub.Sound.wr | with_reducible apply Hub.Sound.ite
    | dsimp only | split

theorem Hub.Sound.liveWrite (c : WriteCtx) (k : Nat) (v : Nat) (h : Hub) (w_h : h.Sound) : (Hub.liveWrite c k v h).2.Sound := by
  unfold Hub.liveWrite
  repeat'
    first
    | intro _ | with_reducible assumption | with_reducible apply Hub.Sound.sessionOpenWrite
    | with_reducible apply Hub.Sound.ownerClaim | with_reducible apply Hub.Sound.applyPlain
    | with_reducible apply Hub.Sound.refusedEffect | with_reducible apply Hub.Sound.ite
    | with_reducible refine Hub.Sound.pair (by assumption) ?_ | with_reducible refine Hub.Sound.pair3 (by assumption) ?_
    | with_reducible refine Hub.Sound.pair4 (by assumption) ?_ | dsimp only | split

theorem Hub.Sound.eraseTarget (target : Nat) (h : Hub) (w_h : h.Sound) : (Hub.eraseTarget target h).Sound := by
  unfold Hub.eraseTarget
  repeat'
    first
    | intro _ | with_reducible assumption | with_reducible apply Hub.Sound.putCopy | with_reducible apply Hub.Sound.inc
    | with_reducible apply Hub.Sound.wr | with_reducible apply Hub.Sound.ite
    | with_reducible refine Hub.Sound.pair (by assumption) ?_ | with_reducible refine Hub.Sound.pair3 (by assumption) ?_
    | with_reducible refine Hub.Sound.pair4 (by assumption) ?_ | dsimp only | split

theorem Hub.Sound.saveBegin (who : Nat) (h : Hub) (w_h : h.Sound) : (Hub.saveBegin who h).2.Sound := by
  unfold Hub.saveBegin
  repeat'
    first
    | intro _ | simp only [Hub.Sound.of_mk] | with_reducible assumption | with_reducible apply Hub.Sound.wr
    | with_reducible apply Hub.Sound.eraseTarget | with_reducible apply Hub.Sound.refreshHalts
    | with_reducible apply Hub.Sound.ite | with_reducible refine Hub.Sound.pair (by assumption) ?_
    | with_reducible refine Hub.Sound.pair3 (by assumption) ?_ | with_reducible refine Hub.Sound.pair4 (by assumption) ?_
    | dsimp only | split

theorem Hub.Sound.factoryDefaults (c : WriteCtx) (h : Hub) (w_h : h.Sound) : (Hub.factoryDefaults c h).Sound := by
  unfold Hub.factoryDefaults
  repeat'
    first
    | intro _ | with_reducible assumption | with_reducible apply Hub.Sound.applyPlain | with_reducible apply Hub.Sound.ite
    | with_reducible apply Hub.Sound.foldl | dsimp only | split

theorem Hub.Sound.clearStore (h : Hub) (w_h : h.Sound) : (Hub.clearStore h).Sound := by
  unfold Hub.clearStore
  repeat'
    first
    | intro _ | with_reducible assumption | with_reducible apply Hub.Sound.wr | with_reducible apply Hub.Sound.eraseCopies
    | with_reducible apply Hub.Sound.raiseHalt | dsimp only | split

theorem Hub.Sound.deviceWrite (c : WriteCtx) (k : Nat) (v : Nat) (h : Hub) (w_h : h.Sound) : (Hub.deviceWrite c k v h).2.Sound :=
    by
  unfold Hub.deviceWrite
  repeat'
    first
    | intro _ | with_reducible assumption | with_reducible apply Hub.Sound.keep | with_reducible apply Hub.Sound.saveBegin
    | with_reducible apply Hub.Sound.factoryDefaults | with_reducible apply Hub.Sound.clearStore
    | with_reducible apply Hub.Sound.arm | with_reducible apply Hub.Sound.ite
    | with_reducible refine Hub.Sound.pair (by assumption) ?_ | with_reducible refine Hub.Sound.pair3 (by assumption) ?_
    | with_reducible refine Hub.Sound.pair4 (by assumption) ?_ | dsimp only | split

theorem Hub.Sound.deviceCommand (k : Nat) (v : Nat) (h : Hub) (w_h : h.Sound) : (Hub.deviceCommand k v h).Sound := by
  unfold Hub.deviceCommand
  repeat'
    first
    | intro _ | with_reducible assumption | with_reducible apply Hub.Sound.wrote | with_reducible apply Hub.Sound.deviceWrite
    | with_reducible apply Hub.Sound.ite | with_reducible refine Hub.Sound.pair (by assumption) ?_
    | with_reducible refine Hub.Sound.pair3 (by assumption) ?_ | with_reducible refine Hub.Sound.pair4 (by assumption) ?_
    | dsimp only | split

theorem Hub.Sound.hostAnswer (code : Nat) (req : Nat) (len : Nat) (data : Nat) (h : Hub) (w_h : h.Sound) : (Hub.hostAnswer code req
    len data h).Sound := by
  unfold Hub.hostAnswer
  repeat'
    first
    | intro _ | simp only [Hub.Sound.of_mk] | with_reducible assumption
    | with_reducible refine Hub.Sound.pair (by assumption) ?_ | with_reducible refine Hub.Sound.pair3 (by assumption) ?_
    | with_reducible refine Hub.Sound.pair4 (by assumption) ?_ | dsimp only | split

theorem Hub.Sound.sendResponse (s : StoredResponse) (h : Hub) (w_h : h.Sound) : (Hub.sendResponse s h).Sound := by
  unfold Hub.sendResponse
  repeat'
    first
    | intro _ | with_reducible assumption | with_reducible apply Hub.Sound.injectFrame
    | with_reducible apply Hub.Sound.sendControl | with_reducible apply Hub.Sound.ite | dsimp only | split

theorem Hub.Sound.answerFrame (hit : StoredResponse → Bool) (stall : Bool) (len : Nat) (data : Nat) (h : Hub) (w_h : h.Sound) :
    (Hub.answerFrame hit stall len data h).Sound := by
  unfold Hub.answerFrame
  repeat'
    first
    | intro _ | simp only [Hub.Sound.of_mk] | with_reducible assumption | with_reducible apply Hub.Sound.sendResponse
    | with_reducible apply Hub.Sound.ite | dsimp only | split

theorem Hub.Sound.answerControl (p : Nat) (stall : Bool) (len : Nat) (data : Nat) (h : Hub) (w_h : h.Sound) : (Hub.answerControl p
    stall len data h).Sound := by
  unfold Hub.answerControl
  repeat'
    first
    | intro _ | simp only [Hub.Sound.of_mk] | with_reducible assumption | with_reducible apply Hub.Sound.ite | dsimp only
    | split

theorem Hub.Sound.answer (who : Nat) (req : Nat) (code : Nat) (len : Nat) (data : Nat) (h : Hub) (w_h : h.Sound) : (Hub.answer who req
    code len data h).Sound := by
  unfold Hub.answer
  repeat'
    first
    | intro _ | with_reducible assumption | with_reducible apply Hub.Sound.emit | with_reducible apply Hub.Sound.wrote
    | with_reducible apply Hub.Sound.hostAnswer | with_reducible apply Hub.Sound.answerFrame
    | with_reducible apply Hub.Sound.answerControl | with_reducible apply Hub.Sound.ite | dsimp only | split

theorem Hub.Sound.noteRequest (who : Nat) (code : Nat) (req : Nat) (idx : Nat) (sub : Nat) (h : Hub) (w_h : h.Sound) : (Hub.noteRequest
    who code req idx sub h).Sound := by
  unfold Hub.noteRequest
  repeat'
    first
    | intro _ | simp only [Hub.Sound.of_mk] | with_reducible assumption | with_reducible apply Hub.Sound.inc
    | with_reducible apply Hub.Sound.ite | dsimp only | split

theorem Hub.Sound.putTxn (x : OdTxn) (h : Hub) (w_h : h.Sound) : (Hub.putTxn x h).Sound := by
  unfold Hub.putTxn
  repeat'
    first
    | intro _ | simp only [Hub.Sound.of_mk] | with_reducible assumption | with_reducible apply Hub.Sound.ite | dsimp only
    | split

theorem Hub.Sound.opsDone (who : Nat) (n : Nat) (h : Hub) (w_h : h.Sound) : (Hub.opsDone who n h).Sound := by
  unfold Hub.opsDone
  repeat'
    first
    | intro _ | simp only [Hub.Sound.of_mk] | with_reducible assumption | dsimp only | split

theorem Hub.Sound.applyStaged (c : WriteCtx) (l : List Staged) (h : Hub) (w_h : h.Sound) : (Hub.applyStaged c l h).Sound := by
  unfold Hub.applyStaged
  repeat'
    first
    | intro _ | with_reducible assumption | with_reducible apply Hub.Sound.applyPlain | with_reducible apply Hub.Sound.foldl
    | dsimp only | split

theorem Hub.Sound.zeroiseDue (h : Hub) (w_h : h.Sound) : (Hub.zeroiseDue h).Sound := by
  unfold Hub.zeroiseDue
  repeat'
    first
    | intro _ | with_reducible assumption | with_reducible apply Hub.Sound.zeroise | with_reducible apply Hub.Sound.wr
    | with_reducible apply Hub.Sound.ite | dsimp only | split

theorem Hub.Sound.commitPoint (busy : Bool) (good : Bool) (h : Hub) (w_h : h.Sound) : (Hub.commitPoint busy good h).Sound :=
    by
  unfold Hub.commitPoint
  repeat'
    first
    | intro _ | simp only [Hub.Sound.of_mk] | with_reducible assumption | with_reducible apply Hub.Sound.wr
    | with_reducible apply Hub.Sound.refreshOdOpen | with_reducible apply Hub.Sound.recordEnd
    | with_reducible apply Hub.Sound.answer | with_reducible apply Hub.Sound.noteRequest
    | with_reducible apply Hub.Sound.putTxn | with_reducible apply Hub.Sound.opsDone | with_reducible apply Hub.Sound.add
    | with_reducible apply Hub.Sound.applyStaged | with_reducible apply Hub.Sound.zeroiseDue
    | with_reducible refine Hub.Sound.pair (by assumption) ?_ | with_reducible refine Hub.Sound.pair3 (by assumption) ?_
    | with_reducible refine Hub.Sound.pair4 (by assumption) ?_ | dsimp only | split

theorem Hub.Sound.applyEnd (h : Hub) (w_h : h.Sound) : (Hub.applyEnd h).Sound := by
  unfold Hub.applyEnd
  repeat'
    first
    | intro _ | simp only [Hub.Sound.of_mk] | with_reducible assumption | with_reducible apply Hub.Sound.refreshOdOpen
    | with_reducible apply Hub.Sound.applyPlain | with_reducible apply Hub.Sound.foldl
    | with_reducible refine Hub.Sound.pair (by assumption) ?_ | with_reducible refine Hub.Sound.pair3 (by assumption) ?_
    | with_reducible refine Hub.Sound.pair4 (by assumption) ?_ | dsimp only | split

theorem Hub.Sound.odBegin (who : Nat) (idx : Nat) (val : Nat) (len : Nat) (data : Nat) (h : Hub) (w_h : h.Sound) : (Hub.odBegin who idx
    val len data h).2.Sound := by
  unfold Hub.odBegin
  repeat'
    first
    | intro _ | simp only [Hub.Sound.of_mk] | with_reducible assumption | with_reducible apply Hub.Sound.trailerTaken
    | with_reducible apply Hub.Sound.refreshOdOpen | with_reducible apply Hub.Sound.counterSpent
    | with_reducible apply Hub.Sound.ite | with_reducible refine Hub.Sound.pair (by assumption) ?_
    | with_reducible refine Hub.Sound.pair3 (by assumption) ?_ | with_reducible refine Hub.Sound.pair4 (by assumption) ?_
    | dsimp only | split

theorem Hub.Sound.stageWrite (x : OdTxn) (w : Staged) (h : Hub) (w_h : h.Sound) : (Hub.stageWrite x w h).2.Sound := by
  unfold Hub.stageWrite
  repeat'
    first
    | intro _ | with_reducible assumption | with_reducible apply Hub.Sound.putTxn | with_reducible apply Hub.Sound.ite
    | with_reducible apply Hub.Sound.foldl | with_reducible refine Hub.Sound.pair (by assumption) ?_
    | with_reducible refine Hub.Sound.pair3 (by assumption) ?_ | with_reducible refine Hub.Sound.pair4 (by assumption) ?_
    | dsimp only | split

theorem Hub.Sound.plainReply (x : Option Nat × Hub) (w_x : (x.2).Sound) : (Hub.plainReply x).2.Sound := by
  unfold Hub.plainReply
  repeat'
    first
    | intro _ | with_reducible assumption | with_reducible refine Hub.Sound.pair (by assumption) ?_
    | with_reducible refine Hub.Sound.pair3 (by assumption) ?_ | with_reducible refine Hub.Sound.pair4 (by assumption) ?_
    | dsimp only | split

theorem Hub.Sound.writeChecked (c : WriteCtx) (idx : Nat) (val : Nat) (n : Nat) (v : Nat) (h : Hub) (w_h : h.Sound) :
    (Hub.writeChecked c idx val n v h).2.Sound := by
  unfold Hub.writeChecked
  repeat'
    first
    | intro _ | with_reducible assumption | with_reducible apply Hub.Sound.stageWrite
    | with_reducible apply Hub.Sound.deviceWrite | with_reducible apply Hub.Sound.opsDone | with_reducible apply Hub.Sound.inc
    | with_reducible apply Hub.Sound.liveWrite | with_reducible apply Hub.Sound.ite
    | with_reducible refine Hub.Sound.pair (by assumption) ?_ | with_reducible refine Hub.Sound.pair3 (by assumption) ?_
    | with_reducible refine Hub.Sound.pair4 (by assumption) ?_ | dsimp only | split

theorem Hub.Sound.odWrite (who : Nat) (idx : Nat) (val : Nat) (len : Nat) (data : Nat) (busy : Bool) (good : Bool) (h : Hub) (w_h :
    h.Sound) : (Hub.odWrite who idx val len data busy good h).2.Sound := by
  unfold Hub.odWrite
  repeat'
    first
    | intro _ | with_reducible assumption | with_reducible apply Hub.Sound.writeChecked
    | with_reducible apply Hub.Sound.trailerTaken | with_reducible apply Hub.Sound.counterSpent
    | with_reducible apply Hub.Sound.ite | with_reducible refine Hub.Sound.pair (by assumption) ?_
    | with_reducible refine Hub.Sound.pair3 (by assumption) ?_ | with_reducible refine Hub.Sound.pair4 (by assumption) ?_
    | dsimp only | split

theorem Hub.Sound.odCommit (who : Nat) (idx : Nat) (val : Nat) (len : Nat) (data : Nat) (h : Hub) (w_h : h.Sound) : (Hub.odCommit who
    idx val len data h).2.Sound := by
  unfold Hub.odCommit
  repeat'
    first
    | intro _ | with_reducible assumption | with_reducible apply Hub.Sound.counterSpent
    | with_reducible apply Hub.Sound.trailerTaken | with_reducible apply Hub.Sound.refreshOdOpen
    | with_reducible apply Hub.Sound.refreshHalts | with_reducible apply Hub.Sound.wr | with_reducible apply Hub.Sound.putTxn
    | with_reducible refine Hub.Sound.pair (by assumption) ?_ | with_reducible refine Hub.Sound.pair3 (by assumption) ?_
    | with_reducible refine Hub.Sound.pair4 (by assumption) ?_ | dsimp only | split

theorem Hub.Sound.odAbort (who : Nat) (idx : Nat) (val : Nat) (len : Nat) (data : Nat) (h : Hub) (w_h : h.Sound) : (Hub.odAbort who idx
    val len data h).2.Sound := by
  unfold Hub.odAbort
  repeat'
    first
    | intro _ | with_reducible assumption | with_reducible apply Hub.Sound.dropTxn
    | with_reducible apply Hub.Sound.counterSpent | with_reducible apply Hub.Sound.trailerTaken
    | with_reducible refine Hub.Sound.pair (by assumption) ?_ | with_reducible refine Hub.Sound.pair3 (by assumption) ?_
    | with_reducible refine Hub.Sound.pair4 (by assumption) ?_ | dsimp only | split

theorem Hub.Sound.serve (who : Nat) (req : Nat) (idx : Nat) (val : Nat) (len : Nat) (data : Nat) (busy : Bool) (good : Bool) (admitted :
    Bool) (h : Hub) (w_h : h.Sound) : (Hub.serve who req idx val len data busy good admitted h).2.Sound := by
  unfold Hub.serve
  repeat'
    first
    | intro _ | with_reducible assumption | with_reducible apply Hub.Sound.plainReply | with_reducible apply Hub.Sound.odWrite
    | with_reducible apply Hub.Sound.odBegin | with_reducible apply Hub.Sound.odCommit
    | with_reducible apply Hub.Sound.odAbort | with_reducible apply Hub.Sound.ite
    | with_reducible refine Hub.Sound.pair (by assumption) ?_ | with_reducible refine Hub.Sound.pair3 (by assumption) ?_
    | with_reducible refine Hub.Sound.pair4 (by assumption) ?_ | dsimp only | split

theorem Hub.Sound.touchTxn (who : Nat) (h : Hub) (w_h : h.Sound) : (Hub.touchTxn who h).Sound := by
  unfold Hub.touchTxn
  repeat'
    first
    | intro _ | simp only [Hub.Sound.of_mk] | with_reducible assumption | with_reducible apply Hub.Sound.ite | dsimp only
    | split

theorem Hub.Sound.request (who : Nat) (req : Nat) (idx : Nat) (val : Nat) (len : Nat) (data : Nat) (busy : Bool) (good : Bool) (admitted :
    Bool) (h : Hub) (w_h : h.Sound) : (Hub.request who req idx val len data busy good admitted h).Sound := by
  unfold Hub.request
  repeat'
    first
    | intro _ | with_reducible assumption | with_reducible apply Hub.Sound.serve | with_reducible apply Hub.Sound.touchTxn
    | with_reducible apply Hub.Sound.noteRequest | with_reducible apply Hub.Sound.zeroiseDue
    | with_reducible apply Hub.Sound.answer | with_reducible apply Hub.Sound.ite
    | with_reducible refine Hub.Sound.pair (by assumption) ?_ | with_reducible refine Hub.Sound.pair3 (by assumption) ?_
    | with_reducible refine Hub.Sound.pair4 (by assumption) ?_ | dsimp only | split

theorem Hub.Sound.linkRequest (who : Nat) (req : Nat) (idx : Nat) (val : Nat) (len : Nat) (data : Nat) (busy : Bool) (good : Bool)
    (admitted : Bool) (h : Hub) (w_h : h.Sound) : (Hub.linkRequest who req idx val len data busy good admitted h).Sound := by
  unfold Hub.linkRequest
  repeat'
    first
    | intro _ | with_reducible assumption | with_reducible apply Hub.Sound.answer | with_reducible apply Hub.Sound.request
    | with_reducible apply Hub.Sound.ite | dsimp only | split

theorem Hub.Sound.unseen (h : Hub) (w_h : h.Sound) : (Hub.unseen h).2.2.Sound := by
  unfold Hub.unseen
  repeat'
    first
    | intro _ | with_reducible assumption | with_reducible apply Hub.Sound.fresh
    | with_reducible refine Hub.Sound.pair (by assumption) ?_ | with_reducible refine Hub.Sound.pair3 (by assumption) ?_
    | with_reducible refine Hub.Sound.pair4 (by assumption) ?_ | dsimp only | split

theorem Hub.Sound.saveFailed (j : SaveJob) (found : Nat) (h : Hub) (w_h : h.Sound) : (Hub.saveFailed j found h).Sound := by
  unfold Hub.saveFailed
  repeat'
    first
    | intro _ | with_reducible assumption | with_reducible apply Hub.Sound.putCopy | with_reducible apply Hub.Sound.wr
    | with_reducible apply Hub.Sound.report | with_reducible apply Hub.Sound.ite | dsimp only | split

theorem Hub.Sound.windowTake (k : Nat) (v : Nat) (h : Hub) (w_h : h.Sound) : (Hub.windowTake k v h).Sound := by
  unfold Hub.windowTake
  repeat'
    first
    | intro _ | simp only [Hub.Sound.of_mk] | with_reducible assumption | with_reducible apply Hub.Sound.applyPlain
    | with_reducible apply Hub.Sound.ite | with_reducible refine Hub.Sound.pair (by assumption) ?_
    | with_reducible refine Hub.Sound.pair3 (by assumption) ?_ | with_reducible refine Hub.Sound.pair4 (by assumption) ?_
    | dsimp only | split

theorem Hub.Sound.saveDone (j : SaveJob) (h : Hub) (w_h : h.Sound) : (Hub.saveDone j h).Sound := by
  unfold Hub.saveDone
  repeat'
    first
    | intro _ | with_reducible assumption | with_reducible apply Hub.Sound.putCopy | with_reducible apply Hub.Sound.wr
    | with_reducible apply Hub.Sound.ite | dsimp only | split

theorem Hub.Sound.saveComplete (first : Nat) (second : Nat) (h : Hub) (w_h : h.Sound) : (Hub.saveComplete first second h).Sound :=
    by
  unfold Hub.saveComplete
  repeat'
    first
    | intro _ | simp only [Hub.Sound.of_mk] | with_reducible assumption | with_reducible apply Hub.Sound.saveDone
    | with_reducible apply Hub.Sound.eraseTarget | with_reducible apply Hub.Sound.saveFailed
    | with_reducible apply Hub.Sound.refreshOdOpen | with_reducible apply Hub.Sound.wr
    | with_reducible apply Hub.Sound.noteRequest | with_reducible apply Hub.Sound.commandReset
    | with_reducible apply Hub.Sound.answer | with_reducible apply Hub.Sound.ite | dsimp only | split

theorem Hub.Sound.windowWrite (idx : Nat) (sub : Nat) (lengthOk : Bool) (v : Nat) (h : Hub) (w_h : h.Sound) : (Hub.windowWrite idx
    sub lengthOk v h).Sound := by
  unfold Hub.windowWrite
  repeat'
    first
    | intro _ | with_reducible assumption | with_reducible apply Hub.Sound.wrote | with_reducible apply Hub.Sound.windowTake
    | with_reducible apply Hub.Sound.refusedEffect | with_reducible apply Hub.Sound.wr | with_reducible apply Hub.Sound.inc
    | with_reducible apply Hub.Sound.ite | dsimp only | split

theorem Hub.Sound.txnIdle (who : Nat) (h : Hub) (w_h : h.Sound) : (Hub.txnIdle who h).Sound := by
  unfold Hub.txnIdle
  repeat'
    first
    | intro _ | with_reducible assumption | with_reducible apply Hub.Sound.dropTxn | with_reducible apply Hub.Sound.ite
    | dsimp only | split

theorem Hub.Sound.registerWrite (owner : Bool) (idx : Nat) (sub : Nat) (len : Nat) (v : Nat) (busy : Bool) (good : Bool) (h : Hub)
    (w_h : h.Sound) : (Hub.registerWrite owner idx sub len v busy good h).Sound := by
  unfold Hub.registerWrite
  repeat'
    first
    | intro _ | with_reducible assumption | with_reducible apply Hub.Sound.wrote
    | with_reducible apply Hub.Sound.deviceCommand | with_reducible apply Hub.Sound.outcome
    | with_reducible apply Hub.Sound.liveWrite | with_reducible apply Hub.Sound.ite | dsimp only | split

theorem Hub.Sound.winRead (idx sub word count : Nat) (h : Hub) (w_h : h.Sound) : (Hub.winRead idx sub word count h).Sound := by
  have wf : ∀ (l : List Nat) (a : List Nat) (x : Hub), x.Sound →
      (l.foldl (fun (x : List Nat × Hub) _ => (x.1 ++ [x.2.fresh.1 % 2 ^ 32], x.2.fresh.2)) (a, x)).2.Sound := by
    intro l
    induction l with
    | nil => exact fun _ _ w => w
    | cons _ r ih => exact fun _ _ w => ih _ _ (Hub.Sound.fresh _ w)
  unfold Hub.winRead
  repeat'
    first
    | with_reducible apply Hub.Sound.emit | with_reducible assumption | exact wf _ _ _ w_h | dsimp only | split

theorem Hub.Sound.odResponse (offset : Nat) (n : Nat) (h : Hub) (w_h : h.Sound) : (Hub.odResponse offset n h).Sound := by
  unfold Hub.odResponse
  repeat'
    first
    | intro _ | with_reducible assumption | with_reducible apply Hub.Sound.emit | with_reducible apply Hub.Sound.wr
    | with_reducible apply Hub.Sound.ite | with_reducible refine Hub.Sound.pair (by assumption) ?_
    | with_reducible refine Hub.Sound.pair3 (by assumption) ?_ | with_reducible refine Hub.Sound.pair4 (by assumption) ?_
    | dsimp only | split

theorem Hub.Sound.txDiscard (reason : Nat) (h : Hub) (w_h : h.Sound) : (Hub.txDiscard reason h).Sound := by
  unfold Hub.txDiscard
  repeat'
    first
    | intro _ | with_reducible assumption | with_reducible apply Hub.Sound.wr | with_reducible apply Hub.Sound.inc
    | dsimp only | split

theorem Hub.Sound.dropOpen (h : Hub) (w_h : h.Sound) : (Hub.dropOpen h).Sound := by
  unfold Hub.dropOpen
  repeat'
    first
    | intro _ | simp only [Hub.Sound.of_mk] | with_reducible assumption | dsimp only | split

theorem Hub.Sound.joinTxq (w : FifoWord) (h : Hub) (w_h : h.Sound) : (Hub.joinTxq w h).Sound := by
  unfold Hub.joinTxq
  repeat'
    first
    | intro _ | simp only [Hub.Sound.of_mk] | with_reducible assumption | with_reducible apply Hub.Sound.txDiscard
    | with_reducible apply Hub.Sound.dropOpen | with_reducible apply Hub.Sound.pumpTxq | with_reducible apply Hub.Sound.ite
    | dsimp only | split

theorem Hub.Sound.takeTxWord (v : Nat) (h : Hub) (w_h : h.Sound) : (Hub.takeTxWord v h).Sound := by
  unfold Hub.takeTxWord
  repeat'
    first
    | intro _ | with_reducible assumption | with_reducible apply Hub.Sound.txDiscard | with_reducible apply Hub.Sound.wr
    | with_reducible apply Hub.Sound.dropOpen | with_reducible apply Hub.Sound.joinTxq | with_reducible apply Hub.Sound.ite
    | dsimp only | split

theorem Hub.Sound.holdResponse (h : Hub) (w_h : h.Sound) : (Hub.holdResponse h).Sound := by
  unfold Hub.holdResponse
  repeat'
    first
    | intro _ | with_reducible assumption | with_reducible apply Hub.Sound.wr | dsimp only | split

theorem Hub.Sound.hostServe (h : Hub) (w_h : h.Sound) : (Hub.hostServe h).Sound := by
  unfold Hub.hostServe
  repeat'
    first
    | intro _ | with_reducible assumption | with_reducible apply Hub.Sound.unseen | with_reducible apply Hub.Sound.request
    | with_reducible apply Hub.Sound.wr | with_reducible apply Hub.Sound.ite
    | with_reducible refine Hub.Sound.pair (by assumption) ?_ | with_reducible refine Hub.Sound.pair3 (by assumption) ?_
    | with_reducible refine Hub.Sound.pair4 (by assumption) ?_ | dsimp only | split

theorem Hub.Sound.odRequest (len : Nat) (data : Nat) (h : Hub) (w_h : h.Sound) : (Hub.odRequest len data h).Sound := by
  unfold Hub.odRequest
  repeat'
    first
    | intro _ | simp only [Hub.Sound.of_mk] | with_reducible assumption | with_reducible apply Hub.Sound.inc
    | with_reducible apply Hub.Sound.wr | with_reducible apply Hub.Sound.holdResponse
    | with_reducible apply Hub.Sound.hostAnswer | with_reducible apply Hub.Sound.hostServe
    | with_reducible apply Hub.Sound.ite | with_reducible refine Hub.Sound.pair (by assumption) ?_
    | with_reducible refine Hub.Sound.pair3 (by assumption) ?_ | with_reducible refine Hub.Sound.pair4 (by assumption) ?_
    | dsimp only | split

theorem Hub.Sound.winWrite (idx : Nat) (sub : Nat) (word : Nat) (ws : List Nat) (h : Hub) (w_h : h.Sound) : (Hub.winWrite idx sub word
    ws h).Sound := by
  unfold Hub.winWrite
  repeat'
    first
    | intro _ | with_reducible assumption | with_reducible apply Hub.Sound.windowWrite | with_reducible apply Hub.Sound.ite
    | with_reducible refine Hub.Sound.pair (by assumption) ?_ | with_reducible refine Hub.Sound.pair3 (by assumption) ?_
    | with_reducible refine Hub.Sound.pair4 (by assumption) ?_ | dsimp only | split

theorem Hub.Sound.setFifo (sel : Nat) (l : List FifoWord) (h : Hub) (hl : l.length ≤ (h.fifo sel).length) (w_h : h.Sound) :
    (Hub.setFifo sel l h).Sound := by
  unfold Hub.setFifo
  split
  · exact w_h.congr rfl rfl rfl rfl rfl rfl
  · split
    · exact w_h.congr rfl rfl rfl rfl rfl rfl
    · next h0 h1 =>
      have : l.length ≤ 512 := by
        have := w_h.evq
        simp only [Hub.fifo, h0, h1, if_false] at hl
        omega
      exact ⟨w_h.cells, w_h.clock, w_h.log, w_h.ring, this, w_h.shadows⟩

theorem Hub.Sound.consumeWord (sel : Nat) (w : FifoWord) (r : List FifoWord) (h : Hub) (hl : r.length ≤ (h.fifo sel).length)
    (w_h : h.Sound) : (Hub.consumeWord sel w r h).Sound := by
  have w1 := Hub.Sound.setFifo sel r h hl w_h
  unfold Hub.consumeWord
  split
  · exact w1
  · exact Hub.Sound.pumpEvq _ (Hub.Sound.ite (w1.wr _ _) w1)

theorem Hub.Sound.fifoReadN (sel n : Nat) (acc : List Nat) (h : Hub) (w_h : h.Sound) : (Hub.fifoReadN sel n acc h).2.Sound := by
  induction n generalizing acc h with
  | zero => exact w_h
  | succ n ih =>
    unfold Hub.fifoReadN
    split
    · exact ih _ _ w_h
    · next w r e => exact ih _ _ (Hub.Sound.consumeWord sel w r h (by simp [e]) w_h)

theorem Hub.Sound.odResponseReady (h : Hub) (w_h : h.Sound) : (Hub.odResponseReady h).Sound := by
  unfold Hub.odResponseReady
  repeat'
    first
    | intro _ | with_reducible assumption | with_reducible apply Hub.Sound.hostServe
    | with_reducible apply Hub.Sound.holdResponse | with_reducible apply Hub.Sound.ite
    | with_reducible refine Hub.Sound.pair (by assumption) ?_ | with_reducible refine Hub.Sound.pair3 (by assumption) ?_
    | with_reducible refine Hub.Sound.pair4 (by assumption) ?_ | dsimp only | split

theorem Hub.Sound.readStatus (n : Nat) (h : Hub) (w_h : h.Sound) : (Hub.readStatus n h).Sound := by
  unfold Hub.readStatus
  repeat'
    first
    | intro _ | with_reducible assumption | with_reducible apply Hub.Sound.emit | dsimp only | split

theorem Hub.Sound.hosted (f : Hub → Hub) (h : Hub) (w_f : ∀ (y0 : Hub), y0.Sound → (f y0).Sound) (w_h : h.Sound) : (Hub.hosted
    f h).Sound := by
  unfold Hub.hosted
  repeat'
    first
    | intro _ | with_reducible assumption | with_reducible apply w_f | with_reducible apply Hub.Sound.ite | dsimp only | split

theorem Hub.Sound.fifoRead (sel : Nat) (n : Nat) (h : Hub) (w_h : h.Sound) : (Hub.fifoRead sel n h).Sound := by
  unfold Hub.fifoRead
  repeat'
    first
    | intro _ | with_reducible assumption | with_reducible apply Hub.Sound.fifoReadN | with_reducible apply Hub.Sound.emit
    | with_reducible refine Hub.Sound.pair (by assumption) ?_ | with_reducible refine Hub.Sound.pair3 (by assumption) ?_
    | with_reducible refine Hub.Sound.pair4 (by assumption) ?_ | dsimp only | split

theorem Hub.Sound.linkSeq (p : Nat) (a : Nat) (header : Nat) (h : Hub) (w_h : h.Sound) : (Hub.linkSeq p a header h).Sound := by
  unfold Hub.linkSeq
  repeat'
    first
    | intro _ | with_reducible assumption | with_reducible apply Hub.Sound.add | with_reducible apply Hub.Sound.wr
    | with_reducible apply Hub.Sound.ite | dsimp only | split

theorem Hub.Sound.refuseFrame (p : Nat) (header : Nat) (reason : Nat) (h : Hub) (w_h : h.Sound) : (Hub.refuseFrame p header reason
    h).Sound := by
  unfold Hub.refuseFrame
  repeat'
    first
    | intro _ | with_reducible assumption | with_reducible apply Hub.Sound.returnCredit
    | with_reducible apply Hub.Sound.countDrop | with_reducible apply Hub.Sound.countIn | dsimp only | split

theorem Hub.Sound.dropUntold (p : Nat) (ep : Nat) (h : Hub) (w_h : h.Sound) : (Hub.dropUntold p ep h).Sound := by
  unfold Hub.dropUntold
  repeat'
    first
    | intro _ | simp only [Hub.Sound.of_mk] | with_reducible assumption | dsimp only | split

theorem Hub.Sound.headerReceived (p : Nat) (header : Nat) (h : Hub) (w_h : h.Sound) : (Hub.headerReceived p header h).Sound := by
  unfold Hub.headerReceived
  repeat'
    first
    | intro _ | with_reducible assumption | with_reducible apply Hub.Sound.returnCredit
    | with_reducible apply Hub.Sound.linkSeq | with_reducible apply Hub.Sound.putStream
    | with_reducible apply Hub.Sound.dropUntold | with_reducible apply Hub.Sound.refuseFrame
    | with_reducible apply Hub.Sound.inc | with_reducible apply Hub.Sound.enterFrame | with_reducible apply Hub.Sound.ite
    | dsimp only | split

theorem Hub.Sound.cutStall (p : Nat) (h : Hub) (w_h : h.Sound) : (Hub.cutStall p h).Sound := by
  unfold Hub.cutStall
  repeat'
    first
    | intro _ | with_reducible assumption | with_reducible apply Hub.Sound.countDrop
    | with_reducible apply Hub.Sound.poisonCopy | with_reducible apply Hub.Sound.ite
    | with_reducible refine Hub.Sound.pair (by assumption) ?_ | with_reducible refine Hub.Sound.pair3 (by assumption) ?_
    | with_reducible refine Hub.Sound.pair4 (by assumption) ?_ | dsimp only | split

theorem Hub.Sound.copyStart (p : Nat) (cutReady : Bool) (h : Hub) (w_h : h.Sound) : (Hub.copyStart p cutReady h).Sound := by
  unfold Hub.copyStart
  repeat'
    first
    | intro _ | with_reducible assumption | with_reducible apply Hub.Sound.dropCopy | with_reducible apply Hub.Sound.wr
    | with_reducible apply Hub.Sound.beginCopy | with_reducible apply Hub.Sound.ite
    | with_reducible refine Hub.Sound.pair (by assumption) ?_ | with_reducible refine Hub.Sound.pair3 (by assumption) ?_
    | with_reducible refine Hub.Sound.pair4 (by assumption) ?_ | dsimp only | split

theorem Hub.Sound.verdictOf (p : Nat) (ep : Nat) (len : Nat) (data : Nat) (tag : Nat) (crc : Nat) (fin : FrameFin) (h : Hub) (w_h :
    h.Sound) : (Hub.verdictOf p ep len data tag crc fin h).Sound := by
  unfold Hub.verdictOf
  repeat'
    first
    | intro _ | with_reducible assumption | with_reducible apply Hub.Sound.streamDone
    | with_reducible apply Hub.Sound.frameGood | with_reducible apply Hub.Sound.frameBad | with_reducible apply Hub.Sound.ite
    | dsimp only | split

theorem Hub.Sound.copyEnd (p : Nat) (h : Hub) (w_h : h.Sound) : (Hub.copyEnd p h).Sound := by
  unfold Hub.copyEnd
  repeat'
    first
    | intro _ | with_reducible assumption | with_reducible apply Hub.Sound.finishCopy | with_reducible apply Hub.Sound.ite
    | with_reducible refine Hub.Sound.pair (by assumption) ?_ | with_reducible refine Hub.Sound.pair3 (by assumption) ?_
    | with_reducible refine Hub.Sound.pair4 (by assumption) ?_ | dsimp only | split

theorem Hub.Sound.rejoin (p : Nat) (h : Hub) (w_h : h.Sound) : (Hub.rejoin p h).Sound :=
  Hub.Sound.expire w_h _ _ (fun _ w => w)

theorem Hub.Sound.badByEcc (id : Nat) (h : Hub) (w_h : h.Sound) : (Hub.badByEcc id h).Sound := by
  unfold Hub.badByEcc
  repeat'
    first
    | intro _ | with_reducible assumption | with_reducible apply Hub.Sound.countDrop | with_reducible apply Hub.Sound.frameBad
    | with_reducible apply Hub.Sound.ite | with_reducible apply Hub.Sound.foldl | dsimp only | split

theorem Hub.Sound.eccError (bank : Nat) (cell : Nat) (double : Bool) (h : Hub) (w_h : h.Sound) : (Hub.eccError bank cell double
    h).Sound := by
  unfold Hub.eccError
  repeat'
    first
    | intro _ | with_reducible assumption | with_reducible apply Hub.Sound.report | with_reducible apply Hub.Sound.inc
    | with_reducible apply Hub.Sound.badByEcc | with_reducible apply Hub.Sound.ite | dsimp only | split

theorem Hub.Sound.keyWorn (p : Nat) (h : Hub) (w_h : h.Sound) : (Hub.keyWorn p h).Sound := by
  unfold Hub.keyWorn
  repeat'
    first
    | intro _ | with_reducible assumption | with_reducible apply Hub.Sound.retrainLink | with_reducible apply Hub.Sound.ite
    | dsimp only | split

theorem Hub.Sound.backToFs (p : Nat) (h : Hub) (w_h : h.Sound) : (Hub.backToFs p h).Sound := by
  unfold Hub.backToFs
  repeat'
    first
    | intro _ | with_reducible assumption | with_reducible apply Hub.Sound.restorePull
    | with_reducible apply Hub.Sound.linkDown | dsimp only | split

theorem Hub.Sound.noSymbol (p : Nat) (h : Hub) (w_h : h.Sound) : (Hub.noSymbol p h).Sound := by
  unfold Hub.noSymbol
  repeat'
    first
    | intro _ | with_reducible assumption | with_reducible apply Hub.Sound.expire | with_reducible apply Hub.Sound.backToFs
    | with_reducible apply Hub.Sound.ite | dsimp only | split

theorem Hub.Sound.tickReceived (p : Nat) (time : Nat) (h : Hub) (w_h : h.Sound) : (Hub.tickReceived p time h).Sound := by
  unfold Hub.tickReceived
  repeat'
    first
    | intro _ | with_reducible assumption | with_reducible apply Hub.Sound.timeMessage | with_reducible apply Hub.Sound.ite
    | dsimp only | split

theorem Hub.Sound.trackSeq (u : Nat) (q : Nat) (h : Hub) (w_h : h.Sound) : (Hub.trackSeq u q h).Sound := by
  unfold Hub.trackSeq
  repeat'
    first
    | intro _ | with_reducible assumption | with_reducible apply Hub.Sound.wr | dsimp only | split

theorem Hub.Sound.frameAccepted (p : Nat) (header : Nat) (h : Hub) (w_h : h.Sound) : (Hub.frameAccepted p header h).Sound := by
  unfold Hub.frameAccepted
  repeat'
    first
    | intro _ | with_reducible assumption | with_reducible apply Hub.Sound.trackSeq | with_reducible apply Hub.Sound.linkSeq
    | with_reducible apply Hub.Sound.inc | with_reducible apply Hub.Sound.ite | dsimp only | split

theorem Hub.Sound.sendStall (p : Nat) (h : Hub) (w_h : h.Sound) : (Hub.sendStall p h).Sound := by
  unfold Hub.sendStall
  repeat'
    first
    | intro _ | with_reducible assumption | with_reducible apply Hub.Sound.inc | with_reducible apply Hub.Sound.emit
    | dsimp only | split

theorem Hub.Sound.activeAt (p : Nat) (c : Nat) (h : Hub) (w_h : h.Sound) : (Hub.activeAt p c h).Sound := by
  unfold Hub.activeAt
  repeat'
    first
    | intro _ | with_reducible assumption | with_reducible apply Hub.Sound.linkTo | with_reducible apply Hub.Sound.judgeReach
    | with_reducible apply Hub.Sound.wr | dsimp only | split

theorem Hub.Sound.trained (p : Nat) (active : Bool) (inverted : Bool) (inverted2 : Bool) (h : Hub) (w_h : h.Sound) :
    (Hub.trained p active inverted inverted2 h).Sound := by
  unfold Hub.trained
  repeat'
    first
    | intro _ | with_reducible assumption | with_reducible apply Hub.Sound.emit | with_reducible apply Hub.Sound.stop
    | with_reducible apply Hub.Sound.wr | with_reducible apply Hub.Sound.activeAt | with_reducible apply Hub.Sound.arm
    | with_reducible apply Hub.Sound.ite | dsimp only | split

theorem Hub.Sound.fabricMoves (p : Nat) (n : Nat) (h : Hub) (w_h : h.Sound) : (Hub.fabricMoves p n h).Sound := by
  unfold Hub.fabricMoves
  repeat'
    first
    | intro _ | simp only [Hub.Sound.of_mk] | with_reducible assumption | with_reducible apply Hub.Sound.wr
    | with_reducible apply Hub.Sound.ite | dsimp only | split

theorem Hub.Sound.countBurst (p : Nat) (qs : List Packet) (b : Burst) (h : Hub) (w_h : h.Sound) : (Hub.countBurst p qs b
    h).Sound := by
  unfold Hub.countBurst
  repeat'
    first
    | intro _ | with_reducible assumption | with_reducible apply Hub.Sound.countFault | with_reducible apply Hub.Sound.add
    | with_reducible apply Hub.Sound.heardPackets | with_reducible apply Hub.Sound.foldl | dsimp only | split

theorem Hub.Sound.endControl (p : Nat) (h : Hub) (w_h : h.Sound) : (Hub.endControl p h).Sound := by
  unfold Hub.endControl
  repeat'
    first
    | intro _ | simp only [Hub.Sound.of_mk] | with_reducible assumption | dsimp only | split

theorem Hub.Sound.putControl (c : Control) (h : Hub) (w_h : h.Sound) : (Hub.putControl c h).Sound := by
  unfold Hub.putControl
  repeat'
    first
    | intro _ | simp only [Hub.Sound.of_mk] | with_reducible assumption | dsimp only | split

theorem Hub.Sound.serveControl (p : Nat) (c : Control) (admitted : Bool) (h : Hub) (w_h : h.Sound) : (Hub.serveControl p c
    admitted h).Sound := by
  unfold Hub.serveControl
  repeat'
    first
    | intro _ | with_reducible assumption | with_reducible apply Hub.Sound.unseen | with_reducible apply Hub.Sound.linkRequest
    | with_reducible refine Hub.Sound.pair (by assumption) ?_ | with_reducible refine Hub.Sound.pair3 (by assumption) ?_
    | with_reducible refine Hub.Sound.pair4 (by assumption) ?_ | dsimp only | split

theorem Hub.Sound.controlOut (p : Nat) (qs : List Packet) (h : Hub) (w_h : h.Sound) : (Hub.controlOut p qs h).Sound := by
  unfold Hub.controlOut
  repeat'
    first
    | intro _ | with_reducible assumption | with_reducible apply Hub.Sound.countBurst | with_reducible apply Hub.Sound.wr
    | with_reducible apply Hub.Sound.sendStall | with_reducible apply Hub.Sound.endControl
    | with_reducible apply Hub.Sound.emit | with_reducible apply Hub.Sound.putControl
    | with_reducible apply Hub.Sound.serveControl | with_reducible apply Hub.Sound.ite | dsimp only | split

theorem Hub.Sound.sendSof (p : Nat) (h : Hub) (w_h : h.Sound) : (Hub.sendSof p h).Sound := by
  unfold Hub.sendSof
  repeat'
    first
    | intro _ | with_reducible assumption | with_reducible apply Hub.Sound.sendLink | with_reducible apply Hub.Sound.emit
    | with_reducible apply Hub.Sound.ite | with_reducible refine Hub.Sound.pair (by assumption) ?_
    | with_reducible refine Hub.Sound.pair3 (by assumption) ?_ | with_reducible refine Hub.Sound.pair4 (by assumption) ?_
    | dsimp only | split

theorem Hub.Sound.takeAddress (p : Nat) (a : Nat) (h : Hub) (w_h : h.Sound) : (Hub.takeAddress p a h).Sound := by
  unfold Hub.takeAddress
  repeat'
    first
    | intro _ | with_reducible assumption | with_reducible apply Hub.Sound.wr | with_reducible apply Hub.Sound.ite
    | dsimp only | split

theorem Hub.Sound.roundTrip (p : Nat) (ns : Nat) (h : Hub) (w_h : h.Sound) : (Hub.roundTrip p ns h).Sound := by
  unfold Hub.roundTrip
  repeat'
    first
    | intro _ | with_reducible assumption | with_reducible apply Hub.Sound.wr | dsimp only | split

theorem Hub.Sound.acknowledged (p : Nat) (ep : Nat) (n : Nat) (h : Hub) (w_h : h.Sound) : (Hub.acknowledged p ep n h).Sound := by
  unfold Hub.acknowledged
  repeat'
    first
    | intro _ | with_reducible assumption | with_reducible apply Hub.Sound.fabricMoves | with_reducible apply Hub.Sound.wr
    | with_reducible apply Hub.Sound.putControl | with_reducible apply Hub.Sound.endControl
    | with_reducible apply Hub.Sound.takeAddress | with_reducible apply Hub.Sound.ite | dsimp only | split

theorem Hub.Sound.ackDown (p : Nat) (next : Nat) (h : Hub) (w_h : h.Sound) : (Hub.ackDown p next h).Sound := by
  unfold Hub.ackDown
  repeat'
    first
    | intro _ | with_reducible assumption | with_reducible apply Hub.Sound.wr | with_reducible apply Hub.Sound.inc
    | with_reducible apply Hub.Sound.freeSlot | with_reducible apply Hub.Sound.acknowledged
    | with_reducible apply Hub.Sound.ite | dsimp only | split

theorem Hub.Sound.handshakeReceived (p : Nat) (k : Handshake) (next : Nat) (echo : Option Nat) (fault : LineFault) (h : Hub) (w_h :
    h.Sound) : (Hub.handshakeReceived p k next echo fault h).Sound := by
  unfold Hub.handshakeReceived
  repeat'
    first
    | intro _ | with_reducible assumption | with_reducible apply Hub.Sound.countFault
    | with_reducible apply Hub.Sound.heardPackets | with_reducible apply Hub.Sound.ackDown
    | with_reducible apply Hub.Sound.startTxn | with_reducible apply Hub.Sound.roundTrip | with_reducible apply Hub.Sound.ite
    | dsimp only | split

theorem Hub.Sound.suspendedDown (p : Nat) (h : Hub) (w_h : h.Sound) : (Hub.suspendedDown p h).Sound := by
  unfold Hub.suspendedDown
  repeat'
    first
    | intro _ | with_reducible assumption | with_reducible apply Hub.Sound.linkTo
    | with_reducible apply Hub.Sound.upstreamSuspended | with_reducible apply Hub.Sound.ite | dsimp only | split

theorem Hub.Sound.echoReceived (p : Nat) (t1 : Nat) (t2 : Nat) (t3 : Nat) (h : Hub) (w_h : h.Sound) : (Hub.echoReceived p t1 t2 t3
    h).Sound := by
  unfold Hub.echoReceived
  repeat'
    first
    | intro _ | with_reducible assumption | with_reducible apply Hub.Sound.wr | with_reducible apply Hub.Sound.ite
    | dsimp only | split

theorem Hub.Sound.timeEcho (p : Nat) (h : Hub) (w_h : h.Sound) : (Hub.timeEcho p h).Sound := by
  unfold Hub.timeEcho
  repeat'
    first
    | intro _ | with_reducible assumption | with_reducible apply Hub.Sound.emit | with_reducible apply Hub.Sound.heardPackets
    | with_reducible apply Hub.Sound.ite | dsimp only | split

theorem Hub.Sound.frameOutIn (p : Nat) (qs : List Packet) (h : Hub) (w_h : h.Sound) : (Hub.frameOutIn p qs h).Sound := by
  unfold Hub.frameOutIn
  repeat'
    first
    | intro _ | with_reducible assumption | with_reducible apply Hub.Sound.wr | with_reducible apply Hub.Sound.countBurst
    | with_reducible apply Hub.Sound.sendStall | with_reducible apply Hub.Sound.emit | with_reducible apply Hub.Sound.streamIn
    | with_reducible apply Hub.Sound.ite | dsimp only | split

theorem Hub.Sound.burstDown (p : Nat) (qs : List Packet) (h : Hub) (w_h : h.Sound) : (Hub.burstDown p qs h).Sound := by
  unfold Hub.burstDown
  repeat'
    first
    | intro _ | with_reducible assumption | with_reducible apply Hub.Sound.wr | with_reducible apply Hub.Sound.controlOut
    | with_reducible apply Hub.Sound.frameOutIn | with_reducible apply Hub.Sound.countBurst
    | with_reducible apply Hub.Sound.ite | dsimp only | split

theorem Hub.Sound.statusReceived (p : Nat) (v : Nat) (h : Hub) (w_h : h.Sound) : (Hub.statusReceived p v h).Sound := by
  unfold Hub.statusReceived
  repeat'
    first
    | intro _ | with_reducible assumption | with_reducible apply Hub.Sound.wr | with_reducible apply Hub.Sound.ite
    | dsimp only | split

theorem Hub.Sound.sendBurst (p : Nat) (ep : Nat) (n : Nat) (len : Nat) (data : Nat) (h : Hub) (w_h : h.Sound) : (Hub.sendBurst p ep n
    len data h).Sound := by
  unfold Hub.sendBurst
  repeat'
    first
    | intro _ | with_reducible assumption | with_reducible apply Hub.Sound.arm | with_reducible apply Hub.Sound.wr
    | with_reducible apply Hub.Sound.emit | dsimp only | split

theorem Hub.Sound.fabricIn (p : Nat) (count : Nat) (h : Hub) (w_h : h.Sound) : (Hub.fabricIn p count h).Sound := by
  unfold Hub.fabricIn
  repeat'
    first
    | intro _ | with_reducible assumption | with_reducible apply Hub.Sound.emit | with_reducible apply Hub.Sound.sendBurst
    | dsimp only | split

theorem Hub.Sound.afterSof (p : Nat) (h : Hub) (w_h : h.Sound) : (Hub.afterSof p h).Sound := by
  unfold Hub.afterSof
  repeat'
    first
    | intro _ | with_reducible assumption | with_reducible apply Hub.Sound.wr | with_reducible apply Hub.Sound.arm
    | with_reducible apply Hub.Sound.ite | dsimp only | split

theorem Hub.Sound.tagPassed (u : Nat) (next : Bool) (h : Hub) (w_h : h.Sound) : (Hub.tagPassed u next h).Sound := by
  unfold Hub.tagPassed
  repeat'
    first
    | intro _ | with_reducible assumption | with_reducible apply Hub.Sound.wr | with_reducible apply Hub.Sound.nextKeyPassed
    | with_reducible apply Hub.Sound.ite | dsimp only | split

theorem Hub.Sound.tagFailed (u : Nat) (h : Hub) (w_h : h.Sound) : (Hub.tagFailed u h).Sound := by
  unfold Hub.tagFailed
  repeat'
    first
    | intro _ | with_reducible assumption | with_reducible apply Hub.Sound.wr | with_reducible apply Hub.Sound.inc
    | with_reducible apply Hub.Sound.retrainLink | with_reducible apply Hub.Sound.ite | dsimp only | split

theorem Hub.Sound.frameReceived (p : Nat) (header : Nat) (len : Nat) (data : Nat) (tag : Nat) (crc : Nat) (poisoned : Bool) (code : Bool)
    (h : Hub) (w_h : h.Sound) : (Hub.frameReceived p header len data tag crc poisoned code h).Sound := by
  unfold Hub.frameReceived
  repeat'
    first
    | intro _ | with_reducible assumption | with_reducible apply Hub.Sound.linkError | with_reducible apply Hub.Sound.inc
    | with_reducible apply Hub.Sound.frameAccepted | with_reducible apply Hub.Sound.tagPassed
    | with_reducible apply Hub.Sound.tagFailed | with_reducible apply Hub.Sound.ite | dsimp only | split

theorem Hub.Sound.clearHalt (p : Nat) (index : Nat) (h : Hub) (w_h : h.Sound) : (Hub.clearHalt p index h).2.Sound := by
  unfold Hub.clearHalt
  repeat'
    first
    | intro _ | with_reducible assumption | with_reducible apply Hub.Sound.wr | with_reducible apply Hub.Sound.ite
    | with_reducible refine Hub.Sound.pair (by assumption) ?_ | with_reducible refine Hub.Sound.pair3 (by assumption) ?_
    | with_reducible refine Hub.Sound.pair4 (by assumption) ?_ | dsimp only | split

theorem Hub.Sound.standardFrame (port : Nat) (r : Nat) (h : Hub) (w_h : h.Sound) : (Hub.standardFrame port r h).2.2.2.Sound := by
  unfold Hub.standardFrame
  repeat'
    first
    | intro _ | with_reducible assumption | with_reducible apply Hub.Sound.clearHalt
    | with_reducible apply Hub.Sound.takeAddress | with_reducible apply Hub.Sound.ite
    | with_reducible refine Hub.Sound.pair (by assumption) ?_ | with_reducible refine Hub.Sound.pair3 (by assumption) ?_
    | with_reducible refine Hub.Sound.pair4 (by assumption) ?_ | dsimp only | split

theorem Hub.Sound.controlRequest (port : Nat) (src : Nat) (tag : Nat) (len : Nat) (data : Nat) (busy : Bool) (good : Bool) (h : Hub)
    (w_h : h.Sound) : (Hub.controlRequest port src tag len data busy good h).Sound := by
  unfold Hub.controlRequest
  repeat'
    first
    | intro _ | simp only [Hub.Sound.of_mk] | with_reducible assumption | with_reducible apply Hub.Sound.sendResponse
    | with_reducible apply Hub.Sound.answerFrame | with_reducible apply Hub.Sound.standardFrame
    | with_reducible apply Hub.Sound.linkRequest | with_reducible apply Hub.Sound.ite
    | with_reducible refine Hub.Sound.pair (by assumption) ?_ | with_reducible refine Hub.Sound.pair3 (by assumption) ?_
    | with_reducible refine Hub.Sound.pair4 (by assumption) ?_ | dsimp only | split

theorem Hub.Sound.controlFrame (port : Nat) (src : Nat) (tag : Nat) (len : Nat) (data : Nat) (busy : Bool) (good : Bool) (h : Hub) (w_h
    : h.Sound) : (Hub.controlFrame port src tag len data busy good h).Sound := by
  unfold Hub.controlFrame
  repeat'
    first
    | intro _ | with_reducible assumption | with_reducible apply Hub.Sound.controlRequest | with_reducible apply Hub.Sound.ite
    | dsimp only | split

theorem Hub.Sound.pullupGone (p : Nat) (h : Hub) (w_h : h.Sound) : (Hub.pullupGone p h).Sound := by
  unfold Hub.pullupGone
  repeat'
    first
    | intro _ | with_reducible assumption | with_reducible apply Hub.Sound.clear | with_reducible apply Hub.Sound.linkTo
    | with_reducible apply Hub.Sound.ite | dsimp only | split

theorem Hub.Sound.burstEnd (p : Nat) (h : Hub) (w_h : h.Sound) : (Hub.burstEnd p h).Sound := by
  unfold Hub.burstEnd
  repeat'
    first
    | intro _ | with_reducible assumption | with_reducible apply Hub.Sound.wr | with_reducible apply Hub.Sound.emit
    | with_reducible apply Hub.Sound.ite | dsimp only | split

theorem Hub.Sound.burstUp (x : Txn) (qs : List Packet) (ended : Bool) (h : Hub) (w_h : h.Sound) : (Hub.burstUp x qs ended
    h).Sound := by
  unfold Hub.burstUp
  repeat'
    first
    | intro _ | with_reducible assumption | with_reducible apply Hub.Sound.countBurst
    | with_reducible apply Hub.Sound.startTxn | with_reducible apply Hub.Sound.wr | with_reducible apply Hub.Sound.streamIn
    | with_reducible apply Hub.Sound.emit | with_reducible apply Hub.Sound.ite | dsimp only | split

theorem Hub.Sound.creditTimer (p : Nat) (h : Hub) (w_h : h.Sound) : (Hub.creditTimer p h).Sound := by
  unfold Hub.creditTimer
  repeat'
    first
    | intro _ | with_reducible assumption | with_reducible apply Hub.Sound.expire | with_reducible apply Hub.Sound.arm
    | with_reducible apply Hub.Sound.wr | with_reducible apply Hub.Sound.sendLink | with_reducible apply Hub.Sound.ite
    | dsimp only | split

theorem Hub.Sound.sofReceived (p : Nat) (body : Nat) (fault : LineFault) (h : Hub) (w_h : h.Sound) : (Hub.sofReceived p body fault
    h).Sound := by
  unfold Hub.sofReceived
  repeat'
    first
    | intro _ | with_reducible assumption | with_reducible apply Hub.Sound.countFault
    | with_reducible apply Hub.Sound.heardPackets | with_reducible apply Hub.Sound.activeAt
    | with_reducible apply Hub.Sound.linkTo | with_reducible apply Hub.Sound.setPull
    | with_reducible apply Hub.Sound.timeMessage | with_reducible apply Hub.Sound.ite | dsimp only | split

theorem Hub.Sound.resetSeen (p : Nat) (h : Hub) (w_h : h.Sound) : (Hub.resetSeen p h).Sound := by
  unfold Hub.resetSeen
  repeat'
    first
    | intro _ | with_reducible assumption | with_reducible apply Hub.Sound.upstreamResetOnce
    | with_reducible apply Hub.Sound.clear | with_reducible apply Hub.Sound.restorePull | with_reducible apply Hub.Sound.inc
    | with_reducible apply Hub.Sound.linkTo | with_reducible apply Hub.Sound.downstreamReset
    | with_reducible apply Hub.Sound.ite | dsimp only | split

theorem Hub.Sound.suspendFrame (p : Nat) (h : Hub) (w_h : h.Sound) : (Hub.suspendFrame p h).Sound := by
  unfold Hub.suspendFrame
  repeat'
    first
    | intro _ | with_reducible assumption | with_reducible apply Hub.Sound.suspendedDown
    | with_reducible apply Hub.Sound.sendLink | with_reducible apply Hub.Sound.ite | dsimp only | split

theorem Hub.Sound.trainTimeout (p : Nat) (h : Hub) (w_h : h.Sound) : (Hub.trainTimeout p h).Sound := by
  unfold Hub.trainTimeout
  repeat'
    first
    | intro _ | with_reducible assumption | with_reducible apply Hub.Sound.expire | with_reducible apply Hub.Sound.restorePull
    | with_reducible apply Hub.Sound.linkTo | with_reducible apply Hub.Sound.clear | with_reducible apply Hub.Sound.backToFs
    | with_reducible apply Hub.Sound.enterResetting | with_reducible apply Hub.Sound.wr | with_reducible apply Hub.Sound.inc
    | with_reducible apply Hub.Sound.ite | dsimp only | split

theorem Hub.Sound.sofOpens (p : Nat) (h : Hub) (w_h : h.Sound) : (Hub.sofOpens p h).Sound := by
  unfold Hub.sofOpens
  repeat'
    first
    | intro _ | with_reducible assumption | with_reducible apply Hub.Sound.activeAt | with_reducible apply Hub.Sound.arm
    | with_reducible apply Hub.Sound.linkTo | with_reducible apply Hub.Sound.wr | with_reducible apply Hub.Sound.ite
    | dsimp only | split

theorem Hub.Sound.pinged (p : Nat) (ep : Nat) (h : Hub) (w_h : h.Sound) : (Hub.pinged p ep h).Sound := by
  unfold Hub.pinged
  repeat'
    first
    | intro _ | with_reducible assumption | with_reducible apply Hub.Sound.sendStall
    | with_reducible apply Hub.Sound.endControl | with_reducible apply Hub.Sound.emit | with_reducible apply Hub.Sound.ite
    | dsimp only | split

theorem Hub.Sound.controlIn (p : Nat) (count : Nat) (h : Hub) (w_h : h.Sound) : (Hub.controlIn p count h).Sound := by
  unfold Hub.controlIn
  repeat'
    first
    | intro _ | with_reducible assumption | with_reducible apply Hub.Sound.emit | with_reducible apply Hub.Sound.sendStall
    | with_reducible apply Hub.Sound.endControl | with_reducible apply Hub.Sound.sendBurst
    | with_reducible apply Hub.Sound.clearHalt | with_reducible apply Hub.Sound.putControl
    | with_reducible apply Hub.Sound.ite | with_reducible refine Hub.Sound.pair (by assumption) ?_
    | with_reducible refine Hub.Sound.pair3 (by assumption) ?_ | with_reducible refine Hub.Sound.pair4 (by assumption) ?_
    | dsimp only | split

theorem Hub.Sound.frameIn (p : Nat) (ep : Nat) (count : Nat) (h : Hub) (w_h : h.Sound) : (Hub.frameIn p ep count h).Sound := by
  unfold Hub.frameIn
  repeat'
    first
    | intro _ | with_reducible assumption | with_reducible apply Hub.Sound.emit | with_reducible apply Hub.Sound.sendStall
    | with_reducible apply Hub.Sound.fabricIn | with_reducible apply Hub.Sound.sendBurst | with_reducible apply Hub.Sound.ite
    | with_reducible refine Hub.Sound.pair (by assumption) ?_ | with_reducible refine Hub.Sound.pair3 (by assumption) ?_
    | with_reducible refine Hub.Sound.pair4 (by assumption) ?_ | dsimp only | split

theorem Hub.Sound.tokenReceived (p : Nat) (k : Token) (dev : Nat) (ep : Nat) (count : Nat) (time : Bool) (fault : LineFault) (h : Hub)
    (w_h : h.Sound) : (Hub.tokenReceived p k dev ep count time fault h).Sound := by
  unfold Hub.tokenReceived
  repeat'
    first
    | intro _ | with_reducible assumption | with_reducible apply Hub.Sound.countFault
    | with_reducible apply Hub.Sound.reservedPacket | with_reducible apply Hub.Sound.timeEcho
    | with_reducible apply Hub.Sound.clear | with_reducible apply Hub.Sound.heardPackets | with_reducible apply Hub.Sound.wr
    | with_reducible apply Hub.Sound.pinged | with_reducible apply Hub.Sound.controlIn
    | with_reducible apply Hub.Sound.frameIn | with_reducible apply Hub.Sound.ite | dsimp only | split

theorem Hub.Sound.sofEnables (p : Nat) (h : Hub) (w_h : h.Sound) : (Hub.sofEnables p h).Sound := by
  unfold Hub.sofEnables
  repeat'
    first
    | intro _ | with_reducible assumption | with_reducible apply Hub.Sound.suspendForUpstream
    | with_reducible apply Hub.Sound.settleCmd | with_reducible apply Hub.Sound.wr | with_reducible apply Hub.Sound.movePort
    | with_reducible apply Hub.Sound.ite | dsimp only | split

theorem Hub.Sound.sofBoundary (p : Nat) (h : Hub) (w_h : h.Sound) : (Hub.sofBoundary p h).Sound := by
  unfold Hub.sofBoundary
  repeat'
    first
    | intro _ | with_reducible assumption | with_reducible apply Hub.Sound.sofOpens | with_reducible apply Hub.Sound.wr
    | with_reducible apply Hub.Sound.enterSuspended | with_reducible apply Hub.Sound.afterSof
    | with_reducible apply Hub.Sound.sofEnables | with_reducible apply Hub.Sound.sendSof | with_reducible apply Hub.Sound.ite
    | dsimp only | split

theorem Hub.Sound.pullupSeen (p : Nat) (dMinus : Bool) (h : Hub) (w_h : h.Sound) : (Hub.pullupSeen p dMinus h).Sound := by
  unfold Hub.pullupSeen
  repeat'
    first
    | intro _ | with_reducible assumption | with_reducible apply Hub.Sound.wr | with_reducible apply Hub.Sound.arm
    | with_reducible apply Hub.Sound.linkTo | with_reducible apply Hub.Sound.ite | dsimp only | split

theorem Hub.Sound.responseTimeout (p : Nat) (h : Hub) (w_h : h.Sound) : (Hub.responseTimeout p h).Sound := by
  unfold Hub.responseTimeout
  repeat'
    first
    | intro _ | with_reducible assumption | with_reducible apply Hub.Sound.clear | with_reducible apply Hub.Sound.inc
    | with_reducible apply Hub.Sound.goTxn | with_reducible apply Hub.Sound.startTxn | with_reducible apply Hub.Sound.ite
    | dsimp only | split

theorem Hub.Sound.wakeSeen (p : Nat) (onset : Nat) (present : Bool) (h : Hub) (w_h : h.Sound) : (Hub.wakeSeen p onset present
    h).Sound := by
  unfold Hub.wakeSeen
  repeat'
    first
    | intro _ | with_reducible assumption | with_reducible apply Hub.Sound.inc | with_reducible apply Hub.Sound.wr
    | with_reducible apply Hub.Sound.ite | dsimp only | split

theorem Hub.Sound.trunkLockLost (p : Nat) (h : Hub) (w_h : h.Sound) : (Hub.trunkLockLost p h).Sound := by
  unfold Hub.trunkLockLost
  repeat'
    first
    | intro _ | with_reducible assumption | with_reducible apply Hub.Sound.retrainLink | with_reducible apply Hub.Sound.inc
    | with_reducible apply Hub.Sound.ite | dsimp only | split

theorem Hub.Sound.setupReceived (p : Nat) (dev : Nat) (r : Nat) (fault : LineFault) (h : Hub) (w_h : h.Sound) : (Hub.setupReceived p
    dev r fault h).Sound := by
  unfold Hub.setupReceived
  repeat'
    first
    | intro _ | with_reducible assumption | with_reducible apply Hub.Sound.countFault
    | with_reducible apply Hub.Sound.reservedPacket | with_reducible apply Hub.Sound.heardPackets
    | with_reducible apply Hub.Sound.emit | with_reducible apply Hub.Sound.clear | with_reducible apply Hub.Sound.wr
    | with_reducible apply Hub.Sound.endControl | with_reducible apply Hub.Sound.putControl
    | with_reducible apply Hub.Sound.serveControl | with_reducible apply Hub.Sound.ite
    | with_reducible refine Hub.Sound.pair (by assumption) ?_ | with_reducible refine Hub.Sound.pair3 (by assumption) ?_
    | with_reducible refine Hub.Sound.pair4 (by assumption) ?_ | dsimp only | split

theorem Hub.Sound.grantSeen (p : Nat) (runs : Nat) (h : Hub) (w_h : h.Sound) : (Hub.grantSeen p runs h).Sound := by
  unfold Hub.grantSeen
  repeat'
    first
    | intro _ | with_reducible assumption | with_reducible apply Hub.Sound.activeAt | with_reducible apply Hub.Sound.setPull
    | with_reducible apply Hub.Sound.arm | with_reducible apply Hub.Sound.emit | with_reducible apply Hub.Sound.linkTo
    | with_reducible apply Hub.Sound.wr | with_reducible apply Hub.Sound.ite | dsimp only | split

theorem Hub.Sound.makeOffer (p : Nat) (h : Hub) (w_h : h.Sound) : (Hub.makeOffer p h).Sound := by
  unfold Hub.makeOffer
  repeat'
    first
    | intro _ | with_reducible assumption | with_reducible apply Hub.Sound.emit | with_reducible apply Hub.Sound.ite
    | dsimp only | split

theorem Hub.Sound.creditReceived (p : Nat) (limits : Nat) (h : Hub) (w_h : h.Sound) : (Hub.creditReceived p limits h).Sound := by
  unfold Hub.creditReceived
  repeat'
    first
    | intro _ | with_reducible assumption | with_reducible apply Hub.Sound.pumpControl | with_reducible apply Hub.Sound.wr
    | with_reducible apply Hub.Sound.ite | with_reducible apply Hub.Sound.foldl | dsimp only | split

theorem Hub.Sound.statusTimer (p : Nat) (h : Hub) (w_h : h.Sound) : (Hub.statusTimer p h).Sound := by
  unfold Hub.statusTimer
  repeat'
    first
    | intro _ | with_reducible assumption | with_reducible apply Hub.Sound.expire | with_reducible apply Hub.Sound.arm
    | with_reducible apply Hub.Sound.wr | with_reducible apply Hub.Sound.sendLink | with_reducible apply Hub.Sound.ite
    | dsimp only | split

theorem Hub.Sound.probeReceived (p : Nat) (t1 : Nat) (h : Hub) (w_h : h.Sound) : (Hub.probeReceived p t1 h).Sound := by
  unfold Hub.probeReceived
  repeat'
    first
    | intro _ | with_reducible assumption | with_reducible apply Hub.Sound.sendLink | with_reducible apply Hub.Sound.ite
    | with_reducible refine Hub.Sound.pair (by assumption) ?_ | with_reducible refine Hub.Sound.pair3 (by assumption) ?_
    | with_reducible refine Hub.Sound.pair4 (by assumption) ?_ | dsimp only | split

theorem Hub.Sound.resumeEnd (p : Nat) (h : Hub) (w_h : h.Sound) : (Hub.resumeEnd p h).Sound := by
  unfold Hub.resumeEnd
  repeat'
    first
    | intro _ | with_reducible assumption | with_reducible apply Hub.Sound.expire | with_reducible apply Hub.Sound.arm
    | with_reducible apply Hub.Sound.emit | with_reducible apply Hub.Sound.ite | dsimp only | split

theorem Hub.Sound.connected (p : Nat) (h : Hub) (w_h : h.Sound) : (Hub.connected p h).Sound := by
  unfold Hub.connected
  repeat'
    first
    | intro _ | with_reducible assumption | with_reducible apply Hub.Sound.expire
    | with_reducible apply Hub.Sound.enterResetting | with_reducible apply Hub.Sound.ite | dsimp only | split

theorem Hub.Sound.resumeDetected (p : Nat) (h : Hub) (w_h : h.Sound) : (Hub.resumeDetected p h).Sound := by
  unfold Hub.resumeDetected
  repeat'
    first
    | intro _ | with_reducible assumption | with_reducible apply Hub.Sound.linkTo | with_reducible apply Hub.Sound.arm
    | with_reducible apply Hub.Sound.emit | with_reducible apply Hub.Sound.wr | with_reducible apply Hub.Sound.ite
    | dsimp only | split

theorem Hub.Sound.offerEnd (p : Nat) (offered : Nat) (h : Hub) (w_h : h.Sound) : (Hub.offerEnd p offered h).Sound := by
  unfold Hub.offerEnd
  repeat'
    first
    | intro _ | with_reducible assumption | with_reducible apply Hub.Sound.emit | with_reducible apply Hub.Sound.wr
    | with_reducible apply Hub.Sound.stop | with_reducible apply Hub.Sound.arm | with_reducible apply Hub.Sound.linkTo
    | with_reducible apply Hub.Sound.ite | dsimp only | split

theorem Hub.Sound.controlResponse (u : Nat) (tag : Nat) (stall : Bool) (len : Nat) (data : Nat) (h : Hub) (w_h : h.Sound) :
    (Hub.controlResponse u tag stall len data h).Sound := by
  unfold Hub.controlResponse
  repeat'
    first
    | intro _ | with_reducible assumption | with_reducible apply Hub.Sound.startTxn
    | with_reducible apply Hub.Sound.keyxAnswer | with_reducible apply Hub.Sound.ite | dsimp only | split

theorem Hub.Sound.suspendDetected (p : Nat) (se0 : Bool) (h : Hub) (w_h : h.Sound) : (Hub.suspendDetected p se0 h).Sound := by
  unfold Hub.suspendDetected
  repeat'
    first
    | intro _ | with_reducible assumption | with_reducible apply Hub.Sound.restorePull
    | with_reducible apply Hub.Sound.resetSeen | with_reducible apply Hub.Sound.suspendedDown
    | with_reducible apply Hub.Sound.ite | dsimp only | split

theorem Hub.Sound.offerWindowEnd (p : Nat) (h : Hub) (w_h : h.Sound) : (Hub.offerWindowEnd p h).Sound := by
  unfold Hub.offerWindowEnd
  repeat'
    first
    | intro _ | with_reducible assumption | with_reducible apply Hub.Sound.expire | with_reducible apply Hub.Sound.arm
    | with_reducible apply Hub.Sound.wr | with_reducible apply Hub.Sound.ite | dsimp only | split

theorem Hub.Sound.burstReceived (p : Nat) (packets : List Packet) (ended : Bool) (h : Hub) (w_h : h.Sound) : (Hub.burstReceived
    p packets ended h).Sound := by
  unfold Hub.burstReceived
  repeat'
    first
    | intro _ | with_reducible assumption | with_reducible apply Hub.Sound.burstDown
    | with_reducible apply Hub.Sound.countBurst | with_reducible apply Hub.Sound.burstUp | with_reducible apply Hub.Sound.ite
    | dsimp only | split

theorem Hub.Sound.offerWindow (p : Nat) (h : Hub) (w_h : h.Sound) : (Hub.offerWindow p h).Sound := by
  unfold Hub.offerWindow
  repeat'
    first
    | intro _ | with_reducible assumption | with_reducible apply Hub.Sound.expire | with_reducible apply Hub.Sound.arm
    | with_reducible apply Hub.Sound.ite | dsimp only | split

end Sys2Proof.Machine
end

