-- ==== Sys2Proof/WellFormed.lean ====
section
/-!
DEFINITION. Sys2Proof/WellFormed.lean: which commands can come. Bounded operands are bounded by their types; what is left is that a
string of `len` bytes fits in them, that a stamp of a beginning does not lie after the end, and the sizes of lists.
exec is total: it gives an ill-formed command a meaning too, and no statement rests on one.
-/
namespace Sys2Proof

open Sys2Proof.Machine

/-- A value fits in a little-endian string of that many bytes (R12). -/
def fits (len v : Nat) : Bool := decide (v < 256 ^ len)

/-- A DATA packet as received, however long (R182, R190), fits in its length. -/
def Packet.wf (p : Packet) : Bool := decide (p.len ≤ 1024) && fits p.len p.payload

/-- The command can come: a CF message has at most 7 objects and begins before it ends (R86, R90), a burst at most 8 packets (R182),
bytes fit in their length, an instant since which something holds does not lie ahead, a cell is one of 52 × 512 (R278), a node ID has 16 bits (R340). -/
def Instr.wf : Instr → Bool
  | .activeLimitingEntry t _ left _ => decide (left ≤ t)
  | .timedLimitTrip t _ last _ _ _ _ => decide (last ≤ t)
  | .limitingGuardTrip t _ last _ _ _ _ => decide (last ≤ t)
  | .reverseTrip t _ since _ _ _ _ => decide (since ≤ t)
  | .inrushSettled t _ since _ => decide (since ≤ t)
  | .tdrTraceComplete _ _ _ echoes => decide (echoes.length ≤ 16)
  | .detach t _ opened => decide (opened ≤ t)
  | .cfOvervoltage t _ _ since => decide (since ≤ t)
  | .cfMessageReceived t _ _ objs _ pre => decide (objs.length ≤ 7) && decide (pre ≤ t)
  | .moveSettled t _ since _ => decide (since ≤ t)
  | .slewGuardAbort t _ since _ _ _ => decide (since ≤ t)
  | .softResetReceived t _ _ pre => decide (pre ≤ t)
  | .serialFrameClose _ _ _ count _ chars => fits count.val chars.toNat
  | .dataBurstReceived _ _ packets _ => decide (packets.length ≤ 8) && packets.all Packet.wf
  | .handshakeReceived _ _ _ _ echo _ => match echo with | none => true | some e => decide (e < 2 ^ 64)
  | .trunkFrameReceived _ _ _ len data _ _ _ _ => fits len data
  | .controlFrameRequest _ _ _ _ len data _ _ => decide (len ≤ 1024) && fits len data
  | .wakeDetected t _ onset _ => decide (onset ≤ t)
  | .splitStartToken _ _ _ _ len data => fits len data
  | .splitRequestFrame _ _ _ len payload => decide (len ≤ 1024) && fits len payload
  | .frameHeaderReceived _ _ header payload _ => fits (bits header.toNat 18 8) payload
  | .frameVerdict _ _ _ len data _ _ _ => fits len data
  | .auditComplete _ orphans doubles => orphans.all (fun c => decide (c < 26624)) && doubles.all (fun c => decide (c < 26624))
  | .relayRequest _ _ len payload => decide (len ≤ 1024) && fits len payload
  | .relayChildAnswer _ _ _ len data => decide (len ≤ 1024) && fits len data
  | .noticeReceived _ _ len payload => decide (len ≤ 1024) && fits len payload
  | .helloReceived _ _ _ _ heard => heard.all (fun n => decide (n < 2 ^ 16))
  | .lsaReceived _ _ _ _ _ links => links.all (fun l => decide (l.1 < 2 ^ 16) && decide (l.2 < 2 ^ 16))
  | .fabricDataReceived _ _ header payload => fits (bits header.toNat 63 48) payload
  | .fabricEventReceived _ _ header payload => fits (bits header.toNat 63 48) payload
  | .gatewayTreeFrame _ header payload => fits (bits header.toNat 18 8) payload
  | .odWrite _ _ _ _ len data _ _ => fits len.val data
  | .odBegin _ _ _ _ len data => fits len.val data
  | .odCommit _ _ _ _ len data => fits len.val data
  | .odAbort _ _ _ _ len data => fits len.val data
  | .registerWrite _ _ _ len v _ _ _ => fits len.toNat v
  | .winWrite _ _ _ _ words => decide (words.length ≤ 256)
  | .holdDetach t _ opened => decide (opened ≤ t)
  | .controlResponseReceived _ _ _ _ len data => decide (len ≤ 1024) && fits len data
  | .fastTrip .. | .retryHoldoffExpiry .. | .dischargeComplete .. | .vbusBelow5v .. | .dischargeTimeout ..
  | .powerCmdOff .. | .powerCmdRestoreDefault .. | .limitSetWrite .. | .ocGroupAssert .. | .ocGroupRelease ..
  | .budgetTick .. | .screenReading .. | .hourlyMean .. | .forcedMonitorSlot .. | .tdrIntervalExpiry .. | .tdrStart ..
  | .tripLocationTrace .. | .captureBaseline .. | .probeStart .. | .probePhaseEnd .. | .sniffSample ..
  | .classifyStageEnd .. | .attachDebounceDone .. | .candidateBackoffEnd .. | .togglePhaseEnd .. | .tryDebounceDone ..
  | .tryTimeout .. | .tryWaitTimeout .. | .attachRelease .. | .goodAckReceived .. | .cfReceiveTimeout ..
  | .hardResetReceived .. | .holdLeadExpiry .. | .waitRetryExpiry .. | .newExchangeStart .. | .cfAnswerNewExchange ..
  | .cfAnswerAnswer .. | .cfAnswerHardReset .. | .answerDeadline .. | .firstCapsExpiry .. | .sinkRequestTimeout ..
  | .responseTimeout .. | .readyWaitTimeout .. | .moveRailReached .. | .transitionDetachAbort .. | .detachGlitch ..
  | .srcRecoverExpiry .. | .cfsFault .. | .cfsRestart .. | .cfsEnableWrite .. | .cfsStable .. | .serialTxStart ..
  | .lineTestTrace .. | .pullupDetected .. | .pullupLost .. | .connectDebounceDone .. | .resetSe0End .. | .linkResetSeen ..
  | .offerEnd .. | .offerWindowEnd .. | .grantReceived .. | .trainingLocked .. | .trainTimeout .. | .sofBoundary ..
  | .tokenReceived .. | .pingTimeEcho .. | .sofReceived .. | .linkResponseTimeout .. | .setupReceived .. | .getStatus ..
  | .clearHalt .. | .setAddress .. | .identify .. | .linkCredit .. | .linkTick .. | .linkProbe .. | .linkEcho ..
  | .linkStatus .. | .linkSuspend .. | .linkResetFrame .. | .creditTimer .. | .linkStatusTimer .. | .lossOfLock ..
  | .suspendDetected .. | .resumeKEnd .. | .portCmdDisable .. | .portCmdEnable .. | .portCmdReset .. | .portCmdSuspend ..
  | .portCmdResume .. | .hubPortTurn .. | .portTransactionEnd .. | .babbleDetected .. | .enumStart .. | .deliveryTimeout ..
  | .splitCompleteToken .. | .splitRunTimeout .. | .splitHoldExpiry .. | .resumeListenEnd .. | .wakeTaken ..
  | .upstreamResumed .. | .upstreamReset .. | .managerPathOn .. | .pollEntryWrite .. | .microframeStart ..
  | .pollComplete .. | .reportWindowEnd .. | .quartzStart .. | .quartzStop .. | .quartzPause .. | .timeSet ..
  | .timeTrim .. | .probeIntervalExpiry .. | .syncMessageTimeout .. | .timebaseSlewTick .. | .timebaseStep ..
  | .egressCopyStart .. | .egressCopyEnd .. | .cutStallTimeout .. | .eccError .. | .rejoinHoldExpiry .. | .publish ..
  | .publishEffect .. | .revert .. | .ringClear .. | .auditStart .. | .assign .. | .releaseId .. | .relayTimeout ..
  | .controlUpstreamLost .. | .standbyUp .. | .reconnected .. | .noticeSendOnChange .. | .noticeTimer ..
  | .noticesExpired .. | .helloTimer .. | .neighbourHoldExpiry .. | .lsaOriginate .. | .lsaAckReceived ..
  | .lsaRetransmit .. | .lsaLifetimeExpiry .. | .pathCompute .. | .mcastDiscard .. | .odRead .. | .odStatus ..
  | .odDescribe .. | .commitPoint .. | .applyEnd .. | .txnIdleExpiry .. | .save .. | .saveComplete .. | .factoryDefaults ..
  | .clearStore .. | .fullReset .. | .fullResetDelay .. | .readStatus .. | .winRead .. | .odRequest ..
  | .odResponseReady .. | .odResponse .. | .fifoRead .. | .fifoWrite .. | .enterQuad .. | .exitQuad .. | .badCommand ..
  | .domainCmd .. | .domainCancel .. | .armedUpstreamTrigger .. | .armedHostSelectTrigger .. | .sequencerVisit ..
  | .domainDelayEnd .. | .lfCrystalLoss .. | .clockGood .. | .clockStartTimeout .. | .clockLockLoss .. | .fwLoadComplete ..
  | .attestNonce .. | .ownerClaim .. | .transfer .. | .transferDeadline .. | .slotInstall .. | .slotRevoke ..
  | .sessionOpen .. | .sessionClose .. | .sessionIdleExpiry .. | .fwWriteData .. | .eraseInactive .. | .checkInactive ..
  | .fwCheckComplete .. | .preferInactive .. | .commitSvn .. | .keyxStart .. | .linkKeyxAgree .. | .linkKeyxRekey ..
  | .keyxReplyReady .. | .rekeyDue .. | .keyAgreeTimeout .. | .keyxRetryTimer .. | .zeroise .. | .faultReport ..
  | .linkErrorBurstWindow .. | .tempThreshold .. | .supplyLow .. | .railLost .. | .dieLinkLost .. | .lockstep ..
  | .watchdog .. | .nvReadError .. | .faultAck .. | .safeExit .. | .sourceForce .. | .sourceLevelWrite ..
  | .shadowExpiry .. | .bankCopyDone .. | .bankMarchDone .. | .coreTestDone .. | .loopbackDone .. | .nvRereadDone ..
  | .repairMapSaved .. | .l5ResetDelay .. | .vinPowerOn .. | .brownout .. | .rstNReset .. | .bootStageComplete ..
  | .lfCrystalGood .. | .lfCrystalStartTimeout .. | .powerDieAnswer .. | .vauxLockout .. | .powerDieResetReport ..
  | .upstreamPullup .. | .sourcePresent .. | .rdSeen .. | .se0Ended .. | .noValidSymbolTimeout .. | .burstEndTimeout ..
  | .identityDerived .. | .dieLinkRestored .. | .resumeDetected .. => true

end Sys2Proof
end

