-- ==== Sys2Proof/Tests/Slice0.lean ====
section
/-!
SUPPORT. Sys2Proof/Tests/Slice0.lean: tests. Ill-formed commands are refused; single steps and functions against the spec's worked
examples; and for each statement with hypotheses states and operands that meet them, clause by clause.
-/
namespace Sys2Proof.Tests

open Sys2Proof Sys2Proof.Machine

set_option Elab.async false

/-! ### Small states -/

/-- A cell put into a sorted store; a 0 of an entry whose default is 0 takes it out. -/
def put : List (Nat × Nat) → Nat → Nat → List (Nat × Nat)
  | [], k, v => if v == 0 && odDefault k == 0 then [] else [(k, v)]
  | (k', v') :: r, k, v =>
    if k < k' then (if v == 0 && odDefault k == 0 then (k', v') :: r else (k, v) :: (k', v') :: r)
    else if k = k' then (if v == 0 && odDefault k == 0 then r else (k, v) :: r)
    else (k', v') :: put r k v

/-- The cells of a hub whose domains are ON, whose Flint runs and which has its ID. -/
def onCells : List (Nat × Nat) := put (put ((List.range 12).map (fun i => (Od.DOMAIN_RECORD (i + 1), 2))) Od.FW_STATE 2) Od.HUB_ID_ASSIGNED 1

/-- A state for a test: the hub of onCells with these cells on top, and no command waiting. -/
def st (l : List (Nat × Nat)) : State :=
  { State.reset with cells := l.foldl (fun c x => put c x.1 x.2) onCells }

def aHold : HoldRec := ⟨3, true, 0, 3, 0, 0, 0, 0, 0, 0, 0, 0, 0, 0, 0, 0, 0, 0, 0, 0, 0, false⟩
def aTest (k s st : Nat) : SelfTest := ⟨k, s, 1, 0, st, 0, 0⟩
def aCfTx (tries : Nat) : CfTx := ⟨16, 0, [], tries, .defaultOffer, 0⟩
def aRelay (st dl : Nat) : Relay := ⟨16, 1, 0, st, 0, 0, 0, dl, 0, 0, 0⟩
def aTxn (p : Nat) : Txn := ⟨p, .poll, 1, 1, false, 0, 0, 0, 0, false, 0, none, false, 0, 0, none, false⟩
def aSlot (st : Nat) : Slot := ⟨0, st, 0, 1, 0, 0, 0, 0, 0, 0, 0, 0, 0, 0, 0, 0, 0, false⟩
def aCopy (p : Nat) (begun : Bool) : Copy := ⟨p, 0, false, false, !begun, begun, 0⟩
def aFrame (l : List Copy) : Frame := ⟨1, 16, 0, 0, 1, 3, 1, 0, 0, 0, false, true, 0, l, [], 0⟩
def aPoll : PollJob := ⟨3, 0, 0, 0, 3, 0, 0, false, false, 0, 0, 0, 0⟩
def aStored (r : Nat) : StoredResponse := ⟨0, 16, 0, r, 0, 0, false⟩
def aNb : Neighbour := ⟨16, 1, 0, true, 0⟩
def aLsa (q : Nat) : Lsa := ⟨1, q, 0, [], 0⟩
def anOd (st : Nat) : OdTxn := ⟨16, 1, 0, [], 0, st⟩
def aGroup : GroupCmd := ⟨0, 0, [], [], 0, 6, 0, [], 0, 0, 0, 0, false, 0, false, 0, [], none⟩
/-- The state that a command leaves. -/
def after (c : Instr) (s : State) : State := match exec c s with | .next t => t | _ => s

/-! ### The commands' well-formedness -/

/-- An ill-formed command for each check of Instr.wf: all are refused. -/
theorem test_ill_formed :
    ([.activeLimitingEntry 0 3 8 ⟨0, 0, 0, 0, 0⟩, .timedLimitTrip 0 3 8 ⟨0, 0, 0, 0, 0⟩ 0 false false,
      .limitingGuardTrip 0 3 8 ⟨0, 0, 0, 0, 0⟩ 0 false false, .reverseTrip 0 3 8 ⟨0, 0, 0, 0, 0⟩ 0 false false,
      .inrushSettled 0 3 8 ⟨0, 0, 0, 0, 0⟩, .moveSettled 0 3 8 ⟨0, 0, 0, 0, 0⟩, .slewGuardAbort 0 3 8 ⟨0, 0, 0, 0, 0⟩ false false,
      .detach 0 3 8, .holdDetach 0 3 8, .cfOvervoltage 0 3 0 8,
      .tdrTraceComplete 0 0 0 (List.replicate 17 ⟨0, 0⟩), .cfMessageReceived 9 16 0 (List.replicate 8 0) 0 0, .cfMessageReceived 9 16 0 [] 0 10,
      .softResetReceived 9 16 0 10, .serialFrameClose 0 0 0 1 0 256, .dataBurstReceived 0 16 (List.replicate 9 ⟨0, 0, 0, .good⟩) true,
      .dataBurstReceived 0 16 [⟨0, 1025, 0, .good⟩] true, .dataBurstReceived 0 16 [⟨0, 1, 256, .good⟩] true,
      .handshakeReceived 0 16 .ack 0 (some (2 ^ 64)) .good, .trunkFrameReceived 0 16 0 1 256 0 0 false false,
      .controlFrameRequest 0 none 0 0 1025 0 false true,
      .controlFrameRequest 0 none 0 0 1 256 false true, .wakeDetected 9 16 10 true, .splitStartToken 0 16 0 0 1 256,
      .splitRequestFrame 0 0 0 1025 0, .splitRequestFrame 0 0 0 1 256, .frameHeaderReceived 0 0 0 1 0, .frameVerdict 0 16 0 1 256 0 0 .normal,
      .auditComplete 0 [26624] [], .auditComplete 0 [] [26624], .relayRequest 0 0 1025 0, .relayRequest 0 0 1 256,
      .relayChildAnswer 0 16 false 1025 0, .relayChildAnswer 0 16 false 1 256, .noticeReceived 0 16 1025 0, .noticeReceived 0 16 1 256,
      .helloReceived 0 16 1 0 [65536], .lsaReceived 0 16 1 0 0 [(65536, 0)], .lsaReceived 0 16 1 0 0 [(0, 65536)], .fabricDataReceived 0 16 0 1,
      .fabricEventReceived 0 16 0 1, .gatewayTreeFrame 0 0 1, .odWrite 0 (.trunk 0) 0 0 1 256 false true, .odBegin 0 (.trunk 0) 0 0 1 256,
      .odCommit 0 (.trunk 0) 0 0 1 256, .odAbort 0 (.trunk 0) 0 0 1 256, .registerWrite 0 0 0 1 256 true false true,
      .winWrite 0 0 0 0 (List.replicate 257 0), .controlResponseReceived 0 0 0 false 1025 0,
      .controlResponseReceived 0 0 0 false 1 256] : List Instr).all (fun c => !c.wf) = true := by decide +kernel

/-- The same commands in form: all are taken. -/
theorem test_well_formed :
    ([.activeLimitingEntry 8 3 8 ⟨0, 0, 0, 0, 0⟩, .moveSettled 8 3 8 ⟨0, 0, 0, 0, 0⟩, .detach 8 3 8, .cfOvervoltage 8 3 0 8,
      .trunkFrameReceived 0 16 0 1 255 0 0 false false, .frameVerdict 0 16 0 1 255 0 0 .normal,
      .tdrTraceComplete 0 0 0 (List.replicate 16 ⟨0, 0⟩), .cfMessageReceived 9 16 0 (List.replicate 7 0) 0 9, .softResetReceived 9 16 0 9,
      .serialFrameClose 0 0 0 1 0 255, .dataBurstReceived 0 16 (List.replicate 8 ⟨0, 1, 255, .good⟩) true, .wakeDetected 9 16 9 true,
      .auditComplete 0 [26623] [26623], .helloReceived 0 16 1 0 [65535], .odWrite 0 (.trunk 0) 0 0 1 255 false true] : List Instr).all Instr.wf
      = true := by decide +kernel

/-! ### The step -/

/-- With nothing waiting the block idles (log entry 1). -/
theorem test_idle : step State.reset = .next State.reset := rfl

/-- The command at the front leaves the queue, and the rest stays in its order. -/
theorem test_front : (match step { st [] with pending := [.enterQuad 0, .exitQuad 8, .badCommand 16] } with
    | .next t => t.pending | _ => []) = [.exitQuad 8, .badCommand 16] := by decide +kernel

/-- No word spells a command: the table gives no row a word. -/
theorem test_no_words : decodeTableWord 32 0xFFFFFFFF = none := rfl

/-! ### Worked examples of the spec -/

/-- The worked example of chapter 1: endpoint 9 of device 200 under worker 0x2A7 is 0x2A_7C89, sent as 0x89, 0x7C, 0x2A (R16). -/
theorem test_system_address : sysAddr 0x2A7 200 9 = 0x2A7C89 ∧ toBytes 3 (sysAddr 0x2A7 200 9) = [0x89, 0x7C, 0x2A] := by decide

/-- The example of chapter 10: the endpoint entry of endpoint 9 of device 200 is OD 0x4419.0A. -/
theorem test_endpoint_entry : tableKey 0x4400 (200 * 16 + 9) = 0x4419 * 256 + 0x0A := by decide

/-- R281: a frame of 1,024 bytes takes 17 cells. -/
theorem test_frame_cells : frameCells 1024 = 17 := by decide

/-- The example of chapter 2: an echo at 7,080 ns with the default VF lies at 700.4 m. -/
theorem test_echo_distance : echoDistance (odDefault (Od.VELOCITY_FACTOR 0)) 7080 = 7004 := by decide +kernel

/-- The worked example of chapter 20: the descriptor of D13's LIMIT_SET. -/
theorem test_descriptor_limit_set :
    odDescriptor State.reset.toHub 0x2D40 0x03 = pack [(1, 3), (1, 1), (1, 1), (1, 3), (2, 2), (2, 0), (8, 0)] := by decide +kernel

/-- The worked example of chapter 20: the descriptor of D13's FAST_TRIPS. -/
theorem test_descriptor_fast_trips :
    odDescriptor State.reset.toHub 0x2D40 0x0E = pack [(1, 4), (1, 0), (1, 3), (1, 6), (2, 4), (2, 0), (8, 0)] := by decide +kernel

/-- Table 20-7 step 2: a window write of LIMIT_SET is refused with NO_RIGHT, and LIMIT_SET stays 0. -/
theorem test_window_no_right :
    ((after (.winWrite 8 0x2D40 0x03 0 [2000]) (st [(Od.WINDOW_WRITES, 1)])).rd Od.WINDOW_LAST_REFUSED,
      (after (.winWrite 8 0x2D40 0x03 0 [2000]) (st [(Od.WINDOW_WRITES, 1)])).rd (Od.LIMIT_SET 13)) = (0x2D400303, 0) := by decide +kernel

/-- Table 20-7 steps 3 and 4: a counter takes 0 only. -/
theorem test_window_counter :
    ((after (.winWrite 8 0x2D40 0x0E 0 [5]) (st [(Od.WINDOW_WRITES, 1), (Od.FAST_TRIPS 13, 3)])).rd Od.WINDOW_LAST_REFUSED,
      (after (.winWrite 8 0x2D40 0x0E 0 [5]) (st [(Od.WINDOW_WRITES, 1), (Od.FAST_TRIPS 13, 3)])).rd (Od.FAST_TRIPS 13),
      (after (.winWrite 8 0x2D40 0x0E 0 [0]) (st [(Od.WINDOW_WRITES, 1), (Od.FAST_TRIPS 13, 3)])).rd (Od.FAST_TRIPS 13))
      = (0x2D400E06, 3, 0) := by decide +kernel

/-- The worked sequence of chapter 4: 150 mA, 100 µF at 2 V/ms and 24 V lie within 200 mJ and 20 W (R118); chapter 21: the lamp string's upward
move costs 9,000 mA·ms. -/
theorem test_move : moveBound 150 100 20 24000 (odDefault Od.SLEW_ENERGY_MAX) (odDefault Od.SLEW_POWER_MAX) true = true ∧ moveCost 150 300 20 24000 = 9000 := by decide +kernel

/-- The worked sequence of chapter 4: with the rails at 24.0 V and 48.0 V the offer goes out as 0x1002_000B, 0x21E0_000F and 0x2BC0_0064. -/
theorem test_default_offer :
    (st [(Od.DEFAULT_CAPS, pack [(4, 0x1002000B), (4, 0x2000000F), (4, 0x28000064)]), (Od.RAIL_A_MV, 24000), (Od.RAIL_B_MV, 48000),
      (Od.ATTACH_STATE 3, 4)]).defaultOffer 3 = [0x1002000B, 0x21E0000F, 0x2BC00064] := by decide +kernel

/-- Table 16-6: a second burst of LINK with one unacknowledged L1 fault is applied at L2, and a third with L2 stays at L2, the ceiling. -/
theorem test_escalation :
    ({ (st []).toHub with unacked := [⟨0x3E8, (sourceRow 0x11).cls, 1⟩] } : Hub).appliedLevel (sourceRow 0x11).cls true 1 = 2 ∧
    ({ (st []).toHub with unacked := [⟨0x3EA, (sourceRow 0x11).cls, 2⟩] } : Hub).appliedLevel (sourceRow 0x11).cls true 1 = 2 := by decide +kernel

/-- Table 1-4: a short on D5 turns the port's power off with cause SHORT. -/
theorem test_fast_trip :
    (fun h : Hub => (h.powered 5, h.rd (Od.POWER_OFF_CAUSE 5)))
      (after (.fastTrip 8 5 ⟨0, 0, 0, 0, 0⟩ 0xFFFF false false) (st [(Od.BOOT_STAGE, 9), (Od.POWER_STATE 5, 3), (Od.ATTACH_STATE 5, 4)])).toHub
      = (false, 2) := by decide +kernel

/-! ### States that meet the hypotheses of the statements -/

/-- States and operands that meet the hypotheses of the statement StepRunsFront, one for each clause. -/
theorem witness_StepRunsFront :
    (∃ (c : Instr) (rest : List Instr) (s t : State), s.pending = c :: rest ∧ exec c { s with pending := rest } = .next t) ∧
    (∃ s : State, s.pending = []) :=
  ⟨⟨.enterQuad 0, [.exitQuad 8], { st [] with pending := [.enterQuad 0, .exitQuad 8] }, _, rfl, rfl⟩, ⟨st [], rfl⟩⟩

/-- A sound state with a command that runs: the hypotheses of the statement StepKeepsSound. -/
theorem witness_StepKeepsSound : ∃ s t : State, s.Sound ∧ step s = .next t :=
  ⟨{ State.reset with pending := [.enterQuad 0] }, _,
    ⟨by decide, by decide, by decide, by decide, by decide, by decide⟩, rfl⟩

/-- States that meet the hypotheses of the last clause of the statement SettleLaws. -/
theorem witness_SettleLaws_quiet : ∃ h : Hub, h.reactions = [] ∧ h.underTest 2 0 = false ∧ (∀ p ∈ List.range 18, h.due (Tm.held p) = false) ∧
    h.managerPath = false ∧ ∀ p ∈ [16, 17], h.rd (Od.LINK_STATE p) ≠ 4 ∨ h.rd (Od.LINK_CLASS p) ≠ 4 :=
  ⟨(st [(Od.DOMAIN_RECORD 2, 0)]).toHub, by decide +kernel⟩

/-- A hub whose budget is enabled, with 5 on rail A, and this many entries waiting. -/
def aSlate (n : Nat) : Hub :=
  { (st [(Od.BUDGET_ENABLE, 1), (Od.CAP_RAIL_A, 5), (Reg.tickAt, 1)]).toHub with budget := List.replicate n ⟨0, .powerOn, 3, 1, 0⟩ }

/-- States and operands that meet the hypotheses of the statement SlateBudget, one for each clause. -/
theorem witness_SlateBudget :
    (∃ (t : Stamp) (s : State), tickFalls (s.arrive t).rtc = true ∧ (s.arrive t).rd Reg.tickAt ≠ (s.arrive t).now + 1) ∧
    (∃ (t : Stamp) (s : State), tickFalls (s.arrive t).rtc = false ∨ (s.arrive t).rd Reg.tickAt = (s.arrive t).now + 1) ∧
    (∃ (h : Hub) (c : Nat), c = 0 ∨ h.rd Od.BUDGET_ENABLE = 0) ∧
    (∃ (h : Hub) (i : Fin 3) (c : Nat), c ≠ 0 ∧ h.rd Od.BUDGET_ENABLE ≠ 0 ∧ h.capOf i < c) ∧
    (∃ (h : Hub) (i : Fin 3) (c : Nat), c ≠ 0 ∧ h.rd Od.BUDGET_ENABLE ≠ 0 ∧ c ≤ h.capOf i ∧
      h.rd (levelKey i) + c ≤ h.capOf i ∧ h.supplyWaits i = false ∧ h.tickOpen = false) ∧
    (∃ (h : Hub) (i : Fin 3) (c : Nat), c ≠ 0 ∧ h.rd Od.BUDGET_ENABLE ≠ 0 ∧ c ≤ h.capOf i ∧
      ¬ (h.rd (levelKey i) + c ≤ h.capOf i ∧ h.supplyWaits i = false ∧ h.tickOpen = false) ∧ h.budget.length < 64) ∧
    (∃ (h : Hub) (i : Fin 3) (c : Nat), c ≠ 0 ∧ h.rd Od.BUDGET_ENABLE ≠ 0 ∧ c ≤ h.capOf i ∧
      ¬ (h.rd (levelKey i) + c ≤ h.capOf i ∧ h.supplyWaits i = false ∧ h.tickOpen = false) ∧ 64 ≤ h.budget.length) ∧
    (∃ (h : Hub) (i : Fin 3), h.rd (Reg.capHeld i) = 0) ∧ (∃ (h : Hub) (i : Fin 3) (v : Nat), h.capOf i ≤ v) ∧
    (∃ (h : Hub) (i : Fin 3) (v : Nat), v < h.capOf i) ∧
    (∃ (h : Hub) (e : BudgetEntry), h.budget ≠ [] ∧ ∀ x ∈ h.budget, x.arrival ≠ e.arrival) :=
  ⟨⟨1000000000000, st [], by decide +kernel⟩, ⟨8, st [(Reg.tickAt, 9)], by decide +kernel⟩, ⟨aSlate 0, 0, by decide +kernel⟩,
   ⟨aSlate 0, 0, 6, by decide +kernel⟩, ⟨aSlate 0, 0, 5, by decide +kernel⟩, ⟨aSlate 63, 0, 5, by decide +kernel⟩,
   ⟨aSlate 64, 0, 5, by decide +kernel⟩, ⟨aSlate 0, 0, by decide +kernel⟩, ⟨aSlate 0, 0, 5, by decide +kernel⟩,
   ⟨aSlate 0, 0, 4, by decide +kernel⟩, ⟨aSlate 1, ⟨0, .powerOn, 2, 1, 1⟩, by decide +kernel⟩⟩

/-- The session and the counter of a trailer of session 1 with counter 1, below its MAC. -/
def lo : Nat := 1 + 256 ^ 4

/-- The cells of a hub with sessions 1 (OWNER) and 2 (OPERATOR) open. -/
def sessionCells : List (Nat × Nat) := [(Od.SESSION_RECORD 1, 1 + 256 + 256 ^ 4), (Od.SESSION_RECORD 2, 1 + 512 + 2 * 256 ^ 4)]

/-- A hub with those sessions and these transactions. -/
def signedHub (l : List OdTxn) : State := { st sessionCells with odTxns := l }

/-- A transaction of the requester of trunk 0 in session 1, last used at this instant. -/
def ofTrunk (last : Nat) (staged : List Staged) : OdTxn := ⟨16, 1, 0, staged, last, 0⟩

/-- For a hub that holds session 1 with counter 0 there is a trailer that passes, of session 1, in its transaction or in none. -/
theorem signed_trailer (h : Hub) (req idx val len : Nat) (d : Bytes) (entry txn : Option Nat) (hs : h.sessionOf (trSession lo) = some 1)
    (hc : seCounter (h.sessionRec 1) < trCounter lo) (ht : txn = none ∨ txn = some 1) : ∃ tr : Nat, tr < 256 ^ 40 ∧ trSession tr = 1 ∧
      h.trailerTaken tr = h.trailerTaken lo ∧ h.trailerOk req idx val len d tr entry txn = true := by
  refine ⟨_, ?_, ?_, ?_, Hub.trailerOk_signed h req idx val len lo 1 d entry txn (by decide) hs hc ht⟩
  · have := Nat.mod_lt (Config.hmac ((h.sessionKeys.lookup 1).getD 0) (macInput req idx val len d (lo % 256 ^ 8)))
      (show 0 < 256 ^ 32 by decide)
    have e : lo % 256 ^ 8 < 256 ^ 8 := Nat.mod_lt _ (by decide)
    omega
  · rw [trSession_below]; decide
  · rw [Hub.trailerTaken_below]; rfl

/-- The same with the request's bytes before the trailer. -/
theorem signed_data (h : Hub) (req idx val len n V : Nat) (entry txn : Option Nat) (hV : V < 256 ^ n) (hs : h.sessionOf (trSession lo) = some 1)
    (hc : seCounter (h.sessionRec 1) < trCounter lo) (ht : txn = none ∨ txn = some 1) : ∃ data : Nat, data % 256 ^ n = V ∧
      trSession (field data n 40) = 1 ∧ h.trailerTaken (field data n 40) = h.trailerTaken lo ∧
      h.trailerOk req idx val len (toBytes n data) (field data n 40) entry txn = true := by
  obtain ⟨tr, h1, h2, h3, h4⟩ := signed_trailer h req idx val len (toBytes n V) entry txn hs hc ht
  refine ⟨V + 256 ^ n * tr, low_below V n tr hV, ?_, ?_, ?_⟩ <;> rw [field_above V n tr 40 hV h1]
  · exact h2
  · exact h3
  · rw [toBytes_below]; exact h4

/-- Some write of this entry with this length is served, signed, and meets P of the requester, the hub once the trailer is taken, the session
and the bytes before the trailer. -/
def SignedWrite (i v : BitVec 16) (len : Fin 1017) (P : Nat → Hub → Nat → Nat → Prop) : Prop :=
  ∃ (t : Stamp) (s : State) (q : Requester) (data : Nat),
    let T := (s.arrive t).touchTxn q.code
    let tr := field data (len.val - 40) 40
    (s.arrive t).Serves q.code ∧ T.haltedFor q.code 0x11 i.toNat v.toNat = false ∧ odExists i.toNat (v.toNat % 256) = true ∧ 40 ≤ len.val ∧
      T.trailerOk 0x11 i.toNat v.toNat len (toBytes (len.val - 40) data) tr (some (i.toNat * 256 + v.toNat % 256))
        ((T.txnBefore q.code).map (·.session)) = true ∧
      P q.code (T.trailerTaken tr) (trSession tr) (data % 256 ^ (len.val - 40))

theorem signedWrite_of (l : List OdTxn) (i v : BitVec 16) (len : Fin 1017) (V : Nat) (P : Nat → Hub → Nat → Nat → Prop)
    (h1 : ((signedHub l).arrive 1000000000000).Serves 16) (h2 :
      let T := ((signedHub l).arrive 1000000000000).touchTxn 16
      T.haltedFor 16 0x11 i.toNat v.toNat = false ∧ odExists i.toNat (v.toNat % 256) = true ∧ 40 ≤ len.val ∧ V < 256 ^ (len.val - 40) ∧
        T.sessionOf (trSession lo) = some 1 ∧ seCounter (T.sessionRec 1) < trCounter lo ∧
        ((T.txnBefore 16).map (·.session) = none ∨ (T.txnBefore 16).map (·.session) = some 1))
    (h3 : P 16 ((((signedHub l).arrive 1000000000000).touchTxn 16).trailerTaken lo) 1 V) : SignedWrite i v len P := by
  obtain ⟨a2, a3, a4, a5, a6, a7, a8⟩ := h2
  obtain ⟨data, b1, b2, b3, b4⟩ := signed_data (((signedHub l).arrive 1000000000000).touchTxn 16) 0x11 i.toNat v.toNat len (len.val - 40) V
    (some (i.toNat * 256 + v.toNat % 256)) _ a5 a6 a7 a8
  refine ⟨1000000000000, signedHub l, .trunk 0, data, h1, a2, a3, a4, b4, ?_⟩
  have e : ∀ W S U, W = (((signedHub l).arrive 1000000000000).touchTxn 16).trailerTaken lo → S = 1 → U = V → P 16 W S U := by
    rintro W S U rfl rfl rfl
    exact h3
  exact e _ _ _ b3 b2 b1

/-- Signed writes that meet the hypotheses of the clauses of the statement DictionaryRequests about them: no right, an entry that no transaction
takes, a value out of range, a full transaction, a write that is staged, and a device-wide write. -/
theorem witness_DictionaryRequests_signed :
    SignedWrite 0x9000 3 41 (fun _ W ses _ => Hub.rightCode 0x9000 3 (W.sessionRole ses) ses ≠ 0) ∧
    SignedWrite 0x7000 7 72 (fun w W ses _ => Hub.rightCode 0x7000 7 (W.sessionRole ses) ses = 0 ∧ (∃ x, W.txnBefore w = some x) ∧
      odNoStage 0x7000 7 = true) ∧
    SignedWrite 0x5000 6 41 (fun w W ses V => Hub.rightCode 0x5000 6 (W.sessionRole ses) ses = 0 ∧ odNoStage 0x5000 6 = false ∧
      Hub.lengthCode 0x5000 6 0 1 = 0 ∧ ∃ x, W.txnBefore w = some x ∧ Hub.rangeOk (W.overlay x.staged) 0x500006 V = false) ∧
    SignedWrite 0x5000 6 41 (fun w W ses V => Hub.rightCode 0x5000 6 (W.sessionRole ses) ses = 0 ∧ odNoStage 0x5000 6 = false ∧
      Hub.lengthCode 0x5000 6 0 1 = 0 ∧ ∃ x, W.txnBefore w = some x ∧ Hub.rangeOk (W.overlay x.staged) 0x500006 V = true ∧
        256 < (Hub.stageIn x.staged ⟨0x500006, 1, V⟩).length) ∧
    SignedWrite 0x5000 6 41 (fun w W ses V => Hub.rightCode 0x5000 6 (W.sessionRole ses) ses = 0 ∧ odNoStage 0x5000 6 = false ∧
      Hub.lengthCode 0x5000 6 0 1 = 0 ∧ ∃ x, W.txnBefore w = some x ∧ Hub.rangeOk (W.overlay x.staged) 0x500006 V = true ∧
        ¬ (256 < (Hub.stageIn x.staged ⟨0x500006, 1, V⟩).length ∨
          16384 < ((Hub.stageIn x.staged ⟨0x500006, 1, V⟩).map (fun y : Staged => y.len)).foldl (· + ·) 0)) ∧
    SignedWrite 0xF000 1 41 (fun w W ses _ => Hub.rightCode 0xF000 1 (W.sessionRole ses) ses = 0 ∧ W.txnBefore w = none ∧
      Hub.lengthCode 0xF000 1 0 1 = 0) := by
  refine ⟨signedWrite_of [] _ _ _ 0 _ ?_ ?_ ?_, signedWrite_of [ofTrunk 0 []] _ _ _ 0 _ ?_ ?_ ⟨?_, ⟨ofTrunk (10 ^ 12) [], ?_⟩, ?_⟩,
    signedWrite_of [ofTrunk 0 []] _ _ _ 255 _ ?_ ?_ ⟨?_, ?_, ?_, ofTrunk (10 ^ 12) [], ?_⟩,
    signedWrite_of [ofTrunk 0 (List.replicate 256 ⟨1, 1, 0⟩)] _ _ _ 1 _ ?_ ?_
      ⟨?_, ?_, ?_, ofTrunk (10 ^ 12) (List.replicate 256 ⟨1, 1, 0⟩), ?_⟩,
    signedWrite_of [ofTrunk 0 []] _ _ _ 1 _ ?_ ?_ ⟨?_, ?_, ?_, ofTrunk (10 ^ 12) [], ?_⟩,
    signedWrite_of [] _ _ _ 0 _ ?_ ?_ ?_⟩ <;>
    (try unfold Hub.Serves) <;> decide +kernel

/-- Some BEGIN is served, signed, and meets P of the requester and the hub once the trailer is taken. -/
def SignedBegin (P : Nat → Hub → Prop) : Prop :=
  ∃ (t : Stamp) (s : State) (q : Requester) (i v : BitVec 16) (data : Nat),
    let T := (s.arrive t).touchTxn q.code
    (s.arrive t).Serves q.code ∧ T.haltedFor q.code 0x12 i.toNat v.toNat = false ∧
      T.trailerOk 0x12 i.toNat v.toNat 44 (toBytes 4 data) (field data 4 40) none none = true ∧ P q.code (T.trailerTaken (field data 4 40))

theorem signedBegin_of (l : List OdTxn) (P : Nat → Hub → Prop) (h1 : ((signedHub l).arrive 1000000000000).Serves 16)
    (h2 : let T := ((signedHub l).arrive 1000000000000).touchTxn 16
      T.haltedFor 16 0x12 0 0 = false ∧ T.sessionOf (trSession lo) = some 1 ∧ seCounter (T.sessionRec 1) < trCounter lo)
    (h3 : P 16 ((((signedHub l).arrive 1000000000000).touchTxn 16).trailerTaken lo)) : SignedBegin P := by
  obtain ⟨data, -, -, b3, b4⟩ := signed_data (((signedHub l).arrive 1000000000000).touchTxn 16) 0x12 0 0 44 4 0 none none (by decide)
    h2.2.1 h2.2.2 (.inl rfl)
  refine ⟨1000000000000, signedHub l, .trunk 0, 0, 0, data, h1, h2.1, b4, ?_⟩
  have e : ∀ W, W = (((signedHub l).arrive 1000000000000).touchTxn 16).trailerTaken lo → P 16 W := by
    rintro W rfl
    exact h3
  exact e _ b3

/-- Signed BEGINs that meet the hypotheses of the clauses of the statement DictionaryRequests about them: a transaction is open, four are open,
and one opens. -/
theorem witness_DictionaryRequests_begin :
    SignedBegin (fun w B => ∃ x, B.txnBefore w = some x) ∧
    SignedBegin (fun w B => B.txnBefore w = none ∧ 4 ≤ (B.odTxns.filter (fun y => y.stage != 2)).length) ∧
    SignedBegin (fun w B => B.txnBefore w = none ∧ (B.odTxns.filter (fun y => y.stage != 2)).length < 4) := by
  refine ⟨signedBegin_of [ofTrunk 0 []] _ ?_ ?_ ⟨ofTrunk (10 ^ 12) [], ?_⟩,
    signedBegin_of [{ ofTrunk 0 [] with who := 17 }, { ofTrunk 0 [] with who := 19 }, { ofTrunk 0 [] with who := 0x1001 },
      { ofTrunk 0 [] with who := 0x1002 }] _ ?_ ?_ ?_, signedBegin_of [] _ ?_ ?_ ?_⟩ <;> (try unfold Hub.Serves) <;> decide +kernel

/-- A COMMIT and an ABORT that name an open transaction and prove its session. -/
theorem witness_DictionaryRequests_ends : ∀ req ∈ [0x13, 0x14],
    ∃ (t : Stamp) (s : State) (q : Requester) (i v : BitVec 16) (data : Nat) (x : OdTxn),
      let T := (s.arrive t).touchTxn q.code
      (s.arrive t).Serves q.code ∧ T.haltedFor q.code req i.toNat v.toNat = false ∧ T.txnBefore q.code = some x ∧
        T.trailerOk req i.toNat v.toNat 40 [] (data % 256 ^ 40) none (some x.session) = true := by
  intro req hr
  obtain ⟨tr, h1, -, -, h4⟩ := signed_trailer (((signedHub [ofTrunk 0 []]).arrive 1000000000000).touchTxn 16) req 0 0 40 [] none (some 1)
    (by decide +kernel) (by decide +kernel) (.inr rfl)
  refine ⟨1000000000000, signedHub [ofTrunk 0 []], .trunk 0, 0, 0, tr, ofTrunk (10 ^ 12) [], ?_, ?_, ?_, ?_⟩
  · unfold Hub.Serves
    decide +kernel
  · rcases List.mem_pair.1 hr with rfl | rfl <;> decide +kernel
  · decide +kernel
  · rw [Nat.mod_eq_of_lt h1]
    exact h4

/-- A hub with an ACTIVE TS link on trunk A, whose receive key and next receive key stand as asked. -/
def keyedHub (cur next : Bool) : State :=
  { st [(Od.LINK_STATE 16, 4), (Od.LINK_CLASS 16, 4)] with
    linkKeys := [⟨0, if cur then some (1, 1) else none, if next then some (2, 2) else none, none, none⟩] }

/-- Some keyed frame on an ACTIVE TS link passes every check before its tag's, and meets P of the link's keys and of what each key makes of it. -/
def KeyedFrame (P : LinkKey → (Option (Nat × Nat) → Bool) → Prop) : Prop :=
  ∃ (t : Stamp) (s : State) (p : Cable) (h : BitVec 128) (len data : Nat) (tag : BitVec 128) (crc : Word),
    let H := s.arrive t
    let pay := data % 256 ^ len
    H.rd (Od.LINK_STATE p) = 4 ∧ H.phyOn p = true ∧ withCheck h.toNat = h.toNat ∧
      Hub.crcPasses h.toNat len pay tag.toNat crc.toNat = true ∧ reservedHeader h.toNat = false ∧ hEnc h.toNat = 1 ∧ H.trunkActive p = true ∧
      H.linkRefuses p h.toNat = false ∧ P (H.linkKeyOf (p - 16)) (H.tagUnder (p - 16) h.toNat len pay tag.toNat)

theorem keyedFrame_of (c n : Bool) (T : Nat) (P : LinkKey → (Option (Nat × Nat) → Bool) → Prop) (hT : T < 2 ^ 128) (hk : (c || n) = true)
    (hP : P (((keyedHub c n).arrive 1000000000000).linkKeyOf 0) (((keyedHub c n).arrive 1000000000000).tagUnder 0 (withCheck 128) 0 0 T)) :
    KeyedFrame P := by
  have e : ∀ c n : Bool, (c || n) = true →
      let H := (keyedHub c n).arrive 1000000000000
      let h : BitVec 128 := BitVec.ofNat 128 (withCheck 128)
      H.rd (Od.LINK_STATE 16) = 4 ∧ H.phyOn 16 = true ∧ withCheck h.toNat = h.toNat ∧ reservedHeader h.toNat = false ∧ hEnc h.toNat = 1 ∧
        H.trunkActive 16 = true ∧ H.linkRefuses 16 h.toNat = false ∧ h.toNat = withCheck 128 ∧ hLen h.toNat = 0 := by decide +kernel
  obtain ⟨a1, a2, a3, a4, a5, a6, a7, a8, a9⟩ := e c n hk
  have e2 : (BitVec.ofNat 128 T).toNat = T := Nat.mod_eq_of_lt hT
  have e3 : (BitVec.ofNat 32 (Hub.frameCrc (withCheck 128) 0 0 (some T))).toNat = Hub.frameCrc (withCheck 128) 0 0 (some T) :=
    Nat.mod_eq_of_lt (Hub.frameCrc_lt _ _ _ _)
  refine ⟨1000000000000, keyedHub c n, 16, BitVec.ofNat 128 (withCheck 128), 0, 0, BitVec.ofNat 128 T,
    BitVec.ofNat 32 (Hub.frameCrc (withCheck 128) 0 0 (some T)), a1, a2, a3, ?_, a4, a5, a6, a7, ?_⟩
  · unfold Hub.crcPasses
    rw [a9, if_pos a5, a8, e2, e3]
    simp
  · rw [a8, e2]
    exact hP

/-- Keyed frames that meet the hypotheses of the clauses of the statement TrunkFrames about the tag: it passes under the current key, under the
next one, and under neither. -/
theorem witness_TrunkFrames_keyed :
    KeyedFrame (fun k u => u k.rxCur = true) ∧ KeyedFrame (fun k u => u k.rxCur = false ∧ u k.rxNext = true) ∧
      KeyedFrame (fun k u => u k.rxCur = false ∧ u k.rxNext = false) := by
  have b : ∀ k salt q, Hub.gcmTagOf k salt q (withCheck 128) 0 0 < 2 ^ 128 := fun k salt q => Nat.mod_lt _ (by decide)
  have q1 : ∀ c n : Bool, ((keyedHub c n).arrive 1000000000000).seqOf 0 (hSeq (withCheck 128)) - 1 = 0 := by decide +kernel
  have k1 : ∀ c n : Bool, ((keyedHub c n).arrive 1000000000000).linkKeyOf 0
      = ⟨0, if c then some (1, 1) else none, if n then some (2, 2) else none, none, none⟩ := by decide +kernel
  refine ⟨keyedFrame_of true false (Hub.gcmTagOf 1 1 0 (withCheck 128) 0 0) _ (b _ _ _) rfl ?_,
    keyedFrame_of false true (Hub.gcmTagOf 2 2 0 (withCheck 128) 0 0) _ (b _ _ _) rfl ⟨?_, ?_⟩,
    keyedFrame_of true false ((Hub.gcmTagOf 1 1 0 (withCheck 128) 0 0 + 1) % 2 ^ 128) _ (Nat.mod_lt _ (by decide)) rfl ⟨?_, ?_⟩⟩ <;>
    rw [k1] <;> simp [Hub.tagUnder, q1]
  have := b 1 1 0
  omega

/-- A hub whose firmware loads warm, with nothing in its slot and this digest of the image that ran. -/
def warmHub (d : Nat) : State :=
  { State.reset with cells := [(Od.FW_STATE, 1), (Od.FW_DIGEST, d), (Reg.fwWarm, 1)], flash := [(0, 0)] }

/-- Warm loads that meet the hypotheses of their two clauses of the statement DomainsAndClocks: the digest is the image's, and is not. -/
theorem witness_DomainsAndClocks_warm :
    (∃ (t : Stamp) (s : State), let H := s.arrive t
      H.rd Od.FW_STATE = 1 ∧ H.rd Reg.fwWarm = 1 ∧ H.codeDigest (H.rd Reg.fwSlot) = H.rd Od.FW_DIGEST) ∧
    (∃ (t : Stamp) (s : State), let H := s.arrive t
      H.rd Od.FW_STATE = 1 ∧ H.rd Reg.fwWarm = 1 ∧ H.codeDigest (H.rd Reg.fwSlot) ≠ H.rd Od.FW_DIGEST) := by
  have b : ∀ d, ((warmHub d).arrive 8).flashBlock 0 0 = 0 := fun _ => rfl
  have c : ∀ d, ((warmHub d).arrive 8).codeDigest (((warmHub d).arrive 8).rd Reg.fwSlot) = Config.sha256 [] := by
    intro d
    have e : ((warmHub d).arrive 8).rd Reg.fwSlot = 0 := rfl
    rw [e, Hub.codeDigest, Hub.codeBytes, b]
    rfl
  have r : ∀ d, ((warmHub d).arrive 8).rd Od.FW_DIGEST = d := fun _ => rfl
  refine ⟨⟨8, warmHub (Config.sha256 []), rfl, rfl, ?_⟩, ⟨8, warmHub (Config.sha256 [] + 1), rfl, rfl, ?_⟩⟩ <;> rw [c, r]
  omega
/-- States and operands that meet the hypotheses of the statement SettleLaws, one for each clause. -/
theorem witness_SettleLaws :
    (∃ (h : Hub) (k : Nat), h.reactions = [] ∧ h.underTest 2 0 = false ∧ ((∀ p ∈ List.range 18, h.due (Tm.held p) = false)) ∧ k < 2 ^ 24) ∧
    (∃ (h : Hub), h.reactions = [] ∧ h.underTest 2 0 = false ∧ ((∀ p ∈ List.range 18, h.due (Tm.held p) = false))) ∧
    (∃ (h : Hub), h.reactions = [] ∧ h.underTest 2 0 = false ∧ ((∀ p ∈ List.range 18, h.due (Tm.held p) = false))) ∧
    (∃ (h : Hub), h.reactions = [] ∧ h.underTest 2 0 = false ∧ ((∀ p ∈ List.range 18, h.due (Tm.held p) = false))) ∧
    (∃ (h : Hub), h.reactions = [] ∧ h.underTest 2 0 = false ∧ ((∀ p ∈ List.range 18, h.due (Tm.held p) = false))) ∧
    (∃ (h : Hub), h.reactions = [] ∧ h.underTest 2 0 = false ∧ ((∀ p ∈ List.range 18, h.due (Tm.held p) = false))) ∧
    (∃ (h : Hub), h.reactions = [] ∧ h.underTest 2 0 = false ∧ ((∀ p ∈ List.range 18, h.due (Tm.held p) = false))) :=
  ⟨⟨(st []).toHub, 0, by decide +kernel⟩,
   ⟨(st []).toHub, by decide +kernel⟩,
   ⟨(st []).toHub, by decide +kernel⟩,
   ⟨(st []).toHub, by decide +kernel⟩,
   ⟨(st []).toHub, by decide +kernel⟩,
   ⟨(st []).toHub, by decide +kernel⟩,
   ⟨(st []).toHub, by decide +kernel⟩⟩

/-- States and operands that meet the hypotheses of the statement SerialNumbers, one for each clause. -/
theorem witness_SerialNumbers :
    (∃ (n : Nat), 1 ≤ n) ∧
    (∃ (n : Nat), 1 ≤ n) ∧
    (∃ (n : Nat) (a : BitVec n) (b : BitVec n), 1 ≤ n ∧ (a - b).toNat = 2 ^ (n - 1)) :=
  ⟨⟨1, by decide +kernel⟩,
   ⟨1, by decide +kernel⟩,
   ⟨4, 8, 0, by decide +kernel⟩⟩

/-- States and operands that meet the hypotheses of the statement CountersSaturate, one for each clause. -/
theorem witness_CountersSaturate :
    (∃ (k : Nat) (j : Nat), j ≠ k) ∧
    (∃ (k : Nat) (r : OdRow), odRow (k / 256) (k % 256) = some r ∧ odCounter r = true) :=
  ⟨⟨0, 1, by decide +kernel⟩,
   ⟨Od.OD_WRITES, ((odRow (Od.OD_WRITES / 256) (Od.OD_WRITES % 256)).get (by decide)), by decide +kernel⟩⟩

/-- States and operands that meet the hypotheses of the statement FaultLevel5, one for each clause. -/
theorem witness_FaultLevel5 :
    (∃ (t : Stamp) (s : State) (r : Hub.Report), (s.arrive t).appliedLevel r.cls (sourceRow r.src).fault ((s.arrive t).rd (Od.SOURCE r.src) % 8) = 5) ∧
    (∃ (t : Stamp) (s : State) (x : Reaction), x.level = 5 ∧
    (match (sourceRow x.source).target with | .none => (s.arrive t) | .port => (s.arrive t).portReaction (x.detail % 256) x.level | .flint => (s.arrive t).flintReaction x | .granite => (s.arrive t).graniteReset).safeState.running
    Tm.l5 = false) ∧
    (∃ (t : Stamp) (s : State), (s.arrive t).due Tm.l5 = true) ∧
    (∃ (t : Stamp) (s : State), (s.arrive t).due Tm.l5 = false) :=
  ⟨⟨1000000000000, st [(Od.SOURCE 0x23, 5)], ⟨0x23, 0, 0, 0, false, 0, 0, 0⟩, by decide +kernel⟩,
   ⟨1000000000000, st [(Tm.l5, 0)], ⟨1, 0x23, 5, 0⟩, by decide +kernel⟩,
   ⟨1000000000000, st [(Tm.l5, 1)], by decide +kernel⟩,
   ⟨1000000000000, st [], by decide +kernel⟩⟩

/-- States and operands that meet the hypotheses of the statement AttachSearch, one for each clause. -/
theorem witness_AttachSearch :
    (∃ (t : Stamp) (p : Cable) (s : State), (s.arrive t).Live ∧ (s.arrive t).sniffDue p = false) ∧
    (∃ (t : Stamp) (p : Cable) (s : State), (s.arrive t).Live ∧ (s.arrive t).sniffDue p = true ∧ (s.arrive t).rd (Od.ATTACH_STATE p) = 0 ∧ (s.arrive
    t).rd (Od.CF_LEVEL p) = 1 ∧ (s.arrive t).backingOff p = false) ∧
    (∃ (t : Stamp) (p : Cable) (s : State), (s.arrive t).Live ∧ (s.arrive t).sniffDue p = true ∧ (s.arrive t).rd (Od.ATTACH_STATE p) = 0 ∧ (s.arrive
    t).rd (Od.CF_LEVEL p) = 1 ∧ (s.arrive t).backingOff p = true) ∧
    (∃ (t : Stamp) (p : Cable) (s : State), (s.arrive t).Live ∧ (s.arrive t).sniffDue p = true ∧ (s.arrive t).rd (Od.ATTACH_STATE p) = 1 ∧ (s.arrive
    t).rd (Reg.stage p) = 3) ∧
    (∃ (t : Stamp) (p : Cable) (s : State), (s.arrive t).Live ∧ (s.arrive t).sniffDue p = true ∧ (s.arrive t).rd (Od.ATTACH_STATE p) = 2) ∧
    (∃ (t : Stamp) (s : State), (s.arrive t).Live) ∧
    (∃ (t : Stamp) (p : Cable) (s : State), (s.arrive t).Live ∧ (s.arrive t).due (Tm.stage p) = true ∧ (s.arrive t).rd (Reg.stage p) = 1) ∧
    (∃ (t : Stamp) (p : Cable) (s : State), (s.arrive t).Live ∧ (s.arrive t).due (Tm.stage p) = true ∧ (s.arrive t).rd (Reg.stage p) = 2) ∧
    (∃ (t : Stamp) (p : Cable) (s : State), (s.arrive t).Live ∧ (s.arrive t).due (Tm.debounce p) = true ∧ (s.arrive t).rd (Od.ATTACH_STATE p) = 1 ∧
    (s.arrive t).rd (Reg.attachAs p) = 1) ∧
    (∃ (t : Stamp) (p : Cable) (s : State), (s.arrive t).Live ∧ (s.arrive t).due (Tm.debounce p) = true ∧ ((s.arrive t).rd (Od.ATTACH_STATE p) = 3 ∨
    ((s.arrive t).rd (Od.ATTACH_STATE p) = 1 ∧ (s.arrive t).rd (Reg.attachAs p) ≠ 1))) ∧
    (∃ (t : Stamp) (p : Cable) (s : State), (s.arrive t).Live ∧ (s.arrive t).due (Tm.backoff p) = true ∧ (s.arrive t).rd (Od.ATTACH_STATE p) = 0) ∧
    (∃ (t : Stamp) (p : Cable) (s : State), (s.arrive t).Live ∧ (s.arrive t).due (Tm.toggle p) = true ∧ (s.arrive t).rd (Od.ATTACH_STATE p) = 0) ∧
    (∃ (t : Stamp) (p : Cable) (s : State) (v1 : BitVec 16) (v2 : BitVec 16), (s.arrive t).Live ∧ (s.arrive t).rd (Od.ATTACH_STATE p) = 0 ∧ (s.arrive
    t).rd (Reg.toggle p) = 1 ∧ (s.arrive t).backingOff p = false ∧ ((cfBand v1.toNat = 1 ∨ cfBand v2.toNat = 1))) ∧
    (∃ (t : Stamp) (p : Cable) (s : State) (v : BitVec 16), (s.arrive t).Live ∧ 600 ≤ v.toNat ∧ (s.arrive t).rd (Od.ATTACH_STATE p) = 0 ∧ (s.arrive
    t).rd (Od.CF_LEVEL p) = 4) ∧
    (∃ (t : Stamp) (p : Cable) (s : State) (v : BitVec 16), (s.arrive t).Live ∧ v.toNat < 600 ∧ (s.arrive t).rd (Od.ATTACH_STATE p) = 1 ∧ (s.arrive
    t).rd (Reg.attachAs p) = 2) :=
  ⟨⟨1000000000000, 16, st [(Od.BOOT_STAGE, 9), (Reg.sniffAt 16, 10 ^ 12)], by unfold Hub.Live; decide +kernel⟩,
   ⟨1000000000000, 16, st [(Od.BOOT_STAGE, 9), ((Od.ATTACH_STATE 16), 0), ((Od.CF_LEVEL 16), 1)], by unfold Hub.Live; decide +kernel⟩,
   ⟨1000000000000, 16, st [(Od.BOOT_STAGE, 9), ((Od.ATTACH_STATE 16), 0), ((Od.CF_LEVEL 16), 1), (Tm.backoff 16, 10 ^ 15)],
   by unfold Hub.Live; decide +kernel⟩,
   ⟨1000000000000, 16, st [(Od.BOOT_STAGE, 9), ((Od.ATTACH_STATE 16), 1), ((Reg.stage 16), 3)], by unfold Hub.Live; decide +kernel⟩,
   ⟨1000000000000, 16, st [(Od.BOOT_STAGE, 9), ((Od.ATTACH_STATE 16), 2)], by unfold Hub.Live; decide +kernel⟩,
   ⟨1000000000000, st [(Od.BOOT_STAGE, 9)], by unfold Hub.Live; decide +kernel⟩,
   ⟨1000000000000, 16, st [(Od.BOOT_STAGE, 9), ((Tm.stage 16), 1), ((Reg.stage 16), 1)], by unfold Hub.Live; decide +kernel⟩,
   ⟨1000000000000, 16, st [(Od.BOOT_STAGE, 9), ((Tm.stage 16), 1), ((Reg.stage 16), 2)], by unfold Hub.Live; decide +kernel⟩,
   ⟨1000000000000, 16, st [(Od.BOOT_STAGE, 9), ((Tm.debounce 16), 1), ((Od.ATTACH_STATE 16), 1), ((Reg.attachAs 16), 1)],
   by unfold Hub.Live; decide +kernel⟩,
   ⟨1000000000000, 16, st [(Od.BOOT_STAGE, 9), ((Tm.debounce 16), 1), ((Od.ATTACH_STATE 16), 3)], by unfold Hub.Live; decide +kernel⟩,
   ⟨1000000000000, 16, st [(Od.BOOT_STAGE, 9), ((Tm.backoff 16), 1), ((Od.ATTACH_STATE 16), 0)], by unfold Hub.Live; decide +kernel⟩,
   ⟨1000000000000, 16, st [(Od.BOOT_STAGE, 9), ((Tm.toggle 16), 1), ((Od.ATTACH_STATE 16), 0)], by unfold Hub.Live; decide +kernel⟩,
   ⟨1000000000000, 16, st [(Od.BOOT_STAGE, 9), ((Od.ATTACH_STATE 16), 0), ((Reg.toggle 16), 1)], 600, 0, by unfold Hub.Live; decide +kernel⟩,
   ⟨1000000000000, 16, st [(Od.BOOT_STAGE, 9), ((Od.ATTACH_STATE 16), 0), ((Od.CF_LEVEL 16), 4)], 600, by unfold Hub.Live; decide +kernel⟩,
   ⟨1000000000000, 16, st [(Od.BOOT_STAGE, 9), ((Od.ATTACH_STATE 16), 1), ((Reg.attachAs 16), 2)], 0, by unfold Hub.Live; decide +kernel⟩⟩

/-- States and operands that meet the hypotheses of the statement AttachEnds, one for each clause. -/
theorem witness_AttachEnds :
    (∃ (t : Stamp) (p : Cable) (s : State), (s.arrive t).Live ∧ (s.arrive t).due (Tm.tryDebounce p) = true ∧ (s.arrive t).rd (Od.ATTACH_STATE p) = 2) ∧
    (∃ (t : Stamp) (p : Cable) (s : State), (s.arrive t).Live ∧ (s.arrive t).due (Tm.try p) = true ∧ (s.arrive t).rd (Od.ATTACH_STATE p) = 2) ∧
    (∃ (t : Stamp) (p : Cable) (s : State), (s.arrive t).Live ∧ (s.arrive t).due (Tm.tryWait p) = true ∧ (s.arrive t).rd (Od.ATTACH_STATE p) = 3) ∧
    (∃ (t : Stamp) (p : Cable) (s : State) (o : Stamp), (s.arrive t).Live ∧ (s.arrive t).attached p = true ∧ ms 9 ≤ (s.arrive t).openTime p o ∧
    (s.arrive t).rd (Reg.detachDone p) = 0) ∧
    (∃ (t : Stamp) (p : Cable) (s : State) (o : Stamp), (s.arrive t).Live ∧ (s.arrive t).openTime p o < ms 9) ∧
    (∃ (t : Stamp) (p : Cable) (s : State) (o : Stamp) (mv : BitVec 16), (s.arrive t).Live ∧ (s.arrive t).rd (Od.ATTACH_STATE p) ≠ 6 ∧ 6000 < mv.toNat
    ∧ o + us 900 ≤ (s.arrive t).now) ∧
    (∃ (t : Stamp) (s : State) (o : Stamp) (mv : BitVec 16), (s.arrive t).Live ∧ (mv.toNat ≤ 6000 ∨ (s.arrive t).now < o + us 900)) ∧
    (∃ (t : Stamp) (p : Cable) (s : State), (s.arrive t).rd (Od.ATTACH_STATE p) = 6) ∧
    (∃ (t : Stamp) (p : Cable) (s : State), (s.arrive t).rd (Od.ATTACH_STATE p) ≠ 6) :=
  ⟨⟨1000000000000, 16, st [(Od.BOOT_STAGE, 9), ((Tm.tryDebounce 16), 1), ((Od.ATTACH_STATE 16), 2)], by unfold Hub.Live; decide +kernel⟩,
   ⟨1000000000000, 16, st [(Od.BOOT_STAGE, 9), ((Tm.try 16), 1), ((Od.ATTACH_STATE 16), 2)], by unfold Hub.Live; decide +kernel⟩,
   ⟨1000000000000, 16, st [(Od.BOOT_STAGE, 9), ((Tm.tryWait 16), 1), ((Od.ATTACH_STATE 16), 3)], by unfold Hub.Live; decide +kernel⟩,
   ⟨1000000000000, 16, st [(Od.BOOT_STAGE, 9), ((Reg.detachDone 16), 0), (Od.ATTACH_STATE 16, 4)], 0, by unfold Hub.Live; decide +kernel⟩,
   ⟨1000000000000, 16, st [(Od.BOOT_STAGE, 9)], (10 ^ 12), by unfold Hub.Live; decide +kernel⟩,
   ⟨1000000000000, 16, st [(Od.BOOT_STAGE, 9)], 0, 6001, by unfold Hub.Live; decide +kernel⟩,
   ⟨1000000000000, st [(Od.BOOT_STAGE, 9)], 0, 0, by unfold Hub.Live; decide +kernel⟩,
   ⟨1000000000000, 16, st [((Od.ATTACH_STATE 16), 6)], by decide +kernel⟩,
   ⟨1000000000000, 16, st [], by decide +kernel⟩⟩

/-- States and operands that meet the hypotheses of the statement NotLiveNoEffect, one for each clause. -/
theorem witness_NotLiveNoEffect :
    (∃ (t : Stamp) (s : State), ¬ (s.arrive t).Live) :=
  ⟨1000000000000, st [(Od.BOOT_STAGE, 0)], by unfold Hub.Live; decide +kernel⟩

/-- States and operands that meet the hypotheses of the statement FullResets, one for each clause. -/
theorem witness_FullResets :
    (∃ (t : Stamp) (s : State), (s.arrive t).due Tm.fullReset = true ∧ (s.arrive t).saving = none ∧ (s.arrive t).running Tm.repairSave = false) ∧
    (∃ (t : Stamp) (s : State), (s.arrive t).due Tm.l5 = true) :=
  ⟨⟨1000000000000, st [(Tm.fullReset, 1), (Tm.repairSave, 0)], by decide +kernel⟩,
   ⟨1000000000000, st [(Tm.l5, 1)], by decide +kernel⟩⟩

/-- States and operands that meet the hypotheses of the statement StartUp, one for each clause. -/
theorem witness_StartUp :
    (∃ (t : Stamp) (s : State), (s.arrive t).running Tm.bootStage = true ∧ (s.arrive t).due Tm.bootStage = false) ∧
    (∃ (t : Stamp) (s : State), (s.arrive t).running Tm.bootStage = false ∨ (s.arrive t).due Tm.bootStage = true) ∧
    (∃ (t : Stamp) (s : State), (s.arrive t).rd Od.BOOT_STAGE = 8) ∧
    (∃ (t : Stamp) (s : State), (s.arrive t).rd Od.LF_SOURCE = 1 ∧ (s.arrive t).running Tm.lfStart = true ∧ (s.arrive t).due Tm.lfStart = false ∧
    (s.arrive t).rd Tm.lfStart + 31250000 ≤ (s.arrive t).now + 1 + ms 2000) ∧
    (∃ (t : Stamp) (s : State), (s.arrive t).rd Od.LF_SOURCE = 1 ∧ (s.arrive t).due Tm.lfStart = true) ∧
    (∃ (t : Stamp) (s : State) (p : Dn) (r : HoldRec), (s.arrive t).rd Reg.hold = 1 ∧ (s.arrive t).holds.find? (fun x : HoldRec => x.port == p.val) =
    some r ∧ r.attached = true ∧ r.power = 3 ∧ r.event = 0) ∧
    (∃ (t : Stamp) (s : State), (s.arrive t).ready = false) ∧
    (∃ (t : Stamp) (s : State), (s.arrive t).ready = true) ∧
    (∃ (t : Stamp) (s : State) (u : Trunk), (s.arrive t).Live ∧ (s.arrive t).role ≠ 1 ∧ (s.arrive t).flintOn = true ∧ (s.arrive t).rd (Od.ATTACH_STATE
    u.port) = 5 ∧ (s.arrive t).rd (Od.PULLUP u.port) = 0) :=
  ⟨⟨1000000000000, st [(Tm.bootStage, 10 ^ 15)], by decide +kernel⟩,
   ⟨1000000000000, st [(Tm.bootStage, 0)], by decide +kernel⟩,
   ⟨1000000000000, st [(Od.BOOT_STAGE, 8)], by decide +kernel⟩,
   ⟨1000000000000, st [(Od.LF_SOURCE, 1), (Tm.lfStart, 10 ^ 12 + 10 ^ 9)], by decide +kernel⟩,
   ⟨1000000000000, st [(Od.LF_SOURCE, 1), (Tm.lfStart, 1)], by decide +kernel⟩,
   ⟨1000000000000, { st [(Reg.hold, 1)] with holds := [aHold] }, 3, aHold, by decide +kernel⟩,
   ⟨1000000000000, st [], by decide +kernel⟩,
   ⟨1000000000000, st [(Od.BOOT_STAGE, 9)], by decide +kernel⟩,
   ⟨1000000000000, st [(Od.BOOT_STAGE, 9), ((Od.ATTACH_STATE (16 + 0)), 5), ((Od.PULLUP (16 + 0)), 0)], 0, by unfold Hub.Live; decide +kernel⟩⟩

/-- States and operands that meet the hypotheses of the statement DetectorsReport, one for each clause. -/
theorem witness_DetectorsReport :
    (∃ (src : Byte), sources.any (fun x => x.id == src.toNat) = true) ∧
    (∃ (t : Stamp) (s : State) (v : BitVec 16), (s.arrive t).rd (Reg.tempFired 2) = 0 ∧ 1350 ≤ toSigned 16 v.toNat) ∧
    (∃ (t : Stamp) (s : State) (v : BitVec 16), (s.arrive t).rd (Reg.tempFired 2) = 0 ∧ toSigned 16 v.toNat < 1350) ∧
    (∃ (t : Stamp) (s : State) (v : BitVec 16), (s.arrive t).rd (Reg.tempFired 2) ≠ 0 ∧ 1300 < toSigned 16 v.toNat) ∧
    (∃ (t : Stamp) (s : State) (v : BitVec 16), (s.arrive t).rd (Reg.tempFired 2) ≠ 0 ∧ toSigned 16 v.toNat ≤ 1300) ∧
    (∃ (h : Hub) (src : Nat) (det : Nat), h.coveringShadow src det = none ∧ h.testFor src det = .nothing) ∧
    (∃ (t : Stamp) (s : State) (v : BitVec 16), (s.arrive t).rd (Reg.tempFired 3) = 0 ∧ v.toNat < (s.arrive t).rd Od.VIN_LOW_MV) ∧
    (∃ (t : Stamp) (s : State) (v : BitVec 16), (s.arrive t).rd (Reg.tempFired 4) = 0 ∧ v.toNat < (s.arrive t).rd Od.VAUX_LOW_MV) ∧
    (∃ (t : Stamp) (s : State), (s.arrive t).rd (Reg.tempFired 3) ≠ 0) ∧
    (∃ (t : Stamp) (s : State), (s.arrive t).rd (Reg.tempFired 4) ≠ 0) ∧
    (∃ (t : Stamp) (s : State) (r : Fin 2) (p : Dn), (s.arrive t).powered p = true ∧ (s.arrive t).rd (Reg.rail p) = r) ∧
    (∃ (t : Stamp) (s : State) (r : Fin 2), (∀ p : Dn, (s.arrive t).powered p = true → (s.arrive t).rd (Reg.rail p) ≠ r)) ∧
    (∃ (t : Stamp) (s : State), (s.arrive t).rd Reg.dieLost ≠ 1) ∧
    (∃ (t : Stamp) (s : State), (s.arrive t).flintOn = true) :=
  ⟨⟨0x23, by decide +kernel⟩,
   ⟨1000000000000, st [((Reg.tempFired 2), 0)], 1350, by decide +kernel⟩,
   ⟨1000000000000, st [((Reg.tempFired 2), 0)], 0, by decide +kernel⟩,
   ⟨1000000000000, st [((Reg.tempFired 2), 1)], 1301, by decide +kernel⟩,
   ⟨1000000000000, st [((Reg.tempFired 2), 1)], 0, by decide +kernel⟩,
   ⟨(st []).toHub, 0, 0, by decide +kernel⟩,
   ⟨1000000000000, st [((Reg.tempFired 3), 0)], 0, by decide +kernel⟩,
   ⟨1000000000000, st [((Reg.tempFired 4), 0)], 0, by decide +kernel⟩,
   ⟨1000000000000, st [((Reg.tempFired 3), 1)], by decide +kernel⟩,
   ⟨1000000000000, st [((Reg.tempFired 4), 1)], by decide +kernel⟩,
   ⟨1000000000000, st [(Od.POWER_STATE 3, 3), ((Reg.rail 3), 0)], 0, 3, by decide +kernel⟩,
   ⟨1000000000000, st [], 0, by decide +kernel⟩,
   ⟨1000000000000, st [], by decide +kernel⟩,
   ⟨1000000000000, st [], by decide +kernel⟩⟩

/-- States and operands that meet the hypotheses of the statement GarnetCommands, one for each clause. -/
theorem witness_GarnetCommands :
    (∃ (t : Stamp) (s : State) (v : BitVec 64), (s.arrive t).Writable Od.FAULT_ACK v.toNat) ∧
    (∃ (t : Stamp) (s : State), (s.arrive t).Writable Od.SAFE_EXIT 1 ∧ ((s.arrive t).keep Od.SAFE_EXIT 1).unacked.any (fun u => decide (4 ≤ u.level))
    = false ∧ toSigned 16 (((s.arrive t).keep Od.SAFE_EXIT 1).rd Od.DIE_TEMP) < toSigned 16 (((s.arrive t).keep Od.SAFE_EXIT 1).rd Od.THERM_CRIT) -
    50) ∧
    (∃ (t : Stamp) (s : State), (s.arrive t).Writable Od.SAFE_EXIT 1 ∧ ((s.arrive t).keep Od.SAFE_EXIT 1).unacked.any (fun u => decide (4 ≤ u.level))
    = true) ∧
    (∃ (t : Stamp) (s : State) (id : Byte) (l : Fin 8), (s.arrive t).Writable (Od.SOURCE id.toNat) l) ∧
    (∃ (t : Stamp) (s : State) (id : Byte) (l : Fin 8), (s.arrive t).Writable (Od.SOURCE id.toNat) (128 + l)) :=
  ⟨⟨1000000000000, st [], 0, by unfold Hub.Writable; decide +kernel⟩,
   ⟨1000000000000, st [(Od.DIE_TEMP, 300), (Od.THERM_CRIT, 1250)], by unfold Hub.Writable; decide +kernel⟩,
   ⟨1000000000000, { st [] with unacked := [⟨1, 0, 4⟩] }, by unfold Hub.Writable; decide +kernel⟩,
   ⟨1000000000000, st [], 0x23, 0, by unfold Hub.Writable; decide +kernel⟩,
   ⟨1000000000000, st [], 0x23, 0, by unfold Hub.Writable; decide +kernel⟩⟩

/-- States and operands that meet the hypotheses of the statement SelfTests, one for each clause. -/
theorem witness_SelfTests :
    (∃ (t : Stamp) (s : State) (b : Fin 52) (x : SelfTest), (s.arrive t).testOf 1 b = some x ∧ x.stage = 1) ∧
    (∃ (t : Stamp) (s : State) (b : Fin 52) (x : SelfTest), (s.arrive t).testOf 1 b = some x ∧ x.stage = 2) ∧
    (∃ (t : Stamp) (s : State) (b : Fin 52) (x : SelfTest), (s.arrive t).testOf 1 b = some x ∧ x.stage = 3) ∧
    (∃ (t : Stamp) (s : State) (b : Fin 52) (x : SelfTest), (s.arrive t).testOf 1 b = some x ∧ x.stage = 2) ∧
    (∃ (t : Stamp) (s : State) (p : Cable) (x : SelfTest), (s.arrive t).testOf 3 p = some x ∧ ((∀ n : Nat, (s.arrive t).loopTime p = some n →
    (s.arrive t).now + 1 < (s.arrive t).rd (Reg.loopFrom p) + n))) ∧
    (∃ (t : Stamp) (s : State) (p : Cable) (x : SelfTest) (n : Nat), (s.arrive t).testOf 3 p = some x ∧ (s.arrive t).loopTime p = some n ∧ (s.arrive
    t).rd (Reg.loopFrom p) + n ≤ (s.arrive t).now + 1) ∧
    (∃ (t : Stamp) (s : State) (p : Cable) (x : SelfTest) (n : Nat), (s.arrive t).testOf 3 p = some x ∧ (s.arrive t).loopTime p = some n ∧ (s.arrive
    t).rd (Reg.loopFrom p) + n ≤ (s.arrive t).now + 1) ∧
    (∃ (t : Stamp) (s : State) (row : Word) (x : SelfTest), (s.arrive t).testOf 4 row.toNat = some x) ∧
    (∃ (t : Stamp) (s : State) (row : Word) (x : SelfTest), (s.arrive t).testOf 4 row.toNat = some x ∧ (s.arrive t).repair.rowsUsed < 32) ∧
    (∃ (t : Stamp) (s : State) (x : SelfTest), (s.arrive t).testOf 2 0 = some x ∧ (s.arrive t).repair.pairA = 0 ∧ (s.arrive t).repair.pairB = 1 ∧
    hasBit (s.arrive t).repair.retired 2 = false) ∧
    (∃ (t : Stamp) (s : State) (x : SelfTest), (s.arrive t).testOf 2 0 = some x ∧ (s.arrive t).repair.pairA = 0 ∧ (s.arrive t).repair.pairB = 1 ∧
    hasBit (s.arrive t).repair.retired 2 = false) ∧
    (∃ (t : Stamp) (s : State), (s.arrive t).due Tm.repairSave = true) :=
  ⟨⟨1000000000000, { st [] with tests := [(aTest 1 0 1)] }, 0, (aTest 1 0 1), by decide +kernel⟩,
   ⟨1000000000000, { st [] with tests := [(aTest 1 0 2)] }, 0, (aTest 1 0 2), by decide +kernel⟩,
   ⟨1000000000000, { st [] with tests := [(aTest 1 0 3)] }, 0, (aTest 1 0 3), by decide +kernel⟩,
   ⟨1000000000000, { st [] with tests := [(aTest 1 0 2)] }, 0, (aTest 1 0 2), by decide +kernel⟩,
   ⟨1000000000000, { st [] with tests := [(aTest 3 16 1)] }, 16, (aTest 3 16 1), by decide +kernel⟩,
   ⟨1000000000000, { st [(Od.LINK_STATE 16, 3)] with tests := [(aTest 3 16 1)] }, 16, (aTest 3 16 1), (us 160), by decide +kernel⟩,
   ⟨1000000000000, { st [(Od.LINK_STATE 16, 3)] with tests := [(aTest 3 16 1)] }, 16, (aTest 3 16 1), (us 160), by decide +kernel⟩,
   ⟨1000000000000, { st [] with tests := [(aTest 4 0 1)] }, 0, (aTest 4 0 1), by decide +kernel⟩,
   ⟨1000000000000, { st [] with tests := [(aTest 4 0 1)] }, 0, (aTest 4 0 1), by decide +kernel⟩,
   ⟨1000000000000, { st [] with tests := [(aTest 2 0 1)] }, (aTest 2 0 1), by decide +kernel⟩,
   ⟨1000000000000, { st [] with tests := [(aTest 2 0 1)] }, (aTest 2 0 1), by decide +kernel⟩,
   ⟨1000000000000, st [(Tm.repairSave, 1)], by decide +kernel⟩⟩

/-- States and operands that meet the hypotheses of the statement LineReadings, one for each clause. -/
theorem witness_LineReadings :
    (∃ (t : Stamp) (s : State) (p : Dn) (r : Word) (m : Sense), (s.arrive t).rd (Od.MONITOR_ENABLE p) ≠ 0 ∧ (((s.arrive t).sense p m).wr
    (Reg.screenFrom p) ((s.arrive t).now + 1)).measureSpoiled p ((s.arrive t).rd (Reg.screenFrom p)) = false ∧ r.toNat ≤ 100000000) ∧
    (∃ (t : Stamp) (s : State) (p : Dn) (r : Word) (m : Sense), (s.arrive t).rd (Od.MONITOR_ENABLE p) ≠ 0 ∧ (((s.arrive t).sense p m).wr
    (Reg.screenFrom p) ((s.arrive t).now + 1)).measureSpoiled p ((s.arrive t).rd (Reg.screenFrom p)) = false ∧ 100000000 < r.toNat) ∧
    (∃ (t : Stamp) (s : State) (p : Dn) (m : Sense), (s.arrive t).rd (Od.MONITOR_ENABLE p) ≠ 0 ∧ (((s.arrive t).sense p m).wr (Reg.screenFrom p)
    ((s.arrive t).now + 1)).measureSpoiled p ((s.arrive t).rd (Reg.screenFrom p)) = true) ∧
    (∃ (t : Stamp) (s : State) (p : Dn), (s.arrive t).rd (Od.MONITOR_ENABLE p) = 0) ∧
    (∃ (t : Stamp) (s : State) (p : Dn), hourOf (s.arrive t).stamp = (s.arrive t).rd (Reg.hourWin p)) ∧
    (∃ (t : Stamp) (s : State) (p : Dn), hourOf (s.arrive t).stamp ≠ (s.arrive t).rd (Reg.hourWin p) ∧ (s.arrive t).rd (Od.MONITOR_ENABLE p) = 0) ∧
    (∃ (t : Stamp) (s : State) (p : Dn) (ov : Bool), hourOf (s.arrive t).stamp ≠ (s.arrive t).rd (Reg.hourWin p) ∧ (s.arrive t).rd (Od.MONITOR_ENABLE
    p) ≠ 0 ∧ ov = false ∧ (((((s.arrive t).wr (Reg.hourWin p) (hourOf (s.arrive t).stamp)).meanOfSum p 0x06 (Reg.screenSum p) (Reg.screenCount
    p)).meanOfSum p 0x05 (Reg.probeSum p) (Reg.probeCount p)).clear ([Reg.screenSum p, Reg.screenCount p, Reg.probeSum p, Reg.probeCount
    p])).measureBlocked p = false) ∧
    (∃ (t : Stamp) (s : State) (p : Dn) (ov : Bool), hourOf (s.arrive t).stamp ≠ (s.arrive t).rd (Reg.hourWin p) ∧ (s.arrive t).rd (Od.MONITOR_ENABLE
    p) ≠ 0 ∧ ((ov = true ∨ (((((s.arrive t).wr (Reg.hourWin p) (hourOf (s.arrive t).stamp)).meanOfSum p 0x06 (Reg.screenSum p) (Reg.screenCount
    p)).meanOfSum p 0x05 (Reg.probeSum p) (Reg.probeCount p)).clear ([Reg.screenSum p, Reg.screenCount p, Reg.probeSum p, Reg.probeCount
    p])).measureBlocked p = true))) ∧
    (∃ (t : Stamp) (s : State) (p : Dn), (s.arrive t).slotWanted p = true ∧ (s.arrive t).rd (Reg.slotAt p) + 64 ≤ (s.arrive t).gridTime / 125000 + 1) ∧
    (∃ (t : Stamp) (s : State) (p : Dn), ((s.arrive t).slotWanted p = false ∨ (s.arrive t).gridTime / 125000 + 1 < (s.arrive t).rd (Reg.slotAt p) +
    64)) :=
  ⟨⟨1000000000000, st [((Od.MONITOR_ENABLE 3), 1)], 3, 0, ⟨0, 0, 0, 0, 0⟩, by decide +kernel⟩,
   ⟨1000000000000, st [((Od.MONITOR_ENABLE 3), 1)], 3, 100000001, ⟨0, 0, 0, 0, 0⟩, by decide +kernel⟩,
   ⟨1000000000000, st [((Od.MONITOR_ENABLE 3), 1), (Reg.spoilAt 3, 1)], 3, ⟨0, 0, 0, 0, 0⟩, by decide +kernel⟩,
   ⟨1000000000000, st [((Od.MONITOR_ENABLE 3), 0)], 3, by decide +kernel⟩,
   ⟨1000000000000, st [], 3, by decide +kernel⟩,
   ⟨4000000000000, st [((Od.MONITOR_ENABLE 3), 0)], 3, by decide +kernel⟩,
   ⟨4000000000000, st [((Od.MONITOR_ENABLE 3), 1)], 3, false, by decide +kernel⟩,
   ⟨4000000000000, st [((Od.MONITOR_ENABLE 3), 1)], 3, true, by decide +kernel⟩,
   ⟨1000000000000, st [], 3, by decide +kernel⟩,
   ⟨1000000000000, st [(Od.MONITOR_ENABLE 3, 0)], 3, by decide +kernel⟩⟩

/-- States and operands that meet the hypotheses of the statement Reflectometry, one for each clause. -/
theorem witness_Reflectometry :
    (∃ (t : Stamp) (s : State) (p : Dn), (s.arrive t).Writable (Od.TDR_START p) 1 ∧ ((s.arrive t).keep (Od.TDR_START p) 1).rd (Reg.tdrRun p) = 0 ∧
    ((s.arrive t).keep (Od.TDR_START p) 1).traceAllowed p = true) ∧
    (∃ (t : Stamp) (s : State) (p : Dn), (s.arrive t).Writable (Od.TDR_START p) 1 ∧ ((((s.arrive t).keep (Od.TDR_START p) 1).rd (Reg.tdrRun p) ≠ 0 ∨
    ((s.arrive t).keep (Od.TDR_START p) 1).traceAllowed p = false))) ∧
    (∃ (t : Stamp) (s : State) (p : Dn), (s.arrive t).rd (Reg.tdrLast p) + (s.arrive t).rd (Od.TDR_INTERVAL p) * 1000000000 ≤ (s.arrive t).now ∧
    ((s.arrive t).wr (Reg.tdrLast p) (s.arrive t).now).rd (Reg.tdrRun p) = 0 ∧ ((s.arrive t).wr (Reg.tdrLast p) (s.arrive t).now).traceAllowed p =
    true) ∧
    (∃ (t : Stamp) (s : State) (p : Dn), (s.arrive t).rd (Reg.tdrLast p) + (s.arrive t).rd (Od.TDR_INTERVAL p) * 1000000000 ≤ (s.arrive t).now ∧
    ((((s.arrive t).wr (Reg.tdrLast p) (s.arrive t).now).rd (Reg.tdrRun p) ≠ 0 ∨ ((s.arrive t).wr (Reg.tdrLast p) (s.arrive t).now).traceAllowed p =
    false))) ∧
    (∃ (t : Stamp) (s : State) (p : Dn), (s.arrive t).rd (Reg.tripTrace p) = 2 ∧ (s.arrive t).traceAllowed p = true) ∧
    (∃ (t : Stamp) (s : State) (p : Dn), ((s.arrive t).rd (Reg.tripTrace p) ≠ 2 ∨ (s.arrive t).traceAllowed p = false)) ∧
    (∃ (t : Stamp) (s : State) (p : Dn), (s.arrive t).rd (Reg.tdrRun p) = 1 ∧ (s.arrive t).traceAllowed p = true ∧ ((s.arrive t).rd (Reg.tdrAt p) +
    (256 + (s.arrive t).rd (Reg.shotsLost p)) * 125000 ≤ (s.arrive t).now + 1) ∧ (s.arrive t).measureSpoiled p ((s.arrive t).rd (Reg.tdrAt p)) =
    false) ∧
    (∃ (t : Stamp) (s : State) (p : Dn), (s.arrive t).rd (Reg.tdrRun p) = 2 ∧ (s.arrive t).traceAllowed p = true ∧ ((s.arrive t).rd (Reg.tdrAt p) +
    (256 + (s.arrive t).rd (Reg.shotsLost p)) * 125000 ≤ (s.arrive t).now + 1) ∧ (s.arrive t).measureSpoiled p ((s.arrive t).rd (Reg.tdrAt p)) = true) ∧
    (∃ (t : Stamp) (s : State) (p : Dn), ((s.arrive t).rd (Reg.tdrRun p) = 0 ∨ (s.arrive t).traceAllowed p = false ∨ ¬ ((s.arrive t).rd (Reg.tdrAt p)
    + (256 + (s.arrive t).rd (Reg.shotsLost p)) * 125000 ≤ (s.arrive t).now + 1))) ∧
    (∃ (t : Stamp) (s : State) (p : Dn), (s.arrive t).Writable (Od.CAPTURE_BASELINE p) 1) :=
  ⟨⟨1000000000000, st [((Reg.tdrRun 3), 0)], 3, by unfold Hub.Writable; decide +kernel⟩,
   ⟨1000000000000, st [((Reg.tdrRun 3), 1)], 3, by unfold Hub.Writable; decide +kernel⟩,
   ⟨1000000000000, st [((Reg.tdrRun 3), 0)], 3, by decide +kernel⟩,
   ⟨1000000000000, st [((Reg.tdrRun 3), 1)], 3, by decide +kernel⟩,
   ⟨1000000000000, st [((Reg.tripTrace 3), 2)], 3, by decide +kernel⟩,
   ⟨1000000000000, st [], 3, by decide +kernel⟩,
   ⟨1000000000000, st [((Reg.tdrRun 3), 1)], 3, by decide +kernel⟩,
   ⟨1000000000000, st [((Reg.tdrRun 3), 2), (Reg.spoilAt 3, 1)], 3, by decide +kernel⟩,
   ⟨1000000000000, st [((Reg.tdrRun 3), 0)], 3, by decide +kernel⟩,
   ⟨1000000000000, st [], 3, by unfold Hub.Writable; decide +kernel⟩⟩

/-- States and operands that meet the hypotheses of the statement PolarityProbe, one for each clause. -/
theorem witness_PolarityProbe :
    (∃ (t : Stamp) (s : State) (p : Dn), (s.arrive t).probeRefused p = false) ∧
    (∃ (t : Stamp) (s : State) (p : Dn), (s.arrive t).probeRefused p = true) ∧
    (∃ (p : Dn) (h : Hub), h.powered p = true) ∧
    (∃ (p : Dn) (h : Hub), h.isSource p = false) ∧
    (∃ (t : Stamp) (s : State) (p : Dn) (m : Sense), ((s.arrive t).sense p m).due (Tm.probe p) = true ∧ (((s.arrive t).sense p m).wr (Tm.probe p)
    0).rd (Reg.probePhase p) = 1) ∧
    (∃ (t : Stamp) (s : State) (p : Dn) (m : Sense), ((s.arrive t).sense p m).due (Tm.probe p) = true ∧ (((s.arrive t).sense p m).wr (Tm.probe p)
    0).rd (Reg.probePhase p) = 2) ∧
    (∃ (t : Stamp) (s : State) (p : Dn) (m : Sense), ((s.arrive t).sense p m).due (Tm.probe p) = true ∧ (((s.arrive t).sense p m).wr (Tm.probe p)
    0).rd (Reg.probePhase p) = 3) ∧
    (∃ (t : Stamp) (s : State) (p : Dn) (m : Sense), ((s.arrive t).sense p m).due (Tm.probe p) = true ∧ (((s.arrive t).sense p m).wr (Tm.probe p)
    0).rd (Reg.probePhase p) = 4) ∧
    (∃ (t : Stamp) (s : State) (p : Dn) (m : Sense), ((s.arrive t).sense p m).due (Tm.probe p) = false) :=
  ⟨⟨1000000000000, st [(Od.ATTACH_STATE 3, 4)], 3, by decide +kernel⟩,
   ⟨1000000000000, st [], 3, by decide +kernel⟩,
   ⟨3, (st [(Od.POWER_STATE 3, 3)]).toHub, by decide +kernel⟩,
   ⟨3, (st []).toHub, by decide +kernel⟩,
   ⟨1000000000000, st [((Tm.probe 3), 1), ((Reg.probePhase 3), 1)], 3, ⟨0, 0, 0, 0, 0⟩, by decide +kernel⟩,
   ⟨1000000000000, st [((Tm.probe 3), 1), ((Reg.probePhase 3), 2)], 3, ⟨0, 0, 0, 0, 0⟩, by decide +kernel⟩,
   ⟨1000000000000, st [((Tm.probe 3), 1), ((Reg.probePhase 3), 3)], 3, ⟨0, 0, 0, 0, 0⟩, by decide +kernel⟩,
   ⟨1000000000000, st [((Tm.probe 3), 1), ((Reg.probePhase 3), 4)], 3, ⟨0, 0, 0, 0, 0⟩, by decide +kernel⟩,
   ⟨1000000000000, st [], 3, ⟨0, 0, 0, 0, 0⟩, by decide +kernel⟩⟩

/-- States and operands that meet the hypotheses of the statement CfMessages, one for each clause. -/
theorem witness_CfMessages :
    (∃ (t : Stamp) (s : State) (p : Cable), (s.arrive t).Live ∧ (s.arrive t).attached p = true) ∧
    (∃ (t : Stamp) (s : State) (p : Cable), (s.arrive t).Live ∧ (s.arrive t).attached p = false) ∧
    (∃ (t : Stamp) (s : State) (p : Cable) (tag : Bool), (s.arrive t).Live ∧ (s.arrive t).attached p = true ∧ (((s.arrive t).isSink p = false ∨ tag =
    false))) ∧
    (∃ (t : Stamp) (s : State) (p : Cable), (s.arrive t).Live ∧ (s.arrive t).attached p = true ∧ (s.arrive t).isSink p = true) ∧
    (∃ (t : Stamp) (s : State) (p : Cable), (s.arrive t).Live ∧ (s.arrive t).attached p = false) ∧
    (∃ (t : Stamp) (s : State) (p : Cable) (x : CfTx), (s.arrive t).Live ∧ (s.arrive t).due (Tm.receive p) = true ∧ ((s.arrive t).wr (Tm.receive p)
    0).txOf p = some x ∧ ((s.arrive t).wr (Tm.receive p) 0).rd (Reg.hrWaiting p) = 0 ∧ x.tries < 2 ∧ ((s.arrive t).wr (Tm.receive p) 0).isSink p =
    false) ∧
    (∃ (t : Stamp) (s : State) (p : Cable) (mv : BitVec 16) (x : CfTx), (s.arrive t).Live ∧ (s.arrive t).due (Tm.receive p) = true ∧ ((s.arrive t).wr
    (Tm.receive p) 0).txOf p = some x ∧ ((s.arrive t).wr (Tm.receive p) 0).rd (Reg.hrWaiting p) = 0 ∧ x.tries < 2 ∧ ((s.arrive t).wr (Tm.receive p)
    0).isSink p = true ∧ ((s.arrive t).wr (Tm.receive p) 0).levelSettled p = true ∧ ((s.arrive t).wr (Tm.receive p) 0).permitRead p mv.toNat = true) ∧
    (∃ (t : Stamp) (s : State) (p : Cable) (mv : BitVec 16) (x : CfTx), (s.arrive t).Live ∧ (s.arrive t).due (Tm.receive p) = true ∧ ((s.arrive t).wr
    (Tm.receive p) 0).txOf p = some x ∧ ((s.arrive t).wr (Tm.receive p) 0).rd (Reg.hrWaiting p) = 0 ∧ x.tries < 2 ∧ ((s.arrive t).wr (Tm.receive p)
    0).isSink p = true ∧ ((s.arrive t).wr (Tm.receive p) 0).levelSettled p = true ∧ ((s.arrive t).wr (Tm.receive p) 0).permitRead p mv.toNat = false ∧
    Hub.beginsExchange x = true) ∧
    (∃ (t : Stamp) (s : State) (p : Cable) (x : CfTx), (s.arrive t).Live ∧ (s.arrive t).due (Tm.receive p) = true ∧ ((s.arrive t).wr (Tm.receive p)
    0).txOf p = some x ∧ ((s.arrive t).wr (Tm.receive p) 0).rd (Reg.hrWaiting p) = 0 ∧ 2 ≤ x.tries) ∧
    (∃ (t : Stamp) (s : State) (p : Cable) (busy : Bool), (s.arrive t).Live ∧ ((busy = true ∨ (s.arrive t).due (Tm.receive p) = false))) ∧
    (∃ (t : Stamp) (s : State) (p : Cable), (s.arrive t).Live ∧ (s.arrive t).attached p = true ∧ (s.arrive t).rd (Reg.hrWaiting p) = 0) ∧
    (∃ (t : Stamp) (s : State) (p : Cable), (s.arrive t).Live ∧ (s.arrive t).attached p = false) ∧
    (∃ (t : Stamp) (s : State) (p : Cable), (s.arrive t).Live ∧ (s.arrive t).due (Tm.holdLead p) = true) ∧
    (∃ (t : Stamp) (s : State) (p : Cable), (s.arrive t).Live ∧ (s.arrive t).due (Tm.holdLead p) = false) ∧
    (∃ (t : Stamp) (s : State) (p : Cable) (type : Fin 16), (s.arrive t).Live ∧ (s.arrive t).due (Tm.waitRetry p type) = true) ∧
    (∃ (t : Stamp) (s : State) (p : Cable) (type : Fin 16), (s.arrive t).Live ∧ (s.arrive t).due (Tm.waitRetry p type) = false) :=
  ⟨⟨1000000000000, st [(Od.BOOT_STAGE, 9), (Od.ATTACH_STATE 16, 4)], 16, by unfold Hub.Live; decide +kernel⟩,
   ⟨1000000000000, st [(Od.BOOT_STAGE, 9)], 16, by unfold Hub.Live; decide +kernel⟩,
   ⟨1000000000000, st [(Od.BOOT_STAGE, 9), (Od.ATTACH_STATE 16, 4)], 16, false, by unfold Hub.Live; decide +kernel⟩,
   ⟨1000000000000, st [(Od.BOOT_STAGE, 9), (Od.ATTACH_STATE 16, 5)], 16, by unfold Hub.Live; decide +kernel⟩,
   ⟨1000000000000, st [(Od.BOOT_STAGE, 9)], 16, by unfold Hub.Live; decide +kernel⟩,
   ⟨1000000000000, { st [(Od.BOOT_STAGE, 9), ((Tm.receive 16), 1), ((Reg.hrWaiting 16), 0)] with cfTx := [(aCfTx 1)] }, 16, (aCfTx 1),
   by unfold Hub.Live; decide +kernel⟩,
   ⟨1000000000000, { st [(Od.BOOT_STAGE, 9), ((Tm.receive 16), 1), ((Reg.hrWaiting 16), 0), (Od.ATTACH_STATE 16, 5)] with cfTx := [(aCfTx 1)] }, 16,
   1260, (aCfTx 1), by unfold Hub.Live; decide +kernel⟩,
   ⟨1000000000000, { st [(Od.BOOT_STAGE, 9), ((Tm.receive 16), 1), ((Reg.hrWaiting 16), 0), (Od.ATTACH_STATE 16, 5)] with cfTx := [(aCfTx 1)] }, 16,
   0, (aCfTx 1), by unfold Hub.Live; decide +kernel⟩,
   ⟨1000000000000, { st [(Od.BOOT_STAGE, 9), ((Tm.receive 16), 1), ((Reg.hrWaiting 16), 0)] with cfTx := [(aCfTx 2)] }, 16, (aCfTx 2),
   by unfold Hub.Live; decide +kernel⟩,
   ⟨1000000000000, st [(Od.BOOT_STAGE, 9)], 16, false, by unfold Hub.Live; decide +kernel⟩,
   ⟨1000000000000, st [(Od.BOOT_STAGE, 9), ((Reg.hrWaiting 16), 0), (Od.ATTACH_STATE 16, 4)], 16, by unfold Hub.Live; decide +kernel⟩,
   ⟨1000000000000, st [(Od.BOOT_STAGE, 9)], 16, by unfold Hub.Live; decide +kernel⟩,
   ⟨1000000000000, st [(Od.BOOT_STAGE, 9), ((Tm.holdLead 16), 1)], 16, by unfold Hub.Live; decide +kernel⟩,
   ⟨1000000000000, st [(Od.BOOT_STAGE, 9)], 16, by unfold Hub.Live; decide +kernel⟩,
   ⟨1000000000000, st [(Od.BOOT_STAGE, 9), ((Tm.waitRetry 16 0), 1)], 16, 0, by unfold Hub.Live; decide +kernel⟩,
   ⟨1000000000000, st [(Od.BOOT_STAGE, 9)], 16, 0, by unfold Hub.Live; decide +kernel⟩⟩

/-- States and operands that meet the hypotheses of the statement HierarchyCommands, one for each clause. -/
theorem witness_HierarchyCommands :
    (∃ (t : Stamp) (s : State) (via : SwPort) (v : BitVec 64), (s.arrive t).Writable Od.ASSIGN v.toNat ∧ ((s.arrive t).keep Od.ASSIGN
    v.toNat).assignResult via ≠ 1) ∧
    (∃ (t : Stamp) (s : State) (via : SwPort) (v : BitVec 64), (s.arrive t).Writable Od.ASSIGN v.toNat ∧ ((s.arrive t).keep Od.ASSIGN
    v.toNat).assignResult via = 1) ∧
    (∃ (t : Stamp) (s : State), (s.arrive t).releaseCode = 0) ∧
    (∃ (t : Stamp) (s : State), (s.arrive t).releaseCode ≠ 0) ∧
    (∃ (t : Stamp) (s : State) (src : BitVec 24) (len : Nat) (pay : Nat), (s.arrive t).flintOn = true ∧ (s.arrive t).rd Od.HUB_ID_ASSIGNED ≠ 0 ∧
    ((s.arrive t).relayOn (byteAt pay 2) (fun x => x.tag == field pay 0 2 && x.src == src.toNat)) = none ∧ (s.arrive t).relayCheck len pay = 0) ∧
    (∃ (t : Stamp) (s : State) (src : BitVec 24) (len : Nat) (pay : Nat), (s.arrive t).flintOn = true ∧ (s.arrive t).rd Od.HUB_ID_ASSIGNED ≠ 0 ∧
    ((s.arrive t).relayOn (byteAt pay 2) (fun x => x.tag == field pay 0 2 && x.src == src.toNat)) = none ∧ (s.arrive t).relayCheck len pay ≠ 0) ∧
    (∃ (t : Stamp) (s : State) (src : BitVec 24) (pay : Nat) (r : Relay), (s.arrive t).flintOn = true ∧ (s.arrive t).rd Od.HUB_ID_ASSIGNED ≠ 0 ∧
    ((s.arrive t).relayOn (byteAt pay 2) (fun x => x.tag == field pay 0 2 && x.src == src.toNat)) = some r ∧ r.state = 3) ∧
    (∃ (t : Stamp) (s : State) (src : BitVec 24) (pay : Nat) (r : Relay), (s.arrive t).flintOn = true ∧ (s.arrive t).rd Od.HUB_ID_ASSIGNED ≠ 0 ∧
    ((s.arrive t).relayOn (byteAt pay 2) (fun x => x.tag == field pay 0 2 && x.src == src.toNat)) = some r ∧ r.state ≠ 3) ∧
    (∃ (t : Stamp) (s : State), ((s.arrive t).flintOn = false ∨ (s.arrive t).rd Od.HUB_ID_ASSIGNED = 0)) ∧
    (∃ (t : Stamp) (s : State) (p : Cable) (r : Relay), (s.arrive t).relayOn p (fun x => x.state == 2) = some r ∧ (s.arrive t).now < r.deadline) ∧
    (∃ (t : Stamp) (s : State) (p : Cable) (r : Relay), (s.arrive t).relayOn p (fun x => x.state == 2) = some r ∧ (s.arrive t).now < r.deadline) ∧
    (∃ (t : Stamp) (s : State) (p : Cable) (r : Relay), (s.arrive t).relayOn p (fun x => x.state == 2) = some r ∧ r.deadline ≤ (s.arrive t).now) ∧
    (∃ (t : Stamp) (s : State) (p : Cable) (r : Relay), (s.arrive t).relayOn p (fun x => x.state != 3) = some r ∧ r.deadline ≤ (s.arrive t).now) ∧
    (∃ (t : Stamp) (s : State) (p : Cable) (r : Relay), (s.arrive t).relayOn p (fun x => x.state != 3) = some r ∧ (s.arrive t).now < r.deadline) ∧
    (∃ (t : Stamp) (s : State), (s.arrive t).upstreamGone = true ∧ ((((s.arrive t).rd Od.STANDBY_UPSTREAM) = 16 ∨ ((s.arrive t).rd
    Od.STANDBY_UPSTREAM) = 17)) ∧ (s.arrive t).sinkActive ((s.arrive t).rd Od.STANDBY_UPSTREAM) = true) ∧
    (∃ (t : Stamp) (s : State), (s.arrive t).upstreamGone = true ∧ (¬ ((((s.arrive t).rd Od.STANDBY_UPSTREAM) = 16 ∨ ((s.arrive t).rd
    Od.STANDBY_UPSTREAM) = 17) ∧ (s.arrive t).sinkActive ((s.arrive t).rd Od.STANDBY_UPSTREAM) = true))) ∧
    (∃ (t : Stamp) (s : State), (s.arrive t).upstreamGone = false) ∧
    (∃ (t : Stamp) (s : State) (u : Trunk), ((s.arrive t).hasUpstream = true ∧ (s.arrive t).rd Reg.isolated = 0 ∧ (s.arrive t).sinkActive u.port =
    true ∧ (s.arrive t).rd Od.CONTROL_UPSTREAM = 33 - u.port ∧ ((s.arrive t).rd Od.STANDBY_UPSTREAM) ≠ u.port)) ∧
    (∃ (t : Stamp) (s : State) (u : Trunk), (s.arrive t).rd Reg.isolated = 1 ∧ (s.arrive t).sinkActive u.port = true) ∧
    (∃ (t : Stamp) (s : State) (u : Trunk), ¬ ((s.arrive t).hasUpstream = true ∧ (s.arrive t).rd Reg.isolated = 0 ∧ (s.arrive t).sinkActive u.port =
    true ∧ (s.arrive t).rd Od.CONTROL_UPSTREAM = 33 - u.port ∧ ((s.arrive t).rd Od.STANDBY_UPSTREAM) ≠ u.port)) ∧
    (∃ (t : Stamp) (s : State) (u : Trunk), ((s.arrive t).rd Reg.isolated ≠ 1 ∨ (s.arrive t).sinkActive u.port = false)) :=
  ⟨⟨1000000000000, st [], 18, 0x30101, by unfold Hub.Writable; decide +kernel⟩,
   ⟨1000000000000, st [(Od.ATTACH_STATE 16, 5), (Od.HUB_ID_ASSIGNED, 0)], 16, 0x30101, by unfold Hub.Writable; decide +kernel⟩,
   ⟨1000000000000, st [], by decide +kernel⟩,
   ⟨1000000000000, st [(Od.HUB_ID_ASSIGNED, 0)], by decide +kernel⟩,
   ⟨1000000000000, st [(Od.HUB_ID_ASSIGNED, 1), (Od.ATTACH_STATE 16, 4), (Od.PORT_STATE 16, 5), (Od.TIER, 1)], 0, 16, (16 * 2 ^ 16 + 8 * 2 ^ 32),
   by decide +kernel⟩,
   ⟨1000000000000, st [(Od.HUB_ID_ASSIGNED, 1)], 0, 0, 0, by decide +kernel⟩,
   ⟨1000000000000, { st [(Od.HUB_ID_ASSIGNED, 1)] with relays := [{ aRelay 3 (10 ^ 15) with tag := 1, src := 1 }] }, 1, (1 + 16 * 2 ^ 16),
   { aRelay 3 (10 ^ 15) with tag := 1, src := 1 }, by decide +kernel⟩,
   ⟨1000000000000, { st [(Od.HUB_ID_ASSIGNED, 1)] with relays := [{ aRelay 2 (10 ^ 15) with tag := 1, src := 1 }] }, 1, (1 + 16 * 2 ^ 16),
   { aRelay 2 (10 ^ 15) with tag := 1, src := 1 }, by decide +kernel⟩,
   ⟨1000000000000, st [(Od.FW_STATE, 0)], by decide +kernel⟩,
   ⟨1000000000000, { st [] with relays := [(aRelay 2 (10 ^ 15))] }, 16, (aRelay 2 (10 ^ 15)), by decide +kernel⟩,
   ⟨1000000000000, { st [] with relays := [(aRelay 2 (10 ^ 15))] }, 16, (aRelay 2 (10 ^ 15)), by decide +kernel⟩,
   ⟨1000000000000, { st [] with relays := [(aRelay 2 0)] }, 16, (aRelay 2 0), by decide +kernel⟩,
   ⟨1000000000000, { st [] with relays := [(aRelay 2 0)] }, 16, (aRelay 2 0), by decide +kernel⟩,
   ⟨1000000000000, { st [] with relays := [(aRelay 2 (10 ^ 15))] }, 16, (aRelay 2 (10 ^ 15)), by decide +kernel⟩,
   ⟨1000000000000, st [(Reg.upCtl, 1), (Od.CONTROL_UPSTREAM, 16), (Od.STANDBY_UPSTREAM, 17), (Od.ATTACH_STATE 17, 5), (Od.LINK_STATE 17, 4)],
   by decide +kernel⟩,
   ⟨1000000000000, st [(Reg.upCtl, 1), (Od.CONTROL_UPSTREAM, 16)], by decide +kernel⟩,
   ⟨1000000000000, st [], by decide +kernel⟩,
   ⟨1000000000000, st [(Reg.isolated, 0), (Od.ATTACH_STATE 16, 5), (Od.LINK_STATE 16, 4), (Od.CONTROL_UPSTREAM, 17)], 0, by decide +kernel⟩,
   ⟨1000000000000, st [(Reg.isolated, 1), (Od.ATTACH_STATE 16, 5), (Od.LINK_STATE 16, 4)], 0, by decide +kernel⟩,
   ⟨1000000000000, st [], 0, by decide +kernel⟩,
   ⟨1000000000000, st [], 0, by decide +kernel⟩⟩

/-- States and operands that meet the hypotheses of the statement ReachNotices, one for each clause. -/
theorem witness_ReachNotices :
    (∃ (t : Stamp) (s : State) (p : Cable) (len : Nat) (pay : Nat), (((s.arrive t).flintOn = true ∧ len = 260 ∧ byteAt pay 0 = 1 ∧ (s.arrive
    t).farIsHub p = true)) ∧ (¬ ((s.arrive t).rd (Reg.noticeRx p) ≠ 0 ∧ newer 16 ((s.arrive t).rd (Reg.noticeRx p) - 1) (field pay 2 2) = true)) ∧
    (s.arrive t).isOn 2 = true) ∧
    (∃ (t : Stamp) (s : State) (p : Cable) (len : Nat) (pay : Nat), (((s.arrive t).flintOn = true ∧ len = 260 ∧ byteAt pay 0 = 1 ∧ (s.arrive
    t).farIsHub p = true)) ∧ (((s.arrive t).rd (Reg.noticeRx p) ≠ 0 ∧ newer 16 ((s.arrive t).rd (Reg.noticeRx p) - 1) (field pay 2 2) = true))) ∧
    (∃ (t : Stamp) (s : State) (p : Cable) (len : Nat) (pay : Nat), (s.arrive t).flintOn = true ∧ ((len ≠ 260 ∨ byteAt pay 0 ≠ 1 ∨ (s.arrive
    t).farIsHub p = false))) ∧
    (∃ (t : Stamp) (s : State), (s.arrive t).flintOn = false) ∧
    (∃ (t : Stamp) (s : State), (s.arrive t).noticesRun = true ∧ (s.arrive t).noticePorts.any (fun q => (s.arrive t).rd (Reg.noticeSent q) !=
    (s.arrive t).declared q + 1) = true) ∧
    (∃ (t : Stamp) (s : State), ((s.arrive t).noticesRun = false ∨ (s.arrive t).noticePorts.any (fun q => (s.arrive t).rd (Reg.noticeSent q) !=
    (s.arrive t).declared q + 1) = false)) ∧
    (∃ (t : Stamp) (s : State), (s.arrive t).noticesRun = true ∧ (((s.arrive t).running Tm.noticeTimer = false ∨ (s.arrive t).due Tm.noticeTimer =
    true))) ∧
    (∃ (t : Stamp) (s : State), ((s.arrive t).noticesRun = false ∨ ((s.arrive t).running Tm.noticeTimer = true ∧ (s.arrive t).due Tm.noticeTimer =
    false))) ∧
    (∃ (t : Stamp) (s : State) (p : Cable), (s.arrive t).due (Tm.notices p) = true) ∧
    (∃ (t : Stamp) (s : State) (p : Cable), (s.arrive t).due (Tm.notices p) = false) :=
  ⟨⟨1000000000000, st [(Od.DOMAIN_RECORD 2, 2)], 16, 260, 1, by decide +kernel⟩,
   ⟨1000000000000, st [(Reg.noticeRx 16, 2)], 16, 260, 1, by decide +kernel⟩,
   ⟨1000000000000, st [], 16, 0, 0, by decide +kernel⟩,
   ⟨1000000000000, st [(Od.FW_STATE, 0)], by decide +kernel⟩,
   ⟨1000000000000, st [(Od.LINK_STATE 16, 4), (Od.PORT_STATE 16, 5)], by decide +kernel⟩,
   ⟨1000000000000, st [], by decide +kernel⟩,
   ⟨1000000000000, st [(Tm.noticeTimer, 0)], by decide +kernel⟩,
   ⟨1000000000000, st [(Tm.noticeTimer, 10 ^ 15)], by decide +kernel⟩,
   ⟨1000000000000, st [((Tm.notices 16), 1)], 16, by decide +kernel⟩,
   ⟨1000000000000, st [], 16, by decide +kernel⟩⟩

/-- States and operands that meet the hypotheses of the statement PortCommands, one for each clause. -/
theorem witness_PortCommands :
    (∃ (t : Stamp) (s : State) (p : Cable), (s.arrive t).Writable (Od.PORT_CMD p) 1 ∧ 2 ≤ (fun (c : Nat) => (((fun (c : Nat) => ((s.arrive t).keep
    (Od.PORT_CMD p) c)) c).rd (Od.PORT_STATE p))) 1) ∧
    (∃ (t : Stamp) (s : State) (p : Cable), (s.arrive t).Writable (Od.PORT_CMD p) 1 ∧ (fun (c : Nat) => (((fun (c : Nat) => ((s.arrive t).keep
    (Od.PORT_CMD p) c)) c).rd (Od.PORT_STATE p))) 1 < 2) ∧
    (∃ (t : Stamp) (s : State) (p : Cable), (s.arrive t).Writable (Od.PORT_CMD p) 2 ∧ (¬ (p.val < 16 ∧ ((fun (c : Nat) => ((s.arrive t).keep
    (Od.PORT_CMD p) c)) 2).rd (Od.ALT_STATE p) ≠ 0)) ∧ (((fun (c : Nat) => (((fun (c : Nat) => ((s.arrive t).keep (Od.PORT_CMD p) c)) c).rd
    (Od.PORT_STATE p))) 2 = 8 ∨ ((fun (c : Nat) => (((fun (c : Nat) => ((s.arrive t).keep (Od.PORT_CMD p) c)) c).rd (Od.PORT_STATE p))) 2 = 3 ∧ ((fun
    (c : Nat) => ((s.arrive t).keep (Od.PORT_CMD p) c)) 2).rd (Od.DISABLE_CAUSE p) = 1))) ∧ ((((fun (c : Nat) => ((s.arrive t).keep (Od.PORT_CMD p)
    c)) 2).rd (Reg.pullSeen p) ≠ 0 ∧ ((fun (c : Nat) => ((s.arrive t).keep (Od.PORT_CMD p) c)) 2).phyOn p = true))) ∧
    (∃ (t : Stamp) (s : State) (p : Cable), (s.arrive t).Writable (Od.PORT_CMD p) 2 ∧ (¬ (p.val < 16 ∧ ((fun (c : Nat) => ((s.arrive t).keep
    (Od.PORT_CMD p) c)) 2).rd (Od.ALT_STATE p) ≠ 0)) ∧ (((fun (c : Nat) => (((fun (c : Nat) => ((s.arrive t).keep (Od.PORT_CMD p) c)) c).rd
    (Od.PORT_STATE p))) 2 = 8 ∨ ((fun (c : Nat) => (((fun (c : Nat) => ((s.arrive t).keep (Od.PORT_CMD p) c)) c).rd (Od.PORT_STATE p))) 2 = 3 ∧ ((fun
    (c : Nat) => ((s.arrive t).keep (Od.PORT_CMD p) c)) 2).rd (Od.DISABLE_CAUSE p) = 1))) ∧ (¬ (((fun (c : Nat) => ((s.arrive t).keep (Od.PORT_CMD p)
    c)) 2).rd (Reg.pullSeen p) ≠ 0 ∧ ((fun (c : Nat) => ((s.arrive t).keep (Od.PORT_CMD p) c)) 2).phyOn p = true))) ∧
    (∃ (t : Stamp) (s : State) (p : Cable), (s.arrive t).Writable (Od.PORT_CMD p) 2 ∧ (((p.val < 16 ∧ ((fun (c : Nat) => ((s.arrive t).keep
    (Od.PORT_CMD p) c)) 2).rd (Od.ALT_STATE p) ≠ 0) ∨ ¬ ((fun (c : Nat) => (((fun (c : Nat) => ((s.arrive t).keep (Od.PORT_CMD p) c)) c).rd
    (Od.PORT_STATE p))) 2 = 8 ∨ ((fun (c : Nat) => (((fun (c : Nat) => ((s.arrive t).keep (Od.PORT_CMD p) c)) c).rd (Od.PORT_STATE p))) 2 = 3 ∧ ((fun
    (c : Nat) => ((s.arrive t).keep (Od.PORT_CMD p) c)) 2).rd (Od.DISABLE_CAUSE p) = 1))))) ∧
    (∃ (t : Stamp) (s : State) (p : Cable), (s.arrive t).Writable (Od.PORT_CMD p) 3 ∧ (((fun (c : Nat) => (((fun (c : Nat) => ((s.arrive t).keep
    (Od.PORT_CMD p) c)) c).rd (Od.PORT_STATE p))) 3 = 5 ∨ (fun (c : Nat) => (((fun (c : Nat) => ((s.arrive t).keep (Od.PORT_CMD p) c)) c).rd
    (Od.PORT_STATE p))) 3 = 6))) ∧
    (∃ (t : Stamp) (s : State) (p : Cable), (s.arrive t).Writable (Od.PORT_CMD p) 3 ∧ (fun (c : Nat) => (((fun (c : Nat) => ((s.arrive t).keep
    (Od.PORT_CMD p) c)) c).rd (Od.PORT_STATE p))) 3 ≠ 5 ∧ (fun (c : Nat) => (((fun (c : Nat) => ((s.arrive t).keep (Od.PORT_CMD p) c)) c).rd
    (Od.PORT_STATE p))) 3 ≠ 6) ∧
    (∃ (t : Stamp) (s : State) (p : Cable), (s.arrive t).Writable (Od.PORT_CMD p) 4 ∧ (fun (c : Nat) => (((fun (c : Nat) => ((s.arrive t).keep
    (Od.PORT_CMD p) c)) c).rd (Od.PORT_STATE p))) 4 = 5 ∧ ((fun (c : Nat) => ((s.arrive t).keep (Od.PORT_CMD p) c)) 4).slotsBusy p = false) ∧
    (∃ (t : Stamp) (s : State) (p : Cable), (s.arrive t).Writable (Od.PORT_CMD p) 4 ∧ (fun (c : Nat) => (((fun (c : Nat) => ((s.arrive t).keep
    (Od.PORT_CMD p) c)) c).rd (Od.PORT_STATE p))) 4 = 5 ∧ ((fun (c : Nat) => ((s.arrive t).keep (Od.PORT_CMD p) c)) 4).slotsBusy p = true) ∧
    (∃ (t : Stamp) (s : State) (p : Cable), (s.arrive t).Writable (Od.PORT_CMD p) 4 ∧ (fun (c : Nat) => (((fun (c : Nat) => ((s.arrive t).keep
    (Od.PORT_CMD p) c)) c).rd (Od.PORT_STATE p))) 4 ≠ 5) ∧
    (∃ (t : Stamp) (s : State) (p : Cable), (s.arrive t).Writable (Od.PORT_CMD p) 5 ∧ (fun (c : Nat) => (((fun (c : Nat) => ((s.arrive t).keep
    (Od.PORT_CMD p) c)) c).rd (Od.PORT_STATE p))) 5 = 6 ∧ ((fun (c : Nat) => ((s.arrive t).keep (Od.PORT_CMD p) c)) 5).phyOn p = true ∧ ((fun (c :
    Nat) => ((s.arrive t).keep (Od.PORT_CMD p) c)) 5).running (Tm.listen p) = false) ∧
    (∃ (t : Stamp) (s : State) (p : Cable), (s.arrive t).Writable (Od.PORT_CMD p) 5 ∧ (fun (c : Nat) => (((fun (c : Nat) => ((s.arrive t).keep
    (Od.PORT_CMD p) c)) c).rd (Od.PORT_STATE p))) 5 = 6 ∧ ((fun (c : Nat) => ((s.arrive t).keep (Od.PORT_CMD p) c)) 5).phyOn p = true ∧ ((fun (c :
    Nat) => ((s.arrive t).keep (Od.PORT_CMD p) c)) 5).running (Tm.listen p) = true) ∧
    (∃ (t : Stamp) (s : State) (p : Cable), (s.arrive t).Writable (Od.PORT_CMD p) 5 ∧ (fun (c : Nat) => (((fun (c : Nat) => ((s.arrive t).keep
    (Od.PORT_CMD p) c)) c).rd (Od.PORT_STATE p))) 5 = 6 ∧ ((fun (c : Nat) => ((s.arrive t).keep (Od.PORT_CMD p) c)) 5).phyOn p = false) ∧
    (∃ (t : Stamp) (s : State) (p : Cable), (s.arrive t).Writable (Od.PORT_CMD p) 5 ∧ (fun (c : Nat) => (((fun (c : Nat) => ((s.arrive t).keep
    (Od.PORT_CMD p) c)) c).rd (Od.PORT_STATE p))) 5 ≠ 6) :=
  ⟨⟨1000000000000, st [(Od.PORT_STATE 16, 2)], 16, by unfold Hub.Writable; decide +kernel⟩,
   ⟨1000000000000, st [], 16, by unfold Hub.Writable; decide +kernel⟩,
   ⟨1000000000000, st [((Reg.pullSeen 16), 1), (Od.PORT_STATE 16, 8)], 16, by unfold Hub.Writable; decide +kernel⟩,
   ⟨1000000000000, st [(Od.PORT_STATE 16, 8)], 16, by unfold Hub.Writable; decide +kernel⟩,
   ⟨1000000000000, st [((Od.ALT_STATE 16), 1)], 16, by unfold Hub.Writable; decide +kernel⟩,
   ⟨1000000000000, st [(Od.PORT_STATE 16, 5)], 16, by unfold Hub.Writable; decide +kernel⟩,
   ⟨1000000000000, st [], 16, by unfold Hub.Writable; decide +kernel⟩,
   ⟨1000000000000, st [(Od.PORT_STATE 16, 5)], 16, by unfold Hub.Writable; decide +kernel⟩,
   ⟨1000000000000, { st [(Od.PORT_STATE 16, 5)] with slots := [{ aSlot 1 with port := 16 }] }, 16, by unfold Hub.Writable; decide +kernel⟩,
   ⟨1000000000000, st [], 16, by unfold Hub.Writable; decide +kernel⟩,
   ⟨1000000000000, st [((Tm.listen 16), 0), (Od.PORT_STATE 16, 6)], 16, by unfold Hub.Writable; decide +kernel⟩,
   ⟨1000000000000, st [((Tm.listen 16), 10 ^ 15), (Od.PORT_STATE 16, 6)], 16, by unfold Hub.Writable; decide +kernel⟩,
   ⟨1000000000000, st [(Od.PORT_STATE 16, 6), (Od.DOMAIN_RECORD 2, 0), (Od.DOMAIN_RECORD 6, 0)], 16, by unfold Hub.Writable; decide +kernel⟩,
   ⟨1000000000000, st [], 16, by unfold Hub.Writable; decide +kernel⟩⟩

/-- States and operands that meet the hypotheses of the statement EngineRuns, one for each clause. -/
theorem witness_EngineRuns :
    (∃ (p : Cable) (active : Bool), (active = false ∨ 16 ≤ p.val)) ∧
    (∃ (p : Cable), p.val < 16) ∧
    (∃ (t : Stamp) (s : State) (p : Cable) (x : Txn) (r : TxnResult), (((s.arrive t).txnOf p = some x ∧ (s.arrive t).rd (Reg.burstAck p) = 0 ∧
    x.result = some r)) ∧ Hub.isError r = false) ∧
    (∃ (t : Stamp) (s : State) (p : Cable) (x : Txn) (r : TxnResult), (((s.arrive t).txnOf p = some x ∧ (s.arrive t).rd (Reg.burstAck p) = 0 ∧
    x.result = some r)) ∧ Hub.isError r = true ∧ (((((({ (s.arrive t) with txns := dropBy Txn.port p (s.arrive t).txns } : Hub).inc
    (Od.TRANSACTION_ERRORS p)).inc (Od.CONSECUTIVE_ERRORS p) 8).originator x r).rd (Od.PORT_STATE p) = 5 ∧
    (((({ (s.arrive t) with txns := dropBy Txn.port p (s.arrive t).txns } : Hub).inc (Od.TRANSACTION_ERRORS p)).inc (Od.CONSECUTIVE_ERRORS p)
    8).originator x r).rd (Od.ERROR_LIMIT p) ≤ (((({ (s.arrive t) with txns := dropBy Txn.port p (s.arrive t).txns } : Hub).inc (Od.TRANSACTION_ERRORS
    p)).inc (Od.CONSECUTIVE_ERRORS p) 8).originator x r).rd (Od.CONSECUTIVE_ERRORS p)))) ∧
    (∃ (t : Stamp) (s : State) (p : Cable) (x : Txn) (r : TxnResult), (((s.arrive t).txnOf p = some x ∧ (s.arrive t).rd (Reg.burstAck p) = 0 ∧
    x.result = some r)) ∧ Hub.isError r = true ∧ (¬ ((((({ (s.arrive t) with txns := dropBy Txn.port p (s.arrive t).txns } : Hub).inc
    (Od.TRANSACTION_ERRORS p)).inc (Od.CONSECUTIVE_ERRORS p) 8).originator x r).rd (Od.PORT_STATE p) = 5 ∧
    (((({ (s.arrive t) with txns := dropBy Txn.port p (s.arrive t).txns } : Hub).inc (Od.TRANSACTION_ERRORS p)).inc (Od.CONSECUTIVE_ERRORS p)
    8).originator x r).rd (Od.ERROR_LIMIT p) ≤ (((({ (s.arrive t) with txns := dropBy Txn.port p (s.arrive t).txns } : Hub).inc (Od.TRANSACTION_ERRORS
    p)).inc (Od.CONSECUTIVE_ERRORS p) 8).originator x r).rd (Od.CONSECUTIVE_ERRORS p)))) ∧
    (∃ (t : Stamp) (s : State) (p : Cable), (s.arrive t).txnOf p = none) ∧
    (∃ (t : Stamp) (s : State) (p : Cable), (s.arrive t).engineRuns p = true ∧ 4 ≤ (s.arrive t).rd (Od.PORT_STATE p)) ∧
    (∃ (t : Stamp) (s : State) (p : Cable), ((s.arrive t).engineRuns p = false ∨ (s.arrive t).rd (Od.PORT_STATE p) < 4)) ∧
    (∃ (t : Stamp) (s : State) (p : Cable), (s.arrive t).due (Tm.enumStart p) = true ∧ ((s.arrive t).wr (Tm.enumStart p) 0).rd (Od.PORT_STATE p) = 4 ∧
    ((s.arrive t).wr (Tm.enumStart p) 0).rd (Od.LINK_STATE p) = 4) ∧
    (∃ (t : Stamp) (s : State) (p : Cable), (s.arrive t).due (Tm.enumStart p) = true ∧ ((((s.arrive t).wr (Tm.enumStart p) 0).rd (Od.PORT_STATE p) ≠ 4
    ∨ ((s.arrive t).wr (Tm.enumStart p) 0).rd (Od.LINK_STATE p) ≠ 4))) ∧
    (∃ (t : Stamp) (s : State) (p : Cable), (s.arrive t).due (Tm.enumStart p) = false) ∧
    (∃ (t : Stamp) (s : State) (p : Cable) (v : Delivery), (s.arrive t).deliveries.find? (fun w => w.port == p.val) = some v ∧ v.deadline ≤ (s.arrive
    t).now) ∧
    (∃ (t : Stamp) (s : State) (p : Cable) (v : Delivery), (s.arrive t).deliveries.find? (fun w => w.port == p.val) = some v ∧ (s.arrive t).now <
    v.deadline) :=
  ⟨⟨16, false, by decide +kernel⟩,
   ⟨0, by decide +kernel⟩,
   ⟨1000000000000, { st [((Reg.burstAck 16), 0)] with txns := [{ aTxn 16 with result := some (.nak 0) }] }, 16,
   { aTxn 16 with result := some (.nak 0) }, (.nak 0), by decide +kernel⟩,
   ⟨1000000000000,
   { st [((Reg.burstAck 16), 0), (Od.PORT_STATE 16, 5), (Od.ERROR_LIMIT 16, 1)] with txns := [{ aTxn 16 with result := some (.error) }] }, 16,
   { aTxn 16 with result := some (.error) }, .error, by decide +kernel⟩,
   ⟨1000000000000, { st [((Reg.burstAck 16), 0), (Od.PORT_STATE 16, 4)] with txns := [{ aTxn 16 with result := some (.error) }] }, 16,
   { aTxn 16 with result := some (.error) }, .error, by decide +kernel⟩,
   ⟨1000000000000, st [], 16, by decide +kernel⟩,
   ⟨1000000000000, st [((Od.PORT_STATE 16), 4)], 16, by decide +kernel⟩,
   ⟨1000000000000, st [], 16, by decide +kernel⟩,
   ⟨1000000000000, st [((Tm.enumStart 16), 1), ((Od.PORT_STATE 16), 4), ((Od.LINK_STATE 16), 4)], 16, by decide +kernel⟩,
   ⟨1000000000000, st [((Tm.enumStart 16), 1)], 16, by decide +kernel⟩,
   ⟨1000000000000, st [], 16, by decide +kernel⟩,
   ⟨1000000000000, { st [] with deliveries := [⟨16, 1, 0, 0, false, 0⟩] }, 16, ⟨16, 1, 0, 0, false, 0⟩, by decide +kernel⟩,
   ⟨1000000000000, { st [] with deliveries := [⟨16, 1, 0, 0, false, 10 ^ 15⟩] }, 16, ⟨16, 1, 0, 0, false, 10 ^ 15⟩, by decide +kernel⟩⟩

/-- States and operands that meet the hypotheses of the statement SplitSlots, one for each clause. -/
theorem witness_SplitSlots :
    (∃ (t : Stamp) (s : State) (u : Cable) (body : Word) (len : Nat), ((((s.arrive t).answersOn u = true ∧ ¬ (bits (body.toNat) 7 0 = 255 ∨ bits
    (body.toNat) 27 26 = 3 ∨ (hasBit (body.toNat) 24 && (hasBit (body.toNat) 25)) = true) ∧ ((hasBit (body.toNat) 25) = false → len ≤ (s.arrive
    t).portMax u)) ∧ bits (body.toNat) 7 0 = (s.arrive t).rd (Reg.myAddr u) ∧ ((hasBit (body.toNat) 25) = false → len ≤ ((s.arrive t).heardPackets u
    (if (hasBit (body.toNat) 25) then 1 else 2)).portMax (bits (body.toNat) 31 28)) ∧ ((s.arrive t).heardPackets u (if (hasBit (body.toNat) 25) then 1
    else 2)).splitPortOk (bits (body.toNat) 31 28) (bits (body.toNat) 19 12) = true)) ∧ ((s.arrive t).heardPackets u (if (hasBit (body.toNat) 25) then
    1 else 2)).slotFor (bits (body.toNat) 31 28) (bits (body.toNat) 19 12) (bits (body.toNat) 23 20) (hasBit (body.toNat) 25) = none ∧ ((s.arrive
    t).heardPackets u (if (hasBit (body.toNat) 25) then 1 else 2)).slotRoom (bits (body.toNat) 31 28) = true) ∧
    (∃ (t : Stamp) (s : State) (u : Cable) (body : Word) (len : Nat), ((((s.arrive t).answersOn u = true ∧ ¬ (bits (body.toNat) 7 0 = 255 ∨ bits
    (body.toNat) 27 26 = 3 ∨ (hasBit (body.toNat) 24 && (hasBit (body.toNat) 25)) = true) ∧ ((hasBit (body.toNat) 25) = false → len ≤ (s.arrive
    t).portMax u)) ∧ bits (body.toNat) 7 0 = (s.arrive t).rd (Reg.myAddr u) ∧ ((hasBit (body.toNat) 25) = false → len ≤ ((s.arrive t).heardPackets u
    (if (hasBit (body.toNat) 25) then 1 else 2)).portMax (bits (body.toNat) 31 28)) ∧ ((s.arrive t).heardPackets u (if (hasBit (body.toNat) 25) then 1
    else 2)).splitPortOk (bits (body.toNat) 31 28) (bits (body.toNat) 19 12) = true)) ∧ ((s.arrive t).heardPackets u (if (hasBit (body.toNat) 25) then
    1 else 2)).slotFor (bits (body.toNat) 31 28) (bits (body.toNat) 19 12) (bits (body.toNat) 23 20) (hasBit (body.toNat) 25) = none ∧ ((s.arrive
    t).heardPackets u (if (hasBit (body.toNat) 25) then 1 else 2)).slotRoom (bits (body.toNat) 31 28) = false) ∧
    (∃ (t : Stamp) (s : State) (u : Cable) (body : Word) (len : Nat) (x : Slot), ((((s.arrive t).answersOn u = true ∧ ¬ (bits (body.toNat) 7 0 = 255 ∨
    bits (body.toNat) 27 26 = 3 ∨ (hasBit (body.toNat) 24 && (hasBit (body.toNat) 25)) = true) ∧ ((hasBit (body.toNat) 25) = false → len ≤ (s.arrive
    t).portMax u)) ∧ bits (body.toNat) 7 0 = (s.arrive t).rd (Reg.myAddr u) ∧ ((hasBit (body.toNat) 25) = false → len ≤ ((s.arrive t).heardPackets u
    (if (hasBit (body.toNat) 25) then 1 else 2)).portMax (bits (body.toNat) 31 28)) ∧ ((s.arrive t).heardPackets u (if (hasBit (body.toNat) 25) then 1
    else 2)).splitPortOk (bits (body.toNat) 31 28) (bits (body.toNat) 19 12) = true)) ∧ ((s.arrive t).heardPackets u (if (hasBit (body.toNat) 25) then
    1 else 2)).slotFor (bits (body.toNat) 31 28) (bits (body.toNat) 19 12) (bits (body.toNat) 23 20) (hasBit (body.toNat) 25) = some x ∧ x.state ≠ 3) ∧
    (∃ (t : Stamp) (s : State) (u : Cable) (body : Word) (len : Nat), (((s.arrive t).answersOn u = true ∧ ¬ (bits (body.toNat) 7 0 = 255 ∨ bits
    (body.toNat) 27 26 = 3 ∨ (hasBit (body.toNat) 24 && (hasBit (body.toNat) 25)) = true) ∧ ((hasBit (body.toNat) 25) = false → len ≤ (s.arrive
    t).portMax u))) ∧ bits (body.toNat) 7 0 = (s.arrive t).rd (Reg.myAddr u) ∧ ((((s.arrive t).heardPackets u (if (hasBit (body.toNat) 25) then 1 else
    2)).splitPortOk (bits (body.toNat) 31 28) (bits (body.toNat) 19 12) = false ∨ ((hasBit (body.toNat) 25) = false ∧ ((s.arrive t).heardPackets u (if
    (hasBit (body.toNat) 25) then 1 else 2)).portMax (bits (body.toNat) 31 28) < len)))) ∧
    (∃ (t : Stamp) (s : State) (u : Cable) (body : Word) (len : Nat), (((s.arrive t).answersOn u = true ∧ ¬ (bits (body.toNat) 7 0 = 255 ∨ bits
    (body.toNat) 27 26 = 3 ∨ (hasBit (body.toNat) 24 && (hasBit (body.toNat) 25)) = true) ∧ ((hasBit (body.toNat) 25) = false → len ≤ (s.arrive
    t).portMax u))) ∧ bits (body.toNat) 7 0 ≠ (s.arrive t).rd (Reg.myAddr u)) ∧
    (∃ (t : Stamp) (s : State) (u : Cable) (body : Word), (s.arrive t).answersOn u = true ∧ ((bits (body.toNat) 7 0 = 255 ∨ bits (body.toNat) 27 26 =
    3 ∨ (hasBit (body.toNat) 24 && (hasBit (body.toNat) 25)) = true))) ∧
    (∃ (t : Stamp) (s : State) (u : Cable) (body : Word) (len : Nat), (s.arrive t).answersOn u = true ∧ (¬ (bits (body.toNat) 7 0 = 255 ∨ bits
    (body.toNat) 27 26 = 3 ∨ (hasBit (body.toNat) 24 && (hasBit (body.toNat) 25)) = true)) ∧ (hasBit (body.toNat) 25) = false ∧ (s.arrive t).portMax u
    < len) ∧
    (∃ (t : Stamp) (s : State) (u : Cable), (s.arrive t).answersOn u = false) ∧
    (∃ (t : Stamp) (s : State) (u : Cable) (body : Word) (x : Slot), (((s.arrive t).answersOn u = true ∧ ¬ (bits (body.toNat) 7 0 = 255 ∨ bits
    (body.toNat) 27 26 = 3 ∨ (hasBit (body.toNat) 24 && (hasBit (body.toNat) 25)) = true) ∧ bits (body.toNat) 7 0 = ((s.arrive t).heardPackets u 1).rd
    (Reg.myAddr u))) ∧ ((s.arrive t).heardPackets u 1).slotFor (bits (body.toNat) 31 28) (bits (body.toNat) 19 12) (bits (body.toNat) 23 20) (hasBit
    (body.toNat) 25) = some x ∧ x.state ≠ 3) ∧
    (∃ (t : Stamp) (s : State) (u : Cable) (body : Word) (x : Slot), (((s.arrive t).answersOn u = true ∧ ¬ (bits (body.toNat) 7 0 = 255 ∨ bits
    (body.toNat) 27 26 = 3 ∨ (hasBit (body.toNat) 24 && (hasBit (body.toNat) 25)) = true) ∧ bits (body.toNat) 7 0 = ((s.arrive t).heardPackets u 1).rd
    (Reg.myAddr u))) ∧ ((s.arrive t).heardPackets u 1).slotFor (bits (body.toNat) 31 28) (bits (body.toNat) 19 12) (bits (body.toNat) 23 20) (hasBit
    (body.toNat) 25) = some x ∧ x.state = 3) ∧
    (∃ (t : Stamp) (s : State) (u : Cable) (body : Word), (((s.arrive t).answersOn u = true ∧ ¬ (bits (body.toNat) 7 0 = 255 ∨ bits (body.toNat) 27 26
    = 3 ∨ (hasBit (body.toNat) 24 && (hasBit (body.toNat) 25)) = true) ∧ bits (body.toNat) 7 0 = ((s.arrive t).heardPackets u 1).rd (Reg.myAddr u))) ∧
    ((s.arrive t).heardPackets u 1).slotFor (bits (body.toNat) 31 28) (bits (body.toNat) 19 12) (bits (body.toNat) 23 20) (hasBit (body.toNat) 25) =
    none) ∧
    (∃ (t : Stamp) (s : State) (u : Cable) (body : Word), (s.arrive t).answersOn u = true ∧ ((bits (body.toNat) 7 0 = 255 ∨ bits (body.toNat) 27 26 =
    3 ∨ (hasBit (body.toNat) 24 && (hasBit (body.toNat) 25)) = true))) ∧
    (∃ (t : Stamp) (s : State) (len : Nat) (data : Nat) (src : BitVec 24), (s.arrive t).rd Od.HUB_ID_ASSIGNED ≠ 0 ∧ (s.arrive t).slots.find? (fun w =>
    w.carrier == 1 && w.tag == field data 0 2 && w.src == src.toNat) = none ∧ Hub.splitRequestOk len data = true ∧ (s.arrive t).splitPortOk (byteAt
    data 2) (byteAt data 3) = true ∧ field data 6 2 ≤ 8 * (s.arrive t).portMax (byteAt data 2) ∧ (s.arrive t).slotFor (byteAt data 2) (byteAt data 3)
    (byteAt data 4 % 16) (hasBit (byteAt data 4) 6) = none ∧ (s.arrive t).slotRoom (byteAt data 2) = true) ∧
    (∃ (t : Stamp) (s : State), (s.arrive t).rd Od.HUB_ID_ASSIGNED = 0) ∧
    (∃ (t : Stamp) (s : State) (i : Fin 128) (x : Slot), (s.arrive t).slots.find? (fun w => w.id == i.val) = some x ∧ x.state = 1 ∧ x.deadline ≤
    (s.arrive t).now) ∧
    (∃ (t : Stamp) (s : State) (i : Fin 128) (x : Slot), (s.arrive t).slots.find? (fun w => w.id == i.val) = some x ∧ ((x.state ≠ 1 ∨ (s.arrive t).now
    < x.deadline))) ∧
    (∃ (t : Stamp) (s : State) (i : Fin 128) (x : Slot), (s.arrive t).slots.find? (fun w => w.id == i.val) = some x ∧ x.state = 3 ∧ x.deadline ≤
    (s.arrive t).now ∧ x.returned = false) ∧
    (∃ (t : Stamp) (s : State) (i : Fin 128) (x : Slot), (s.arrive t).slots.find? (fun w => w.id == i.val) = some x ∧ x.state = 3 ∧ x.deadline ≤
    (s.arrive t).now ∧ x.returned = true) :=
  ⟨⟨1000000000000, st [(Od.ATTACH_STATE 16, 5), (Od.LINK_STATE 16, 4), (Od.DEVICE 1, 0x010000), (Od.PORT_STATE 0, 5), (Od.SLOT_LIMIT 0, 8)], 16,
   0x1000, 0, by decide +kernel⟩,
   ⟨1000000000000,
   { st [(Od.ATTACH_STATE 16, 5), (Od.LINK_STATE 16, 4), (Od.DEVICE 1, 0x010000), (Od.PORT_STATE 0, 5), (Od.SLOT_LIMIT 0, 1)] with slots := [{ aSlot 1 with tdev := 2 }] },
   16, 0x1000, 0, by decide +kernel⟩,
   ⟨1000000000000,
   { st [(Od.ATTACH_STATE 16, 5), (Od.LINK_STATE 16, 4), (Od.DEVICE 1, 0x010000), (Od.PORT_STATE 0, 5), (Od.SLOT_LIMIT 0, 8)] with slots := [(aSlot 1)] },
   16, 0x1000, 0, (aSlot 1), by decide +kernel⟩,
   ⟨1000000000000, st [(Od.ATTACH_STATE 16, 5), (Od.LINK_STATE 16, 4)], 16, 0, 0, by decide +kernel⟩,
   ⟨1000000000000, st [(Od.ATTACH_STATE 16, 5), (Od.LINK_STATE 16, 4)], 16, 1, 0, by decide +kernel⟩,
   ⟨1000000000000, st [(Od.ATTACH_STATE 16, 5), (Od.LINK_STATE 16, 4)], 16, 255, by decide +kernel⟩,
   ⟨1000000000000, st [(Od.ATTACH_STATE 16, 5), (Od.LINK_STATE 16, 4)], 16, 0, 1025, by decide +kernel⟩,
   ⟨1000000000000, st [], 16, by decide +kernel⟩,
   ⟨1000000000000, { st [(Od.ATTACH_STATE 16, 5), (Od.LINK_STATE 16, 4)] with slots := [(aSlot 1)] }, 16, 0x1000, (aSlot 1), by decide +kernel⟩,
   ⟨1000000000000, { st [(Od.ATTACH_STATE 16, 5), (Od.LINK_STATE 16, 4)] with slots := [(aSlot 3)] }, 16, 0x1000, (aSlot 3), by decide +kernel⟩,
   ⟨1000000000000, st [(Od.ATTACH_STATE 16, 5), (Od.LINK_STATE 16, 4)], 16, 0, by decide +kernel⟩,
   ⟨1000000000000, st [(Od.ATTACH_STATE 16, 5), (Od.LINK_STATE 16, 4)], 16, 255, by decide +kernel⟩,
   ⟨1000000000000, st [(Od.HUB_ID_ASSIGNED, 1), (Od.DEVICE 1, 0x010000), (Od.PORT_STATE 0, 5), (Od.SLOT_LIMIT 0, 8)], 8, 0x01000000, 0,
   by decide +kernel⟩,
   ⟨1000000000000, st [(Od.HUB_ID_ASSIGNED, 0)], by decide +kernel⟩,
   ⟨1000000000000, { st [] with slots := [(aSlot 1)] }, 0, (aSlot 1), by decide +kernel⟩,
   ⟨1000000000000, { st [] with slots := [(aSlot 2)] }, 0, (aSlot 2), by decide +kernel⟩,
   ⟨1000000000000, { st [] with slots := [(aSlot 3)] }, 0, (aSlot 3), by decide +kernel⟩,
   ⟨1000000000000, { st [] with slots := [{ aSlot 3 with returned := true }] }, 0, { aSlot 3 with returned := true }, by decide +kernel⟩⟩

/-- States and operands that meet the hypotheses of the statement ResumeAndWake, one for each clause. -/
theorem witness_ResumeAndWake :
    (∃ (t : Stamp) (s : State) (p : Cable), (s.arrive t).due (Tm.listen p) = true ∧ ((s.arrive t).wr (Tm.listen p) 0).rd (Od.PORT_STATE p) = 6 ∧
    (((((s.arrive t).wr (Tm.listen p) 0).rd (Reg.wakeOnset p)) = 0 ∨ (¬ ((((s.arrive t).wr (Tm.listen p) 0).rd (Reg.listenStart p) - 1) ≤ (((s.arrive
    t).wr (Tm.listen p) 0).rd (Reg.wakeOnset p)) - 1 + 2000 ∧ (((s.arrive t).wr (Tm.listen p) 0).rd (Reg.wakeOnset p)) - 1 < (((s.arrive t).wr
    (Tm.listen p) 0).rd (Reg.listenStart p) - 1) + 2000) ∧ ¬ ((((s.arrive t).wr (Tm.listen p) 0).rd (Reg.wakeOnset p)) - 1 < (((s.arrive t).wr
    (Tm.listen p) 0).rd (Reg.listenStart p) - 1) ∧ ((s.arrive t).wr (Tm.listen p) 0).rd (Reg.wakePresent p) = 1))))) ∧
    (∃ (t : Stamp) (s : State) (p : Cable), (s.arrive t).due (Tm.listen p) = true ∧ ((s.arrive t).wr (Tm.listen p) 0).rd (Od.PORT_STATE p) = 6 ∧
    (((s.arrive t).wr (Tm.listen p) 0).rd (Reg.wakeOnset p)) ≠ 0 ∧ (((((s.arrive t).wr (Tm.listen p) 0).rd (Reg.listenStart p) - 1) ≤ (((s.arrive
    t).wr (Tm.listen p) 0).rd (Reg.wakeOnset p)) - 1 + 2000 ∧ (((s.arrive t).wr (Tm.listen p) 0).rd (Reg.wakeOnset p)) - 1 < (((s.arrive t).wr
    (Tm.listen p) 0).rd (Reg.listenStart p) - 1) + 2000))) ∧
    (∃ (t : Stamp) (s : State) (p : Cable), (s.arrive t).due (Tm.listen p) = true ∧ ((s.arrive t).wr (Tm.listen p) 0).rd (Od.PORT_STATE p) = 6 ∧
    (((s.arrive t).wr (Tm.listen p) 0).rd (Reg.wakeOnset p)) ≠ 0 ∧ (¬ ((((s.arrive t).wr (Tm.listen p) 0).rd (Reg.listenStart p) - 1) ≤ (((s.arrive
    t).wr (Tm.listen p) 0).rd (Reg.wakeOnset p)) - 1 + 2000 ∧ (((s.arrive t).wr (Tm.listen p) 0).rd (Reg.wakeOnset p)) - 1 < (((s.arrive t).wr
    (Tm.listen p) 0).rd (Reg.listenStart p) - 1) + 2000)) ∧ (((((s.arrive t).wr (Tm.listen p) 0).rd (Reg.wakeOnset p)) - 1 < (((s.arrive t).wr
    (Tm.listen p) 0).rd (Reg.listenStart p) - 1) ∧ ((s.arrive t).wr (Tm.listen p) 0).rd (Reg.wakePresent p) = 1))) ∧
    (∃ (t : Stamp) (s : State) (p : Cable), (s.arrive t).due (Tm.listen p) = true ∧ ((s.arrive t).wr (Tm.listen p) 0).rd (Od.PORT_STATE p) ≠ 6) ∧
    (∃ (t : Stamp) (s : State) (p : Cable), (s.arrive t).due (Tm.listen p) = false) ∧
    (∃ (t : Stamp) (s : State) (p : Cable), (((s.arrive t).rd (Od.PORT_STATE p) = 6 ∧ (s.arrive t).rd (Od.WAKE_ENABLE p) = 1 ∧ (s.arrive t).rd
    (Reg.wakePresent p) = 1 ∧ (s.arrive t).phyOn p = true ∧ (s.arrive t).running (Tm.listen p) = false)) ∧ (((s.arrive t).wr (Od.RESUME_CAUSE p)
    2).inc (Od.WAKES_TAKEN p)).rd (Od.LINK_STATE p) = 5) ∧
    (∃ (t : Stamp) (s : State) (p : Cable), (((s.arrive t).rd (Od.PORT_STATE p) = 6 ∧ (s.arrive t).rd (Od.WAKE_ENABLE p) = 1 ∧ (s.arrive t).rd
    (Reg.wakePresent p) = 1 ∧ (s.arrive t).phyOn p = true ∧ (s.arrive t).running (Tm.listen p) = false)) ∧ (((s.arrive t).wr (Od.RESUME_CAUSE p)
    2).inc (Od.WAKES_TAKEN p)).rd (Od.LINK_STATE p) ≠ 5) ∧
    (∃ (t : Stamp) (s : State) (p : Cable), ¬ ((s.arrive t).rd (Od.PORT_STATE p) = 6 ∧ (s.arrive t).rd (Od.WAKE_ENABLE p) = 1 ∧ (s.arrive t).rd
    (Reg.wakePresent p) = 1 ∧ (s.arrive t).phyOn p = true ∧ (s.arrive t).running (Tm.listen p) = false)) ∧
    (∃ (t : Stamp) (s : State), (s.arrive t).rd Reg.upSuspend ≠ 0 ∧ (s.arrive t).rd (Od.LINK_STATE ((s.arrive t).rd Od.CONTROL_UPSTREAM)) = 4 ∧
    (s.arrive t).group.any (fun g => g.source == 2) = false) ∧
    (∃ (t : Stamp) (s : State), (s.arrive t).rd Reg.upSuspend ≠ 0 ∧ (s.arrive t).rd (Od.LINK_STATE ((s.arrive t).rd Od.CONTROL_UPSTREAM)) = 4 ∧
    (s.arrive t).group.any (fun g => g.source == 2) = true) ∧
    (∃ (t : Stamp) (s : State), ((s.arrive t).rd Reg.upSuspend = 0 ∨ (s.arrive t).rd (Od.LINK_STATE ((s.arrive t).rd Od.CONTROL_UPSTREAM)) ≠ 4)) ∧
    (∃ (t : Stamp) (s : State), (s.arrive t).rd Reg.lastUpReset ≠ (s.arrive t).now + 1) ∧
    (∃ (t : Stamp) (s : State), (s.arrive t).rd Reg.lastUpReset = (s.arrive t).now + 1) ∧
    (∃ (t : Stamp) (s : State), (s.arrive t).managerPath = true) ∧
    (∃ (t : Stamp) (s : State), (s.arrive t).managerPath = false) :=
  ⟨⟨1000000000000, st [((Tm.listen 16), 1), ((Od.PORT_STATE 16), 6)], 16, by decide +kernel⟩,
   ⟨1000000000000, st [((Tm.listen 16), 1), ((Od.PORT_STATE 16), 6), (Reg.wakeOnset 16, 10 ^ 12), (Reg.listenStart 16, 10 ^ 12)], 16,
   by decide +kernel⟩,
   ⟨1000000000000, st [((Tm.listen 16), 1), ((Od.PORT_STATE 16), 6), ((Reg.wakePresent 16), 1), (Reg.wakeOnset 16, 10 ^ 11), (Reg.listenStart 16, 10 ^
   12)], 16, by decide +kernel⟩,
   ⟨1000000000000, st [((Tm.listen 16), 1)], 16, by decide +kernel⟩,
   ⟨1000000000000, st [], 16, by decide +kernel⟩,
   ⟨1000000000000, st [((Od.LINK_STATE 16), 5), ((Od.PORT_STATE 16), 6), ((Od.WAKE_ENABLE 16), 1), ((Reg.wakePresent 16), 1), ((Tm.listen 16), 0)],
   16, by decide +kernel⟩,
   ⟨1000000000000, st [((Od.PORT_STATE 16), 6), ((Od.WAKE_ENABLE 16), 1), ((Reg.wakePresent 16), 1), ((Tm.listen 16), 0)], 16, by decide +kernel⟩,
   ⟨1000000000000, st [], 16, by decide +kernel⟩,
   ⟨1000000000000, st [(Reg.upSuspend, 1), (Od.CONTROL_UPSTREAM, 16), (Od.LINK_STATE 16, 4)], by decide +kernel⟩,
   ⟨1000000000000, { st [(Reg.upSuspend, 1), (Od.CONTROL_UPSTREAM, 16), (Od.LINK_STATE 16, 4)] with group := some { aGroup with source := 2 } },
   by decide +kernel⟩,
   ⟨1000000000000, st [(Reg.upSuspend, 0)], by decide +kernel⟩,
   ⟨1000000000000, st [], by decide +kernel⟩,
   ⟨1000000000000, st [(Reg.lastUpReset, (10 ^ 12 + 1))], by decide +kernel⟩,
   ⟨1000000000000, st [], by decide +kernel⟩,
   ⟨1000000000000, st [(Od.DOMAIN_RECORD 2, 0)], by decide +kernel⟩⟩

/-- States and operands that meet the hypotheses of the statement TripSequence, one for each clause. -/
theorem witness_TripSequence :
    (∃ (t : Stamp) (s : State) (p : Dn) (peak : BitVec 16), (s.arrive t).rd Reg.hold ≠ 1 ∧ 92 * (s.arrive t).fastThreshold p < 100 * peak.toNat) ∧
    (∃ (t : Stamp) (s : State) (p : Dn) (peak : BitVec 16), (s.arrive t).rd Reg.hold ≠ 1 ∧ 100 * peak.toNat ≤ 92 * (s.arrive t).fastThreshold p) ∧
    (∃ (t : Stamp) (last : Stamp) (s : State) (p : Dn), (s.arrive t).rd Reg.hold ≠ 1 ∧ ((s.arrive t).limitBroken last p).limitElapsed p = true) ∧
    (∃ (t : Stamp) (last : Stamp) (s : State) (p : Dn), (s.arrive t).rd Reg.hold ≠ 1 ∧ ((s.arrive t).limitBroken last p).limitElapsed p = false) ∧
    (∃ (t : Stamp) (last : Stamp) (s : State) (p : Dn), (s.arrive t).rd Reg.hold ≠ 1 ∧ ((s.arrive t).limitBroken last p).rd (Reg.limiting p) ≠ 0) ∧
    (∃ (t : Stamp) (last : Stamp) (s : State) (p : Dn), (s.arrive t).rd Reg.hold ≠ 1 ∧ ((s.arrive t).limitBroken last p).rd (Reg.limiting p) = 0) ∧
    (∃ (t : Stamp) (since : Stamp) (s : State) (p : Dn) (m : Sense) (peak : BitVec 16), (s.arrive t).rd Reg.hold ≠ 1 ∧ (s.arrive t).reverseHeld p
    since peak.toNat m = true) ∧
    (∃ (t : Stamp) (since : Stamp) (s : State) (p : Dn) (m : Sense) (peak : BitVec 16), (s.arrive t).rd Reg.hold ≠ 1 ∧ (s.arrive t).reverseHeld p
    since peak.toNat m = false) ∧
    (∃ (t : Stamp) (left : Stamp) (s : State) (p : Dn) (m : Sense), (s.arrive t).rd Reg.hold ≠ 1 ∧ (((s.arrive t).sense p m).limitBroken left
    p).powered p = true ∧ ((((s.arrive t).sense p m).limitBroken left p).inc (Od.LIMIT_EVENTS p)).rd (Reg.limiting p) = 0) ∧
    (∃ (t : Stamp) (left : Stamp) (s : State) (p : Dn) (m : Sense), (s.arrive t).rd Reg.hold ≠ 1 ∧ (((s.arrive t).sense p m).limitBroken left
    p).powered p = true ∧ ((((s.arrive t).sense p m).limitBroken left p).inc (Od.LIMIT_EVENTS p)).rd (Reg.limiting p) ≠ 0) ∧
    (∃ (t : Stamp) (left : Stamp) (s : State) (p : Dn) (m : Sense), (s.arrive t).rd Reg.hold ≠ 1 ∧ (((s.arrive t).sense p m).limitBroken left
    p).powered p = false) ∧
    (∃ (t : Stamp) (s : State) (p : Dn) (h : Hub), (s.arrive t).rd Reg.hold ≠ 1 ∧ h.powered p = true) ∧
    (∃ (t : Stamp) (s : State) (p : Dn) (h : Hub), (s.arrive t).rd Reg.hold ≠ 1 ∧ h.powered p = false) :=
  ⟨⟨1000000000000, st [], 3, 0xFFFF, by decide +kernel⟩,
   ⟨1000000000000, st [], 3, 0, by decide +kernel⟩,
   ⟨1000000000000, 1000000000000, st [(Reg.limiting 3, 1), (Od.LIMIT_TIME 3, 5)], 3, by decide +kernel⟩,
   ⟨1000000000000, 0, st [], 3, by decide +kernel⟩,
   ⟨1000000000000, 1000000000000, st [(Reg.limiting 3, 1)], 3, by decide +kernel⟩,
   ⟨1000000000000, 0, st [((Reg.limiting 3), 0)], 3, by decide +kernel⟩,
   ⟨1000000000000, 0, st [(Od.POWER_STATE 3, 3)], 3, ⟨0, 0, 0xFFFF, 0, 0⟩, 200, by decide +kernel⟩,
   ⟨1000000000000, 0, st [], 3, ⟨0, 0, 0, 0, 0⟩, 0, by decide +kernel⟩,
   ⟨1000000000000, 0, st [(Od.POWER_STATE 3, 3), ((Reg.limiting 3), 0)], 3, ⟨0, 0, 0, 0, 0⟩, by decide +kernel⟩,
   ⟨1000000000000, 1000000000000, st [(Od.POWER_STATE 3, 3), ((Reg.limiting 3), 1)], 3, ⟨0, 0, 0, 0, 0⟩, by decide +kernel⟩,
   ⟨1000000000000, 0, st [], 3, ⟨0, 0, 0, 0, 0⟩, by decide +kernel⟩,
   ⟨1000000000000, st [(Od.POWER_STATE 3, 3)], 3, (st [(Od.POWER_STATE 3, 3)]).toHub, by decide +kernel⟩,
   ⟨1000000000000, st [], 3, (st []).toHub, by decide +kernel⟩⟩

/-- States and operands that meet the hypotheses of the statement TripInHold, one for each clause. -/
theorem witness_TripInHold :
    (∃ (t : Stamp) (s : State) (p : Dn) (r : HoldRec), (s.arrive t).rd Reg.hold = 1 ∧ (s.arrive t).holds.find? (fun x : HoldRec => x.port == p.val) =
    some r) :=
  ⟨1000000000000, { st [(Reg.hold, 1)] with holds := [aHold] }, 3, aHold, by decide +kernel⟩

/-- States and operands that meet the hypotheses of the statement TurnOff, one for each clause. -/
theorem witness_TurnOff :
    (∃ (h : Hub) (p : Dn), h.powered p = false) ∧
    (∃ (h : Hub) (p : Dn), h.powered p = true ∧ h.rd (Od.PROBE_RESULT p) ≠ 1) ∧
    (∃ (h : Hub) (p : Dn), h.powered p = true ∧ h.rd (Od.PROBE_RESULT p) = 1 ∧ h.rd (Od.POWER_STATE p) = 3) :=
  ⟨⟨(st []).toHub, 3, by decide +kernel⟩,
   ⟨(st [(Od.POWER_STATE 3, 3)]).toHub, 3, by decide +kernel⟩,
   ⟨(st [(Od.POWER_STATE 3, 3), ((Od.PROBE_RESULT 3), 1)]).toHub, 3, by decide +kernel⟩⟩

/-- States and operands that meet the hypotheses of the statement PowerCommands, one for each clause. -/
theorem witness_PowerCommands :
    (∃ (t : Stamp) (s : State) (p : Dn), (s.arrive t).due (Tm.holdoff p) = true) ∧
    (∃ (t : Stamp) (s : State) (p : Dn), (s.arrive t).due (Tm.holdoff p) = false) ∧
    (∃ (m : Sense), m.vbus.toNat < 1000) ∧
    (∃ (m : Sense), 1000 ≤ m.vbus.toNat) ∧
    (∃ (m : Sense), m.vbus.toNat < 5000) ∧
    (∃ (m : Sense), 5000 ≤ m.vbus.toNat) ∧
    (∃ (t : Stamp) (s : State) (p : Dn) (m : Sense), ((s.arrive t).sense p m).due (Tm.discharge p) = true ∧ 5000 ≤ m.vbus.toNat) ∧
    (∃ (t : Stamp) (s : State) (p : Dn) (m : Sense), ((s.arrive t).sense p m).due (Tm.discharge p) = true ∧ m.vbus.toNat < 5000) ∧
    (∃ (t : Stamp) (s : State) (p : Dn) (m : Sense), ((s.arrive t).sense p m).due (Tm.discharge p) = false) ∧
    (∃ (t : Stamp) (since : Stamp) (s : State) (p : Dn) (m : Sense), ((((s.arrive t).sense p m).rd (Od.POWER_STATE p) = 2 ∧ ((s.arrive t).sense p
    m).rd (Reg.trStep p) = 4 ∧ since + ms 4 ≤ ((s.arrive t).sense p m).now ∧ 95 * (((s.arrive t).sense p m).railMv (((s.arrive t).sense p m).rd
    (Reg.rail p))) ≤ 100 * m.vbus.toNat ∧ 100 * m.vbus.toNat ≤ 105 * (((s.arrive t).sense p m).railMv (((s.arrive t).sense p m).rd (Reg.rail p))))) ∧
    ((((((((((s.arrive t).sense p m).wr (Od.POWER_STATE p) 3).wr (Od.TRANSITION_ENERGY p) m.energy.toNat).wr (Reg.limiting p) 0).wr (Reg.trStep p)
    0).refreshLimit p).powerResult p 2).emit (.powerDie p (.limit (((((((((s.arrive t).sense p m).wr (Od.POWER_STATE p) 3).wr (Od.TRANSITION_ENERGY p)
    m.energy.toNat).wr (Reg.limiting p) 0).wr (Reg.trStep p) 0).refreshLimit p).powerResult p 2).rd (Od.LIMIT_ACTIVE p))))).wr (Tm.firstCaps p) (since
    + ms 46 + 1)).rd (Od.CONTRACT_STATE p) ≠ 6) ∧
    (∃ (t : Stamp) (since : Stamp) (s : State) (p : Dn) (m : Sense), ((((s.arrive t).sense p m).rd (Od.POWER_STATE p) = 2 ∧ ((s.arrive t).sense p
    m).rd (Reg.trStep p) = 4 ∧ since + ms 4 ≤ ((s.arrive t).sense p m).now ∧ 95 * (((s.arrive t).sense p m).railMv (((s.arrive t).sense p m).rd
    (Reg.rail p))) ≤ 100 * m.vbus.toNat ∧ 100 * m.vbus.toNat ≤ 105 * (((s.arrive t).sense p m).railMv (((s.arrive t).sense p m).rd (Reg.rail p))))) ∧
    ((((((((((s.arrive t).sense p m).wr (Od.POWER_STATE p) 3).wr (Od.TRANSITION_ENERGY p) m.energy.toNat).wr (Reg.limiting p) 0).wr (Reg.trStep p)
    0).refreshLimit p).powerResult p 2).emit (.powerDie p (.limit (((((((((s.arrive t).sense p m).wr (Od.POWER_STATE p) 3).wr (Od.TRANSITION_ENERGY p)
    m.energy.toNat).wr (Reg.limiting p) 0).wr (Reg.trStep p) 0).refreshLimit p).powerResult p 2).rd (Od.LIMIT_ACTIVE p))))).wr (Tm.firstCaps p) (since
    + ms 46 + 1)).rd (Od.CONTRACT_STATE p) = 6) ∧
    (∃ (t : Stamp) (since : Stamp) (s : State) (p : Dn) (m : Sense), ¬ (((s.arrive t).sense p m).rd (Od.POWER_STATE p) = 2 ∧ ((s.arrive t).sense p
    m).rd (Reg.trStep p) = 4 ∧ since + ms 4 ≤ ((s.arrive t).sense p m).now ∧ 95 * (((s.arrive t).sense p m).railMv (((s.arrive t).sense p m).rd
    (Reg.rail p))) ≤ 100 * m.vbus.toNat ∧ 100 * m.vbus.toNat ≤ 105 * (((s.arrive t).sense p m).railMv (((s.arrive t).sense p m).rd (Reg.rail p))))) ∧
    (∃ (t : Stamp) (s : State) (p : Dn), (s.arrive t).Writable (Od.POWER_CMD p) 1 ∧ (((2 ≤ ((s.arrive t).keep (Od.POWER_CMD p) 1).rd
    (Od.CONTRACT_STATE p) ∧ ((s.arrive t).keep (Od.POWER_CMD p) 1).rd (Od.CONTRACT_STATE p) ≤ 6) ∨ ((s.arrive t).keep (Od.POWER_CMD p) 1).rd
    (Reg.inForce p) = 1))) ∧
    (∃ (t : Stamp) (s : State) (p : Dn), (s.arrive t).Writable (Od.POWER_CMD p) 1 ∧ (¬ ((2 ≤ ((s.arrive t).keep (Od.POWER_CMD p) 1).rd
    (Od.CONTRACT_STATE p) ∧ ((s.arrive t).keep (Od.POWER_CMD p) 1).rd (Od.CONTRACT_STATE p) ≤ 6) ∨ ((s.arrive t).keep (Od.POWER_CMD p) 1).rd
    (Reg.inForce p) = 1)) ∧ ((s.arrive t).keep (Od.POWER_CMD p) 1).rd (Od.POWER_STATE p) = 0) ∧
    (∃ (t : Stamp) (s : State) (p : Dn), (s.arrive t).Writable (Od.POWER_CMD p) 1 ∧ (¬ ((2 ≤ ((s.arrive t).keep (Od.POWER_CMD p) 1).rd
    (Od.CONTRACT_STATE p) ∧ ((s.arrive t).keep (Od.POWER_CMD p) 1).rd (Od.CONTRACT_STATE p) ≤ 6) ∨ ((s.arrive t).keep (Od.POWER_CMD p) 1).rd
    (Reg.inForce p) = 1)) ∧ ((s.arrive t).keep (Od.POWER_CMD p) 1).rd (Od.POWER_STATE p) = 1) ∧
    (∃ (t : Stamp) (s : State) (p : Dn), (s.arrive t).Writable (Od.POWER_CMD p) 1 ∧ (¬ ((2 ≤ ((s.arrive t).keep (Od.POWER_CMD p) 1).rd
    (Od.CONTRACT_STATE p) ∧ ((s.arrive t).keep (Od.POWER_CMD p) 1).rd (Od.CONTRACT_STATE p) ≤ 6) ∨ ((s.arrive t).keep (Od.POWER_CMD p) 1).rd
    (Reg.inForce p) = 1)) ∧ ((s.arrive t).keep (Od.POWER_CMD p) 1).rd (Od.POWER_STATE p) = 5) ∧
    (∃ (t : Stamp) (s : State) (p : Dn), (s.arrive t).Writable (Od.POWER_CMD p) 1 ∧ (¬ ((2 ≤ ((s.arrive t).keep (Od.POWER_CMD p) 1).rd
    (Od.CONTRACT_STATE p) ∧ ((s.arrive t).keep (Od.POWER_CMD p) 1).rd (Od.CONTRACT_STATE p) ≤ 6) ∨ ((s.arrive t).keep (Od.POWER_CMD p) 1).rd
    (Reg.inForce p) = 1)) ∧ ((s.arrive t).keep (Od.POWER_CMD p) 1).powered p = true) ∧
    (∃ (t : Stamp) (s : State) (p : Dn) (m : Sense), ((s.arrive t).sense p m).Writable (Od.POWER_CMD p) 2 ∧ (¬ ((((s.arrive t).sense p m).keep
    (Od.POWER_CMD p) 2).isSource p = true ∧ (((s.arrive t).sense p m).keep (Od.POWER_CMD p) 2).rd (Od.CONTRACT_STATE p) = 1 ∧ (((s.arrive t).sense p
    m).keep (Od.POWER_CMD p) 2).rd (Od.POWER_STATE p) = 0))) ∧
    (∃ (t : Stamp) (s : State) (p : Dn) (m : Sense), ((s.arrive t).sense p m).Writable (Od.POWER_CMD p) 2 ∧ (((((s.arrive t).sense p m).keep
    (Od.POWER_CMD p) 2).isSource p = true ∧ (((s.arrive t).sense p m).keep (Od.POWER_CMD p) 2).rd (Od.CONTRACT_STATE p) = 1 ∧ (((s.arrive t).sense p
    m).keep (Od.POWER_CMD p) 2).rd (Od.POWER_STATE p) = 0)) ∧ (((s.arrive t).sense p m).keep (Od.POWER_CMD p) 2).probedDevice p = false) ∧
    (∃ (t : Stamp) (s : State) (p : Dn) (m : Sense), ((s.arrive t).sense p m).Writable (Od.POWER_CMD p) 2 ∧ (((((s.arrive t).sense p m).keep
    (Od.POWER_CMD p) 2).isSource p = true ∧ (((s.arrive t).sense p m).keep (Od.POWER_CMD p) 2).rd (Od.CONTRACT_STATE p) = 1 ∧ (((s.arrive t).sense p
    m).keep (Od.POWER_CMD p) 2).rd (Od.POWER_STATE p) = 0)) ∧ (((s.arrive t).sense p m).keep (Od.POWER_CMD p) 2).probedDevice p = true ∧ (((((s.arrive
    t).sense p m).keep (Od.POWER_CMD p) 2).running (Tm.holdoff p) = true ∧ (((s.arrive t).sense p m).keep (Od.POWER_CMD p) 2).due (Tm.holdoff p) =
    false))) ∧
    (∃ (t : Stamp) (s : State) (p : Dn) (m : Sense), ((s.arrive t).sense p m).Writable (Od.POWER_CMD p) 2 ∧ (((((s.arrive t).sense p m).keep
    (Od.POWER_CMD p) 2).isSource p = true ∧ (((s.arrive t).sense p m).keep (Od.POWER_CMD p) 2).rd (Od.CONTRACT_STATE p) = 1 ∧ (((s.arrive t).sense p
    m).keep (Od.POWER_CMD p) 2).rd (Od.POWER_STATE p) = 0)) ∧ (((s.arrive t).sense p m).keep (Od.POWER_CMD p) 2).probedDevice p = true ∧ (¬
    ((((s.arrive t).sense p m).keep (Od.POWER_CMD p) 2).running (Tm.holdoff p) = true ∧ (((s.arrive t).sense p m).keep (Od.POWER_CMD p) 2).due
    (Tm.holdoff p) = false))) ∧
    (∃ (t : Stamp) (s : State) (p : Dn) (v : BitVec 16), (s.arrive t).Writable (Od.LIMIT_SET p) v.toNat) ∧
    (∃ (t : Stamp) (s : State) (g : Fin 4), hasBit (((s.arrive t).wrBit Reg.ocInput g true).rd Od.OC_GROUP_ENABLE) g = true ∧ hasBit (((s.arrive
    t).wrBit Reg.ocInput g true).rd Od.OC_GROUP_STATE) g = false) ∧
    (∃ (t : Stamp) (s : State) (g : Fin 4), hasBit (((s.arrive t).wrBit Reg.ocInput g true).rd Od.OC_GROUP_ENABLE) g = true ∧ hasBit (((s.arrive
    t).wrBit Reg.ocInput g true).rd Od.OC_GROUP_STATE) g = true) ∧
    (∃ (t : Stamp) (s : State) (g : Fin 4), hasBit (((s.arrive t).wrBit Reg.ocInput g true).rd Od.OC_GROUP_ENABLE) g = false) :=
  ⟨⟨1000000000000, st [((Tm.holdoff 3), 1)], 3, by decide +kernel⟩,
   ⟨1000000000000, st [], 3, by decide +kernel⟩,
   ⟨⟨0, 0, 0, 0, 0⟩, by decide +kernel⟩,
   ⟨⟨0, 0, 5000, 0, 0⟩, by decide +kernel⟩,
   ⟨⟨0, 0, 0, 0, 0⟩, by decide +kernel⟩,
   ⟨⟨0, 0, 5000, 0, 0⟩, by decide +kernel⟩,
   ⟨1000000000000, st [((Tm.discharge 3), 1)], 3, ⟨0, 0, 5000, 0, 0⟩, by decide +kernel⟩,
   ⟨1000000000000, st [((Tm.discharge 3), 1)], 3, ⟨0, 0, 0, 0, 0⟩, by decide +kernel⟩,
   ⟨1000000000000, st [], 3, ⟨0, 0, 0, 0, 0⟩, by decide +kernel⟩,
   ⟨1000000000000, 0, st [((Od.POWER_STATE 3), 2), ((Reg.trStep 3), 4)], 3, ⟨0, 0, 0, 0, 0⟩, by decide +kernel⟩,
   ⟨1000000000000, 0, st [((Od.CONTRACT_STATE 3), 6), ((Od.POWER_STATE 3), 2), ((Reg.trStep 3), 4)], 3, ⟨0, 0, 0, 0, 0⟩, by decide +kernel⟩,
   ⟨1000000000000, 0, st [], 3, ⟨0, 0, 0, 0, 0⟩, by decide +kernel⟩,
   ⟨1000000000000, st [(Od.CONTRACT_STATE 3, 2)], 3, by unfold Hub.Writable; decide +kernel⟩,
   ⟨1000000000000, st [((Od.POWER_STATE 3), 0)], 3, by unfold Hub.Writable; decide +kernel⟩,
   ⟨1000000000000, st [((Od.POWER_STATE 3), 1)], 3, by unfold Hub.Writable; decide +kernel⟩,
   ⟨1000000000000, st [((Od.POWER_STATE 3), 5)], 3, by unfold Hub.Writable; decide +kernel⟩,
   ⟨1000000000000, st [(Od.POWER_STATE 3, 3)], 3, by unfold Hub.Writable; decide +kernel⟩,
   ⟨1000000000000, st [], 3, ⟨0, 0, 0, 0, 0⟩, by unfold Hub.Writable; decide +kernel⟩,
   ⟨1000000000000, st [(Od.ATTACH_STATE 3, 4), ((Od.CONTRACT_STATE 3), 1), ((Od.POWER_STATE 3), 0)], 3, ⟨0, 0, 0, 0, 0⟩,
   by unfold Hub.Writable; decide +kernel⟩,
   ⟨1000000000000, st [(Od.ATTACH_STATE 3, 4), ((Od.CONTRACT_STATE 3), 1), ((Od.POWER_STATE 3), 0), ((Tm.holdoff 3), 10 ^ 15), (Od.PROBE_RESULT 3,
   1)], 3, ⟨0, 0, 0, 0, 0⟩, by unfold Hub.Writable; decide +kernel⟩,
   ⟨1000000000000, st [(Od.ATTACH_STATE 3, 4), ((Od.CONTRACT_STATE 3), 1), ((Od.POWER_STATE 3), 0), (Od.PROBE_RESULT 3, 1)], 3, ⟨0, 0, 0, 0, 0⟩,
   by unfold Hub.Writable; decide +kernel⟩,
   ⟨1000000000000, st [], 3, 0, by unfold Hub.Writable; decide +kernel⟩,
   ⟨1000000000000, st [(Od.OC_GROUP_ENABLE, 2 ^ 0)], 0, by decide +kernel⟩,
   ⟨1000000000000, st [(Od.OC_GROUP_ENABLE, 2 ^ 0), (Od.OC_GROUP_STATE, 2 ^ 0)], 0, by decide +kernel⟩,
   ⟨1000000000000, st [(Od.OC_GROUP_ENABLE, 0)], 0, by decide +kernel⟩⟩

/-- States and operands that meet the hypotheses of the statement ContractDeadlines, one for each clause. -/
theorem witness_ContractDeadlines :
    (∃ (t : Stamp) (s : State) (p : Cable), (s.arrive t).attached p = true) ∧
    (∃ (t : Stamp) (s : State) (p : Cable) (busy : Bool), (busy = true ∨ (s.arrive t).attached p = false)) ∧
    (∃ (t : Stamp) (s : State) (p : Cable) (ty : Byte) (de : Byte) (nd : Byte) (ob : BitVec 224), (s.arrive t).Writable (Od.CF_ANSWER p) (pack [(1,
    1), (1, ty.toNat), (1, de.toNat), (1, nd.toNat), (8, 0), (28, ob.toNat)])) ∧
    (∃ (t : Stamp) (s : State) (p : Cable) (ty : Byte) (de : Byte) (nd : Byte) (fb : Byte) (ref : Word) (ob : BitVec 224) (m : Sense), ((s.arrive
    t).sense p m).Writable (Od.CF_ANSWER p) (pack [(1, 2), (1, ty.toNat), (1, de.toNat), (1, nd.toNat), (4, ref.toNat), (1, fb.toNat), (3, 0), (28,
    ob.toNat)])) ∧
    (∃ (t : Stamp) (s : State) (p : Cable), (s.arrive t).Writable (Od.CF_ANSWER p) 3 ∧ ((s.arrive t).keep (Od.CF_ANSWER p) 3).attached p = true) ∧
    (∃ (t : Stamp) (s : State) (p : Cable), (s.arrive t).Writable (Od.CF_ANSWER p) 3 ∧ ((s.arrive t).keep (Od.CF_ANSWER p) 3).attached p = false) ∧
    (∃ (t : Stamp) (s : State) (p : Cable), ((s.arrive t).due (Tm.answer p) = true ∨ (s.arrive t).due (Tm.held p) = true)) ∧
    (∃ (t : Stamp) (s : State) (p : Cable), (s.arrive t).due (Tm.answer p) = false ∧ (s.arrive t).due (Tm.held p) = false) ∧
    (∃ (t : Stamp) (s : State) (p : Cable), (s.arrive t).due (Tm.firstCaps p) = true ∧ ((s.arrive t).wr (Tm.firstCaps p) 0).isSource p = true) ∧
    (∃ (t : Stamp) (s : State) (p : Cable), (s.arrive t).due (Tm.firstCaps p) = true ∧ ((s.arrive t).wr (Tm.firstCaps p) 0).isSource p = false) ∧
    (∃ (t : Stamp) (s : State) (p : Cable), (s.arrive t).due (Tm.firstCaps p) = false) ∧
    (∃ (t : Stamp) (s : State) (p : Cable), (s.arrive t).due (Tm.sinkRequest p) = true) ∧
    (∃ (t : Stamp) (s : State) (p : Cable) (busy : Bool), (busy = true ∨ (s.arrive t).due (Tm.sinkRequest p) = false)) ∧
    (∃ (t : Stamp) (s : State) (p : Cable), (s.arrive t).due (Tm.response p) = true ∧ ((s.arrive t).wr (Tm.response p) 0).rd (Reg.exOwn p) = 15) ∧
    (∃ (t : Stamp) (s : State) (p : Cable), (s.arrive t).due (Tm.response p) = true ∧ ((s.arrive t).wr (Tm.response p) 0).rd (Reg.exOwn p) = 0) ∧
    (∃ (t : Stamp) (s : State) (p : Cable), (s.arrive t).due (Tm.response p) = true ∧ ((s.arrive t).wr (Tm.response p) 0).rd (Reg.exOwn p) ≠ 0 ∧
    ((s.arrive t).wr (Tm.response p) 0).rd (Reg.exOwn p) ≠ 15) ∧
    (∃ (t : Stamp) (s : State) (p : Cable) (busy : Bool), (busy = true ∨ (s.arrive t).due (Tm.response p) = false)) ∧
    (∃ (t : Stamp) (s : State) (p : Cable), (s.arrive t).due (Tm.readyWait p) = true ∧ ((s.arrive t).wr (Tm.readyWait p) 0).rd (Reg.cfsSwap p) = 0 ∧
    ((s.arrive t).wr (Tm.readyWait p) 0).isSink p = true ∧ ((s.arrive t).wr (Tm.readyWait p) 0).rd (Od.CONTRACT_STATE p) = 4) ∧
    (∃ (t : Stamp) (s : State) (p : Cable), (s.arrive t).due (Tm.readyWait p) = true ∧ ((s.arrive t).wr (Tm.readyWait p) 0).rd (Reg.cfsSwap p) = 2) ∧
    (∃ (t : Stamp) (s : State) (p : Cable), (s.arrive t).due (Tm.readyWait p) = true ∧ ((s.arrive t).wr (Tm.readyWait p) 0).rd (Reg.cfsSwap p) = 1) ∧
    (∃ (t : Stamp) (s : State) (p : Cable) (busy : Bool), (busy = true ∨ (s.arrive t).due (Tm.readyWait p) = false)) :=
  ⟨⟨1000000000000, st [(Od.ATTACH_STATE 16, 4)], 16, by decide +kernel⟩,
   ⟨1000000000000, st [], 16, false, by decide +kernel⟩,
   ⟨1000000000000, st [], 16, 1, 0, 1, 0, by unfold Hub.Writable; decide +kernel⟩,
   ⟨1000000000000, st [], 16, 2, 0, 1, 0, 0, 0, ⟨0, 0, 0, 0, 0⟩, by unfold Hub.Writable; decide +kernel⟩,
   ⟨1000000000000, st [(Od.ATTACH_STATE 16, 4)], 16, by unfold Hub.Writable; decide +kernel⟩,
   ⟨1000000000000, st [], 16, by unfold Hub.Writable; decide +kernel⟩,
   ⟨1000000000000, st [((Tm.answer 16), 1)], 16, by decide +kernel⟩,
   ⟨1000000000000, st [], 16, by decide +kernel⟩,
   ⟨1000000000000, st [((Tm.firstCaps 16), 1), (Od.ATTACH_STATE 16, 4)], 16, by decide +kernel⟩,
   ⟨1000000000000, st [((Tm.firstCaps 16), 1)], 16, by decide +kernel⟩,
   ⟨1000000000000, st [], 16, by decide +kernel⟩,
   ⟨1000000000000, st [((Tm.sinkRequest 16), 1)], 16, by decide +kernel⟩,
   ⟨1000000000000, st [], 16, false, by decide +kernel⟩,
   ⟨1000000000000, st [((Tm.response 16), 1), ((Reg.exOwn 16), 15)], 16, by decide +kernel⟩,
   ⟨1000000000000, st [((Tm.response 16), 1), ((Reg.exOwn 16), 0)], 16, by decide +kernel⟩,
   ⟨1000000000000, st [((Tm.response 16), 1), ((Reg.exOwn 16), 1)], 16, by decide +kernel⟩,
   ⟨1000000000000, st [], 16, false, by decide +kernel⟩,
   ⟨1000000000000, st [((Tm.readyWait 16), 1), ((Reg.cfsSwap 16), 0), ((Od.CONTRACT_STATE 16), 4), (Od.ATTACH_STATE 16, 5)], 16, by decide +kernel⟩,
   ⟨1000000000000, st [((Tm.readyWait 16), 1), ((Reg.cfsSwap 16), 2)], 16, by decide +kernel⟩,
   ⟨1000000000000, st [((Tm.readyWait 16), 1), ((Reg.cfsSwap 16), 1)], 16, by decide +kernel⟩,
   ⟨1000000000000, st [], 16, false, by decide +kernel⟩⟩

/-- States and operands that meet the hypotheses of the statement RailMoves, one for each clause. -/
theorem witness_RailMoves :
    (∃ (t : Stamp) (s : State) (p : Dn) (m : Sense), (((s.arrive t).sense p m).inMove p = true ∧ ((s.arrive t).sense p m).rd (Reg.trStep p) = 3 ∧
    ((s.arrive t).sense p m).nearsRail p m.vbus.toNat = true)) ∧
    (∃ (t : Stamp) (s : State) (p : Dn) (m : Sense), ¬ (((s.arrive t).sense p m).inMove p = true ∧ ((s.arrive t).sense p m).rd (Reg.trStep p) = 3 ∧
    ((s.arrive t).sense p m).nearsRail p m.vbus.toNat = true)) ∧
    (∃ (t : Stamp) (since : Stamp) (s : State) (p : Dn) (m : Sense), ((((s.arrive t).sense p m).rd (Od.CONTRACT_STATE p) = 4 ∧ since + ms 4 ≤
    ((s.arrive t).sense p m).now)) ∧ ((s.arrive t).sense p m).rd (Reg.trStep p) = 4 ∧ 95 * (((s.arrive t).sense p m).railMv (((s.arrive t).sense p
    m).rd (Reg.trNewRail p))) ≤ 100 * m.vbus.toNat ∧ 100 * m.vbus.toNat ≤ 105 * (((s.arrive t).sense p m).railMv (((s.arrive t).sense p m).rd
    (Reg.trNewRail p)))) ∧
    (∃ (t : Stamp) (since : Stamp) (s : State) (p : Dn) (m : Sense), ((((s.arrive t).sense p m).rd (Od.CONTRACT_STATE p) = 4 ∧ since + ms 4 ≤
    ((s.arrive t).sense p m).now)) ∧ ((s.arrive t).sense p m).rd (Reg.trStep p) = 5 ∧ ((s.arrive t).sense p m).powered p = false) ∧
    (∃ (t : Stamp) (since : Stamp) (s : State) (p : Dn) (m : Sense), ¬ (((s.arrive t).sense p m).rd (Od.CONTRACT_STATE p) = 4 ∧ since + ms 4 ≤
    ((s.arrive t).sense p m).now)) ∧
    (∃ (t : Stamp) (since : Stamp) (s : State) (p : Dn) (m : Sense), ((s.arrive t).sense p m).guardFires m since = true ∧ ((s.arrive t).sense p
    m).inMove p = true) ∧
    (∃ (t : Stamp) (since : Stamp) (s : State) (p : Dn) (m : Sense), ((s.arrive t).sense p m).guardFires m since = true ∧ ((s.arrive t).sense p
    m).inMove p = false) ∧
    (∃ (t : Stamp) (since : Stamp) (s : State) (p : Dn) (m : Sense), ((s.arrive t).sense p m).guardFires m since = false) ∧
    (∃ (t : Stamp) (s : State) (p : Dn) (m : Sense), ((s.arrive t).sense p m).inMove p = true) ∧
    (∃ (t : Stamp) (s : State) (p : Dn) (m : Sense), ((s.arrive t).sense p m).inMove p = false) ∧
    (∃ (t : Stamp) (s : State) (p : Dn), (s.arrive t).rd (Reg.detachDone p) = 1) ∧
    (∃ (t : Stamp) (s : State) (p : Dn), (s.arrive t).rd (Reg.detachDone p) = 3) ∧
    (∃ (t : Stamp) (s : State) (p : Dn), (s.arrive t).rd (Reg.detachDone p) ≠ 1 ∧ (s.arrive t).rd (Reg.detachDone p) ≠ 3) ∧
    (∃ (t : Stamp) (s : State) (q : Cable) (m : Sense), ((s.arrive t).sense q m).due (Tm.srcRecover q) = true ∧ (¬ (q.val < 16 ∧ (((s.arrive t).sense
    q m).wr (Tm.srcRecover q) 0).isSource q = true ∧ 5000 ≤ m.vbus.toNat))) ∧
    (∃ (t : Stamp) (s : State) (q : Cable) (m : Sense), ((s.arrive t).sense q m).due (Tm.srcRecover q) = true ∧ ((q.val < 16 ∧ (((s.arrive t).sense q
    m).wr (Tm.srcRecover q) 0).isSource q = true ∧ 5000 ≤ m.vbus.toNat))) ∧
    (∃ (t : Stamp) (s : State) (q : Cable) (m : Sense), ((s.arrive t).sense q m).due (Tm.srcRecover q) = false) ∧
    (∃ (t : Stamp) (s : State), (s.arrive t).Live) :=
  ⟨⟨1000000000000, st [((Reg.trStep 3), 3), (Od.POWER_STATE 3, 2)], 3, ⟨0, 0, 0xFFFF, 0, 0⟩, by decide +kernel⟩,
   ⟨1000000000000, st [], 3, ⟨0, 0, 0, 0, 0⟩, by decide +kernel⟩,
   ⟨1000000000000, 0, st [((Reg.trStep 3), 4), ((Od.CONTRACT_STATE 3), 4)], 3, ⟨0, 0, 0, 0, 0⟩, by decide +kernel⟩,
   ⟨1000000000000, 0, st [((Reg.trStep 3), 5), ((Od.CONTRACT_STATE 3), 4)], 3, ⟨0, 0, 0, 0, 0⟩, by decide +kernel⟩,
   ⟨1000000000000, 0, st [], 3, ⟨0, 0, 0, 0, 0⟩, by decide +kernel⟩,
   ⟨1000000000000, 0, st [(Od.POWER_STATE 3, 4)], 3, ⟨0, 0, 0, 0, 0⟩, by decide +kernel⟩,
   ⟨1000000000000, 0, st [], 3, ⟨0, 0, 0, 0, 0⟩, by decide +kernel⟩,
   ⟨1000000000000, 1000000000000, st [(Od.POWER_STATE 3, 4)], 3, ⟨0, 0, 0, 0, 0⟩, by decide +kernel⟩,
   ⟨1000000000000, st [(Od.POWER_STATE 3, 4)], 3, ⟨0, 0, 0, 0, 0⟩, by decide +kernel⟩,
   ⟨1000000000000, st [], 3, ⟨0, 0, 0, 0, 0⟩, by decide +kernel⟩,
   ⟨1000000000000, st [((Reg.detachDone 3), 1)], 3, by decide +kernel⟩,
   ⟨1000000000000, st [((Reg.detachDone 3), 3)], 3, by decide +kernel⟩,
   ⟨1000000000000, st [], 3, by decide +kernel⟩,
   ⟨1000000000000, st [((Tm.srcRecover 16), 1)], 16, ⟨0, 0, 0, 0, 0⟩, by decide +kernel⟩,
   ⟨1000000000000, st [(Tm.srcRecover 3, 1), (Od.ATTACH_STATE 3, 4)], 3, ⟨0, 0, 5000, 0, 0⟩, by decide +kernel⟩,
   ⟨1000000000000, st [], 16, ⟨0, 0, 0, 0, 0⟩, by decide +kernel⟩,
   ⟨1000000000000, st [(Od.BOOT_STAGE, 9)], by unfold Hub.Live; decide +kernel⟩⟩

/-- States and operands that meet the hypotheses of the statement CableSupplyAndAlternates, one for each clause. -/
theorem witness_CableSupplyAndAlternates :
    (∃ (t : Stamp) (s : State) (p : Cable), (s.arrive t).rd (Od.CFS_STATE p) = 1) ∧
    (∃ (t : Stamp) (s : State) (p : Cable), (s.arrive t).rd (Od.CFS_STATE p) ≠ 1) ∧
    (∃ (t : Stamp) (s : State) (p : Cable), (s.arrive t).Writable (Od.CFS_RESTART p) 1 ∧ ((s.arrive t).keep (Od.CFS_RESTART p) 1).rd (Od.CFS_STATE p)
    = 3 ∧ (((s.arrive t).keep (Od.CFS_RESTART p) 1).wr (Od.CFS_STATE p) 0).cfsOurs p = true) ∧
    (∃ (t : Stamp) (s : State) (p : Cable), (s.arrive t).Writable (Od.CFS_RESTART p) 1 ∧ ((s.arrive t).keep (Od.CFS_RESTART p) 1).rd (Od.CFS_STATE p)
    = 3 ∧ (((s.arrive t).keep (Od.CFS_RESTART p) 1).wr (Od.CFS_STATE p) 0).cfsOurs p = false) ∧
    (∃ (t : Stamp) (s : State) (p : Cable), (s.arrive t).Writable (Od.CFS_RESTART p) 1 ∧ ((s.arrive t).keep (Od.CFS_RESTART p) 1).rd (Od.CFS_STATE p)
    ≠ 3) ∧
    (∃ (t : Stamp) (s : State) (p : Cable) (v : Byte), (s.arrive t).Writable (Od.CFS_ENABLE p) v.toNat ∧ v.toNat = 0) ∧
    (∃ (t : Stamp) (s : State) (p : Cable) (v : Byte), (s.arrive t).Writable (Od.CFS_ENABLE p) v.toNat ∧ v.toNat ≠ 0) ∧
    (∃ (t : Stamp) (s : State) (p : Cable), (s.arrive t).due (Tm.cfsStable p) = true ∧ ((((s.arrive t).wr (Tm.cfsStable p) 0).rd (Reg.cfsSwap p) = 1 ∧
    ((s.arrive t).wr (Tm.cfsStable p) 0).rd (Od.CFS_STATE p) = 1))) ∧
    (∃ (t : Stamp) (s : State) (p : Cable), (s.arrive t).due (Tm.cfsStable p) = true ∧ (¬ (((s.arrive t).wr (Tm.cfsStable p) 0).rd (Reg.cfsSwap p) = 1
    ∧ ((s.arrive t).wr (Tm.cfsStable p) 0).rd (Od.CFS_STATE p) = 1))) ∧
    (∃ (t : Stamp) (s : State) (p : Cable), (s.arrive t).due (Tm.cfsStable p) = false) ∧
    (∃ (t : Stamp) (s : State) (n : Dn), (s.arrive t).rd (Od.ALT_STATE n) = 1 ∧ (s.arrive t).switchOn = true) ∧
    (∃ (t : Stamp) (s : State) (n : Dn), ((s.arrive t).rd (Od.ALT_STATE n) ≠ 1 ∨ (s.arrive t).switchOn = false)) ∧
    (∃ (t : Stamp) (s : State) (n : Dn) (f : Frame) (k : Copy), (s.arrive t).rd (Od.ALT_STATE n) = 1 ∧ (s.arrive t).phyOn n = true ∧ (s.arrive
    t).nextCopy n false = some (f, k)) ∧
    (∃ (t : Stamp) (s : State) (n : Dn), ((s.arrive t).rd (Od.ALT_STATE n) ≠ 1 ∨ (s.arrive t).phyOn n = false ∨ (s.arrive t).nextCopy n false = none)) ∧
    (∃ (t : Stamp) (s : State) (n : Dn) (tr : BitVec 16384), (s.arrive t).rd (Od.ALT_STATE n) = 2 ∧ bits (((s.arrive t).wr (Od.TDR_TRACE n) (tr.toNat
    % 256 ^ 2048)).rd (Reg.altParams n)) 16 15 ≠ 1) ∧
    (∃ (t : Stamp) (s : State) (n : Dn) (tr : BitVec 16384), (s.arrive t).rd (Od.ALT_STATE n) = 2 ∧ bits (((s.arrive t).wr (Od.TDR_TRACE n) (tr.toNat
    % 256 ^ 2048)).rd (Reg.altParams n)) 16 15 = 1) ∧
    (∃ (t : Stamp) (s : State) (n : Dn), (s.arrive t).rd (Od.ALT_STATE n) ≠ 2) :=
  ⟨⟨1000000000000, st [((Od.CFS_STATE 16), 1)], 16, by decide +kernel⟩,
   ⟨1000000000000, st [], 16, by decide +kernel⟩,
   ⟨1000000000000, st [((Od.CFS_STATE 16), 3), (Od.ATTACH_STATE 16, 4)], 16, by unfold Hub.Writable; decide +kernel⟩,
   ⟨1000000000000, st [((Od.CFS_STATE 16), 3)], 16, by unfold Hub.Writable; decide +kernel⟩,
   ⟨1000000000000, st [], 16, by unfold Hub.Writable; decide +kernel⟩,
   ⟨1000000000000, st [], 16, 0, by unfold Hub.Writable; decide +kernel⟩,
   ⟨1000000000000, st [], 16, 1, by unfold Hub.Writable; decide +kernel⟩,
   ⟨1000000000000, st [((Tm.cfsStable 16), 1), ((Reg.cfsSwap 16), 1), ((Od.CFS_STATE 16), 1)], 16, by decide +kernel⟩,
   ⟨1000000000000, st [((Tm.cfsStable 16), 1)], 16, by decide +kernel⟩,
   ⟨1000000000000, st [], 16, by decide +kernel⟩,
   ⟨1000000000000, st [((Od.ALT_STATE 3), 1)], 3, by decide +kernel⟩,
   ⟨1000000000000, st [], 3, by decide +kernel⟩,
   ⟨1000000000000, { st [((Od.ALT_STATE 3), 1)] with frames := [aFrame [aCopy 3 false]] }, 3, (aFrame [aCopy 3 false]), (aCopy 3 false),
   by decide +kernel⟩,
   ⟨1000000000000, st [], 3, by decide +kernel⟩,
   ⟨1000000000000, st [((Od.ALT_STATE 3), 2)], 3, 0, by decide +kernel⟩,
   ⟨1000000000000, st [((Od.ALT_STATE 3), 2), (Reg.altParams 3, (2 ^ 15))], 3, 0, by decide +kernel⟩,
   ⟨1000000000000, st [], 3, by decide +kernel⟩⟩

/-- States and operands that meet the hypotheses of the statement LinkComesUp, one for each clause. -/
theorem witness_LinkComesUp :
    (∃ (t : Stamp) (s : State) (p : Cable) (d : Bool), (s.arrive t).upstreamEnd p = true ∧ (s.arrive t).phyOn p = true ∧ ((((s.arrive t).wr
    (Reg.pullSeen p) (if d then 2 else 1)).rd (Od.PORT_STATE p) = 2 ∧ ((s.arrive t).wr (Reg.pullSeen p) (if d then 2 else 1)).rd (Od.LINK_STATE p) =
    0))) ∧
    (∃ (t : Stamp) (s : State) (p : Cable) (d : Bool), (s.arrive t).upstreamEnd p = true ∧ (s.arrive t).phyOn p = true ∧ (¬ (((s.arrive t).wr
    (Reg.pullSeen p) (if d then 2 else 1)).rd (Od.PORT_STATE p) = 2 ∧ ((s.arrive t).wr (Reg.pullSeen p) (if d then 2 else 1)).rd (Od.LINK_STATE p) =
    0))) ∧
    (∃ (t : Stamp) (s : State) (p : Cable), ((s.arrive t).upstreamEnd p = false ∨ (s.arrive t).phyOn p = false)) ∧
    (∃ (t : Stamp) (s : State) (p : Cable), (s.arrive t).rd (Od.LINK_STATE p) ≤ 1 ∧ (s.arrive t).upstreamEnd p = true) ∧
    (∃ (t : Stamp) (s : State) (p : Cable), (1 < (s.arrive t).rd (Od.LINK_STATE p) ∨ (s.arrive t).upstreamEnd p = false)) ∧
    (∃ (t : Stamp) (s : State) (p : Cable), (s.arrive t).due (Tm.connect p) = true ∧ ((((s.arrive t).wr (Tm.connect p) 0).rd (Od.PORT_STATE p) = 2 ∧
    ((s.arrive t).wr (Tm.connect p) 0).rd (Od.LINK_STATE p) = 1 ∧ ((s.arrive t).wr (Tm.connect p) 0).phyOn p = true))) ∧
    (∃ (t : Stamp) (s : State) (p : Cable), (s.arrive t).due (Tm.connect p) = true ∧ (¬ (((s.arrive t).wr (Tm.connect p) 0).rd (Od.PORT_STATE p) = 2 ∧
    ((s.arrive t).wr (Tm.connect p) 0).rd (Od.LINK_STATE p) = 1 ∧ ((s.arrive t).wr (Tm.connect p) 0).phyOn p = true))) ∧
    (∃ (t : Stamp) (s : State) (p : Cable), (s.arrive t).due (Tm.connect p) = false) ∧
    (∃ (t : Stamp) (s : State) (p : Cable), (s.arrive t).due (Tm.se0 p) = true ∧ ((s.arrive t).wr (Tm.se0 p) 0).rd (Od.LINK_STATE p) = 2) ∧
    (∃ (t : Stamp) (s : State) (p : Cable), (s.arrive t).due (Tm.se0 p) = true ∧ ((s.arrive t).wr (Tm.se0 p) 0).rd (Od.LINK_STATE p) ≠ 2) ∧
    (∃ (t : Stamp) (s : State) (p : Cable), (s.arrive t).due (Tm.se0 p) = false) ∧
    (∃ (t : Stamp) (s : State) (p : Cable) (ts : Bool), (s.arrive t).running (Tm.offer p) = true ∧ (s.arrive t).rd (Od.LINK_STATE p) = 2 ∧ ((s.arrive
    t).grantFor p (if ts then 4 else 3)) = 3) ∧
    (∃ (t : Stamp) (s : State) (p : Cable) (ts : Bool), (s.arrive t).running (Tm.offer p) = true ∧ (s.arrive t).rd (Od.LINK_STATE p) = 2 ∧ ((s.arrive
    t).grantFor p (if ts then 4 else 3)) = 4) ∧
    (∃ (t : Stamp) (s : State) (p : Cable) (ts : Bool), ((s.arrive t).running (Tm.offer p) = false ∨ (s.arrive t).rd (Od.LINK_STATE p) ≠ 2 ∨
    ((s.arrive t).grantFor p (if ts then 4 else 3)) = 0)) ∧
    (∃ (p : Cable) (h : Hub) (o : Nat), h.rd (Reg.pullSeen p) ≠ 2 ∧ h.rd (Reg.trainCap p) ≠ 1 ∧ 3 ≤ min o (h.rd (Od.CLASS_MAX p))) ∧
    (∃ (t : Stamp) (s : State) (p : Cable), (s.arrive t).due (Tm.offer p) = true ∧ ((s.arrive t).wr (Tm.offer p) 0).rd (Od.LINK_STATE p) = 2) ∧
    (∃ (t : Stamp) (s : State) (p : Cable), (s.arrive t).due (Tm.offer p) = true ∧ ((s.arrive t).wr (Tm.offer p) 0).rd (Od.LINK_STATE p) ≠ 2) ∧
    (∃ (t : Stamp) (s : State) (p : Cable), (s.arrive t).due (Tm.offer p) = false) ∧
    (∃ (t : Stamp) (s : State) (p : Cable), ((s.arrive t).downstreamEnd p = true ∧ (s.arrive t).rd (Od.LINK_STATE p) = 2)) ∧
    (∃ (t : Stamp) (s : State) (p : Cable), ((s.arrive t).downstreamEnd p = true ∧ (s.arrive t).rd (Od.LINK_STATE p) = 2)) ∧
    (∃ (t : Stamp) (s : State) (p : Cable) (n : Nat), (¬ ((s.arrive t).downstreamEnd p = true ∧ (s.arrive t).rd (Od.LINK_STATE p) = 2) ∨ (n ≠ 6 ∧ n ≠
    10))) ∧
    (∃ (t : Stamp) (s : State) (p : Cable), (((s.arrive t).downstreamEnd p = true ∧ (s.arrive t).rd (Od.LINK_STATE p) = 2) ∧ 3 ≤ (s.arrive t).rd
    (Od.CLASS_MAX p) ∧ 16 ≤ p.val ∧ (s.arrive t).fabricPort p = false)) ∧
    (∃ (t : Stamp) (s : State) (p : Cable), ¬ (((s.arrive t).downstreamEnd p = true ∧ (s.arrive t).rd (Od.LINK_STATE p) = 2) ∧ 3 ≤ (s.arrive t).rd
    (Od.CLASS_MAX p) ∧ 16 ≤ p.val ∧ (s.arrive t).fabricPort p = false)) :=
  ⟨⟨1000000000000, st [(Od.ATTACH_STATE 16, 4), ((Od.PORT_STATE 16), 2), ((Od.LINK_STATE 16), 0)], 16, false, by decide +kernel⟩,
   ⟨1000000000000, st [(Od.ATTACH_STATE 16, 4)], 16, false, by decide +kernel⟩,
   ⟨1000000000000, st [], 16, by decide +kernel⟩,
   ⟨1000000000000, st [(Od.ATTACH_STATE 16, 4)], 16, by decide +kernel⟩,
   ⟨1000000000000, st [], 16, by decide +kernel⟩,
   ⟨1000000000000, st [((Tm.connect 16), 1), ((Od.PORT_STATE 16), 2), ((Od.LINK_STATE 16), 1)], 16, by decide +kernel⟩,
   ⟨1000000000000, st [((Tm.connect 16), 1)], 16, by decide +kernel⟩,
   ⟨1000000000000, st [], 16, by decide +kernel⟩,
   ⟨1000000000000, st [((Tm.se0 16), 1), ((Od.LINK_STATE 16), 2)], 16, by decide +kernel⟩,
   ⟨1000000000000, st [((Tm.se0 16), 1)], 16, by decide +kernel⟩,
   ⟨1000000000000, st [], 16, by decide +kernel⟩,
   ⟨1000000000000, st [((Tm.offer 16), 10 ^ 15), ((Od.LINK_STATE 16), 2)], 16, false, by decide +kernel⟩,
   ⟨1000000000000, st [((Tm.offer 16), 10 ^ 15), ((Od.LINK_STATE 16), 2), (Od.ATTACH_STATE 16, 5), (Reg.pullSeen 16, 1), (Od.CLASS_MAX 16, 4)], 16,
   true, by decide +kernel⟩,
   ⟨1000000000000, st [((Tm.offer 16), 0)], 16, false, by decide +kernel⟩,
   ⟨16, (st []).toHub, 4, by decide +kernel⟩,
   ⟨1000000000000, st [((Tm.offer 16), 1), ((Od.LINK_STATE 16), 2)], 16, by decide +kernel⟩,
   ⟨1000000000000, st [((Tm.offer 16), 1)], 16, by decide +kernel⟩,
   ⟨1000000000000, st [], 16, by decide +kernel⟩,
   ⟨1000000000000, st [(Od.ATTACH_STATE 16, 5), ((Od.LINK_STATE 16), 2)], 16, by decide +kernel⟩,
   ⟨1000000000000, st [(Od.ATTACH_STATE 16, 5), ((Od.LINK_STATE 16), 2)], 16, by decide +kernel⟩,
   ⟨1000000000000, st [], 16, 0, by decide +kernel⟩,
   ⟨1000000000000, st [(Od.ATTACH_STATE 16, 5), ((Od.LINK_STATE 16), 2), ((Od.CLASS_MAX 16), 3)], 16, by decide +kernel⟩,
   ⟨1000000000000, st [], 16, by decide +kernel⟩⟩

/-- States and operands that meet the hypotheses of the statement Training, one for each clause. -/
theorem witness_Training :
    (∃ (t : Stamp) (s : State) (p : Cable), (((s.arrive t).running (Tm.train p) = true ∧ ((s.arrive t).rd (Od.LINK_STATE p) = 3 ∨ (s.arrive t).rd
    (Od.LINK_STATE p) = 6))) ∧ (((s.arrive t).stop (Tm.noSymbol p)).emit (.train p 2)).upstreamEnd p = true) ∧
    (∃ (t : Stamp) (s : State) (p : Cable), (((s.arrive t).running (Tm.train p) = true ∧ ((s.arrive t).rd (Od.LINK_STATE p) = 3 ∨ (s.arrive t).rd
    (Od.LINK_STATE p) = 6))) ∧ (((s.arrive t).stop (Tm.noSymbol p)).emit (.train p 2)).upstreamEnd p = false) ∧
    (∃ (t : Stamp) (s : State) (p : Cable), (((s.arrive t).running (Tm.train p) = true ∧ ((s.arrive t).rd (Od.LINK_STATE p) = 3 ∨ (s.arrive t).rd
    (Od.LINK_STATE p) = 6))) ∧ (¬ ((s.arrive t).rd (Reg.retrain p) = 1 ∧ (if ((((s.arrive t).wr (Od.LINK_CLASS p) 4).judgeReach p).linkTo p
    4).upstreamEnd p = true ∧ ((((s.arrive t).wr (Od.LINK_CLASS p) 4).judgeReach p).linkTo p 4).rd (Od.PORT_STATE p) = 4 then ((((s.arrive t).wr
    (Od.LINK_CLASS p) 4).judgeReach p).linkTo p 4).arm (Tm.enumStart p) (ms 10) else ((((s.arrive t).wr (Od.LINK_CLASS p) 4).judgeReach p).linkTo p
    4)).upstreamEnd p = true ∧ 16 ≤ p.val ∧ (if ((((s.arrive t).wr (Od.LINK_CLASS p) 4).judgeReach p).linkTo p 4).upstreamEnd p = true ∧ ((((s.arrive
    t).wr (Od.LINK_CLASS p) 4).judgeReach p).linkTo p 4).rd (Od.PORT_STATE p) = 4 then ((((s.arrive t).wr (Od.LINK_CLASS p) 4).judgeReach p).linkTo p
    4).arm (Tm.enumStart p) (ms 10) else ((((s.arrive t).wr (Od.LINK_CLASS p) 4).judgeReach p).linkTo p 4)).rd Od.TRUNK_ENC ≠ 0))) ∧
    (∃ (t : Stamp) (s : State) (p : Cable), (((s.arrive t).running (Tm.train p) = true ∧ ((s.arrive t).rd (Od.LINK_STATE p) = 3 ∨ (s.arrive t).rd
    (Od.LINK_STATE p) = 6))) ∧ (((s.arrive t).rd (Reg.retrain p) = 1 ∧ (if ((((s.arrive t).wr (Od.LINK_CLASS p) 4).judgeReach p).linkTo p
    4).upstreamEnd p = true ∧ ((((s.arrive t).wr (Od.LINK_CLASS p) 4).judgeReach p).linkTo p 4).rd (Od.PORT_STATE p) = 4 then ((((s.arrive t).wr
    (Od.LINK_CLASS p) 4).judgeReach p).linkTo p 4).arm (Tm.enumStart p) (ms 10) else ((((s.arrive t).wr (Od.LINK_CLASS p) 4).judgeReach p).linkTo p
    4)).upstreamEnd p = true ∧ 16 ≤ p.val ∧ (if ((((s.arrive t).wr (Od.LINK_CLASS p) 4).judgeReach p).linkTo p 4).upstreamEnd p = true ∧ ((((s.arrive
    t).wr (Od.LINK_CLASS p) 4).judgeReach p).linkTo p 4).rd (Od.PORT_STATE p) = 4 then ((((s.arrive t).wr (Od.LINK_CLASS p) 4).judgeReach p).linkTo p
    4).arm (Tm.enumStart p) (ms 10) else ((((s.arrive t).wr (Od.LINK_CLASS p) 4).judgeReach p).linkTo p 4)).rd Od.TRUNK_ENC ≠ 0))) ∧
    (∃ (t : Stamp) (s : State) (p : Cable), ¬ ((s.arrive t).running (Tm.train p) = true ∧ ((s.arrive t).rd (Od.LINK_STATE p) = 3 ∨ (s.arrive t).rd
    (Od.LINK_STATE p) = 6))) ∧
    (∃ (t : Stamp) (s : State) (p : Cable), (s.arrive t).due (Tm.train p) = true ∧ (((s.arrive t).wr (Tm.train p) 0).rd (Od.LINK_STATE p)) = 3 ∧
    ((s.arrive t).wr (Tm.train p) 0).downstreamEnd p = true) ∧
    (∃ (t : Stamp) (s : State) (p : Cable), (s.arrive t).due (Tm.train p) = true ∧ (((s.arrive t).wr (Tm.train p) 0).rd (Od.LINK_STATE p)) = 6 ∧
    ((s.arrive t).wr (Tm.train p) 0).downstreamEnd p = true) ∧
    (∃ (t : Stamp) (s : State) (p : Cable), (s.arrive t).due (Tm.train p) = true ∧ (((((s.arrive t).wr (Tm.train p) 0).rd (Od.LINK_STATE p)) = 3 ∨
    (((s.arrive t).wr (Tm.train p) 0).rd (Od.LINK_STATE p)) = 6)) ∧ ((s.arrive t).wr (Tm.train p) 0).downstreamEnd p = false ∧ (¬ (((s.arrive t).wr
    (Tm.train p) 0).rd (Od.PORT_STATE p) = 3 ∨ ((s.arrive t).wr (Tm.train p) 0).rd (Od.PORT_STATE p) = 8)) ∧ ((s.arrive t).wr (Tm.train p) 0).rd
    (Reg.retrain p) ≠ 1) ∧
    (∃ (t : Stamp) (s : State) (p : Cable), (s.arrive t).due (Tm.train p) = true ∧ (((((s.arrive t).wr (Tm.train p) 0).rd (Od.LINK_STATE p)) = 3 ∨
    (((s.arrive t).wr (Tm.train p) 0).rd (Od.LINK_STATE p)) = 6)) ∧ ((s.arrive t).wr (Tm.train p) 0).downstreamEnd p = false ∧ (¬ (((s.arrive t).wr
    (Tm.train p) 0).rd (Od.PORT_STATE p) = 3 ∨ ((s.arrive t).wr (Tm.train p) 0).rd (Od.PORT_STATE p) = 8)) ∧ ((s.arrive t).wr (Tm.train p) 0).rd
    (Reg.retrain p) = 1) ∧
    (∃ (t : Stamp) (s : State) (p : Cable), (s.arrive t).due (Tm.train p) = true ∧ ((((((s.arrive t).wr (Tm.train p) 0).rd (Od.LINK_STATE p)) ≠ 3 ∧
    (((s.arrive t).wr (Tm.train p) 0).rd (Od.LINK_STATE p)) ≠ 6) ∨ (((s.arrive t).wr (Tm.train p) 0).downstreamEnd p = false ∧ (((s.arrive t).wr
    (Tm.train p) 0).rd (Od.PORT_STATE p) = 3 ∨ ((s.arrive t).wr (Tm.train p) 0).rd (Od.PORT_STATE p) = 8))))) ∧
    (∃ (t : Stamp) (s : State) (p : Cable), (s.arrive t).due (Tm.train p) = false) ∧
    (∃ (t : Stamp) (s : State) (u : Trunk), (s.arrive t).due (Tm.noSymbol u.port) = true ∧ ((s.arrive t).wr (Tm.noSymbol u.port) 0).downstreamEnd
    u.port = true ∧ ((s.arrive t).wr (Tm.noSymbol u.port) 0).rd (Od.LINK_STATE u.port) = 3) ∧
    (∃ (t : Stamp) (s : State) (u : Trunk), (s.arrive t).due (Tm.noSymbol u.port) = true ∧ ((((s.arrive t).wr (Tm.noSymbol u.port) 0).downstreamEnd
    u.port = false ∨ ((s.arrive t).wr (Tm.noSymbol u.port) 0).rd (Od.LINK_STATE u.port) ≠ 3))) ∧
    (∃ (t : Stamp) (s : State) (u : Trunk), (s.arrive t).due (Tm.noSymbol u.port) = false) ∧
    (∃ (t : Stamp) (s : State) (u : Trunk), (s.arrive t).trunkActive u.port = true) ∧
    (∃ (t : Stamp) (s : State) (u : Trunk), (s.arrive t).trunkActive u.port = false) :=
  ⟨⟨1000000000000, st [(Od.ATTACH_STATE 16, 4), ((Tm.train 16), 10 ^ 15), ((Od.LINK_STATE 16), 3)], 16, by decide +kernel⟩,
   ⟨1000000000000, st [((Tm.train 16), 10 ^ 15), ((Od.LINK_STATE 16), 3)], 16, by decide +kernel⟩,
   ⟨1000000000000, st [((Tm.train 16), 10 ^ 15), ((Od.LINK_STATE 16), 3)], 16, by decide +kernel⟩,
   ⟨1000000000000, st [((Tm.train 16), 10 ^ 15), ((Od.LINK_STATE 16), 3), ((Reg.retrain 16), 1), (Od.ATTACH_STATE 16, 4), (Od.TRUNK_ENC, 1)], 16,
   by decide +kernel⟩,
   ⟨1000000000000, st [], 16, by decide +kernel⟩,
   ⟨1000000000000, st [((Tm.train 16), 1), (Od.ATTACH_STATE 16, 5), (Od.LINK_STATE 16, 3)], 16, by decide +kernel⟩,
   ⟨1000000000000, st [((Tm.train 16), 1), (Od.ATTACH_STATE 16, 5), (Od.LINK_STATE 16, 6)], 16, by decide +kernel⟩,
   ⟨1000000000000, st [((Tm.train 16), 1), (Od.LINK_STATE 16, 3), (Od.ATTACH_STATE 16, 4)], 16, by decide +kernel⟩,
   ⟨1000000000000, st [((Tm.train 16), 1), ((Reg.retrain 16), 1), (Od.LINK_STATE 16, 3), (Od.ATTACH_STATE 16, 4)], 16, by decide +kernel⟩,
   ⟨1000000000000, st [((Tm.train 16), 1)], 16, by decide +kernel⟩,
   ⟨1000000000000, st [], 16, by decide +kernel⟩,
   ⟨1000000000000, st [((Tm.noSymbol (16 + 0)), 1), (Od.ATTACH_STATE (16 + 0), 5), ((Od.LINK_STATE (16 + 0)), 3)], 0, by decide +kernel⟩,
   ⟨1000000000000, st [((Tm.noSymbol (16 + 0)), 1)], 0, by decide +kernel⟩,
   ⟨1000000000000, st [], 0, by decide +kernel⟩,
   ⟨1000000000000, st [(Od.LINK_CLASS (16 + 0), 4), (Od.LINK_STATE (16 + 0), 4)], 0, by decide +kernel⟩,
   ⟨1000000000000, st [], 0, by decide +kernel⟩⟩

/-- States and operands that meet the hypotheses of the statement ResetSeen, one for each clause. -/
theorem witness_ResetSeen :
    (∃ (t : Stamp) (s : State) (p : Cable), (s.arrive t).downstreamEnd p = true ∧ (s.arrive t).rd Od.CONTROL_UPSTREAM ≠ p.val) ∧
    (∃ (t : Stamp) (s : State) (p : Cable), (s.arrive t).downstreamEnd p = true ∧ (s.arrive t).rd Od.CONTROL_UPSTREAM = p.val) ∧
    (∃ (t : Stamp) (s : State) (p : Cable), (s.arrive t).downstreamEnd p = false) ∧
    (∃ (t : Stamp) (s : State) (u : Trunk), (s.arrive t).rd (Od.LINK_CLASS u.port) = 4 ∧ (s.arrive t).downstreamEnd u.port = true ∧ (s.arrive t).rd
    Od.CONTROL_UPSTREAM ≠ u.port) ∧
    (∃ (t : Stamp) (s : State) (u : Trunk), (s.arrive t).rd (Od.LINK_CLASS u.port) = 4 ∧ (s.arrive t).downstreamEnd u.port = true ∧ (s.arrive t).rd
    Od.CONTROL_UPSTREAM = u.port) ∧
    (∃ (t : Stamp) (s : State) (u : Trunk), ((s.arrive t).rd (Od.LINK_CLASS u.port) ≠ 4 ∨ (s.arrive t).downstreamEnd u.port = false)) ∧
    (∃ (p : Cable) (h : Hub), h.rd (Reg.pullApplied p) ≠ 1) :=
  ⟨⟨1000000000000, st [(Od.ATTACH_STATE 16, 5)], 16, by decide +kernel⟩,
   ⟨1000000000000, st [(Od.ATTACH_STATE 16, 5), (Od.CONTROL_UPSTREAM, 16)], 16, by decide +kernel⟩,
   ⟨1000000000000, st [], 16, by decide +kernel⟩,
   ⟨1000000000000, st [((Od.LINK_CLASS (16 + 0)), 4), (Od.ATTACH_STATE (16 + 0), 5)], 0, by decide +kernel⟩,
   ⟨1000000000000, st [((Od.LINK_CLASS (16 + 0)), 4), (Od.ATTACH_STATE (16 + 0), 5), (Od.CONTROL_UPSTREAM, 16)], 0, by decide +kernel⟩,
   ⟨1000000000000, st [], 0, by decide +kernel⟩,
   ⟨16, (st []).toHub, by decide +kernel⟩⟩

/-- States and operands that meet the hypotheses of the statement TimingGrid, one for each clause. -/
theorem witness_TimingGrid :
    (∃ (t : Stamp) (s : State) (p : Cable), (((s.arrive t).upstreamEnd p = true ∧ (s.arrive t).phyOn p = true ∧ (((s.arrive t).rd (Od.PORT_STATE p)) =
    4 ∨ ((s.arrive t).rd (Od.PORT_STATE p)) = 5 ∨ ((s.arrive t).rd (Od.PORT_STATE p)) = 7) ∧ (s.arrive t).sofTime p ((s.arrive t).rd (Od.LINK_CLASS p)
    == 3 || ((s.arrive t).rd (Od.LINK_STATE p) == 2 && (s.arrive t).rd (Reg.grant p) == 3)) = true)) ∧ (((s.arrive t).wr (Reg.lastSof p) ((s.arrive
    t).gridTime / 125000 + 1)).sofOpens p).rd (Od.LINK_STATE p) = 4 ∧ (¬ (((s.arrive t).rd (Od.PORT_STATE p)) = 5 ∧ (((s.arrive t).wr (Reg.lastSof p)
    ((s.arrive t).gridTime / 125000 + 1)).sofOpens p).rd (Reg.suspendDue p) ≠ 0 ∧ (((s.arrive t).wr (Reg.lastSof p) ((s.arrive t).gridTime / 125000 +
    1)).sofOpens p).onWire p = none ∧ (((s.arrive t).wr (Reg.lastSof p) ((s.arrive t).gridTime / 125000 + 1)).sofOpens p).slotsBusy p = false))) ∧
    (∃ (t : Stamp) (s : State) (p : Cable), (((s.arrive t).upstreamEnd p = true ∧ (s.arrive t).phyOn p = true ∧ (((s.arrive t).rd (Od.PORT_STATE p)) =
    4 ∨ ((s.arrive t).rd (Od.PORT_STATE p)) = 5 ∨ ((s.arrive t).rd (Od.PORT_STATE p)) = 7) ∧ (s.arrive t).sofTime p ((s.arrive t).rd (Od.LINK_CLASS p)
    == 3 || ((s.arrive t).rd (Od.LINK_STATE p) == 2 && (s.arrive t).rd (Reg.grant p) == 3)) = true)) ∧ (((s.arrive t).wr (Reg.lastSof p) ((s.arrive
    t).gridTime / 125000 + 1)).sofOpens p).rd (Od.LINK_STATE p) = 4 ∧ ((((s.arrive t).rd (Od.PORT_STATE p)) = 5 ∧ (((s.arrive t).wr (Reg.lastSof p)
    ((s.arrive t).gridTime / 125000 + 1)).sofOpens p).rd (Reg.suspendDue p) ≠ 0 ∧ (((s.arrive t).wr (Reg.lastSof p) ((s.arrive t).gridTime / 125000 +
    1)).sofOpens p).onWire p = none ∧ (((s.arrive t).wr (Reg.lastSof p) ((s.arrive t).gridTime / 125000 + 1)).sofOpens p).slotsBusy p = false))) ∧
    (∃ (t : Stamp) (s : State) (p : Cable), (((s.arrive t).upstreamEnd p = true ∧ (s.arrive t).phyOn p = true ∧ (((s.arrive t).rd (Od.PORT_STATE p)) =
    4 ∨ ((s.arrive t).rd (Od.PORT_STATE p)) = 5 ∨ ((s.arrive t).rd (Od.PORT_STATE p)) = 7) ∧ (s.arrive t).sofTime p ((s.arrive t).rd (Od.LINK_CLASS p)
    == 3 || ((s.arrive t).rd (Od.LINK_STATE p) == 2 && (s.arrive t).rd (Reg.grant p) == 3)) = true)) ∧ (((s.arrive t).wr (Reg.lastSof p) ((s.arrive
    t).gridTime / 125000 + 1)).sofOpens p).rd (Od.LINK_STATE p) ≠ 4) ∧
    (∃ (t : Stamp) (s : State) (p : Cable), ¬ ((s.arrive t).upstreamEnd p = true ∧ (s.arrive t).phyOn p = true ∧ (((s.arrive t).rd (Od.PORT_STATE p))
    = 4 ∨ ((s.arrive t).rd (Od.PORT_STATE p)) = 5 ∨ ((s.arrive t).rd (Od.PORT_STATE p)) = 7) ∧ (s.arrive t).sofTime p ((s.arrive t).rd (Od.LINK_CLASS
    p) == 3 || ((s.arrive t).rd (Od.LINK_STATE p) == 2 && (s.arrive t).rd (Reg.grant p) == 3)) = true)) ∧
    (∃ (p : Cable) (h : Hub), h.rd (Reg.lastSof p) = h.gridTime / 125000 + 1) ∧
    (∃ (h : Hub), h.isOn 5 = false) ∧
    (∃ (t : Stamp) (s : State) (p : Cable) (f : LineFault), (((s.arrive t).downstreamEnd p = true ∧ (s.arrive t).phyOn p = true ∧ (((s.arrive t).rd
    (Od.LINK_STATE p)) = 2 ∨ ((s.arrive t).rd (Od.LINK_STATE p)) = 4 ∨ ((s.arrive t).rd (Od.LINK_STATE p)) = 6))) ∧ f ≠ .good) ∧
    (∃ (t : Stamp) (s : State) (p : Cable) (body : BitVec 96), (((s.arrive t).downstreamEnd p = true ∧ (s.arrive t).phyOn p = true ∧ (((s.arrive t).rd
    (Od.LINK_STATE p)) = 2 ∨ ((s.arrive t).rd (Od.LINK_STATE p)) = 4 ∨ ((s.arrive t).rd (Od.LINK_STATE p)) = 6))) ∧ hasBit body.toNat 15 = false) ∧
    (∃ (t : Stamp) (s : State) (p : Cable) (body : BitVec 96), (((s.arrive t).downstreamEnd p = true ∧ (s.arrive t).phyOn p = true ∧ (((s.arrive t).rd
    (Od.LINK_STATE p)) = 2 ∨ ((s.arrive t).rd (Od.LINK_STATE p)) = 4 ∨ ((s.arrive t).rd (Od.LINK_STATE p)) = 6))) ∧ hasBit body.toNat 15 = true ∧
    (bits body.toNat 95 80) = 0xFFFF) ∧
    (∃ (t : Stamp) (s : State) (p : Cable) (body : BitVec 96), (((s.arrive t).downstreamEnd p = true ∧ (s.arrive t).phyOn p = true ∧ (((s.arrive t).rd
    (Od.LINK_STATE p)) = 2 ∨ ((s.arrive t).rd (Od.LINK_STATE p)) = 4 ∨ ((s.arrive t).rd (Od.LINK_STATE p)) = 6))) ∧ hasBit body.toNat 15 = true ∧
    (bits body.toNat 95 80) ≠ 0xFFFF) ∧
    (∃ (t : Stamp) (s : State) (p : Cable), ¬ ((s.arrive t).downstreamEnd p = true ∧ (s.arrive t).phyOn p = true ∧ (((s.arrive t).rd (Od.LINK_STATE
    p)) = 2 ∨ ((s.arrive t).rd (Od.LINK_STATE p)) = 4 ∨ ((s.arrive t).rd (Od.LINK_STATE p)) = 6))) :=
  ⟨⟨1000000000000, st [((Od.LINK_STATE 16), 4), (Od.ATTACH_STATE 16, 4), (Od.PORT_STATE 16, 5)], 16, by decide +kernel⟩,
   ⟨1000000000000, st [((Od.LINK_STATE 16), 4), (Od.ATTACH_STATE 16, 4), ((Reg.suspendDue 16), 1), (Od.PORT_STATE 16, 5)], 16, by decide +kernel⟩,
   ⟨1000000000000, st [(Od.ATTACH_STATE 16, 4), (Od.PORT_STATE 16, 5)], 16, by decide +kernel⟩,
   ⟨1000000000000, st [], 16, by decide +kernel⟩,
   ⟨16, { (st []).toHub with cells := [(Reg.lastSof 16, 1)] }, by decide +kernel⟩,
   ⟨(st [(Od.DOMAIN_RECORD 5, 0)]).toHub, by decide +kernel⟩,
   ⟨1000000000000, st [(Od.ATTACH_STATE 16, 5), (Od.LINK_STATE 16, 4)], 16, .crc, by decide +kernel⟩,
   ⟨1000000000000, st [(Od.ATTACH_STATE 16, 5), (Od.LINK_STATE 16, 4)], 16, 0, by decide +kernel⟩,
   ⟨1000000000000, st [(Od.ATTACH_STATE 16, 5), (Od.LINK_STATE 16, 4)], 16, (0xFFFF * 2 ^ 80 + 2 ^ 15), by decide +kernel⟩,
   ⟨1000000000000, st [(Od.ATTACH_STATE 16, 5), (Od.LINK_STATE 16, 4)], 16, (2 ^ 15), by decide +kernel⟩,
   ⟨1000000000000, st [], 16, by decide +kernel⟩⟩

/-- States and operands that meet the hypotheses of the statement TokensAndData, one for each clause. -/
theorem witness_TokensAndData :
    (∃ (t : Stamp) (s : State) (p : Cable) (f : LineFault), (s.arrive t).answersOn p = true ∧ f ≠ .good) ∧
    (∃ (t : Stamp) (s : State) (p : Cable) (d : Byte) (time : Bool) (k : Token), (s.arrive t).answersOn p = true ∧ ((d.toNat = 255 ∨ (time = true ∧ k
    ≠ .ping)))) ∧
    (∃ (t : Stamp) (s : State) (p : Cable) (d : Byte) (time : Bool) (k : Token), (s.arrive t).answersOn p = true ∧ d.toNat ≠ (s.arrive t).rd
    (Reg.myAddr p) ∧ d.toNat ≠ 255 ∧ ((time = false ∨ k = .ping))) ∧
    (∃ (t : Stamp) (s : State) (p : Cable) (d : Byte), (s.arrive t).answersOn p = true ∧ ((d.toNat = (s.arrive t).rd (Reg.myAddr p) ∧ d.toNat ≠ 255))) ∧
    (∃ (t : Stamp) (s : State) (p : Cable) (d : Byte), (s.arrive t).answersOn p = true ∧ ((d.toNat = (s.arrive t).rd (Reg.myAddr p) ∧ d.toNat ≠ 255))
    ∧ (((s.arrive t).heardPackets p 1).clear [Reg.outToken p, Reg.inEp p, Reg.splitAck p]).controlOf p = none) ∧
    (∃ (t : Stamp) (s : State) (p : Cable) (d : Byte), (s.arrive t).answersOn p = true ∧ ((d.toNat = (s.arrive t).rd (Reg.myAddr p) ∧ d.toNat ≠ 255))
    ∧ (((s.arrive t).heardPackets p 1).clear [Reg.outToken p, Reg.inEp p, Reg.splitAck p]).rd Od.EP1_IN_HALT ≠ 0) ∧
    (∃ (t : Stamp) (s : State) (p : Cable) (d : Byte), (s.arrive t).answersOn p = true ∧ ((d.toNat = (s.arrive t).rd (Reg.myAddr p) ∧ d.toNat ≠ 255))
    ∧ (((s.arrive t).heardPackets p 1).clear [Reg.outToken p, Reg.inEp p, Reg.splitAck p]).rd Od.EP1_IN_HALT = 0 ∧ (((s.arrive t).heardPackets p
    1).clear [Reg.outToken p, Reg.inEp p, Reg.splitAck p]).fabricPort p = false ∧ (((s.arrive t).heardPackets p 1).clear [Reg.outToken p, Reg.inEp p,
    Reg.splitAck p]).begunCopy p = none) ∧
    (∃ (t : Stamp) (s : State) (p : Cable) (d : Byte), (s.arrive t).answersOn p = true ∧ ((d.toNat = (s.arrive t).rd (Reg.myAddr p) ∧ d.toNat ≠ 255))
    ∧ (((s.arrive t).heardPackets p 1).clear [Reg.outToken p, Reg.inEp p, Reg.splitAck p]).rd Od.EP1_IN_HALT = 0 ∧ (((s.arrive t).heardPackets p
    1).clear [Reg.outToken p, Reg.inEp p, Reg.splitAck p]).fabricPort p = true) ∧
    (∃ (t : Stamp) (s : State) (p : Cable) (d : Byte), (s.arrive t).answersOn p = true ∧ ((d.toNat = (s.arrive t).rd (Reg.myAddr p) ∧ d.toNat ≠ 255))
    ∧ (((s.arrive t).heardPackets p 1).clear [Reg.outToken p, Reg.inEp p, Reg.splitAck p]).rd Od.EP1_OUT_HALT ≠ 0) ∧
    (∃ (t : Stamp) (s : State) (p : Cable) (d : Byte), (s.arrive t).answersOn p = true ∧ ((d.toNat = (s.arrive t).rd (Reg.myAddr p) ∧ d.toNat ≠ 255))
    ∧ (((s.arrive t).heardPackets p 1).clear [Reg.outToken p, Reg.inEp p, Reg.splitAck p]).rd Od.EP1_OUT_HALT = 0) ∧
    (∃ (t : Stamp) (s : State) (p : Cable) (d : Byte), (s.arrive t).answersOn p = true ∧ ((d.toNat = (s.arrive t).rd (Reg.myAddr p) ∧ d.toNat ≠ 255))) ∧
    (∃ (t : Stamp) (s : State) (p : Cable), (s.arrive t).answersOn p = true) ∧
    (∃ (t : Stamp) (s : State) (p : Cable), (s.arrive t).answersOn p = true ∧ (s.arrive t).rd (Reg.outToken p) = 1) ∧
    (∃ (t : Stamp) (s : State) (p : Cable), (s.arrive t).answersOn p = true ∧ (s.arrive t).rd (Reg.outToken p) = 2) ∧
    (∃ (t : Stamp) (s : State) (p : Cable), (s.arrive t).answersOn p = true ∧ (s.arrive t).rd (Reg.outToken p) ≠ 1 ∧ (s.arrive t).rd (Reg.outToken p)
    ≠ 2) :=
  ⟨⟨1000000000000, st [(Od.ATTACH_STATE 16, 5), (Od.LINK_STATE 16, 4)], 16, .crc, by decide +kernel⟩,
   ⟨1000000000000, st [(Od.ATTACH_STATE 16, 5), (Od.LINK_STATE 16, 4)], 16, 255, false, .in_, by decide +kernel⟩,
   ⟨1000000000000, st [(Od.ATTACH_STATE 16, 5), (Od.LINK_STATE 16, 4)], 16, 1, false, .in_, by decide +kernel⟩,
   ⟨1000000000000, st [(Od.ATTACH_STATE 16, 5), (Od.LINK_STATE 16, 4)], 16, 0, by decide +kernel⟩,
   ⟨1000000000000, st [(Od.ATTACH_STATE 16, 5), (Od.LINK_STATE 16, 4)], 16, 0, by decide +kernel⟩,
   ⟨1000000000000, st [(Od.ATTACH_STATE 16, 5), (Od.LINK_STATE 16, 4), (Od.EP1_IN_HALT, 1)], 16, 0, by decide +kernel⟩,
   ⟨1000000000000, st [(Od.ATTACH_STATE 16, 5), (Od.LINK_STATE 16, 4), (Od.EP1_IN_HALT, 0)], 16, 0, by decide +kernel⟩,
   ⟨1000000000000, st [(Od.ATTACH_STATE 16, 5), (Od.LINK_STATE 16, 4), (Od.EP1_IN_HALT, 0), (Od.HUB_ROLE_ACTIVE, 2), (Od.FABRIC_PORTS, 65536)], 16, 0,
   by decide +kernel⟩,
   ⟨1000000000000, st [(Od.ATTACH_STATE 16, 5), (Od.LINK_STATE 16, 4), (Od.EP1_OUT_HALT, 1)], 16, 0, by decide +kernel⟩,
   ⟨1000000000000, st [(Od.ATTACH_STATE 16, 5), (Od.LINK_STATE 16, 4), (Od.EP1_OUT_HALT, 0)], 16, 0, by decide +kernel⟩,
   ⟨1000000000000, st [(Od.ATTACH_STATE 16, 5), (Od.LINK_STATE 16, 4)], 16, 0, by decide +kernel⟩,
   ⟨1000000000000, st [(Od.ATTACH_STATE 16, 5), (Od.LINK_STATE 16, 4)], 16, by decide +kernel⟩,
   ⟨1000000000000, st [(Od.ATTACH_STATE 16, 5), (Od.LINK_STATE 16, 4), ((Reg.outToken 16), 1)], 16, by decide +kernel⟩,
   ⟨1000000000000, st [(Od.ATTACH_STATE 16, 5), (Od.LINK_STATE 16, 4), ((Reg.outToken 16), 2)], 16, by decide +kernel⟩,
   ⟨1000000000000, st [(Od.ATTACH_STATE 16, 5), (Od.LINK_STATE 16, 4)], 16, by decide +kernel⟩⟩

/-- States and operands that meet the hypotheses of the statement Handshakes, one for each clause. -/
theorem witness_Handshakes :
    (∃ (t : Stamp) (s : State) (p : Cable) (f : LineFault), (s.arrive t).answersOn p = true ∧ f ≠ .good) ∧
    (∃ (t : Stamp) (s : State) (p : Cable) (d : Byte), (s.arrive t).answersOn p = true ∧ d.toNat = 255) ∧
    (∃ (t : Stamp) (s : State) (p : Cable) (d : Byte), (s.arrive t).answersOn p = true ∧ d.toNat ≠ 255 ∧ d.toNat ≠ (s.arrive t).rd (Reg.myAddr p)) ∧
    (∃ (t : Stamp) (s : State) (p : Cable) (d : Byte) (r : BitVec 64), (((s.arrive t).answersOn p = true ∧ d.toNat ≠ 255 ∧ d.toNat = (s.arrive t).rd
    (Reg.myAddr p))) ∧ ((2 ≤ (Hub.suKind r.toNat) ∨ (1016 < Hub.suLen r.toNat) ∨ ((Hub.suKind r.toNat) = 0 ∧ Hub.standardOk r.toNat = false) ∨
    ((Hub.suKind r.toNat) = 1 ∧ ((((((((s.arrive t).heardPackets p 2).endControl p).wr (Reg.myE p 0) 1).wr (Reg.mySend p 0) 0).clear [Reg.outToken p,
    Reg.inEp p, Reg.splitAck p]).emit (.handshake p 9 1)).fabricPort p = true ∨ p.val < 16 ∨ Hub.odDirOk r.toNat = false))))) ∧
    (∃ (t : Stamp) (s : State) (p : Cable) (d : Byte) (r : BitVec 64), (((s.arrive t).answersOn p = true ∧ d.toNat ≠ 255 ∧ d.toNat = (s.arrive t).rd
    (Reg.myAddr p))) ∧ (Hub.suKind r.toNat) = 0 ∧ ¬ (1016 < Hub.suLen r.toNat) ∧ Hub.standardOk r.toNat = true) ∧
    (∃ (t : Stamp) (s : State) (p : Cable) (d : Byte) (r : BitVec 64), (((s.arrive t).answersOn p = true ∧ d.toNat ≠ 255 ∧ d.toNat = (s.arrive t).rd
    (Reg.myAddr p))) ∧ (((Hub.suKind r.toNat) = 1 ∧ ¬ (1016 < Hub.suLen r.toNat) ∧ (((((((s.arrive t).heardPackets p 2).endControl p).wr (Reg.myE p 0)
    1).wr (Reg.mySend p 0) 0).clear [Reg.outToken p, Reg.inEp p, Reg.splitAck p]).emit (.handshake p 9 1)).fabricPort p = false ∧ 16 ≤ p.val ∧
    Hub.odDirOk r.toNat = true)) ∧ ((Hub.suIn r.toNat = true ∨ Hub.suLen r.toNat = 0 ∨ (((((((s.arrive t).heardPackets p 2).endControl p).wr (Reg.myE
    p 0) 1).wr (Reg.mySend p 0) 0).clear [Reg.outToken p, Reg.inEp p, Reg.splitAck p]).emit (.handshake p 9 1)).haltedFor p (Hub.suReq r.toNat)
    (Hub.suIndex r.toNat) (Hub.suValue r.toNat) = true))) ∧
    (∃ (t : Stamp) (s : State) (p : Cable) (d : Byte) (r : BitVec 64), (((s.arrive t).answersOn p = true ∧ d.toNat ≠ 255 ∧ d.toNat = (s.arrive t).rd
    (Reg.myAddr p))) ∧ (((Hub.suKind r.toNat) = 1 ∧ ¬ (1016 < Hub.suLen r.toNat) ∧ (((((((s.arrive t).heardPackets p 2).endControl p).wr (Reg.myE p 0)
    1).wr (Reg.mySend p 0) 0).clear [Reg.outToken p, Reg.inEp p, Reg.splitAck p]).emit (.handshake p 9 1)).fabricPort p = false ∧ 16 ≤ p.val ∧
    Hub.odDirOk r.toNat = true)) ∧ (¬ (Hub.suIn r.toNat = true ∨ Hub.suLen r.toNat = 0 ∨ (((((((s.arrive t).heardPackets p 2).endControl p).wr
    (Reg.myE p 0) 1).wr (Reg.mySend p 0) 0).clear [Reg.outToken p, Reg.inEp p, Reg.splitAck p]).emit (.handshake p 9 1)).haltedFor p (Hub.suReq
    r.toNat) (Hub.suIndex r.toNat) (Hub.suValue r.toNat) = true))) ∧
    (∃ (t : Stamp) (s : State) (p : Cable), (s.arrive t).answersOn p = false) ∧
    (∃ (t : Stamp) (s : State) (p : Cable), ¬ ((s.arrive t).rd (Od.LINK_STATE p) = 4 ∧ (s.arrive t).rd (Od.LINK_CLASS p) ≠ 4 ∧ (s.arrive t).phyOn p =
    true)) ∧
    (∃ (t : Stamp) (s : State) (p : Cable) (f : LineFault), (((s.arrive t).rd (Od.LINK_STATE p) = 4 ∧ (s.arrive t).rd (Od.LINK_CLASS p) ≠ 4 ∧
    (s.arrive t).phyOn p = true)) ∧ f ≠ .good) ∧
    (∃ (t : Stamp) (s : State) (p : Cable) (k : Handshake) (n : Fin 16) (e : Option Nat) (x : Txn) (y : TxnResult), ((((s.arrive t).rd (Od.LINK_STATE
    p) = 4 ∧ (s.arrive t).rd (Od.LINK_CLASS p) ≠ 4 ∧ (s.arrive t).phyOn p = true) ∧ ((s.arrive t).heardPackets p 1).downstreamEnd p = false ∧
    ((s.arrive t).heardPackets p 1).onWire p = some x ∧ x.result = none)) ∧ ((s.arrive t).heardPackets p 1).handshakeResult x k n = some y ∧ ((x.kind
    ≠ .timePing ∨ k ≠ .ack ∨ e = none))) ∧
    (∃ (t : Stamp) (s : State) (p : Cable) (x : Txn), ((((s.arrive t).rd (Od.LINK_STATE p) = 4 ∧ (s.arrive t).rd (Od.LINK_CLASS p) ≠ 4 ∧ (s.arrive
    t).phyOn p = true) ∧ ((s.arrive t).heardPackets p 1).downstreamEnd p = false ∧ ((s.arrive t).heardPackets p 1).onWire p = some x ∧ x.result =
    none)) ∧ x.kind = .timePing ∧ x.isIn = false) ∧
    (∃ (t : Stamp) (s : State) (p : Cable) (k : Handshake) (n : Fin 16) (x : Txn), ((((s.arrive t).rd (Od.LINK_STATE p) = 4 ∧ (s.arrive t).rd
    (Od.LINK_CLASS p) ≠ 4 ∧ (s.arrive t).phyOn p = true) ∧ ((s.arrive t).heardPackets p 1).downstreamEnd p = false ∧ ((s.arrive t).heardPackets p
    1).onWire p = some x ∧ x.result = none)) ∧ ((s.arrive t).heardPackets p 1).handshakeResult x k n = none) ∧
    (∃ (t : Stamp) (s : State) (p : Cable), (((s.arrive t).rd (Od.LINK_STATE p) = 4 ∧ (s.arrive t).rd (Od.LINK_CLASS p) ≠ 4 ∧ (s.arrive t).phyOn p =
    true)) ∧ ((s.arrive t).heardPackets p 1).downstreamEnd p = true ∧ ((s.arrive t).heardPackets p 1).rd (Reg.splitAck p) ≠ 0) ∧
    (∃ (t : Stamp) (s : State) (p : Cable) (n : Fin 16), (((s.arrive t).rd (Od.LINK_STATE p) = 4 ∧ (s.arrive t).rd (Od.LINK_CLASS p) ≠ 4 ∧ (s.arrive
    t).phyOn p = true)) ∧ ((s.arrive t).heardPackets p 1).downstreamEnd p = true ∧ ((s.arrive t).heardPackets p 1).rd (Reg.splitAck p) = 0 ∧
    ((s.arrive t).heardPackets p 1).rd (Reg.inEp p) ≠ 0 ∧ (ackedOf (((s.arrive t).heardPackets p 1).rd (Reg.mySend p (((s.arrive t).heardPackets p
    1).rd (Reg.inEp p) - 1))) n) ≤ ((s.arrive t).heardPackets p 1).rd (Reg.myOut p (((s.arrive t).heardPackets p 1).rd (Reg.inEp p) - 1))) ∧
    (∃ (t : Stamp) (s : State) (p : Cable), (s.arrive t).due (Tm.linkResp p) = true ∧ (s.arrive t).answersOn p = true) ∧
    (∃ (t : Stamp) (s : State) (p : Cable) (x : Txn), (s.arrive t).due (Tm.linkResp p) = true ∧ (s.arrive t).answersOn p = false ∧ (s.arrive t).onWire
    p = some x ∧ x.result = none ∧ x.tries < 3) ∧
    (∃ (t : Stamp) (s : State) (p : Cable) (x : Txn), (s.arrive t).due (Tm.linkResp p) = true ∧ (s.arrive t).answersOn p = false ∧ (s.arrive t).onWire
    p = some x ∧ x.result = none ∧ 3 ≤ x.tries) ∧
    (∃ (t : Stamp) (s : State) (p : Cable), (s.arrive t).due (Tm.linkResp p) = false) ∧
    (∃ (t : Stamp) (s : State) (p : Cable), (s.arrive t).rd (Reg.burstAck p) ≠ 0) ∧
    (∃ (t : Stamp) (s : State) (p : Cable), (s.arrive t).rd (Reg.burstAck p) = 0) :=
  ⟨⟨1000000000000, st [(Od.ATTACH_STATE 16, 5), (Od.LINK_STATE 16, 4)], 16, .crc, by decide +kernel⟩,
   ⟨1000000000000, st [(Od.ATTACH_STATE 16, 5), (Od.LINK_STATE 16, 4)], 16, 255, by decide +kernel⟩,
   ⟨1000000000000, st [(Od.ATTACH_STATE 16, 5), (Od.LINK_STATE 16, 4)], 16, 1, by decide +kernel⟩,
   ⟨1000000000000, st [(Od.ATTACH_STATE 16, 5), (Od.LINK_STATE 16, 4)], 16, 0, 0, by decide +kernel⟩,
   ⟨1000000000000, st [(Od.ATTACH_STATE 16, 5), (Od.LINK_STATE 16, 4)], 16, 0, 0x680, by decide +kernel⟩,
   ⟨1000000000000, st [(Od.ATTACH_STATE 16, 5), (Od.LINK_STATE 16, 4)], 16, 0, 0x20, by decide +kernel⟩,
   ⟨1000000000000, st [(Od.ATTACH_STATE 16, 5), (Od.LINK_STATE 16, 4)], 16, 0, (0x20 + 2 ^ 48), by decide +kernel⟩,
   ⟨1000000000000, st [], 16, by decide +kernel⟩,
   ⟨1000000000000, st [], 16, by decide +kernel⟩,
   ⟨1000000000000, st [((Od.LINK_STATE 16), 4)], 16, .crc, by decide +kernel⟩,
   ⟨1000000000000, { st [((Od.LINK_STATE 16), 4)] with txns := [(aTxn 16)] }, 16, .nak, 0, none, (aTxn 16), (.nak 0), by decide +kernel⟩,
   ⟨1000000000000, { st [((Od.LINK_STATE 16), 4)] with txns := [{ aTxn 16 with kind := .timePing }] }, 16, { aTxn 16 with kind := .timePing },
   by decide +kernel⟩,
   ⟨1000000000000, { st [((Od.LINK_STATE 16), 4)] with txns := [{ aTxn 16 with isIn := true }] }, 16, .ack, 0, { aTxn 16 with isIn := true },
   by decide +kernel⟩,
   ⟨1000000000000, st [(Od.ATTACH_STATE 16, 5), ((Reg.splitAck 16), 1), ((Od.LINK_STATE 16), 4)], 16, by decide +kernel⟩,
   ⟨1000000000000, st [(Od.ATTACH_STATE 16, 5), ((Reg.splitAck 16), 0), ((Reg.inEp 16), 1), ((Od.LINK_STATE 16), 4)], 16, 0, by decide +kernel⟩,
   ⟨1000000000000, st [((Tm.linkResp 16), 1), (Od.ATTACH_STATE 16, 5), (Od.LINK_STATE 16, 4)], 16, by decide +kernel⟩,
   ⟨1000000000000, { st [((Tm.linkResp 16), 1)] with txns := [(aTxn 16)] }, 16, (aTxn 16), by decide +kernel⟩,
   ⟨1000000000000, { st [((Tm.linkResp 16), 1)] with txns := [{ aTxn 16 with tries := 3 }] }, 16, { aTxn 16 with tries := 3 }, by decide +kernel⟩,
   ⟨1000000000000, st [], 16, by decide +kernel⟩,
   ⟨1000000000000, st [((Reg.burstAck 16), 1)], 16, by decide +kernel⟩,
   ⟨1000000000000, st [((Reg.burstAck 16), 0)], 16, by decide +kernel⟩⟩

/-- States and operands that meet the hypotheses of the statement StandardRequests, one for each clause. -/
theorem witness_StandardRequests :
    (∃ (t : Stamp) (s : State) (p : Cable) (i : BitVec 16) (k : Nat), (s.arrive t).answersOn p = true ∧ Hub.haltKey i.toNat = some k) ∧
    (∃ (t : Stamp) (s : State) (p : Cable) (i : BitVec 16), (s.arrive t).answersOn p = true ∧ Hub.haltKey i.toNat = none) ∧
    (∃ (t : Stamp) (s : State) (p : Cable), (s.arrive t).answersOn p = false) ∧
    (∃ (t : Stamp) (s : State) (p : Cable) (i : BitVec 16) (k : Nat), (((s.arrive t).answersOn p = true ∧ Hub.haltKey i.toNat = some k ∧ (s.arrive
    t).haltCause i.toNat = 0)) ∧ (i.toNat % 16) = 0) ∧
    (∃ (t : Stamp) (s : State) (p : Cable) (i : BitVec 16) (k : Nat), (((s.arrive t).answersOn p = true ∧ Hub.haltKey i.toNat = some k ∧ (s.arrive
    t).haltCause i.toNat = 0)) ∧ (i.toNat % 16) ≠ 0 ∧ hasBit i.toNat 7 = true) ∧
    (∃ (t : Stamp) (s : State) (p : Cable) (i : BitVec 16) (k : Nat), (((s.arrive t).answersOn p = true ∧ Hub.haltKey i.toNat = some k ∧ (s.arrive
    t).haltCause i.toNat = 0)) ∧ (i.toNat % 16) ≠ 0 ∧ hasBit i.toNat 7 = false) ∧
    (∃ (t : Stamp) (s : State) (p : Cable) (i : BitVec 16), (s.arrive t).answersOn p = true ∧ ((Hub.haltKey i.toNat = none ∨ (s.arrive t).haltCause
    i.toNat ≠ 0))) ∧
    (∃ (t : Stamp) (s : State) (p : Cable), (s.arrive t).answersOn p = false) ∧
    (∃ (t : Stamp) (s : State) (p : Cable) (i : BitVec 16), (s.arrive t).answersOn p = true ∧ 1 ≤ i.toNat ∧ i.toNat ≤ 254) ∧
    (∃ (t : Stamp) (s : State) (p : Cable) (i : BitVec 16), (s.arrive t).answersOn p = true ∧ ((i.toNat = 0 ∨ 254 < i.toNat))) ∧
    (∃ (t : Stamp) (s : State) (p : Cable), (s.arrive t).answersOn p = false) ∧
    (∃ (t : Stamp) (s : State) (p : Cable), (s.arrive t).answersOn p = true) ∧
    (∃ (t : Stamp) (s : State) (p : Cable), (s.arrive t).answersOn p = false) ∧
    (∃ (t : Stamp) (s : State) (u : Trunk) (tag : BitVec 16) (r : StoredResponse), (s.arrive t).trunkActive u.port = true ∧ (s.arrive t).storedOf
    u.port 0 tag.toNat = some r ∧ r.result ≠ 2) ∧
    (∃ (t : Stamp) (s : State) (u : Trunk) (tag : BitVec 16) (r : StoredResponse), (s.arrive t).trunkActive u.port = true ∧ (s.arrive t).storedOf
    u.port 0 tag.toNat = some r ∧ r.result = 2) ∧
    (∃ (t : Stamp) (s : State) (u : Trunk) (tag : BitVec 16) (len : Nat) (data : Nat), (((s.arrive t).trunkActive u.port = true ∧ (s.arrive
    t).storedOf u.port 0 tag.toNat = none)) ∧ ((len < 8 ∨ 2 ≤ Hub.suKind ((data % 256 ^ len) % 2 ^ 64) ∨ 1016 < Hub.suLen ((data % 256 ^ len) % 2 ^
    64) ∨ len - 8 ≠ (if Hub.suIn ((data % 256 ^ len) % 2 ^ 64) then 0 else Hub.suLen ((data % 256 ^ len) % 2 ^ 64))))) ∧
    (∃ (t : Stamp) (s : State) (u : Trunk) (tag : BitVec 16) (len : Nat) (data : Nat), (((s.arrive t).trunkActive u.port = true ∧ (s.arrive
    t).storedOf u.port 0 tag.toNat = none)) ∧ (¬ (len < 8 ∨ 2 ≤ Hub.suKind ((data % 256 ^ len) % 2 ^ 64) ∨ 1016 < Hub.suLen ((data % 256 ^ len) % 2 ^
    64) ∨ len - 8 ≠ (if Hub.suIn ((data % 256 ^ len) % 2 ^ 64) then 0 else Hub.suLen ((data % 256 ^ len) % 2 ^ 64)))) ∧ Hub.suKind ((data % 256 ^ len)
    % 2 ^ 64) = 0) ∧
    (∃ (t : Stamp) (s : State) (u : Trunk) (tag : BitVec 16) (len : Nat) (data : Nat), (((s.arrive t).trunkActive u.port = true ∧ (s.arrive
    t).storedOf u.port 0 tag.toNat = none)) ∧ (¬ (len < 8 ∨ 2 ≤ Hub.suKind ((data % 256 ^ len) % 2 ^ 64) ∨ 1016 < Hub.suLen ((data % 256 ^ len) % 2 ^
    64) ∨ len - 8 ≠ (if Hub.suIn ((data % 256 ^ len) % 2 ^ 64) then 0 else Hub.suLen ((data % 256 ^ len) % 2 ^ 64)))) ∧ Hub.suKind ((data % 256 ^ len)
    % 2 ^ 64) = 1 ∧ Hub.odDirOk ((data % 256 ^ len) % 2 ^ 64) = false) ∧
    (∃ (t : Stamp) (s : State) (u : Trunk) (tag : BitVec 16) (len : Nat) (data : Nat), (((s.arrive t).trunkActive u.port = true ∧ (s.arrive
    t).storedOf u.port 0 tag.toNat = none)) ∧ (¬ (len < 8 ∨ 2 ≤ Hub.suKind ((data % 256 ^ len) % 2 ^ 64) ∨ 1016 < Hub.suLen ((data % 256 ^ len) % 2 ^
    64) ∨ len - 8 ≠ (if Hub.suIn ((data % 256 ^ len) % 2 ^ 64) then 0 else Hub.suLen ((data % 256 ^ len) % 2 ^ 64)))) ∧ Hub.suKind ((data % 256 ^ len)
    % 2 ^ 64) = 1 ∧ Hub.odDirOk ((data % 256 ^ len) % 2 ^ 64) = true) ∧
    (∃ (t : Stamp) (s : State) (u : Trunk), (s.arrive t).trunkActive u.port = false) ∧
    (∃ (t : Stamp) (s : State), (s.arrive t).flintOn = true ∧ (s.arrive t).rd Od.HUB_ID_ASSIGNED = 1) ∧
    (∃ (t : Stamp) (s : State), ((s.arrive t).flintOn = false ∨ (s.arrive t).rd Od.HUB_ID_ASSIGNED ≠ 1)) ∧
    (∃ (t : Stamp) (s : State) (u : Trunk) (tag : BitVec 16) (x : Txn), (s.arrive t).trunkActive u.port = true ∧ (((s.arrive t).txnOf u.port).filter
    (fun y => y.first == tag.toNat && y.result.isNone)) = some x) ∧
    (∃ (t : Stamp) (s : State) (u : Trunk) (tag : BitVec 16) (x : Txn), (s.arrive t).trunkActive u.port = true ∧ (((s.arrive t).txnOf u.port).filter
    (fun y => y.first == tag.toNat && y.result.isNone)) = some x ∧ x.kind = .identify) ∧
    (∃ (t : Stamp) (s : State) (u : Trunk) (tag : BitVec 16) (x : Txn), (s.arrive t).trunkActive u.port = true ∧ (((s.arrive t).txnOf u.port).filter
    (fun y => y.first == tag.toNat && y.result.isNone)) = some x ∧ x.kind ≠ .identify) ∧
    (∃ (t : Stamp) (s : State) (u : Trunk), (s.arrive t).trunkActive u.port = false) :=
  ⟨⟨1000000000000, st [(Od.ATTACH_STATE 16, 5), (Od.LINK_STATE 16, 4)], 16, 0, Od.EP0_OD_HALT, by decide +kernel⟩,
   ⟨1000000000000, st [(Od.ATTACH_STATE 16, 5), (Od.LINK_STATE 16, 4)], 16, 2, by decide +kernel⟩,
   ⟨1000000000000, st [], 16, by decide +kernel⟩,
   ⟨1000000000000, st [(Od.ATTACH_STATE 16, 5), (Od.LINK_STATE 16, 4)], 16, 0, Od.EP0_OD_HALT, by decide +kernel⟩,
   ⟨1000000000000, st [(Od.ATTACH_STATE 16, 5), (Od.LINK_STATE 16, 4)], 16, 0x81, Od.EP1_IN_HALT, by decide +kernel⟩,
   ⟨1000000000000, st [(Od.ATTACH_STATE 16, 5), (Od.LINK_STATE 16, 4)], 16, 1, Od.EP1_OUT_HALT, by decide +kernel⟩,
   ⟨1000000000000, st [(Od.ATTACH_STATE 16, 5), (Od.LINK_STATE 16, 4)], 16, 2, by decide +kernel⟩,
   ⟨1000000000000, st [], 16, by decide +kernel⟩,
   ⟨1000000000000, st [(Od.ATTACH_STATE 16, 5), (Od.LINK_STATE 16, 4)], 16, 1, by decide +kernel⟩,
   ⟨1000000000000, st [(Od.ATTACH_STATE 16, 5), (Od.LINK_STATE 16, 4)], 16, 0, by decide +kernel⟩,
   ⟨1000000000000, st [], 16, by decide +kernel⟩,
   ⟨1000000000000, st [(Od.ATTACH_STATE 16, 5), (Od.LINK_STATE 16, 4)], 16, by decide +kernel⟩,
   ⟨1000000000000, st [], 16, by decide +kernel⟩,
   ⟨1000000000000, { st [(Od.LINK_CLASS (16 + 0), 4), (Od.LINK_STATE (16 + 0), 4)] with stored := [(aStored 0)] }, 0, 0, (aStored 0),
   by decide +kernel⟩,
   ⟨1000000000000, { st [(Od.LINK_CLASS (16 + 0), 4), (Od.LINK_STATE (16 + 0), 4)] with stored := [(aStored 2)] }, 0, 0, (aStored 2),
   by decide +kernel⟩,
   ⟨1000000000000, st [(Od.LINK_CLASS (16 + 0), 4), (Od.LINK_STATE (16 + 0), 4)], 0, 0, 0, 0, by decide +kernel⟩,
   ⟨1000000000000, st [(Od.LINK_CLASS (16 + 0), 4), (Od.LINK_STATE (16 + 0), 4)], 0, 0, 8, 0, by decide +kernel⟩,
   ⟨1000000000000, st [(Od.LINK_CLASS (16 + 0), 4), (Od.LINK_STATE (16 + 0), 4)], 0, 0, 8, 0x1020, by decide +kernel⟩,
   ⟨1000000000000, st [(Od.LINK_CLASS (16 + 0), 4), (Od.LINK_STATE (16 + 0), 4)], 0, 0, 8, 0x20, by decide +kernel⟩,
   ⟨1000000000000, st [], 0, by decide +kernel⟩,
   ⟨1000000000000, st [(Od.HUB_ID_ASSIGNED, 1)], by decide +kernel⟩,
   ⟨1000000000000, st [(Od.FW_STATE, 0)], by decide +kernel⟩,
   ⟨1000000000000, { st [(Od.LINK_CLASS (16 + 0), 4), (Od.LINK_STATE (16 + 0), 4)] with txns := [(aTxn 16)] }, 0, 0, (aTxn 16), by decide +kernel⟩,
   ⟨1000000000000, { st [(Od.LINK_CLASS (16 + 0), 4), (Od.LINK_STATE (16 + 0), 4)] with txns := [{ aTxn 16 with kind := .identify }] }, 0, 0,
   { aTxn 16 with kind := .identify }, by decide +kernel⟩,
   ⟨1000000000000, { st [(Od.LINK_CLASS (16 + 0), 4), (Od.LINK_STATE (16 + 0), 4)] with txns := [(aTxn 16)] }, 0, 0, (aTxn 16), by decide +kernel⟩,
   ⟨1000000000000, st [], 0, by decide +kernel⟩⟩

/-- States and operands that meet the hypotheses of the statement TrunkFrames, one for each clause. -/
theorem witness_TrunkFrames :
    (∃ (t : Stamp) (s : State) (p : Cable), ((s.arrive t).rd (Od.LINK_STATE p) = 4 ∧ (s.arrive t).phyOn p = true)) ∧
    (∃ (t : Stamp) (s : State) (p : Cable) (h : BitVec 128), (((s.arrive t).rd (Od.LINK_STATE p) = 4 ∧ (s.arrive t).phyOn p = true)) ∧ withCheck
    (h.toNat) ≠ (h.toNat)) ∧
    (∃ (t : Stamp) (s : State) (p : Cable) (h : BitVec 128), (((s.arrive t).rd (Od.LINK_STATE p) = 4 ∧ (s.arrive t).phyOn p = true)) ∧ withCheck
    (h.toNat) = (h.toNat)) ∧
    (∃ (t : Stamp) (s : State) (p : Cable) (h : BitVec 128) (len : Nat) (data : Nat) (tag : BitVec 128) (crc : Word), (((s.arrive t).rd (Od.LINK_STATE
    p) = 4 ∧ (s.arrive t).phyOn p = true)) ∧ withCheck (h.toNat) = (h.toNat) ∧ Hub.crcPasses (h.toNat) len (data % 256 ^ len) tag.toNat crc.toNat =
    false) ∧
    (∃ (t : Stamp) (s : State) (p : Cable) (h : BitVec 128) (len : Nat) (data : Nat) (tag : BitVec 128) (crc : Word), ((((s.arrive t).rd
    (Od.LINK_STATE p) = 4 ∧ (s.arrive t).phyOn p = true) ∧ withCheck (h.toNat) = (h.toNat) ∧ Hub.crcPasses (h.toNat) len (data % 256 ^ len) tag.toNat
    crc.toNat = true)) ∧ reservedHeader (h.toNat) = true) ∧
    (∃ (t : Stamp) (s : State) (p : Cable) (h : BitVec 128) (len : Nat) (data : Nat) (tag : BitVec 128) (crc : Word), (((((s.arrive t).rd
    (Od.LINK_STATE p) = 4 ∧ (s.arrive t).phyOn p = true) ∧ withCheck (h.toNat) = (h.toNat) ∧ Hub.crcPasses (h.toNat) len (data % 256 ^ len) tag.toNat
    crc.toNat = true) ∧ reservedHeader (h.toNat) = false)) ∧ hEnc (h.toNat) = 1 ∧ (((s.arrive t).trunkActive p = false ∨ (s.arrive t).linkRefuses p
    (h.toNat) = true))) ∧
    (∃ (t : Stamp) (s : State) (p : Cable) (h : BitVec 128) (len : Nat) (data : Nat) (tag : BitVec 128) (crc : Word), (((((s.arrive t).rd
    (Od.LINK_STATE p) = 4 ∧ (s.arrive t).phyOn p = true) ∧ withCheck (h.toNat) = (h.toNat) ∧ Hub.crcPasses (h.toNat) len (data % 256 ^ len) tag.toNat
    crc.toNat = true) ∧ reservedHeader (h.toNat) = false)) ∧ hEnc (h.toNat) = 0 ∧ (s.arrive t).trunkActive p = true) ∧
    (∃ (t : Stamp) (s : State) (p : Cable) (h : BitVec 128) (len : Nat) (data : Nat) (tag : BitVec 128) (crc : Word), (((((s.arrive t).rd
    (Od.LINK_STATE p) = 4 ∧ (s.arrive t).phyOn p = true) ∧ withCheck (h.toNat) = (h.toNat) ∧ Hub.crcPasses (h.toNat) len (data % 256 ^ len) tag.toNat
    crc.toNat = true) ∧ reservedHeader (h.toNat) = false)) ∧ hEnc (h.toNat) = 0 ∧ (s.arrive t).trunkActive p = false) ∧
    (∃ (t : Stamp) (s : State) (p : Cable), ¬ ((s.arrive t).rd (Od.LINK_STATE p) = 4 ∧ (s.arrive t).phyOn p = true)) ∧
    (∃ (t : Stamp) (s : State) (u : Trunk), (s.arrive t).trunkActive u.port = true) ∧
    (∃ (t : Stamp) (s : State) (u : Trunk), (s.arrive t).trunkActive u.port = false) ∧
    (∃ (t : Stamp) (s : State) (u : Trunk), (s.arrive t).trunkActive u.port = true ∧ (s.arrive t).downstreamEnd u.port = true ∧ (s.arrive t).rd
    (Reg.tickSeen u.port) = 1) ∧
    (∃ (t : Stamp) (s : State) (u : Trunk), (s.arrive t).trunkActive u.port = true ∧ (s.arrive t).downstreamEnd u.port = true ∧ (s.arrive t).rd
    (Reg.tickSeen u.port) ≠ 1) ∧
    (∃ (t : Stamp) (s : State) (u : Trunk), ((s.arrive t).trunkActive u.port = false ∨ (s.arrive t).downstreamEnd u.port = false)) ∧
    (∃ (t : Stamp) (s : State) (u : Trunk), (s.arrive t).trunkActive u.port = true ∧ (s.arrive t).upstreamEnd u.port = true) ∧
    (∃ (t : Stamp) (s : State) (u : Trunk), ((s.arrive t).trunkActive u.port = false ∨ (s.arrive t).upstreamEnd u.port = false)) ∧
    (∃ (t : Stamp) (s : State) (u : Trunk), (s.arrive t).trunkActive u.port = true ∧ (s.arrive t).downstreamEnd u.port = true) ∧
    (∃ (t : Stamp) (s : State) (u : Trunk), ((s.arrive t).trunkActive u.port = false ∨ (s.arrive t).downstreamEnd u.port = false)) ∧
    (∃ (t : Stamp) (s : State) (u : Trunk), (s.arrive t).trunkActive u.port = true) ∧
    (∃ (t : Stamp) (s : State) (u : Trunk), (s.arrive t).trunkActive u.port = false) ∧
    (∃ (t : Stamp) (s : State) (u : Trunk), (s.arrive t).due (Tm.credit u.port) = true ∧ ((s.arrive t).wr (Tm.credit u.port) 0).trunkActive u.port =
    true) ∧
    (∃ (t : Stamp) (s : State) (u : Trunk), (s.arrive t).due (Tm.credit u.port) = true ∧ ((s.arrive t).wr (Tm.credit u.port) 0).trunkActive u.port =
    false) ∧
    (∃ (t : Stamp) (s : State) (u : Trunk), (s.arrive t).due (Tm.credit u.port) = false) ∧
    (∃ (t : Stamp) (s : State) (u : Trunk), (s.arrive t).due (Tm.status u.port) = true ∧ ((s.arrive t).wr (Tm.status u.port) 0).trunkActive u.port =
    true) ∧
    (∃ (t : Stamp) (s : State) (u : Trunk), (s.arrive t).due (Tm.status u.port) = true ∧ ((s.arrive t).wr (Tm.status u.port) 0).trunkActive u.port =
    false) ∧
    (∃ (t : Stamp) (s : State) (u : Trunk), (s.arrive t).due (Tm.status u.port) = false) :=
  ⟨⟨1000000000000, st [((Od.LINK_STATE 16), 4)], 16, by decide +kernel⟩,
   ⟨1000000000000, st [((Od.LINK_STATE 16), 4)], 16, 0, by decide +kernel⟩,
   ⟨1000000000000, st [((Od.LINK_STATE 16), 4)], 16, (BitVec.ofNat 128 (withCheck 0)), by decide +kernel⟩,
   ⟨1000000000000, st [((Od.LINK_STATE 16), 4)], 16, (BitVec.ofNat 128 (withCheck 0)), 0, 0, 0, 0, by decide +kernel⟩,
   ⟨1000000000000, st [((Od.LINK_STATE 16), 4)], 16, (BitVec.ofNat 128 (withCheck 1)), 0, 0, 0, (BitVec.ofNat 32 (Hub.frameCrc (withCheck 1) 0 0
   (none))), by decide +kernel⟩,
   ⟨1000000000000, st [((Od.LINK_STATE 16), 4)], 16, (BitVec.ofNat 128 (withCheck 128)), 0, 0, 0, (BitVec.ofNat 32 (Hub.frameCrc (withCheck 128) 0 0
   (some 0))), by decide +kernel⟩,
   ⟨1000000000000, st [(Od.LINK_CLASS 16, 4), (Od.LINK_STATE 16, 4)], 16, (BitVec.ofNat 128 (withCheck 0)), 0, 0, 0, (BitVec.ofNat 32 (Hub.frameCrc
   (withCheck 0) 0 0 (none))), by decide +kernel⟩,
   ⟨1000000000000, st [((Od.LINK_STATE 16), 4)], 16, (BitVec.ofNat 128 (withCheck 0)), 0, 0, 0, (BitVec.ofNat 32 (Hub.frameCrc (withCheck 0) 0 0
   (none))), by decide +kernel⟩,
   ⟨1000000000000, st [], 16, by decide +kernel⟩,
   ⟨1000000000000, st [(Od.LINK_CLASS (16 + 0), 4), (Od.LINK_STATE (16 + 0), 4)], 0, by decide +kernel⟩,
   ⟨1000000000000, st [], 0, by decide +kernel⟩,
   ⟨1000000000000, st [(Od.LINK_CLASS (16 + 0), 4), (Od.LINK_STATE (16 + 0), 4), (Od.ATTACH_STATE (16 + 0), 5), ((Reg.tickSeen (16 + 0)), 1)], 0,
   by decide +kernel⟩,
   ⟨1000000000000, st [(Od.LINK_CLASS (16 + 0), 4), (Od.LINK_STATE (16 + 0), 4), (Od.ATTACH_STATE (16 + 0), 5)], 0, by decide +kernel⟩,
   ⟨1000000000000, st [], 0, by decide +kernel⟩,
   ⟨1000000000000, st [(Od.LINK_CLASS (16 + 0), 4), (Od.LINK_STATE (16 + 0), 4), (Od.ATTACH_STATE (16 + 0), 4)], 0, by decide +kernel⟩,
   ⟨1000000000000, st [], 0, by decide +kernel⟩,
   ⟨1000000000000, st [(Od.LINK_CLASS (16 + 0), 4), (Od.LINK_STATE (16 + 0), 4), (Od.ATTACH_STATE (16 + 0), 5)], 0, by decide +kernel⟩,
   ⟨1000000000000, st [], 0, by decide +kernel⟩,
   ⟨1000000000000, st [(Od.LINK_CLASS (16 + 0), 4), (Od.LINK_STATE (16 + 0), 4)], 0, by decide +kernel⟩,
   ⟨1000000000000, st [], 0, by decide +kernel⟩,
   ⟨1000000000000, st [((Tm.credit (16 + 0)), 1), (Od.LINK_CLASS (16 + 0), 4), (Od.LINK_STATE (16 + 0), 4)], 0, by decide +kernel⟩,
   ⟨1000000000000, st [((Tm.credit (16 + 0)), 1)], 0, by decide +kernel⟩,
   ⟨1000000000000, st [], 0, by decide +kernel⟩,
   ⟨1000000000000, st [((Tm.status (16 + 0)), 1), (Od.LINK_CLASS (16 + 0), 4), (Od.LINK_STATE (16 + 0), 4)], 0, by decide +kernel⟩,
   ⟨1000000000000, st [((Tm.status (16 + 0)), 1)], 0, by decide +kernel⟩,
   ⟨1000000000000, st [], 0, by decide +kernel⟩⟩

/-- States and operands that meet the hypotheses of the statement SuspendAndResume, one for each clause. -/
theorem witness_SuspendAndResume :
    (∃ (t : Stamp) (s : State) (p : Cable), ((s.arrive t).answersOn p = true ∧ (s.arrive t).rd (Reg.heardAt p) + us 2900 ≤ (s.arrive t).now + 1)) ∧
    (∃ (t : Stamp) (s : State) (p : Cable), ((s.arrive t).answersOn p = true ∧ (s.arrive t).rd (Reg.heardAt p) + us 2900 ≤ (s.arrive t).now + 1)) ∧
    (∃ (t : Stamp) (s : State) (p : Cable), ¬ ((s.arrive t).answersOn p = true ∧ (s.arrive t).rd (Reg.heardAt p) + us 2900 ≤ (s.arrive t).now + 1)) ∧
    (∃ (t : Stamp) (s : State) (u : Trunk), (s.arrive t).trunkActive u.port = true ∧ (s.arrive t).downstreamEnd u.port = true) ∧
    (∃ (t : Stamp) (s : State) (u : Trunk), ((s.arrive t).trunkActive u.port = false ∨ (s.arrive t).downstreamEnd u.port = false)) ∧
    (∃ (t : Stamp) (s : State) (p : Cable), (s.arrive t).downstreamEnd p = true ∧ (s.arrive t).rd (Od.LINK_STATE p) = 5 ∧ ((s.arrive t).linkTo p 6).rd
    (Od.LINK_CLASS p) ≠ 4) ∧
    (∃ (t : Stamp) (s : State) (p : Cable), (s.arrive t).downstreamEnd p = true ∧ (s.arrive t).rd (Od.LINK_STATE p) = 5 ∧ ((s.arrive t).linkTo p 6).rd
    (Od.LINK_CLASS p) = 4) ∧
    (∃ (t : Stamp) (s : State) (p : Cable), ((s.arrive t).downstreamEnd p = false ∨ (s.arrive t).rd (Od.LINK_STATE p) ≠ 5)) ∧
    (∃ (t : Stamp) (s : State) (p : Cable), (s.arrive t).due (Tm.resumeK p) = true ∧ ((s.arrive t).wr (Tm.resumeK p) 0).rd (Od.LINK_STATE p) = 6) ∧
    (∃ (t : Stamp) (s : State) (p : Cable), (s.arrive t).due (Tm.resumeK p) = true ∧ ((s.arrive t).wr (Tm.resumeK p) 0).rd (Od.LINK_STATE p) ≠ 6) ∧
    (∃ (t : Stamp) (s : State) (p : Cable), (s.arrive t).due (Tm.resumeK p) = false) ∧
    (∃ (t : Stamp) (s : State) (p : Cable), (s.arrive t).upstreamEnd p = true ∧ ((((s.arrive t).inc (Od.WAKES_RX p)).rd (Od.PORT_STATE p) = 6 ∧
    ((s.arrive t).inc (Od.WAKES_RX p)).rd (Od.WAKE_ENABLE p) = 1))) ∧
    (∃ (t : Stamp) (s : State) (p : Cable), (s.arrive t).upstreamEnd p = true ∧ (¬ (((s.arrive t).inc (Od.WAKES_RX p)).rd (Od.PORT_STATE p) = 6 ∧
    ((s.arrive t).inc (Od.WAKES_RX p)).rd (Od.WAKE_ENABLE p) = 1)) ∧ ((s.arrive t).inc (Od.WAKES_RX p)).rd (Od.PORT_STATE p) ≠ 7) ∧
    (∃ (t : Stamp) (s : State) (p : Cable), (s.arrive t).upstreamEnd p = true ∧ ((s.arrive t).inc (Od.WAKES_RX p)).rd (Od.PORT_STATE p) = 7) ∧
    (∃ (t : Stamp) (s : State) (p : Cable), (s.arrive t).upstreamEnd p = false) :=
  ⟨⟨1000000000000, st [(Od.ATTACH_STATE 16, 5), (Od.LINK_STATE 16, 4)], 16, by decide +kernel⟩,
   ⟨1000000000000, st [(Od.ATTACH_STATE 16, 5), (Od.LINK_STATE 16, 4)], 16, by decide +kernel⟩,
   ⟨1000000000000, st [], 16, by decide +kernel⟩,
   ⟨1000000000000, st [(Od.LINK_CLASS (16 + 0), 4), (Od.LINK_STATE (16 + 0), 4), (Od.ATTACH_STATE (16 + 0), 5)], 0, by decide +kernel⟩,
   ⟨1000000000000, st [], 0, by decide +kernel⟩,
   ⟨1000000000000, st [(Od.ATTACH_STATE 16, 5), ((Od.LINK_STATE 16), 5)], 16, by decide +kernel⟩,
   ⟨1000000000000, st [(Od.ATTACH_STATE 16, 5), ((Od.LINK_STATE 16), 5), ((Od.LINK_CLASS 16), 4)], 16, by decide +kernel⟩,
   ⟨1000000000000, st [], 16, by decide +kernel⟩,
   ⟨1000000000000, st [((Tm.resumeK 16), 1), ((Od.LINK_STATE 16), 6)], 16, by decide +kernel⟩,
   ⟨1000000000000, st [((Tm.resumeK 16), 1)], 16, by decide +kernel⟩,
   ⟨1000000000000, st [], 16, by decide +kernel⟩,
   ⟨1000000000000, st [(Od.ATTACH_STATE 16, 4), ((Od.PORT_STATE 16), 6), ((Od.WAKE_ENABLE 16), 1)], 16, by decide +kernel⟩,
   ⟨1000000000000, st [(Od.ATTACH_STATE 16, 4)], 16, by decide +kernel⟩,
   ⟨1000000000000, st [(Od.ATTACH_STATE 16, 4), ((Od.PORT_STATE 16), 7)], 16, by decide +kernel⟩,
   ⟨1000000000000, st [], 16, by decide +kernel⟩⟩

/-- States and operands that meet the hypotheses of the statement QuartzRuns, one for each clause. -/
theorem witness_QuartzRuns :
    (∃ (t : Stamp) (s : State) (e : Fin 4096) (v : BitVec 256), (s.arrive t).Writable (Od.POLL e) v.toNat) ∧
    (∃ (t : Stamp) (s : State), ((fun (c : Nat) => (if (fun (c : Nat) => ((s.arrive t).writeCode Od.QUARTZ_CMD c)) c = 0 then (s.arrive t).keep
    Od.QUARTZ_CMD c else (s.arrive t))) 1).isOn 5 = true ∧ ((fun (c : Nat) => (if (fun (c : Nat) => ((s.arrive t).writeCode Od.QUARTZ_CMD c)) c = 0
    then (s.arrive t).keep Od.QUARTZ_CMD c else (s.arrive t))) 1).rd Od.QUARTZ_STATE ≠ 1 ∧ ((fun (c : Nat) => (if (fun (c : Nat) => ((s.arrive
    t).writeCode Od.QUARTZ_CMD c)) c = 0 then (s.arrive t).keep Od.QUARTZ_CMD c else (s.arrive t))) 1).rd Od.HUB_ID_ASSIGNED ≠ 0) ∧
    (∃ (t : Stamp) (s : State), ((fun (c : Nat) => (if (fun (c : Nat) => ((s.arrive t).writeCode Od.QUARTZ_CMD c)) c = 0 then (s.arrive t).keep
    Od.QUARTZ_CMD c else (s.arrive t))) 1).isOn 5 = true ∧ (((fun (c : Nat) => (if (fun (c : Nat) => ((s.arrive t).writeCode Od.QUARTZ_CMD c)) c = 0
    then (s.arrive t).keep Od.QUARTZ_CMD c else (s.arrive t))) 1).rd Od.QUARTZ_STATE = 1 ∨ ((fun (c : Nat) => (if (fun (c : Nat) => ((s.arrive
    t).writeCode Od.QUARTZ_CMD c)) c = 0 then (s.arrive t).keep Od.QUARTZ_CMD c else (s.arrive t))) 1).rd Od.HUB_ID_ASSIGNED = 0)) ∧
    (∃ (t : Stamp) (s : State), ((fun (c : Nat) => (if (fun (c : Nat) => ((s.arrive t).writeCode Od.QUARTZ_CMD c)) c = 0 then (s.arrive t).keep
    Od.QUARTZ_CMD c else (s.arrive t))) 1).isOn 5 = false) ∧
    (∃ (t : Stamp) (s : State), ((fun (c : Nat) => (if (fun (c : Nat) => ((s.arrive t).writeCode Od.QUARTZ_CMD c)) c = 0 then (s.arrive t).keep
    Od.QUARTZ_CMD c else (s.arrive t))) 2).isOn 5 = true ∧ ((fun (c : Nat) => (if (fun (c : Nat) => ((s.arrive t).writeCode Od.QUARTZ_CMD c)) c = 0
    then (s.arrive t).keep Od.QUARTZ_CMD c else (s.arrive t))) 2).rd Od.QUARTZ_STATE ≠ 0) ∧
    (∃ (t : Stamp) (s : State), ((fun (c : Nat) => (if (fun (c : Nat) => ((s.arrive t).writeCode Od.QUARTZ_CMD c)) c = 0 then (s.arrive t).keep
    Od.QUARTZ_CMD c else (s.arrive t))) 2).isOn 5 = true ∧ ((fun (c : Nat) => (if (fun (c : Nat) => ((s.arrive t).writeCode Od.QUARTZ_CMD c)) c = 0
    then (s.arrive t).keep Od.QUARTZ_CMD c else (s.arrive t))) 2).rd Od.QUARTZ_STATE = 0) ∧
    (∃ (t : Stamp) (s : State), ((fun (c : Nat) => (if (fun (c : Nat) => ((s.arrive t).writeCode Od.QUARTZ_CMD c)) c = 0 then (s.arrive t).keep
    Od.QUARTZ_CMD c else (s.arrive t))) 2).isOn 5 = false) ∧
    (∃ (t : Stamp) (s : State), ((fun (c : Nat) => (if (fun (c : Nat) => ((s.arrive t).writeCode Od.QUARTZ_CMD c)) c = 0 then (s.arrive t).keep
    Od.QUARTZ_CMD c else (s.arrive t))) 3).isOn 5 = true ∧ ((fun (c : Nat) => (if (fun (c : Nat) => ((s.arrive t).writeCode Od.QUARTZ_CMD c)) c = 0
    then (s.arrive t).keep Od.QUARTZ_CMD c else (s.arrive t))) 3).rd Od.QUARTZ_STATE = 1) ∧
    (∃ (t : Stamp) (s : State), ((fun (c : Nat) => (if (fun (c : Nat) => ((s.arrive t).writeCode Od.QUARTZ_CMD c)) c = 0 then (s.arrive t).keep
    Od.QUARTZ_CMD c else (s.arrive t))) 3).isOn 5 = true ∧ ((fun (c : Nat) => (if (fun (c : Nat) => ((s.arrive t).writeCode Od.QUARTZ_CMD c)) c = 0
    then (s.arrive t).keep Od.QUARTZ_CMD c else (s.arrive t))) 3).rd Od.QUARTZ_STATE ≠ 1) ∧
    (∃ (t : Stamp) (s : State), ((fun (c : Nat) => (if (fun (c : Nat) => ((s.arrive t).writeCode Od.QUARTZ_CMD c)) c = 0 then (s.arrive t).keep
    Od.QUARTZ_CMD c else (s.arrive t))) 3).isOn 5 = false) ∧
    (∃ (t : Stamp) (s : State), (s.arrive t).isOn 5 = false ∨ ((s.arrive t).timebase / 125000) + 1 ≤ (s.arrive t).rd Reg.lastUframe) ∧
    (∃ (t : Stamp) (s : State), (((s.arrive t).isOn 5 = true ∧ (s.arrive t).rd Reg.lastUframe < ((s.arrive t).timebase / 125000) + 1)) ∧ (((((s.arrive
    t).takeWrites ((s.arrive t).timebase / 125000)).wr Reg.lastUframe (((s.arrive t).timebase / 125000) + 1)).rd Reg.startPend = 0 ∨ ((s.arrive
    t).timebase / 125000) < (((s.arrive t).takeWrites ((s.arrive t).timebase / 125000)).wr Reg.lastUframe (((s.arrive t).timebase / 125000) + 1)).rd
    Reg.startUframe)) ∧ (((s.arrive t).takeWrites ((s.arrive t).timebase / 125000)).wr Reg.lastUframe (((s.arrive t).timebase / 125000) + 1)).rd
    Od.QUARTZ_STATE ≠ 1) ∧
    (∃ (t : Stamp) (s : State), (((s.arrive t).isOn 5 = true ∧ (s.arrive t).rd Reg.lastUframe < ((s.arrive t).timebase / 125000) + 1)) ∧ (((((s.arrive
    t).takeWrites ((s.arrive t).timebase / 125000)).wr Reg.lastUframe (((s.arrive t).timebase / 125000) + 1)).rd Reg.startPend = 0 ∨ ((s.arrive
    t).timebase / 125000) < (((s.arrive t).takeWrites ((s.arrive t).timebase / 125000)).wr Reg.lastUframe (((s.arrive t).timebase / 125000) + 1)).rd
    Reg.startUframe)) ∧ (((s.arrive t).takeWrites ((s.arrive t).timebase / 125000)).wr Reg.lastUframe (((s.arrive t).timebase / 125000) + 1)).rd
    Od.QUARTZ_STATE = 1) ∧
    (∃ (t : Stamp) (s : State), (((s.arrive t).isOn 5 = true ∧ (s.arrive t).rd Reg.lastUframe < ((s.arrive t).timebase / 125000) + 1)) ∧ (((s.arrive
    t).takeWrites ((s.arrive t).timebase / 125000)).wr Reg.lastUframe (((s.arrive t).timebase / 125000) + 1)).rd Reg.startPend = 1 ∧ (((s.arrive
    t).takeWrites ((s.arrive t).timebase / 125000)).wr Reg.lastUframe (((s.arrive t).timebase / 125000) + 1)).rd Reg.startUframe ≤ ((s.arrive
    t).timebase / 125000)) ∧
    (∃ (t : Stamp) (s : State), (((s.arrive t).isOn 5 = true ∧ (s.arrive t).rd Reg.lastUframe < ((s.arrive t).timebase / 125000) + 1)) ∧ (((s.arrive
    t).takeWrites ((s.arrive t).timebase / 125000)).wr Reg.lastUframe (((s.arrive t).timebase / 125000) + 1)).rd Reg.startPend = 2 ∧ (((s.arrive
    t).takeWrites ((s.arrive t).timebase / 125000)).wr Reg.lastUframe (((s.arrive t).timebase / 125000) + 1)).rd Reg.startUframe ≤ ((s.arrive
    t).timebase / 125000)) ∧
    (∃ (t : Stamp) (s : State) (p : Dn) (j : PollJob), (s.arrive t).polls.find? (fun x => x.port == p.val && x.stage == 3) = some j) ∧
    (∃ (t : Stamp) (s : State) (p : Dn), (s.arrive t).polls.find? (fun x => x.port == p.val && x.stage == 3) = none) ∧
    (∃ (t : Stamp) (s : State), (s.arrive t).batch ≠ [] ∧ (s.arrive t).rd Reg.batchWin ≠ (s.arrive t).windowStart (s.arrive t).timebase + 1) ∧
    (∃ (t : Stamp) (s : State), (s.arrive t).batch = [] ∨ (s.arrive t).rd Reg.batchWin = (s.arrive t).windowStart (s.arrive t).timebase + 1) :=
  ⟨⟨1000000000000, st [], 0, 0, by unfold Hub.Writable; decide +kernel⟩,
   ⟨1000000000000, st [(Od.DOMAIN_RECORD 5, 2), (Od.HUB_ID_ASSIGNED, 1)], by decide +kernel⟩,
   ⟨1000000000000, st [(Od.DOMAIN_RECORD 5, 2), (Od.QUARTZ_STATE, 1)], by decide +kernel⟩,
   ⟨1000000000000, st [(Od.DOMAIN_RECORD 5, 0)], by decide +kernel⟩,
   ⟨1000000000000, st [(Od.DOMAIN_RECORD 5, 2), (Od.QUARTZ_STATE, 1)], by decide +kernel⟩,
   ⟨1000000000000, st [(Od.DOMAIN_RECORD 5, 2), (Od.QUARTZ_STATE, 0)], by decide +kernel⟩,
   ⟨1000000000000, st [(Od.DOMAIN_RECORD 5, 0)], by decide +kernel⟩,
   ⟨1000000000000, st [(Od.DOMAIN_RECORD 5, 2), (Od.QUARTZ_STATE, 1)], by decide +kernel⟩,
   ⟨1000000000000, st [(Od.DOMAIN_RECORD 5, 2)], by decide +kernel⟩,
   ⟨1000000000000, st [(Od.DOMAIN_RECORD 5, 0)], by decide +kernel⟩,
   ⟨1000000000000, st [(Od.DOMAIN_RECORD 5, 0)], by decide +kernel⟩,
   ⟨1000000000000, st [(Od.DOMAIN_RECORD 5, 2), (Reg.startPend, 0)], by decide +kernel⟩,
   ⟨1000000000000, st [(Od.QUARTZ_STATE, 1), (Od.DOMAIN_RECORD 5, 2), (Reg.startPend, 0)], by decide +kernel⟩,
   ⟨1000000000000, st [(Reg.startPend, 1), (Od.DOMAIN_RECORD 5, 2)], by decide +kernel⟩,
   ⟨1000000000000, st [(Reg.startPend, 2), (Od.DOMAIN_RECORD 5, 2)], by decide +kernel⟩,
   ⟨1000000000000, { st [] with polls := [aPoll] }, 3, aPoll, by decide +kernel⟩,
   ⟨1000000000000, st [], 3, by decide +kernel⟩,
   ⟨1000000000000, { st [] with batch := [⟨0, 0⟩] }, by decide +kernel⟩,
   ⟨1000000000000, st [], by decide +kernel⟩⟩

/-- States and operands that meet the hypotheses of the statement Timebase, one for each clause. -/
theorem witness_Timebase :
    (∃ (t : Stamp) (s : State) (v : BitVec 64), (s.arrive t).Writable Od.TIME_SET v.toNat ∧ (s.arrive t).rd Od.SYNC_STATE = 0 ∧ (s.arrive t).timebase
    < v.toNat) ∧
    (∃ (t : Stamp) (s : State) (v : BitVec 64), (s.arrive t).Writable Od.TIME_SET v.toNat ∧ ((s.arrive t).rd Od.SYNC_STATE ≠ 0 ∨ v.toNat ≤ (s.arrive
    t).timebase)) ∧
    (∃ (t : Stamp) (s : State) (v : BitVec 64), (s.arrive t).writeCode Od.TIME_SET v.toNat ≠ 0) ∧
    (∃ (t : Stamp) (s : State) (w : BitVec 32), (s.arrive t).Writable Od.TIME_TRIM w.toNat ∧ (s.arrive t).rd Od.SYNC_STATE = 0) ∧
    (∃ (t : Stamp) (s : State) (w : BitVec 32), (s.arrive t).Writable Od.TIME_TRIM w.toNat ∧ (s.arrive t).rd Od.SYNC_STATE ≠ 0) ∧
    (∃ (t : Stamp) (s : State) (w : BitVec 32), (s.arrive t).writeCode Od.TIME_TRIM w.toNat ≠ 0) ∧
    (∃ (t : Stamp) (s : State), (((s.arrive t).isOn 5 = true ∧ (s.arrive t).stepDue = true ∧ ((s.arrive t).stepBoundary) ≤ (s.arrive t).timebase)) ∧
    (if (s.arrive t).rd Reg.stepTo ≠ 0 then (s.arrive t).rd Reg.stepTo - 1 else ((s.arrive t).stepBoundary) + (s.arrive t).rd Reg.stepBy) ≤ ((s.arrive
    t).stepBoundary)) ∧
    (∃ (t : Stamp) (s : State), (((s.arrive t).isOn 5 = true ∧ (s.arrive t).stepDue = true ∧ ((s.arrive t).stepBoundary) ≤ (s.arrive t).timebase)) ∧
    ((s.arrive t).stepBoundary) < (if (s.arrive t).rd Reg.stepTo ≠ 0 then (s.arrive t).rd Reg.stepTo - 1 else ((s.arrive t).stepBoundary) + (s.arrive
    t).rd Reg.stepBy) ∧ ((s.arrive t).rd Reg.stepTo = 0)) ∧
    (∃ (t : Stamp) (s : State), (((s.arrive t).isOn 5 = true ∧ (s.arrive t).stepDue = true ∧ ((s.arrive t).stepBoundary) ≤ (s.arrive t).timebase)) ∧
    ((s.arrive t).stepBoundary) < (if (s.arrive t).rd Reg.stepTo ≠ 0 then (s.arrive t).rd Reg.stepTo - 1 else ((s.arrive t).stepBoundary) + (s.arrive
    t).rd Reg.stepBy) ∧ ¬ ((s.arrive t).rd Reg.stepTo = 0)) ∧
    (∃ (t : Stamp) (s : State), ¬ ((s.arrive t).isOn 5 = true ∧ (s.arrive t).stepDue = true ∧ ((s.arrive t).stepBoundary) ≤ (s.arrive t).timebase)) ∧
    (∃ (t : Stamp) (s : State), (((s.arrive t).isOn 5 = true ∧ ((s.arrive t).rd Reg.lastSlew = 0 ∨ (s.arrive t).rd Reg.lastSlew + 16000 ≤ (s.arrive
    t).now + 1))) ∧ 8 ≤ (s.arrive t).rd Reg.slewUp) ∧
    (∃ (t : Stamp) (s : State), (((s.arrive t).isOn 5 = true ∧ ((s.arrive t).rd Reg.lastSlew = 0 ∨ (s.arrive t).rd Reg.lastSlew + 16000 ≤ (s.arrive
    t).now + 1))) ∧ (s.arrive t).rd Reg.slewUp < 8 ∧ 8 ≤ (s.arrive t).rd Reg.slewDown) ∧
    (∃ (t : Stamp) (s : State), ¬ ((s.arrive t).isOn 5 = true ∧ ((s.arrive t).rd Reg.lastSlew = 0 ∨ (s.arrive t).rd Reg.lastSlew + 16000 ≤ (s.arrive
    t).now + 1)) ∨ ((s.arrive t).rd Reg.slewUp < 8 ∧ (s.arrive t).rd Reg.slewDown < 8)) ∧
    (∃ (t : Stamp) (s : State), (s.arrive t).due Tm.sync = true ∧ ((s.arrive t).rd Od.SYNC_STATE = 2 ∨ (s.arrive t).rd Od.SYNC_STATE = 3)) ∧
    (∃ (t : Stamp) (s : State), (s.arrive t).due Tm.sync = true ∧ (s.arrive t).rd Od.SYNC_STATE ≠ 2 ∧ (s.arrive t).rd Od.SYNC_STATE ≠ 3) ∧
    (∃ (t : Stamp) (s : State), (s.arrive t).due Tm.sync = false) ∧
    (∃ (t : Stamp) (s : State) (p : Cable), (s.arrive t).due (Tm.probeInterval p) = true ∧ (s.arrive t).rd (Od.LINK_STATE p) = 4 ∧ (s.arrive t).rd
    (Od.LINK_CLASS p) = 4) ∧
    (∃ (t : Stamp) (s : State) (p : Cable), (s.arrive t).due (Tm.probeInterval p) = true ∧ (s.arrive t).rd (Od.LINK_STATE p) = 4 ∧ (s.arrive t).rd
    (Od.LINK_CLASS p) ≠ 4 ∧ ((s.arrive t).wr (Tm.probeInterval p) 0).givesTime p = true) ∧
    (∃ (t : Stamp) (s : State) (p : Cable), (s.arrive t).due (Tm.probeInterval p) = true ∧ (s.arrive t).rd (Od.LINK_STATE p) = 4 ∧ (s.arrive t).rd
    (Od.LINK_CLASS p) ≠ 4 ∧ ((s.arrive t).wr (Tm.probeInterval p) 0).givesTime p = false) ∧
    (∃ (t : Stamp) (s : State) (p : Cable), (s.arrive t).due (Tm.probeInterval p) = true ∧ (s.arrive t).rd (Od.LINK_STATE p) ≠ 4) ∧
    (∃ (t : Stamp) (s : State) (p : Cable), (s.arrive t).due (Tm.probeInterval p) = false) :=
  ⟨⟨1000000000000, st [(Od.SYNC_STATE, 0)], (10 ^ 13), by unfold Hub.Writable; decide +kernel⟩,
   ⟨1000000000000, st [(Od.SYNC_STATE, 1)], 0, by unfold Hub.Writable; decide +kernel⟩,
   ⟨1000000000000, st [(Od.DOMAIN_RECORD 5, 0)], 0, by decide +kernel⟩,
   ⟨1000000000000, st [(Od.SYNC_STATE, 0)], 0, by unfold Hub.Writable; decide +kernel⟩,
   ⟨1000000000000, st [(Od.SYNC_STATE, 1)], 0, by unfold Hub.Writable; decide +kernel⟩,
   ⟨1000000000000, st [(Od.DOMAIN_RECORD 5, 0)], 0, by decide +kernel⟩,
   ⟨1000000000000, st [(Od.DOMAIN_RECORD 5, 2), (Reg.stepTo, 5), (Reg.stepAt, 1)], by decide +kernel⟩,
   ⟨1000000000000, st [(Od.DOMAIN_RECORD 5, 2), (Reg.stepTo, 0), (Reg.stepBy, 8), (Reg.stepAt, 1)], by decide +kernel⟩,
   ⟨1000000000000, st [(Od.DOMAIN_RECORD 5, 2), (Reg.stepTo, 10 ^ 15), (Reg.stepAt, 1)], by decide +kernel⟩,
   ⟨1000000000000, st [], by decide +kernel⟩,
   ⟨1000000000000, st [(Reg.slewUp, 8), (Od.DOMAIN_RECORD 5, 2), (Reg.lastSlew, 0)], by decide +kernel⟩,
   ⟨1000000000000, st [(Reg.slewDown, 8), (Od.DOMAIN_RECORD 5, 2), (Reg.lastSlew, 0)], by decide +kernel⟩,
   ⟨1000000000000, st [], by decide +kernel⟩,
   ⟨1000000000000, st [(Tm.sync, 1), (Od.SYNC_STATE, 2)], by decide +kernel⟩,
   ⟨1000000000000, st [(Tm.sync, 1)], by decide +kernel⟩,
   ⟨1000000000000, st [], by decide +kernel⟩,
   ⟨1000000000000, st [((Tm.probeInterval 16), 1), ((Od.LINK_STATE 16), 4), ((Od.LINK_CLASS 16), 4)], 16, by decide +kernel⟩,
   ⟨1000000000000, st [((Tm.probeInterval 16), 1), ((Od.LINK_STATE 16), 4)], 16, by decide +kernel⟩,
   ⟨1000000000000, st [((Tm.probeInterval 3), 1), ((Od.LINK_STATE 3), 4)], 3, by decide +kernel⟩,
   ⟨1000000000000, st [((Tm.probeInterval 16), 1)], 16, by decide +kernel⟩,
   ⟨1000000000000, st [], 16, by decide +kernel⟩⟩

/-- States and operands that meet the hypotheses of the statement SwitchMoves, one for each clause. -/
theorem witness_SwitchMoves :
    (∃ (t : Stamp) (s : State) (p : Cable) (q : SwPort) (h : BitVec 128), ((p.val = q.val ∧ (s.arrive t).takesIn p = true ∧ withCheck (h.toNat) =
    (h.toNat) ∧ hFtype (h.toNat) ≠ 3 ∧ (s.arrive t).linkRefuses p (h.toNat) = false)) ∧ hHops (h.toNat) = 15) ∧
    (∃ (t : Stamp) (s : State) (p : Cable) (q : SwPort) (h : BitVec 128), ((p.val = q.val ∧ (s.arrive t).takesIn p = true ∧ withCheck (h.toNat) =
    (h.toNat) ∧ hFtype (h.toNat) ≠ 3 ∧ (s.arrive t).linkRefuses p (h.toNat) = false)) ∧ hHops (h.toNat) ≠ 15 ∧ (1024 < hLen (h.toNat) ∨ (hFtype
    (h.toNat) ≠ 0 ∧ hFtype (h.toNat) ≠ 2))) ∧
    (∃ (t : Stamp) (s : State) (p : Cable) (q : SwPort) (h : BitVec 128), ((p.val = q.val ∧ (s.arrive t).takesIn p = true ∧ withCheck (h.toNat) =
    (h.toNat) ∧ hFtype (h.toNat) ≠ 3 ∧ (s.arrive t).linkRefuses p (h.toNat) = false)) ∧ hHops (h.toNat) ≠ 15 ∧ (hFtype (h.toNat) = 0 ∨ hFtype
    (h.toNat) = 2) ∧ hLen (h.toNat) ≤ 1024) ∧
    (∃ (t : Stamp) (s : State) (p : Cable) (q : SwPort) (h : BitVec 128), p.val = q.val ∧ (s.arrive t).takesIn p = true ∧ withCheck (h.toNat) =
    (h.toNat) ∧ hFtype (h.toNat) ≠ 3 ∧ (s.arrive t).linkRefuses p (h.toNat) = true) ∧
    (∃ (t : Stamp) (s : State) (p : Cable) (q : SwPort) (h : BitVec 128), p.val = q.val ∧ ((s.arrive t).takesIn p = false ∨ withCheck (h.toNat) ≠
    (h.toNat) ∨ hFtype (h.toNat) = 3)) ∧
    (∃ (t : Stamp) (s : State), (s.arrive t).switchOn = true) ∧
    (∃ (t : Stamp) (s : State), (s.arrive t).switchOn = true) ∧
    (∃ (t : Stamp) (s : State), (s.arrive t).switchOn = false) ∧
    (∃ (t : Stamp) (s : State) (p : Cable) (f : Frame) (ep : Fin 3) (len : Nat) (data : Nat) (tag : BitVec 128) (crc : Word) (fin : FrameFin),
    (s.arrive t).receiving p ep = some f ∧ ((s.arrive t).frameJudged p f.header len (data % 256 ^ len) tag.toNat crc.toNat fin) = true) ∧
    (∃ (t : Stamp) (s : State) (p : Cable) (f : Frame) (ep : Fin 3) (len : Nat) (data : Nat) (tag : BitVec 128) (crc : Word) (fin : FrameFin),
    (s.arrive t).receiving p ep = some f ∧ ((s.arrive t).frameJudged p f.header len (data % 256 ^ len) tag.toNat crc.toNat fin) = false) ∧
    (∃ (t : Stamp) (s : State) (p : Cable) (ep : Fin 3), (s.arrive t).receiving p ep = none) ∧
    (∃ (t : Stamp) (s : State) (q : SwPort) (f : Frame) (c : Copy) (cut : Bool), (((s.arrive t).switchOn = true ∧ (s.arrive t).phyOn q = true ∧
    (s.arrive t).begunCopy q = none ∧ (s.arrive t).serialTakes q 4 = false ∧ (s.arrive t).nextCopy q cut = some (f, c))) ∧ (s.arrive t).canTake q =
    false ∧ (s.arrive t).engineRuns q = false) ∧
    (∃ (t : Stamp) (s : State) (q : SwPort) (f : Frame) (c : Copy) (cut : Bool), (((s.arrive t).switchOn = true ∧ (s.arrive t).phyOn q = true ∧
    (s.arrive t).begunCopy q = none ∧ (s.arrive t).serialTakes q 4 = false ∧ (s.arrive t).nextCopy q cut = some (f, c))) ∧ (s.arrive t).canTake q =
    false ∧ (s.arrive t).engineRuns q = true) ∧
    (∃ (t : Stamp) (s : State) (q : SwPort) (f : Frame) (c : Copy) (cut : Bool), (((s.arrive t).switchOn = true ∧ (s.arrive t).phyOn q = true ∧
    (s.arrive t).begunCopy q = none ∧ (s.arrive t).serialTakes q 4 = false ∧ (s.arrive t).nextCopy q cut = some (f, c))) ∧ (s.arrive t).canTake q =
    true ∧ ((q.val < 16 ∧ (s.arrive t).farIsHub q = false ∧ (s.arrive t).assignedTo q (hDest f.header % 4096 / 16) = false))) ∧
    (∃ (t : Stamp) (s : State) (q : SwPort) (f : Frame) (c : Copy) (cut : Bool), (((s.arrive t).switchOn = true ∧ (s.arrive t).phyOn q = true ∧
    (s.arrive t).begunCopy q = none ∧ (s.arrive t).serialTakes q 4 = false ∧ (s.arrive t).nextCopy q cut = some (f, c))) ∧ (s.arrive t).canTake q =
    true ∧ (¬ (q.val < 16 ∧ (s.arrive t).farIsHub q = false ∧ (s.arrive t).assignedTo q (hDest f.header % 4096 / 16) = false)) ∧ q.val < 18) ∧
    (∃ (t : Stamp) (s : State) (q : SwPort) (f : Frame) (c : Copy) (cut : Bool), (((s.arrive t).switchOn = true ∧ (s.arrive t).phyOn q = true ∧
    (s.arrive t).begunCopy q = none ∧ (s.arrive t).serialTakes q 4 = false ∧ (s.arrive t).nextCopy q cut = some (f, c))) ∧ (s.arrive t).canTake q =
    true ∧ 18 ≤ q.val) ∧
    (∃ (t : Stamp) (s : State) (q : SwPort) (cut : Bool), ((s.arrive t).switchOn = false ∨ (s.arrive t).phyOn q = false ∨ (s.arrive t).begunCopy q ≠
    none ∨ (s.arrive t).serialTakes q 4 = true ∨ (s.arrive t).nextCopy q cut = none)) ∧
    (∃ (t : Stamp) (s : State) (q : SwPort) (f : Frame) (c : Copy), (s.arrive t).begunCopy q = some (f, c) ∧ f.verdict ≠ 0 ∧ (s.arrive
    t).deliveries.any (fun v => v.port == q.val) = false ∧ (¬ (q.val < 18 ∧ (s.arrive t).rd (Od.LINK_CLASS q) ≠ 4 ∧ (s.arrive t).rd (Reg.outPk q) <
    Hub.packetsOf ((s.arrive t).portMax q) (Hub.childLen f)))) ∧
    (∃ (t : Stamp) (s : State) (q : SwPort) (f : Frame) (c : Copy), (s.arrive t).begunCopy q = some (f, c) ∧ (f.verdict = 0 ∨ (s.arrive
    t).deliveries.any (fun v => v.port == q.val) = true ∨ (q.val < 18 ∧ (s.arrive t).rd (Od.LINK_CLASS q) ≠ 4 ∧ (s.arrive t).rd (Reg.outPk q) <
    Hub.packetsOf ((s.arrive t).portMax q) (Hub.childLen f)))) ∧
    (∃ (t : Stamp) (s : State) (q : SwPort), (s.arrive t).begunCopy q = none) ∧
    (∃ (t : Stamp) (s : State) (p : Cable) (f : Frame) (c : Copy), (s.arrive t).begunCopy p = some (f, c) ∧ ((c.cut = true ∧ f.verdict = 0 ∧ (s.arrive
    t).rd (Od.LINK_CLASS p) ≠ 4 ∧ (((s.arrive t).streamOf f.ingress ((s.arrive t).frameEpIn f.ingress (hClass f.header))).last) + ms ((s.arrive t).rd
    Od.CUT_STALL) ≤ (s.arrive t).now))) ∧
    (∃ (t : Stamp) (s : State) (p : Cable) (f : Frame) (c : Copy), (s.arrive t).begunCopy p = some (f, c) ∧ (¬ (c.cut = true ∧ f.verdict = 0 ∧
    (s.arrive t).rd (Od.LINK_CLASS p) ≠ 4 ∧ (((s.arrive t).streamOf f.ingress ((s.arrive t).frameEpIn f.ingress (hClass f.header))).last) + ms
    ((s.arrive t).rd Od.CUT_STALL) ≤ (s.arrive t).now))) ∧
    (∃ (t : Stamp) (s : State) (p : Cable), (s.arrive t).begunCopy p = none) ∧
    (∃ (t : Stamp) (s : State) (bank : Fin 52) (cell : Fin 512), ((s.arrive t).inc Od.ECC_UNCORRECTED).cellHolder bank cell = none) ∧
    (∃ (t : Stamp) (s : State) (f : Frame) (bank : Fin 52) (cell : Fin 512), ((s.arrive t).inc Od.ECC_UNCORRECTED).cellHolder bank cell = some f) ∧
    (∃ (t : Stamp) (s : State) (p : Cable), (s.arrive t).due (Tm.rejoin p) = true) ∧
    (∃ (t : Stamp) (s : State) (p : Cable), (s.arrive t).due (Tm.rejoin p) = false) :=
  ⟨⟨1000000000000, st [(Od.LINK_STATE 16, 4)], 16, 16, (BitVec.ofNat 128 (withCheck (15 * 2 ^ 19))), by decide +kernel⟩,
   ⟨1000000000000, st [(Od.LINK_STATE 16, 4)], 16, 16, (BitVec.ofNat 128 (withCheck (1025 * 2 ^ 8))), by decide +kernel⟩,
   ⟨1000000000000, st [(Od.LINK_STATE 16, 4)], 16, 16, (BitVec.ofNat 128 (withCheck 0)), by decide +kernel⟩,
   ⟨1000000000000, st [(Od.LINK_STATE 16, 4)], 16, 16, (BitVec.ofNat 128 (withCheck 128)), by decide +kernel⟩,
   ⟨1000000000000, st [], 16, 16, (BitVec.ofNat 128 (withCheck 0)), by decide +kernel⟩,
   ⟨1000000000000, st [], by decide +kernel⟩,
   ⟨1000000000000, st [], by decide +kernel⟩,
   ⟨1000000000000, st [(Od.DOMAIN_RECORD 2, 0)], by decide +kernel⟩,
   ⟨1000000000000, { st [] with frames := [{ aFrame [] with verdict := 0 }] }, 16, { aFrame [] with verdict := 0 }, 1, 0, 0, 0, (BitVec.ofNat 32
   (Hub.frameCrc 0 0 0 none)), .normal, by decide +kernel⟩,
   ⟨1000000000000, { st [] with frames := [{ aFrame [] with verdict := 0 }] }, 16, { aFrame [] with verdict := 0 }, 1, 0, 0, 0, 0, .normal,
   by decide +kernel⟩,
   ⟨1000000000000, st [], 16, 1, by decide +kernel⟩,
   ⟨1000000000000, { st [] with frames := [(aFrame [aCopy 16 false])] }, 16, (aFrame [aCopy 16 false]), (aCopy 16 false), false, by decide +kernel⟩,
   ⟨1000000000000, { st [(Od.PORT_STATE 16, 2)] with frames := [(aFrame [aCopy 16 false])] }, 16, (aFrame [aCopy 16 false]), (aCopy 16 false), false,
   by decide +kernel⟩,
   ⟨1000000000000, { st [(Od.PORT_STATE 3, 5)] with frames := [(aFrame [aCopy 3 false])] }, 3, (aFrame [aCopy 3 false]), (aCopy 3 false), false,
   by decide +kernel⟩,
   ⟨1000000000000, { st [(Od.LINK_STATE 16, 4)] with frames := [(aFrame [aCopy 16 false])] }, 16, (aFrame [aCopy 16 false]), (aCopy 16 false), false,
   by decide +kernel⟩,
   ⟨1000000000000, { st [] with frames := [(aFrame [aCopy 18 false])] }, 18, (aFrame [aCopy 18 false]), (aCopy 18 false), false, by decide +kernel⟩,
   ⟨1000000000000, st [], 16, false, by decide +kernel⟩,
   ⟨1000000000000, { st [(Reg.outPk 16, 5)] with frames := [(aFrame [aCopy 16 true])] }, 16, (aFrame [aCopy 16 true]), (aCopy 16 true),
   by decide +kernel⟩,
   ⟨1000000000000, { st [] with frames := [(aFrame [aCopy 16 true])] }, 16, (aFrame [aCopy 16 true]), (aCopy 16 true), by decide +kernel⟩,
   ⟨1000000000000, st [], 16, by decide +kernel⟩,
   ⟨1000000000000, { st [] with frames := [{ aFrame [{ aCopy 16 true with cut := true }] with verdict := 0 }], rxStreams := [⟨16, 1, 0, 0, 0⟩] }, 16,
   { aFrame [{ aCopy 16 true with cut := true }] with verdict := 0 }, { aCopy 16 true with cut := true }, by decide +kernel⟩,
   ⟨1000000000000, { st [] with frames := [(aFrame [aCopy 16 true])] }, 16, (aFrame [aCopy 16 true]), (aCopy 16 true), by decide +kernel⟩,
   ⟨1000000000000, st [], 16, by decide +kernel⟩,
   ⟨1000000000000, st [], 0, 0, by decide +kernel⟩,
   ⟨1000000000000, { st [] with frames := [{ aFrame [] with live := true, addrs := [0] }] }, { aFrame [] with live := true, addrs := [0] }, 0, 0,
   by decide +kernel⟩,
   ⟨1000000000000, st [((Tm.rejoin 16), 1)], 16, by decide +kernel⟩,
   ⟨1000000000000, st [], 16, by decide +kernel⟩⟩

/-- States and operands that meet the hypotheses of the statement TablesAndAudit, one for each clause. -/
theorem witness_TablesAndAudit :
    (∃ (t : Stamp) (s : State), (if ((s.arrive t).writeCode Od.PUBLISH 1) = 0 then (s.arrive t).keep Od.PUBLISH 1 else (s.arrive t)).isOn 2 = true ∧
    (if ((s.arrive t).writeCode Od.PUBLISH 1) = 0 then (s.arrive t).keep Od.PUBLISH 1 else (s.arrive t)).rd Od.EPOCH_DRAINING = 0xFF ∧ (if ((s.arrive
    t).writeCode Od.PUBLISH 1) = 0 then (s.arrive t).keep Od.PUBLISH 1 else (s.arrive t)).running Tm.publish = false) ∧
    (∃ (t : Stamp) (s : State), (if ((s.arrive t).writeCode Od.PUBLISH 1) = 0 then (s.arrive t).keep Od.PUBLISH 1 else (s.arrive t)).isOn 2 = true ∧
    (if ((s.arrive t).writeCode Od.PUBLISH 1) = 0 then (s.arrive t).keep Od.PUBLISH 1 else (s.arrive t)).rd Od.EPOCH_DRAINING ≠ 0xFF ∧ (if ((s.arrive
    t).writeCode Od.PUBLISH 1) = 0 then (s.arrive t).keep Od.PUBLISH 1 else (s.arrive t)).running Tm.publish = false) ∧
    (∃ (t : Stamp) (s : State), (if ((s.arrive t).writeCode Od.PUBLISH 1) = 0 then (s.arrive t).keep Od.PUBLISH 1 else (s.arrive t)).isOn 2 = true ∧
    (if ((s.arrive t).writeCode Od.PUBLISH 1) = 0 then (s.arrive t).keep Od.PUBLISH 1 else (s.arrive t)).running Tm.publish = true) ∧
    (∃ (t : Stamp) (s : State), (if ((s.arrive t).writeCode Od.PUBLISH 1) = 0 then (s.arrive t).keep Od.PUBLISH 1 else (s.arrive t)).isOn 2 = false) ∧
    (∃ (t : Stamp) (s : State), (s.arrive t).due Tm.publish = true) ∧
    (∃ (t : Stamp) (s : State), (s.arrive t).due Tm.publish = false) ∧
    (∃ (t : Stamp) (s : State), (s.arrive t).Writable Od.REVERT 1) ∧
    (∃ (t : Stamp) (s : State), (s.arrive t).Writable Od.RING_CLEAR 1) ∧
    (∃ (t : Stamp) (s : State), ((s.arrive t).rd Od.AUDIT_ENABLE = 1 ∧ (s.arrive t).isOn 2 = true ∧ (s.arrive t).running Tm.auditEnd = false ∧
    (s.arrive t).auditFalls = true)) ∧
    (∃ (t : Stamp) (s : State), ¬ ((s.arrive t).rd Od.AUDIT_ENABLE = 1 ∧ (s.arrive t).isOn 2 = true ∧ (s.arrive t).running Tm.auditEnd = false ∧
    (s.arrive t).auditFalls = true)) ∧
    (∃ (t : Stamp) (s : State) (os : List Nat), (s.arrive t).isOn 2 = true ∧ (s.arrive t).due Tm.auditEnd = true ∧ (((os.filter (fun c => !((s.arrive
    t).wr Tm.auditEnd 0).cellHeld (c / 512) (c % 512) && ((s.arrive t).wr Tm.auditEnd 0).isOn (Hub.bankDomain (c / 512)))).map (fun c => (c,
    ((s.arrive t).wr Tm.auditEnd 0).rd (Reg.cellTag c))) : List (Nat × Nat)).filter (fun o => ((s.arrive t).wr Tm.auditEnd 0).orphans.contains
    o)).length = 0) ∧
    (∃ (t : Stamp) (s : State) (os : List Nat), (s.arrive t).isOn 2 = true ∧ (s.arrive t).due Tm.auditEnd = true ∧ (((os.filter (fun c => !((s.arrive
    t).wr Tm.auditEnd 0).cellHeld (c / 512) (c % 512) && ((s.arrive t).wr Tm.auditEnd 0).isOn (Hub.bankDomain (c / 512)))).map (fun c => (c,
    ((s.arrive t).wr Tm.auditEnd 0).rd (Reg.cellTag c))) : List (Nat × Nat)).filter (fun o => ((s.arrive t).wr Tm.auditEnd 0).orphans.contains
    o)).length ≠ 0) ∧
    (∃ (t : Stamp) (s : State), (s.arrive t).isOn 2 = false ∨ (s.arrive t).due Tm.auditEnd = false) :=
  ⟨⟨1000000000000, st [(Od.DOMAIN_RECORD 2, 2), (Od.EPOCH_DRAINING, 0xFF), (Tm.publish, 0)], by decide +kernel⟩,
   ⟨1000000000000, st [(Od.DOMAIN_RECORD 2, 2), (Tm.publish, 0), (Od.EPOCH_DRAINING, 1)], by decide +kernel⟩,
   ⟨1000000000000, st [(Od.DOMAIN_RECORD 2, 2), (Tm.publish, 10 ^ 15)], by decide +kernel⟩,
   ⟨1000000000000, st [(Od.DOMAIN_RECORD 2, 0)], by decide +kernel⟩,
   ⟨1000000000000, st [(Tm.publish, 1)], by decide +kernel⟩,
   ⟨1000000000000, st [], by decide +kernel⟩,
   ⟨1000000000000, st [], by unfold Hub.Writable; decide +kernel⟩,
   ⟨1000000000000, st [], by unfold Hub.Writable; decide +kernel⟩,
   ⟨1000000000000, st [(Od.AUDIT_ENABLE, 1), (Od.DOMAIN_RECORD 2, 2), (Tm.auditEnd, 0)], by decide +kernel⟩,
   ⟨1000000000000, st [(Od.AUDIT_ENABLE, 0)], by decide +kernel⟩,
   ⟨1000000000000, st [(Od.DOMAIN_RECORD 2, 2), (Tm.auditEnd, 1)], [], by decide +kernel⟩,
   ⟨1000000000000, { st [(Od.DOMAIN_RECORD 2, 2), (Tm.auditEnd, 1)] with orphans := [(0, 0)] }, [0], by decide +kernel⟩,
   ⟨1000000000000, st [(Od.DOMAIN_RECORD 2, 0)], by decide +kernel⟩⟩

/-- States and operands that meet the hypotheses of the statement FabricNeighbours, one for each clause. -/
theorem witness_FabricNeighbours :
    (∃ (t : Stamp) (s : State), (s.arrive t).fabricActive = true ∧ (((s.arrive t).running Tm.hello = false ∨ (s.arrive t).due Tm.hello = true))) ∧
    (∃ (t : Stamp) (s : State), (s.arrive t).fabricActive = false ∨ ¬ ((s.arrive t).running Tm.hello = false ∨ (s.arrive t).due Tm.hello = true)) ∧
    (∃ (t : Stamp) (s : State) (p : Cable) (n : BitVec 16) (l : List Nat), ((((s.arrive t).fabricRuns = true ∧ (s.arrive t).fabricLink p = true) ∧
    nodeOk n.toNat = true)) ∧ l.length ≤ 16 ∧ l.contains (s.arrive t).node = ((s.arrive t).neighbours.any (fun x => x.port == p.val && x.node ==
    n.toNat && x.twoWay))) ∧
    (∃ (t : Stamp) (s : State) (p : Cable) (n : BitVec 16) (l : List Nat), ((((s.arrive t).fabricRuns = true ∧ (s.arrive t).fabricLink p = true) ∧
    nodeOk n.toNat = true)) ∧ l.length ≤ 16 ∧ l.contains (s.arrive t).node ≠ ((s.arrive t).neighbours.any (fun x => x.port == p.val && x.node ==
    n.toNat && x.twoWay))) ∧
    (∃ (t : Stamp) (s : State) (p : Cable) (n : BitVec 16) (l : List Nat), (((s.arrive t).fabricRuns = true ∧ (s.arrive t).fabricLink p = true)) ∧
    (nodeOk n.toNat = false ∨ 16 < l.length)) ∧
    (∃ (t : Stamp) (s : State) (p : Cable), ¬ ((s.arrive t).fabricRuns = true ∧ (s.arrive t).fabricLink p = true)) ∧
    (∃ (t : Stamp) (s : State) (p : Cable), (((s.arrive t).neighbours.filter (fun x => x.port == p.val && decide (x.last + ms 1000 ≤ (s.arrive
    t).now))).any (fun x => x.twoWay)) = false) ∧
    (∃ (t : Stamp) (s : State) (p : Cable), (((s.arrive t).neighbours.filter (fun x => x.port == p.val && decide (x.last + ms 1000 ≤ (s.arrive
    t).now))).any (fun x => x.twoWay)) = true) ∧
    (∃ (t : Stamp) (s : State), (s.arrive t).fabricActive = true ∧ (((s.arrive t).rd Reg.lsaDue = 1 ∨ (s.arrive t).running Tm.lsaRefresh = false ∨
    (s.arrive t).due Tm.lsaRefresh = true))) ∧
    (∃ (t : Stamp) (s : State), (s.arrive t).fabricActive = false ∨ ¬ ((s.arrive t).rd Reg.lsaDue = 1 ∨ (s.arrive t).running Tm.lsaRefresh = false ∨
    (s.arrive t).due Tm.lsaRefresh = true)) ∧
    (∃ (t : Stamp) (s : State) (p : Cable) (n : BitVec 16), ((((s.arrive t).fabricRuns = true ∧ (s.arrive t).fabricLink p = true) ∧ nodeOk n.toNat =
    true)) ∧ ((s.arrive t).lsdb.find? (fun z => z.node == n.toNat)) = none ∧ 256 ≤ (s.arrive t).lsdb.length) ∧
    (∃ (t : Stamp) (s : State) (p : Cable) (n : BitVec 16), ((((s.arrive t).fabricRuns = true ∧ (s.arrive t).fabricLink p = true) ∧ nodeOk n.toNat =
    true)) ∧ ((s.arrive t).lsdb.find? (fun z => z.node == n.toNat)) = none ∧ (s.arrive t).lsdb.length < 256) ∧
    (∃ (t : Stamp) (s : State) (p : Cable) (n : BitVec 16) (q : BitVec 32) (y : Lsa), ((((s.arrive t).fabricRuns = true ∧ (s.arrive t).fabricLink p =
    true) ∧ nodeOk n.toNat = true)) ∧ ((s.arrive t).lsdb.find? (fun z => z.node == n.toNat)) = some y ∧ newer 32 q.toNat y.seq = true) ∧
    (∃ (t : Stamp) (s : State) (p : Cable) (n : BitVec 16) (q : BitVec 32) (y : Lsa), ((((s.arrive t).fabricRuns = true ∧ (s.arrive t).fabricLink p =
    true) ∧ nodeOk n.toNat = true)) ∧ ((s.arrive t).lsdb.find? (fun z => z.node == n.toNat)) = some y ∧ newer 32 q.toNat y.seq = false ∧ q.toNat =
    y.seq) ∧
    (∃ (t : Stamp) (s : State) (p : Cable) (n : BitVec 16) (q : BitVec 32) (y : Lsa), ((((s.arrive t).fabricRuns = true ∧ (s.arrive t).fabricLink p =
    true) ∧ nodeOk n.toNat = true)) ∧ ((s.arrive t).lsdb.find? (fun z => z.node == n.toNat)) = some y ∧ newer 32 q.toNat y.seq = false ∧ q.toNat ≠
    y.seq) ∧
    (∃ (t : Stamp) (s : State) (p : Cable) (n : BitVec 16), (((s.arrive t).fabricRuns = true ∧ (s.arrive t).fabricLink p = true)) ∧ nodeOk n.toNat =
    false) ∧
    (∃ (t : Stamp) (s : State) (p : Cable), ¬ ((s.arrive t).fabricRuns = true ∧ (s.arrive t).fabricLink p = true)) ∧
    (∃ (t : Stamp) (s : State) (p : Cable) (n : BitVec 16) (y : Lsa) (w : LsaWait), ((s.arrive t).lsaWaits.find? (fun z => z.port == p.val && z.node
    == n.toNat)) = some w ∧ w.sent + ms 950 ≤ (s.arrive t).now ∧ ((s.arrive t).lsdb.find? (fun z => z.node == n.toNat)) = some y ∧ (s.arrive
    t).fabricActive = true ∧ (s.arrive t).fabricLink p = true) ∧
    (∃ (t : Stamp) (s : State) (p : Cable) (n : BitVec 16) (y : Lsa) (w : LsaWait), ((s.arrive t).lsaWaits.find? (fun z => z.port == p.val && z.node
    == n.toNat)) = some w ∧ w.sent + ms 950 ≤ (s.arrive t).now ∧ ((s.arrive t).lsdb.find? (fun z => z.node == n.toNat)) = some y ∧ ((s.arrive
    t).fabricActive = false ∨ (s.arrive t).fabricLink p = false)) ∧
    (∃ (t : Stamp) (s : State) (p : Cable) (n : BitVec 16) (w : LsaWait), ((s.arrive t).lsaWaits.find? (fun z => z.port == p.val && z.node ==
    n.toNat)) = some w ∧ w.sent + ms 950 ≤ (s.arrive t).now ∧ ((s.arrive t).lsdb.find? (fun z => z.node == n.toNat)) = none) ∧
    (∃ (t : Stamp) (s : State) (p : Cable) (n : BitVec 16) (w : LsaWait), ((s.arrive t).lsaWaits.find? (fun z => z.port == p.val && z.node ==
    n.toNat)) = some w ∧ (s.arrive t).now < w.sent + ms 950) ∧
    (∃ (t : Stamp) (s : State) (p : Cable) (n : BitVec 16), ((s.arrive t).lsaWaits.find? (fun z => z.port == p.val && z.node == n.toNat)) = none) ∧
    (∃ (t : Stamp) (s : State) (n : BitVec 16) (y : Lsa), ((s.arrive t).lsdb.find? (fun z => z.node == n.toNat)) = some y ∧ y.at_ + 60 * 60 * ms 1000
    ≤ (s.arrive t).now) ∧
    (∃ (t : Stamp) (s : State) (n : BitVec 16) (y : Lsa), ((s.arrive t).lsdb.find? (fun z => z.node == n.toNat)) = some y ∧ (s.arrive t).now < y.at_ +
    60 * 60 * ms 1000) ∧
    (∃ (t : Stamp) (s : State) (n : BitVec 16), ((s.arrive t).lsdb.find? (fun z => z.node == n.toNat)) = none) :=
  ⟨⟨1000000000000, st [(Tm.hello, 0), (Od.HUB_ROLE_ACTIVE, 2), (Od.FABRIC_NODE_ID, 2), (Od.FABRIC_PORTS, 65536), (Od.LINK_STATE 16, 4),
   (Od.FABRIC_STATE, 1)], by decide +kernel⟩,
   ⟨1000000000000, st [], by decide +kernel⟩,
   ⟨1000000000000, st [(Od.HUB_ROLE_ACTIVE, 2), (Od.FABRIC_NODE_ID, 2), (Od.FABRIC_PORTS, 65536), (Od.LINK_STATE 16, 4), (Od.FABRIC_STATE, 1)], 16, 1,
   [], by decide +kernel⟩,
   ⟨1000000000000, st [(Od.HUB_ROLE_ACTIVE, 2), (Od.FABRIC_NODE_ID, 2), (Od.FABRIC_PORTS, 65536), (Od.LINK_STATE 16, 4), (Od.FABRIC_STATE, 1)], 16, 1,
   [2], by decide +kernel⟩,
   ⟨1000000000000, st [(Od.HUB_ROLE_ACTIVE, 2), (Od.FABRIC_NODE_ID, 2), (Od.FABRIC_PORTS, 65536), (Od.LINK_STATE 16, 4), (Od.FABRIC_STATE, 1)], 16, 0,
   [], by decide +kernel⟩,
   ⟨1000000000000, st [], 16, by decide +kernel⟩,
   ⟨1000000000000, st [], 16, by decide +kernel⟩,
   ⟨1000000000000, { st [] with neighbours := [aNb] }, 16, by decide +kernel⟩,
   ⟨1000000000000, st [(Reg.lsaDue, 1), (Od.HUB_ROLE_ACTIVE, 2), (Od.FABRIC_NODE_ID, 2), (Od.FABRIC_PORTS, 65536), (Od.LINK_STATE 16, 4),
   (Od.FABRIC_STATE, 1)], by decide +kernel⟩,
   ⟨1000000000000, st [], by decide +kernel⟩,
   ⟨1000000000000,
   { st [(Od.HUB_ROLE_ACTIVE, 2), (Od.FABRIC_NODE_ID, 2), (Od.FABRIC_PORTS, 65536), (Od.LINK_STATE 16, 4), (Od.FABRIC_STATE, 1)] with lsdb := (List.range 256).map (fun i => { aLsa 0 with node := i + 10 }) },
   16, 1, by decide +kernel⟩,
   ⟨1000000000000, st [(Od.HUB_ROLE_ACTIVE, 2), (Od.FABRIC_NODE_ID, 2), (Od.FABRIC_PORTS, 65536), (Od.LINK_STATE 16, 4), (Od.FABRIC_STATE, 1)], 16, 1,
   by decide +kernel⟩,
   ⟨1000000000000,
   { st [(Od.HUB_ROLE_ACTIVE, 2), (Od.FABRIC_NODE_ID, 2), (Od.FABRIC_PORTS, 65536), (Od.LINK_STATE 16, 4), (Od.FABRIC_STATE, 1)] with lsdb := [(aLsa 5)] },
   16, 1, 6, (aLsa 5), by decide +kernel⟩,
   ⟨1000000000000,
   { st [(Od.HUB_ROLE_ACTIVE, 2), (Od.FABRIC_NODE_ID, 2), (Od.FABRIC_PORTS, 65536), (Od.LINK_STATE 16, 4), (Od.FABRIC_STATE, 1)] with lsdb := [(aLsa 5)] },
   16, 1, 5, (aLsa 5), by decide +kernel⟩,
   ⟨1000000000000,
   { st [(Od.HUB_ROLE_ACTIVE, 2), (Od.FABRIC_NODE_ID, 2), (Od.FABRIC_PORTS, 65536), (Od.LINK_STATE 16, 4), (Od.FABRIC_STATE, 1)] with lsdb := [(aLsa 5)] },
   16, 1, 4, (aLsa 5), by decide +kernel⟩,
   ⟨1000000000000, st [(Od.HUB_ROLE_ACTIVE, 2), (Od.FABRIC_NODE_ID, 2), (Od.FABRIC_PORTS, 65536), (Od.LINK_STATE 16, 4), (Od.FABRIC_STATE, 1)], 16, 0,
   by decide +kernel⟩,
   ⟨1000000000000, st [], 16, by decide +kernel⟩,
   ⟨1000000000000,
   { st [(Od.HUB_ROLE_ACTIVE, 2), (Od.FABRIC_NODE_ID, 2), (Od.FABRIC_PORTS, 65536), (Od.LINK_STATE 16, 4), (Od.FABRIC_STATE, 1)] with lsdb := [(aLsa 5)], lsaWaits := [⟨16, 1, 5, 0⟩] },
   16, 1, (aLsa 5), ⟨16, 1, 5, 0⟩, by decide +kernel⟩,
   ⟨1000000000000, { st [] with lsdb := [(aLsa 5)], lsaWaits := [⟨16, 1, 5, 0⟩] }, 16, 1, (aLsa 5), ⟨16, 1, 5, 0⟩, by decide +kernel⟩,
   ⟨1000000000000, { st [] with lsaWaits := [⟨16, 1, 5, 0⟩] }, 16, 1, ⟨16, 1, 5, 0⟩, by decide +kernel⟩,
   ⟨1000000000000, { st [] with lsaWaits := [⟨16, 1, 5, 10 ^ 12⟩] }, 16, 1, ⟨16, 1, 5, 10 ^ 12⟩, by decide +kernel⟩,
   ⟨1000000000000, st [], 16, 0, by decide +kernel⟩,
   ⟨3600000000000, { st [] with lsdb := [(aLsa 5)] }, 1, (aLsa 5), by decide +kernel⟩,
   ⟨1000000000000, { st [] with lsdb := [(aLsa 5)] }, 1, (aLsa 5), by decide +kernel⟩,
   ⟨1000000000000, st [], 0, by decide +kernel⟩⟩

/-- States and operands that meet the hypotheses of the statement FabricFrames, one for each clause. -/
theorem witness_FabricFrames :
    (∃ (t : Stamp) (s : State), (s.arrive t).fabricRuns = true ∧ (s.arrive t).rd Reg.pathDue = 1) ∧
    (∃ (t : Stamp) (s : State), (s.arrive t).fabricRuns = false ∨ (s.arrive t).rd Reg.pathDue ≠ 1) ∧
    (∃ (t : Stamp) (s : State) (p : Cable) (hd : BitVec 96), ((((s.arrive t).fabricRuns = true ∧ (s.arrive t).fabricLink p = true) ∧ e1Ok (hd.toNat) =
    true)) ∧ 20000 ≤ (if (s.arrive t).rd Reg.fabSec = ((s.arrive t).now / 1000000000 + 1) then (s.arrive t).rd Reg.fabCount else 0)) ∧
    (∃ (t : Stamp) (s : State) (p : Cable) (hd : BitVec 96), ((((s.arrive t).fabricRuns = true ∧ (s.arrive t).fabricLink p = true) ∧ e1Ok (hd.toNat) =
    true)) ∧ (if (s.arrive t).rd Reg.fabSec = ((s.arrive t).now / 1000000000 + 1) then (s.arrive t).rd Reg.fabCount else 0) < 20000 ∧ ((e1Dest
    (hd.toNat) = (((s.arrive t).wr Reg.fabSec ((s.arrive t).now / 1000000000 + 1)).wr Reg.fabCount ((if (s.arrive t).rd Reg.fabSec = ((s.arrive t).now
    / 1000000000 + 1) then (s.arrive t).rd Reg.fabCount else 0) + 1)).node ∨ e1Dest (hd.toNat) = 0xFFFF))) ∧
    (∃ (t : Stamp) (s : State) (p : Cable) (hd : BitVec 96), ((((s.arrive t).fabricRuns = true ∧ (s.arrive t).fabricLink p = true) ∧ e1Ok (hd.toNat) =
    true)) ∧ (if (s.arrive t).rd Reg.fabSec = ((s.arrive t).now / 1000000000 + 1) then (s.arrive t).rd Reg.fabCount else 0) < 20000 ∧ (¬ (e1Dest
    (hd.toNat) = (((s.arrive t).wr Reg.fabSec ((s.arrive t).now / 1000000000 + 1)).wr Reg.fabCount ((if (s.arrive t).rd Reg.fabSec = ((s.arrive t).now
    / 1000000000 + 1) then (s.arrive t).rd Reg.fabCount else 0) + 1)).node ∨ e1Dest (hd.toNat) = 0xFFFF)) ∧ e1Ttl (hd.toNat) ≤ 1) ∧
    (∃ (t : Stamp) (s : State) (p : Cable) (hd : BitVec 96), ((((s.arrive t).fabricRuns = true ∧ (s.arrive t).fabricLink p = true) ∧ e1Ok (hd.toNat) =
    true)) ∧ (if (s.arrive t).rd Reg.fabSec = ((s.arrive t).now / 1000000000 + 1) then (s.arrive t).rd Reg.fabCount else 0) < 20000 ∧ (¬ (e1Dest
    (hd.toNat) = (((s.arrive t).wr Reg.fabSec ((s.arrive t).now / 1000000000 + 1)).wr Reg.fabCount ((if (s.arrive t).rd Reg.fabSec = ((s.arrive t).now
    / 1000000000 + 1) then (s.arrive t).rd Reg.fabCount else 0) + 1)).node ∨ e1Dest (hd.toNat) = 0xFFFF)) ∧ 1 < e1Ttl (hd.toNat) ∧ ((((s.arrive t).wr
    Reg.fabSec ((s.arrive t).now / 1000000000 + 1)).wr Reg.fabCount ((if (s.arrive t).rd Reg.fabSec = ((s.arrive t).now / 1000000000 + 1) then
    (s.arrive t).rd Reg.fabCount else 0) + 1)).nextHops.find? (fun x => x.1 == e1Dest (putField (hd.toNat) 5 1 (e1Ttl (hd.toNat) - 1)))) = none) ∧
    (∃ (t : Stamp) (s : State) (p : Cable) (hd : BitVec 96) (r : Nat × Nat), ((((s.arrive t).fabricRuns = true ∧ (s.arrive t).fabricLink p = true) ∧
    e1Ok (hd.toNat) = true)) ∧ (if (s.arrive t).rd Reg.fabSec = ((s.arrive t).now / 1000000000 + 1) then (s.arrive t).rd Reg.fabCount else 0) < 20000
    ∧ (¬ (e1Dest (hd.toNat) = (((s.arrive t).wr Reg.fabSec ((s.arrive t).now / 1000000000 + 1)).wr Reg.fabCount ((if (s.arrive t).rd Reg.fabSec =
    ((s.arrive t).now / 1000000000 + 1) then (s.arrive t).rd Reg.fabCount else 0) + 1)).node ∨ e1Dest (hd.toNat) = 0xFFFF)) ∧ 1 < e1Ttl (hd.toNat) ∧
    ((((s.arrive t).wr Reg.fabSec ((s.arrive t).now / 1000000000 + 1)).wr Reg.fabCount ((if (s.arrive t).rd Reg.fabSec = ((s.arrive t).now /
    1000000000 + 1) then (s.arrive t).rd Reg.fabCount else 0) + 1)).nextHops.find? (fun x => x.1 == e1Dest (putField (hd.toNat) 5 1 (e1Ttl (hd.toNat)
    - 1)))) = some r ∧ (((((s.arrive t).wr Reg.fabSec ((s.arrive t).now / 1000000000 + 1)).wr Reg.fabCount ((if (s.arrive t).rd Reg.fabSec =
    ((s.arrive t).now / 1000000000 + 1) then (s.arrive t).rd Reg.fabCount else 0) + 1)).fabricLink r.2 = true ∧ ((((s.arrive t).wr Reg.fabSec
    ((s.arrive t).now / 1000000000 + 1)).wr Reg.fabCount ((if (s.arrive t).rd Reg.fabSec = ((s.arrive t).now / 1000000000 + 1) then (s.arrive t).rd
    Reg.fabCount else 0) + 1)).rd Od.FABRIC_STATE ≠ 2 ∨ e1Type (putField (hd.toNat) 5 1 (e1Ttl (hd.toNat) - 1)) ≠ 1)))) ∧
    (∃ (t : Stamp) (s : State) (p : Cable) (hd : BitVec 96) (r : Nat × Nat), ((((s.arrive t).fabricRuns = true ∧ (s.arrive t).fabricLink p = true) ∧
    e1Ok (hd.toNat) = true)) ∧ (if (s.arrive t).rd Reg.fabSec = ((s.arrive t).now / 1000000000 + 1) then (s.arrive t).rd Reg.fabCount else 0) < 20000
    ∧ (¬ (e1Dest (hd.toNat) = (((s.arrive t).wr Reg.fabSec ((s.arrive t).now / 1000000000 + 1)).wr Reg.fabCount ((if (s.arrive t).rd Reg.fabSec =
    ((s.arrive t).now / 1000000000 + 1) then (s.arrive t).rd Reg.fabCount else 0) + 1)).node ∨ e1Dest (hd.toNat) = 0xFFFF)) ∧ 1 < e1Ttl (hd.toNat) ∧
    ((((s.arrive t).wr Reg.fabSec ((s.arrive t).now / 1000000000 + 1)).wr Reg.fabCount ((if (s.arrive t).rd Reg.fabSec = ((s.arrive t).now /
    1000000000 + 1) then (s.arrive t).rd Reg.fabCount else 0) + 1)).nextHops.find? (fun x => x.1 == e1Dest (putField (hd.toNat) 5 1 (e1Ttl (hd.toNat)
    - 1)))) = some r ∧ (¬ ((((s.arrive t).wr Reg.fabSec ((s.arrive t).now / 1000000000 + 1)).wr Reg.fabCount ((if (s.arrive t).rd Reg.fabSec =
    ((s.arrive t).now / 1000000000 + 1) then (s.arrive t).rd Reg.fabCount else 0) + 1)).fabricLink r.2 = true ∧ ((((s.arrive t).wr Reg.fabSec
    ((s.arrive t).now / 1000000000 + 1)).wr Reg.fabCount ((if (s.arrive t).rd Reg.fabSec = ((s.arrive t).now / 1000000000 + 1) then (s.arrive t).rd
    Reg.fabCount else 0) + 1)).rd Od.FABRIC_STATE ≠ 2 ∨ e1Type (putField (hd.toNat) 5 1 (e1Ttl (hd.toNat) - 1)) ≠ 1)))) ∧
    (∃ (t : Stamp) (s : State) (p : Cable) (hd : BitVec 96), (((s.arrive t).fabricRuns = true ∧ (s.arrive t).fabricLink p = true)) ∧ e1Ok (hd.toNat) =
    false) ∧
    (∃ (t : Stamp) (s : State) (p : Cable), ¬ ((s.arrive t).fabricRuns = true ∧ (s.arrive t).fabricLink p = true)) ∧
    (∃ (t : Stamp) (s : State) (p : Cable) (hd : BitVec 96), ((((s.arrive t).fabricRuns = true ∧ (s.arrive t).fabricLink p = true) ∧ e1Ok (hd.toNat) =
    true)) ∧ 20000 ≤ (if (s.arrive t).rd Reg.fabSec = ((s.arrive t).now / 1000000000 + 1) then (s.arrive t).rd Reg.fabCount else 0)) ∧
    (∃ (t : Stamp) (s : State) (p : Cable) (hd : BitVec 96), ((((s.arrive t).fabricRuns = true ∧ (s.arrive t).fabricLink p = true) ∧ e1Ok (hd.toNat) =
    true)) ∧ (if (s.arrive t).rd Reg.fabSec = ((s.arrive t).now / 1000000000 + 1) then (s.arrive t).rd Reg.fabCount else 0) < 20000 ∧ (¬ (e1Dest
    (hd.toNat) = (((s.arrive t).wr Reg.fabSec ((s.arrive t).now / 1000000000 + 1)).wr Reg.fabCount ((if (s.arrive t).rd Reg.fabSec = ((s.arrive t).now
    / 1000000000 + 1) then (s.arrive t).rd Reg.fabCount else 0) + 1)).node ∨ e1Dest (hd.toNat) = 0xFFFF)) ∧ e1Ttl (hd.toNat) ≤ 1) ∧
    (∃ (t : Stamp) (s : State) (p : Cable) (hd : BitVec 96) (r : Nat × Nat), ((((s.arrive t).fabricRuns = true ∧ (s.arrive t).fabricLink p = true) ∧
    e1Ok (hd.toNat) = true)) ∧ (if (s.arrive t).rd Reg.fabSec = ((s.arrive t).now / 1000000000 + 1) then (s.arrive t).rd Reg.fabCount else 0) < 20000
    ∧ (¬ (e1Dest (hd.toNat) = (((s.arrive t).wr Reg.fabSec ((s.arrive t).now / 1000000000 + 1)).wr Reg.fabCount ((if (s.arrive t).rd Reg.fabSec =
    ((s.arrive t).now / 1000000000 + 1) then (s.arrive t).rd Reg.fabCount else 0) + 1)).node ∨ e1Dest (hd.toNat) = 0xFFFF)) ∧ 1 < e1Ttl (hd.toNat) ∧
    ((((s.arrive t).wr Reg.fabSec ((s.arrive t).now / 1000000000 + 1)).wr Reg.fabCount ((if (s.arrive t).rd Reg.fabSec = ((s.arrive t).now /
    1000000000 + 1) then (s.arrive t).rd Reg.fabCount else 0) + 1)).nextHops.find? (fun x => x.1 == e1Dest (putField (hd.toNat) 5 1 (e1Ttl (hd.toNat)
    - 1)))) = some r ∧ (((((s.arrive t).wr Reg.fabSec ((s.arrive t).now / 1000000000 + 1)).wr Reg.fabCount ((if (s.arrive t).rd Reg.fabSec =
    ((s.arrive t).now / 1000000000 + 1) then (s.arrive t).rd Reg.fabCount else 0) + 1)).fabricLink r.2 = true ∧ ((((s.arrive t).wr Reg.fabSec
    ((s.arrive t).now / 1000000000 + 1)).wr Reg.fabCount ((if (s.arrive t).rd Reg.fabSec = ((s.arrive t).now / 1000000000 + 1) then (s.arrive t).rd
    Reg.fabCount else 0) + 1)).rd Od.FABRIC_STATE ≠ 2 ∨ e1Type (putField (hd.toNat) 5 1 (e1Ttl (hd.toNat) - 1)) ≠ 1)))) ∧
    (∃ (t : Stamp) (s : State) (p : Cable) (hd : BitVec 96), ((((s.arrive t).fabricRuns = true ∧ (s.arrive t).fabricLink p = true) ∧ e1Ok (hd.toNat) =
    true)) ∧ (if (s.arrive t).rd Reg.fabSec = ((s.arrive t).now / 1000000000 + 1) then (s.arrive t).rd Reg.fabCount else 0) < 20000 ∧ ((e1Dest
    (hd.toNat) = (((s.arrive t).wr Reg.fabSec ((s.arrive t).now / 1000000000 + 1)).wr Reg.fabCount ((if (s.arrive t).rd Reg.fabSec = ((s.arrive t).now
    / 1000000000 + 1) then (s.arrive t).rd Reg.fabCount else 0) + 1)).node ∨ e1Dest (hd.toNat) = 0xFFFF)) ∧ (((s.arrive t).wr Reg.fabSec ((s.arrive
    t).now / 1000000000 + 1)).wr Reg.fabCount ((if (s.arrive t).rd Reg.fabSec = ((s.arrive t).now / 1000000000 + 1) then (s.arrive t).rd Reg.fabCount
    else 0) + 1)).rd Od.COORDINATOR ≠ (((s.arrive t).wr Reg.fabSec ((s.arrive t).now / 1000000000 + 1)).wr Reg.fabCount ((if (s.arrive t).rd
    Reg.fabSec = ((s.arrive t).now / 1000000000 + 1) then (s.arrive t).rd Reg.fabCount else 0) + 1)).node) ∧
    (∃ (t : Stamp) (s : State) (p : Cable) (hd : BitVec 96), ((((s.arrive t).fabricRuns = true ∧ (s.arrive t).fabricLink p = true) ∧ e1Ok (hd.toNat) =
    true)) ∧ (if (s.arrive t).rd Reg.fabSec = ((s.arrive t).now / 1000000000 + 1) then (s.arrive t).rd Reg.fabCount else 0) < 20000 ∧ ((e1Dest
    (hd.toNat) = (((s.arrive t).wr Reg.fabSec ((s.arrive t).now / 1000000000 + 1)).wr Reg.fabCount ((if (s.arrive t).rd Reg.fabSec = ((s.arrive t).now
    / 1000000000 + 1) then (s.arrive t).rd Reg.fabCount else 0) + 1)).node ∨ e1Dest (hd.toNat) = 0xFFFF)) ∧ (((s.arrive t).wr Reg.fabSec ((s.arrive
    t).now / 1000000000 + 1)).wr Reg.fabCount ((if (s.arrive t).rd Reg.fabSec = ((s.arrive t).now / 1000000000 + 1) then (s.arrive t).rd Reg.fabCount
    else 0) + 1)).rd Od.COORDINATOR = (((s.arrive t).wr Reg.fabSec ((s.arrive t).now / 1000000000 + 1)).wr Reg.fabCount ((if (s.arrive t).rd
    Reg.fabSec = ((s.arrive t).now / 1000000000 + 1) then (s.arrive t).rd Reg.fabCount else 0) + 1)).node ∧ (((s.arrive t).wr Reg.fabSec ((s.arrive
    t).now / 1000000000 + 1)).wr Reg.fabCount ((if (s.arrive t).rd Reg.fabSec = ((s.arrive t).now / 1000000000 + 1) then (s.arrive t).rd Reg.fabCount
    else 0) + 1)).role = 2) ∧
    (∃ (t : Stamp) (s : State) (p : Cable) (hd : BitVec 96), ((((s.arrive t).fabricRuns = true ∧ (s.arrive t).fabricLink p = true) ∧ e1Ok (hd.toNat) =
    true)) ∧ (if (s.arrive t).rd Reg.fabSec = ((s.arrive t).now / 1000000000 + 1) then (s.arrive t).rd Reg.fabCount else 0) < 20000 ∧ ((e1Dest
    (hd.toNat) = (((s.arrive t).wr Reg.fabSec ((s.arrive t).now / 1000000000 + 1)).wr Reg.fabCount ((if (s.arrive t).rd Reg.fabSec = ((s.arrive t).now
    / 1000000000 + 1) then (s.arrive t).rd Reg.fabCount else 0) + 1)).node ∨ e1Dest (hd.toNat) = 0xFFFF)) ∧ (((s.arrive t).wr Reg.fabSec ((s.arrive
    t).now / 1000000000 + 1)).wr Reg.fabCount ((if (s.arrive t).rd Reg.fabSec = ((s.arrive t).now / 1000000000 + 1) then (s.arrive t).rd Reg.fabCount
    else 0) + 1)).rd Od.COORDINATOR = (((s.arrive t).wr Reg.fabSec ((s.arrive t).now / 1000000000 + 1)).wr Reg.fabCount ((if (s.arrive t).rd
    Reg.fabSec = ((s.arrive t).now / 1000000000 + 1) then (s.arrive t).rd Reg.fabCount else 0) + 1)).node ∧ (((s.arrive t).wr Reg.fabSec ((s.arrive
    t).now / 1000000000 + 1)).wr Reg.fabCount ((if (s.arrive t).rd Reg.fabSec = ((s.arrive t).now / 1000000000 + 1) then (s.arrive t).rd Reg.fabCount
    else 0) + 1)).role ≠ 2) ∧
    (∃ (t : Stamp) (s : State) (p : Cable) (hd : BitVec 96), (((s.arrive t).fabricRuns = true ∧ (s.arrive t).fabricLink p = true)) ∧ e1Ok (hd.toNat) =
    false) ∧
    (∃ (t : Stamp) (s : State) (p : Cable), ¬ ((s.arrive t).fabricRuns = true ∧ (s.arrive t).fabricLink p = true)) ∧
    (∃ (t : Stamp) (s : State) (p : Cable), ((s.arrive t).fabricRuns = true ∧ (s.arrive t).fabricLink p = true)) ∧
    (∃ (t : Stamp) (s : State) (p : Cable), ¬ ((s.arrive t).fabricRuns = true ∧ (s.arrive t).fabricLink p = true)) ∧
    (∃ (t : Stamp) (s : State) (th : BitVec 128), (((s.arrive t).fabricRuns = true ∧ (s.arrive t).role = 3)) ∧ (512 < hLen th.toNat ∨ hasBit
    ((s.arrive t).rd (Od.FABRIC_MAP (hDest th.toNat % 4096 / 16))) 31 = false)) ∧
    (∃ (t : Stamp) (s : State) (th : BitVec 128), (((s.arrive t).fabricRuns = true ∧ (s.arrive t).role = 3)) ∧ hLen th.toNat ≤ 512 ∧ hasBit ((s.arrive
    t).rd (Od.FABRIC_MAP (hDest th.toNat % 4096 / 16))) 31 = true ∧ 20000 ≤ (if (s.arrive t).rd Reg.fabSec = ((s.arrive t).now / 1000000000 + 1) then
    (s.arrive t).rd Reg.fabCount else 0)) ∧
    (∃ (t : Stamp) (s : State) (th : BitVec 128), (((s.arrive t).fabricRuns = true ∧ (s.arrive t).role = 3)) ∧ hLen th.toNat ≤ 512 ∧ hasBit ((s.arrive
    t).rd (Od.FABRIC_MAP (hDest th.toNat % 4096 / 16))) 31 = true ∧ (if (s.arrive t).rd Reg.fabSec = ((s.arrive t).now / 1000000000 + 1) then
    (s.arrive t).rd Reg.fabCount else 0) < 20000) ∧
    (∃ (t : Stamp) (s : State), ¬ ((s.arrive t).fabricRuns = true ∧ (s.arrive t).role = 3)) :=
  ⟨⟨1000000000000, st [(Reg.pathDue, 1), (Od.HUB_ROLE_ACTIVE, 2), (Od.FABRIC_NODE_ID, 2), (Od.FABRIC_PORTS, 65536), (Od.LINK_STATE 16, 4),
   (Od.FABRIC_STATE, 1)], by decide +kernel⟩,
   ⟨1000000000000, st [], by decide +kernel⟩,
   ⟨1000000000000, st [(Od.HUB_ROLE_ACTIVE, 2), (Od.FABRIC_NODE_ID, 2), (Od.FABRIC_PORTS, 65536), (Od.LINK_STATE 16, 4), (Od.FABRIC_STATE, 1),
   (Reg.fabSec, 1001), (Reg.fabCount, 20000)], 16, (9 + 7 * 256 ^ 2 + 2 * 256 ^ 5), by decide +kernel⟩,
   ⟨1000000000000, st [(Od.HUB_ROLE_ACTIVE, 2), (Od.FABRIC_NODE_ID, 2), (Od.FABRIC_PORTS, 65536), (Od.LINK_STATE 16, 4), (Od.FABRIC_STATE, 1)], 16, (2
   + 7 * 256 ^ 2 + 2 * 256 ^ 5), by decide +kernel⟩,
   ⟨1000000000000, st [(Od.HUB_ROLE_ACTIVE, 2), (Od.FABRIC_NODE_ID, 2), (Od.FABRIC_PORTS, 65536), (Od.LINK_STATE 16, 4), (Od.FABRIC_STATE, 1)], 16, (9
   + 7 * 256 ^ 2 + 1 * 256 ^ 5), by decide +kernel⟩,
   ⟨1000000000000, st [(Od.HUB_ROLE_ACTIVE, 2), (Od.FABRIC_NODE_ID, 2), (Od.FABRIC_PORTS, 65536), (Od.LINK_STATE 16, 4), (Od.FABRIC_STATE, 1)], 16, (9
   + 7 * 256 ^ 2 + 2 * 256 ^ 5), by decide +kernel⟩,
   ⟨1000000000000,
   { st [(Od.HUB_ROLE_ACTIVE, 2), (Od.FABRIC_NODE_ID, 2), (Od.FABRIC_PORTS, 65536), (Od.LINK_STATE 16, 4), (Od.FABRIC_STATE, 1)] with nextHops := [(9, 16)] },
   16, (9 + 7 * 256 ^ 2 + 2 * 256 ^ 5), (9, 16), by decide +kernel⟩,
   ⟨1000000000000,
   { st [(Od.HUB_ROLE_ACTIVE, 2), (Od.FABRIC_NODE_ID, 2), (Od.FABRIC_PORTS, 65536), (Od.LINK_STATE 16, 4), (Od.FABRIC_STATE, 1)] with nextHops := [(9, 17)] },
   16, (9 + 7 * 256 ^ 2 + 2 * 256 ^ 5), (9, 17), by decide +kernel⟩,
   ⟨1000000000000, st [(Od.HUB_ROLE_ACTIVE, 2), (Od.FABRIC_NODE_ID, 2), (Od.FABRIC_PORTS, 65536), (Od.LINK_STATE 16, 4), (Od.FABRIC_STATE, 1)], 16, 0,
   by decide +kernel⟩,
   ⟨1000000000000, st [], 16, by decide +kernel⟩,
   ⟨1000000000000, st [(Od.HUB_ROLE_ACTIVE, 2), (Od.FABRIC_NODE_ID, 2), (Od.FABRIC_PORTS, 65536), (Od.LINK_STATE 16, 4), (Od.FABRIC_STATE, 1),
   (Reg.fabSec, 1001), (Reg.fabCount, 20000)], 16, (9 + 7 * 256 ^ 2 + 2 * 256 ^ 5), by decide +kernel⟩,
   ⟨1000000000000, st [(Od.HUB_ROLE_ACTIVE, 2), (Od.FABRIC_NODE_ID, 2), (Od.FABRIC_PORTS, 65536), (Od.LINK_STATE 16, 4), (Od.FABRIC_STATE, 1)], 16, (9
   + 7 * 256 ^ 2 + 1 * 256 ^ 5), by decide +kernel⟩,
   ⟨1000000000000,
   { st [(Od.HUB_ROLE_ACTIVE, 2), (Od.FABRIC_NODE_ID, 2), (Od.FABRIC_PORTS, 65536), (Od.LINK_STATE 16, 4), (Od.FABRIC_STATE, 1)] with nextHops := [(9, 16)] },
   16, (9 + 7 * 256 ^ 2 + 2 * 256 ^ 5), (9, 16), by decide +kernel⟩,
   ⟨1000000000000, st [(Od.HUB_ROLE_ACTIVE, 2), (Od.FABRIC_NODE_ID, 2), (Od.FABRIC_PORTS, 65536), (Od.LINK_STATE 16, 4), (Od.FABRIC_STATE, 1)], 16, (2
   + 7 * 256 ^ 2 + 2 * 256 ^ 5), by decide +kernel⟩,
   ⟨1000000000000, st [(Od.HUB_ROLE_ACTIVE, 2), (Od.FABRIC_NODE_ID, 2), (Od.FABRIC_PORTS, 65536), (Od.LINK_STATE 16, 4), (Od.FABRIC_STATE, 1),
   (Od.COORDINATOR, 2)], 16, (2 + 7 * 256 ^ 2 + 2 * 256 ^ 5), by decide +kernel⟩,
   ⟨1000000000000, st [(Od.HUB_ROLE_ACTIVE, 3), (Od.FABRIC_NODE_ID, 2), (Od.FABRIC_PORTS, 1), (Od.LINK_STATE 0, 4), (Od.FABRIC_STATE, 1),
   (Od.COORDINATOR, 2)], 0, (2 + 7 * 256 ^ 2 + 2 * 256 ^ 5), by decide +kernel⟩,
   ⟨1000000000000, st [(Od.HUB_ROLE_ACTIVE, 2), (Od.FABRIC_NODE_ID, 2), (Od.FABRIC_PORTS, 65536), (Od.LINK_STATE 16, 4), (Od.FABRIC_STATE, 1)], 16, 0,
   by decide +kernel⟩,
   ⟨1000000000000, st [], 16, by decide +kernel⟩,
   ⟨1000000000000, st [(Od.HUB_ROLE_ACTIVE, 2), (Od.FABRIC_NODE_ID, 2), (Od.FABRIC_PORTS, 65536), (Od.LINK_STATE 16, 4), (Od.FABRIC_STATE, 1)], 16,
   by decide +kernel⟩,
   ⟨1000000000000, st [], 16, by decide +kernel⟩,
   ⟨1000000000000, st [(Od.HUB_ROLE_ACTIVE, 3), (Od.FABRIC_NODE_ID, 2), (Od.FABRIC_PORTS, 1), (Od.LINK_STATE 0, 4), (Od.FABRIC_STATE, 1)], 0,
   by decide +kernel⟩,
   ⟨1000000000000, st [((Od.FABRIC_MAP (hDest 0 % 4096 / 16)), 2 ^ 31), (Od.HUB_ROLE_ACTIVE, 3), (Od.FABRIC_NODE_ID, 2), (Od.FABRIC_PORTS, 1),
   (Od.LINK_STATE 0, 4), (Od.FABRIC_STATE, 1), (Reg.fabSec, 1001), (Reg.fabCount, 20000)], 0, by decide +kernel⟩,
   ⟨1000000000000, st [((Od.FABRIC_MAP (hDest 0 % 4096 / 16)), 2 ^ 31), (Od.HUB_ROLE_ACTIVE, 3), (Od.FABRIC_NODE_ID, 2), (Od.FABRIC_PORTS, 1),
   (Od.LINK_STATE 0, 4), (Od.FABRIC_STATE, 1)], 0, by decide +kernel⟩,
   ⟨1000000000000, st [], by decide +kernel⟩⟩

/-- States and operands that meet the hypotheses of the statement DictionaryRequests, one for each clause. -/
theorem witness_DictionaryRequests :
    (∃ (t : Stamp) (s : State) (u : Trunk), (s.arrive t).isOn 6 = true ∧ ((s.arrive t).flintOn = false ∨ (s.arrive t).rd Od.STANDBY_UPSTREAM = 16 +
    u.val)) ∧
    (∃ (t : Stamp) (s : State) (q : Requester), (((q.code) = 16 ∨ (q.code) = 17)) ∧ (s.arrive t).isOn 6 = false) ∧
    (∃ (t : Stamp) (s : State) (q : Requester), (q.code) ≠ 16 ∧ (q.code) ≠ 17 ∧ (((s.arrive t).flintOn = false ∨ (s.arrive t).rd Od.HUB_ID_ASSIGNED ≠
    1))) ∧
    (∃ (t : Stamp) (s : State) (q : Requester) (i : BitVec 16) (v : BitVec 16), (fun (req : Nat) => ((s.arrive t).Serves (q.code) ∧ ((s.arrive
    t).touchTxn (q.code)).haltedFor (q.code) req i.toNat v.toNat = true)) 0x10) ∧
    (∃ (t : Stamp) (s : State) (q : Requester) (i : BitVec 16) (v : BitVec 16), (fun (req : Nat) => ((s.arrive t).Serves (q.code) ∧ ((s.arrive
    t).touchTxn (q.code)).haltedFor (q.code) req i.toNat v.toNat = false)) 0x10) ∧
    (∃ (t : Stamp) (s : State) (q : Requester), (s.arrive t).Serves (q.code)) ∧
    (∃ (t : Stamp) (s : State) (q : Requester) (i : BitVec 16) (v : BitVec 16), (fun (req : Nat) => ((s.arrive t).Serves (q.code) ∧ ((s.arrive
    t).touchTxn (q.code)).haltedFor (q.code) req i.toNat v.toNat = true)) 0x16) ∧
    (∃ (t : Stamp) (s : State) (q : Requester) (i : BitVec 16) (v : BitVec 16), ((fun (req : Nat) => ((s.arrive t).Serves (q.code) ∧ ((s.arrive
    t).touchTxn (q.code)).haltedFor (q.code) req i.toNat v.toNat = false)) 0x16) ∧ odExists i.toNat (v.toNat % 256) = true) ∧
    (∃ (t : Stamp) (s : State) (q : Requester) (i : BitVec 16) (v : BitVec 16), ((fun (req : Nat) => ((s.arrive t).Serves (q.code) ∧ ((s.arrive
    t).touchTxn (q.code)).haltedFor (q.code) req i.toNat v.toNat = false)) 0x16) ∧ odExists i.toNat (v.toNat % 256) = false) ∧
    (∃ (t : Stamp) (s : State) (q : Requester) (i : BitVec 16) (v : BitVec 16), (fun (req : Nat) => ((s.arrive t).Serves (q.code) ∧ ((s.arrive
    t).touchTxn (q.code)).haltedFor (q.code) req i.toNat v.toNat = true)) 0x11) ∧
    (∃ (t : Stamp) (s : State) (q : Requester) (i : BitVec 16) (v : BitVec 16), ((fun (req : Nat) => ((s.arrive t).Serves (q.code) ∧ ((s.arrive
    t).touchTxn (q.code)).haltedFor (q.code) req i.toNat v.toNat = false)) 0x11) ∧ odExists i.toNat (v.toNat % 256) = false) ∧
    (∃ (t : Stamp) (s : State) (q : Requester) (i : BitVec 16) (v : BitVec 16) (len : Fin 1017), ((fun (req : Nat) => ((s.arrive t).Serves (q.code) ∧
    ((s.arrive t).touchTxn (q.code)).haltedFor (q.code) req i.toNat v.toNat = false)) 0x11) ∧ odExists i.toNat (v.toNat % 256) = true ∧ len.val < 40) ∧
    (∃ (t : Stamp) (s : State) (q : Requester) (i : BitVec 16) (v : BitVec 16) (len : Fin 1017) (data : Nat), (((fun (req : Nat) => ((s.arrive
    t).Serves (q.code) ∧ ((s.arrive t).touchTxn (q.code)).haltedFor (q.code) req i.toNat v.toNat = false)) 0x11 ∧ odExists i.toNat (v.toNat % 256) =
    true ∧ 40 ≤ len.val)) ∧ ¬ (((s.arrive t).touchTxn (q.code)).trailerOk 0x11 i.toNat v.toNat len (toBytes (len.val - 40) data) (field data (len.val
    - 40) 40) (some (i.toNat * 256 + (v.toNat % 256))) ((((s.arrive t).touchTxn (q.code)).txnBefore (q.code)).map (·.session)) = true)) ∧
    (∃ (t : Stamp) (s : State) (q : Requester) (i : BitVec 16) (v : BitVec 16) (len : Fin 1017) (data : Nat), ((((fun (req : Nat) => ((s.arrive
    t).Serves (q.code) ∧ ((s.arrive t).touchTxn (q.code)).haltedFor (q.code) req i.toNat v.toNat = false)) 0x11 ∧ odExists i.toNat (v.toNat % 256) =
    true ∧ 40 ≤ len.val) ∧ (((s.arrive t).touchTxn (q.code)).trailerOk 0x11 i.toNat v.toNat len (toBytes (len.val - 40) data) (field data (len.val -
    40) 40) (some (i.toNat * 256 + (v.toNat % 256))) ((((s.arrive t).touchTxn (q.code)).txnBefore (q.code)).map (·.session)) = true) ∧ (Hub.rightCode
    i.toNat (v.toNat % 256) ((((s.arrive t).touchTxn (q.code)).trailerTaken (field data (len.val - 40) 40)).sessionRole (trSession (field data
    (len.val - 40) 40))) (trSession (field data (len.val - 40) 40))) = 0)) ∧ ((((s.arrive t).touchTxn (q.code)).trailerTaken (field data (len.val -
    40) 40)).txnBefore (q.code) = none ∨ odNoStage i.toNat (v.toNat % 256) = false) ∧ ¬ (Hub.lengthCode i.toNat (v.toNat % 256) (v.toNat / 256 % 256)
    (len.val - 40) = 0)) ∧
    (∃ (t : Stamp) (s : State) (q : Requester) (i : BitVec 16) (v : BitVec 16) (len : Fin 1017) (data : Nat) (b : Bool) (g : Bool), (((((fun (req :
    Nat) => ((s.arrive t).Serves (q.code) ∧ ((s.arrive t).touchTxn (q.code)).haltedFor (q.code) req i.toNat v.toNat = false)) 0x11 ∧ odExists i.toNat
    (v.toNat % 256) = true ∧ 40 ≤ len.val) ∧ (((s.arrive t).touchTxn (q.code)).trailerOk 0x11 i.toNat v.toNat len (toBytes (len.val - 40) data) (field
    data (len.val - 40) 40) (some (i.toNat * 256 + (v.toNat % 256))) ((((s.arrive t).touchTxn (q.code)).txnBefore (q.code)).map (·.session)) = true) ∧
    (Hub.rightCode i.toNat (v.toNat % 256) ((((s.arrive t).touchTxn (q.code)).trailerTaken (field data (len.val - 40) 40)).sessionRole (trSession
    (field data (len.val - 40) 40))) (trSession (field data (len.val - 40) 40))) = 0) ∧ (((s.arrive t).touchTxn (q.code)).trailerTaken (field data
    (len.val - 40) 40)).txnBefore (q.code) = none ∧ (Hub.lengthCode i.toNat (v.toNat % 256) (v.toNat / 256 % 256) (len.val - 40) = 0) ∧ i.toNat ≠
    0xF000 ∧ (i.toNat * 256 + (v.toNat % 256)) ≠ Od.SESSION_OPEN ∧ (i.toNat * 256 + (v.toNat % 256)) ≠ Od.OWNER_CLAIM)) ∧ (((s.arrive t).touchTxn
    (q.code)).trailerTaken (field data (len.val - 40) 40)).liveCode (⟨(q.code), trSession (field data (len.val - 40) 40), b, g, []⟩ : WriteCtx)
    (((s.arrive t).touchTxn (q.code)).trailerTaken (field data (len.val - 40) 40)).rd (i.toNat * 256 + (v.toNat % 256)) (data % 256 ^ (len.val - 40))
    = 0) ∧
    (∃ (t : Stamp) (s : State) (q : Requester) (i : BitVec 16) (v : BitVec 16) (len : Fin 1017) (data : Nat) (b : Bool) (g : Bool), (((((fun (req :
    Nat) => ((s.arrive t).Serves (q.code) ∧ ((s.arrive t).touchTxn (q.code)).haltedFor (q.code) req i.toNat v.toNat = false)) 0x11 ∧ odExists i.toNat
    (v.toNat % 256) = true ∧ 40 ≤ len.val) ∧ (((s.arrive t).touchTxn (q.code)).trailerOk 0x11 i.toNat v.toNat len (toBytes (len.val - 40) data) (field
    data (len.val - 40) 40) (some (i.toNat * 256 + (v.toNat % 256))) ((((s.arrive t).touchTxn (q.code)).txnBefore (q.code)).map (·.session)) = true) ∧
    (Hub.rightCode i.toNat (v.toNat % 256) ((((s.arrive t).touchTxn (q.code)).trailerTaken (field data (len.val - 40) 40)).sessionRole (trSession
    (field data (len.val - 40) 40))) (trSession (field data (len.val - 40) 40))) = 0) ∧ (((s.arrive t).touchTxn (q.code)).trailerTaken (field data
    (len.val - 40) 40)).txnBefore (q.code) = none ∧ (Hub.lengthCode i.toNat (v.toNat % 256) (v.toNat / 256 % 256) (len.val - 40) = 0) ∧ i.toNat ≠
    0xF000 ∧ (i.toNat * 256 + (v.toNat % 256)) ≠ Od.SESSION_OPEN ∧ (i.toNat * 256 + (v.toNat % 256)) ≠ Od.OWNER_CLAIM)) ∧ (((s.arrive t).touchTxn
    (q.code)).trailerTaken (field data (len.val - 40) 40)).liveCode (⟨(q.code), trSession (field data (len.val - 40) 40), b, g, []⟩ : WriteCtx)
    (((s.arrive t).touchTxn (q.code)).trailerTaken (field data (len.val - 40) 40)).rd (i.toNat * 256 + (v.toNat % 256)) (data % 256 ^ (len.val - 40))
    ≠ 0) ∧
    (∃ (t : Stamp) (s : State) (q : Requester) (i : BitVec 16) (v : BitVec 16), (fun (req : Nat) => ((s.arrive t).Serves (q.code) ∧ ((s.arrive
    t).touchTxn (q.code)).haltedFor (q.code) req i.toNat v.toNat = true)) 0x12) ∧
    (∃ (t : Stamp) (s : State) (q : Requester) (i : BitVec 16) (v : BitVec 16) (len : Fin 1017), ((fun (req : Nat) => ((s.arrive t).Serves (q.code) ∧
    ((s.arrive t).touchTxn (q.code)).haltedFor (q.code) req i.toNat v.toNat = false)) 0x12) ∧ len.val ≠ 44) ∧
    (∃ (t : Stamp) (s : State) (q : Requester) (i : BitVec 16) (v : BitVec 16) (len : Fin 1017) (data : Nat), ((fun (req : Nat) => ((s.arrive
    t).Serves (q.code) ∧ ((s.arrive t).touchTxn (q.code)).haltedFor (q.code) req i.toNat v.toNat = false)) 0x12) ∧ len.val = 44 ∧ ((s.arrive
    t).touchTxn (q.code)).trailerOk 0x12 i.toNat v.toNat len (toBytes 4 data) (field data 4 40) none none = false) ∧
    (∃ (t : Stamp) (s : State) (q : Requester) (i : BitVec 16) (v : BitVec 16), (fun (req : Nat) => ((s.arrive t).Serves (q.code) ∧ ((s.arrive
    t).touchTxn (q.code)).haltedFor (q.code) req i.toNat v.toNat = true)) 0x13) ∧
    (∃ (t : Stamp) (s : State) (q : Requester) (i : BitVec 16) (v : BitVec 16) (len : Fin 1017), ((fun (req : Nat) => ((s.arrive t).Serves (q.code) ∧
    ((s.arrive t).touchTxn (q.code)).haltedFor (q.code) req i.toNat v.toNat = false)) 0x13) ∧ len.val ≠ 40) ∧
    (∃ (t : Stamp) (s : State) (q : Requester) (i : BitVec 16) (v : BitVec 16) (len : Fin 1017), ((fun (req : Nat) => ((s.arrive t).Serves (q.code) ∧
    ((s.arrive t).touchTxn (q.code)).haltedFor (q.code) req i.toNat v.toNat = false)) 0x13) ∧ len.val = 40 ∧ ((s.arrive t).touchTxn
    (q.code)).txnBefore (q.code) = none) ∧
    (∃ (t : Stamp) (s : State) (q : Requester) (i : BitVec 16) (v : BitVec 16) (len : Fin 1017) (data : Nat) (x : OdTxn), ((fun (req : Nat) => ((fun
    (req : Nat) => ((s.arrive t).Serves (q.code) ∧ ((s.arrive t).touchTxn (q.code)).haltedFor (q.code) req i.toNat v.toNat = false)) req ∧ len.val =
    40 ∧ ((s.arrive t).touchTxn (q.code)).txnBefore (q.code) = some x)) 0x13) ∧ (fun (req : Nat) => (((s.arrive t).touchTxn (q.code)).trailerOk req
    i.toNat v.toNat len [] (data % 256 ^ 40) none (some x.session))) 0x13 = false) ∧
    (∃ (t : Stamp) (s : State) (q : Requester) (i : BitVec 16) (v : BitVec 16), (fun (req : Nat) => ((s.arrive t).Serves (q.code) ∧ ((s.arrive
    t).touchTxn (q.code)).haltedFor (q.code) req i.toNat v.toNat = true)) 0x14) ∧
    (∃ (t : Stamp) (s : State) (q : Requester) (i : BitVec 16) (v : BitVec 16) (len : Fin 1017), ((fun (req : Nat) => ((s.arrive t).Serves (q.code) ∧
    ((s.arrive t).touchTxn (q.code)).haltedFor (q.code) req i.toNat v.toNat = false)) 0x14) ∧ len.val ≠ 40) ∧
    (∃ (t : Stamp) (s : State) (q : Requester) (i : BitVec 16) (v : BitVec 16) (len : Fin 1017), ((fun (req : Nat) => ((s.arrive t).Serves (q.code) ∧
    ((s.arrive t).touchTxn (q.code)).haltedFor (q.code) req i.toNat v.toNat = false)) 0x14) ∧ len.val = 40 ∧ ((s.arrive t).touchTxn
    (q.code)).txnBefore (q.code) = none) ∧
    (∃ (t : Stamp) (s : State) (q : Requester) (i : BitVec 16) (v : BitVec 16) (len : Fin 1017) (data : Nat) (x : OdTxn), ((fun (req : Nat) => ((fun
    (req : Nat) => ((s.arrive t).Serves (q.code) ∧ ((s.arrive t).touchTxn (q.code)).haltedFor (q.code) req i.toNat v.toNat = false)) req ∧ len.val =
    40 ∧ ((s.arrive t).touchTxn (q.code)).txnBefore (q.code) = some x)) 0x14) ∧ (fun (req : Nat) => (((s.arrive t).touchTxn (q.code)).trailerOk req
    i.toNat v.toNat len [] (data % 256 ^ 40) none (some x.session))) 0x14 = false) :=
  ⟨⟨1000000000000, st [(Od.DOMAIN_RECORD 6, 2), (Od.FW_STATE, 0)], 0, by decide +kernel⟩,
   ⟨1000000000000, st [(Od.DOMAIN_RECORD 6, 0)], .trunk 0, by decide +kernel⟩,
   ⟨1000000000000, st [(Od.FW_STATE, 0)], (.routed 1), by decide +kernel⟩,
   ⟨1000000000000, st [(Od.EP0_OD_HALT, 1)], .trunk 0, 0, 0, by unfold Hub.Serves; decide +kernel⟩,
   ⟨1000000000000, st [], .trunk 0, 0, 0, by unfold Hub.Serves; decide +kernel⟩,
   ⟨1000000000000, st [], .trunk 0, by unfold Hub.Serves; decide +kernel⟩,
   ⟨1000000000000, st [(Od.EP0_OD_HALT, 1)], .trunk 0, 0, 0, by unfold Hub.Serves; decide +kernel⟩,
   ⟨1000000000000, st [], .trunk 0, 0x9000, 3, by unfold Hub.Serves; decide +kernel⟩,
   ⟨1000000000000, st [], .trunk 0, 0, 0, by unfold Hub.Serves; decide +kernel⟩,
   ⟨1000000000000, st [(Od.EP0_OD_HALT, 1)], .trunk 0, 0, 0, by unfold Hub.Serves; decide +kernel⟩,
   ⟨1000000000000, st [], .trunk 0, 0, 0, by unfold Hub.Serves; decide +kernel⟩,
   ⟨1000000000000, st [], .trunk 0, 0x9000, 3, 0, by unfold Hub.Serves; decide +kernel⟩,
   ⟨1000000000000, st [], .trunk 0, 0x9000, 3, 40, 0, by unfold Hub.Serves; decide +kernel⟩,
   ⟨1000000000000, st [], .trunk 0, 0x7000, 7, 40, 0, by unfold Hub.Serves; decide +kernel⟩,
   ⟨1000000000000, st [], .trunk 0, 0x7000, 7, 72, 0, false, false, by unfold Hub.Serves; decide +kernel⟩,
   ⟨1000000000000, st [], .trunk 0, 0x9000, 6, 48, 0, false, false, by unfold Hub.Serves; decide +kernel⟩,
   ⟨1000000000000, st [(Od.EP0_OD_HALT, 1)], .trunk 0, 0, 0, by unfold Hub.Serves; decide +kernel⟩,
   ⟨1000000000000, st [], .trunk 0, 0, 0, 0, by unfold Hub.Serves; decide +kernel⟩,
   ⟨1000000000000, st [], .trunk 0, 0, 0, 44, 0, by unfold Hub.Serves; decide +kernel⟩,
   ⟨1000000000000, st [(Od.EP0_OD_HALT, 1)], .trunk 0, 0, 0, by unfold Hub.Serves; decide +kernel⟩,
   ⟨1000000000000, st [], .trunk 0, 0, 0, 0, by unfold Hub.Serves; decide +kernel⟩,
   ⟨1000000000000, st [], .trunk 0, 0, 0, 40, by unfold Hub.Serves; decide +kernel⟩,
   ⟨1000000000000, { st [] with odTxns := [anOd 0] }, .trunk 0, 0, 0, 40, 0, { anOd 0 with last := 10 ^ 12 }, by unfold Hub.Serves; decide +kernel⟩,
   ⟨1000000000000, st [(Od.EP0_OD_HALT, 1)], .trunk 0, 0, 0, by unfold Hub.Serves; decide +kernel⟩,
   ⟨1000000000000, st [], .trunk 0, 0, 0, 0, by unfold Hub.Serves; decide +kernel⟩,
   ⟨1000000000000, st [], .trunk 0, 0, 0, 40, by unfold Hub.Serves; decide +kernel⟩,
   ⟨1000000000000, { st [] with odTxns := [anOd 0] }, .trunk 0, 0, 0, 40, 0, { anOd 0 with last := 10 ^ 12 }, by unfold Hub.Serves; decide +kernel⟩⟩

/-- States and operands that meet the hypotheses of the statement CommitAndApply, one for each clause. -/
theorem witness_CommitAndApply :
    (∃ (t : Stamp) (s : State) (x : OdTxn) (b : Bool) (g : Bool), (s.arrive t).odTxns.find? (fun y => y.stage == 1) = some x ∧ ((s.arrive t).wr
    Reg.committing 0).validate (⟨x.who, x.session, b, g, Hub.barredBy x.staged⟩ : WriteCtx) [] 1 x.staged = none) ∧
    (∃ (t : Stamp) (s : State) (x : OdTxn) (b : Bool) (g : Bool) (c : Nat) (n : Nat), (s.arrive t).odTxns.find? (fun y => y.stage == 1) = some x ∧
    ((s.arrive t).wr Reg.committing 0).validate (⟨x.who, x.session, b, g, Hub.barredBy x.staged⟩ : WriteCtx) [] 1 x.staged = some (c, n)) ∧
    (∃ (t : Stamp) (s : State), (s.arrive t).odTxns.find? (fun y => y.stage == 1) = none) ∧
    (∃ (t : Stamp) (s : State) (x : OdTxn) (q : Option Requester), ((s.arrive t).odTxns.find? (fun y => y.who ==
    (match q with | some r => r.code | none => 19) && y.stage == 0)) = some x ∧ x.last + (s.arrive t).rd Od.TXN_IDLE_TIMEOUT * 1000000000 ≤ (s.arrive
    t).now) ∧
    (∃ (t : Stamp) (s : State) (x : OdTxn) (q : Option Requester), ((s.arrive t).odTxns.find? (fun y => y.who ==
    (match q with | some r => r.code | none => 19) && y.stage == 0)) = some x ∧ (s.arrive t).now < x.last + (s.arrive t).rd Od.TXN_IDLE_TIMEOUT *
    1000000000) ∧
    (∃ (t : Stamp) (s : State) (q : Option Requester), ((s.arrive t).odTxns.find? (fun y => y.who == (match q with | some r => r.code | none => 19) &&
    y.stage == 0)) = none) ∧
    (∃ (i : BitVec 16) (sub : Byte), odExists i.toNat sub.toNat = false) ∧
    (∃ (i : BitVec 16) (sub : Byte) (o : Bool), odExists i.toNat sub.toNat = true ∧ (Hub.rightCode i.toNat sub.toNat (if o then 1 else 2) 1) ≠ 0) ∧
    (∃ (i : BitVec 16) (len : BitVec 16) (sub : Byte) (o : Bool), odExists i.toNat sub.toNat = true ∧ (Hub.rightCode i.toNat sub.toNat (if o then 1
    else 2) 1) = 0 ∧ Hub.lengthCode i.toNat sub.toNat 0 len.toNat ≠ 0) ∧
    (∃ (t : Stamp) (s : State) (b : Bool) (g : Bool) (i : BitVec 16) (len : BitVec 16) (sub : Byte) (v : Nat) (o : Bool), (((odExists i.toNat
    sub.toNat = true ∧ (Hub.rightCode i.toNat sub.toNat (if o then 1 else 2) 1) = 0 ∧ Hub.lengthCode i.toNat sub.toNat 0 len.toNat = 0) ∧ i.toNat ≠
    0xF000 ∧ (i.toNat * 256 + sub.toNat) ≠ Od.SESSION_OPEN ∧ (i.toNat * 256 + sub.toNat) ≠ Od.OWNER_CLAIM)) ∧ ((s.arrive t).liveCode (⟨0, 0, b, g, []⟩
    : WriteCtx) (s.arrive t).rd (i.toNat * 256 + sub.toNat) (v % 256 ^ len.toNat)) = 0) ∧
    (∃ (t : Stamp) (s : State) (b : Bool) (g : Bool) (i : BitVec 16) (len : BitVec 16) (sub : Byte) (v : Nat) (o : Bool), (((odExists i.toNat
    sub.toNat = true ∧ (Hub.rightCode i.toNat sub.toNat (if o then 1 else 2) 1) = 0 ∧ Hub.lengthCode i.toNat sub.toNat 0 len.toNat = 0) ∧ i.toNat ≠
    0xF000 ∧ (i.toNat * 256 + sub.toNat) ≠ Od.SESSION_OPEN ∧ (i.toNat * 256 + sub.toNat) ≠ Od.OWNER_CLAIM)) ∧ ((s.arrive t).liveCode (⟨0, 0, b, g, []⟩
    : WriteCtx) (s.arrive t).rd (i.toNat * 256 + sub.toNat) (v % 256 ^ len.toNat)) ≠ 0) ∧
    (∃ (i : BitVec 16) (len : BitVec 16) (sub : Byte) (o : Bool), ((odExists i.toNat sub.toNat = true ∧ (Hub.rightCode i.toNat sub.toNat (if o then 1
    else 2) 1) = 0 ∧ Hub.lengthCode i.toNat sub.toNat 0 len.toNat = 0)) ∧ i.toNat = 0xF000) :=
  ⟨⟨1000000000000, { st [] with odTxns := [(anOd 1)] }, (anOd 1), false, false, by decide +kernel⟩,
   ⟨1000000000000, { st [] with odTxns := [{ anOd 1 with staged := [⟨1, 1, 0⟩] }] }, { anOd 1 with staged := [⟨1, 1, 0⟩] }, false, false, 6, 1,
   by decide +kernel⟩,
   ⟨1000000000000, st [], by decide +kernel⟩,
   ⟨1000000000000, { st [] with odTxns := [(anOd 0)] }, (anOd 0), (some (.trunk 0)), by decide +kernel⟩,
   ⟨1000000000000, { st [] with odTxns := [{ anOd 0 with last := 10 ^ 15 }] }, { anOd 0 with last := 10 ^ 15 }, (some (.trunk 0)), by decide +kernel⟩,
   ⟨1000000000000, st [], none, by decide +kernel⟩,
   ⟨0, 0, by decide +kernel⟩,
   ⟨0x9000, 3, false, by decide +kernel⟩,
   ⟨0x5000, 5, 6, true, by decide +kernel⟩,
   ⟨1000000000000, st [], false, false, 0x5000, 4, 5, 0, true, by decide +kernel⟩,
   ⟨1000000000000, st [(Od.DOMAIN_RECORD 5, 0)], false, false, 0x5000, 4, 5, 0, true, by decide +kernel⟩,
   ⟨0xF000, 1, 1, true, by decide +kernel⟩⟩

/-- States and operands that meet the hypotheses of the statement DeviceCommands, one for each clause. -/
theorem witness_DeviceCommands :
    (∃ (t : Stamp) (s : State), ((s.arrive t).flintOn = true ∧ (s.arrive t).rd Reg.committing ≠ 1)) ∧
    (∃ (t : Stamp) (s : State) (j : SaveJob), (s.arrive t).saving = some j) ∧
    (∃ (t : Stamp) (s : State) (j : SaveJob) (a : Fin 8), (s.arrive t).saving = some j ∧ a ≠ 0) ∧
    (∃ (t : Stamp) (s : State) (j : SaveJob) (a : Fin 8) (b : Fin 8), (s.arrive t).saving = some j ∧ a ≠ 0 ∧ b ≠ 0) ∧
    (∃ (t : Stamp) (s : State), (s.arrive t).saving = none) ∧
    (∃ (t : Stamp) (s : State), ((s.arrive t).flintOn = true ∧ (s.arrive t).rd Reg.committing ≠ 1)) ∧
    (∃ (t : Stamp) (s : State), ((s.arrive t).flintOn = true ∧ (s.arrive t).rd Reg.committing ≠ 1)) ∧
    (∃ (t : Stamp) (s : State), ((s.arrive t).flintOn = true ∧ (s.arrive t).rd Reg.committing ≠ 1)) ∧
    (∃ (t : Stamp) (s : State), (s.arrive t).flintOn = true ∧ (s.arrive t).rd Reg.committing = 1) ∧
    (∃ (t : Stamp) (s : State), (s.arrive t).flintOn = false) :=
  ⟨⟨1000000000000, st [], by decide +kernel⟩,
   ⟨1000000000000, { st [] with saving := some ⟨0, 1, []⟩ }, ⟨0, 1, []⟩, by decide +kernel⟩,
   ⟨1000000000000, { st [] with saving := some ⟨0, 1, []⟩ }, ⟨0, 1, []⟩, 1, by decide +kernel⟩,
   ⟨1000000000000, { st [] with saving := some ⟨0, 1, []⟩ }, ⟨0, 1, []⟩, 1, 1, by decide +kernel⟩,
   ⟨1000000000000, st [], by decide +kernel⟩,
   ⟨1000000000000, st [], by decide +kernel⟩,
   ⟨1000000000000, st [], by decide +kernel⟩,
   ⟨1000000000000, st [], by decide +kernel⟩,
   ⟨1000000000000, st [(Reg.committing, 1)], by decide +kernel⟩,
   ⟨1000000000000, st [(Od.FW_STATE, 0)], by decide +kernel⟩⟩

/-- States and operands that meet the hypotheses of the statement HostLinkCommands, one for each clause. -/
theorem witness_HostLinkCommands :
    (∃ (t : Stamp) (s : State), (s.arrive t).isOn 12 = false) ∧
    (∃ (t : Stamp) (s : State), ((s.arrive t).isOn 12 = true)) ∧
    (∃ (t : Stamp) (s : State) (i : BitVec 16) (sub : Byte), ((s.arrive t).isOn 12 = true) ∧ Hub.windowed i.toNat sub.toNat = false) ∧
    (∃ (t : Stamp) (s : State) (i : BitVec 16) (sub : Byte), ((s.arrive t).isOn 12 = true) ∧ Hub.windowed i.toNat sub.toNat = true ∧ odDomain i.toNat
    sub.toNat ≠ 0 ∧ (s.arrive t).isOn (odDomain i.toNat sub.toNat) = false) ∧
    (∃ (t : Stamp) (s : State) (i : BitVec 16) (sub : Byte) (word : Byte), ((s.arrive t).isOn 12 = true) ∧ ((Hub.windowed i.toNat sub.toNat = true ∧
    (odDomain i.toNat sub.toNat = 0 ∨ (s.arrive t).isOn (odDomain i.toNat sub.toNat) = true))) ∧ word.toNat < (Hub.windowCount i.toNat sub.toNat)) ∧
    (∃ (t : Stamp) (s : State) (i : BitVec 16) (sub : Byte) (word : Byte), ((s.arrive t).isOn 12 = true) ∧ ((Hub.windowed i.toNat sub.toNat = true ∧
    (odDomain i.toNat sub.toNat = 0 ∨ (s.arrive t).isOn (odDomain i.toNat sub.toNat) = true))) ∧ (Hub.windowCount i.toNat sub.toNat) ≤ word.toNat) ∧
    (∃ (t : Stamp) (s : State) (i : BitVec 16) (sub : Byte) (word : Byte) (ws : List Word), ((s.arrive t).isOn 12 = true) ∧ (((Hub.windowCount i.toNat
    sub.toNat) ≠ 1 ∨ ws ≠ [])) ∧ ((s.arrive t).windowCode i.toNat sub.toNat (word.toNat == 0 && decide ((Hub.windowCount i.toNat sub.toNat) ≤ (ws.map
    (fun x => x.toNat)).length)) (pack ((ws.map (fun x => x.toNat)).take (Hub.windowCount i.toNat sub.toNat) |>.map (fun x => (4, x))) % 256 ^
    Hub.entrySize i.toNat sub.toNat)) = 0) ∧
    (∃ (t : Stamp) (s : State) (i : BitVec 16) (sub : Byte) (word : Byte) (ws : List Word), ((s.arrive t).isOn 12 = true) ∧ (((Hub.windowCount i.toNat
    sub.toNat) ≠ 1 ∨ ws ≠ [])) ∧ ((s.arrive t).windowCode i.toNat sub.toNat (word.toNat == 0 && decide ((Hub.windowCount i.toNat sub.toNat) ≤ (ws.map
    (fun x => x.toNat)).length)) (pack ((ws.map (fun x => x.toNat)).take (Hub.windowCount i.toNat sub.toNat) |>.map (fun x => (4, x))) % 256 ^
    Hub.entrySize i.toNat sub.toNat)) ≠ 0) ∧
    (∃ (t : Stamp) (s : State) (i : BitVec 16) (sub : Byte), ((s.arrive t).isOn 12 = true) ∧ (Hub.windowCount i.toNat sub.toNat) = 1) ∧
    (∃ (t : Stamp) (s : State), ((s.arrive t).isOn 12 = true) ∧ ((s.arrive t).odState = 1 ∨ (s.arrive t).odState = 3)) ∧
    (∃ (t : Stamp) (s : State) (bs : List Byte), ((s.arrive t).isOn 12 = true) ∧ (s.arrive t).odState ≠ 1 ∧ (s.arrive t).odState ≠ 3 ∧ (bs.length ≠ 12
    + field (ofBytes (bs.map (fun x => x.toNat))) 8 2 ∨ 1016 < field (ofBytes (bs.map (fun x => x.toNat))) 8 2)) ∧
    (∃ (t : Stamp) (s : State) (bs : List Byte), ((s.arrive t).isOn 12 = true) ∧ (s.arrive t).odState ≠ 1 ∧ (s.arrive t).odState ≠ 3 ∧ bs.length = 12
    + field (ofBytes (bs.map (fun x => x.toNat))) 8 2 ∧ field (ofBytes (bs.map (fun x => x.toNat))) 8 2 ≤ 1016) ∧
    (∃ (t : Stamp) (s : State), ((s.arrive t).isOn 12 = true) ∧ (((s.arrive t).hostServe.odState = 1 ∧ (s.arrive t).hostServe.odResp.isSome = true))) ∧
    (∃ (t : Stamp) (s : State), ((s.arrive t).isOn 12 = true) ∧ (¬ ((s.arrive t).hostServe.odState = 1 ∧ (s.arrive t).hostServe.odResp.isSome =
    true))) ∧
    (∃ (t : Stamp) (s : State) (off : BitVec 16) (len : BitVec 16), ((s.arrive t).isOn 12 = true) ∧ ((s.arrive t).rd Reg.mailbox ≠ 2 ∨ (s.arrive
    t).odResp = none) ∧ ((off.toNat ≠ 0 ∨ len.toNat = 0 ∨ (s.arrive t).rd Reg.mailbox ≠ 2))) ∧
    (∃ (t : Stamp) (s : State) (off : BitVec 16) (len : BitVec 16) (held : Nat × Nat), ((s.arrive t).isOn 12 = true) ∧ (s.arrive t).rd Reg.mailbox = 2
    ∧ (s.arrive t).odResp = some held ∧ off.toNat = 0 ∧ 1 ≤ len.toNat) ∧
    (∃ (t : Stamp) (s : State) (off : BitVec 16) (len : BitVec 16) (held : Nat × Nat), ((s.arrive t).isOn 12 = true) ∧ (s.arrive t).rd Reg.mailbox = 2
    ∧ (s.arrive t).odResp = some held ∧ ((off.toNat ≠ 0 ∨ len.toNat = 0))) ∧
    (∃ (t : Stamp) (s : State) (sel : Fin 3), ((s.arrive t).isOn 12 = true) ∧ (s.arrive t).fifo sel = []) ∧
    (∃ (t : Stamp) (s : State) (sel : Fin 3) (f : FifoWord) (r : List FifoWord), ((s.arrive t).isOn 12 = true) ∧ (s.arrive t).fifo sel = f :: r) ∧
    (∃ (t : Stamp) (s : State) (w : BitVec 40), ((s.arrive t).isOn 12 = true) ∧ hasBit w.toNat 39 = false) ∧
    (∃ (t : Stamp) (s : State) (w : BitVec 40), ((((s.arrive t).isOn 12 = true) ∧ hasBit w.toNat 39 = true)) ∧ hasBit w.toNat 38 = false ∧ (s.arrive
    t).rd Reg.txqSkip = 1) ∧
    (∃ (t : Stamp) (s : State) (w : BitVec 40), ((((s.arrive t).isOn 12 = true) ∧ hasBit w.toNat 39 = true)) ∧ hasBit w.toNat 38 = false ∧ (s.arrive
    t).rd Reg.txqSkip ≠ 1 ∧ ¬ (openWords (s.arrive t).txq ≠ [])) ∧
    (∃ (t : Stamp) (s : State) (w : BitVec 40), (((((s.arrive t).isOn 12 = true) ∧ hasBit w.toNat 39 = true) ∧ (hasBit w.toNat 38 = true ∨ ((s.arrive
    t).rd Reg.txqSkip ≠ 1 ∧ (openWords (s.arrive t).txq ≠ []))))) ∧ hasBit w.toNat 36 = true) ∧
    (∃ (t : Stamp) (s : State) (w : BitVec 40), (((((s.arrive t).isOn 12 = true) ∧ hasBit w.toNat 39 = true) ∧ (hasBit w.toNat 38 = true ∨ ((s.arrive
    t).rd Reg.txqSkip ≠ 1 ∧ (openWords (s.arrive t).txq ≠ []))))) ∧ hasBit w.toNat 36 = false ∧ (((if hasBit w.toNat 38 = true ∧ (openWords (s.arrive
    t).txq ≠ []) then (s.arrive t).dropOpen.txDiscard 2 else (s.arrive t)).wr Reg.txqSkip 0).txqFree = 0)) ∧
    (∃ (t : Stamp) (s : State) (w : BitVec 40), (((((s.arrive t).isOn 12 = true) ∧ hasBit w.toNat 39 = true) ∧ (hasBit w.toNat 38 = true ∨ ((s.arrive
    t).rd Reg.txqSkip ≠ 1 ∧ (openWords (s.arrive t).txq ≠ []))))) ∧ hasBit w.toNat 36 = false ∧ (((if hasBit w.toNat 38 = true ∧ (openWords (s.arrive
    t).txq ≠ []) then (s.arrive t).dropOpen.txDiscard 2 else (s.arrive t)).wr Reg.txqSkip 0).txqFree ≠ 0)) ∧
    (∃ (t : Stamp) (s : State), ((s.arrive t).isOn 12 = true)) ∧
    (∃ (t : Stamp) (s : State), ((s.arrive t).isOn 12 = true)) ∧
    (∃ (t : Stamp) (s : State), ((s.arrive t).isOn 12 = true)) :=
  ⟨⟨1000000000000, st [(Od.DOMAIN_RECORD 12, 0)], by decide +kernel⟩,
   ⟨1000000000000, st [(Od.DOMAIN_RECORD 12, 2)], by decide +kernel⟩,
   ⟨1000000000000, st [(Od.DOMAIN_RECORD 12, 2)], 0, 0, by decide +kernel⟩,
   ⟨1000000000000, st [(Od.DOMAIN_RECORD 12, 2), (Od.DOMAIN_RECORD 2, 0)], 0x4100, 1, by decide +kernel⟩,
   ⟨1000000000000, st [(Od.DOMAIN_RECORD 12, 2)], 0x8100, 0x23, 0, by decide +kernel⟩,
   ⟨1000000000000, st [(Od.DOMAIN_RECORD 12, 2)], 0x8100, 0x23, 1, by decide +kernel⟩,
   ⟨1000000000000, st [(Od.DOMAIN_RECORD 12, 2), (Od.WINDOW_WRITES, 1)], 0x5000, 5, 0, [1], by decide +kernel⟩,
   ⟨1000000000000, st [(Od.DOMAIN_RECORD 12, 2), (Od.WINDOW_WRITES, 0)], 0x5000, 5, 0, [1], by decide +kernel⟩,
   ⟨1000000000000, st [(Od.DOMAIN_RECORD 12, 2)], 0, 0, by decide +kernel⟩,
   ⟨1000000000000, st [(Od.DOMAIN_RECORD 12, 2), (Reg.mailbox, 1)], by decide +kernel⟩,
   ⟨1000000000000, st [(Od.DOMAIN_RECORD 12, 2)], [], by decide +kernel⟩,
   ⟨1000000000000, st [(Od.DOMAIN_RECORD 12, 2)], [0, 0, 0, 0, 0, 0, 0, 0, 0, 0, 0, 0], by decide +kernel⟩,
   ⟨1000000000000, { st [(Od.DOMAIN_RECORD 12, 2), (Reg.mailbox, 1)] with odResp := some (0, 0) }, by decide +kernel⟩,
   ⟨1000000000000, st [(Od.DOMAIN_RECORD 12, 2)], by decide +kernel⟩,
   ⟨1000000000000, st [(Od.DOMAIN_RECORD 12, 2)], 0, 0, by decide +kernel⟩,
   ⟨1000000000000, { st [(Reg.mailbox, 2), (Od.DOMAIN_RECORD 12, 2)] with odResp := some (0, 0) }, 0, 1, (0, 0), by decide +kernel⟩,
   ⟨1000000000000, { st [(Reg.mailbox, 2), (Od.DOMAIN_RECORD 12, 2)] with odResp := some (0, 0) }, 0, 0, (0, 0), by decide +kernel⟩,
   ⟨1000000000000, st [(Od.DOMAIN_RECORD 12, 2)], 0, by decide +kernel⟩,
   ⟨1000000000000, { st [(Od.DOMAIN_RECORD 12, 2)] with rxq0 := [⟨true, true, false, 0, 0, 0, 0⟩] }, 0, ⟨true, true, false, 0, 0, 0, 0⟩, [],
   by decide +kernel⟩,
   ⟨1000000000000, st [(Od.DOMAIN_RECORD 12, 2)], 0, by decide +kernel⟩,
   ⟨1000000000000, st [(Reg.txqSkip, 1), (Od.DOMAIN_RECORD 12, 2)], (2 ^ 39), by decide +kernel⟩,
   ⟨1000000000000, st [(Od.DOMAIN_RECORD 12, 2)], (2 ^ 39), by decide +kernel⟩,
   ⟨1000000000000, st [(Od.DOMAIN_RECORD 12, 2)], (2 ^ 39 + 2 ^ 38 + 2 ^ 36), by decide +kernel⟩,
   ⟨1000000000000, { st [(Od.DOMAIN_RECORD 12, 2)] with txq := List.replicate 1024 ⟨true, true, false, 0, 0, 0, 0⟩ }, (2 ^ 39 + 2 ^ 38),
   by decide +kernel⟩,
   ⟨1000000000000, st [(Od.DOMAIN_RECORD 12, 2)], (2 ^ 39 + 2 ^ 38), by decide +kernel⟩,
   ⟨1000000000000, st [(Od.DOMAIN_RECORD 12, 2)], by decide +kernel⟩,
   ⟨1000000000000, st [(Od.DOMAIN_RECORD 12, 2)], by decide +kernel⟩,
   ⟨1000000000000, st [(Od.DOMAIN_RECORD 12, 2)], by decide +kernel⟩⟩

/-- States and operands that meet the hypotheses of the statement DomainsAndClocks, one for each clause. -/
theorem witness_DomainsAndClocks :
    (∃ (t : Stamp) (s : State) (v : BitVec 256), (s.arrive t).Writable Od.DOMAIN_CMD v.toNat ∧ (s.arrive t).group = none) ∧
    (∃ (t : Stamp) (s : State) (v : BitVec 256) (g : GroupCmd), (s.arrive t).Writable Od.DOMAIN_CMD v.toNat ∧ (s.arrive t).group = some g) ∧
    (∃ (t : Stamp) (s : State) (v : BitVec 256), (s.arrive t).writeCode Od.DOMAIN_CMD v.toNat ≠ 0) ∧
    (∃ (t : Stamp) (s : State) (g : GroupCmd), (s.arrive t).group = some g ∧ g.source ≠ 3 ∧ ((s.arrive t).keep Od.DOMAIN_CANCEL 1).group = some g ∧
    g.phase ≠ 2 ∧ g.phase ≠ 4) ∧
    (∃ (t : Stamp) (s : State) (g : GroupCmd), (s.arrive t).group = some g ∧ g.source ≠ 3 ∧ ((s.arrive t).keep Od.DOMAIN_CANCEL 1).group = some g ∧
    g.phase = 2) ∧
    (∃ (t : Stamp) (s : State) (g : GroupCmd), (s.arrive t).group = some g ∧ g.source ≠ 3 ∧ ((s.arrive t).keep Od.DOMAIN_CANCEL 1).group = some g ∧
    g.phase = 4) ∧
    (∃ (t : Stamp) (s : State) (g : GroupCmd), (s.arrive t).group = some g ∧ g.source = 3) ∧
    (∃ (t : Stamp) (s : State), (s.arrive t).group = none) ∧
    (∃ (t : Stamp) (s : State), (s.arrive t).group = none) ∧
    (∃ (t : Stamp) (s : State) (g : GroupCmd), (s.arrive t).group = some g ∧ ((g.phase ≠ 0 ∨ (s.arrive t).edge = false))) ∧
    (∃ (t : Stamp) (s : State) (g : GroupCmd), (s.arrive t).group = some g ∧ g.phase = 0 ∧ (s.arrive t).edge = true ∧ g.stop = 0 ∧ g.todo = []) ∧
    (∃ (t : Stamp) (s : State) (g : GroupCmd), (s.arrive t).group = some g ∧ g.phase = 0 ∧ (s.arrive t).edge = true ∧ g.stop ≠ 0) ∧
    (∃ (t : Stamp) (s : State) (g : GroupCmd), (s.arrive t).edge = true ∧ (s.arrive t).due Tm.domDelay = true ∧ (s.arrive t).group = some g ∧ g.phase
    = 1 ∧ g.at_ ≠ 1 ∧ ((s.arrive t).wr Tm.domDelay 0).dom g.at_ = 3 ∧ g.stop = 0 ∧ g.todo = []) ∧
    (∃ (t : Stamp) (s : State), (s.arrive t).edge = true ∧ (s.arrive t).due Tm.domDelay = true ∧ (s.arrive t).group = none) ∧
    (∃ (t : Stamp) (s : State), ((s.arrive t).edge = false ∨ (s.arrive t).due Tm.domDelay = false)) ∧
    (∃ (t : Stamp) (s : State) (g : GroupCmd) (c : Fin 3), (s.arrive t).group = some g ∧ g.phase = 3 ∧ g.clocks.head? = some (c.val + 1) ∧ (¬
    ((s.arrive t).due Tm.clock = true ∨ (s.arrive t).now + 1 + clockMax (c.val + 1) < (s.arrive t).rd Tm.clock + clockMin (c.val + 1)))) ∧
    (∃ (t : Stamp) (s : State) (g : GroupCmd) (c : Fin 3), (s.arrive t).group = some g ∧ g.phase = 3 ∧ g.clocks.head? = some (c.val + 1) ∧ (((s.arrive
    t).due Tm.clock = true ∨ (s.arrive t).now + 1 + clockMax (c.val + 1) < (s.arrive t).rd Tm.clock + clockMin (c.val + 1)))) ∧
    (∃ (t : Stamp) (s : State) (g : GroupCmd) (c : Fin 3), (s.arrive t).group = some g ∧ ((g.phase ≠ 3 ∨ g.clocks.head? ≠ some (c.val + 1)))) ∧
    (∃ (t : Stamp) (s : State), (s.arrive t).group = none) ∧
    (∃ (t : Stamp) (s : State) (g : GroupCmd) (c : Fin 3) (cs : List Nat), (s.arrive t).due Tm.clock = true ∧ (s.arrive t).group = some g ∧ g.phase =
    3 ∧ g.clocks = (c.val + 1) :: cs) ∧
    (∃ (t : Stamp) (s : State), (s.arrive t).due Tm.clock = true ∧ (s.arrive t).group = none) ∧
    (∃ (t : Stamp) (s : State), (s.arrive t).due Tm.clock = false) ∧
    (∃ (t : Stamp) (s : State) (b : Bool), hasBit ((s.arrive t).rd Od.CLOCK_STATE) (clockBit (if b then 3 else 2)) = true) ∧
    (∃ (t : Stamp) (s : State) (b : Bool), hasBit ((s.arrive t).rd Od.CLOCK_STATE) (clockBit (if b then 3 else 2)) = false) ∧
    (∃ (t : Stamp) (s : State), (s.arrive t).rd Od.LF_SOURCE ≠ 1) ∧
    (∃ (t : Stamp) (s : State), (s.arrive t).rd Od.LF_SOURCE = 1) ∧
    (∃ (t : Stamp) (s : State), (s.arrive t).isOn 12 = false ∧ ((fun (j : Nat) => (byteAt ((s.arrive t).rd Od.ARMED_CMD) 4 ≠ 0 ∧ hasBit (byteAt
    ((s.arrive t).rd Od.ARMED_CMD) 5) j = true)) 1) ∧ (s.arrive t).group = none) ∧
    (∃ (t : Stamp) (s : State), (s.arrive t).isOn 12 = true ∨ ¬ (fun (j : Nat) => (byteAt ((s.arrive t).rd Od.ARMED_CMD) 4 ≠ 0 ∧ hasBit (byteAt
    ((s.arrive t).rd Od.ARMED_CMD) 5) j = true)) 1) ∧
    (∃ (t : Stamp) (s : State), (((s.arrive t).rd Od.CONTROL_UPSTREAM = 16 ∧ (s.arrive t).rd (Od.LINK_STATE 16) = 5)) ∧ ((fun (j : Nat) => (byteAt
    ((s.arrive t).rd Od.ARMED_CMD) 4 ≠ 0 ∧ hasBit (byteAt ((s.arrive t).rd Od.ARMED_CMD) 5) j = true)) 0) ∧ (s.arrive t).group = none) ∧
    (∃ (t : Stamp) (s : State) (g : GroupCmd), (((s.arrive t).rd Od.CONTROL_UPSTREAM = 16 ∧ (s.arrive t).rd (Od.LINK_STATE 16) = 5)) ∧ ((fun (j : Nat)
    => (byteAt ((s.arrive t).rd Od.ARMED_CMD) 4 ≠ 0 ∧ hasBit (byteAt ((s.arrive t).rd Od.ARMED_CMD) 5) j = true)) 0) ∧ (s.arrive t).group = some g ∧
    (s.arrive t).rd Reg.armedHeld ≠ 1) ∧
    (∃ (t : Stamp) (s : State) (g : GroupCmd), (((s.arrive t).rd Od.CONTROL_UPSTREAM = 16 ∧ (s.arrive t).rd (Od.LINK_STATE 16) = 5)) ∧ ((fun (j : Nat)
    => (byteAt ((s.arrive t).rd Od.ARMED_CMD) 4 ≠ 0 ∧ hasBit (byteAt ((s.arrive t).rd Od.ARMED_CMD) 5) j = true)) 0) ∧ (s.arrive t).group = some g ∧
    (s.arrive t).rd Reg.armedHeld = 1) ∧
    (∃ (t : Stamp) (s : State), ¬ (fun (j : Nat) => (byteAt ((s.arrive t).rd Od.ARMED_CMD) 4 ≠ 0 ∧ hasBit (byteAt ((s.arrive t).rd Od.ARMED_CMD) 5) j
    = true)) 0) ∧
    (∃ (t : Stamp) (s : State), (s.arrive t).rd Od.FW_STATE = 1 ∧ (s.arrive t).rd Reg.fwWarm ≠ 1) ∧
    (∃ (t : Stamp) (s : State), (s.arrive t).rd Od.FW_STATE ≠ 1) :=
  ⟨⟨1000000000000, st [], (256 ^ 4 + 6 * 256 ^ 8), by unfold Hub.Writable; decide +kernel⟩,
   ⟨1000000000000, { st [] with group := some aGroup }, (256 ^ 4 + 6 * 256 ^ 8), aGroup, by unfold Hub.Writable; decide +kernel⟩,
   ⟨1000000000000, st [], 0, by decide +kernel⟩,
   ⟨1000000000000, { st [] with group := some aGroup }, aGroup, by decide +kernel⟩,
   ⟨1000000000000, { st [] with group := some { aGroup with phase := 2 } }, { aGroup with phase := 2 }, by decide +kernel⟩,
   ⟨1000000000000, { st [] with group := some { aGroup with phase := 4 } }, { aGroup with phase := 4 }, by decide +kernel⟩,
   ⟨1000000000000, { st [] with group := some { aGroup with source := 3 } }, { aGroup with source := 3 }, by decide +kernel⟩,
   ⟨1000000000000, st [], by decide +kernel⟩,
   ⟨1000000000000, st [], by decide +kernel⟩,
   ⟨1000000000000, { st [] with group := some { aGroup with phase := 1 } }, { aGroup with phase := 1 }, by decide +kernel⟩,
   ⟨1000000000000, { st [] with group := some aGroup }, aGroup, by decide +kernel⟩,
   ⟨1000000000000, { st [] with group := some { aGroup with stop := 1 } }, { aGroup with stop := 1 }, by decide +kernel⟩,
   ⟨1000000000000, { st [(Tm.domDelay, 1), (Od.DOMAIN_RECORD 6, 3)] with group := some { aGroup with phase := 1 } }, { aGroup with phase := 1 },
   by decide +kernel⟩,
   ⟨1000000000000, st [(Tm.domDelay, 1)], by decide +kernel⟩,
   ⟨1000000000000, st [], by decide +kernel⟩,
   ⟨1000000000000, { st [] with group := some { aGroup with phase := 3, clocks := [1] } }, { aGroup with phase := 3, clocks := [1] }, 0,
   by decide +kernel⟩,
   ⟨1000000000000, { st [(Tm.clock, 1)] with group := some { aGroup with phase := 3, clocks := [1] } }, { aGroup with phase := 3, clocks := [1] }, 0,
   by decide +kernel⟩,
   ⟨1000000000000, { st [] with group := some aGroup }, aGroup, 0, by decide +kernel⟩,
   ⟨1000000000000, st [], by decide +kernel⟩,
   ⟨1000000000000, { st [(Tm.clock, 1)] with group := some { aGroup with phase := 3, clocks := [1] } }, { aGroup with phase := 3, clocks := [1] }, 0,
   [], by decide +kernel⟩,
   ⟨1000000000000, st [(Tm.clock, 1)], by decide +kernel⟩,
   ⟨1000000000000, st [], by decide +kernel⟩,
   ⟨1000000000000, st [(Od.CLOCK_STATE, 255)], false, by decide +kernel⟩,
   ⟨1000000000000, st [], false, by decide +kernel⟩,
   ⟨1000000000000, st [], by decide +kernel⟩,
   ⟨1000000000000, st [(Od.LF_SOURCE, 1)], by decide +kernel⟩,
   ⟨1000000000000, st [(Od.DOMAIN_RECORD 12, 0), (Od.ARMED_CMD, (256 ^ 4 + 2 * 256 ^ 5))], by decide +kernel⟩,
   ⟨1000000000000, st [(Od.DOMAIN_RECORD 12, 2)], by decide +kernel⟩,
   ⟨1000000000000, st [(Od.CONTROL_UPSTREAM, 16), ((Od.LINK_STATE 16), 5), (Od.ARMED_CMD, (256 ^ 4 + 256 ^ 5))], by decide +kernel⟩,
   ⟨1000000000000, { st [(Od.CONTROL_UPSTREAM, 16), ((Od.LINK_STATE 16), 5), (Od.ARMED_CMD, (256 ^ 4 + 256 ^ 5))] with group := some aGroup }, aGroup,
   by decide +kernel⟩,
   ⟨1000000000000,
   { st [(Reg.armedHeld, 1), (Od.CONTROL_UPSTREAM, 16), ((Od.LINK_STATE 16), 5), (Od.ARMED_CMD, (256 ^ 4 + 256 ^ 5))] with group := some aGroup },
   aGroup, by decide +kernel⟩,
   ⟨1000000000000, st [], by decide +kernel⟩,
   ⟨1000000000000, st [(Od.FW_STATE, 1)], by decide +kernel⟩,
   ⟨1000000000000, st [], by decide +kernel⟩⟩

/-- States and operands that meet the hypotheses of the statement OwnershipAndSlots, one for each clause. -/
theorem witness_OwnershipAndSlots :
    (∃ (t : Stamp) (s : State) (v : BitVec 256), (s.arrive t).Writable Od.ATTEST_NONCE v.toNat) ∧
    (∃ (t : Stamp) (s : State) (c : BitVec 1024), (s.arrive t).Writable Od.OWNER_CLAIM c.toNat) ∧
    (∃ (t : Stamp) (s : State), (s.arrive t).rd Od.SEC_STATE = 1) ∧
    (∃ (t : Stamp) (s : State), (s.arrive t).rd Od.SEC_STATE = 2 ∧ (s.arrive t).rd Od.TRANSFER_DEADLINE ≤ (s.arrive t).stamp) ∧
    (∃ (t : Stamp) (s : State), (s.arrive t).rd Od.SEC_STATE = 2 ∧ (s.arrive t).stamp < (s.arrive t).rd Od.TRANSFER_DEADLINE) ∧
    (∃ (t : Stamp) (s : State), (s.arrive t).rd Od.SEC_STATE = 0) ∧
    (∃ (t : Stamp) (s : State) (x : BitVec 288), (s.arrive t).Writable Od.TRANSFER x.toNat ∧ field x.toNat 0 32 ≠ 0) ∧
    (∃ (t : Stamp) (s : State) (x : BitVec 288), (s.arrive t).Writable Od.TRANSFER x.toNat ∧ field x.toNat 0 32 = 0) ∧
    (∃ (t : Stamp) (s : State), (s.arrive t).rd Od.SEC_STATE = 2 ∧ (s.arrive t).rd Od.TRANSFER_DEADLINE ≤ (s.arrive t).stamp) ∧
    (∃ (t : Stamp) (s : State), (s.arrive t).rd Od.SEC_STATE ≠ 2 ∨ (s.arrive t).stamp < (s.arrive t).rd Od.TRANSFER_DEADLINE) ∧
    (∃ (t : Stamp) (s : State) (i : Fin 12) (key : BitVec 512), (s.arrive t).Writable Od.SLOT_CMD (pack [(1, 1), (1, i.val + 1), (2, 0), (64,
    key.toNat)])) ∧
    (∃ (t : Stamp) (s : State) (i : Fin 12), (s.arrive t).Writable Od.SLOT_CMD (pack [(1, 2), (1, i.val + 1), (66, 0)]) ∧ ((s.arrive t).keep
    Od.SLOT_CMD (pack [(1, 2), (1, i.val + 1), (66, 0)])).slotResult (pack [(1, 2), (1, i.val + 1), (66, 0)]) = 1) ∧
    (∃ (t : Stamp) (s : State) (i : Fin 12), (s.arrive t).Writable Od.SLOT_CMD (pack [(1, 2), (1, i.val + 1), (66, 0)]) ∧ ((s.arrive t).keep
    Od.SLOT_CMD (pack [(1, 2), (1, i.val + 1), (66, 0)])).slotResult (pack [(1, 2), (1, i.val + 1), (66, 0)]) ≠ 1) :=
  ⟨⟨1000000000000, st [], 0, by unfold Hub.Writable; decide +kernel⟩,
   ⟨1000000000000, st [], 0, by unfold Hub.Writable; decide +kernel⟩,
   ⟨1000000000000, st [(Od.SEC_STATE, 1)], by decide +kernel⟩,
   ⟨1000000000000, st [(Od.SEC_STATE, 2)], by decide +kernel⟩,
   ⟨1000000000000, st [(Od.SEC_STATE, 2), (Od.TRANSFER_DEADLINE, (10 ^ 15))], by decide +kernel⟩,
   ⟨1000000000000, st [(Od.SEC_STATE, 0)], by decide +kernel⟩,
   ⟨1000000000000, st [], 1, by unfold Hub.Writable; decide +kernel⟩,
   ⟨1000000000000, st [], 0, by unfold Hub.Writable; decide +kernel⟩,
   ⟨1000000000000, st [(Od.SEC_STATE, 2)], by decide +kernel⟩,
   ⟨1000000000000, st [], by decide +kernel⟩,
   ⟨1000000000000, st [], 0, 0, by unfold Hub.Writable; decide +kernel⟩,
   ⟨1000000000000, st [], 0, by unfold Hub.Writable; decide +kernel⟩,
   ⟨1000000000000, st [(Od.KEY_SLOT 1, 1)], 0, by unfold Hub.Writable; decide +kernel⟩⟩

/-- States and operands that meet the hypotheses of the statement SessionCommands, one for each clause. -/
theorem witness_SessionCommands :
    (∃ (t : Stamp) (s : State) (v : BitVec 1696), (s.arrive t).Writable Od.SESSION_OPEN v.toNat) ∧
    (∃ (t : Stamp) (s : State) (v : BitVec 1696), (s.arrive t).writeCode Od.SESSION_OPEN v.toNat = 6 ∨ (s.arrive t).writeCode Od.SESSION_OPEN v.toNat
    = 8) ∧
    (∃ (t : Stamp) (s : State) (a : BitVec 16) (b : BitVec 16) (n : Nat), (s.arrive t).Writable Od.SESSION_CLOSE b.toNat ∧ ((s.arrive t).sessionOf
    a.toNat).isSome = true ∧ ((s.arrive t).sessionOf b.toNat).isSome = true ∧ (a.toNat = b.toNat ∨ (s.arrive t).sessionRole a.toNat = 1) ∧ ((s.arrive
    t).keep Od.SESSION_CLOSE b.toNat).sessionOf b.toNat = some n) ∧
    (∃ (t : Stamp) (s : State) (a : BitVec 16) (b : BitVec 16), (s.arrive t).Writable Od.SESSION_CLOSE b.toNat ∧ ((s.arrive t).sessionOf
    a.toNat).isSome = true ∧ ((s.arrive t).sessionOf b.toNat).isSome = true ∧ a.toNat ≠ b.toNat ∧ (s.arrive t).sessionRole a.toNat ≠ 1) ∧
    (∃ (t : Stamp) (s : State) (a : BitVec 16) (b : BitVec 16), (s.arrive t).Writable Od.SESSION_CLOSE b.toNat ∧ (s.arrive t).sessionOf a.toNat =
    none) ∧
    (∃ (t : Stamp) (s : State) (a : BitVec 16) (b : BitVec 16), (s.arrive t).Writable Od.SESSION_CLOSE b.toNat ∧ ((s.arrive t).sessionOf
    a.toNat).isSome = true ∧ (s.arrive t).sessionOf b.toNat = none) ∧
    (∃ (t : Stamp) (s : State) (b : BitVec 16), (s.arrive t).writeCode Od.SESSION_CLOSE b.toNat ≠ 0) ∧
    (∃ (t : Stamp) (s : State) (i : Fin 8), (s.arrive t).sessionOpen (i + 1) = true ∧ (seLastUse ((s.arrive t).sessionRec (i + 1)) + (s.arrive t).rd
    Od.SESSION_IDLE * 1000000000 ≤ (s.arrive t).stamp)) ∧
    (∃ (t : Stamp) (s : State) (i : Fin 8), (s.arrive t).sessionOpen (i + 1) = false ∨ ¬ (seLastUse ((s.arrive t).sessionRec (i + 1)) + (s.arrive
    t).rd Od.SESSION_IDLE * 1000000000 ≤ (s.arrive t).stamp)) ∧
    (∃ (t : Stamp) (s : State), (s.arrive t).Writable Od.ZEROISE 1) ∧
    (∃ (t : Stamp) (s : State), (s.arrive t).writeCode Od.ZEROISE 1 ≠ 0) ∧
    (∃ (t : Stamp) (s : State), (s.arrive t).due Tm.derive = true) ∧
    (∃ (t : Stamp) (s : State), (s.arrive t).due Tm.derive = false) :=
  ⟨⟨1000000000000, st [], 1, by unfold Hub.Writable; decide +kernel⟩,
   ⟨1000000000000, st [], 0, by decide +kernel⟩,
   ⟨1000000000000, st [(Od.SESSION_RECORD 1, (1 + 256 + 256 ^ 4)), (Od.SESSION_RECORD 2, (1 + 512 + 2 * 256 ^ 4))], 1, 1, 1,
   by unfold Hub.Writable; decide +kernel⟩,
   ⟨1000000000000, st [(Od.SESSION_RECORD 1, (1 + 256 + 256 ^ 4)), (Od.SESSION_RECORD 2, (1 + 512 + 2 * 256 ^ 4))], 2, 1,
   by unfold Hub.Writable; decide +kernel⟩,
   ⟨1000000000000, st [], 0, 0, by unfold Hub.Writable; decide +kernel⟩,
   ⟨1000000000000, st [(Od.SESSION_RECORD 1, (1 + 256 + 256 ^ 4)), (Od.SESSION_RECORD 2, (1 + 512 + 2 * 256 ^ 4))], 1, 7,
   by unfold Hub.Writable; decide +kernel⟩,
   ⟨1000000000000, st [(Od.DOMAIN_RECORD 11, 0)], 0, by decide +kernel⟩,
   ⟨1000000000000, st [(Od.SESSION_RECORD 1, (1 + 256 + 256 ^ 4)), (Od.SESSION_RECORD 2, (1 + 512 + 2 * 256 ^ 4))], 0, by decide +kernel⟩,
   ⟨1000000000000, st [], 0, by decide +kernel⟩,
   ⟨1000000000000, st [], by unfold Hub.Writable; decide +kernel⟩,
   ⟨1000000000000, st [(Od.DOMAIN_RECORD 11, 0)], by decide +kernel⟩,
   ⟨1000000000000, st [(Tm.derive, 1)], by decide +kernel⟩,
   ⟨1000000000000, st [], by decide +kernel⟩⟩

/-- States and operands that meet the hypotheses of the statement FirmwareSlots, one for each clause. -/
theorem witness_FirmwareSlots :
    (∃ (t : Stamp) (s : State) (v : BitVec 4096), (((s.arrive t).Writable Od.FW_WRITE_DATA v.toNat ∧ (s.arrive t).isOn 12 = true ∧ (s.arrive t).rd
    Od.FW_RESULT ≠ 2)) ∧ (((s.arrive t).keep Od.FW_WRITE_DATA v.toNat).rd Od.FW_WRITE_AT) ≤ 523776) ∧
    (∃ (t : Stamp) (s : State) (v : BitVec 4096), (((s.arrive t).Writable Od.FW_WRITE_DATA v.toNat ∧ (s.arrive t).isOn 12 = true ∧ (s.arrive t).rd
    Od.FW_RESULT ≠ 2)) ∧ (((s.arrive t).keep Od.FW_WRITE_DATA v.toNat).rd Od.FW_WRITE_AT) ≤ 523776) ∧
    (∃ (t : Stamp) (s : State) (v : BitVec 4096), (((s.arrive t).Writable Od.FW_WRITE_DATA v.toNat ∧ (s.arrive t).isOn 12 = true ∧ (s.arrive t).rd
    Od.FW_RESULT ≠ 2)) ∧ 523776 < (((s.arrive t).keep Od.FW_WRITE_DATA v.toNat).rd Od.FW_WRITE_AT)) ∧
    (∃ (t : Stamp) (s : State) (v : BitVec 4096), (s.arrive t).Writable Od.FW_WRITE_DATA v.toNat ∧ (s.arrive t).isOn 12 = false) ∧
    (∃ (t : Stamp) (s : State) (v : BitVec 4096), (s.arrive t).Writable Od.FW_WRITE_DATA v.toNat ∧ (s.arrive t).isOn 12 = true ∧ (s.arrive t).rd
    Od.FW_RESULT = 2) ∧
    (∃ (t : Stamp) (s : State) (v : BitVec 4096), (s.arrive t).writeCode Od.FW_WRITE_DATA v.toNat ≠ 0) ∧
    (∃ (t : Stamp) (s : State), (fun (c : Nat) => ((s.arrive t).Writable Od.FW_CMD c ∧ (s.arrive t).rd Od.FW_RESULT ≠ 2)) 1) ∧
    (∃ (t : Stamp) (s : State), (fun (c : Nat) => ((s.arrive t).Writable Od.FW_CMD c ∧ (s.arrive t).rd Od.FW_RESULT ≠ 2)) 2) ∧
    (∃ (t : Stamp) (s : State), (s.arrive t).rd Od.FW_RESULT = 2) ∧
    (∃ (t : Stamp) (s : State), (s.arrive t).rd Od.FW_RESULT ≠ 2) ∧
    (∃ (t : Stamp) (s : State), ((fun (c : Nat) => ((s.arrive t).Writable Od.FW_CMD c ∧ (s.arrive t).rd Od.FW_RESULT ≠ 2)) 3) ∧ ((fun (c : Nat) =>
    ((s.arrive t).keep Od.FW_CMD c)) 3).rd Reg.fwChecked = 1) ∧
    (∃ (t : Stamp) (s : State), ((fun (c : Nat) => ((s.arrive t).Writable Od.FW_CMD c ∧ (s.arrive t).rd Od.FW_RESULT ≠ 2)) 3) ∧ ((fun (c : Nat) =>
    ((s.arrive t).keep Od.FW_CMD c)) 3).rd Reg.fwChecked ≠ 1) ∧
    (∃ (t : Stamp) (s : State), (fun (c : Nat) => ((s.arrive t).Writable Od.FW_CMD c ∧ (s.arrive t).rd Od.FW_RESULT ≠ 2)) 4) :=
  ⟨⟨1000000000000, st [(Od.DOMAIN_RECORD 12, 2)], 0, by unfold Hub.Writable; decide +kernel⟩,
   ⟨1000000000000, st [(Od.DOMAIN_RECORD 12, 2)], 0, by unfold Hub.Writable; decide +kernel⟩,
   ⟨1000000000000, st [(Od.DOMAIN_RECORD 12, 2), (Od.FW_WRITE_AT, 524288)], 0, by unfold Hub.Writable; decide +kernel⟩,
   ⟨1000000000000, st [(Od.DOMAIN_RECORD 12, 0)], 0, by unfold Hub.Writable; decide +kernel⟩,
   ⟨1000000000000, st [(Od.DOMAIN_RECORD 12, 2), (Od.FW_RESULT, 2)], 0, by unfold Hub.Writable; decide +kernel⟩,
   ⟨1000000000000, st [(Od.DOMAIN_RECORD 11, 0)], 0, by decide +kernel⟩,
   ⟨1000000000000, st [], by unfold Hub.Writable; decide +kernel⟩,
   ⟨1000000000000, st [], by unfold Hub.Writable; decide +kernel⟩,
   ⟨1000000000000, st [(Od.FW_RESULT, 2)], by decide +kernel⟩,
   ⟨1000000000000, st [], by decide +kernel⟩,
   ⟨1000000000000, st [(Reg.fwChecked, 1)], by unfold Hub.Writable; decide +kernel⟩,
   ⟨1000000000000, st [], by unfold Hub.Writable; decide +kernel⟩,
   ⟨1000000000000, st [], by unfold Hub.Writable; decide +kernel⟩⟩

/-- States and operands that meet the hypotheses of the statement KeyExchanges, one for each clause. -/
theorem witness_KeyExchanges :
    (∃ (t : Stamp) (s : State) (u : Trunk), ((s.arrive t).rd (Reg.keyxDue u) = 1 ∧ (s.arrive t).rd Od.TRUNK_ENC ≠ 0 ∧ ((s.arrive t).keyxUpstream u =
    true ∧ (s.arrive t).keyxOf u = none ∧ (s.arrive t).isOn 11 = true ∧ (s.arrive t).flintOn = true))) ∧
    (∃ (t : Stamp) (s : State) (u : Trunk), ¬ ((s.arrive t).rd (Reg.keyxDue u) = 1 ∧ (s.arrive t).rd Od.TRUNK_ENC ≠ 0 ∧ ((s.arrive t).keyxUpstream u =
    true ∧ (s.arrive t).keyxOf u = none ∧ (s.arrive t).isOn 11 = true ∧ (s.arrive t).flintOn = true))) ∧
    (∃ (t : Stamp) (s : State) (u : Trunk) (body : BitVec 1152), (s.arrive t).Writable Od.LINK_KEYX (pack [(1, 1), (3, 0), (144, body.toNat)]) ∧
    (((s.arrive t).downstreamEnd (16 + u) = true ∧ (s.arrive t).rd (Od.LINK_STATE (16 + u)) = 4 ∧ (s.arrive t).rd (Od.LINK_CLASS (16 + u)) = 4 ∧
    (s.arrive t).keyxOf u = none)) ∧ ((s.arrive t).keep Od.LINK_KEYX (pack [(1, 1), (3, 0), (144, body.toNat)])).rd Od.TRUNK_ENC ≠ 0 ∧ byteAt (pack
    [(1, 1), (3, 0), (144, body.toNat)]) 0 = 1) ∧
    (∃ (t : Stamp) (s : State) (u : Trunk) (body : BitVec 1152), (s.arrive t).Writable Od.LINK_KEYX (pack [(1, 1), (3, 0), (144, body.toNat)]) ∧
    (((s.arrive t).downstreamEnd (16 + u) = true ∧ (s.arrive t).rd (Od.LINK_STATE (16 + u)) = 4 ∧ (s.arrive t).rd (Od.LINK_CLASS (16 + u)) = 4 ∧
    (s.arrive t).keyxOf u = none)) ∧ ((s.arrive t).keep Od.LINK_KEYX (pack [(1, 1), (3, 0), (144, body.toNat)])).rd Od.TRUNK_ENC = 0) ∧
    (∃ (t : Stamp) (s : State) (u : Trunk) (body : BitVec 1152), (s.arrive t).Writable Od.LINK_KEYX (pack [(1, 1), (3, 0), (144, body.toNat)]) ∧
    (((s.arrive t).downstreamEnd (16 + u) = false ∨ (s.arrive t).rd (Od.LINK_STATE (16 + u)) ≠ 4 ∨ (s.arrive t).rd (Od.LINK_CLASS (16 + u)) ≠ 4 ∨
    (s.arrive t).keyxOf u ≠ none))) ∧
    (∃ (t : Stamp) (s : State) (u : Trunk) (body : BitVec 1152), (s.arrive t).Writable Od.LINK_KEYX (pack [(1, 2), (3, 0), (144, body.toNat)]) ∧
    (((s.arrive t).downstreamEnd (16 + u) = true ∧ (s.arrive t).rd (Od.LINK_STATE (16 + u)) = 4 ∧ (s.arrive t).rd (Od.LINK_CLASS (16 + u)) = 4 ∧
    (s.arrive t).keyxOf u = none)) ∧ ((s.arrive t).keep Od.LINK_KEYX (pack [(1, 2), (3, 0), (144, body.toNat)])).rd Od.TRUNK_ENC ≠ 0 ∧ byteAt (pack
    [(1, 2), (3, 0), (144, body.toNat)]) 0 = 2) ∧
    (∃ (t : Stamp) (s : State) (u : Trunk) (body : BitVec 1152), (s.arrive t).Writable Od.LINK_KEYX (pack [(1, 2), (3, 0), (144, body.toNat)]) ∧
    (((s.arrive t).downstreamEnd (16 + u) = false ∨ (s.arrive t).rd (Od.LINK_STATE (16 + u)) ≠ 4 ∨ (s.arrive t).rd (Od.LINK_CLASS (16 + u)) ≠ 4 ∨
    (s.arrive t).keyxOf u ≠ none))) ∧
    (∃ (t : Stamp) (s : State) (u : Trunk) (body : BitVec 1152), (s.arrive t).Writable Od.LINK_KEYX (pack [(1, 2), (3, 0), (144, body.toNat)]) ∧
    (((s.arrive t).downstreamEnd (16 + u) = true ∧ (s.arrive t).rd (Od.LINK_STATE (16 + u)) = 4 ∧ (s.arrive t).rd (Od.LINK_CLASS (16 + u)) = 4 ∧
    (s.arrive t).keyxOf u = none)) ∧ ((s.arrive t).keep Od.LINK_KEYX (pack [(1, 2), (3, 0), (144, body.toNat)])).rd Od.TRUNK_ENC = 0) ∧
    (∃ (t : Stamp) (s : State) (body : BitVec 1152), (s.arrive t).writeCode Od.LINK_KEYX (pack [(1, 1), (3, 0), (144, body.toNat)]) ≠ 0) ∧
    (∃ (t : Stamp) (s : State) (body : BitVec 1152), (s.arrive t).writeCode Od.LINK_KEYX (pack [(1, 2), (3, 0), (144, body.toNat)]) ≠ 0) ∧
    (∃ (t : Stamp) (s : State) (u : Trunk) (k : KeyExchange), (s.arrive t).keyxOf u = some k ∧ k.upstream = false) ∧
    (∃ (t : Stamp) (s : State) (u : Trunk) (k : KeyExchange), (s.arrive t).keyxOf u = some k ∧ k.upstream = true) ∧
    (∃ (t : Stamp) (s : State) (u : Trunk), (s.arrive t).keyxOf u = none) ∧
    (∃ (t : Stamp) (s : State) (u : Trunk), ((s.arrive t).rd (Reg.keyTx u) = 1 ∧ ((s.arrive t).due (Tm.rekey u) = true ∨ 2 ^ 30 ≤ (s.arrive t).rd
    (Reg.keyE u) ∨ 2 ^ 30 ≤ (s.arrive t).rd (Reg.keyFramesRx u)) ∧ ((s.arrive t).keyxUpstream u = true ∧ (s.arrive t).keyxOf u = none ∧ (s.arrive
    t).isOn 11 = true ∧ (s.arrive t).flintOn = true))) ∧
    (∃ (t : Stamp) (s : State) (u : Trunk), ¬ ((s.arrive t).rd (Reg.keyTx u) = 1 ∧ ((s.arrive t).due (Tm.rekey u) = true ∨ 2 ^ 30 ≤ (s.arrive t).rd
    (Reg.keyE u) ∨ 2 ^ 30 ≤ (s.arrive t).rd (Reg.keyFramesRx u)) ∧ ((s.arrive t).keyxUpstream u = true ∧ (s.arrive t).keyxOf u = none ∧ (s.arrive
    t).isOn 11 = true ∧ (s.arrive t).flintOn = true))) ∧
    (∃ (t : Stamp) (s : State) (u : Trunk), (s.arrive t).due (Tm.keyAgree u) = true ∧ (((s.arrive t).rd Od.TRUNK_ENC = 2 ∧ (s.arrive t).rd (Reg.keyTx
    u) = 0 ∧ ((s.arrive t).wr (Tm.keyAgree u) 0).upstreamEnd (16 + u) = true ∧ 4 ≤ (s.arrive t).rd (Od.PORT_STATE (16 + u))))) ∧
    (∃ (t : Stamp) (s : State) (u : Trunk), (s.arrive t).due (Tm.keyAgree u) = true ∧ (¬ ((s.arrive t).rd Od.TRUNK_ENC = 2 ∧ (s.arrive t).rd
    (Reg.keyTx u) = 0 ∧ ((s.arrive t).wr (Tm.keyAgree u) 0).upstreamEnd (16 + u) = true ∧ 4 ≤ (s.arrive t).rd (Od.PORT_STATE (16 + u))))) ∧
    (∃ (t : Stamp) (s : State) (u : Trunk), (s.arrive t).due (Tm.keyAgree u) = false) ∧
    (∃ (t : Stamp) (s : State) (u : Trunk), (s.arrive t).due (Tm.keyRetry u) = true ∧ (s.arrive t).rd Od.TRUNK_ENC = 1 ∧ (s.arrive t).rd (Reg.keyTx u)
    = 0) ∧
    (∃ (t : Stamp) (s : State) (u : Trunk), (s.arrive t).due (Tm.keyRetry u) = true ∧ (((s.arrive t).rd Od.TRUNK_ENC ≠ 1 ∨ (s.arrive t).rd (Reg.keyTx
    u) ≠ 0))) ∧
    (∃ (t : Stamp) (s : State) (u : Trunk), (s.arrive t).due (Tm.keyRetry u) = false) :=
  ⟨⟨1000000000000, st [((Reg.keyxDue 0), 1), (Od.TRUNK_ENC, 1), (Od.DOMAIN_RECORD 11, 2), (Od.ATTACH_STATE 16, 4), (Od.LINK_STATE 16, 4),
   (Od.LINK_CLASS 16, 4)], 0, by decide +kernel⟩,
   ⟨1000000000000, st [], 0, by decide +kernel⟩,
   ⟨1000000000000, st [(Od.TRUNK_ENC, 1), (Od.ATTACH_STATE (16 + 0), 5), ((Od.LINK_STATE (16 + 0)), 4), ((Od.LINK_CLASS (16 + 0)), 4)], 0, 0,
   by unfold Hub.Writable; decide +kernel⟩,
   ⟨1000000000000, st [(Od.TRUNK_ENC, 0), (Od.ATTACH_STATE (16 + 0), 5), ((Od.LINK_STATE (16 + 0)), 4), ((Od.LINK_CLASS (16 + 0)), 4)], 0, 0,
   by unfold Hub.Writable; decide +kernel⟩,
   ⟨1000000000000, st [], 0, 0, by unfold Hub.Writable; decide +kernel⟩,
   ⟨1000000000000, st [(Od.TRUNK_ENC, 1), (Od.ATTACH_STATE (16 + 0), 5), ((Od.LINK_STATE (16 + 0)), 4), ((Od.LINK_CLASS (16 + 0)), 4)], 0, 0,
   by unfold Hub.Writable; decide +kernel⟩,
   ⟨1000000000000, st [], 0, 0, by unfold Hub.Writable; decide +kernel⟩,
   ⟨1000000000000, st [(Od.TRUNK_ENC, 0), (Od.ATTACH_STATE (16 + 0), 5), ((Od.LINK_STATE (16 + 0)), 4), ((Od.LINK_CLASS (16 + 0)), 4)], 0, 0,
   by unfold Hub.Writable; decide +kernel⟩,
   ⟨1000000000000, st [(Od.DOMAIN_RECORD 11, 0)], 0, by decide +kernel⟩,
   ⟨1000000000000, st [(Od.DOMAIN_RECORD 11, 0)], 0, by decide +kernel⟩,
   ⟨1000000000000, { st [] with keyx := [⟨0, false, 1, 0, 0, 0, 0, 0⟩] }, 0, ⟨0, false, 1, 0, 0, 0, 0, 0⟩, by decide +kernel⟩,
   ⟨1000000000000, { st [] with keyx := [⟨0, true, 1, 0, 0, 0, 0, 0⟩] }, 0, ⟨0, true, 1, 0, 0, 0, 0, 0⟩, by decide +kernel⟩,
   ⟨1000000000000, st [], 0, by decide +kernel⟩,
   ⟨1000000000000, st [((Reg.keyTx 0), 1), ((Tm.rekey 0), 1), (Od.DOMAIN_RECORD 11, 2), (Od.ATTACH_STATE 16, 4), (Od.LINK_STATE 16, 4), (Od.LINK_CLASS
   16, 4)], 0, by decide +kernel⟩,
   ⟨1000000000000, st [], 0, by decide +kernel⟩,
   ⟨1000000000000, st [((Tm.keyAgree 0), 1), (Od.TRUNK_ENC, 2), ((Reg.keyTx 0), 0), (Od.ATTACH_STATE (16 + 0), 4), ((Od.PORT_STATE (16 + 0)), 4)], 0,
   by decide +kernel⟩,
   ⟨1000000000000, st [((Tm.keyAgree 0), 1)], 0, by decide +kernel⟩,
   ⟨1000000000000, st [], 0, by decide +kernel⟩,
   ⟨1000000000000, st [((Tm.keyRetry 0), 1), (Od.TRUNK_ENC, 1), ((Reg.keyTx 0), 0)], 0, by decide +kernel⟩,
   ⟨1000000000000, st [((Tm.keyRetry 0), 1)], 0, by decide +kernel⟩,
   ⟨1000000000000, st [], 0, by decide +kernel⟩⟩

end Sys2Proof.Tests
end

section
/-!
Every step keeps the hub sound (R18, R319, R396, R462, R476): each command's effect does, and so do the clock's advance before it and the
settling after it.
-/
namespace Sys2Proof.Machine

/-- An effect keeps the hub sound. -/
def Hub.Keeps (f : Hub → Hub) : Prop := ∀ h : Hub, h.Sound → (f h).Sound

/-- An answer that is a next state is a sound one. -/
def Out.Sound (o : Out) : Prop := ∀ t : State, o = .next t → t.Sound

/-- A command whose effect keeps the hub sound leads from a sound state to a sound one: the clock's advance and the settling keep it too. -/
theorem act_sound {t : Stamp} {s : State} {f : Hub → Hub} (w : s.Sound) (k : Hub.Keeps f) : Out.Sound (act t s f) := by
  rintro _ ⟨⟩
  exact Hub.Sound.settle _ (k _ (Hub.Sound.advance w _))

namespace Hub.Keeps

theorem live {f : Hub → Hub} (k : Keeps f) : Keeps (Hub.live f) := fun h w => Sound.live f h k w

theorem hosted {f : Hub → Hub} (k : Keeps f) : Keeps (Hub.hosted f) := fun h w => Sound.hosted f h k w

theorem writing {f : Hub → Hub} {e v : Nat} (k : Keeps f) : Keeps (Hub.writing e v f) := fun h w => Sound.writing e v f h k w

theorem judged {f : Hub → Hub} {code : Hub → Nat} {e v : Nat} (k : Keeps f) : Keeps (fun h => h.judged (code h) e v f) :=
  fun h w => Sound.judged _ e v f h k w

theorem waitPassed {f : Hub → Hub} {p e : Nat} {busy : Bool} (k : Keeps f) : Keeps (Hub.waitPassed p e f busy) :=
  fun h w => Sound.waitPassed p e f busy h k w

end Hub.Keeps

/-- Every command's effect keeps the hub sound. -/
theorem exec_sound (i : Instr) {s : State} (w : s.Sound) : Out.Sound (exec i s) := by
  cases i with
  | fastTrip => exact act_sound w fun _ w => .fastTrip (w_h := w) ..
  | activeLimitingEntry => exact act_sound w fun _ w => .limitEntry (w_h := w) ..
  | timedLimitTrip => exact act_sound w fun _ w => .limitTrip (w_h := w) ..
  | limitingGuardTrip => exact act_sound w fun _ w => .guardTrip (w_h := w) ..
  | reverseTrip => exact act_sound w fun _ w => .reverseTrip (w_h := w) ..
  | retryHoldoffExpiry =>
    dsimp only [exec, execRetryHoldoffExpiry]
    exact act_sound w fun _ w => .expire w _ id fun _ w => w
  | dischargeComplete => exact act_sound w fun _ w => .dischargeDone (w_h := w) ..
  | vbusBelow5v => exact act_sound w fun _ w => .vbusLow (w_h := w) ..
  | dischargeTimeout => exact act_sound w fun _ w => .dischargeTimeout (w_h := w) ..
  | inrushSettled => exact act_sound w fun _ w => .inrushSettled (w_h := w) ..
  | powerCmdOff => exact act_sound w (.writing fun _ w => .commandOff (w_h := w) ..)
  | powerCmdRestoreDefault =>
    dsimp only [exec, execPowerCmdRestoreDefault]
    exact act_sound w fun _ w => .writing (w_f := fun _ w => .commandRestore (w_h := w) ..) (w_h := .sense (w_h := w) ..) ..
  | limitSetWrite => exact act_sound w (.writing fun _ w => .writeLimitSet (w_h := w) ..)
  | ocGroupAssert => exact act_sound w fun _ w => .groupAssert (w_h := w) ..
  | ocGroupRelease => exact act_sound w fun _ w => .groupRelease (w_h := w) ..
  | budgetTick => exact act_sound w fun _ w => .tick (w_h := w) ..
  | screenReading => exact act_sound w fun _ w => .screenEnd (w_h := w) ..
  | hourlyMean => exact act_sound w fun _ w => .hourEnd (w_h := w) ..
  | forcedMonitorSlot => exact act_sound w fun _ w => .forceSlot (w_h := w) ..
  | tdrTraceComplete => exact act_sound w fun _ w => .traceEnd (w_h := w) ..
  | tdrIntervalExpiry => exact act_sound w fun _ w => .intervalTrace (w_h := w) ..
  | tdrStart => exact act_sound w (.writing fun _ w => .beginTrace (w_h := w) ..)
  | tripLocationTrace => exact act_sound w fun _ w => .tripTrace (w_h := w) ..
  | captureBaseline => exact act_sound w (.writing fun _ w => .captureBaseline (w_h := w) ..)
  | probeStart => exact act_sound w fun _ w => .probeWrite (w_h := w) ..
  | probePhaseEnd =>
    dsimp only [exec, execProbePhaseEnd]
    exact act_sound w fun _ w => .probePhaseEnd (w_h := .sense (w_h := w) ..) ..
  | sniffSample => exact act_sound w (.live fun _ w => .sniff (w_h := w) ..)
  | classifyStageEnd => exact act_sound w (.live fun _ w => .stageEnd (w_h := w) ..)
  | attachDebounceDone => exact act_sound w (.live fun _ w => .debounced (w_h := w) ..)
  | candidateBackoffEnd => exact act_sound w (.live fun _ w => .backoffEnd (w_h := w) ..)
  | togglePhaseEnd => exact act_sound w (.live fun _ w => .toggleEnd (w_h := w) ..)
  | tryDebounceDone => exact act_sound w (.live fun _ w => .tryDebounced (w_h := w) ..)
  | tryTimeout => exact act_sound w (.live fun _ w => .tryEnd (w_h := w) ..)
  | tryWaitTimeout => exact act_sound w (.live fun _ w => .tryWaitEnd (w_h := w) ..)
  | detach => exact act_sound w (.live fun _ w => .detached (w_h := w) ..)
  | cfOvervoltage => exact act_sound w (.live fun _ w => .overvoltage (w_h := w) ..)
  | attachRelease => exact act_sound w fun _ w => .attachRelease (w_h := w) ..
  | cfMessageReceived => exact act_sound w (.live fun _ w => .messageIn (w_h := w) ..)
  | goodAckReceived => exact act_sound w (.live fun _ w => .goodAckIn (w_h := w) ..)
  | cfReceiveTimeout => exact act_sound w (.live fun _ w => .receiveTimeout (w_h := w) ..)
  | hardResetReceived => exact act_sound w (.live fun _ w => .hardResetIn (w_h := w) ..)
  | holdLeadExpiry => exact act_sound w (.live fun _ w => .holdLeadEnd (w_h := w) ..)
  | waitRetryExpiry => exact act_sound w (.live fun _ w => .waitRetryEnd (w_h := w) ..)
  | newExchangeStart => exact act_sound w fun _ w => .exchangeStart (w_h := w) ..
  | cfAnswerNewExchange => exact act_sound w (.writing fun _ w => .cfAnswer (w_h := w) ..)
  | cfAnswerAnswer =>
    dsimp only [exec, execCfAnswerAnswer]
    exact act_sound w fun _ w => .writing (w_f := fun _ w => .cfAnswer (w_h := w) ..) (w_h := .sense (w_h := w) ..) ..
  | cfAnswerHardReset => exact act_sound w (.writing fun _ w => .cfAnswer (w_h := w) ..)
  | answerDeadline => exact act_sound w fun _ w => .answerDeadline (w_h := w) ..
  | firstCapsExpiry => exact act_sound w fun _ w => .firstCapsEnd (w_h := w) ..
  | sinkRequestTimeout => exact act_sound w (.waitPassed fun _ w => .noRequest (w_h := w) ..)
  | responseTimeout => exact act_sound w (.waitPassed fun _ w => .noAnswer (w_h := w) ..)
  | readyWaitTimeout => exact act_sound w (.waitPassed fun _ w => .noReady (w_h := w) ..)
  | moveRailReached => exact act_sound w fun _ w => .railReached (w_h := w) ..
  | moveSettled => exact act_sound w fun _ w => .moveSettled (w_h := w) ..
  | slewGuardAbort => exact act_sound w fun _ w => .slewGuard (w_h := w) ..
  | transitionDetachAbort => exact act_sound w fun _ w => .detachAbort (w_h := w) ..
  | detachGlitch => exact act_sound w fun _ w => .detachGlitch (w_h := w) ..
  | srcRecoverExpiry => exact act_sound w fun _ w => .srcRecoverEnd (w_h := w) ..
  | softResetReceived => exact act_sound w (.live fun _ w => .softResetIn (w_h := w) ..)
  | cfsFault => exact act_sound w fun _ w => .cfsFault (w_h := w) ..
  | cfsRestart => exact act_sound w (.writing fun _ w => .cfsRestart (w_h := w) ..)
  | cfsEnableWrite => exact act_sound w (.writing fun _ w => .writeCfsEnable (w_h := w) ..)
  | cfsStable => exact act_sound w fun _ w => .cfsStable (w_h := w) ..
  | serialFrameClose => exact act_sound w fun _ w => .serialClose (w_h := w) ..
  | serialTxStart => exact act_sound w fun _ w => .serialStart (w_h := w) ..
  | lineTestTrace => exact act_sound w fun _ w => .lineTest (w_h := w) ..
  | pullupDetected => exact act_sound w fun _ w => .pullupSeen (w_h := w) ..
  | pullupLost => exact act_sound w fun _ w => .pullupGone (w_h := w) ..
  | connectDebounceDone => exact act_sound w fun _ w => .connected (w_h := w) ..
  | resetSe0End => exact act_sound w fun _ w => .offerWindow (w_h := w) ..
  | linkResetSeen => exact act_sound w fun _ w => .resetSeen (w_h := w) ..
  | offerEnd => exact act_sound w fun _ w => .offerEnd (w_h := w) ..
  | offerWindowEnd => exact act_sound w fun _ w => .offerWindowEnd (w_h := w) ..
  | grantReceived => exact act_sound w fun _ w => .grantSeen (w_h := w) ..
  | trainingLocked => exact act_sound w fun _ w => .trained (w_h := w) ..
  | trainTimeout => exact act_sound w fun _ w => .trainTimeout (w_h := w) ..
  | sofBoundary => exact act_sound w fun _ w => .sofBoundary (w_h := w) ..
  | tokenReceived => exact act_sound w fun _ w => .tokenReceived (w_h := w) ..
  | pingTimeEcho => exact act_sound w fun _ w => .timeEcho (w_h := w) ..
  | sofReceived => exact act_sound w fun _ w => .sofReceived (w_h := w) ..
  | dataBurstReceived => exact act_sound w fun _ w => .burstReceived (w_h := w) ..
  | handshakeReceived => exact act_sound w fun _ w => .handshakeReceived (w_h := w) ..
  | linkResponseTimeout => exact act_sound w fun _ w => .responseTimeout (w_h := w) ..
  | setupReceived => exact act_sound w fun _ w => .setupReceived (w_h := w) ..
  | getStatus _ _ index =>
    dsimp only [exec, execGetStatus]
    refine act_sound w fun _ w => .ite w ?_
    cases Hub.haltKey index.toNat with
    | none => exact .sendStall (w_h := w) ..
    | some _ => exact .emit (w_h := w) ..
  | clearHalt _ p index =>
    dsimp only [exec, execClearHalt]
    refine act_sound w fun h w => .ite w ?_
    have cleared := Hub.Sound.clearHalt p index.toNat h w
    exact .ite (.sendStall (w_h := cleared) ..) (.emit (w_h := cleared) ..)
  | setAddress =>
    dsimp only [exec, execSetAddress]
    exact act_sound w fun _ w => .ite w (.ite (.emit (w_h := .takeAddress (w_h := w) ..) ..) (.sendStall (w_h := w) ..))
  | identify =>
    dsimp only [exec, execIdentify]
    exact act_sound w fun _ w => .ite (.emit (w_h := w) ..) w
  | trunkFrameReceived => exact act_sound w fun _ w => .frameReceived (w_h := w) ..
  | linkCredit => exact act_sound w fun _ w => .creditReceived (w_h := w) ..
  | linkTick => exact act_sound w fun _ w => .tickReceived (w_h := w) ..
  | linkProbe => exact act_sound w fun _ w => .probeReceived (w_h := w) ..
  | linkEcho => exact act_sound w fun _ w => .echoReceived (w_h := w) ..
  | linkStatus => exact act_sound w fun _ w => .statusReceived (w_h := w) ..
  | linkSuspend => exact act_sound w fun _ w => .suspendFrame (w_h := w) ..
  | linkResetFrame =>
    dsimp only [exec, execLinkResetFrame]
    exact act_sound w fun _ w => .ite (.resetSeen (w_h := w) ..) w
  | creditTimer => exact act_sound w fun _ w => .creditTimer (w_h := w) ..
  | linkStatusTimer => exact act_sound w fun _ w => .statusTimer (w_h := w) ..
  | controlFrameRequest => exact act_sound w fun _ w => .controlFrame (w_h := w) ..
  | lossOfLock => exact act_sound w fun _ w => .trunkLockLost (w_h := w) ..
  | suspendDetected => exact act_sound w fun _ w => .suspendDetected (w_h := w) ..
  | resumeKEnd => exact act_sound w fun _ w => .resumeEnd (w_h := w) ..
  | wakeDetected => exact act_sound w fun _ w => .wakeSeen (w_h := w) ..
  | portCmdDisable => exact act_sound w (.writing fun _ w => .portCmd (w_h := w) ..)
  | portCmdEnable => exact act_sound w (.writing fun _ w => .portCmd (w_h := w) ..)
  | portCmdReset => exact act_sound w (.writing fun _ w => .portCmd (w_h := w) ..)
  | portCmdSuspend => exact act_sound w (.writing fun _ w => .portCmd (w_h := w) ..)
  | portCmdResume => exact act_sound w (.writing fun _ w => .portCmd (w_h := w) ..)
  | hubPortTurn =>
    dsimp only [exec, execHubPortTurn]
    exact act_sound w fun _ w => .takeWork (w_h := .ite (.shotLost (w_h := w) ..) w) ..
  | portTransactionEnd => exact act_sound w fun _ w => .transactionEnd (w_h := w) ..
  | babbleDetected => exact act_sound w fun _ w => .babble (w_h := w) ..
  | enumStart => exact act_sound w fun _ w => .enumStart (w_h := w) ..
  | deliveryTimeout => exact act_sound w fun _ w => .deliveryTimeout (w_h := w) ..
  | splitStartToken => exact act_sound w fun _ w => .splitStart (w_h := w) ..
  | splitCompleteToken => exact act_sound w fun _ w => .splitComplete (w_h := w) ..
  | splitRequestFrame => exact act_sound w fun _ w => .splitRequest (w_h := w) ..
  | splitRunTimeout => exact act_sound w fun _ w => .splitRunTimeout (w_h := w) ..
  | splitHoldExpiry =>
    dsimp only [exec, execSplitHoldExpiry]
    exact act_sound w fun _ w => .suspendForUpstream (w_h := .splitHoldExpiry (w_h := w) ..) ..
  | resumeListenEnd => exact act_sound w fun _ w => .listenEnd (w_h := w) ..
  | wakeTaken => exact act_sound w fun _ w => .wakeTaken (w_h := w) ..
  | upstreamResumed => exact act_sound w fun _ w => .upstreamResumed (w_h := w) ..
  | upstreamReset => exact act_sound w fun _ w => .upstreamResetOnce (w_h := w) ..
  | managerPathOn => exact act_sound w fun _ w => .pathUp (w_h := w) ..
  | pollEntryWrite => exact act_sound w (.writing fun _ w => .writePoll (w_h := w) ..)
  | microframeStart => exact act_sound w fun _ w => .microframe (w_h := w) ..
  | pollComplete => exact act_sound w fun _ w => .completePoll (w_h := w) ..
  | reportWindowEnd => exact act_sound w fun _ w => .endWindow (w_h := w) ..
  | quartzStart => exact act_sound w fun _ w => .quartzWrite (w_h := w) ..
  | quartzStop => exact act_sound w fun _ w => .quartzWrite (w_h := w) ..
  | quartzPause => exact act_sound w fun _ w => .quartzWrite (w_h := w) ..
  | timeSet => exact act_sound w (.judged fun _ w => .timeSet (w_h := w) ..)
  | timeTrim => exact act_sound w (.judged fun _ w => .timeTrim (w_h := w) ..)
  | probeIntervalExpiry => exact act_sound w fun _ w => .probeDelay (w_h := w) ..
  | syncMessageTimeout => exact act_sound w fun _ w => .syncLapse (w_h := w) ..
  | timebaseSlewTick => exact act_sound w fun _ w => .slewTick (w_h := w) ..
  | timebaseStep => exact act_sound w fun _ w => .stepTimebase (w_h := w) ..
  | frameHeaderReceived =>
    dsimp only [exec, execFrameHeaderReceived]
    exact act_sound w fun _ w => .ite (.headerReceived (w_h := w) ..) (.injectFrame (w_h := w) ..)
  | frameVerdict => exact act_sound w fun _ w => .verdictOf (w_h := w) ..
  | egressCopyStart => exact act_sound w fun _ w => .copyStart (w_h := w) ..
  | egressCopyEnd =>
    dsimp only [exec, execEgressCopyEnd]
    exact act_sound w fun _ w => .keyWorn (w_h := .copyEnd (w_h := w) ..) ..
  | cutStallTimeout => exact act_sound w fun _ w => .cutStall (w_h := w) ..
  | eccError => exact act_sound w fun _ w => .eccError (w_h := w) ..
  | rejoinHoldExpiry => exact act_sound w fun _ w => .rejoin (w_h := w) ..
  | publish => exact act_sound w fun _ w => .publishWrite (w_h := w) ..
  | publishEffect => exact act_sound w fun _ w => .publishEffect (w_h := w) ..
  | revert => exact act_sound w (.writing fun _ w => .liveToShadow (w_h := w) ..)
  | ringClear => exact act_sound w (.writing fun _ w => .ringClear (w_h := w) ..)
  | auditStart => exact act_sound w fun _ w => .auditStart (w_h := w) ..
  | auditComplete => exact act_sound w fun _ w => .auditComplete (w_h := w) ..
  | assign => exact act_sound w (.writing fun _ w => .assign (w_h := w) ..)
  | releaseId => exact act_sound w (.judged fun _ w => .releaseId (w_h := w) ..)
  | relayRequest => exact act_sound w fun _ w => .relayRequest (w_h := w) ..
  | relayChildAnswer => exact act_sound w fun _ w => .relayAnswered (w_h := w) ..
  | relayTimeout => exact act_sound w fun _ w => .relayTimeout (w_h := w) ..
  | controlUpstreamLost => exact act_sound w fun _ w => .upstreamLoss (w_h := w) ..
  | standbyUp => exact act_sound w fun _ w => .standbyUp (w_h := w) ..
  | reconnected => exact act_sound w fun _ w => .reconnected (w_h := w) ..
  | noticeReceived => exact act_sound w fun _ w => .noticeIn (w_h := w) ..
  | noticeSendOnChange => exact act_sound w fun _ w => .noticeChange (w_h := w) ..
  | noticeTimer => exact act_sound w fun _ w => .noticeRound (w_h := w) ..
  | noticesExpired => exact act_sound w fun _ w => .noticesLapse (w_h := w) ..
  | helloTimer => exact act_sound w fun _ w => .helloRound (w_h := w) ..
  | helloReceived => exact act_sound w fun _ w => .helloIn (w_h := w) ..
  | neighbourHoldExpiry => exact act_sound w fun _ w => .neighbourLapse (w_h := w) ..
  | lsaOriginate => exact act_sound w fun _ w => .originate (w_h := w) ..
  | lsaReceived =>
    dsimp only [exec, execLsaReceived]
    exact act_sound w fun _ w => .lsaIn (w_h := w) ..
  | lsaAckReceived => exact act_sound w fun _ w => .lsaAckIn (w_h := w) ..
  | lsaRetransmit => exact act_sound w fun _ w => .lsaAgain (w_h := w) ..
  | lsaLifetimeExpiry => exact act_sound w fun _ w => .lsaLapse (w_h := w) ..
  | pathCompute => exact act_sound w fun _ w => .computePaths (w_h := w) ..
  | fabricDataReceived => exact act_sound w fun _ w => .dataIn (w_h := w) ..
  | fabricEventReceived => exact act_sound w fun _ w => .eventIn (w_h := w) ..
  | mcastDiscard => exact act_sound w fun _ w => .mcastIn (w_h := w) ..
  | gatewayTreeFrame => exact act_sound w fun _ w => .treeFrame (w_h := w) ..
  | odRead => exact act_sound w fun _ w => .linkRequest (w_h := w) ..
  | odWrite => exact act_sound w fun _ w => .linkRequest (w_h := w) ..
  | odBegin => exact act_sound w fun _ w => .linkRequest (w_h := w) ..
  | odCommit => exact act_sound w fun _ w => .linkRequest (w_h := w) ..
  | odAbort => exact act_sound w fun _ w => .linkRequest (w_h := w) ..
  | odStatus => exact act_sound w fun _ w => .linkRequest (w_h := w) ..
  | odDescribe => exact act_sound w fun _ w => .linkRequest (w_h := w) ..
  | commitPoint => exact act_sound w fun _ w => .commitPoint (w_h := w) ..
  | applyEnd => exact act_sound w fun _ w => .applyEnd (w_h := w) ..
  | txnIdleExpiry => exact act_sound w fun _ w => .txnIdle (w_h := w) ..
  | registerWrite => exact act_sound w fun _ w => .registerWrite (w_h := w) ..
  | save => exact act_sound w fun _ w => .deviceCommand (w_h := w) ..
  | saveComplete => exact act_sound w fun _ w => .saveComplete (w_h := w) ..
  | factoryDefaults => exact act_sound w fun _ w => .deviceCommand (w_h := w) ..
  | clearStore => exact act_sound w fun _ w => .deviceCommand (w_h := w) ..
  | fullReset => exact act_sound w fun _ w => .deviceCommand (w_h := w) ..
  | fullResetDelay => exact act_sound w fun _ w => .commandReset (w_h := w) ..
  | readStatus => exact act_sound w (.hosted fun _ w => .readStatus (w_h := w) ..)
  | winRead => exact act_sound w (.hosted fun _ w => .winRead (w_h := w) ..)
  | winWrite => exact act_sound w (.hosted fun _ w => .winWrite (w_h := w) ..)
  | odRequest => exact act_sound w (.hosted fun _ w => .odRequest (w_h := w) ..)
  | odResponseReady => exact act_sound w (.hosted fun _ w => .odResponseReady (w_h := w) ..)
  | odResponse => exact act_sound w (.hosted fun _ w => .odResponse (w_h := w) ..)
  | fifoRead => exact act_sound w (.hosted fun _ w => .fifoRead (w_h := w) ..)
  | fifoWrite => exact act_sound w (.hosted fun _ w => .foldl w fun _ _ w => .takeTxWord (w_h := w) ..)
  | enterQuad => exact act_sound w (.hosted fun _ w => w.wr _ _)
  | exitQuad => exact act_sound w (.hosted fun _ w => w.wr _ _)
  | badCommand => exact act_sound w (.hosted fun _ w => .inc (w_h := w) ..)
  | domainCmd => exact act_sound w (.judged fun _ w => .domainCmd (w_h := w) ..)
  | domainCancel => exact act_sound w (.judged fun _ w => .stopGroup (w_h := w) ..)
  | armedUpstreamTrigger => exact act_sound w fun _ w => .armedUpstream (w_h := w) ..
  | armedHostSelectTrigger => exact act_sound w fun _ w => .armedHost (w_h := w) ..
  | sequencerVisit => exact act_sound w fun _ w => .visit (w_h := w) ..
  | domainDelayEnd =>
    dsimp only [exec, execDomainDelayEnd]
    exact act_sound w fun _ w => .ite (.expire w _ _ fun _ w => .delayEnd (w_h := w) ..) w
  | lfCrystalLoss => exact act_sound w fun _ w => .crystalLost (w_h := w) ..
  | clockGood => exact act_sound w fun _ w => .clockGood (w_h := w) ..
  | clockStartTimeout =>
    dsimp only [exec, execClockStartTimeout]
    exact act_sound w fun _ w => .expire w _ _ fun _ w => .clockFailed (w_h := w) ..
  | clockLockLoss => exact act_sound w fun _ w => .lockLost (w_h := w) ..
  | fwLoadComplete => exact act_sound w fun _ w => .fwLoaded (w_h := w) ..
  | attestNonce => exact act_sound w (.writing fun _ w => .attest (w_h := w) ..)
  | ownerClaim =>
    dsimp only [exec, execOwnerClaim]
    exact act_sound w fun _ w => .outcome (w_x := .ownerClaim (w_h := w) ..) ..
  | transfer => exact act_sound w (.writing fun _ w => .transferWrite (w_h := w) ..)
  | transferDeadline => exact act_sound w fun _ w => .transferLapse (w_h := w) ..
  | slotInstall => exact act_sound w (.writing fun _ w => .slotCmd (w_h := w) ..)
  | slotRevoke => exact act_sound w (.writing fun _ w => .slotCmd (w_h := w) ..)
  | sessionOpen =>
    dsimp only [exec, execSessionOpen]
    exact act_sound w fun _ w => .outcome (w_x := .sessionOpenWrite (w_h := w) ..) ..
  | sessionClose => exact act_sound w (.judged fun _ w => .closeById (w_h := w) ..)
  | sessionIdleExpiry => exact act_sound w fun _ w => .sessionIdle (w_h := w) ..
  | fwWriteData => exact act_sound w (.judged fun _ w => .fwWrite (w_h := w) ..)
  | eraseInactive => exact act_sound w (.judged fun _ w => .fwCmd (w_h := w) ..)
  | checkInactive => exact act_sound w (.judged fun _ w => .fwCmd (w_h := w) ..)
  | fwCheckComplete => exact act_sound w fun _ w => .fwChecked (w_h := w) ..
  | preferInactive => exact act_sound w (.judged fun _ w => .fwCmd (w_h := w) ..)
  | commitSvn => exact act_sound w (.judged fun _ w => .fwCmd (w_h := w) ..)
  | keyxStart => exact act_sound w fun _ w => .keyxStart (w_h := w) ..
  | linkKeyxAgree => exact act_sound w (.judged fun _ w => .keyxWrite (w_h := w) ..)
  | linkKeyxRekey => exact act_sound w (.judged fun _ w => .keyxWrite (w_h := w) ..)
  | keyxReplyReady => exact act_sound w fun _ w => .keyxReply (w_h := w) ..
  | rekeyDue => exact act_sound w fun _ w => .rekeyDue (w_h := w) ..
  | keyAgreeTimeout => exact act_sound w fun _ w => .keyAgreeLapse (w_h := w) ..
  | keyxRetryTimer => exact act_sound w fun _ w => .keyxRetry (w_h := w) ..
  | zeroise =>
    dsimp only [exec, execZeroise]
    exact act_sound w fun _ w => .ite (.zeroise (w_h := .wrote (w_h := w) ..) ..) (.wrote (w_h := w) ..)
  | faultReport => exact act_sound w fun _ w => .detector (w_h := w) ..
  | linkErrorBurstWindow => exact act_sound w fun _ w => .rollBurst (w_h := w) ..
  | tempThreshold =>
    dsimp only [exec, execTempThreshold]
    exact act_sound w fun _ w => .ite (.powerDieTemp (w_h := w) ..) (.dieTemp (w_h := w) ..)
  | supplyLow => exact act_sound w fun _ w => .supplyLevel (w_h := w) ..
  | railLost => exact act_sound w fun _ w => .railLost (w_h := w) ..
  | dieLinkLost => exact act_sound w fun _ w => .dieLinkLost (w_h := w) ..
  | lockstep => exact act_sound w fun _ w => .report (w_h := w) ..
  | watchdog =>
    dsimp only [exec, execWatchdog]
    exact act_sound w fun _ w => .ite (.report (w_h := w) ..) w
  | nvReadError => exact act_sound w fun _ w => .report (w_h := w) ..
  | faultAck => exact act_sound w (.writing fun _ w => .faultAck (w_h := w) ..)
  | safeExit => exact act_sound w (.writing fun _ w => .safeExit (w_h := w) ..)
  | sourceForce => exact act_sound w (.writing fun _ w => .writeSource (w_h := w) ..)
  | sourceLevelWrite => exact act_sound w (.writing fun _ w => .writeSource (w_h := w) ..)
  | shadowExpiry => exact act_sound w fun _ w => .shadowsLapse (w_h := w) ..
  | bankCopyDone => exact act_sound w fun _ w => .bankCopied (w_h := w) ..
  | bankMarchDone => exact act_sound w fun _ w => .bankMarched (w_h := w) ..
  | coreTestDone => exact act_sound w fun _ w => .coreTested (w_h := w) ..
  | loopbackDone => exact act_sound w fun _ w => .looped (w_h := w) ..
  | nvRereadDone => exact act_sound w fun _ w => .reread (w_h := w) ..
  | repairMapSaved =>
    dsimp only [exec, execRepairMapSaved]
    exact act_sound w fun _ w => .commandReset (w_h := .expire w _ _ fun _ w => .storeRepair (w_h := w) ..) ..
  | l5ResetDelay =>
    dsimp only [exec, execL5ResetDelay]
    exact act_sound w fun _ w => .expire w _ _ fun _ w => .fullReset (w_h := w) ..
  | vinPowerOn => exact act_sound w fun _ w => .fullReset (w_h := w) ..
  | brownout => exact act_sound w fun _ w => .fullReset (w_h := w) ..
  | rstNReset => exact act_sound w fun _ w => .fullReset (w_h := w) ..
  | bootStageComplete => exact act_sound w fun _ w => .bootStage (w_h := w) ..
  | lfCrystalGood => exact act_sound w fun _ w => .crystalGood (w_h := w) ..
  | lfCrystalStartTimeout => exact act_sound w fun _ w => .crystalLate (w_h := w) ..
  | holdDetach =>
    dsimp only [exec, execHoldDetach]
    exact act_sound w fun _ w => .ite (.holdDetach (w_h := w) ..) w
  | powerDieAnswer =>
    dsimp only [exec, execPowerDieAnswer]
    exact act_sound w fun _ w => .ite (.enterReady (w_h := w) ..) w
  | vauxLockout => exact act_sound w fun _ w => .vauxLost (w_h := w) ..
  | powerDieResetReport => exact act_sound w fun _ w => .dieReset (w_h := w) ..
  | upstreamPullup => exact act_sound w (.live fun _ w => .pullUp (w_h := w) ..)
  | sourcePresent => exact act_sound w (.live fun _ w => .sourceSeen (w_h := w) ..)
  | rdSeen => exact act_sound w (.live fun _ w => .rdSeen (w_h := w) ..)
  | se0Ended => exact act_sound w fun _ w => .makeOffer (w_h := w) ..
  | noValidSymbolTimeout => exact act_sound w fun _ w => .noSymbol (w_h := w) ..
  | burstEndTimeout => exact act_sound w fun _ w => .burstEnd (w_h := w) ..
  | identityDerived =>
    dsimp only [exec, execIdentityDerived]
    exact act_sound w fun _ w => .expire w _ _ fun _ w => .derived (w_h := w) ..
  | controlResponseReceived => exact act_sound w fun _ w => .controlResponse (w_h := w) ..
  | dieLinkRestored =>
    dsimp only [exec, execDieLinkRestored]
    exact act_sound w fun _ w => w.wr _ _
  | resumeDetected => exact act_sound w fun _ w => .resumeDetected (w_h := w) ..

end Sys2Proof.Machine

open Sys2Proof.Machine

/-- Settles O4: an idle step changes nothing, and a command at the front of the queue runs on a state with the same hub. -/
theorem stepKeepsSound : Obligations.StepKeepsSound := by
  unfold Obligations.StepKeepsSound
  intro s t w e
  unfold step at e
  split at e
  · cases e
    exact w
  · next c rest _ => exact exec_sound c (s := { s with pending := rest }) w t e
end

section
/-!
The state after reset, the completion of every command, and the arithmetic that the commands share: serial numbers (R14), system addresses (R16)
and counters (R22).
-/
namespace Sys2Proof.Machine

/-! ### Serial numbers (R14) -/

/-- On values of n bits, newer reads the difference of the bit vectors. -/
theorem newer_toNat {n : Nat} (a b : BitVec n) :
    newer n a.toNat b.toNat = decide (1 ≤ (a - b).toNat ∧ (a - b).toNat < 2 ^ (n - 1)) := by
  have difference : (a.toNat % 2 ^ n + 2 ^ n - b.toNat % 2 ^ n) % 2 ^ n = (a - b).toNat := by
    rw [Nat.mod_eq_of_lt a.isLt, Nat.mod_eq_of_lt b.isLt, BitVec.toNat_sub]
    congr 1
    have := b.isLt
    omega
  simp only [newer, difference]

/-- The two differences of a pair half the circle apart are equal. -/
theorem toNat_sub_half {n : Nat} (a b : BitVec n) (hn : 1 ≤ n) (half : (a - b).toNat = 2 ^ (n - 1)) : (b - a).toNat = 2 ^ (n - 1) := by
  have circle : 2 ^ n = 2 * 2 ^ (n - 1) := (mul_pow_sub_one (by omega) 2).symm
  have positive : 0 < 2 ^ (n - 1) := Nat.two_pow_pos _
  rw [← neg_sub a b, BitVec.toNat_neg, half, Nat.mod_eq_of_lt] <;> omega

/-! ### Counters (R22) -/

/-- A counter's row takes 0 alone. -/
theorem odInRange_counter {r : OdRow} (c : odCounter r = true) (v : Nat) : odInRange r v = (v == 0) := by
  have range : r.range = .counter := by simpa [odCounter] using c
  simp only [odInRange, range]

namespace Hub

/-- A live write of a value other than 0 to a counter is refused with OUT_OF_RANGE. -/
theorem liveCode_counter {k v : Nat} {r : OdRow} (row : odRow (k / 256) (k % 256) = some r) (c : odCounter r = true) (nonzero : v ≠ 0)
    (x : WriteCtx) (at_ : Nat → Nat) (h : Hub) : h.liveCode x at_ k v = 6 := by
  have refused : rangeOk at_ k v = false := by simp [rangeOk, row, odInRange_counter c, nonzero]
  simp [liveCode, refused]

/-- A write of a counter that takes effect clears it. -/
theorem applyPlain_counter {k : Nat} {r : OdRow} (row : odRow (k / 256) (k % 256) = some r) (c : odCounter r = true) (x : WriteCtx) (v : Nat)
    (h : Hub) : h.applyPlain x k v = h.clearCounter k := by
  simp [applyPlain, row, c]

theorem rd_clearCounter_self {k : Nat} (n : k ≠ Od.FREE_MIN) (h : Hub) : (h.clearCounter k).rd k = 0 := by
  simp [clearCounter, n]

theorem rd_clearCounter_ne {k j : Nat} (n : j ≠ k) (h : Hub) : (h.clearCounter k).rd j = h.rd j := by
  unfold clearCounter
  split <;> exact rd_wr_ne _ _ _ _ n

end Hub

end Sys2Proof.Machine

open Sys2Proof.Machine

/-- Settles O6: each clause is read off the difference of the two bit vectors. -/
theorem serialNumbers : Obligations.SerialNumbers := by
  unfold Obligations.SerialNumbers
  intro n a b hn
  have positive : 0 < 2 ^ (n - 1) := Nat.two_pow_pos _
  refine ⟨?_, ?_, fun half => ⟨?_, ?_⟩⟩
  · rw [newer_toNat, decide_eq_true_eq]
    omega
  · rw [← sub_eq_zero (a := a), BitVec.toNat_eq]
    simp
  · rw [newer_toNat, half]
    simp
  · rw [newer_toNat, toNat_sub_half a b hn half]
    simp

/-- Settles O3: a store that lists no cell reads the defaults. -/
theorem resetState : Obligations.ResetState := by
  unfold Obligations.ResetState
  have defaults : ∀ k : Nat, State.reset.rd k = odDefault k := fun _ => rfl
  refine ⟨⟨rfl, rfl, ?_, ?_, ?_, ?_⟩, rfl, defaults, ?_, ?_, ?_, rfl, rfl, rfl, ?_⟩
  all_goals decide

/-- Settles O5: every meaning is an act, which always answers and keeps the queue. -/
theorem everyCommandCompletes : Obligations.EveryCommandCompletes := by
  unfold Obligations.EveryCommandCompletes
  exact exec_next

/-- Settles O7: the three fields are digits of the packed address. -/
theorem systemAddress : Obligations.SystemAddress := by
  unfold Obligations.SystemAddress
  rintro ⟨hub, hubLt⟩ ⟨dev, devLt⟩ ⟨ep, epLt⟩
  simp only [sysAddr, bits]
  omega

/-- Settles O8: the laws of a write to a cell, with the range and the effect of a counter's row. -/
theorem countersSaturate : Obligations.CountersSaturate := by
  unfold Obligations.CountersSaturate
  intro h k n w r c at_
  refine ⟨?_, ?_, fun j ne => ⟨?_, ?_⟩, fun row counter => ⟨fun nonzero => ?_, fun ne => ?_, fun j ne => ?_⟩⟩
  · simp [Hub.rd_inc, satInc]
  · simp [Hub.rd_add, satAdd]
  · simp [Hub.rd_inc, ne]
  · simp [Hub.rd_add, ne]
  · exact Hub.liveCode_counter row counter nonzero c at_ h
  · rw [Hub.applyPlain_counter row counter]
    exact Hub.rd_clearCounter_self ne h
  · rw [Hub.applyPlain_counter row counter]
    exact Hub.rd_clearCounter_ne ne h
end

section
/-!
The answer of a command from the hub that its effect leaves.
-/
namespace Sys2Proof.Machine

/-- A command answers with the hub that its effect leaves. -/
theorem act_eq {t : Stamp} {s : State} {f : Hub → Hub} {x : Hub} (e : f (s.arrive t) = x) : act t s f = .next (s.settled x) :=
  congrArg (fun y => Host.Outcome.next (s.settled y)) e

end Sys2Proof.Machine
end

section
/-!
The hub as the sink of an ACTIVE packet link: what a token and a burst of data do to it, case by case (R179, R182, R185, R189, R192, R195).
-/
namespace Sys2Proof.Machine.Hub

/-- A token for the hub's endpoints has been heard: the data phase before it is over. -/
def tokenHeard (p : Nat) (h : Hub) : Hub := (h.heardPackets p 1).clear [Reg.outToken p, Reg.inEp p, Reg.splitAck p]

/-- What a token to an endpoint of the hub owes once it has been heard. -/
def tokenTaken (p : Nat) (k : Token) (ep count : Nat) (h : Hub) : Hub :=
  match k with
  | .out => h.wr (Reg.outToken p) (ep + 1)
  | .ping => h.pinged p ep
  | .in_ => if ep = 0 then h.controlIn p count else if ep ≤ 2 then h.frameIn p ep count else h

section
variable {h : Hub} {p dev ep count : Nat} {k : Token} {time : Bool} {f : LineFault}
variable (answers : h.answersOn p = true)
include answers

/-! ### Tokens (R179) -/

theorem tokenReceived_faulty (faulty : f ≠ .good) : h.tokenReceived p k dev ep count time f = h.countFault p f := by
  simp [tokenReceived, answers, faulty]

theorem tokenReceived_reserved (reserved : dev = 255 ∨ (time = true ∧ k ≠ .ping)) :
    h.tokenReceived p k dev ep count time .good = h.reservedPacket p := by
  rw [tokenReceived, if_neg (by simp [answers]), if_neg (by simp), if_pos reserved]

/-- A token that is not reserved is heard, and taken where it is for this hub, but for a PING with TIME to its endpoint 0. -/
theorem tokenReceived_heard (known : dev ≠ 255) (timed : time = false ∨ k = .ping) (noEcho : time = false ∨ dev ≠ h.rd (Reg.myAddr p) ∨ ep ≠ 0) :
    h.tokenReceived p k dev ep count time .good =
      if dev ≠ h.rd (Reg.myAddr p) then h.tokenHeard p else (h.tokenHeard p).tokenTaken p k ep count := by
  have notReserved : ¬ (dev = 255 ∨ (time = true ∧ k ≠ .ping)) := by
    rcases timed with rfl | rfl <;> simp [known]
  have notEcho : ¬ (time = true ∧ dev = h.rd (Reg.myAddr p) ∧ ep = 0) := by
    rintro ⟨on, own, zero⟩
    simp [on, own, zero] at noEcho
  rw [tokenReceived, if_neg (by simp [answers]), if_neg (by simp), if_neg notReserved, if_neg notEcho]
  cases k <;> rfl

theorem tokenReceived_other (other : dev ≠ h.rd (Reg.myAddr p)) (known : dev ≠ 255) (timed : time = false ∨ k = .ping) :
    h.tokenReceived p k dev ep count time .good = h.tokenHeard p :=
  (tokenReceived_heard answers known timed (.inr (.inl other))).trans (if_pos other)

theorem tokenReceived_own (own : dev = h.rd (Reg.myAddr p)) (known : dev ≠ 255) (timed : time = false ∨ k = .ping) (noEcho : time = false ∨ ep ≠ 0) :
    h.tokenReceived p k dev ep count time .good = (h.tokenHeard p).tokenTaken p k ep count :=
  (tokenReceived_heard answers known timed (noEcho.imp_right .inr)).trans (if_neg (not_not_intro own))

/-- ACK of a PING with TIME (R177). -/
theorem timeEcho_answers : h.timeEcho p = (h.heardPackets p 1).emit (.handshake p 9 0) := if_pos answers

theorem tokenReceived_timePing (own : dev = h.rd (Reg.myAddr p)) (known : dev ≠ 255) :
    h.tokenReceived p .ping dev 0 count true .good = (h.heardPackets p 1).emit (.handshake p 9 0) := by
  rw [tokenReceived, if_neg (by simp [answers]), if_neg (by simp), if_neg (by simp [known]), if_pos ⟨rfl, own, rfl⟩, timeEcho_answers answers]

/-! ### Data after a token (R182, R187) -/

theorem burstReceived_answers {qs : List Packet} {ended : Bool} :
    h.burstReceived p qs ended = h.burstDown p (qs.map (judgeLength (h.portMax p))) := if_pos answers

end

section
variable {h : Hub} {p count : Nat} {qs : List Packet}

/-! ### IN and PING at the endpoints (R185, R189, R195) -/

theorem controlIn_closed (closed : h.controlOf p = none) : h.controlIn p count = h.emit (.handshake p 0xA (h.rd (Reg.mySend p 0) % 16)) := by
  simp [controlIn, closed]

theorem frameIn_halted (halted : h.rd Od.EP1_IN_HALT ≠ 0) : h.frameIn p 1 count = h.sendStall p := if_pos halted

theorem frameIn_fabric (free : h.rd Od.EP1_IN_HALT = 0) (fabric : h.fabricPort p = true) : h.frameIn p 1 count = h.fabricIn p count := by
  simp [frameIn, free, fabric]

theorem frameIn_idle (free : h.rd Od.EP1_IN_HALT = 0) (tree : h.fabricPort p = false) (idle : h.begunCopy p = none) :
    h.frameIn p 1 count = h.emit (.handshake p 0xA (h.rd (Reg.mySend p 1) % 16)) := by
  simp [frameIn, free, tree, idle]

theorem pinged_halted (halted : h.rd Od.EP1_OUT_HALT ≠ 0) : h.pinged p 1 = h.sendStall p := if_pos halted

theorem pinged_free (free : h.rd Od.EP1_OUT_HALT = 0) : h.pinged p 1 = h.emit (.handshake p (if h.freeCells < 9 then 0xA else 9) 0) :=
  if_neg (not_not_intro free)

/-! ### The endpoint that OUT named takes the data (R192, R195) -/

theorem burstDown_control (named : h.rd (Reg.outToken p) = 1) : h.burstDown p qs = (h.wr (Reg.outToken p) 0).controlOut p qs := if_pos named

theorem burstDown_frame (named : h.rd (Reg.outToken p) = 2) : h.burstDown p qs = (h.wr (Reg.outToken p) 0).frameOutIn p qs := by
  simp [burstDown, named]

theorem burstDown_unnamed (one : h.rd (Reg.outToken p) ≠ 1) (two : h.rd (Reg.outToken p) ≠ 2) :
    h.burstDown p qs = (h.wr (Reg.outToken p) 0).countBurst p qs ⟨0, 0, 0, 0, 0, 0⟩ := by
  simp [burstDown, one, two]

end

end Sys2Proof.Machine.Hub

open Sys2Proof.Machine Sys2Proof.Machine.Hub

/-- Settles O41: each clause is one case of a token's or a burst's effect. -/
theorem tokensAndData : Obligations.TokensAndData := by
  unfold Obligations.TokensAndData
  dsimp only [exec, execTokenReceived, execPingTimeEcho, execDataBurstReceived]
  intro t s p d n f qs e time answers
  refine ⟨fun k ep faulty => ?_, fun k ep reserved => ?_, fun k ep other known timed => ?_, fun ep ⟨own, known⟩ => ?_,
    fun ⟨own, known⟩ closed => ?_, fun ⟨own, known⟩ halted => ?_, fun ⟨own, known⟩ free tree idle => ?_, fun ⟨own, known⟩ free fabric => ?_,
    fun ⟨own, known⟩ halted => ?_, fun ⟨own, known⟩ free => ?_, fun ⟨own, known⟩ => ?_, ?_, fun named => ?_, fun named => ?_,
    fun one two => ?_⟩ <;> apply act_eq
  · exact tokenReceived_faulty answers faulty
  · exact tokenReceived_reserved answers reserved
  · exact tokenReceived_other answers other known timed
  · exact tokenReceived_own answers own known (.inl rfl) (.inl rfl)
  · exact (tokenReceived_own answers own known (.inl rfl) (.inl rfl)).trans (controlIn_closed closed)
  · exact (tokenReceived_own answers own known (.inl rfl) (.inl rfl)).trans (frameIn_halted halted)
  · exact (tokenReceived_own answers own known (.inl rfl) (.inl rfl)).trans (frameIn_idle free tree idle)
  · exact (tokenReceived_own answers own known (.inl rfl) (.inl rfl)).trans (frameIn_fabric free fabric)
  · exact (tokenReceived_own answers own known (.inr rfl) (.inr one_ne_zero)).trans (pinged_halted halted)
  · exact (tokenReceived_own answers own known (.inr rfl) (.inr one_ne_zero)).trans (pinged_free free)
  · exact tokenReceived_timePing answers own known
  · exact timeEcho_answers answers
  · exact (burstReceived_answers answers).trans (burstDown_control named)
  · exact (burstReceived_answers answers).trans (burstDown_frame named)
  · exact (burstReceived_answers answers).trans (burstDown_unnamed one two)
end

section
/-!
Split transactions, case by case (R190, R233 to R236): SPLIT_START and SPLIT_COMPLETE on a packet link, the request in a frame, and the ends of a
slot's two times.
-/
namespace Sys2Proof.Machine.Hub

/-! ### SPLIT_START (R190, R234) -/

/-- The body of a split token has a reserved encoding (R13). -/
abbrev splitReserved (body : Nat) : Prop := bits body 7 0 = 255 ∨ bits body 27 26 = 3 ∨ (hasBit body 24 && hasBit body 25) = true

/-- TARGET of the slot that a SPLIT_START names (Tables 6-9 and 7-7). -/
def splitTarget (body : Nat) : Nat :=
  bits body 23 20 + 16 * bits body 27 26 + (if hasBit body 25 then 64 else 0) + (if hasBit body 24 then 128 else 0)

/-- SPLIT_START has been heard, with its DATA packet for an OUT. -/
def splitHeard (u body : Nat) (h : Hub) : Hub := h.heardPackets u (if hasBit body 25 then 1 else 2)

/-- A slot is taken for a SPLIT_START, and ACK answers. -/
def splitAccepted (u body seq len data : Nat) (h : Hub) : Hub :=
  (h.createSlot (bits body 31 28) (bits body 19 12) (splitTarget body) 0 0 u 0 0 (if hasBit body 25 then 0 else len) data seq).emit
    (.handshake u 9 (if hasBit body 25 then 0 else (seq + 1) % 16))

section
variable {h : Hub} {u body seq len data : Nat} {x : Slot}

theorem splitStart_silent (silent : h.answersOn u = false) : h.splitStart u body seq len data = h := by
  simp [splitStart, silent]

section
variable (answers : h.answersOn u = true)
include answers

theorem splitStart_reserved (reserved : splitReserved body) : h.splitStart u body seq len data = h.reservedPacket u := by
  rw [splitStart, if_neg (by simp [answers]), if_pos reserved]

theorem splitStart_long (known : ¬ splitReserved body) (out : hasBit body 25 = false) (long : h.portMax u < len) :
    h.splitStart u body seq len data = (h.heardPackets u 1).countFault u .long := by
  rw [splitStart, if_neg (by simp [answers]), if_neg known, if_pos (by simp [out, long])]

/-- A SPLIT_START that is whole is heard, and taken where it is for this hub. -/
theorem splitStart_whole (known : ¬ splitReserved body) (fits : hasBit body 25 = false → len ≤ h.portMax u) :
    h.splitStart u body seq len data =
      if bits body 7 0 ≠ h.rd (Reg.myAddr u) then h.splitHeard u body else (h.splitHeard u body).splitTaken u body seq len data := by
  have notLong : ¬ (!hasBit body 25 && decide (h.portMax u < len)) = true := by simpa using fits
  rw [splitStart, if_neg (by simp [answers]), if_neg known, if_neg notLong]
  rfl

theorem splitStart_other (known : ¬ splitReserved body) (fits : hasBit body 25 = false → len ≤ h.portMax u)
    (other : bits body 7 0 ≠ h.rd (Reg.myAddr u)) : h.splitStart u body seq len data = h.splitHeard u body :=
  (splitStart_whole answers known fits).trans (if_pos other)

theorem splitStart_own (known : ¬ splitReserved body) (fits : hasBit body 25 = false → len ≤ h.portMax u)
    (own : bits body 7 0 = h.rd (Reg.myAddr u)) : h.splitStart u body seq len data = (h.splitHeard u body).splitTaken u body seq len data :=
  (splitStart_whole answers known fits).trans (if_neg (not_not_intro own))

end

theorem splitTaken_refused (refused : h.splitPortOk (bits body 31 28) (bits body 19 12) = false ∨
    (hasBit body 25 = false ∧ h.portMax (bits body 31 28) < len)) : h.splitTaken u body seq len data = h.emit (.handshake u 0xB 0) :=
  if_pos (by simpa using refused)

section
variable (carries : h.splitPortOk (bits body 31 28) (bits body 19 12) = true) (fits : hasBit body 25 = false → len ≤ h.portMax (bits body 31 28))
include carries fits

/-- A SPLIT_START that its port can carry is not refused. -/
theorem splitTaken_carries :
    ¬ (!h.splitPortOk (bits body 31 28) (bits body 19 12) || (!hasBit body 25 && decide (h.portMax (bits body 31 28) < len))) = true := by
  simpa [carries] using fits

theorem splitTaken_busy (found : h.slotFor (bits body 31 28) (bits body 19 12) (bits body 23 20) (hasBit body 25) = some x)
    (running : x.state ≠ 3) : h.splitTaken u body seq len data = h.emit (.handshake u 0xA 0) := by
  rw [splitTaken, if_neg (splitTaken_carries carries fits), found]
  exact if_pos running

theorem splitTaken_full (fresh : h.slotFor (bits body 31 28) (bits body 19 12) (bits body 23 20) (hasBit body 25) = none)
    (full : h.slotRoom (bits body 31 28) = false) :
    h.splitTaken u body seq len data = (h.emit (.handshake u 0xA 0)).inc Od.SPLITS_NO_SLOT := by
  rw [splitTaken, if_neg (splitTaken_carries carries fits), fresh]
  exact if_pos (by simp [full])

theorem splitTaken_accepted (fresh : h.slotFor (bits body 31 28) (bits body 19 12) (bits body 23 20) (hasBit body 25) = none)
    (room : h.slotRoom (bits body 31 28) = true) : h.splitTaken u body seq len data = h.splitAccepted u body seq len data := by
  rw [splitTaken, if_neg (splitTaken_carries carries fits), fresh]
  exact if_neg (by simp [room])

end
end

/-! ### SPLIT_COMPLETE (R190, R234) -/

section
variable {h : Hub} {u body : Nat} {x : Slot} (answers : h.answersOn u = true)
include answers

theorem splitComplete_reserved (reserved : splitReserved body) : h.splitComplete u body = h.reservedPacket u := by
  rw [splitComplete, if_neg (by simp [answers]), if_pos reserved]

section
variable (known : ¬ splitReserved body) (own : bits body 7 0 = (h.heardPackets u 1).rd (Reg.myAddr u))
include known own

theorem splitComplete_unknown
    (gone : (h.heardPackets u 1).slotFor (bits body 31 28) (bits body 19 12) (bits body 23 20) (hasBit body 25) = none) :
    h.splitComplete u body = (h.heardPackets u 1).emit (.handshake u 0xB 0) := by
  rw [splitComplete, if_neg (by simp [answers]), if_neg known, if_neg (not_not_intro own), gone]

theorem splitComplete_done
    (found : (h.heardPackets u 1).slotFor (bits body 31 28) (bits body 19 12) (bits body 23 20) (hasBit body 25) = some x) (done : x.state = 3) :
    h.splitComplete u body = (h.heardPackets u 1).returnSplit u x := by
  rw [splitComplete, if_neg (by simp [answers]), if_neg known, if_neg (not_not_intro own), found]
  exact if_pos done

theorem splitComplete_waiting
    (found : (h.heardPackets u 1).slotFor (bits body 31 28) (bits body 19 12) (bits body 23 20) (hasBit body 25) = some x) (waits : x.state ≠ 3) :
    h.splitComplete u body = (h.heardPackets u 1).emit (.handshake u 0xC 0) := by
  rw [splitComplete, if_neg (by simp [answers]), if_neg known, if_neg (not_not_intro own), found]
  exact if_neg waits

end
end

/-! ### The request in a frame (R235) -/

section
variable {h : Hub} {src cls len v : Nat}

theorem splitRequest_unassigned (unassigned : h.rd Od.HUB_ID_ASSIGNED = 0) : h.splitRequest src cls len v = h := if_pos unassigned

theorem splitRequest_accepted (assigned : h.rd Od.HUB_ID_ASSIGNED ≠ 0)
    (new : h.slots.find? (fun s => s.carrier == 1 && s.tag == field v 0 2 && s.src == src) = none) (known : splitRequestOk len v = true)
    (carries : h.splitPortOk (byteAt v 2) (byteAt v 3) = true) (fits : field v 6 2 ≤ 8 * h.portMax (byteAt v 2))
    (fresh : h.slotFor (byteAt v 2) (byteAt v 3) (byteAt v 4 % 16) (hasBit (byteAt v 4) 6) = none) (room : h.slotRoom (byteAt v 2) = true) :
    h.splitRequest src cls len v =
      h.createSlot (byteAt v 2) (byteAt v 3) (byteAt v 4) 1 (field v 0 2) src cls (byteAt v 5 % 8) (field v 6 2) (field v 8 (field v 6 2)) 0 := by
  simp [splitRequest, assigned, new, known, carries, Nat.not_lt.2 fits, fresh, room]

end

/-! ### The two times of a slot (R236) -/

section
variable {h : Hub} {i : Nat} {x : Slot} (found : h.slots.find? (fun s => s.id == i) = some x)
include found

theorem splitRunTimeout_queued (queued : x.state = 1) (late : x.deadline ≤ h.now) : h.splitRunTimeout i =
    ((h.slotDone { x with result := 9, len := 0, data := 0, packets := 0, seq := 0 }).inc Od.SPLITS_TIMEOUT).suspendForUpstream := by
  rw [splitRunTimeout, found]
  exact if_pos ⟨queued, late⟩

theorem splitRunTimeout_early (early : x.state ≠ 1 ∨ h.now < x.deadline) : h.splitRunTimeout i = h := by
  rw [splitRunTimeout, found]
  exact if_neg (by omega)

theorem splitHoldExpiry_done (done : x.state = 3) (late : x.deadline ≤ h.now) :
    h.splitHoldExpiry i = if x.returned then h.freeSlot i else (h.freeSlot i).inc Od.SPLITS_EXPIRED := by
  rw [splitHoldExpiry, found]
  exact if_pos ⟨done, late⟩

end

end Sys2Proof.Machine.Hub

open Sys2Proof.Machine Sys2Proof.Machine.Hub

/-- Settles O27: each clause is one case of a split token's, a request's or a slot's end. -/
theorem splitSlots : Obligations.SplitSlots := by
  unfold Obligations.SplitSlots
  dsimp only [exec, execSplitStartToken, execSplitCompleteToken, execSplitRequestFrame, execSplitRunTimeout, execSplitHoldExpiry]
  intro t s u body seq len data src cls i x
  refine ⟨fun ⟨⟨answers, known, short⟩, own, within, carries⟩ fresh room => ?_, fun ⟨⟨answers, known, short⟩, own, within, carries⟩ fresh full => ?_,
    fun ⟨⟨answers, known, short⟩, own, within, carries⟩ found running => ?_, fun ⟨answers, known, short⟩ own refused => ?_,
    fun ⟨answers, known, short⟩ other => ?_, fun answers reserved => ?_, fun answers known out long => ?_, fun silent => ?_,
    fun ⟨answers, known, own⟩ found waits => ?_, fun ⟨answers, known, own⟩ found done => ?_, fun ⟨answers, known, own⟩ gone => ?_,
    fun answers reserved => ?_, fun assigned new ok carries short fresh room => ?_, fun unassigned => ?_, fun found queued late => ?_,
    fun found early => ?_, fun found done late held => ?_, fun found done late returned => ?_⟩ <;> apply act_eq
  · exact (splitStart_own answers known short own).trans (splitTaken_accepted carries within fresh room)
  · exact (splitStart_own answers known short own).trans (splitTaken_full carries within fresh full)
  · exact (splitStart_own answers known short own).trans (splitTaken_busy carries within found running)
  · exact (splitStart_own answers known short own).trans (splitTaken_refused refused)
  · exact splitStart_other answers known short other
  · exact splitStart_reserved answers reserved
  · exact splitStart_long answers known out long
  · exact splitStart_silent silent
  · exact splitComplete_waiting answers known own found waits
  · exact splitComplete_done answers known own found done
  · exact splitComplete_unknown answers known own gone
  · exact splitComplete_reserved answers reserved
  · exact splitRequest_accepted assigned new ok carries short fresh room
  · exact splitRequest_unassigned unassigned
  · exact splitRunTimeout_queued found queued late
  · exact splitRunTimeout_early found early
  · exact congrArg suspendForUpstream ((splitHoldExpiry_done found done late).trans (if_neg (by simp [held])))
  · exact congrArg suspendForUpstream ((splitHoldExpiry_done found done late).trans (if_pos returned))
end

section
/-!
SETUP, handshakes and the times of a link, case by case (R162, R177, R183, R186 to R193).
-/
namespace Sys2Proof.Machine.Hub

/-! ### SETUP (R192, R193) -/

/-- SETUP for this hub has been heard and acknowledged: the open transfer is over and the sequence states of endpoint 0 start afresh. -/
def setupHeard (p : Nat) (h : Hub) : Hub :=
  (((((h.heardPackets p 2).endControl p).wr (Reg.myE p 0) 1).wr (Reg.mySend p 0) 0).clear [Reg.outToken p, Reg.inEp p, Reg.splitAck p]).emit
    (.handshake p 9 1)

/-- The transfer that a setup record opens, with its answer made. -/
def openedControl (p r : Nat) : Control := { port := p, setup := r, stage := 2, stall := false, len := 0, data := 0 }

/-- What a setup record opens once it has been acknowledged. -/
def setupOpens (p r : Nat) (h : Hub) : Hub :=
  if 2 ≤ suKind r ∨ 1016 < suLen r then h.putControl { openedControl p r with stall := true }
  else if suKind r = 0 then
    if !standardOk r then h.putControl { openedControl p r with stall := true }
    else h.putControl { openedControl p r with len := (h.standardData r).1, data := (h.standardData r).2 }
  else if h.fabricPort p ∨ p < 16 ∨ !odDirOk r then h.putControl { openedControl p r with stall := true }
  else if suIn r ∨ suLen r = 0 ∨ h.haltedFor p (suReq r) (suIndex r) (suValue r) then
    (h.putControl { openedControl p r with stage := 1 }).serveControl p (openedControl p r) false
  else h.putControl { openedControl p r with stage := 0 }

section
variable {h : Hub} {p dev r : Nat} {f : LineFault}

theorem setupReceived_silent (silent : h.answersOn p = false) : h.setupReceived p dev r f = h := by
  simp [setupReceived, silent]

section
variable (answers : h.answersOn p = true)
include answers

theorem setupReceived_faulty (faulty : f ≠ .good) : h.setupReceived p dev r f = h.countFault p f := by
  simp [setupReceived, answers, faulty]

theorem setupReceived_reserved (reserved : dev = 255) : h.setupReceived p dev r .good = h.reservedPacket p := by
  simp [setupReceived, answers, reserved]

theorem setupReceived_other (known : dev ≠ 255) (other : dev ≠ h.rd (Reg.myAddr p)) :
    h.setupReceived p dev r .good = h.heardPackets p 1 := by
  simp [setupReceived, answers, known, other]

theorem setupReceived_own (known : dev ≠ 255) (own : dev = h.rd (Reg.myAddr p)) :
    h.setupReceived p dev r .good = (h.setupHeard p).setupOpens p r := by
  rw [setupReceived, if_neg (by simp [answers]), if_neg (by simp), if_neg known, if_neg (not_not_intro own)]
  rfl

end

theorem setupOpens_stalled (illegal : 2 ≤ suKind r ∨ 1016 < suLen r ∨ (suKind r = 0 ∧ standardOk r = false) ∨
    (suKind r = 1 ∧ (h.fabricPort p = true ∨ p < 16 ∨ odDirOk r = false))) :
    h.setupOpens p r = h.putControl { openedControl p r with stall := true } := by
  by_cases malformed : 2 ≤ suKind r ∨ 1016 < suLen r
  · exact if_pos malformed
  · rw [setupOpens, if_neg malformed]
    rcases illegal with kind | long | ⟨standard, unknown⟩ | ⟨od, refused⟩
    · exact absurd (.inl kind) malformed
    · exact absurd (.inr long) malformed
    · rw [if_pos standard, if_pos (by simp [unknown])]
    · rw [if_neg (by omega), if_pos (by simpa using refused)]

theorem setupOpens_standard (standard : suKind r = 0) (short : ¬ 1016 < suLen r) (supported : standardOk r = true) :
    h.setupOpens p r = h.putControl { openedControl p r with len := (h.standardData r).1, data := (h.standardData r).2 } := by
  rw [setupOpens, if_neg (by omega), if_pos standard, if_neg (by simp [supported])]

section
variable (od : suKind r = 1) (short : ¬ 1016 < suLen r) (tree : h.fabricPort p = false) (trunk : 16 ≤ p) (directed : odDirOk r = true)
include od short tree trunk directed

/-- An OD request that the link carries is served once it is whole. -/
theorem setupOpens_od : h.setupOpens p r =
    if suIn r ∨ suLen r = 0 ∨ h.haltedFor p (suReq r) (suIndex r) (suValue r) then
      (h.putControl { openedControl p r with stage := 1 }).serveControl p (openedControl p r) false
    else h.putControl { openedControl p r with stage := 0 } := by
  rw [setupOpens, if_neg (by omega), if_neg (by omega), if_neg (by simp [tree, directed, trunk])]

theorem setupOpens_served (whole : suIn r = true ∨ suLen r = 0 ∨ h.haltedFor p (suReq r) (suIndex r) (suValue r) = true) :
    h.setupOpens p r = (h.putControl { openedControl p r with stage := 1 }).serveControl p (openedControl p r) false :=
  (setupOpens_od od short tree trunk directed).trans (if_pos whole)

theorem setupOpens_waits (waits : ¬ (suIn r = true ∨ suLen r = 0 ∨ h.haltedFor p (suReq r) (suIndex r) (suValue r) = true)) :
    h.setupOpens p r = h.putControl { openedControl p r with stage := 0 } :=
  (setupOpens_od od short tree trunk directed).trans (if_neg waits)

end
end

/-! ### Handshakes (R183, R185 to R190) -/

/-- The link is an ACTIVE packet link (R183). -/
abbrev packetLink (h : Hub) (p : Nat) : Prop := h.rd (Od.LINK_STATE p) = 4 ∧ h.rd (Od.LINK_CLASS p) ≠ 4 ∧ h.phyOn p = true

section
variable {h : Hub} {p next : Nat} {k : Handshake} {echo : Option Nat} {f : LineFault} {x : Txn} {r : TxnResult}

theorem handshakeReceived_deaf (deaf : ¬ h.packetLink p) : h.handshakeReceived p k next echo f = h := by
  refine if_pos ?_
  by_contra other
  simp only [not_or, ne_eq, not_not, Bool.not_eq_true', Bool.not_eq_false] at other
  exact deaf other

section
variable (link : h.packetLink p)
include link

/-- On an ACTIVE packet link the first check passes. -/
theorem packetLink_passes : ¬ (h.rd (Od.LINK_STATE p) ≠ 4 ∨ h.rd (Od.LINK_CLASS p) = 4 ∨ (!h.phyOn p) = true) := by
  obtain ⟨active, packets, on⟩ := link
  simp [active, packets, on]

theorem handshakeReceived_faulty (faulty : f ≠ .good) : h.handshakeReceived p k next echo f = h.countFault p f := by
  rw [handshakeReceived, if_neg (packetLink_passes link), if_pos faulty]

/-- ACK at the downstream end. -/
theorem handshakeReceived_down (down : (h.heardPackets p 1).downstreamEnd p = true) :
    h.handshakeReceived p .ack next echo .good = (h.heardPackets p 1).ackDown p next := by
  rw [handshakeReceived, if_neg (packetLink_passes link), if_neg (by simp)]
  exact if_pos down

section
variable (up : (h.heardPackets p 1).downstreamEnd p = false) (wire : (h.heardPackets p 1).onWire p = some x) (unanswered : x.result = none)
include up wire unanswered

/-- A handshake that is invalid for the transaction on the wire. -/
theorem handshakeReceived_invalid (invalid : (h.heardPackets p 1).handshakeResult x k next = none) :
    h.handshakeReceived p k next echo .good = (h.heardPackets p 1).startTxn { x with heard := true } := by
  rw [handshakeReceived, if_neg (packetLink_passes link), if_neg (by simp)]
  simp [up, wire, unanswered, invalid]

/-- A handshake that answers the transaction on the wire, and no PING with TIME that is acknowledged. -/
theorem handshakeReceived_answer (valid : (h.heardPackets p 1).handshakeResult x k next = some r)
    (untimed : x.kind ≠ .timePing ∨ k ≠ .ack ∨ echo = none) :
    h.handshakeReceived p k next echo .good = (h.heardPackets p 1).startTxn { x with heard := true, result := some r } := by
  rw [handshakeReceived, if_neg (packetLink_passes link), if_neg (by simp)]
  simp only [up, wire, unanswered, valid, Option.isSome_none, Bool.false_eq_true, if_false]
  split
  · simp_all
  · rfl

/-- ACK of a PING with TIME gives the round trip (R177). -/
theorem handshakeReceived_timePing (timed : x.kind = .timePing) (ping : x.isIn = false) (ns : Nat) :
    h.handshakeReceived p .ack next (some ns) .good =
      (((h.heardPackets p 1).startTxn { x with heard := true, result := some (.ack next) }).roundTrip p ns) := by
  rw [handshakeReceived, if_neg (packetLink_passes link), if_neg (by simp)]
  simp [up, wire, unanswered, handshakeResult, timed, ping]

end
end

/-! ### What a handshake is worth to its transaction (R185 to R189) -/

theorem handshakeResult_ack_out (out : x.isIn = false) (acked : ackedOf x.first next ≤ x.packets) :
    h.handshakeResult x .ack next = some (.ack next) :=
  if_neg (by simp [out, acked])

theorem handshakeResult_ack_in (isIn : x.isIn = true) : h.handshakeResult x .ack next = none := if_pos (.inl isIn)

theorem handshakeResult_nyet (slow : h.rd (Od.LINK_CLASS x.port) ≠ 3) : h.handshakeResult x .nyet next = none := if_pos (.inr (.inr slow))

/-! ### ACK at the downstream end (R187, R190, R234) -/

theorem ackDown_split (split : h.rd (Reg.splitAck p) ≠ 0) :
    h.ackDown p next = ((h.freeSlot (h.rd (Reg.splitAck p) - 1)).inc Od.SPLITS_COMPLETED).wr (Reg.splitAck p) 0 := if_pos split

theorem ackDown_burst (noSplit : h.rd (Reg.splitAck p) = 0) (sent : h.rd (Reg.inEp p) ≠ 0)
    (within : ackedOf (h.rd (Reg.mySend p (h.rd (Reg.inEp p) - 1))) next ≤ h.rd (Reg.myOut p (h.rd (Reg.inEp p) - 1))) :
    h.ackDown p next = ((h.wr (Reg.mySend p (h.rd (Reg.inEp p) - 1)) next).wr (Reg.inEp p) 0).acknowledged p (h.rd (Reg.inEp p) - 1)
      (ackedOf (h.rd (Reg.mySend p (h.rd (Reg.inEp p) - 1))) next) := by
  rw [ackDown, if_neg (not_not_intro noSplit), if_neg sent]
  exact if_neg (Nat.not_lt.2 within)

/-! ### tResponse and tBurstEnd (R186, R188) -/

theorem responseTimeout_early (early : h.due (Tm.linkResp p) = false) : h.responseTimeout p = h := by
  simp [responseTimeout, early]

section
variable (due : h.due (Tm.linkResp p) = true)
include due

theorem responseTimeout_sink (answers : h.answersOn p = true) : h.responseTimeout p = h.clear [Reg.inEp p, Reg.splitAck p, Tm.linkResp p] := by
  simp [responseTimeout, due, answers]

section
variable (source : h.answersOn p = false) (wire : h.onWire p = some x) (unanswered : x.result = none)
include source wire unanswered

theorem responseTimeout_again (few : x.tries < 3) :
    h.responseTimeout p = ((h.inc (Od.TIMEOUTS p)).inc (Od.RETRIES p)).goTxn { x with tries := x.tries + 1 } := by
  simp [responseTimeout, due, source, wire, unanswered, few]

theorem responseTimeout_last (many : 3 ≤ x.tries) :
    h.responseTimeout p = (h.inc (Od.TIMEOUTS p)).startTxn { x with result := some .error } := by
  simp [responseTimeout, due, source, wire, unanswered, Nat.not_lt.2 many]

end
end

theorem burstEnd_owed (owed : h.rd (Reg.burstAck p) ≠ 0) :
    h.burstEnd p = (h.emit (.handshake p 9 (h.rd (Reg.burstAck p) - 1))).wr (Reg.burstAck p) 0 := if_neg owed

theorem burstEnd_none (none : h.rd (Reg.burstAck p) = 0) : h.burstEnd p = h := if_pos none

end

end Sys2Proof.Machine.Hub

open Sys2Proof.Machine Sys2Proof.Machine.Hub

/-- Settles O42: each clause is one case of a setup's, a handshake's or a time-out's effect. -/
theorem handshakes : Obligations.Handshakes := by
  unfold Obligations.Handshakes
  dsimp only [exec, execSetupReceived, execHandshakeReceived, execLinkResponseTimeout, execBurstEndTimeout]
  intro t s p d r k n e f x y
  refine ⟨fun answers faulty => act_eq ?_, fun answers reserved => act_eq ?_, fun answers known other => act_eq ?_,
    fun ⟨answers, known, own⟩ illegal => act_eq ?_, fun ⟨answers, known, own⟩ standard short supported => act_eq ?_,
    fun ⟨answers, known, own⟩ ⟨od, short, tree, trunk, directed⟩ whole => act_eq ?_,
    fun ⟨answers, known, own⟩ ⟨od, short, tree, trunk, directed⟩ waits => act_eq ?_, fun silent => act_eq ?_, fun deaf => act_eq ?_,
    fun link faulty => act_eq ?_, fun ⟨link, up, wire, unanswered⟩ valid untimed => act_eq ?_,
    fun ⟨link, up, wire, unanswered⟩ timed ping ns => act_eq ?_, fun ⟨link, up, wire, unanswered⟩ invalid => act_eq ?_,
    fun h => ⟨rfl, rfl, handshakeResult_ack_out, handshakeResult_ack_in, handshakeResult_nyet⟩, fun link down split => act_eq ?_,
    fun link down noSplit sent within => act_eq ?_, fun due answers => act_eq ?_, fun due source wire unanswered few => act_eq ?_,
    fun due source wire unanswered many => act_eq ?_, fun early => act_eq ?_, fun owed => act_eq ?_, fun none => act_eq ?_⟩
  · exact setupReceived_faulty answers faulty
  · exact setupReceived_reserved answers reserved
  · exact setupReceived_other answers known other
  · exact (setupReceived_own answers known own).trans (setupOpens_stalled illegal)
  · exact (setupReceived_own answers known own).trans (setupOpens_standard standard short supported)
  · exact (setupReceived_own answers known own).trans (setupOpens_served od short tree trunk directed whole)
  · exact (setupReceived_own answers known own).trans (setupOpens_waits od short tree trunk directed waits)
  · exact setupReceived_silent silent
  · exact handshakeReceived_deaf deaf
  · exact handshakeReceived_faulty link faulty
  · exact handshakeReceived_answer link up wire unanswered valid untimed
  · exact handshakeReceived_timePing link up wire unanswered timed ping ns
  · exact handshakeReceived_invalid link up wire unanswered invalid
  · exact (handshakeReceived_down link down).trans (ackDown_split split)
  · exact (handshakeReceived_down link down).trans (ackDown_burst noSplit sent within)
  · exact responseTimeout_sink due answers
  · exact responseTimeout_again due source wire unanswered few
  · exact responseTimeout_last due source wire unanswered many
  · exact responseTimeout_early early
  · exact burstEnd_owed owed
  · exact burstEnd_none none
end

section
/-!
Frames on an ACTIVE link in the order of their checks, and the link-control frames of a trunk (R201 to R204, R207, R268, R448, R451).
-/
namespace Sys2Proof.Machine.Hub

/-! ### A frame that has arrived whole (R201, R202, R451) -/

/-- What a frame comes to once its code, header check, end and CRC-32 have passed. -/
def framePassed (p hd len data tag : Nat) (h : Hub) : Hub :=
  if reservedHeader hd then h.inc (Od.HDR_CHECK_ERR p)
  else if hEnc hd = 1 ∧ (h.trunkActive p = false ∨ h.linkRefuses p hd = true) then h.inc Od.TAG_FAILS
  else if !h.trunkActive p then h
  else if hEnc hd = 0 then h.frameAccepted p hd
  else if h.tagUnder (p - 16) hd len data tag (h.linkKeyOf (p - 16)).rxCur then (h.tagPassed (p - 16) false).frameAccepted p hd
  else if h.tagUnder (p - 16) hd len data tag (h.linkKeyOf (p - 16)).rxNext then (h.tagPassed (p - 16) true).frameAccepted p hd
  else h.tagFailed (p - 16)

section
variable {h : Hub} {p hd len data tag crc : Nat} {poisoned code : Bool}

theorem frameReceived_deaf (deaf : ¬ (h.rd (Od.LINK_STATE p) = 4 ∧ h.phyOn p = true)) :
    h.frameReceived p hd len data tag crc poisoned code = h := by
  refine if_pos ?_
  by_cases active : h.rd (Od.LINK_STATE p) = 4
  · exact .inr (by simpa [active] using deaf)
  · exact .inl active

section
variable (active : h.rd (Od.LINK_STATE p) = 4 ∧ h.phyOn p = true)
include active

/-- On an ACTIVE link the first check passes. -/
theorem activeLink_passes : ¬ (h.rd (Od.LINK_STATE p) ≠ 4 ∨ (!h.phyOn p) = true) := by
  simp [active.1, active.2]

theorem frameReceived_code : h.frameReceived p hd len data tag crc poisoned true = h.linkError p (Od.RX_CODE_ERR p) := by
  rw [frameReceived, if_neg (activeLink_passes active), if_pos rfl]

theorem frameReceived_header (wrong : withCheck hd ≠ hd) :
    h.frameReceived p hd len data tag crc poisoned false = h.inc (Od.HDR_CHECK_ERR p) := by
  rw [frameReceived, if_neg (activeLink_passes active), if_neg Bool.false_ne_true, if_pos wrong]

section
variable (checked : withCheck hd = hd)
include checked

theorem frameReceived_poisoned : h.frameReceived p hd len data tag crc true false = h.inc (Od.RX_POISONED p) := by
  rw [frameReceived, if_neg (activeLink_passes active), if_neg Bool.false_ne_true, if_neg (not_not_intro checked), if_pos rfl]

theorem frameReceived_crc (wrong : crcPasses hd len data tag crc = false) :
    h.frameReceived p hd len data tag crc false false = h.linkError p (Od.RX_CRC_ERR p) := by
  rw [frameReceived, if_neg (activeLink_passes active), if_neg Bool.false_ne_true, if_neg (not_not_intro checked), if_neg Bool.false_ne_true,
    if_pos (by simp [wrong])]

theorem frameReceived_whole (whole : crcPasses hd len data tag crc = true) :
    h.frameReceived p hd len data tag crc false false = h.framePassed p hd len data tag := by
  rw [frameReceived, if_neg (activeLink_passes active), if_neg Bool.false_ne_true, if_neg (not_not_intro checked), if_neg Bool.false_ne_true,
    if_neg (by simp [whole])]
  rfl

end
end

theorem framePassed_reserved (reserved : reservedHeader hd = true) : h.framePassed p hd len data tag = h.inc (Od.HDR_CHECK_ERR p) :=
  if_pos reserved

section
variable (known : reservedHeader hd = false)
include known

theorem framePassed_keyless (enc : hEnc hd = 1) (keyless : h.trunkActive p = false ∨ h.linkRefuses p hd = true) :
    h.framePassed p hd len data tag = h.inc Od.TAG_FAILS := by
  rw [framePassed, if_neg (by simp [known]), if_pos ⟨enc, keyless⟩]

theorem framePassed_packets (clear : hEnc hd = 0) (packets : h.trunkActive p = false) : h.framePassed p hd len data tag = h := by
  simp [framePassed, known, clear, packets]

theorem framePassed_clear (clear : hEnc hd = 0) (trunk : h.trunkActive p = true) :
    h.framePassed p hd len data tag = h.frameAccepted p hd := by
  simp [framePassed, known, clear, trunk]

section
variable (enc : hEnc hd = 1) (trunk : h.trunkActive p = true) (taken : h.linkRefuses p hd = false)
include enc trunk taken

theorem framePassed_current (current : h.tagUnder (p - 16) hd len data tag (h.linkKeyOf (p - 16)).rxCur = true) :
    h.framePassed p hd len data tag = (h.tagPassed (p - 16) false).frameAccepted p hd := by
  simp [framePassed, known, enc, trunk, taken, current]

theorem framePassed_next (notCurrent : h.tagUnder (p - 16) hd len data tag (h.linkKeyOf (p - 16)).rxCur = false)
    (next : h.tagUnder (p - 16) hd len data tag (h.linkKeyOf (p - 16)).rxNext = true) :
    h.framePassed p hd len data tag = (h.tagPassed (p - 16) true).frameAccepted p hd := by
  simp [framePassed, known, enc, trunk, taken, notCurrent, next]

theorem framePassed_failed (notCurrent : h.tagUnder (p - 16) hd len data tag (h.linkKeyOf (p - 16)).rxCur = false)
    (notNext : h.tagUnder (p - 16) hd len data tag (h.linkKeyOf (p - 16)).rxNext = false) :
    h.framePassed p hd len data tag = h.tagFailed (p - 16) := by
  simp [framePassed, known, enc, trunk, taken, notCurrent, notNext]

end
end
end

/-! ### The link-control frames of a trunk (R203, R204, R268) -/

section
variable {h : Hub} {p v t1 t2 t3 : Nat}

/-- CREDIT gives the limits of the four classes. -/
theorem creditReceived_trunk (trunk : h.trunkActive p = true) : h.creditReceived p v =
    ((((h.wr (Reg.crLimit p 0) (field v 0 2)).wr (Reg.crLimit p 1) (field v 2 2)).wr (Reg.crLimit p 2) (field v 4 2)).wr
      (Reg.crLimit p 3) (field v 6 2)).pumpControl p := if_pos trunk

theorem creditReceived_other (other : h.trunkActive p = false) : h.creditReceived p v = h := by simp [creditReceived, other]

theorem statusReceived_trunk (trunk : h.trunkActive p = true) : h.statusReceived p v = h.wr (Reg.peerHalts p) v := if_pos trunk

theorem statusReceived_other (other : h.trunkActive p = false) : h.statusReceived p v = h := by simp [statusReceived, other]

theorem tickReceived_trunk (trunk : h.trunkActive p = true) (down : h.downstreamEnd p = true) : h.tickReceived p v =
    h.timeMessage p v (if h.rd (Reg.tickSeen p) = 1 then some (h.rd (Od.CABLE_DELAY p) * 8) else none) h.timebase := by
  simp [tickReceived, trunk, down]

theorem tickReceived_other (other : h.trunkActive p = false ∨ h.downstreamEnd p = false) : h.tickReceived p v = h :=
  if_neg (by rcases other with off | off <;> simp [off])

theorem probeReceived_trunk (trunk : h.trunkActive p = true) (up : h.upstreamEnd p = true) :
    h.probeReceived p t1 = h.sendLink p 4 (pack [(8, t1), (8, h.timebase), (8, h.timebase)]) := by
  simp [probeReceived, trunk, up]

theorem probeReceived_other (other : h.trunkActive p = false ∨ h.upstreamEnd p = false) : h.probeReceived p t1 = h :=
  if_neg (by rcases other with off | off <;> simp [off])

theorem echoReceived_trunk (trunk : h.trunkActive p = true) (down : h.downstreamEnd p = true) : h.echoReceived p t1 t2 t3 =
    (h.wr (Od.CABLE_DELAY p) (min 65535 (((h.timebase - t1) - (t3 - t2)) / 2 / 8))).wr (Reg.tickSeen p) 1 := by
  simp [echoReceived, trunk, down]

theorem echoReceived_other (other : h.trunkActive p = false ∨ h.downstreamEnd p = false) : h.echoReceived p t1 t2 t3 = h :=
  if_neg (by rcases other with off | off <;> simp [off])

/-! ### CREDIT and STATUS again (R203, R204) -/

theorem creditTimer_trunk (due : h.due (Tm.credit p) = true) (trunk : (h.wr (Tm.credit p) 0).trunkActive p = true) : h.creditTimer p =
    ((((h.wr (Tm.credit p) 0).sendLink p 1 ((h.wr (Tm.credit p) 0).creditPayload p)).wr (Reg.creditTold p)
      ((h.wr (Tm.credit p) 0).creditPayload p + 1)).arm (Tm.credit p) (us 100)) :=
  (expire_due h _ _ due).trans (if_pos trunk)

theorem creditTimer_other (due : h.due (Tm.credit p) = true) (other : (h.wr (Tm.credit p) 0).trunkActive p = false) :
    h.creditTimer p = h.wr (Tm.credit p) 0 :=
  (expire_due h _ _ due).trans (if_neg (by simp [other]))

theorem creditTimer_early (early : h.due (Tm.credit p) = false) : h.creditTimer p = h := expire_not_due h _ _ early

theorem statusTimer_trunk (due : h.due (Tm.status p) = true) (trunk : (h.wr (Tm.status p) 0).trunkActive p = true) : h.statusTimer p =
    ((((h.wr (Tm.status p) 0).sendLink p 5 (h.wr (Tm.status p) 0).statusPayload).wr (Reg.statusTold p)
      ((h.wr (Tm.status p) 0).statusPayload + 1)).arm (Tm.status p) (ms 100)) :=
  (expire_due h _ _ due).trans (if_pos trunk)

theorem statusTimer_other (due : h.due (Tm.status p) = true) (other : (h.wr (Tm.status p) 0).trunkActive p = false) :
    h.statusTimer p = h.wr (Tm.status p) 0 :=
  (expire_due h _ _ due).trans (if_neg (by simp [other]))

theorem statusTimer_early (early : h.due (Tm.status p) = false) : h.statusTimer p = h := expire_not_due h _ _ early

end

end Sys2Proof.Machine.Hub

open Sys2Proof.Machine Sys2Proof.Machine.Hub

/-- Settles O44: each clause is one case of a frame's effect, or of a link-control frame's. -/
theorem trunkFrames : Obligations.TrunkFrames := by
  unfold Obligations.TrunkFrames
  dsimp only [exec, execTrunkFrameReceived, execLinkCredit, execLinkTick, execLinkProbe, execLinkEcho, execLinkStatus, execCreditTimer,
    execLinkStatusTimer]
  intro t s p u h len data tag crc poisoned code w t1 t2 t3 v
  refine ⟨fun active => act_eq ?_, fun active wrong => act_eq ?_, fun active checked => act_eq ?_, fun active checked wrong => act_eq ?_,
    fun ⟨active, checked, whole⟩ reserved => act_eq ?_, fun ⟨⟨active, checked, whole⟩, known⟩ enc keyless => act_eq ?_,
    fun ⟨⟨active, checked, whole⟩, known⟩ clear trunk => act_eq ?_, fun ⟨⟨active, checked, whole⟩, known⟩ clear packets => act_eq ?_,
    fun ⟨⟨⟨active, checked, whole⟩, known⟩, enc, trunk, taken⟩ current => act_eq ?_,
    fun ⟨⟨⟨active, checked, whole⟩, known⟩, enc, trunk, taken⟩ notCurrent next => act_eq ?_,
    fun ⟨⟨⟨active, checked, whole⟩, known⟩, enc, trunk, taken⟩ notCurrent notNext => act_eq ?_, fun deaf => act_eq ?_,
    fun trunk => act_eq ?_, fun other => act_eq ?_, fun trunk down seen => act_eq ?_, fun trunk down unseen => act_eq ?_,
    fun other => act_eq ?_, fun trunk up => act_eq ?_, fun other => act_eq ?_, fun trunk down => act_eq ?_, fun other => act_eq ?_,
    fun trunk => act_eq ?_, fun other => act_eq ?_, fun due trunk => act_eq ?_, fun due other => act_eq ?_, fun early => act_eq ?_,
    fun due trunk => act_eq ?_, fun due other => act_eq ?_, fun early => act_eq ?_⟩
  · exact frameReceived_code active
  · exact frameReceived_header active wrong
  · exact frameReceived_poisoned active checked
  · exact frameReceived_crc active checked wrong
  · exact (frameReceived_whole active checked whole).trans (framePassed_reserved reserved)
  · exact (frameReceived_whole active checked whole).trans (framePassed_keyless known enc keyless)
  · exact (frameReceived_whole active checked whole).trans (framePassed_clear known clear trunk)
  · exact (frameReceived_whole active checked whole).trans (framePassed_packets known clear packets)
  · exact (frameReceived_whole active checked whole).trans (framePassed_current known enc trunk taken current)
  · exact (frameReceived_whole active checked whole).trans (framePassed_next known enc trunk taken notCurrent next)
  · exact (frameReceived_whole active checked whole).trans (framePassed_failed known enc trunk taken notCurrent notNext)
  · exact frameReceived_deaf deaf
  · exact creditReceived_trunk trunk
  · exact creditReceived_other other
  · exact (tickReceived_trunk trunk down).trans (by rw [if_pos seen])
  · exact (tickReceived_trunk trunk down).trans (by rw [if_neg unseen])
  · exact tickReceived_other other
  · exact probeReceived_trunk trunk up
  · exact probeReceived_other other
  · exact echoReceived_trunk trunk down
  · exact echoReceived_other other
  · exact statusReceived_trunk trunk
  · exact statusReceived_other other
  · exact creditTimer_trunk due trunk
  · exact creditTimer_other due other
  · exact creditTimer_early early
  · exact statusTimer_trunk due trunk
  · exact statusTimer_other due other
  · exact statusTimer_early early
end

section
/-!
The protective actions of the power die on a port it holds (R23, R496): in hold the logic die's thresholds do not enter, and the action is the hold
record's alone.
-/
namespace Sys2Proof.Machine

namespace Hub

/-! ### The end of limiting leaves hold and its records -/

theorem hold_ne_limiting (p : Dn) : Reg.hold ≠ Reg.limiting p := by
  have bound := p.isLt
  unfold Reg.hold Reg.limiting rkey
  omega

@[simp] theorem rd_limitBroken_hold (h : Hub) (last : Nat) (p : Dn) : (h.limitBroken last p).rd Reg.hold = h.rd Reg.hold := by
  unfold limitBroken
  split
  · exact rd_wr_ne _ _ _ _ (hold_ne_limiting p)
  · rfl

@[simp] theorem limitBroken_holds (h : Hub) (last p : Nat) : (h.limitBroken last p).holds = h.holds := by
  unfold limitBroken
  split <;> rfl

/-! ### In hold each protective action is the hold record's -/

section
variable {h : Hub} {p : Dn} {last since peak : Nat} {m : Sense} {busy ovr : Bool}
variable (held : h.rd Reg.hold = 1)
include held

theorem protect_held (cause : Nat) : h.protect p cause peak m busy ovr = h.holdTrip p cause peak := if_pos held

theorem fastTrip_held : h.fastTrip p peak m busy ovr = h.holdTrip p 2 peak :=
  (if_pos (.inl held)).trans (protect_held held 2)

theorem limitTrip_held : h.limitTrip p last peak m busy ovr = (h.limitBroken last p).holdTrip p 3 peak :=
  (if_pos (.inl held)).trans (protect_held (by rwa [rd_limitBroken_hold]) 3)

theorem guardTrip_held : h.guardTrip p last peak m busy ovr = (h.limitBroken last p).holdTrip p 3 peak :=
  (if_pos (.inl held)).trans (protect_held (by rwa [rd_limitBroken_hold]) 3)

theorem reverseTrip_held : h.reverseTrip p since peak m busy ovr = h.holdTrip p 4 peak :=
  (if_pos (.inl held)).trans (protect_held held 4)

end

/-! ### The first event of a powered port stands (Table 17-4) -/

section
variable {h : Hub} {p cause peak : Nat} {r : HoldRec}
variable (found : h.holds.find? (fun x : HoldRec => x.port == p) = some r)
include found

theorem holdTrip_first (powered : r.power = 3) (noEvent : r.event = 0) : h.holdTrip p cause peak =
    ({ h with holds := putBy HoldRec.port { r with event := 2, offCause := cause, peak := peak, opens := true } h.holds } : Hub).holdOpen p := by
  simp only [holdTrip, found, powered, noEvent, and_self, if_true]

theorem holdTrip_later (later : r.power ≠ 3 ∨ r.event ≠ 0) : h.holdTrip p cause peak = h := by
  simp only [holdTrip, found, if_neg (not_and_or.2 later)]

end
end Hub

/-- A command whose effect is an action on the hold record writes the first event of a powered port, and nothing otherwise. -/
theorem act_holdTrip {t : Stamp} {s : State} {f : Hub → Hub} {h : Hub} {p cause peak : Nat} {r : HoldRec}
    (e : f (s.arrive t) = h.holdTrip p cause peak) (found : h.holds.find? (fun x : HoldRec => x.port == p) = some r) :
    (r.power = 3 → r.event = 0 → act t s f = .next (s.settled (({ h with
      holds := putBy HoldRec.port { r with event := 2, offCause := cause, peak := peak, opens := true } h.holds } : Hub).holdOpen p))) ∧
    ((r.power ≠ 3 ∨ r.event ≠ 0) → act t s f = .next (s.settled h)) :=
  ⟨fun powered noEvent => act_eq (e.trans (Hub.holdTrip_first found powered noEvent)),
    fun later => act_eq (e.trans (Hub.holdTrip_later found later))⟩

end Sys2Proof.Machine

open Sys2Proof.Machine Sys2Proof.Machine.Hub

/-- Settles O30: in hold each of the four actions is one on the hold record, which the end of limiting leaves as it stands. -/
theorem tripInHold : Obligations.TripInHold := by
  unfold Obligations.TripInHold
  intro t last since s p m peak busy ovr r H B held found
  have foundB : B.holds.find? (fun x : HoldRec => x.port == p.val) = some r := by rwa [limitBroken_holds]
  simp only [List.forall_mem_cons]
  refine ⟨?fast, ?limit, ?guard, ?reverse, List.forall_mem_nil _⟩
  case fast => exact act_holdTrip (fastTrip_held held) found
  case limit => exact act_holdTrip (limitTrip_held held) foundB
  case guard => exact act_holdTrip (guardTrip_held held) foundB
  case reverse => exact act_holdTrip (reverseTrip_held held) found
end

section
/-!
The line monitor, case by case (R45 to R51, R128): the end of a period of screen injection, the hour's means, and a forced slot.
-/
namespace Sys2Proof.Machine.Hub

/-! ### The readings that come with a command -/

/-- The cells that the readings of a command can write on port p. -/
def senseCells (p : Nat) : List Nat :=
  [Od.RAIL_A_MV, Od.RAIL_B_MV, Od.VBUS_MV p, Od.IBUS_MA p, Reg.energy p, lineKey p 0x08, lineKey p 0x09, lineKey p 0x0A, lineKey p 0x0B]

theorem rd_bridgeCondition_ne {p j : Nat} (other : ∀ sub ∈ [0x08, 0x09, 0x0A, 0x0B], j ≠ lineKey p sub) (h : Hub) :
    (h.bridgeCondition p).rd j = h.rd j := by
  simp only [List.forall_mem_cons] at other
  obtain ⟨dp, dn, cf1, cf2, -⟩ := other
  unfold bridgeCondition
  split
  · rfl
  · simp only [rd_wr_ne _ _ _ _ dp, rd_wr_ne _ _ _ _ dn, rd_wr_ne _ _ _ _ cf1, rd_wr_ne _ _ _ _ cf2]

theorem rd_sense_ne {p j : Nat} (other : ∀ k ∈ senseCells p, j ≠ k) (h : Hub) (m : Sense) : (h.sense p m).rd j = h.rd j := by
  simp only [senseCells, List.forall_mem_cons] at other
  obtain ⟨railA, railB, vbus, ibus, energy, dp, dn, cf1, cf2, -⟩ := other
  unfold sense
  split
  · rw [rd_bridgeCondition_ne (by simp [dp, dn, cf1, cf2])]
    simp only [rd_wr_ne _ _ _ _ railA, rd_wr_ne _ _ _ _ railB, rd_wr_ne _ _ _ _ vbus, rd_wr_ne _ _ _ _ ibus, rd_wr_ne _ _ _ _ energy]
  · simp only [rd_wr_ne _ _ _ _ railA, rd_wr_ne _ _ _ _ railB]

theorem monitorEnable_not_sensed (p : Dn) : ∀ k ∈ senseCells p, Od.MONITOR_ENABLE p ≠ k := by
  have bound := p.isLt
  simp only [senseCells, List.forall_mem_cons, List.not_mem_nil, false_imp_iff, implies_true, and_true, Od.MONITOR_ENABLE,
    Od.RAIL_A_MV, Od.RAIL_B_MV, Od.VBUS_MV, Od.IBUS_MA, Od.key, lineKey, Reg.energy, rkey]
  omega

/-- The internal registers lie above the entries of the dictionary. -/
theorem monitorEnable_ne_rkey (p : Dn) (i a : Nat) : Od.MONITOR_ENABLE p ≠ rkey i a := by
  have bound := p.isLt
  unfold Od.MONITOR_ENABLE Od.key rkey
  omega

/-! ### The end of a period of screen injection (R45, R46, R49, R50) -/

/-- The readings have come and the next period of screen injection has begun. -/
def screenNext (p : Nat) (m : Sense) (h : Hub) : Hub := (h.sense p m).wr (Reg.screenFrom p) (h.now + 1)

@[simp] theorem rd_screenNext_monitorEnable (h : Hub) (p : Dn) (m : Sense) :
    (h.screenNext p m).rd (Od.MONITOR_ENABLE p) = h.rd (Od.MONITOR_ENABLE p) :=
  (rd_wr_ne _ _ _ _ (monitorEnable_ne_rkey p _ _)).trans (rd_sense_ne (monitorEnable_not_sensed p) h m)

section
variable {h : Hub} {p : Dn} {r : Nat} {mean : Int} {m : Sense}

theorem screenEnd_disabled (off : h.rd (Od.MONITOR_ENABLE p) = 0) : h.screenEnd p r mean m = h.screenNext p m :=
  if_pos ((rd_screenNext_monitorEnable h p m).trans off)

section
variable (on : h.rd (Od.MONITOR_ENABLE p) ≠ 0)
include on

theorem screenEnd_spoiled (spoiled : (h.screenNext p m).measureSpoiled p (h.rd (Reg.screenFrom p)) = true) :
    h.screenEnd p r mean m = (h.screenNext p m).inc (Od.MEAS_DISCARDED p) :=
  (if_neg (by rwa [← screenNext, rd_screenNext_monitorEnable])).trans (if_pos spoiled)

/-- A period that no event fell into gives its reading, and the hour's sum takes it where it is a measured one. -/
theorem screenEnd_measured (clean : (h.screenNext p m).measureSpoiled p (h.rd (Reg.screenFrom p)) = false) :
    h.screenEnd p r mean m =
      let read := ((h.screenNext p m).wr (Od.INSUL_SCREEN p) (inRange 100000000 r)).wr (Od.SCREEN_FAULT_GROUP p) (screenGroup mean m.vbus.toNat)
      (if inRange 100000000 r = notMeasured then read
        else (read.add (Reg.screenSum p) (inRange 100000000 r) 64).inc (Reg.screenCount p) 32).judgeLine p :=
  (if_neg (by rwa [← screenNext, rd_screenNext_monitorEnable])).trans (if_neg (by rw [← screenNext, clean]; exact Bool.false_ne_true))

variable (clean : (h.screenNext p m).measureSpoiled p (h.rd (Reg.screenFrom p)) = false)
include clean

theorem screenEnd_inRange (within : r ≤ 100000000) : h.screenEnd p r mean m =
    (((((h.screenNext p m).wr (Od.INSUL_SCREEN p) r).wr (Od.SCREEN_FAULT_GROUP p) (screenGroup mean m.vbus.toNat)).add
      (Reg.screenSum p) r 64).inc (Reg.screenCount p) 32).judgeLine p := by
  have reading : inRange 100000000 r = r := if_neg (Nat.not_lt.2 within)
  have measured : r ≠ notMeasured := by unfold notMeasured; omega
  simp only [screenEnd_measured on clean, reading, if_neg measured]

theorem screenEnd_aboveRange (above : 100000000 < r) : h.screenEnd p r mean m =
    (((h.screenNext p m).wr (Od.INSUL_SCREEN p) notMeasured).wr (Od.SCREEN_FAULT_GROUP p) (screenGroup mean m.vbus.toNat)).judgeLine p := by
  have reading : inRange 100000000 r = notMeasured := if_pos above
  simp only [screenEnd_measured on clean, reading, if_true]

end
end

/-! ### The end of an hour window (R49 to R51) -/

/-- The sums and counts that the monitor keeps over an hour. -/
def hourSums (p : Nat) : List Nat := [Reg.screenSum p, Reg.screenCount p, Reg.probeSum p, Reg.probeCount p]

/-- The monitor has closed the hour window in which the stamp lies. -/
def hourClosed (p : Nat) (h : Hub) : Hub := h.wr (Reg.hourWin p) (hourOf h.stamp)

/-- The hour's sums have given their means and start afresh. -/
def hourMeans (p : Nat) (h : Hub) : Hub :=
  (((h.hourClosed p).meanOfSum p 0x06 (Reg.screenSum p) (Reg.screenCount p)).meanOfSum p 0x05 (Reg.probeSum p) (Reg.probeCount p)).clear (hourSums p)

theorem rd_hourClosed_monitorEnable (h : Hub) (p : Dn) : (h.hourClosed p).rd (Od.MONITOR_ENABLE p) = h.rd (Od.MONITOR_ENABLE p) :=
  rd_wr_ne _ _ _ _ (monitorEnable_ne_rkey p _ _)

section
variable {h : Hub} {p : Dn} {x : HourReadings} {overlap : Bool}

theorem hourEnd_again (same : hourOf h.stamp = h.rd (Reg.hourWin p)) : h.hourEnd p x overlap = h := if_pos same

section
variable (new : hourOf h.stamp ≠ h.rd (Reg.hourWin p))
include new

theorem hourEnd_disabled (off : h.rd (Od.MONITOR_ENABLE p) = 0) : h.hourEnd p x overlap = (h.hourClosed p).clear (hourSums p) :=
  (if_neg new).trans (if_pos ((rd_hourClosed_monitorEnable h p).trans off))

variable (on : h.rd (Od.MONITOR_ENABLE p) ≠ 0)
include on

/-- The first close of a window with the monitor enabled takes the bridge's readings unless they were spoiled, and judges. -/
theorem hourEnd_enabled : h.hourEnd p x overlap =
    (if overlap || (h.hourMeans p).measureBlocked p then (h.hourMeans p).inc (Od.MEAS_DISCARDED p) else (h.hourMeans p).bridgeHour p x).judgeLine p :=
  (if_neg new).trans (if_neg (by rwa [← hourClosed, rd_hourClosed_monitorEnable]))

theorem hourEnd_taken (apart : overlap = false) (free : (h.hourMeans p).measureBlocked p = false) :
    h.hourEnd p x overlap = ((h.hourMeans p).bridgeHour p x).judgeLine p := by
  rw [hourEnd_enabled new on, if_neg (by simp [apart, free])]

theorem hourEnd_spoiled (spoiled : overlap = true ∨ (h.hourMeans p).measureBlocked p = true) :
    h.hourEnd p x overlap = ((h.hourMeans p).inc (Od.MEAS_DISCARDED p)).judgeLine p := by
  rw [hourEnd_enabled new on, if_pos (by simpa using spoiled)]

end
end

/-! ### A forced slot (R47) -/

section
variable {h : Hub} {p : Nat}

theorem forceSlot_owed (wanted : h.slotWanted p = true) (long : h.rd (Reg.slotAt p) + 64 ≤ h.gridTime / 125000 + 1) :
    h.forceSlot p = h.wr (Reg.monOwed p) 1 := if_pos (by simp [wanted, long])

theorem forceSlot_none (unowed : h.slotWanted p = false ∨ h.gridTime / 125000 + 1 < h.rd (Reg.slotAt p) + 64) : h.forceSlot p = h :=
  if_neg fun both => by
    simp only [Bool.and_eq_true, decide_eq_true_eq] at both
    obtain ⟨wanted, long⟩ := both
    rcases unowed with unwanted | recent
    · simp [wanted] at unwanted
    · omega

end

end Sys2Proof.Machine.Hub

open Sys2Proof.Machine Sys2Proof.Machine.Hub

/-- Settles O19: each clause is one case of a period's end, of an hour's end or of a forced slot. -/
theorem lineReadings : Obligations.LineReadings := by
  unfold Obligations.LineReadings
  dsimp only [exec, execScreenReading, execHourlyMean, execForcedMonitorSlot]
  intro t s p r mean m x ov
  refine ⟨fun on clean within => act_eq ?_, fun on clean above => act_eq ?_, fun on spoiled => act_eq ?_, fun off => act_eq ?_,
    fun same => act_eq ?_, fun new off => act_eq ?_, fun new on apart free => act_eq ?_, fun new on spoiled => act_eq ?_,
    fun wanted long => act_eq ?_, fun unowed => act_eq ?_⟩
  · exact screenEnd_inRange on clean within
  · exact screenEnd_aboveRange on clean above
  · exact screenEnd_spoiled on spoiled
  · exact screenEnd_disabled off
  · exact hourEnd_again same
  · exact hourEnd_disabled new off
  · exact hourEnd_taken new on apart free
  · exact hourEnd_spoiled new on spoiled
  · exact forceSlot_owed wanted long
  · exact forceSlot_none unowed
end

section
/-!
Reflectometry and the polarity probe, case by case (R49, R50, R52 to R60).
-/
namespace Sys2Proof.Machine.Hub

/-! ### A register write with an effect of its own (R13, R364) -/

section
variable {h : Hub} {code k v : Nat} {f : Hub → Hub}

theorem judged_ok (ok : code = 0) : h.judged code k v f = (f (h.keep k v)).wrote 0 := if_pos ok

theorem judged_refused (refused : code ≠ 0) : h.judged code k v f = h.wrote code := if_neg refused

theorem writing_writable (writable : h.Writable k v) : h.writing k v f = (f (h.keep k v)).wrote 0 := judged_ok writable

end

/-! ### Traces begin (R57, R60) -/

section
variable {h : Hub} {p : Nat}

theorem beginTrace_starts (idle : h.rd (Reg.tdrRun p) = 0) (allowed : h.traceAllowed p = true) : h.beginTrace p = h.traceStart p 1 :=
  if_pos ⟨idle, allowed⟩

theorem beginTrace_not (busy : h.rd (Reg.tdrRun p) ≠ 0 ∨ h.traceAllowed p = false) : h.beginTrace p = h :=
  if_neg (by rcases busy with runs | barred <;> simp [*])

theorem intervalTrace_elapsed (elapsed : h.rd (Reg.tdrLast p) + h.rd (Od.TDR_INTERVAL p) * 1000000000 ≤ h.now) :
    h.intervalTrace p = (h.wr (Reg.tdrLast p) h.now).beginTrace p := if_pos elapsed

theorem tripTrace_starts (owed : h.rd (Reg.tripTrace p) = 2) (allowed : h.traceAllowed p = true) :
    h.tripTrace p = (h.wr (Reg.tripTrace p) 0).traceStart p 2 := if_pos ⟨owed, allowed⟩

theorem tripTrace_not (waits : h.rd (Reg.tripTrace p) ≠ 2 ∨ h.traceAllowed p = false) : h.tripTrace p = h :=
  if_neg (by rcases waits with early | barred <;> simp [*])

/-! ### A trace ends (R49, R57 to R59) -/

/-- The 256 shots of the trace under way, and one more for each that was discarded, have been taken. -/
abbrev traceEnded (h : Hub) (p : Nat) : Prop := h.rd (Reg.tdrAt p) + (256 + h.rd (Reg.shotsLost p)) * 125000 ≤ h.now + 1

variable {trace : Nat} {es : List Echo}

theorem traceEnd_waits (waits : h.rd (Reg.tdrRun p) = 0 ∨ h.traceAllowed p = false ∨ ¬ h.traceEnded p) : h.traceEnd p trace es = h :=
  if_pos (by rwa [traceEnded, not_le] at waits)

section
variable (allowed : h.traceAllowed p = true) (ended : h.traceEnded p)
include allowed ended

/-- The end of a trace under way passes the first check. -/
theorem traceEnd_passes (runs : h.rd (Reg.tdrRun p) ≠ 0) :
    ¬ (h.rd (Reg.tdrRun p) = 0 ∨ h.traceAllowed p = false ∨ h.now + 1 < h.rd (Reg.tdrAt p) + (256 + h.rd (Reg.shotsLost p)) * 125000) := by
  simp [runs, allowed, ended]

theorem traceEnd_spoiled (runs : h.rd (Reg.tdrRun p) ≠ 0) (spoiled : h.measureSpoiled p (h.rd (Reg.tdrAt p)) = true) :
    h.traceEnd p trace es = h.traceSpoiled p (h.rd (Reg.tdrRun p)) :=
  (if_neg (traceEnd_passes allowed ended runs)).trans (if_pos spoiled)

theorem traceEnd_stored (ordinary : h.rd (Reg.tdrRun p) = 1) (clean : h.measureSpoiled p (h.rd (Reg.tdrAt p)) = false) :
    h.traceEnd p trace es = ((((h.wr (Reg.tdrRun p) 0).wr (Od.TDR_TRACE p) (trace % 256 ^ 2048)).putRecord
      ⟨p, 0, es, trace % 256 ^ 2048, []⟩).judgeTrace p es).judgeReach p := by
  rw [traceEnd, if_neg (traceEnd_passes allowed ended (by omega)), if_neg (by simp [clean])]
  have notTrip : h.rd (Reg.tdrRun p) ≠ 2 := by omega
  exact congrArg (fun x : Hub => (x.judgeTrace p es).judgeReach p) (if_neg notTrip)

end

theorem traceSpoiled_trip : h.traceSpoiled p 2 = ((h.wr (Reg.tripTrace p) 2).wr (Reg.tdrRun p) 0).inc (Od.MEAS_DISCARDED p) := rfl

/-! ### The baseline (R50) -/

theorem lineRecord_putRecord_same (x : LineRecord) : (h.putRecord x).lineRecord x.port x.kind = some x := by
  simp [lineRecord, putRecord]

theorem lineRecord_port {kind : Nat} {x : LineRecord} (found : h.lineRecord p kind = some x) : x.port = p := by
  have test := List.find?_some found
  simp only [Bool.and_eq_true, beq_iff_eq] at test
  exact test.1

/-- The last trace of a port, or an empty one where there is none. -/
def lastTrace (h : Hub) (p : Nat) : LineRecord := (h.lineRecord p 0).getD ⟨p, 0, [], 0, []⟩

theorem lastTrace_port : (h.lastTrace p).port = p := by
  unfold lastTrace
  cases found : h.lineRecord p 0 with
  | none => rfl
  | some x => exact lineRecord_port found

/-- The last trace with the present readings: what a capture stores. -/
def presentBaseline (h : Hub) (p : Nat) : LineRecord :=
  { h.lastTrace p with kind := 1, readings := lineSubs.map (fun i => h.rd (lineKey p i)) }

theorem captureBaseline_record : (h.captureBaseline p).lineRecord p 1 = some (h.presentBaseline p) := by
  have stored := lineRecord_putRecord_same (h := h) (h.presentBaseline p)
  have own : (h.presentBaseline p).port = p := lastTrace_port
  rw [own] at stored
  exact stored

/-- The baseline holds the readings at its capture. -/
theorem captureBaseline_readings :
    ((h.captureBaseline p).lineRecord p 1).map (·.readings) = some (lineSubs.map (fun i => h.rd (lineKey p i))) :=
  congrArg (Option.map (·.readings)) captureBaseline_record

end

/-! ### The polarity probe (R52 to R56) -/

/-- What the end of phase n of the probe does once its time has come (Table 2-6). -/
def probePhaseOver (n p : Nat) (v : Int) (i : Nat) (h : Hub) : Hub :=
  match n with
  | 1 => (((h.wr (Reg.probePre p) (ofSigned 16 v)).wr (Reg.probePhase p) 2).emit (.powerDie p (.probe 1))).arm (Tm.probe p) (ms 48)
  | 2 => ((((h.wr (Reg.probeF p) (i % 65536)).wr (Reg.probePhase p) 3).emit (.powerDie p (.probe 0))).emit
      (.powerDie p (.discharge true))).arm (Tm.probe p) (us 9600)
  | 3 => (((h.wr (Reg.probePhase p) 4).emit (.powerDie p (.discharge false))).emit (.powerDie p (.probe 2))).arm (Tm.probe p) (ms 48)
  | 4 => h.probeDone p i v.toNat
  | _ => h

section
variable {h : Hub} {p n i : Nat} {v : Int}

theorem probePhaseEnd_due (due : h.due (Tm.probe p) = true) (phase : (h.wr (Tm.probe p) 0).rd (Reg.probePhase p) = n) :
    h.probePhaseEnd p v i = (h.wr (Tm.probe p) 0).probePhaseOver n p v i := by
  subst phase
  exact expire_due h _ _ due

theorem probePhaseEnd_early (early : h.due (Tm.probe p) = false) : h.probePhaseEnd p v i = h := expire_not_due h _ _ early

theorem probeWrite_begins (free : h.probeRefused p = false) : h.probeWrite p = ((h.keep (Od.PROBE_START p) 1).probeStart p).wrote 0 :=
  judged_ok (by simp [free])

theorem probeWrite_refused (refused : h.probeRefused p = true) : h.probeWrite p = h.wrote 7 := by
  rw [probeWrite, if_pos refused]
  exact judged_refused (by decide)

theorem probeRefused_powered (powered : h.powered p = true) : h.probeRefused p = true := by simp [probeRefused, powered]

theorem probeRefused_noSource (other : h.isSource p = false) : h.probeRefused p = true := by simp [probeRefused, other]

end

end Sys2Proof.Machine.Hub

open Sys2Proof.Machine Sys2Proof.Machine.Hub

/-- Settles O20: each clause is one case of a trace's beginning or end, or the capture of the baseline. -/
theorem reflectometry : Obligations.Reflectometry := by
  unfold Obligations.Reflectometry
  dsimp only [exec, execTdrStart, execTdrIntervalExpiry, execTripLocationTrace, execTdrTraceComplete, execCaptureBaseline]
  intro t s p tr es
  refine ⟨fun writable idle allowed => act_eq ?_, fun writable busy => act_eq ?_, fun elapsed idle allowed => act_eq ?_,
    fun elapsed busy => act_eq ?_, fun owed allowed => act_eq ?_, fun waits => act_eq ?_, fun ordinary allowed ended clean => act_eq ?_,
    fun trip allowed ended spoiled => act_eq ?_, fun waits => act_eq ?_, fun writable => act_eq ?_, fun h => captureBaseline_readings⟩
  · exact (writing_writable writable).trans (congrArg (wrote 0) (beginTrace_starts idle allowed))
  · exact (writing_writable writable).trans (congrArg (wrote 0) (beginTrace_not busy))
  · exact (intervalTrace_elapsed elapsed).trans (beginTrace_starts idle allowed)
  · exact (intervalTrace_elapsed elapsed).trans (beginTrace_not busy)
  · exact tripTrace_starts owed allowed
  · exact tripTrace_not waits
  · exact traceEnd_stored allowed ended ordinary clean
  · exact (traceEnd_spoiled allowed ended (by omega) spoiled).trans (by rw [trip, traceSpoiled_trip])
  · exact traceEnd_waits waits
  · exact writing_writable writable

/-- Settles O21: each clause is one case of the write of PROBE_START or the end of one phase. -/
theorem polarityProbe : Obligations.PolarityProbe := by
  unfold Obligations.PolarityProbe
  dsimp only [exec, execProbeStart, execProbePhaseEnd]
  intro t s p v cur m
  refine ⟨fun free => act_eq ?_, fun refused => act_eq ?_, fun h => probeRefused_powered, fun h => probeRefused_noSource,
    fun due first => act_eq ?_, fun due second => act_eq ?_, fun due third => act_eq ?_, fun due fourth => act_eq ?_,
    fun early => act_eq ?_⟩
  · exact probeWrite_begins free
  · exact probeWrite_refused refused
  · exact probePhaseEnd_due due first
  · exact probePhaseEnd_due due second
  · exact probePhaseEnd_due due third
  · exact probePhaseEnd_due due fourth
  · exact probePhaseEnd_early early
end

section
/-!
The engine of a port, case by case (R48, R220, R222 to R224, R232): a transaction's end, babble, the start of an enumeration and a delivery's
time.
-/
namespace Sys2Proof.Machine.Hub

/-! ### A transaction ends (R222) -/

/-- The transaction has left the wire of the port. -/
def txnGone (p : Nat) (h : Hub) : Hub := { h with txns := dropBy Txn.port p h.txns }

/-- A transaction ended without an error, and its originator has the result. -/
def txnWorked (p : Nat) (x : Txn) (r : TxnResult) (h : Hub) : Hub :=
  (((h.txnGone p).wr (Od.CONSECUTIVE_ERRORS p) 0).heardValid p).originator x r

/-- A transaction ended in an error that has been counted, and its originator has the result. -/
def txnFailed (p : Nat) (x : Txn) (r : TxnResult) (h : Hub) : Hub :=
  (((h.txnGone p).inc (Od.TRANSACTION_ERRORS p)).inc (Od.CONSECUTIVE_ERRORS p) 8).originator x r

/-- An ENABLED port has reached its ERROR_LIMIT. -/
abbrev errorsFull (h : Hub) (p : Nat) : Prop :=
  h.rd (Od.PORT_STATE p) = 5 ∧ h.rd (Od.ERROR_LIMIT p) ≤ h.rd (Od.CONSECUTIVE_ERRORS p)

section
variable {h : Hub} {p : Nat} {x : Txn} {r : TxnResult}

theorem transactionEnd_none (idle : h.txnOf p = none) : h.transactionEnd p = h := by
  rw [transactionEnd, idle]

section
variable (ended : h.txnOf p = some x ∧ h.rd (Reg.burstAck p) = 0 ∧ x.result = some r)
include ended

theorem transactionEnd_worked (good : isError r = false) : h.transactionEnd p = (h.txnWorked p x r).suspendForUpstream := by
  obtain ⟨found, quiet, result⟩ := ended
  simp only [transactionEnd, found, quiet, result, good, if_true, Bool.false_eq_true, if_false, false_and]
  rfl

theorem transactionEnd_failed (bad : isError r = true) : h.transactionEnd p =
    (if (h.txnFailed p x r).errorsFull p then (h.txnFailed p x r).errorHold p 6 else h.txnFailed p x r).suspendForUpstream := by
  obtain ⟨found, quiet, result⟩ := ended
  simp only [transactionEnd, found, quiet, result, bad, if_true, true_and]
  rfl

end

/-! ### Babble (R223) -/

theorem babble_held (runs : h.engineRuns p = true) (up : 4 ≤ h.rd (Od.PORT_STATE p)) :
    h.babble p = ((h.pollEnds p .babble).inc (Od.BABBLE p)).errorHold p 7 := if_pos ⟨runs, up⟩

theorem babble_counted (still : h.engineRuns p = false ∨ h.rd (Od.PORT_STATE p) < 4) : h.babble p = h.inc (Od.BABBLE p) :=
  if_neg fun ⟨runs, up⟩ => still.elim (fun off => by simp [runs] at off) (Nat.not_lt.2 up)

/-! ### The start of an enumeration (R224) -/

theorem enumStart_begins (due : h.due (Tm.enumStart p) = true) (resetting : (h.wr (Tm.enumStart p) 0).rd (Od.PORT_STATE p) = 4)
    (active : (h.wr (Tm.enumStart p) 0).rd (Od.LINK_STATE p) = 4) : h.enumStart p = (h.wr (Tm.enumStart p) 0).startEnum p :=
  (expire_due h _ _ due).trans (if_pos ⟨resetting, active⟩)

theorem enumStart_lapses (due : h.due (Tm.enumStart p) = true)
    (other : (h.wr (Tm.enumStart p) 0).rd (Od.PORT_STATE p) ≠ 4 ∨ (h.wr (Tm.enumStart p) 0).rd (Od.LINK_STATE p) ≠ 4) :
    h.enumStart p = h.wr (Tm.enumStart p) 0 :=
  (expire_due h _ _ due).trans (if_neg (not_and_or.2 other))

theorem enumStart_early (early : h.due (Tm.enumStart p) = false) : h.enumStart p = h := expire_not_due h _ _ early

/-! ### A delivery's time (R232) -/

section
variable {v : Delivery} (found : h.deliveries.find? (fun w => w.port == p) = some v)
include found

theorem deliveryTimeout_late (late : v.deadline ≤ h.now) : h.deliveryTimeout p = h.dropDelivery p := by
  rw [deliveryTimeout, found]
  exact if_pos late

theorem deliveryTimeout_early (early : h.now < v.deadline) : h.deliveryTimeout p = h := by
  rw [deliveryTimeout, found]
  exact if_neg (Nat.not_le.2 early)

end
end

end Sys2Proof.Machine.Hub

open Sys2Proof.Machine Sys2Proof.Machine.Hub

/-- Settles O26: each clause is one case of a turn, a transaction's end, babble, an enumeration's start or a delivery's time. -/
theorem engineRuns : Obligations.EngineRuns := by
  unfold Obligations.EngineRuns
  dsimp only [exec, execHubPortTurn, execPortTransactionEnd, execBabbleDetected, execEnumStart, execDeliveryTimeout]
  intro t s p active x r v
  refine ⟨fun quiet => act_eq ?_, fun downstream => act_eq ?_, fun ended good => act_eq ?_, fun ended bad full => act_eq ?_,
    fun ended bad below => act_eq ?_, fun idle => act_eq ?_, fun runs up => act_eq ?_, fun still => act_eq ?_,
    fun due resetting linked => act_eq ?_, fun due other => act_eq ?_, fun early => act_eq ?_, fun found late => act_eq ?_,
    fun found early => act_eq ?_⟩
  · exact congrArg (takeWork p) (if_neg (by rcases quiet with silent | trunk <;> simp [*]))
  · exact congrArg (takeWork p) (if_pos (by simp [downstream]))
  · exact transactionEnd_worked ended good
  · exact (transactionEnd_failed ended bad).trans (congrArg suspendForUpstream (if_pos full))
  · exact (transactionEnd_failed ended bad).trans (congrArg suspendForUpstream (if_neg below))
  · exact transactionEnd_none idle
  · exact babble_held runs up
  · exact babble_counted still
  · exact enumStart_begins due resetting linked
  · exact enumStart_lapses due other
  · exact enumStart_early early
  · exact deliveryTimeout_late found late
  · exact deliveryTimeout_early found early
end

section
/-!
The cells of a cable port, what a write to one of them leaves of the others, and the attach events of a live hub (R63, R496, R499).
-/
namespace Sys2Proof.Machine

/-! ### The cells of a cable port are different cells -/

/-- The internal registers lie above a cable port's entries of the dictionary. -/
theorem portEntry_ne_register (p : Cable) {base sub i a : Nat} (low : base < 0x3000 ∧ sub < 256) :
    Od.key (base + 0x100 * p) sub ≠ rkey i a := by
  have bound := p.isLt
  unfold Od.key rkey
  omega

/-- Different subindexes of one index are different entries. -/
theorem entry_ne_entry {idx sub sub' : Nat} (other : sub ≠ sub') : Od.key idx sub ≠ Od.key idx sub' := by
  unfold Od.key
  omega

/-- Registers under different numbers are different cells. -/
theorem register_ne_register {i j a b : Nat} (small : a < 0x1000000 ∧ b < 0x1000000) (other : i ≠ j) : rkey i a ≠ rkey j b := by
  unfold rkey
  omega

/-- The element of a register that a cable port names is small. -/
theorem cable_small (p q : Cable) : p.val < 0x1000000 ∧ q.val < 0x1000000 := by
  have boundP := p.isLt
  have boundQ := q.isLt
  omega

namespace Hub

section
variable {h : Hub} {p : Cable} {v i j a base sub sub' : Nat}

theorem portEntry_wr_register (low : base < 0x3000 ∧ sub < 256) :
    (h.wr (rkey i a) v).rd (Od.key (base + 0x100 * p) sub) = h.rd (Od.key (base + 0x100 * p) sub) :=
  rd_wr_ne _ _ _ _ (portEntry_ne_register p low)

theorem register_wr_portEntry (low : base < 0x3000 ∧ sub < 256) :
    (h.wr (Od.key (base + 0x100 * p) sub) v).rd (rkey i a) = h.rd (rkey i a) :=
  rd_wr_ne _ _ _ _ (portEntry_ne_register p low).symm

theorem entry_wr_entry {idx : Nat} (other : sub ≠ sub') : (h.wr (Od.key idx sub') v).rd (Od.key idx sub) = h.rd (Od.key idx sub) :=
  rd_wr_ne _ _ _ _ (entry_ne_entry other)

/-- Two registers of one port. -/
theorem register_wr_register (other : i ≠ j) : (h.wr (rkey j p) v).rd (rkey i p) = h.rd (rkey i p) :=
  rd_wr_ne _ _ _ _ (register_ne_register (cable_small p p) other)

end

/-! ### The attach events of a live hub -/

theorem live_acts {h : Hub} (alive : h.Live) (f : Hub → Hub) : live f h = f h := by
  obtain ⟨ready, free⟩ := alive
  exact if_pos (by simp [ready, free])

end Hub

/-- An attach event on a live hub answers with the hub that its effect leaves. -/
theorem live_eq {t : Stamp} {s : State} (alive : (s.arrive t).Live) {f : Hub → Hub} {x : Hub} (e : f (s.arrive t) = x) :
    act t s (Hub.live f) = .next (s.settled x) :=
  act_eq ((Hub.live_acts alive f).trans e)

end Sys2Proof.Machine
end

section
/-!
The search for an attach, case by case (R66 to R68, R70 to R72).
-/
namespace Sys2Proof.Machine.Hub

/-! ### A sample of both wires (R67, R68, R70, R72) -/

/-- The two wires have been read at tSniffSample. -/
def sampled (p v1 v2 : Nat) (h : Hub) : Hub := (h.wires p v1 v2).wr (Reg.sniffAt p) (h.now + 1)

/-- Both wires' candidate samples have been counted. -/
def counted (p v1 v2 : Nat) (h : Hub) : Hub := (h.countCandidate p 0 v1).countCandidate p 1 v2

theorem countCandidate_candidate (h : Hub) (p w mv : Nat) : (h.countCandidate p w mv).rd (Reg.candidate p w) =
    if mv < 1000 ∧ h.rd (Reg.excluded p w) = 0 then min (h.rd (Reg.candidate p w) + 1) (2 ^ 32 - 1) else 0 := by
  unfold countCandidate
  split
  · exact rd_wr_self _ _ _
  · exact rd_wr_self _ _ _

section
variable {h : Hub} {p : Cable} {v1 v2 : Nat}

theorem sampled_attachState : (h.sampled p v1 v2).rd (Od.ATTACH_STATE p) = h.rd (Od.ATTACH_STATE p) :=
  (portEntry_wr_register (by decide)).trans (entry_wr_entry (by decide))

theorem sampled_cfLevel : (h.sampled p v1 v2).rd (Od.CF_LEVEL p) = h.rd (Od.CF_LEVEL p) :=
  (portEntry_wr_register (by decide)).trans (entry_wr_entry (by decide))

theorem sampled_register {i : Nat} (other : i ≠ 254) : (h.sampled p v1 v2).rd (rkey i p) = h.rd (rkey i p) :=
  (register_wr_register other).trans (register_wr_portEntry (by decide))

theorem sampled_backingOff : (h.sampled p v1 v2).backingOff p = h.backingOff p := by
  have same : (h.sampled p v1 v2).rd (Tm.backoff p) = h.rd (Tm.backoff p) := sampled_register (by decide)
  have now : (h.sampled p v1 v2).now = h.now := rfl
  simp only [backingOff, running, due, same, now]

theorem sniff_early (early : h.sniffDue p = false) : h.sniff p v1 v2 = h := if_neg (by simp [early])

theorem watchSample_counts (ready : h.backingOff p = false) : h.watchSample p v1 v2 =
    if 2 ≤ (h.counted p v1 v2).rd (Reg.candidate p 0) ∨ 2 ≤ (h.counted p v1 v2).rd (Reg.candidate p 1) then
      (h.counted p v1 v2).enterWaitSource p
    else h.counted p v1 v2 :=
  if_neg (by simp [ready])

theorem watchSample_ignores (barred : h.backingOff p = true) :
    h.watchSample p v1 v2 = h.clear [Reg.candidate p 0, Reg.candidate p 1] := if_pos barred

section
variable (due : h.sniffDue p = true)
include due

/-- A sample is judged by the state in which it is taken. -/
theorem sniff_taken : h.sniff p v1 v2 =
    if h.rd (Od.ATTACH_STATE p) = 0 ∧ h.rd (Od.CF_LEVEL p) = 1 then (h.sampled p v1 v2).watchSample p v1 v2
    else if h.rd (Od.ATTACH_STATE p) = 1 ∧ h.rd (Reg.stage p) = 3 then (h.sampled p v1 v2).stageSample p v1 v2
    else if h.rd (Od.ATTACH_STATE p) = 2 then (h.sampled p v1 v2).trySample p v1 v2
    else h.sampled p v1 v2 := by
  have stage : (h.sampled p v1 v2).rd (Reg.stage p) = h.rd (Reg.stage p) := sampled_register (by decide)
  rw [← sampled_attachState (v1 := v1) (v2 := v2), ← sampled_cfLevel (v1 := v1) (v2 := v2), ← stage]
  exact if_pos due

theorem sniff_watches (unattached : h.rd (Od.ATTACH_STATE p) = 0) (sniffs : h.rd (Od.CF_LEVEL p) = 1) :
    h.sniff p v1 v2 = (h.sampled p v1 v2).watchSample p v1 v2 :=
  (sniff_taken due).trans (if_pos ⟨unattached, sniffs⟩)

theorem sniff_third_stage (waits : h.rd (Od.ATTACH_STATE p) = 1) (third : h.rd (Reg.stage p) = 3) :
    h.sniff p v1 v2 = (h.sampled p v1 v2).stageSample p v1 v2 := by
  rw [sniff_taken due, if_neg (by omega), if_pos ⟨waits, third⟩]

theorem sniff_tries (trying : h.rd (Od.ATTACH_STATE p) = 2) : h.sniff p v1 v2 = (h.sampled p v1 v2).trySample p v1 v2 := by
  rw [sniff_taken due, if_neg (by omega), if_neg (by omega), if_pos trying]

end

/-! ### The stages of the classification (R70) -/

section
variable {v : Nat} (due : h.due (Tm.stage p) = true)
include due

theorem stageEnd_first (first : h.rd (Reg.stage p) = 1) : h.stageEnd p v =
    ((((h.wr (Tm.stage p) 0).wires p v (h.rd (Od.CF_WIRE_MV p))).wr (Reg.classA p) (cfBand v)).wr (Reg.stage p) 2).arm (Tm.stage p) (ms 2) := by
  have wires : (h.wr (Tm.stage p) 0).rd (Od.CF_WIRE_MV p) = h.rd (Od.CF_WIRE_MV p) := portEntry_wr_register (by decide)
  rw [← wires]
  exact (expire_due h _ _ due).trans (if_pos ((register_wr_register (by decide)).trans first))

theorem stageEnd_second (second : h.rd (Reg.stage p) = 2) : h.stageEnd p v =
    ((((h.wr (Tm.stage p) 0).wires p (h.rd (Od.CF_WIRE_MV p) / 65536) v).setClasses p (h.rd (Reg.classA p)) (cfBand v)).wr
      (Reg.stage p) 3).arm (Tm.debounce p) (ms 145) := by
  have wires : (h.wr (Tm.stage p) 0).rd (Od.CF_WIRE_MV p) = h.rd (Od.CF_WIRE_MV p) := portEntry_wr_register (by decide)
  have band : (h.wr (Tm.stage p) 0).rd (Reg.classA p) = h.rd (Reg.classA p) := register_wr_register (by decide)
  have stage : (h.wr (Tm.stage p) 0).rd (Reg.stage p) = 2 := (register_wr_register (by decide)).trans second
  rw [← wires, ← band]
  exact (expire_due h _ _ due).trans ((if_neg (by omega)).trans (if_pos stage))

end

/-! ### tAttachDebounce has passed (R70, R72, R73) -/

theorem classified_cases : h.classified p =
    if h.rd (Od.CF_CONFIG p) = 1 ∨ h.rd (Od.CF_CONFIG p) = 2 then h.attachSource p
    else if h.rd (Od.CF_CONFIG p) = 5 then h.faultLock p 2 else h.candidateFail p := by
  unfold classified
  split
  · next one => exact (if_pos (.inl one)).symm
  · next two => exact (if_pos (.inr two)).symm
  · next five => rw [if_neg (by omega), if_pos five]
  · next one two five => rw [if_neg (not_or.2 ⟨one, two⟩), if_neg five]

section
variable (due : h.due (Tm.debounce p) = true)
include due

theorem debounced_source (waits : h.rd (Od.ATTACH_STATE p) = 1) (source : h.rd (Reg.attachAs p) = 1) : h.debounced p =
    if h.rd (Od.CF_CONFIG p) = 1 ∨ h.rd (Od.CF_CONFIG p) = 2 then (h.wr (Tm.debounce p) 0).attachSource p
    else if h.rd (Od.CF_CONFIG p) = 5 then (h.wr (Tm.debounce p) 0).faultLock p 2 else (h.wr (Tm.debounce p) 0).candidateFail p := by
  have config : (h.wr (Tm.debounce p) 0).rd (Od.CF_CONFIG p) = h.rd (Od.CF_CONFIG p) := portEntry_wr_register (by decide)
  rw [← config, ← classified_cases]
  exact (expire_due h _ _ due).trans (if_pos ⟨(portEntry_wr_register (by decide)).trans waits, (register_wr_register (by decide)).trans source⟩)

theorem debounced_sink (waits : h.rd (Od.ATTACH_STATE p) = 3 ∨ (h.rd (Od.ATTACH_STATE p) = 1 ∧ h.rd (Reg.attachAs p) ≠ 1)) :
    h.debounced p = (h.wr (Tm.debounce p) 0).sourceHeld p := by
  have state : (h.wr (Tm.debounce p) 0).rd (Od.ATTACH_STATE p) = h.rd (Od.ATTACH_STATE p) := portEntry_wr_register (by decide)
  have party : (h.wr (Tm.debounce p) 0).rd (Reg.attachAs p) = h.rd (Reg.attachAs p) := register_wr_register (by decide)
  refine (expire_due h _ _ due).trans ((if_neg ?_).trans (if_pos ?_))
  · rw [state, party]
    omega
  · rw [state]
    omega

end

/-- The debounce timer's stop leaves what decides between TRY_SOURCE and ATTACHED_SINK. -/
theorem sourceHeld_debounced : (h.wr (Tm.debounce p) 0).sourceHeld p =
    if h.rd (Od.ATTACH_STATE p) = 1 ∧ h.rd (Od.ATTACH_PREF_ACTIVE p) = 2 ∧ h.tryBlocked p = false then (h.wr (Tm.debounce p) 0).enterTrySource p
    else (h.wr (Tm.debounce p) 0).attachSink p := by
  have state : (h.wr (Tm.debounce p) 0).rd (Od.ATTACH_STATE p) = h.rd (Od.ATTACH_STATE p) := portEntry_wr_register (by decide)
  have pref : (h.wr (Tm.debounce p) 0).rd (Od.ATTACH_PREF_ACTIVE p) = h.rd (Od.ATTACH_PREF_ACTIVE p) := portEntry_wr_register (by decide)
  have last : (h.wr (Tm.debounce p) 0).rd (Reg.lastSource p) = h.rd (Reg.lastSource p) := register_wr_register (by decide)
  have blocked : (h.wr (Tm.debounce p) 0).tryBlocked p = h.tryBlocked p := by simp only [tryBlocked, last, wr_now]
  rw [sourceHeld, state, pref, blocked]

/-! ### Backoff and toggling end (R68, R71) -/

theorem backoffEnd_rechecks (due : h.due (Tm.backoff p) = true) (unattached : h.rd (Od.ATTACH_STATE p) = 0) :
    h.backoffEnd p v1 v2 = ((h.wr (Tm.backoff p) 0).recheck p 0 v1).recheck p 1 v2 :=
  (expire_due h _ _ due).trans (if_pos ((portEntry_wr_register (by decide)).trans unattached))

theorem toggleEnd_toggles (due : h.due (Tm.toggle p) = true) (unattached : h.rd (Od.ATTACH_STATE p) = 0) :
    h.toggleEnd p = (h.wr (Tm.toggle p) 0).togglePhase p (if h.rd (Reg.toggle p) = 1 then 2 else 1) := by
  have phase : (h.wr (Tm.toggle p) 0).rd (Reg.toggle p) = h.rd (Reg.toggle p) := register_wr_register (by decide)
  rw [← phase]
  exact (expire_due h _ _ due).trans (if_pos ((portEntry_wr_register (by decide)).trans unattached))

/-! ### Rd and a source are seen (R70, R71) -/

theorem rdSeen_enters (unattached : h.rd (Od.ATTACH_STATE p) = 0) (source : h.rd (Reg.toggle p) = 1) (ready : h.backingOff p = false)
    (rd : cfBand v1 = 1 ∨ cfBand v2 = 1) : h.rdSeen p v1 v2 = (h.wires p v1 v2).enterWaitSource p := by
  have backoff : (h.wires p v1 v2).rd (Tm.backoff p) = h.rd (Tm.backoff p) := register_wr_portEntry (by decide)
  have free : (h.wires p v1 v2).backingOff p = h.backingOff p := by
    have now : (h.wires p v1 v2).now = h.now := rfl
    simp only [backingOff, running, Hub.due, backoff, now]
  exact if_pos ⟨(entry_wr_entry (by decide)).trans unattached, (register_wr_portEntry (by decide)).trans source, free.trans ready, rd⟩

theorem sourceSeen_enters {v : Nat} (present : 600 ≤ v) (unattached : h.rd (Od.ATTACH_STATE p) = 0) (sink : h.rd (Od.CF_LEVEL p) = 4) :
    h.sourceSeen p v = h.enterWaitSink p :=
  (if_pos present).trans (if_pos ⟨unattached, sink⟩)

theorem sourceSeen_leaves {v : Nat} (absent : v < 600) (waits : h.rd (Od.ATTACH_STATE p) = 1) (sink : h.rd (Reg.attachAs p) = 2) :
    h.sourceSeen p v = h.enterUnattached p :=
  (if_neg (Nat.not_le.2 absent)).trans (if_pos ⟨waits, sink⟩)

end

end Sys2Proof.Machine.Hub

open Sys2Proof.Machine Sys2Proof.Machine.Hub

/-- Settles O11: each clause is one case of a sample, of the end of a timer of the search, or of a level seen. -/
theorem attachSearch : Obligations.AttachSearch := by
  unfold Obligations.AttachSearch
  dsimp only [exec, execSniffSample, execClassifyStageEnd, execAttachDebounceDone, execCandidateBackoffEnd, execTogglePhaseEnd, execRdSeen,
    execSourcePresent]
  intro t p s v v1 v2 alive
  refine ⟨fun early => live_eq alive ?_, fun due unattached sniffs ready => live_eq alive ?_,
    fun due unattached sniffs barred => live_eq alive ?_, fun due waits third => live_eq alive ?_, fun due trying => live_eq alive ?_,
    fun h => countCandidate_candidate h p 0 _, fun due first => live_eq alive ?_, fun due second => live_eq alive ?_,
    fun due waits source => live_eq alive ?_, fun due waits => live_eq alive ?_, fun due unattached => live_eq alive ?_,
    fun due unattached => live_eq alive ?_, fun unattached source ready rd => live_eq alive ?_, fun present unattached sink => live_eq alive ?_,
    fun absent waits sink => live_eq alive ?_⟩
  · exact sniff_early early
  · exact (sniff_watches due unattached sniffs).trans (watchSample_counts (sampled_backingOff.trans ready))
  · exact (sniff_watches due unattached sniffs).trans (watchSample_ignores (sampled_backingOff.trans barred))
  · exact sniff_third_stage due waits third
  · exact sniff_tries due trying
  · exact stageEnd_first due first
  · exact stageEnd_second due second
  · exact debounced_source due waits source
  · exact (debounced_sink due waits).trans sourceHeld_debounced
  · exact backoffEnd_rechecks due unattached
  · exact toggleEnd_toggles due unattached
  · exact rdSeen_enters unattached source ready rd
  · exact sourceSeen_enters present unattached sink
  · exact sourceSeen_leaves absent waits sink
end

section
/-!
How an attach ends or fails, case by case (R72, R74, R75).
-/
namespace Sys2Proof.Machine.Hub

/-! ### The end of an attach (R72, R74, R75) -/

section
variable {h : Hub} {p : Cable}

theorem tryDebounced_attaches (due : h.due (Tm.tryDebounce p) = true) (trying : h.rd (Od.ATTACH_STATE p) = 2) :
    h.tryDebounced p = (h.wr (Tm.tryDebounce p) 0).attachSource p :=
  (expire_due h _ _ due).trans (if_pos ((portEntry_wr_register (by decide)).trans trying))

theorem tryEnd_waits (due : h.due (Tm.try p) = true) (trying : h.rd (Od.ATTACH_STATE p) = 2) : h.tryEnd p =
    ((((h.wr (Tm.try p) 0).attachClear p).wr (Od.ATTACH_STATE p) 3).wr (Od.CF_LEVEL p) 4).arm (Tm.tryWait p) (ms 450) :=
  (expire_due h _ _ due).trans (if_pos ((portEntry_wr_register (by decide)).trans trying))

theorem tryWaitEnd_leaves (due : h.due (Tm.tryWait p) = true) (waiting : h.rd (Od.ATTACH_STATE p) = 3) :
    h.tryWaitEnd p = (h.wr (Tm.tryWait p) 0).enterUnattached p :=
  (expire_due h _ _ due).trans (if_pos ((portEntry_wr_register (by decide)).trans waiting))

end

section
variable {h : Hub} {p opened mv since : Nat}

theorem detached_complete (on : h.attached p = true) (long : ms 9 ≤ h.openTime p opened) (first : h.rd (Reg.detachDone p) = 0) :
    h.detached p opened = h.detachNow p :=
  (if_neg (by simp [on, long])).trans (if_neg fun aborted => aborted.1 first)

theorem detached_early (early : h.openTime p opened < ms 9) : h.detached p opened = h := if_pos (by simp [early])

theorem overvoltage_locks (free : h.rd (Od.ATTACH_STATE p) ≠ 6) (high : 6000 < mv) (long : since + us 900 ≤ h.now) :
    h.overvoltage p mv since = h.faultLock p 1 :=
  if_neg (by simp [free, high, long])

theorem overvoltage_passes (low : mv ≤ 6000 ∨ h.now < since + us 900) : h.overvoltage p mv since = h := if_pos (.inr low)

theorem attachRelease_unlocks (locked : h.rd (Od.ATTACH_STATE p) = 6) :
    h.attachRelease p = ((h.keep (Od.ATTACH_RELEASE p) 1).unlock p).wrote 0 :=
  judged_ok (if_pos locked)

theorem attachRelease_refused (free : h.rd (Od.ATTACH_STATE p) ≠ 6) : h.attachRelease p = h.wrote 7 := by
  rw [attachRelease, if_neg free]
  exact judged_refused (by decide)

end

theorem detachEffects_detachDone (h : Hub) (p cutCause : Nat) : (h.detachEffects p cutCause).rd (Reg.detachDone p) = 0 := rd_wr_self _ _ _

theorem detachEffects_cfConfig (h : Hub) (p : Cable) (cutCause : Nat) : (h.detachEffects p cutCause).rd (Od.CF_CONFIG p) = 0 :=
  (portEntry_wr_register (by decide)).trans (rd_wr_self _ _ _)

end Sys2Proof.Machine.Hub

open Sys2Proof.Machine Sys2Proof.Machine.Hub

/-- Settles O12: each clause is one end of an attach, or a write of ATTACH_RELEASE. -/
theorem attachEnds : Obligations.AttachEnds := by
  unfold Obligations.AttachEnds
  dsimp only [exec, execTryDebounceDone, execTryTimeout, execTryWaitTimeout, execDetach, execCfOvervoltage, execAttachRelease]
  intro t p s o mv
  refine ⟨fun alive due trying => live_eq alive ?_, fun alive due trying => live_eq alive ?_,
    fun alive due waiting => live_eq alive ?_, fun alive on long first => live_eq alive ?_,
    fun alive early => live_eq alive ?_, fun h => ⟨?_, ?_⟩,
    fun alive free high long => live_eq alive ?_, fun alive low => live_eq alive ?_,
    fun locked => act_eq ?_, fun free => act_eq ?_⟩
  · exact tryDebounced_attaches due trying
  · exact tryEnd_waits due trying
  · exact tryWaitEnd_leaves due waiting
  · exact detached_complete on long first
  · exact detached_early early
  · exact detachEffects_cfConfig h p 2
  · exact detachEffects_detachDone h p 2
  · exact overvoltage_locks free high long
  · exact overvoltage_passes low
  · exact attachRelease_unlocks locked
  · exact attachRelease_refused free
end

section
/-!
CF messages, acknowledgements and timers, case by case (R85 to R97).
-/
namespace Sys2Proof.Machine.Hub

/-! ### A message and a GOOD_ACK (R85 to R92) -/

section
variable {h : Hub} {p id : Nat} {tag : Bool}

theorem goodAckIn_ends (on : h.attached p = true) (own : h.isSink p = false ∨ tag = false) : h.goodAckIn p id tag =
    (((h.hear p).takeGoodAck p (mkHeader 0 id (1 - h.ownRole p) (if tag then 1 else 0) 0)).waitsEnd p h.now).wireFree p :=
  (if_pos on).trans (if_neg (by rcases own with source | far <;> simp [*]))

theorem goodAckIn_tag (on : h.attached p = true) (sink : h.isSink p = true) : h.goodAckIn p id true = h.hear p :=
  (if_pos on).trans (if_pos (by simp [sink]))

theorem goodAckIn_detached (off : h.attached p = false) : h.goodAckIn p id tag = h.inc (Od.CF_RX_DISCARDED p) :=
  if_neg (by simp [off])

end

section
variable {h : Hub} {p header crc pre : Nat} {objs : List Nat}

theorem messageIn_attached (on : h.attached p = true) : h.messageIn p header objs crc pre =
    ((((h.hear p).waitsEnd p pre).receiveCf p header objs crc pre).waitsEnd p h.now).wireFree p := if_pos on

theorem messageIn_detached (off : h.attached p = false) : h.messageIn p header objs crc pre = h.receiveCf p header objs crc pre :=
  if_neg (by simp [off])

end

/-! ### tReceive has passed (R91, R94) -/

section
variable {h : Hub} {p mv : Nat} {busy : Bool} {x : CfTx}

theorem receiveTimeout_waits (waits : busy = true ∨ h.due (Tm.receive p) = false) : h.receiveTimeout p mv busy = h :=
  if_pos (by rcases waits with under | early <;> simp [*])

section
variable (due : h.due (Tm.receive p) = true) (found : (h.wr (Tm.receive p) 0).txOf p = some x)
  (quiet : (h.wr (Tm.receive p) 0).rd (Reg.hrWaiting p) = 0)
include due found quiet

/-- With a message in flight and no HARD_RESET waiting, the retries decide, and on a sink the level of its wire. -/
theorem receiveTimeout_judged : h.receiveTimeout p mv false =
    if 2 ≤ x.tries then ((h.wr (Tm.receive p) 0).lostMessage x).wireFree p
    else if (h.wr (Tm.receive p) 0).isSink p && !(h.wr (Tm.receive p) 0).levelSettled p then h
    else if (h.wr (Tm.receive p) 0).isSink p && !(h.wr (Tm.receive p) 0).permitRead p mv && beginsExchange x then
      ((h.wr (Tm.receive p) 0).abandon x).wireFree p
    else (h.wr (Tm.receive p) 0).resend x := by
  have expired : ¬ (false || !h.due (Tm.receive p)) = true := by simp [due]
  rw [receiveTimeout, if_neg expired]
  dsimp only
  rw [found]
  exact if_neg (not_not_intro quiet)

theorem receiveTimeout_lost (spent : 2 ≤ x.tries) :
    h.receiveTimeout p mv false = ((h.wr (Tm.receive p) 0).lostMessage x).wireFree p :=
  (receiveTimeout_judged due found quiet).trans (if_pos spent)

variable (again : x.tries < 2)
include again

theorem receiveTimeout_source (source : (h.wr (Tm.receive p) 0).isSink p = false) :
    h.receiveTimeout p mv false = (h.wr (Tm.receive p) 0).resend x := by
  rw [receiveTimeout_judged due found quiet, if_neg (Nat.not_le.2 again), if_neg (by simp [source]), if_neg (by simp [source])]

section
variable (settled : (h.wr (Tm.receive p) 0).levelSettled p = true)
include settled

theorem receiveTimeout_permit (permit : (h.wr (Tm.receive p) 0).permitRead p mv = true) :
    h.receiveTimeout p mv false = (h.wr (Tm.receive p) 0).resend x := by
  rw [receiveTimeout_judged due found quiet, if_neg (Nat.not_le.2 again), if_neg (by simp [settled]), if_neg (by simp [permit])]

theorem receiveTimeout_hold (sink : (h.wr (Tm.receive p) 0).isSink p = true)
    (hold : (h.wr (Tm.receive p) 0).permitRead p mv = false) (begins : beginsExchange x = true) :
    h.receiveTimeout p mv false = ((h.wr (Tm.receive p) 0).abandon x).wireFree p := by
  rw [receiveTimeout_judged due found quiet, if_neg (Nat.not_le.2 again), if_neg (by simp [settled]), if_pos (by simp [sink, hold, begins])]

end
end
end

/-! ### HARD_RESET, the lead of HOLD and the wait-and-retry time (R88, R95, R97) -/

section
variable {h : Hub} {p type : Nat} {busy : Bool}

theorem hardResetIn_detached (off : h.attached p = false) : h.hardResetIn p = h := if_pos (by simp [off])

theorem hardResetIn_received (on : h.attached p = true) (none : h.rd (Reg.hrWaiting p) = 0) :
    h.hardResetIn p = (h.inc (Od.HARD_RESETS_RX p)).hardResetEffects p 1 :=
  (if_neg (by simp [on])).trans (if_pos none)

theorem holdLeadEnd_due (due : h.due (Tm.holdLead p) = true) : h.holdLeadEnd p busy = (h.pumpOffer p busy).tryStartNew p busy := if_pos due

theorem holdLeadEnd_early (early : h.due (Tm.holdLead p) = false) : h.holdLeadEnd p busy = h := if_neg (by simp [early])

theorem waitRetryEnd_due (due : h.due (Tm.waitRetry p type) = true) :
    h.waitRetryEnd p type busy = ((h.wr (Tm.waitRetry p type) 0).pumpAns p busy).tryStartNew p busy := expire_due h _ _ due

theorem waitRetryEnd_early (early : h.due (Tm.waitRetry p type) = false) : h.waitRetryEnd p type busy = h := expire_not_due h _ _ early

end

end Sys2Proof.Machine.Hub

open Sys2Proof.Machine Sys2Proof.Machine.Hub

/-- Settles O22: each clause is one case of a message, of an acknowledgement or its absence, of HARD_RESET, or of a timer's end. -/
theorem cfMessages : Obligations.CfMessages := by
  unfold Obligations.CfMessages
  dsimp only [exec, execCfMessageReceived, execGoodAckReceived, execCfReceiveTimeout, execHardResetReceived, execHoldLeadExpiry,
    execWaitRetryExpiry]
  intro t s p header objs crc pre id type mv busy tag x alive
  refine ⟨fun on => live_eq alive ?_, fun off => live_eq alive ?_, fun on own => live_eq alive ?_, fun on sink => live_eq alive ?_,
    fun off => live_eq alive ?_, fun due found quiet again source => live_eq alive ?_,
    fun due found quiet again _ settled permit => live_eq alive ?_, fun due found quiet again sink settled hold begins => live_eq alive ?_,
    fun due found quiet spent => live_eq alive ?_, fun waits => live_eq alive ?_, fun on none => live_eq alive ?_,
    fun off => live_eq alive ?_, fun due => live_eq alive ?_, fun early => live_eq alive ?_, fun due => live_eq alive ?_,
    fun early => live_eq alive ?_⟩
  · exact messageIn_attached on
  · exact messageIn_detached off
  · exact goodAckIn_ends on own
  · exact goodAckIn_tag on sink
  · exact goodAckIn_detached off
  · exact receiveTimeout_source due found quiet again source
  · exact receiveTimeout_permit due found quiet again settled permit
  · exact receiveTimeout_hold due found quiet again settled sink hold begins
  · exact receiveTimeout_lost due found quiet spent
  · exact receiveTimeout_waits waits
  · exact hardResetIn_received on none
  · exact hardResetIn_detached off
  · exact holdLeadEnd_due due
  · exact holdLeadEnd_early early
  · exact waitRetryEnd_due due
  · exact waitRetryEnd_early early
end

section
/-!
The manager's exchanges and their deadlines, case by case (R94, R104, R108 to R112, R114, R116).
-/
namespace Sys2Proof.Machine

/-! ### The bytes of CF_ANSWER (Table 4-13) -/

/-- CF_ANSWER of action NEW_EXCHANGE: its 40 bytes. -/
def newExchangeBytes (type dest numDo : Byte) (objs : BitVec 224) : Nat :=
  pack [(1, 1), (1, type.toNat), (1, dest.toNat), (1, numDo.toNat), (8, 0), (28, objs.toNat)]

section
variable (type dest numDo fallback : Byte) (ref : Word) (objs : BitVec 224)

theorem newExchangeBytes_fields :
    byteAt (newExchangeBytes type dest numDo objs) 0 = 1 ∧ byteAt (newExchangeBytes type dest numDo objs) 1 = type.toNat ∧
      byteAt (newExchangeBytes type dest numDo objs) 2 = dest.toNat ∧ byteAt (newExchangeBytes type dest numDo objs) 3 = numDo.toNat := by
  have typeLt := type.isLt
  have destLt := dest.isLt
  have numDoLt := numDo.isLt
  simp only [byteAt, newExchangeBytes, pack]
  omega

theorem answerBytes_fields :
    byteAt (answerBytes type dest numDo ref fallback objs) 0 = 2 ∧ byteAt (answerBytes type dest numDo ref fallback objs) 1 = type.toNat ∧
      byteAt (answerBytes type dest numDo ref fallback objs) 3 = numDo.toNat ∧
      field (answerBytes type dest numDo ref fallback objs) 4 4 = ref.toNat ∧
      byteAt (answerBytes type dest numDo ref fallback objs) 8 = fallback.toNat := by
  have typeLt := type.isLt
  have numDoLt := numDo.isLt
  have refLt := ref.isLt
  have fallbackLt := fallback.isLt
  simp only [byteAt, field, answerBytes, pack]
  omega

end

namespace Hub

/-! ### CF_ANSWER by its ACTION (R108) -/

section
variable {h : Hub} {p v : Nat} {busy : Bool}

theorem cfAnswer_newExchange (type dest numDo : Byte) (objs : BitVec 224) : h.cfAnswer p (newExchangeBytes type dest numDo objs) busy =
    h.newExchange p type.toNat (dest.toNat % 4) (objsOf (newExchangeBytes type dest numDo objs / 256 ^ 12) numDo.toNat) busy := by
  obtain ⟨action, typeByte, destByte, numDoByte⟩ := newExchangeBytes_fields type dest numDo objs
  simp only [cfAnswer, action, typeByte, destByte, numDoByte]

theorem cfAnswer_answer (type dest numDo fallback : Byte) (ref : Word) (objs : BitVec 224) :
    h.cfAnswer p (answerBytes type dest numDo ref fallback objs) busy =
      h.answerWrite p type.toNat ref.toNat fallback.toNat
        (objsOf (answerBytes type dest numDo ref fallback objs / 256 ^ 12) numDo.toNat) busy := by
  obtain ⟨action, typeByte, numDoByte, refField, fallbackByte⟩ := answerBytes_fields type dest numDo fallback ref objs
  simp only [cfAnswer, action, typeByte, numDoByte, refField, fallbackByte]

theorem cfAnswer_hardReset (on : h.attached p = true) : h.cfAnswer p 3 busy = (h.answerResult p 1).orderHardReset p 2 true busy := if_pos on

theorem cfAnswer_hardReset_detached (off : h.attached p = false) : h.cfAnswer p 3 busy = h.answerResult p 6 := if_neg (by simp [off])

/-! ### What waits for an idle wire, and for the manager (R94, R95, R109 to R111, R114) -/

theorem exchangeStart_attached {mv : Nat} (on : h.attached p = true) : h.exchangeStart p mv false = h.wireStart p mv := if_neg (by simp [on])

theorem exchangeStart_waits {mv : Nat} (waits : busy = true ∨ h.attached p = false) : h.exchangeStart p mv busy = h :=
  if_pos (by rcases waits with under | off <;> simp [*])

theorem answerDeadline_passed (due : h.due (Tm.answer p) = true ∨ h.due (Tm.held p) = true) :
    h.answerDeadline p busy = (h.deadlines p).tryStartNew p busy := if_pos due

theorem answerDeadline_early (early : h.due (Tm.answer p) = false) (heldEarly : h.due (Tm.held p) = false) : h.answerDeadline p busy = h :=
  if_neg (by simp [early, heldEarly])

theorem firstCapsEnd_source (due : h.due (Tm.firstCaps p) = true) (source : (h.wr (Tm.firstCaps p) 0).isSource p = true) :
    h.firstCapsEnd p busy = ((h.wr (Tm.firstCaps p) 0).wr (Reg.offerPending p) 1).pumpOffer p busy :=
  (expire_due h _ _ due).trans (if_pos source)

theorem firstCapsEnd_other (due : h.due (Tm.firstCaps p) = true) (other : (h.wr (Tm.firstCaps p) 0).isSource p = false) :
    h.firstCapsEnd p busy = h.wr (Tm.firstCaps p) 0 :=
  (expire_due h _ _ due).trans (if_neg (by simp [other]))

theorem firstCapsEnd_early (early : h.due (Tm.firstCaps p) = false) : h.firstCapsEnd p busy = h := expire_not_due h _ _ early

/-! ### The waits for REQUEST, for an answer and for READY (R104, R112, R130) -/

theorem waitPassed_due {k : Nat} {f : Hub → Hub} (due : h.due k = true) : h.waitPassed p k f false = (f (h.wr k 0)).wireFree p :=
  (if_neg Bool.false_ne_true).trans (expire_due h _ _ due)

theorem waitPassed_waits {k : Nat} {f : Hub → Hub} (waits : busy = true ∨ h.due k = false) : h.waitPassed p k f busy = h := by
  rcases waits with rfl | early
  · rfl
  · exact (congrArg (ite _ h) (expire_not_due h k _ early)).trans (ite_self h)

theorem noAnswer_ready (own : h.rd (Reg.exOwn p) = 15) : h.noAnswer p = h.orderHardReset p 6 false false := if_pos own

theorem noAnswer_none (none : h.rd (Reg.exOwn p) = 0) : h.noAnswer p = (h.asWait p 4).endExchange p := by
  simp [noAnswer, none]

theorem noAnswer_own (some : h.rd (Reg.exOwn p) ≠ 0) (other : h.rd (Reg.exOwn p) ≠ 15) :
    h.noAnswer p = ((h.wr (Reg.altWant p) 0).asWait p (h.rd (Reg.exOwn p) - 1)).endOwn p :=
  (if_neg other).trans (if_neg some)

theorem noReady_former (former : h.rd (Reg.cfsSwap p) = 2) :
    h.noReady p = ((h.dropSwap p).cfRecord p 7 0 (h.rd (Od.CONTRACT_STATE p)) []).endExchange p := if_pos former

theorem noReady_new (new : h.rd (Reg.cfsSwap p) = 1) : h.noReady p = (h.dropSwap p).endExchange p := by
  simp [noReady, new]

theorem noReady_sink (noSwap : h.rd (Reg.cfsSwap p) = 0) (sink : h.isSink p = true) (transition : h.rd (Od.CONTRACT_STATE p) = 4) :
    h.noReady p = h.orderHardReset p 6 false false := by
  simp [noReady, noSwap, sink, transition]

end

end Hub

end Sys2Proof.Machine

open Sys2Proof.Machine Sys2Proof.Machine.Hub

/-- Settles O34: each clause is one ACTION of CF_ANSWER, or a start or a deadline of an exchange. -/
theorem contractDeadlines : Obligations.ContractDeadlines := by
  unfold Obligations.ContractDeadlines
  dsimp only [exec, execNewExchangeStart, execCfAnswerNewExchange, execCfAnswerAnswer, execCfAnswerHardReset, execAnswerDeadline,
    execFirstCapsExpiry, execSinkRequestTimeout, execResponseTimeout, execReadyWaitTimeout]
  intro t s p ty de nd fb ref ob m mv busy
  refine ⟨fun on => act_eq ?_, fun waits => act_eq ?_, fun writable => act_eq ?_, fun writable => act_eq ?_, fun writable on => act_eq ?_,
    fun writable off => act_eq ?_, fun due => act_eq ?_, fun early heldEarly => act_eq ?_, fun due source => act_eq ?_,
    fun due other => act_eq ?_, fun early => act_eq ?_, fun due => act_eq ?_, fun waits => act_eq ?_, fun due own => act_eq ?_,
    fun due none => act_eq ?_, fun due some other => act_eq ?_, fun waits => act_eq ?_, fun due noSwap sink transition => act_eq ?_,
    fun due former => act_eq ?_, fun due new => act_eq ?_, fun waits => act_eq ?_⟩
  · exact exchangeStart_attached on
  · exact exchangeStart_waits waits
  · exact (writing_writable writable).trans (congrArg (wrote 0) (cfAnswer_newExchange ty de nd ob))
  · exact (writing_writable writable).trans (congrArg (wrote 0) (cfAnswer_answer ty de nd fb ref ob))
  · exact (writing_writable writable).trans (congrArg (wrote 0) (cfAnswer_hardReset on))
  · exact (writing_writable writable).trans (congrArg (wrote 0) (cfAnswer_hardReset_detached off))
  · exact answerDeadline_passed due
  · exact answerDeadline_early early heldEarly
  · exact firstCapsEnd_source due source
  · exact firstCapsEnd_other due other
  · exact firstCapsEnd_early early
  · exact waitPassed_due due
  · exact waitPassed_waits waits
  · exact (waitPassed_due due).trans (congrArg (wireFree p) (noAnswer_ready own))
  · exact (waitPassed_due due).trans (congrArg (wireFree p) (noAnswer_none none))
  · exact (waitPassed_due due).trans (congrArg (wireFree p) (noAnswer_own some other))
  · exact waitPassed_waits waits
  · exact (waitPassed_due due).trans (congrArg (wireFree p) (noReady_sink noSwap sink transition))
  · exact (waitPassed_due due).trans (congrArg (wireFree p) (noReady_former former))
  · exact (waitPassed_due due).trans (congrArg (wireFree p) (noReady_new new))
  · exact waitPassed_waits waits
end

section
/-!
The training of a TS link and the loss of its lock, case by case (R78, R172, R206, R211, R448).
-/
namespace Sys2Proof.Machine.Hub

/-! ### Training symbols are received (R78, R172, R448) -/

/-- The link of a port is in training: tTrain runs, in TRAINING or in RESUMING. -/
abbrev inTraining (h : Hub) (p : Nat) : Prop := h.running (Tm.train p) = true ∧ (h.rd (Od.LINK_STATE p) = 3 ∨ h.rd (Od.LINK_STATE p) = 6)

/-- Step 2 of R172: the search for a symbol is over, and /TR2/ goes out. -/
def secondStep (p : Nat) (h : Hub) : Hub := (h.stop (Tm.noSymbol p)).emit (.train p 2)

/-- A TS link enters ACTIVE after its training; a RESETTING port's enumeration follows. -/
def trainedActive (p : Nat) (h : Hub) : Hub :=
  if (h.activeAt p 4).upstreamEnd p = true ∧ (h.activeAt p 4).rd (Od.PORT_STATE p) = 4 then (h.activeAt p 4).arm (Tm.enumStart p) (ms 10)
  else h.activeAt p 4

/-- A trunk that has trained again owes an exchange of keys at its upstream end (R448). -/
abbrev owesKeys (h : Hub) (p : Nat) : Prop :=
  h.rd (Reg.retrain p) = 1 ∧ (h.trainedActive p).upstreamEnd p = true ∧ 16 ≤ p ∧ (h.trainedActive p).rd Od.TRUNK_ENC ≠ 0

section
variable {h : Hub} {p : Nat} {inv inv2 : Bool}

theorem trained_not {active : Bool} (idle : ¬ h.inTraining p) : h.trained p active inv inv2 = h := by
  refine if_pos ?_
  by_cases runs : h.running (Tm.train p) = true
  · exact .inr (not_or.1 fun trains => idle ⟨runs, trains⟩)
  · exact .inl (by simp [runs])

section
variable (trains : h.inTraining p)
include trains

/-- A link in training passes the first check. -/
theorem inTraining_passes : ¬ (!h.running (Tm.train p) ∨ (h.rd (Od.LINK_STATE p) ≠ 3 ∧ h.rd (Od.LINK_STATE p) ≠ 6)) := by
  obtain ⟨runs, state⟩ := trains
  rintro (stopped | other)
  · simp [runs] at stopped
  · omega

theorem trained_polarity (up : (h.secondStep p).upstreamEnd p = true) : h.trained p false inv inv2 =
    (h.secondStep p).wr (Od.ORIENTATION p) (putBit (putBit ((h.secondStep p).rd (Od.ORIENTATION p)) 1 inv) 2 inv2) :=
  (if_neg (inTraining_passes trains)).trans (if_pos up)

theorem trained_second (down : (h.secondStep p).upstreamEnd p = false) : h.trained p false inv inv2 = h.secondStep p :=
  (if_neg (inTraining_passes trains)).trans (if_neg (Bool.eq_false_iff.1 down))

theorem trained_active (noKeys : ¬ h.owesKeys p) : h.trained p true inv inv2 = h.trainedActive p :=
  (if_neg (inTraining_passes trains)).trans (if_neg noKeys)

theorem trained_keys (keys : h.owesKeys p) : h.trained p true inv inv2 =
    ((h.trainedActive p).wr (Reg.keyxDue (p - 16)) 1).arm (Tm.keyAgree (p - 16)) (ms 100) :=
  (if_neg (inTraining_passes trains)).trans (if_pos keys)

end
end

/-! ### tTrain has passed without ACTIVE (R172, R206, R211) -/

/-- What the end of tTrain does to a link that has not reached ACTIVE. -/
def trainFailed (p : Nat) (h : Hub) : Hub :=
  if h.rd (Od.LINK_STATE p) ≠ 3 ∧ h.rd (Od.LINK_STATE p) ≠ 6 then h
  else if h.downstreamEnd p then
    (if h.rd (Od.LINK_STATE p) = 6 then ((h.clear [Reg.retrain p, Tm.noSymbol p]).linkTo p 2).restorePull p else h.backToFs p)
  else if [3, 8].contains (h.rd (Od.PORT_STATE p)) then h
  else if h.rd (Reg.retrain p) = 1 then h.enterResetting p
  else ((h.inc (Od.TRAIN_FAILS p)).wr (Reg.trainCap p) 1).enterResetting p

section
variable {h : Hub} {p : Nat}

theorem trainTimeout_due (due : h.due (Tm.train p) = true) : h.trainTimeout p = (h.wr (Tm.train p) 0).trainFailed p := expire_due h _ _ due

theorem trainTimeout_early (early : h.due (Tm.train p) = false) : h.trainTimeout p = h := expire_not_due h _ _ early

theorem trainFailed_training (state : h.rd (Od.LINK_STATE p) = 3) (down : h.downstreamEnd p = true) :
    h.trainFailed p = (h.linkDown p).restorePull p := by
  rw [trainFailed, if_neg (by omega), if_pos down, if_neg (by omega), backToFs]

theorem trainFailed_resuming (state : h.rd (Od.LINK_STATE p) = 6) (down : h.downstreamEnd p = true) :
    h.trainFailed p = ((h.clear [Reg.retrain p, Tm.noSymbol p]).linkTo p 2).restorePull p := by
  rw [trainFailed, if_neg (by omega), if_pos down, if_pos state]

/-- The port is DISABLED or in ERROR_HOLD, and its link rests. -/
abbrev linkRests (h : Hub) (p : Nat) : Prop := h.rd (Od.PORT_STATE p) = 3 ∨ h.rd (Od.PORT_STATE p) = 8

section
variable (up : h.downstreamEnd p = false)
include up

/-- At the upstream end the port's state decides, and whether the link had trained before. -/
theorem trainFailed_upstream (state : h.rd (Od.LINK_STATE p) = 3 ∨ h.rd (Od.LINK_STATE p) = 6) : h.trainFailed p =
    if h.linkRests p then h
    else if h.rd (Reg.retrain p) = 1 then h.enterResetting p
    else ((h.inc (Od.TRAIN_FAILS p)).wr (Reg.trainCap p) 1).enterResetting p := by
  rw [trainFailed, if_neg (by omega), if_neg (by simp [up])]
  simp [linkRests]

variable (state : h.rd (Od.LINK_STATE p) = 3 ∨ h.rd (Od.LINK_STATE p) = 6) (runs : ¬ h.linkRests p)
include state runs

theorem trainFailed_first (first : h.rd (Reg.retrain p) ≠ 1) :
    h.trainFailed p = ((h.inc (Od.TRAIN_FAILS p)).wr (Reg.trainCap p) 1).enterResetting p := by
  rw [trainFailed_upstream up state, if_neg runs, if_neg first]

theorem trainFailed_again (again : h.rd (Reg.retrain p) = 1) : h.trainFailed p = h.enterResetting p := by
  rw [trainFailed_upstream up state, if_neg runs, if_pos again]

end

theorem trainFailed_not (quiet : (h.rd (Od.LINK_STATE p) ≠ 3 ∧ h.rd (Od.LINK_STATE p) ≠ 6) ∨ (h.downstreamEnd p = false ∧ h.linkRests p)) :
    h.trainFailed p = h := by
  by_cases idle : h.rd (Od.LINK_STATE p) ≠ 3 ∧ h.rd (Od.LINK_STATE p) ≠ 6
  · exact if_pos idle
  · obtain ⟨up, rests⟩ := quiet.resolve_left idle
    have state : h.rd (Od.LINK_STATE p) = 3 ∨ h.rd (Od.LINK_STATE p) = 6 := (not_and_or.1 idle).imp not_not.1 not_not.1
    exact (trainFailed_upstream up state).trans (if_pos rests)

/-! ### No valid symbol, and a lost lock (R206) -/

theorem noSymbol_falls (due : h.due (Tm.noSymbol p) = true) (down : (h.wr (Tm.noSymbol p) 0).downstreamEnd p = true)
    (state : (h.wr (Tm.noSymbol p) 0).rd (Od.LINK_STATE p) = 3) :
    h.noSymbol p = ((h.wr (Tm.noSymbol p) 0).linkDown p).restorePull p :=
  (expire_due h _ _ due).trans (if_pos (by simp [down, state]))

theorem noSymbol_other (due : h.due (Tm.noSymbol p) = true)
    (other : (h.wr (Tm.noSymbol p) 0).downstreamEnd p = false ∨ (h.wr (Tm.noSymbol p) 0).rd (Od.LINK_STATE p) ≠ 3) :
    h.noSymbol p = h.wr (Tm.noSymbol p) 0 :=
  (expire_due h _ _ due).trans (if_neg (by rcases other with up | state <;> simp [*]))

theorem noSymbol_early (early : h.due (Tm.noSymbol p) = false) : h.noSymbol p = h := expire_not_due h _ _ early

theorem trunkLockLost_active (active : h.trunkActive p = true) : h.trunkLockLost p = (h.inc (Od.LINK_DROPS p)).retrainLink p := if_pos active

theorem trunkLockLost_other (other : h.trunkActive p = false) : h.trunkLockLost p = h := if_neg (by simp [other])

end

end Sys2Proof.Machine.Hub

open Sys2Proof.Machine Sys2Proof.Machine.Hub

/-- Settles O38: each clause is one step of a training, the end of its time, or a loss of its symbols. -/
theorem training : Obligations.Training := by
  unfold Obligations.Training
  dsimp only [exec, execTrainingLocked, execTrainTimeout, execNoValidSymbolTimeout, execLossOfLock]
  intro t s p u inv inv2
  refine ⟨fun trains up => act_eq ?_, fun trains down => act_eq ?_, fun trains noKeys => act_eq ?_, fun trains keys => act_eq ?_,
    fun active idle => act_eq ?_, fun due state down => act_eq ?_, fun due state down => act_eq ?_,
    fun due state up runs first => act_eq ?_, fun due state up runs again => act_eq ?_, fun due quiet => act_eq ?_, fun early => act_eq ?_,
    fun due down state => act_eq ?_, fun due other => act_eq ?_, fun early => act_eq ?_, fun active => act_eq ?_, fun other => act_eq ?_⟩
  · exact trained_polarity trains up
  · exact trained_second trains down
  · exact trained_active trains noKeys
  · exact trained_keys trains keys
  · exact trained_not idle
  · exact (trainTimeout_due due).trans (trainFailed_training state down)
  · exact (trainTimeout_due due).trans (trainFailed_resuming state down)
  · exact (trainTimeout_due due).trans (trainFailed_first up state runs first)
  · exact (trainTimeout_due due).trans (trainFailed_again up state runs again)
  · exact (trainTimeout_due due).trans (trainFailed_not quiet)
  · exact trainTimeout_early early
  · exact noSymbol_falls due down state
  · exact noSymbol_other due other
  · exact noSymbol_early early
  · exact trunkLockLost_active active
  · exact trunkLockLost_other other
end

section
/-!
The end of a timer that is not due, command by command (R98, R137, R212, R246, R347, R380, R455, R484, R502).
-/
namespace Sys2Proof.Machine

/-- A command that is the expiry of a timer changes nothing before the timer is due. -/
theorem act_expire_early {t : Stamp} {s : State} {k : Nat} {f : Hub → Hub} (early : (s.arrive t).due k = false) :
    act t s (fun h => h.expire k f) = .next (s.settled (s.arrive t)) :=
  act_eq (Hub.expire_not_due _ k f early)

namespace Hub

section
variable {h : Hub}

theorem auditComplete_early {orphans doubles : List Nat} (early : h.due Tm.auditEnd = false) : h.auditComplete orphans doubles = h := by
  unfold auditComplete
  rw [expire_not_due h _ _ early, ite_self]

theorem domainDelay_early (early : h.due Tm.domDelay = false) : (if h.edge then h.expire Tm.domDelay delayEnd else h) = h := by
  rw [expire_not_due h _ _ early, ite_self]

end

end Hub

end Sys2Proof.Machine

open Sys2Proof.Machine Sys2Proof.Machine.Hub

/-- Settles O9: each of these commands is the expiry of its timer, of an audit's end and of a domain's delay under a condition. -/
theorem timersNotDue : Obligations.TimersNotDue := by
  unfold Obligations.TimersNotDue
  intro t s p d u
  simp only [List.forall_mem_cons]
  exact ⟨act_expire_early, act_expire_early, act_expire_early, act_expire_early, act_expire_early, act_expire_early, act_expire_early,
    act_expire_early, act_expire_early, act_expire_early, act_expire_early, act_expire_early,
    fun early => act_eq (auditComplete_early early), act_expire_early, act_expire_early, fun early => act_eq (domainDelay_early early),
    act_expire_early, act_expire_early, act_expire_early, act_expire_early, act_expire_early, act_expire_early, List.forall_mem_nil _⟩
end

section
/-!
Settling with nothing owed (R110, R203, R204, R230, R463, R466, R468): what it writes are internal registers, records sent out and records held.
-/
namespace Sys2Proof.Machine

/-- The internal registers lie above every entry of the dictionary. -/
theorem entry_ne_register {k : Nat} (entry : k < 2 ^ 24) (i a : Nat) : k ≠ rkey i a := by
  unfold rkey
  omega

/-- A fold whose steps leave the hub as it is leaves it so. -/
theorem foldl_unchanged {α : Type} {f : Hub → α → Hub} {h : Hub} {l : List α} (unchanged : ∀ a ∈ l, f h a = h) : l.foldl f h = h := by
  induction l with
  | nil => rfl
  | cons a r ih =>
    rw [List.foldl_cons, unchanged a List.mem_cons_self]
    exact ih fun b mem => unchanged b (List.mem_cons_of_mem a mem)

/-- x differs from h at most in internal registers, in what has been sent out and in the records held for the manager. -/
structure Hub.EntriesKept (h x : Hub) : Prop where
  rd : ∀ k : Nat, k < 2 ^ 24 → x.rd k = h.rd k
  log : x.log = h.log
  unacked : x.unacked = h.unacked
  frames : x.frames = h.frames
  budget : x.budget = h.budget
  now : x.now = h.now

namespace Hub.EntriesKept

variable {h x : Hub}

theorem refl (h : Hub) : EntriesKept h h := ⟨fun _ _ => rfl, rfl, rfl, rfl, rfl, rfl⟩

theorem wr (kept : EntriesKept h x) (i a v : Nat) : EntriesKept h (x.wr (rkey i a) v) where
  rd k entry := (rd_wr_ne x _ v k (entry_ne_register entry i a)).trans (kept.rd k entry)
  log := kept.log
  unacked := kept.unacked
  frames := kept.frames
  budget := kept.budget
  now := kept.now

theorem emit (kept : EntriesKept h x) (e : Emission) : EntriesKept h (x.emit e) :=
  ⟨kept.rd, kept.log, kept.unacked, kept.frames, kept.budget, kept.now⟩

theorem foldl {α : Type} {f : Hub → α → Hub} {l : List α} (kept : EntriesKept h x)
    (step : ∀ (y : Hub) (a : α), EntriesKept h y → EntriesKept h (f y a)) : EntriesKept h (l.foldl f x) := by
  induction l generalizing x with
  | nil => exact kept
  | cons a r ih => exact ih (step x a kept)

/-- What is sent out and what is held for the manager are no part of it. -/
theorem congr {y : Hub} (kept : EntriesKept h x) (cells : y.cells = x.cells) (log : y.log = x.log) (unacked : y.unacked = x.unacked)
    (frames : y.frames = x.frames) (budget : y.budget = x.budget) (now : y.now = x.now) : EntriesKept h y where
  rd k entry := (congrArg (cellGet · k) cells).trans (kept.rd k entry)
  log := log.trans kept.log
  unacked := unacked.trans kept.unacked
  frames := frames.trans kept.frames
  budget := budget.trans kept.budget
  now := now.trans kept.now

theorem pumpManager (kept : EntriesKept h x) : EntriesKept h x.pumpManager := by
  unfold Hub.pumpManager
  split
  · refine wr ?_ 2 0 _
    exact kept.congr rfl rfl rfl rfl rfl rfl
  · exact kept

end Hub.EntriesKept

namespace Hub

/-! ### What was held goes out once the path to the manager is ON (R110, R230, R332, R420) -/

/-- The held messages of the ports whose PHY is ON go out. -/
def heldMessagesOut (on : Nat → Bool) (h : Hub) : Hub :=
  (h.cfHeld.filter (fun x => on x.port)).foldl (fun x c =>
    ({ x with cfHeld := dropBy CfHeld.port c.port x.cfHeld }.emit (.toManager .cf (setBit c.record 144))).wr (Tm.held c.port) 0) h

/-- The records of held messages that had expired go out, for the ports whose PHY is ON. -/
def expiredRecordsOut (on : Nat → Bool) (h : Hub) : Hub :=
  (h.cfExpired.filter (fun c => on c.1)).foldl (fun x c => x.emit (.toManager .cf c.2))
    { h with cfExpired := h.cfExpired.filter (fun c => !on c.1) }

/-- The port records that were held go out in port order. -/
def portRecordsOut (held : List (Nat × Nat)) (h : Hub) : Hub :=
  (List.range 18).foldl (fun x p => match held.find? (fun c => c.1 == p) with
    | none => x
    | some c => x.emit (.toManager .port c.2)) { h with portHeld := [] }

/-- The held hierarchy record goes out. -/
def hierarchyRecordOut (h : Hub) : Hub :=
  match h.hierHeld with
  | none => h
  | some r => { h with hierHeld := none }.emit (.toManager .hierarchy r)

/-- The held notice of a group command goes out. -/
def domainRecordOut (h : Hub) : Hub :=
  match h.domHeld with
  | none => h
  | some r => { h with domHeld := none }.emit (.toManager .domain r)

/-! ### The far ends of TS links are told of changes (R203, R204, R290) -/

/-- STATUS goes out where the halts differ from those last told. -/
def tellStatus (p : Nat) (h : Hub) : Hub :=
  if h.rd (Reg.statusTold p) = h.statusPayload + 1 then h
  else ((h.sendLink p 5 h.statusPayload).wr (Reg.statusTold p) (h.statusPayload + 1)).arm (Tm.status p) (ms 100)

/-- CREDIT goes out where the limits differ from those last told. -/
def tellCredit (p : Nat) (h : Hub) : Hub :=
  if h.rd (Reg.creditTold p) = h.creditPayload p + 1 then h
  else ((h.sendLink p 1 (h.creditPayload p)).wr (Reg.creditTold p) (h.creditPayload p + 1)).arm (Tm.credit p) (us 100)

section
variable {h : Hub} {p : Nat}

theorem announceOn_quiet (quiet : h.rd (Od.LINK_STATE p) ≠ 4 ∨ h.rd (Od.LINK_CLASS p) ≠ 4) : h.announceOn p = h := if_pos quiet

theorem announceOn_active (active : ¬ (h.rd (Od.LINK_STATE p) ≠ 4 ∨ h.rd (Od.LINK_CLASS p) ≠ 4)) :
    h.announceOn p = ((h.tellStatus p).advanceCredit p).tellCredit p := if_neg active

theorem announce_quiet (quiet : ∀ p ∈ [16, 17], h.rd (Od.LINK_STATE p) ≠ 4 ∨ h.rd (Od.LINK_CLASS p) ≠ 4) : h.announce = h := by
  rw [announce, announceOn_quiet (quiet 16 (by decide)), announceOn_quiet (quiet 17 (by decide))]

end

/-! ### Settling with no reaction owed and no core test under way -/

section
variable {h : Hub}

theorem pathUp_off (off : h.managerPath = false) : h.pathUp = h := if_pos (by simp [off])

theorem pathUp_on (on : h.managerPath = true) (early : ∀ p ∈ List.range 18, h.due (Tm.held p) = false) :
    h.pathUp = ((((h.heldMessagesOut h.phyOn).expiredRecordsOut h.phyOn).portRecordsOut
      (h.heldMessagesOut h.phyOn).portHeld).hierarchyRecordOut.domainRecordOut).pumpManager := by
  have unexpired : (List.range 18).foldl (fun x p => if x.due (Tm.held p) then x.deadlines p else x) h = h :=
    foldl_unchanged fun p mem => if_neg (by simp [early p mem])
  rw [pathUp, if_neg (by simp [on]), unexpired]
  rfl

namespace EntriesKept

variable {x : Hub} (kept : EntriesKept h x)
include kept

theorem heldMessagesOut (on : Nat → Bool) : EntriesKept h (x.heldMessagesOut on) := by
  refine foldl kept fun y c kept => wr ?_ _ _ _
  exact kept.congr rfl rfl rfl rfl rfl rfl

theorem expiredRecordsOut (on : Nat → Bool) : EntriesKept h (x.expiredRecordsOut on) :=
  foldl (kept.congr rfl rfl rfl rfl rfl rfl) fun _ _ kept => kept.emit _

theorem portRecordsOut (held : List (Nat × Nat)) : EntriesKept h (x.portRecordsOut held) := by
  refine foldl (kept.congr rfl rfl rfl rfl rfl rfl) fun y p kept => ?_
  split
  · exact kept
  · exact kept.emit _

theorem hierarchyRecordOut : EntriesKept h x.hierarchyRecordOut := by
  unfold Hub.hierarchyRecordOut
  split
  · exact kept
  · exact kept.congr rfl rfl rfl rfl rfl rfl

theorem domainRecordOut : EntriesKept h x.domainRecordOut := by
  unfold Hub.domainRecordOut
  split
  · exact kept
  · exact kept.congr rfl rfl rfl rfl rfl rfl

omit kept in
theorem pathUp (early : ∀ p ∈ List.range 18, h.due (Tm.held p) = false) : EntriesKept h h.pathUp := by
  cases path : h.managerPath with
  | false => rw [pathUp_off path]; exact refl h
  | true =>
    rw [pathUp_on path early]
    exact ((((refl h).heldMessagesOut _).expiredRecordsOut _).portRecordsOut _).hierarchyRecordOut.domainRecordOut.pumpManager

theorem sendLink (p kind payload : Nat) : EntriesKept h (x.sendLink p kind payload) := wr (kept.emit _) _ _ _

theorem arm (i a d : Nat) : EntriesKept h (x.arm (rkey i a) d) := wr kept _ _ _

theorem advanceCredit (p : Nat) : EntriesKept h (x.advanceCredit p) := by
  unfold Hub.advanceCredit
  split
  · exact kept
  · refine foldl kept fun y c kept => ?_
    split
    · exact kept
    · exact wr (wr kept _ _ _) _ _ _

theorem tellStatus (p : Nat) : EntriesKept h (x.tellStatus p) := by
  unfold Hub.tellStatus
  split
  · exact kept
  · exact arm (wr (kept.sendLink _ _ _) _ _ _) _ _ _

theorem tellCredit (p : Nat) : EntriesKept h (x.tellCredit p) := by
  unfold Hub.tellCredit
  split
  · exact kept
  · exact arm (wr (kept.sendLink _ _ _) _ _ _) _ _ _

theorem announceOn (p : Nat) : EntriesKept h (x.announceOn p) := by
  by_cases quiet : x.rd (Od.LINK_STATE p) ≠ 4 ∨ x.rd (Od.LINK_CLASS p) ≠ 4
  · rwa [announceOn_quiet quiet]
  · rw [announceOn_active quiet]
    exact ((kept.tellStatus p).advanceCredit p).tellCredit p

theorem announce : EntriesKept h x.announce := (kept.announceOn 16).announceOn 17

end EntriesKept

/-- Settling is then the manager's path and the announcements alone. -/
theorem settle_unowed (unowed : h.reactions = []) (untested : h.underTest 2 0 = false) : h.settle = h.pathUp.announce := by
  have reacted : settleN 64 h = h := by simp only [settleN, unowed]
  rw [settle, reacted, haltedFlint, if_neg (by simp [untested])]

end

end Hub

end Sys2Proof.Machine

open Sys2Proof.Machine Sys2Proof.Machine.Hub

/-- Settles O2: settling is then the manager's path and the announcements, which write internal registers alone. -/
theorem settleLaws : Obligations.SettleLaws := by
  unfold Obligations.SettleLaws
  intro h s unowed untested early
  have settled := settle_unowed unowed untested
  obtain ⟨rd, log, unacked, frames, budget, now⟩ : EntriesKept h h.settle := settled ▸ (EntriesKept.pathUp early).announce
  refine ⟨rd, log, unacked, frames, budget, now, rfl, fun off quiet => ?_⟩
  rw [settled, pathUp_off off, announce_quiet quiet]
end

section
/-!
What turning a port off does (R119, R140, R148, R216).
-/
namespace Sys2Proof.Machine.Hub

/-! ### Turning off in three steps: a move cut short, the power cut, and what depends on it -/

/-- A move or a power-on cut short writes its energy, and an INRUSH cut by another cause than the command's own is ABORTED (R119, R149). -/
def moveCutShort (p cause : Nat) (h : Hub) : Hub :=
  let counted := if [2, 4].contains (h.rd (Od.POWER_STATE p)) then h.wr (Od.TRANSITION_ENERGY p) (h.rd (Reg.energy p)) else h
  let ended := if h.rd (Od.POWER_STATE p) = 4 then counted.spoil p else counted
  if h.rd (Od.POWER_STATE p) = 2 ∧ cause ≠ 1 then ended.powerResult p 13 else ended

/-- Both pairs open, and the port discharges for its 475 ms (R140, R148). -/
def cutPower (p cause : Nat) (h : Hub) : Hub :=
  ((((h.wr (Od.POWER_STATE p) 5 |>.wr (Od.POWER_OFF_CAUSE p) cause |>.wr (Reg.discharge p) 1 |>.wr (Reg.limiting p) 0
    |>.wr (Reg.trStep p) 0).arm (Tm.discharge p) (ms 475)).emit (.powerDie p .openPairs)).emit (.powerDie p (.discharge true)))

/-- The limit in force and the readings that need VBUS follow (R45, R142). -/
def powerFollows (p : Nat) (h : Hub) : Hub := (h.refreshLimit p).bridgeCondition p

section
variable {h : Hub} {p c : Nat}

theorem turnOff_unpowered (off : h.powered p = false) : h.turnOff p c = h := if_neg (by simp [off])

theorem turnOff_powered (on : h.powered p = true) : h.turnOff p c = (((h.moveCutShort p c).cutPower p c).powerFollows p).hubPowerLoss p :=
  if_pos on

/-- A far end that does not need VBUS stays. -/
theorem hubPowerLoss_selfPowered (other : h.rd (Od.PROBE_RESULT p) ≠ 1) : h.hubPowerLoss p = h := if_neg fun both => other both.1

/-- Outside a move nothing is cut short. -/
theorem moveCutShort_on (on : h.rd (Od.POWER_STATE p) = 3) : h.moveCutShort p c = h := by simp [moveCutShort, on]

end

/-! ### What each step leaves alone -/

/-- The cells that follow the power of port p. -/
def followCells (p : Nat) : List Nat := Od.LIMIT_ACTIVE p :: [0x08, 0x09, 0x0A, 0x0B].map (lineKey p)

section
variable (h : Hub) (p c : Nat)

theorem rd_powerFollows_ne {j : Nat} (other : ∀ k ∈ followCells p, j ≠ k) : (h.powerFollows p).rd j = h.rd j := by
  obtain ⟨limit, line⟩ := List.forall_mem_cons.1 other
  refine (rd_bridgeCondition_ne (List.forall_mem_map.1 line) _).trans ?_
  unfold refreshLimit
  dsimp only
  split <;> exact rd_wr_ne _ _ _ _ limit

@[simp] theorem powerFollows_kept : (h.powerFollows p).out = h.out ∧ (h.powerFollows p).log = h.log := by
  unfold powerFollows bridgeCondition refreshLimit
  dsimp only
  split <;> split <;> exact ⟨rfl, rfl⟩

@[simp] theorem cutPower_out : (h.cutPower p c).out = h.out ++ [.powerDie p .openPairs, .powerDie p (.discharge true)] := by
  simp [cutPower, arm]

@[simp] theorem cutPower_log : (h.cutPower p c).log = h.log := rfl

@[simp] theorem moveCutShort_kept :
    (h.moveCutShort p c).out = h.out ∧ (h.moveCutShort p c).log = h.log ∧ (h.moveCutShort p c).now = h.now := by
  unfold moveCutShort
  dsimp only
  split_ifs <;> exact ⟨rfl, rfl, rfl⟩

theorem rd_moveCutShort_ne {j : Nat} (energy : j ≠ Od.TRANSITION_ENERGY p) (spoil : j ≠ Reg.spoilAt p) (result : j ≠ Od.POWER_CMD_RESULT p) :
    (h.moveCutShort p c).rd j = h.rd j := by
  unfold moveCutShort Hub.spoil powerResult
  dsimp only
  split_ifs <;> simp only [rd_wr_ne _ _ _ _ energy, rd_wr_ne _ _ _ _ spoil, rd_wr_ne _ _ _ _ result]

end

/-! ### What a turn-off writes in the cells of a downstream port -/

/-- An entry of a downstream port lies below the internal registers. -/
theorem dnEntry_ne_register (p : Dn) {base sub : Nat} (low : base < 0x3000 ∧ sub < 256) (i a : Nat) : Od.key (base + 0x100 * p) sub ≠ rkey i a :=
  portEntry_ne_register ⟨p, by omega⟩ low

/-- Entries of one port under different indexes or subindexes are different cells. -/
theorem portEntry_ne_portEntry (p : Nat) {base base' sub sub' : Nat} (small : sub < 256 ∧ sub' < 256) (other : base ≠ base' ∨ sub ≠ sub') :
    Od.key (base + 0x100 * p) sub ≠ Od.key (base' + 0x100 * p) sub' := by
  unfold Od.key
  omega

section
variable (h : Hub) (p : Dn) (c : Nat)

/-- The limit and the excess-current readings apart, an entry stands. -/
theorem rd_powerFollows_entry {base sub : Nat} (small : sub < 256)
    (other : ¬ (base = 0x2040 ∧ sub = 4) ∧ ¬ (base = 0x2020 ∧ 8 ≤ sub ∧ sub ≤ 11)) :
    (h.powerFollows p).rd (Od.key (base + 0x100 * p) sub) = h.rd (Od.key (base + 0x100 * p) sub) := by
  refine rd_powerFollows_ne h p ?_
  simp only [followCells, List.forall_mem_cons, List.forall_mem_map, lineKey, Od.LIMIT_ACTIVE, Od.key, List.not_mem_nil, false_imp_iff,
    implies_true, and_true]
  omega

theorem rd_powerFollows_register (i a : Nat) : (h.powerFollows p).rd (rkey i a) = h.rd (rkey i a) := by
  have below {base sub : Nat} (low : base < 0x3000 ∧ sub < 256) := (dnEntry_ne_register p low i a).symm
  refine rd_powerFollows_ne h p ?_
  simp only [followCells, List.forall_mem_cons, List.forall_mem_map, List.not_mem_nil, false_imp_iff, implies_true, and_true]
  exact ⟨below (by decide), below (by decide), below (by decide), below (by decide), below (by decide)⟩

theorem rd_moveCutShort_energy : (h.moveCutShort p c).rd (Od.TRANSITION_ENERGY p) =
    if h.rd (Od.POWER_STATE p) = 2 ∨ h.rd (Od.POWER_STATE p) = 4 then h.rd (Reg.energy p) else h.rd (Od.TRANSITION_ENERGY p) := by
  have spoil : Od.TRANSITION_ENERGY p ≠ Reg.spoilAt p := dnEntry_ne_register p (by decide) _ _
  have result : Od.TRANSITION_ENERGY p ≠ Od.POWER_CMD_RESULT p := portEntry_ne_portEntry p (by decide) (by decide)
  have moves : [2, 4].contains (h.rd (Od.POWER_STATE p)) = true ↔ h.rd (Od.POWER_STATE p) = 2 ∨ h.rd (Od.POWER_STATE p) = 4 := by simp
  unfold moveCutShort Hub.spoil powerResult
  simp only [moves]
  split_ifs <;> simp only [rd_wr_self, rd_wr_ne _ _ _ _ spoil, rd_wr_ne _ _ _ _ result]

theorem rd_moveCutShort_result : (h.moveCutShort p c).rd (Od.POWER_CMD_RESULT p) =
    if h.rd (Od.POWER_STATE p) = 2 ∧ c ≠ 1 then 13 else h.rd (Od.POWER_CMD_RESULT p) := by
  have spoil : Od.POWER_CMD_RESULT p ≠ Reg.spoilAt p := dnEntry_ne_register p (by decide) _ _
  have energy : Od.POWER_CMD_RESULT p ≠ Od.TRANSITION_ENERGY p := portEntry_ne_portEntry p (by decide) (by decide)
  unfold moveCutShort Hub.spoil powerResult
  dsimp only
  split_ifs <;> simp only [rd_wr_self, rd_wr_ne _ _ _ _ spoil, rd_wr_ne _ _ _ _ energy]

/-- The cells that the power's cut writes hold what it writes. -/
theorem rd_cutPower_cells :
    (h.cutPower p c).rd (Od.POWER_STATE p) = 5 ∧ (h.cutPower p c).rd (Od.POWER_OFF_CAUSE p) = c ∧ (h.cutPower p c).rd (Reg.discharge p) = 1 ∧
    (h.cutPower p c).rd (Tm.discharge p) = h.now + ms 475 + 1 ∧ (h.cutPower p c).rd (Reg.limiting p) = 0 ∧
    (h.cutPower p c).rd (Reg.trStep p) = 0 := by
  have bound := p.isLt
  simp only [Od.POWER_STATE, Od.POWER_OFF_CAUSE, Reg.discharge, Tm.discharge, Reg.limiting, Reg.trStep, Od.key, rkey, cutPower, rd_emit, arm]
  simp (disch := omega) only [rd_wr_ne, rd_wr_self, and_self, wr_now]

/-- An entry other than POWER_STATE and POWER_OFF_CAUSE stands when the power is cut. -/
theorem rd_cutPower_entry {base sub : Nat} (low : base < 0x3000 ∧ sub < 256) (other : ¬ (base = 0x2040 ∧ (sub = 1 ∨ sub = 2))) :
    (h.cutPower p c).rd (Od.key (base + 0x100 * p) sub) = h.rd (Od.key (base + 0x100 * p) sub) := by
  have bound := p.isLt
  simp only [Od.POWER_STATE, Od.POWER_OFF_CAUSE, Reg.discharge, Tm.discharge, Reg.limiting, Reg.trStep, Od.key, rkey, cutPower, rd_emit, arm]
  simp (disch := omega) only [rd_wr_ne]

end

section
variable {h : Hub} {p : Dn} {c : Nat}

/-- A far end that does not need VBUS: the turn-off ends with what follows the power. -/
theorem turnOff_selfPowered (on : h.powered p = true) (other : h.rd (Od.PROBE_RESULT p) ≠ 1) :
    h.turnOff p c = ((h.moveCutShort p c).cutPower p c).powerFollows p := by
  have probe : (((h.moveCutShort p c).cutPower p c).powerFollows p).rd (Od.PROBE_RESULT p) = h.rd (Od.PROBE_RESULT p) :=
    calc _ = ((h.moveCutShort p c).cutPower p c).rd (Od.PROBE_RESULT p) := rd_powerFollows_entry _ p (by decide) (by decide)
      _ = (h.moveCutShort p c).rd (Od.PROBE_RESULT p) := rd_cutPower_entry _ p c (by decide) (by decide)
      _ = h.rd (Od.PROBE_RESULT p) := rd_moveCutShort_ne h p c (portEntry_ne_portEntry p (by decide) (by decide))
        (dnEntry_ne_register p (by decide) _ _) (portEntry_ne_portEntry p (by decide) (by decide))
  rw [turnOff_powered on, hubPowerLoss_selfPowered (probe ▸ other)]

end

end Sys2Proof.Machine.Hub

open Sys2Proof.Machine Sys2Proof.Machine.Hub

/-- Settles O31: the move cut short, the power's cut and what follows it write the named cells, each its own. -/
theorem turnOff : Obligations.TurnOff := by
  unfold Obligations.TurnOff
  intro h p c
  refine ⟨fun off => turnOff_unpowered off, fun on other => ?_, fun on _ state => ?_⟩
  · obtain ⟨power, cause, discharge, timer, limiting, step⟩ := rd_cutPower_cells (h.moveCutShort p c) p c
    simp only [moveCutShort_kept] at timer
    rw [turnOff_selfPowered on other]
    refine ⟨(rd_powerFollows_entry _ p ?_ ?_).trans power, (rd_powerFollows_entry _ p ?_ ?_).trans cause,
      (rd_powerFollows_register _ p _ _).trans discharge, (rd_powerFollows_register _ p _ _).trans timer,
      (rd_powerFollows_register _ p _ _).trans limiting, (rd_powerFollows_register _ p _ _).trans step, by simp, by simp,
      (rd_powerFollows_entry _ p ?_ ?_).trans ((rd_cutPower_entry _ p c ?_ ?_).trans (rd_moveCutShort_energy h p c)),
      (rd_powerFollows_entry _ p ?_ ?_).trans ((rd_cutPower_entry _ p c ?_ ?_).trans (rd_moveCutShort_result h p c))⟩
    all_goals decide
  · rw [turnOff_powered on, moveCutShort_on state]
    rfl
end

section
/-!
The protective actions of a power die that is not in hold, and the trip sequence (R123, R144, R145, R147).
-/
namespace Sys2Proof.Machine.Hub

/-! ### A protective action trips the port where its condition holds (R144, R145) -/

section
variable {h : Hub} {p : Dn} {last since peak : Nat} {m : Sense} {busy ovr : Bool}
variable (free : h.rd Reg.hold ≠ 1)
include free

theorem protect_free (cause : Nat) : h.protect p cause peak m busy ovr = ((h.sense p m).trip p cause peak busy).overridden p ovr := if_neg free

theorem limitBroken_free : (h.limitBroken last p).rd Reg.hold ≠ 1 := by rwa [rd_limitBroken_hold]

theorem fastTrip_above (above : 92 * h.fastThreshold p < 100 * peak) :
    h.fastTrip p peak m busy ovr = ((h.sense p m).trip p 2 peak busy).overridden p ovr :=
  (if_pos (.inr above)).trans (protect_free free 2)

theorem fastTrip_below (below : 100 * peak ≤ 92 * h.fastThreshold p) : h.fastTrip p peak m busy ovr = h.sense p m :=
  if_neg (not_or.2 ⟨free, Nat.not_lt.2 below⟩)

theorem limitTrip_elapsed (elapsed : (h.limitBroken last p).limitElapsed p = true) :
    h.limitTrip p last peak m busy ovr = (((h.limitBroken last p).sense p m).trip p 3 peak busy).overridden p ovr :=
  (if_pos (.inr elapsed)).trans (protect_free (limitBroken_free free) 3)

theorem limitTrip_early (early : (h.limitBroken last p).limitElapsed p = false) :
    h.limitTrip p last peak m busy ovr = (h.limitBroken last p).sense p m :=
  if_neg (not_or.2 ⟨free, by simp [early]⟩)

theorem guardTrip_limiting (limits : (h.limitBroken last p).rd (Reg.limiting p) ≠ 0) :
    h.guardTrip p last peak m busy ovr = (((h.limitBroken last p).sense p m).trip p 3 peak busy).overridden p ovr :=
  (if_pos (.inr limits)).trans (protect_free (limitBroken_free free) 3)

theorem guardTrip_idle (idle : (h.limitBroken last p).rd (Reg.limiting p) = 0) :
    h.guardTrip p last peak m busy ovr = (h.limitBroken last p).sense p m :=
  if_neg (not_or.2 ⟨free, not_not.2 idle⟩)

theorem reverseTrip_flows (flows : h.reverseHeld p since peak m = true) :
    h.reverseTrip p since peak m busy ovr = ((h.sense p m).trip p 4 peak busy).overridden p ovr :=
  (if_pos (.inr flows)).trans (protect_free free 4)

theorem reverseTrip_brief (brief : h.reverseHeld p since peak m = false) : h.reverseTrip p since peak m busy ovr = h.sense p m :=
  if_neg (not_or.2 ⟨free, by simp [brief]⟩)

end

/-! ### Limiting begins (R144) -/

/-- The readings have come, and limiting that a break has ended is over. -/
def limitSensed (p left : Nat) (m : Sense) (h : Hub) : Hub := (h.sense p m).limitBroken left p

section
variable {h : Hub} {p left : Nat} {m : Sense}

theorem limitEntry_powered (on : (h.limitSensed p left m).powered p = true) : h.limitEntry p left m =
    let counted := (h.limitSensed p left m).inc (Od.LIMIT_EVENTS p)
    if counted.rd (Reg.limiting p) = 0 then counted.wr (Reg.limiting p) (counted.now + 1) else counted := if_pos on

theorem limitEntry_unpowered (off : (h.limitSensed p left m).powered p = false) : h.limitEntry p left m = h.limitSensed p left m :=
  if_neg (ne_true_of_eq_false off)

end

/-! ### The trip sequence (R123, R147) -/

/-- The abort cause of a trip: FAST_TRIP for SHORT and REVERSE, TIMED_LIMIT for the others. -/
abbrev tripAbort (cause : Nat) : Nat := if cause = 2 ∨ cause = 4 then 3 else 4

/-- A tripped port is off, stamped, counted and reported, and its transition is cut short. -/
def tripRecorded (p cause peak : Nat) (h : Hub) : Hub :=
  (((((((h.turnOff p cause).wr (Od.TRIP_TIME p) h.stamp).wr (Od.TRIP_PEAK_MA p) peak).countTrip p cause).arm (Tm.holdoff p)
    (ms (h.rd (Od.RETRY_HOLDOFF p)))).wr (Reg.tripTrace p) 1).report 0x21 (p + 256 * cause) peak).abortTransition p (tripAbort cause)
      (h.rd (Od.VBUS_MV p))

section
variable {h : Hub} {p cause peak : Nat} {busy : Bool}

theorem trip_source (on : h.powered p = true) (source : h.isSource p = true) : h.trip p cause peak busy =
    ((((h.tripRecorded p cause peak).discardContract p).endExchange p).contractState p 1).orderHardReset p 3 false busy :=
  (if_pos on).trans (if_pos source)

theorem trip_other (on : h.powered p = true) (other : h.isSource p = false) :
    h.trip p cause peak busy = (h.tripRecorded p cause peak).discardContract p :=
  (if_pos on).trans (if_neg (ne_true_of_eq_false other))

theorem trip_unpowered (off : h.powered p = false) : h.trip p cause peak busy = h.joinCause p (tripAbort cause) :=
  if_neg (ne_true_of_eq_false off)

end

end Sys2Proof.Machine.Hub

open Sys2Proof.Machine Sys2Proof.Machine.Hub

/-- Settles O29: each clause is one protective action by its condition, an entry to limiting, or the sequence by the port's state. -/
theorem tripSequence : Obligations.TripSequence := by
  unfold Obligations.TripSequence
  dsimp only [exec, execFastTrip, execTimedLimitTrip, execLimitingGuardTrip, execReverseTrip, execActiveLimitingEntry]
  intro t left last since s p m peak busy ovr free
  refine ⟨fun above => act_eq ?_, fun below => act_eq ?_, fun elapsed => act_eq ?_, fun early => act_eq ?_, fun limits => act_eq ?_,
    fun idle => act_eq ?_, fun flows => act_eq ?_, fun brief => act_eq ?_, fun on first => act_eq ?_, fun on again => act_eq ?_,
    fun off => act_eq ?_, fun h c on => ⟨fun other => ?_, fun source => ?_⟩, fun h c off => ?_⟩
  · exact fastTrip_above free above
  · exact fastTrip_below free below
  · exact limitTrip_elapsed free elapsed
  · exact limitTrip_early free early
  · exact guardTrip_limiting free limits
  · exact guardTrip_idle free idle
  · exact reverseTrip_flows free flows
  · exact reverseTrip_brief free brief
  · exact (limitEntry_powered on).trans (if_pos first)
  · exact (limitEntry_powered on).trans (if_neg again)
  · exact limitEntry_unpowered off
  · exact trip_other on other
  · exact trip_source on source
  · exact trip_unpowered off
end

section
/-!
The power commands of a port and the events of its supply, case by case (R114, R124, R141, R142, R147 to R149, R151).
-/
namespace Sys2Proof.Machine

/-! ### A bit put reads back -/

theorem hasBit_setBit (v i : Nat) : hasBit (setBit v i) i = true := by
  have above : (v + 2 ^ i) / 2 ^ i = v / 2 ^ i + 1 := Nat.add_div_right v (Nat.two_pow_pos i)
  by_cases was : hasBit v i = true
  · simp [setBit, was]
  · simp only [setBit, was, Bool.false_eq_true, if_false]
    simp only [hasBit, bit, beq_iff_eq] at was ⊢
    omega

theorem hasBit_clearBit (v i : Nat) : hasBit (clearBit v i) i = false := by
  have below : (v - 2 ^ i) / 2 ^ i = v / 2 ^ i - 1 := by simpa using Nat.sub_mul_div v (2 ^ i) 1
  by_cases was : hasBit v i = true
  · simp only [clearBit, was, if_true]
    simp only [hasBit, bit, beq_iff_eq, beq_eq_false_iff_ne] at was ⊢
    omega
  · simp [clearBit, was]

theorem hasBit_putBit (v i : Nat) (b : Bool) : hasBit (putBit v i b) i = b := by
  cases b with
  | false => exact hasBit_clearBit v i
  | true => exact hasBit_setBit v i

namespace Hub

/-! ### The discharge ends (R148) -/

section
variable {h : Hub} {p : Nat} {m : Sense}

theorem dischargeDone_low (low : m.vbus.toNat < 1000) : h.dischargeDone p m = ((h.sense p m).dischargeOff p).powerReachedOff p := if_pos low

theorem dischargeDone_high (high : 1000 ≤ m.vbus.toNat) : h.dischargeDone p m = h.sense p m := if_neg (Nat.not_lt.2 high)

theorem vbusLow_low (low : m.vbus.toNat < 5000) : h.vbusLow p m = (h.sense p m).powerReachedOff p := if_pos low

theorem vbusLow_high (high : 5000 ≤ m.vbus.toNat) : h.vbusLow p m = h.sense p m := if_neg (Nat.not_lt.2 high)

theorem dischargeTimeout_failed (due : (h.sense p m).due (Tm.discharge p) = true) (high : 5000 ≤ m.vbus.toNat) : h.dischargeTimeout p m =
    ((((h.sense p m).wr (Tm.discharge p) 0).dischargeOff p).inc (Od.DISCHARGE_FAILS p)).report 0x22 p 0 :=
  (expire_due _ _ _ due).trans (if_pos high)

theorem dischargeTimeout_low (due : (h.sense p m).due (Tm.discharge p) = true) (low : m.vbus.toNat < 5000) :
    h.dischargeTimeout p m = ((h.sense p m).wr (Tm.discharge p) 0).dischargeOff p :=
  (expire_due _ _ _ due).trans (if_neg (Nat.not_le.2 low))

theorem dischargeTimeout_early (early : (h.sense p m).due (Tm.discharge p) = false) : h.dischargeTimeout p m = h.sense p m :=
  expire_not_due _ _ _ early

/-! ### An INRUSH settles (R114, R141) -/

/-- VBUS has stood within 5 % of the rail for 4 ms since an instant, in step 4 of an INRUSH; v is its present reading. -/
abbrev inrushStands (h : Hub) (p since v : Nat) : Prop :=
  h.rd (Od.POWER_STATE p) = 2 ∧ h.rd (Reg.trStep p) = 4 ∧ since + ms 4 ≤ h.now ∧ 95 * h.railMv (h.rd (Reg.rail p)) ≤ 100 * v ∧
    100 * v ≤ 105 * h.railMv (h.rd (Reg.rail p))

/-- The port is ON at its limit, and the default offer is due. -/
def inrushOn (p since energy : Nat) (h : Hub) : Hub :=
  let on := ((h.wr (Od.POWER_STATE p) 3 |>.wr (Od.TRANSITION_ENERGY p) energy |>.wr (Reg.limiting p) 0 |>.wr (Reg.trStep p) 0).refreshLimit
    p).powerResult p 2
  (on.emit (.powerDie p (.limit (on.rd (Od.LIMIT_ACTIVE p))))).wr (Tm.firstCaps p) (since + ms 46 + 1)

section
variable {since : Nat}

theorem inrushSettled_stands (stands : (h.sense p m).inrushStands p since m.vbus.toNat) : h.inrushSettled p since m =
    let on := (h.sense p m).inrushOn p since m.energy.toNat
    (if on.rd (Od.CONTRACT_STATE p) = 6 then on.contractState p 1 else on).hubPowerUp p := if_pos stands

theorem inrushSettled_not (waits : ¬ (h.sense p m).inrushStands p since m.vbus.toNat) : h.inrushSettled p since m = h.sense p m :=
  if_neg waits

end

/-! ### POWER_CMD (R149) -/

/-- A contract is under way or in force, so that POWER_CMD OFF is refused. -/
abbrev contractBinds (h : Hub) (p : Nat) : Prop :=
  (2 ≤ h.rd (Od.CONTRACT_STATE p) ∧ h.rd (Od.CONTRACT_STATE p) ≤ 6) ∨ h.rd (Reg.inForce p) = 1

theorem commandOff_bound (bound : h.contractBinds p) : h.commandOff p = h.powerResult p 12 := if_pos bound

section
variable (free : ¬ h.contractBinds p)
include free

theorem commandOff_off (state : h.rd (Od.POWER_STATE p) = 0) : h.commandOff p = h.powerResult p 2 := by
  rw [commandOff, if_neg free, state]
  rfl

theorem commandOff_queued (state : h.rd (Od.POWER_STATE p) = 1) : h.commandOff p = h.withdrawPowerOn p := by
  rw [commandOff, if_neg free, state]
  rfl

theorem commandOff_discharging (state : h.rd (Od.POWER_STATE p) = 5) : h.commandOff p = h.wr (Reg.offPending p) 1 := by
  rw [commandOff, if_neg free, state]
  rfl

theorem commandOff_powered (on : h.powered p = true) : h.commandOff p = (h.turnOff p 1).wr (Reg.offPending p) 1 := by
  have state : h.rd (Od.POWER_STATE p) = 2 ∨ h.rd (Od.POWER_STATE p) = 3 ∨ h.rd (Od.POWER_STATE p) = 4 := by simpa [powered] using on
  rw [commandOff, if_neg free]
  rcases state with state | state | state <;> rw [state] <;> rfl

end

/-- The port is a source at DEFAULT_POWER and OFF. -/
abbrev restorable (h : Hub) (p : Nat) : Prop := h.isSource p = true ∧ h.rd (Od.CONTRACT_STATE p) = 1 ∧ h.rd (Od.POWER_STATE p) = 0

theorem commandRestore_refused (refused : ¬ h.restorable p) : h.commandRestore p = h.powerResult p 3 :=
  if_pos (by simpa [restorable, imp_iff_not_or, or_assoc] using refused)

section
variable (idle : h.restorable p)
include idle

/-- A port that may be restored passes the first check. -/
theorem commandRestore_idle : h.commandRestore p =
    if !h.probedDevice p then h.powerResult p 4
    else if h.running (Tm.holdoff p) && !h.due (Tm.holdoff p) then h.powerResult p 5
    else h.askPowerOn p false := by
  obtain ⟨source, contract, power⟩ := idle
  exact if_neg (by simp [source, contract, power])

theorem commandRestore_noDevice (other : h.probedDevice p = false) : h.commandRestore p = h.powerResult p 4 :=
  (commandRestore_idle idle).trans (if_pos (by simp [other]))

variable (device : h.probedDevice p = true)
include device

theorem commandRestore_heldOff (waits : h.running (Tm.holdoff p) = true ∧ h.due (Tm.holdoff p) = false) :
    h.commandRestore p = h.powerResult p 5 :=
  (commandRestore_idle idle).trans ((if_neg (by simp [device])).trans (if_pos (by simpa using waits)))

theorem commandRestore_asks (free : ¬ (h.running (Tm.holdoff p) = true ∧ h.due (Tm.holdoff p) = false)) :
    h.commandRestore p = h.askPowerOn p false :=
  (commandRestore_idle idle).trans ((if_neg (by simp [device])).trans (if_neg (by simpa using free)))

end
end

/-! ### Over-current groups (R151) -/

section
variable {h : Hub} {g : Nat}

section
variable (low : hasBit (h.rd Reg.ocInput) g = true) (enabled : hasBit (h.rd Od.OC_GROUP_ENABLE) g = true)
include low enabled

theorem groupLevel_asserts (quiet : hasBit (h.rd Od.OC_GROUP_STATE) g = false) :
    h.groupLevel g = ((h.wrBit Od.OC_GROUP_STATE g true).inc (Od.OC_G0_COUNT + g)).report 0x24 g 0 :=
  if_pos (by simp [low, enabled, quiet])

theorem groupLevel_again (asserted : hasBit (h.rd Od.OC_GROUP_STATE) g = true) : h.groupLevel g = h := by
  simp [groupLevel, low, enabled, asserted]

end

/-- An input that is high or not enabled does not assert. -/
theorem groupLevel_clears (quiet : hasBit (h.rd Reg.ocInput) g = false ∨ hasBit (h.rd Od.OC_GROUP_ENABLE) g = false) :
    h.groupLevel g = h.wrBit Od.OC_GROUP_STATE g false := by
  rcases quiet with high | disabled <;> simp [groupLevel, *]

theorem ocInput_wrBit (b : Bool) : hasBit ((h.wrBit Reg.ocInput g b).rd Reg.ocInput) g = b := by
  rw [wrBit, rd_wr_self, hasBit_putBit]

end
end Hub

/-- A register write that passes its checks answers with its effect and the outcome OK. -/
theorem act_writing {t : Stamp} {s : State} {k v : Nat} {f : Hub → Hub} {x : Hub} (writable : (s.arrive t).Writable k v)
    (e : f ((s.arrive t).keep k v) = x) : act t s (Hub.writing k v f) = .next (s.settled (x.wrote 0)) :=
  act_eq ((Hub.writing_writable writable).trans (congrArg (Hub.wrote 0) e))

end Sys2Proof.Machine

open Sys2Proof.Machine Sys2Proof.Machine.Hub

/-- Settles O32: each clause is one event of the supply, one state that a command finds, or one level of a group's input. -/
theorem powerCommands : Obligations.PowerCommands := by
  unfold Obligations.PowerCommands
  dsimp only [exec, execRetryHoldoffExpiry, execDischargeComplete, execVbusBelow5v, execDischargeTimeout, execInrushSettled, execPowerCmdOff,
    execPowerCmdRestoreDefault, execLimitSetWrite, execOcGroupAssert, execOcGroupRelease]
  intro t since s p m v g
  refine ⟨fun due => act_eq ?_, fun early => act_eq ?_, fun low => act_eq ?_, fun high => act_eq ?_, fun low => act_eq ?_,
    fun high => act_eq ?_, fun due high => act_eq ?_, fun due low => act_eq ?_, fun early => act_eq ?_, fun stands other => act_eq ?_,
    fun stands resets => act_eq ?_, fun waits => act_eq ?_, fun writable bound => act_writing writable ?_,
    fun writable free state => act_writing writable ?_, fun writable free state => act_writing writable ?_,
    fun writable free state => act_writing writable ?_, fun writable free on => act_writing writable ?_,
    fun writable refused => act_eq ?_, fun writable idle other => act_eq ?_, fun writable idle device waits => act_eq ?_,
    fun writable idle device free => act_eq ?_, fun writable => act_writing writable rfl, fun enabled quiet => act_eq ?_,
    fun enabled asserted => act_eq ?_, fun disabled => act_eq ?_, act_eq ?_⟩
  · exact expire_due _ _ _ due
  · exact expire_not_due _ _ _ early
  · exact dischargeDone_low low
  · exact dischargeDone_high high
  · exact vbusLow_low low
  · exact vbusLow_high high
  · exact dischargeTimeout_failed due high
  · exact dischargeTimeout_low due low
  · exact dischargeTimeout_early early
  · exact (inrushSettled_stands stands).trans (congrArg (hubPowerUp p) (if_neg other))
  · exact (inrushSettled_stands stands).trans (congrArg (hubPowerUp p) (if_pos resets))
  · exact inrushSettled_not waits
  · exact commandOff_bound bound
  · exact commandOff_off free state
  · exact commandOff_queued free state
  · exact commandOff_discharging free state
  · exact commandOff_powered free on
  · exact (writing_writable writable).trans (congrArg (wrote 0) (commandRestore_refused refused))
  · exact (writing_writable writable).trans (congrArg (wrote 0) (commandRestore_noDevice idle other))
  · exact (writing_writable writable).trans (congrArg (wrote 0) (commandRestore_heldOff idle device waits))
  · exact (writing_writable writable).trans (congrArg (wrote 0) (commandRestore_asks idle device free))
  · exact groupLevel_asserts (ocInput_wrBit true) enabled quiet
  · exact groupLevel_again (ocInput_wrBit true) enabled asserted
  · exact groupLevel_clears (.inr disabled)
  · exact groupLevel_clears (.inl (ocInput_wrBit false))
end

section
/-!
The rail move, its aborts and the soft reset, case by case (R115, R117, R119 to R124, R127, R137, R141, Table 4-16).
-/
namespace Sys2Proof.Machine.Hub

section
variable {h : Hub} {p : Nat} {m : Sense} {since : Nat}

/-! ### The incoming pair nears its rail, and the move settles (R115, R117, R137) -/

/-- A move or a power-on in step 3 whose VBUS nears the rail. -/
abbrev moveNears (h : Hub) (p v : Nat) : Prop := h.inMove p = true ∧ h.rd (Reg.trStep p) = 3 ∧ h.nearsRail p v = true

theorem railReached_near (near : (h.sense p m).moveNears p m.vbus.toNat) : h.railReached p m =
    ((h.sense p m).wr (Reg.trStep p) 4).emit (.powerDie p (.fullyOn ((h.sense p m).rd (Reg.trNewRail p)))) := if_pos near

theorem railReached_far (far : ¬ (h.sense p m).moveNears p m.vbus.toNat) : h.railReached p m = h.sense p m := if_neg far

/-- The port is in TRANSITION, and 4 ms have passed since an instant. -/
abbrev transitionHeld (h : Hub) (p since : Nat) : Prop := h.rd (Od.CONTRACT_STATE p) = 4 ∧ since + ms 4 ≤ h.now

theorem moveSettled_waits (waits : ¬ (h.sense p m).transitionHeld p since) : h.moveSettled p since m = h.sense p m :=
  if_pos (by rwa [transitionHeld, not_and_or, not_le] at waits)

section
variable (held : (h.sense p m).transitionHeld p since)
include held

/-- A transition that has held its time passes the first check. -/
theorem transitionHeld_passes : ¬ ((h.sense p m).rd (Od.CONTRACT_STATE p) ≠ 4 ∨ (h.sense p m).now < since + ms 4) := by
  rwa [ne_eq, ← not_le, ← not_and_or, not_not]

theorem moveSettled_rail (step : (h.sense p m).rd (Reg.trStep p) = 4)
    (within : 95 * (h.sense p m).railMv ((h.sense p m).rd (Reg.trNewRail p)) ≤ 100 * m.vbus.toNat ∧
      100 * m.vbus.toNat ≤ 105 * (h.sense p m).railMv ((h.sense p m).rd (Reg.trNewRail p))) :
    h.moveSettled p since m = (h.sense p m).railSettled p m.energy.toNat :=
  (if_neg (transitionHeld_passes held)).trans (if_pos ⟨step, within⟩)

theorem moveSettled_open (step : (h.sense p m).rd (Reg.trStep p) = 5) (off : (h.sense p m).powered p = false) :
    h.moveSettled p since m =
      (((h.sense p m).setContract p ((h.sense p m).rd (Reg.trRequest p) - 1)).wr (Reg.trStep p) 0).sendReady p :=
  (if_neg (transitionHeld_passes held)).trans ((if_neg fun rail => by omega).trans (if_pos ⟨step, off⟩))

end

/-! ### A guard, the detach and the glitch (R119, R121 to R123, R141) -/

section
variable {busy ovr : Bool}

theorem slewGuard_quiet (quiet : (h.sense p m).guardFires m since = false) : h.slewGuard p since m busy ovr = h.sense p m :=
  if_pos (by simp [quiet])

section
variable (fires : (h.sense p m).guardFires m since = true)
include fires

theorem slewGuard_cuts (moves : (h.sense p m).inMove p = true) : h.slewGuard p since m busy ovr =
    (((h.sense p m).cutMove p 7 5).orderHardReset p 4 false busy).overridden p ovr :=
  (if_neg (by simp [fires])).trans (if_pos moves)

theorem slewGuard_joins (rests : (h.sense p m).inMove p = false) : h.slewGuard p since m busy ovr = (h.sense p m).joinCause p 5 :=
  (if_neg (by simp [fires])).trans (if_neg (ne_true_of_eq_false rests))

end

theorem detachAbort_cuts (moves : (h.sense p m).inMove p = true) : h.detachAbort p m ovr =
    (((h.sense p m).cutMove p 5 1).wr (Reg.detachDone p) (if (h.sense p m).rd (Od.POWER_STATE p) = 4 then 1 else 3)).overridden p ovr :=
  if_pos moves

theorem detachAbort_joins (rests : (h.sense p m).inMove p = false) : h.detachAbort p m ovr = (h.sense p m).joinCause p 1 :=
  if_neg (ne_true_of_eq_false rests)

/-- The detach that was seen is undone. -/
def detachUndone (p : Nat) (h : Hub) : Hub := ((h.wr (Reg.detachDone p) 0).wr (Od.ABORT_CAUSE p) 2).wr (Od.POWER_OFF_CAUSE p) 8

theorem detachGlitch_move (move : h.rd (Reg.detachDone p) = 1) :
    h.detachGlitch p busy = (h.detachUndone p).orderHardReset p 5 false busy :=
  (if_pos (.inl move)).trans (if_pos move)

theorem detachGlitch_powerOn (powerOn : h.rd (Reg.detachDone p) = 3) : h.detachGlitch p busy = (h.detachUndone p).powerResult p 13 :=
  (if_pos (.inr powerOn)).trans (if_neg (by omega))

theorem detachGlitch_none (move : h.rd (Reg.detachDone p) ≠ 1) (powerOn : h.rd (Reg.detachDone p) ≠ 3) : h.detachGlitch p busy = h :=
  if_neg (not_or.2 ⟨move, powerOn⟩)

end

/-! ### tSrcRecover and SOFT_RESET (R124, R127) -/

/-- A source port with VBUS still at 5 V or more. -/
abbrev vbusStillHigh (h : Hub) (p v : Nat) : Prop := p < 16 ∧ h.isSource p = true ∧ 5000 ≤ v

section
variable (due : (h.sense p m).due (Tm.srcRecover p) = true)
include due

theorem srcRecoverEnd_low (low : ¬ ((h.sense p m).wr (Tm.srcRecover p) 0).vbusStillHigh p m.vbus.toNat) :
    h.srcRecoverEnd p m = ((h.sense p m).wr (Tm.srcRecover p) 0).restorePower p :=
  (expire_due _ _ _ due).trans (if_neg low)

theorem srcRecoverEnd_high (high : ((h.sense p m).wr (Tm.srcRecover p) 0).vbusStillHigh p m.vbus.toNat) :
    h.srcRecoverEnd p m = ((h.sense p m).wr (Tm.srcRecover p) 0).arm (Tm.srcRecover p) (ms 660) :=
  (expire_due _ _ _ due).trans (if_pos high)

end

theorem srcRecoverEnd_early (early : (h.sense p m).due (Tm.srcRecover p) = false) : h.srcRecoverEnd p m = h.sense p m :=
  expire_not_due _ _ _ early

/-- The CRC of a message without objects is that of its header. -/
theorem cfCrc_nil (header : Nat) : cfCrc header [] = crc32 (toBytes 2 header) := congrArg crc32 (List.append_nil _)

theorem softResetIn_message {id pre : Nat} : h.softResetIn p id pre =
    h.messageIn p (mkHeader 0 id (1 - h.ownRole p) 0 14) [] (crc32 (toBytes 2 (mkHeader 0 id (1 - h.ownRole p) 0 14))) pre := by
  rw [softResetIn, cfCrc_nil]

end

end Sys2Proof.Machine.Hub

open Sys2Proof.Machine Sys2Proof.Machine.Hub

/-- Settles O35: each clause is one step of a move, one abort by what it meets, or one end of tSrcRecover. -/
theorem railMoves : Obligations.RailMoves := by
  unfold Obligations.RailMoves
  dsimp only [exec, execMoveRailReached, execMoveSettled, execSlewGuardAbort, execTransitionDetachAbort, execDetachGlitch,
    execSrcRecoverExpiry, execSoftResetReceived]
  intro t since s p q m busy ovr id pre
  refine ⟨fun near => act_eq ?_, fun far => act_eq ?_, fun held step low high => act_eq ?_, fun held step off => act_eq ?_,
    fun waits => act_eq ?_, fun fires moves => act_eq ?_, fun fires rests => act_eq ?_, fun quiet => act_eq ?_, fun moves => act_eq ?_,
    fun rests => act_eq ?_, fun move => act_eq ?_, fun powerOn => act_eq ?_, fun move powerOn => act_eq ?_, fun due low => act_eq ?_,
    fun due high => act_eq ?_, fun early => act_eq ?_, fun alive => live_eq alive ?_⟩
  · exact railReached_near near
  · exact railReached_far far
  · exact moveSettled_rail held step ⟨low, high⟩
  · exact moveSettled_open held step off
  · exact moveSettled_waits waits
  · exact slewGuard_cuts fires moves
  · exact slewGuard_joins fires rests
  · exact slewGuard_quiet quiet
  · exact detachAbort_cuts moves
  · exact detachAbort_joins rests
  · exact detachGlitch_move move
  · exact detachGlitch_powerOn powerOn
  · exact detachGlitch_none move powerOn
  · exact srcRecoverEnd_low due low
  · exact srcRecoverEnd_high due high
  · exact srcRecoverEnd_early early
  · exact softResetIn_message
end

section
/-!
The cable-electronics supply, the serial function and the line test, case by case (R128 to R130, R135, R136).
-/
namespace Sys2Proof.Machine.Hub

/-! ### The cable-electronics supply (R128 to R130) -/

section
variable {h : Hub} {p : Nat}

theorem cfsFault_on (on : h.rd (Od.CFS_STATE p) = 1) : h.cfsFault p =
    (((h.wr (Od.CFS_STATE p) 3).wr (Tm.cfsStable p) 0).emit (.powerDie p (.cfs false))).report 0x23 p 0 := if_pos on

theorem cfsFault_other (other : h.rd (Od.CFS_STATE p) ≠ 1) : h.cfsFault p = h := if_neg other

section
variable (fault : h.rd (Od.CFS_STATE p) = 3)
include fault

theorem cfsRestart_ours (ours : (h.wr (Od.CFS_STATE p) 0).cfsOurs p = true) : h.cfsRestart p = (h.wr (Od.CFS_STATE p) 0).cfsOn p :=
  (if_pos fault).trans (if_pos ours)

theorem cfsRestart_theirs (theirs : (h.wr (Od.CFS_STATE p) 0).cfsOurs p = false) : h.cfsRestart p = h.wr (Od.CFS_STATE p) 0 :=
  (if_pos fault).trans (if_neg (ne_true_of_eq_false theirs))

end

theorem cfsRestart_other (other : h.rd (Od.CFS_STATE p) ≠ 3) : h.cfsRestart p = h := if_neg other

theorem writeCfsEnable_off {v : Nat} (off : v = 0) : h.writeCfsEnable p v = (h.wr (Od.CFS_ENABLE p) 0).cfsOff p := by
  subst off
  rfl

theorem writeCfsEnable_on {v : Nat} (on : v ≠ 0) : h.writeCfsEnable p v = h.wr (Od.CFS_ENABLE p) v := if_neg on

/-- The hub is the new supplier of a swap, and its supply is on. -/
abbrev swapSupplies (h : Hub) (p : Nat) : Prop := h.rd (Reg.cfsSwap p) = 1 ∧ h.rd (Od.CFS_STATE p) = 1

section
variable (due : h.due (Tm.cfsStable p) = true)
include due

theorem cfsStable_swap (swap : (h.wr (Tm.cfsStable p) 0).swapSupplies p) : h.cfsStable p =
    ((h.wr (Tm.cfsStable p) 0).sendCf p 8 0 [6 * 2 ^ 28 + 2 ^ 26] .readyCfs).stop (Tm.readyWait p) :=
  (expire_due h _ _ due).trans (if_pos swap)

theorem cfsStable_other (other : ¬ (h.wr (Tm.cfsStable p) 0).swapSupplies p) : h.cfsStable p = h.wr (Tm.cfsStable p) 0 :=
  (expire_due h _ _ due).trans (if_neg other)

end

theorem cfsStable_early (early : h.due (Tm.cfsStable p) = false) : h.cfsStable p = h := expire_not_due h _ _ early

/-! ### The serial function and the line test (R135, R136) -/

theorem serialClose_closed {flags count stamp chars : Nat} (closed : h.rd (Od.ALT_STATE p) ≠ 1 ∨ h.switchOn = false) :
    h.serialClose p flags count stamp chars = h :=
  if_neg fun ⟨serial, on⟩ => closed.elim (fun other => other serial) (fun off => by simp [off] at on)

theorem serialStart_copy {f : Frame} {k : Copy} (serial : h.rd (Od.ALT_STATE p) = 1) (on : h.phyOn p = true)
    (copy : h.nextCopy p false = some (f, k)) : h.serialStart p =
      ((h.emit (.serialOut p (min (field f.payload 2 2) (hLen f.header - 12))
        (field f.payload 12 (min (field f.payload 2 2) (hLen f.header - 12))))).countOut p f.header).releaseCopy f k := by
  rw [serialStart, if_pos ⟨serial, on⟩, copy]

theorem serialStart_none (idle : h.rd (Od.ALT_STATE p) ≠ 1 ∨ h.phyOn p = false ∨ h.nextCopy p false = none) : h.serialStart p = h := by
  unfold serialStart
  split
  · next runs =>
    obtain ⟨serial, on⟩ := runs
    have none : h.nextCopy p false = none := by simpa [serial, on] using idle
    rw [none]
  · rfl

section
variable {trace loop : Nat} (test : h.rd (Od.ALT_STATE p) = 2)
include test

theorem lineTest_short (short : bits ((h.wr (Od.TDR_TRACE p) (trace % 256 ^ 2048)).rd (Reg.altParams p)) 16 15 = 1) :
    h.lineTest p trace loop = (h.wr (Od.TDR_TRACE p) (trace % 256 ^ 2048)).wr (Od.LOOP_RESISTANCE p) loop :=
  (if_pos test).trans (if_pos short)

theorem lineTest_open (other : bits ((h.wr (Od.TDR_TRACE p) (trace % 256 ^ 2048)).rd (Reg.altParams p)) 16 15 ≠ 1) :
    h.lineTest p trace loop = h.wr (Od.TDR_TRACE p) (trace % 256 ^ 2048) :=
  (if_pos test).trans (if_neg other)

end

theorem lineTest_other {trace loop : Nat} (other : h.rd (Od.ALT_STATE p) ≠ 2) : h.lineTest p trace loop = h := if_neg other

end

end Sys2Proof.Machine.Hub

open Sys2Proof.Machine Sys2Proof.Machine.Hub

/-- Settles O36: each clause is one state that a supply's event, a serial frame or a trace finds. -/
theorem cableSupplyAndAlternates : Obligations.CableSupplyAndAlternates := by
  unfold Obligations.CableSupplyAndAlternates
  dsimp only [exec, execCfsFault, execCfsRestart, execCfsEnableWrite, execCfsStable, execSerialFrameClose, execSerialTxStart,
    execLineTestTrace]
  intro t s p n v fl c first ch tr loop f k
  refine ⟨fun on => act_eq ?_, fun other => act_eq ?_, fun writable fault ours => act_writing writable ?_,
    fun writable fault theirs => act_writing writable ?_, fun writable other => act_writing writable ?_,
    fun writable off => act_writing writable ?_, fun writable on => act_writing writable ?_, fun due swap => act_eq ?_,
    fun due other => act_eq ?_, fun early => act_eq ?_, fun serial on => act_eq ?_, fun closed => act_eq ?_,
    fun serial on copy => act_eq ?_, fun idle => act_eq ?_, fun test other => act_eq ?_, fun test short => act_eq ?_,
    fun other => act_eq ?_⟩
  · exact cfsFault_on on
  · exact cfsFault_other other
  · exact cfsRestart_ours fault ours
  · exact cfsRestart_theirs fault theirs
  · exact cfsRestart_other other
  · exact writeCfsEnable_off off
  · exact writeCfsEnable_on on
  · exact cfsStable_swap due swap
  · exact cfsStable_other due other
  · exact cfsStable_early early
  · exact if_pos ⟨serial, on⟩
  · exact serialClose_closed closed
  · exact serialStart_copy serial on copy
  · exact serialStart_none idle
  · exact lineTest_open test other
  · exact lineTest_short test short
  · exact lineTest_other other
end

section
/-!
Slate's budget: the tick, a request, a capacity written and an entry that joins the queue (R153 to R157).
-/
namespace Sys2Proof.Machine.Hub

/-! ### Slate's entries lie below the internal registers -/

theorem levelKey_entry (s : Nat) : levelKey s < 2 ^ 24 := by
  unfold levelKey
  split_ifs <;> decide

theorem recoveryKey_entry (s : Nat) : recoveryKey s < 2 ^ 24 := by
  unfold recoveryKey
  split_ifs <;> decide

theorem capKey_entry (s : Nat) : capKey s < 2 ^ 24 := by
  unfold capKey
  split_ifs <;> decide

section
variable {h : Hub}

/-! ### A budget tick (R153, R154, R157) -/

theorem tickOpen_iff : h.tickOpen = true ↔ tickFalls h.rtc = true ∧ h.rd Reg.tickAt ≠ h.now + 1 := by
  simp [tickOpen]

theorem tick_open (falls : tickFalls h.rtc = true) (untaken : h.rd Reg.tickAt ≠ h.now + 1) :
    h.tick = (h.wr Reg.tickAt (h.now + 1)).drain :=
  if_pos (tickOpen_iff.2 ⟨falls, untaken⟩)

theorem tick_closed (closed : tickFalls h.rtc = false ∨ h.rd Reg.tickAt = h.now + 1) : h.tick = h :=
  if_neg fun isOpen =>
    have ⟨falls, untaken⟩ := tickOpen_iff.1 isOpen
    closed.elim (ne_false_of_eq_true falls) untaken

theorem recoverSupply_level (s : Nat) : (h.recoverSupply s).rd (levelKey s) =
    h.rd (levelKey s) - (h.rd (Reg.fracAcc s) + h.rd (recoveryKey s) * 1000) / 1024 :=
  (rd_wr_ne _ _ _ _ (entry_ne_register (levelKey_entry s) _ _)).trans (rd_wr_self _ _ _)

theorem recoverSupply_fraction (s : Nat) : (h.recoverSupply s).rd (Reg.fracAcc s) =
    (h.rd (Reg.fracAcc s) + h.rd (recoveryKey s) * 1000) % 1024 :=
  rd_wr_self _ _ _

/-- What the walk releases and what it leaves are each in the order of the queue. -/
theorem walkQueue_sublist (queue : List BudgetEntry) (blocked : List Nat) (h : Hub) :
    (walkQueue queue blocked h).1.Sublist queue ∧ (walkQueue queue blocked h).2.1.Sublist queue := by
  induction queue generalizing blocked h with
  | nil => exact ⟨.slnil, .slnil⟩
  | cons e rest ih =>
    unfold walkQueue
    split
    · obtain ⟨released, stays⟩ := ih blocked (h.releaseAction e)
      exact ⟨released.cons_cons e, stays.cons e⟩
    · obtain ⟨released, stays⟩ := ih (e.supply :: blocked) h
      exact ⟨released.cons e, stays.cons_cons e⟩

/-- A tick's first part: the levels have fallen, and the capacities written lower hold. -/
def levelsFallen (h : Hub) : Hub :=
  (((h.recoverSupply 0).recoverSupply 1).recoverSupply 2).clear [Reg.capHeld 0, Reg.capHeld 1, Reg.capHeld 2]

theorem levelsFallen_budget (h : Hub) : h.levelsFallen.budget = h.budget := rfl

/-- A tick's second part: the entries above the capacity of their supply have left. -/
def overWithdrawn (h : Hub) : Hub :=
  if h.overEntries.isEmpty then h
  else { h with budget := h.budget.filter (fun e => !decide (h.rd (capKey e.supply) < e.cost)) }.add Od.QUEUE_WITHDRAWN h.overEntries.length

theorem overWithdrawn_sublist (h : Hub) : h.overWithdrawn.budget.Sublist h.budget := by
  unfold overWithdrawn
  split
  · exact .refl _
  · exact List.filter_sublist

/-- The queue that a tick walks. -/
theorem walked_sublist (h : Hub) : h.levelsFallen.overWithdrawn.budget.Sublist h.budget :=
  levelsFallen_budget h ▸ overWithdrawn_sublist h.levelsFallen

/-- The tick's third part walks the queue. -/
theorem budgetTick_walks (h : Hub) : h.budgetTick = (h.levelsFallen.overEntries,
    (walkQueue h.levelsFallen.overWithdrawn.budget [] h.levelsFallen.overWithdrawn).1,
    { (walkQueue h.levelsFallen.overWithdrawn.budget [] h.levelsFallen.overWithdrawn).2.2 with
      budget := (walkQueue h.levelsFallen.overWithdrawn.budget [] h.levelsFallen.overWithdrawn).2.1 }) := rfl

theorem budgetTick_sublist (h : Hub) : h.budgetTick.2.1.Sublist h.budget ∧ h.budgetTick.2.2.budget.Sublist h.budget := by
  obtain ⟨released, stays⟩ := walkQueue_sublist h.levelsFallen.overWithdrawn.budget [] h.levelsFallen.overWithdrawn
  rw [budgetTick_walks]
  exact ⟨released.trans (walked_sublist h), stays.trans (walked_sublist h)⟩

/-! ### A request (R152 to R154, R157) -/

section
variable {s c : Nat} {k : BudgetKind} {w : Nat}

theorem askBudget_free (free : c = 0 ∨ h.rd Od.BUDGET_ENABLE = 0) :
    h.askBudget s k w c = (.released, h.releaseAction ⟨s, k, w, c, h.stamp⟩) := if_pos free

theorem askBudget_over (costs : c ≠ 0) (enabled : h.rd Od.BUDGET_ENABLE ≠ 0) (exceeds : h.capOf s < c) :
    h.askBudget s k w c = (.overCapacity, h) :=
  (if_neg (not_or.2 ⟨costs, enabled⟩)).trans (if_pos exceeds)

/-- The request has a cost that the budget counts, and the capacity of its supply could hold it. -/
abbrev mayWait (h : Hub) (s c : Nat) : Prop := c ≠ 0 ∧ h.rd Od.BUDGET_ENABLE ≠ 0 ∧ c ≤ h.capOf s

/-- The request fits, waits behind no entry, and arrives at no tick. -/
abbrev atOnce (h : Hub) (s c : Nat) : Prop := h.rd (levelKey s) + c ≤ h.capOf s ∧ h.supplyWaits s = false ∧ h.tickOpen = false

theorem atOnce_iff : (h.fits s c && !h.supplyWaits s && !h.tickOpen) = true ↔ h.atOnce s c := by
  simp [fits, and_assoc]

section
variable (counts : h.mayWait s c)
include counts

/-- A request that may wait passes the checks for no cost and for a cost above the capacity. -/
theorem askBudget_mayWait : h.askBudget s k w c =
    if h.fits s c && !h.supplyWaits s && !h.tickOpen then (.released, h.releaseAction ⟨s, k, w, c, h.stamp⟩)
    else if 64 ≤ h.budget.length then (.busy, h.inc Od.QUEUE_BUSY) else (.queued, h.enqueue ⟨s, k, w, c, h.stamp⟩) := by
  obtain ⟨costs, enabled, under⟩ := counts
  exact (if_neg (not_or.2 ⟨costs, enabled⟩)).trans (if_neg (not_lt.2 under))

theorem askBudget_atOnce (now : h.atOnce s c) : h.askBudget s k w c = (.released, h.releaseAction ⟨s, k, w, c, h.stamp⟩) :=
  (askBudget_mayWait counts).trans (if_pos (atOnce_iff.2 now))

section
variable (later : ¬ h.atOnce s c)
include later

theorem askBudget_queued (room : h.budget.length < 64) : h.askBudget s k w c = (.queued, h.enqueue ⟨s, k, w, c, h.stamp⟩) :=
  (askBudget_mayWait counts).trans ((if_neg (mt atOnce_iff.1 later)).trans (if_neg (not_le.2 room)))

theorem askBudget_busy (full : 64 ≤ h.budget.length) : h.askBudget s k w c = (.busy, h.inc Od.QUEUE_BUSY) :=
  (askBudget_mayWait counts).trans ((if_neg (mt atOnce_iff.1 later)).trans (if_pos full))

end

end

end

/-! ### A capacity written (R157) -/

section
variable {s v : Nat}

theorem capOf_unheld (unheld : h.rd (Reg.capHeld s) = 0) : h.capOf s = h.rd (capKey s) := by
  simp [capOf, unheld]

/-- The entry holds the capacity written, whether or not it is in force. -/
theorem writeCap_entry : (h.writeCap s v).rd (capKey s) = v :=
  (rd_wr_ne _ _ _ _ (entry_ne_register (capKey_entry s) _ _)).trans (rd_wr_self _ _ _)

theorem writeCap_held : (h.writeCap s v).rd (Reg.capHeld s) = if v < h.capOf s then h.capOf s + 1 else 0 := rd_wr_self _ _ _

theorem writeCap_higher (higher : h.capOf s ≤ v) : (h.writeCap s v).capOf s = v :=
  (capOf_unheld (writeCap_held.trans (if_neg (not_lt.2 higher)))).trans writeCap_entry

theorem writeCap_lower (lower : v < h.capOf s) : (h.writeCap s v).capOf s = h.capOf s := by
  have held : (h.writeCap s v).rd (Reg.capHeld s) = h.capOf s + 1 := writeCap_held.trans (if_pos lower)
  rw [capOf, writeCap_entry, held, Nat.add_sub_cancel, max_eq_right lower.le]

end

/-! ### An entry joins the queue (R154) -/

/-- Only entries of its own stamp can stand behind a new one, so with none it joins at the end. -/
theorem enqueue_last {e : BudgetEntry} (earlier : ∀ x ∈ h.budget, x.arrival ≠ e.arrival) :
    h.enqueue e = { h with budget := h.budget ++ [e] } := by
  unfold enqueue
  dsimp only
  rw [List.takeWhile_eq_self_iff.2, List.dropWhile_eq_nil_iff.2]
  all_goals
    intro x queued
    simp [earlier x queued]

end

end Sys2Proof.Machine.Hub

open Sys2Proof.Machine Sys2Proof.Machine.Hub

/-- Settles O33: the walk at a tick keeps the queue's order, and a request or a written capacity is told by what it finds. -/
theorem slateBudget : Obligations.SlateBudget := by
  unfold Obligations.SlateBudget
  dsimp only [exec, execBudgetTick]
  refine ⟨fun t s => ⟨fun falls untaken => act_eq ?_, fun closed => act_eq ?_⟩, budgetTick_sublist, fun h i => ⟨?_, ?_⟩,
    fun h i k w c => ⟨?_, ?_, ?_, ?_, ?_⟩, fun h i v => ⟨?_, ?_, fun lower => ⟨?_, ?_⟩⟩, fun h e => ?_⟩
  · exact tick_open falls untaken
  · exact tick_closed closed
  · exact recoverSupply_level i
  · exact recoverSupply_fraction i
  · exact askBudget_free
  · exact askBudget_over
  · exact askBudget_atOnce
  · exact askBudget_queued
  · exact askBudget_busy
  · exact capOf_unheld
  · exact writeCap_higher
  · exact writeCap_lower lower
  · exact writeCap_entry
  · exact enqueue_last
end

section
/-!
A link comes up, case by case (R162, R167, R168, R170 to R174, R206): the pull-up and its debounce, the reset's SE0, the offer and the grant.
-/
namespace Sys2Proof.Machine.Hub

section
variable {h : Hub} {p : Nat}

/-! ### The pull-up (R167, R168, R174) -/

/-- A port that waits for a pull-up: DISCONNECTED, its link DOWN. -/
abbrev awaitsPullup (h : Hub) (p : Nat) : Prop := h.rd (Od.PORT_STATE p) = 2 ∧ h.rd (Od.LINK_STATE p) = 0

theorem pullupSeen_deaf {d : Bool} (deaf : h.upstreamEnd p = false ∨ h.phyOn p = false) : h.pullupSeen p d = h :=
  if_pos (by simpa using deaf)

section
variable {d : Bool} (up : h.upstreamEnd p = true) (on : h.phyOn p = true)
include up on

/-- An upstream end whose PHY is on passes the first check. -/
theorem upstreamPhy_passes : ¬ ((!h.upstreamEnd p) = true ∨ (!h.phyOn p) = true) := by simp [up, on]

theorem pullupSeen_first (first : (h.wr (Reg.pullSeen p) (if d then 2 else 1)).awaitsPullup p) :
    h.pullupSeen p d = ((h.wr (Reg.pullSeen p) (if d then 2 else 1)).linkTo p 1).arm (Tm.connect p) (ms 95) :=
  (if_neg (upstreamPhy_passes up on)).trans (if_pos first)

theorem pullupSeen_later (later : ¬ (h.wr (Reg.pullSeen p) (if d then 2 else 1)).awaitsPullup p) :
    h.pullupSeen p d = h.wr (Reg.pullSeen p) (if d then 2 else 1) :=
  (if_neg (upstreamPhy_passes up on)).trans (if_neg later)

end

theorem pullupGone_early (early : h.rd (Od.LINK_STATE p) ≤ 1) (up : h.upstreamEnd p = true) :
    h.pullupGone p = (h.linkTo p 0).clear [Reg.pullSeen p, Tm.connect p] := if_pos ⟨early, up⟩

theorem pullupGone_other (other : 1 < h.rd (Od.LINK_STATE p) ∨ h.upstreamEnd p = false) : h.pullupGone p = h :=
  if_neg fun ⟨early, up⟩ => other.elim (Nat.not_lt.2 early) (by simp [up])

/-- The debounce has led to a link that may be reset: the port DISCONNECTED, its link CONNECTING, its PHY on. -/
abbrev readyToReset (h : Hub) (p : Nat) : Prop := h.rd (Od.PORT_STATE p) = 2 ∧ h.rd (Od.LINK_STATE p) = 1 ∧ h.phyOn p = true

theorem connected_ready (due : h.due (Tm.connect p) = true) (ready : (h.wr (Tm.connect p) 0).readyToReset p) :
    h.connected p = (h.wr (Tm.connect p) 0).enterResetting p := (expire_due h _ _ due).trans (if_pos ready)

theorem connected_other (due : h.due (Tm.connect p) = true) (other : ¬ (h.wr (Tm.connect p) 0).readyToReset p) :
    h.connected p = h.wr (Tm.connect p) 0 := (expire_due h _ _ due).trans (if_neg other)

theorem connected_early (early : h.due (Tm.connect p) = false) : h.connected p = h := expire_not_due h _ _ early

/-! ### The offer window (R170, R171) -/

theorem offerWindow_reset (due : h.due (Tm.se0 p) = true) (reset : (h.wr (Tm.se0 p) 0).rd (Od.LINK_STATE p) = 2) :
    h.offerWindow p = (h.wr (Tm.se0 p) 0).arm (Tm.offer p) (ms 2) := (expire_due h _ _ due).trans (if_pos reset)

theorem offerWindow_other (due : h.due (Tm.se0 p) = true) (other : (h.wr (Tm.se0 p) 0).rd (Od.LINK_STATE p) ≠ 2) :
    h.offerWindow p = h.wr (Tm.se0 p) 0 := (expire_due h _ _ due).trans (if_neg other)

theorem offerWindow_early (early : h.due (Tm.se0 p) = false) : h.offerWindow p = h := expire_not_due h _ _ early

theorem offerWindowEnd_reset (due : h.due (Tm.offer p) = true) (reset : (h.wr (Tm.offer p) 0).rd (Od.LINK_STATE p) = 2) :
    h.offerWindowEnd p = ((h.wr (Tm.offer p) 0).wr (Reg.grant p) ((h.wr (Tm.offer p) 0).pullClass p)).arm (Tm.active p) 0 :=
  (expire_due h _ _ due).trans (if_pos reset)

theorem offerWindowEnd_other (due : h.due (Tm.offer p) = true) (other : (h.wr (Tm.offer p) 0).rd (Od.LINK_STATE p) ≠ 2) :
    h.offerWindowEnd p = h.wr (Tm.offer p) 0 := (expire_due h _ _ due).trans (if_neg other)

theorem offerWindowEnd_early (early : h.due (Tm.offer p) = false) : h.offerWindowEnd p = h := expire_not_due h _ _ early

/-! ### The offer and its grant (R170 to R172) -/

/-- The pull-up of FS, and no training that failed before: the lower of the two classes is granted. -/
theorem grantFor_lower {o : Nat} (fs : h.rd (Reg.pullSeen p) ≠ 2) (uncapped : h.rd (Reg.trainCap p) ≠ 1)
    (fast : 3 ≤ min o (h.rd (Od.CLASS_MAX p))) : h.grantFor p o = min o (h.rd (Od.CLASS_MAX p)) := by
  rw [grantFor, if_neg uncapped]
  exact if_neg (not_or.2 ⟨fs, Nat.not_lt.2 fast⟩)

/-- The offer window closes on a grant, which goes out. -/
def granted (p c : Nat) (h : Hub) : Hub := ((h.stop (Tm.offer p)).wr (Reg.grant p) c).emit (.grant p c)

section
variable {o : Nat}

theorem offerEnd_none (closed : h.running (Tm.offer p) = false ∨ h.rd (Od.LINK_STATE p) ≠ 2 ∨ h.grantFor p o = 0) : h.offerEnd p o = h :=
  if_pos (by simpa using closed)

section
variable (open_ : h.running (Tm.offer p) = true) (reset : h.rd (Od.LINK_STATE p) = 2)
include open_ reset

/-- An offer within the window of a link in RESET that has a class to be granted. -/
theorem offerEnd_granted (class_ : h.grantFor p o ≠ 0) : h.offerEnd p o =
    if h.grantFor p o = 4 then (((h.granted p (h.grantFor p o)).linkTo p 3).emit (.train p 1)).arm (Tm.train p) (us 11000)
    else (h.granted p (h.grantFor p o)).arm (Tm.active p) (us 1640) :=
  if_neg (by simp [open_, reset, class_])

theorem offerEnd_hs (hs : h.grantFor p o = 3) : h.offerEnd p o = (h.granted p 3).arm (Tm.active p) (us 1640) := by
  rw [offerEnd_granted open_ reset (by omega), hs, if_neg (by decide)]

theorem offerEnd_ts (ts : h.grantFor p o = 4) :
    h.offerEnd p o = (((h.granted p 4).linkTo p 3).emit (.train p 1)).arm (Tm.train p) (us 11000) := by
  rw [offerEnd_granted open_ reset (by omega), ts, if_pos rfl]

end
end

/-! ### The sink of a link in RESET (R162, R170 to R172) -/

/-- The hub is the sink of a link in RESET. -/
abbrev sinkInReset (h : Hub) (p : Nat) : Prop := h.downstreamEnd p = true ∧ h.rd (Od.LINK_STATE p) = 2

section
variable (sink : h.sinkInReset p)
include sink

theorem sinkInReset_passes : ¬ ((!h.downstreamEnd p) = true ∨ h.rd (Od.LINK_STATE p) ≠ 2) := by
  obtain ⟨down, reset⟩ := sink
  simp [down, reset]

theorem grantSeen_hs : h.grantSeen p 6 = (h.setPull p 0).activeAt p 3 :=
  (if_neg (sinkInReset_passes sink)).trans (if_pos rfl)

theorem grantSeen_ts :
    h.grantSeen p 10 = ((((h.setPull p 0).wr (Reg.grant p) 4).linkTo p 3).emit (.train p 1)).arm (Tm.train p) (ms 11) :=
  (if_neg (sinkInReset_passes sink)).trans ((if_neg (by decide)).trans (if_pos rfl))

end

theorem grantSeen_none {n : Nat} (none : ¬ h.sinkInReset p ∨ (n ≠ 6 ∧ n ≠ 10)) : h.grantSeen p n = h := by
  by_cases sink : h.sinkInReset p
  · obtain ⟨six, ten⟩ := none.resolve_left (not_not_intro sink)
    rw [grantSeen, if_neg (sinkInReset_passes sink), if_neg six, if_neg ten]
  · exact if_pos (by simpa [or_iff_not_imp_left] using sink)

/-- The sink may offer HS or TS: a trunk that is no fabric port, and whose CLASS_MAX allows it. -/
abbrev mayOffer (h : Hub) (p : Nat) : Prop := h.sinkInReset p ∧ 3 ≤ h.rd (Od.CLASS_MAX p) ∧ 16 ≤ p ∧ h.fabricPort p = false

theorem makeOffer_iff : (h.downstreamEnd p && h.rd (Od.LINK_STATE p) == 2 && decide (3 ≤ h.rd (Od.CLASS_MAX p)) && decide (16 ≤ p)
    && !h.fabricPort p) = true ↔ h.mayOffer p := by
  simp [and_assoc]

theorem makeOffer_offers (offers : h.mayOffer p) : h.makeOffer p = h.emit (.offer p (h.rd (Od.CLASS_MAX p))) :=
  if_pos (makeOffer_iff.2 offers)

theorem makeOffer_not (silent : ¬ h.mayOffer p) : h.makeOffer p = h := if_neg (mt makeOffer_iff.1 silent)

end

end Sys2Proof.Machine.Hub

open Sys2Proof.Machine Sys2Proof.Machine.Hub

/-- Settles O37: each clause is one step on a link's way up, or its condition that does not hold. -/
theorem linkComesUp : Obligations.LinkComesUp := by
  unfold Obligations.LinkComesUp
  dsimp only [exec, execPullupDetected, execPullupLost, execConnectDebounceDone, execResetSe0End, execOfferEnd, execOfferWindowEnd,
    execGrantReceived, execSe0Ended]
  intro t s p ts d
  refine ⟨fun up on first => act_eq ?_, fun up on later => act_eq ?_, fun deaf => act_eq ?_, fun early up => act_eq ?_, fun other => act_eq ?_,
    fun due ready => act_eq ?_, fun due other => act_eq ?_, fun early => act_eq ?_, fun due reset => act_eq ?_, fun due other => act_eq ?_,
    fun early => act_eq ?_, fun open_ reset hs => act_eq ?_, fun open_ reset trunk => act_eq ?_, fun closed => act_eq ?_,
    fun h o => grantFor_lower, fun due reset => act_eq ?_, fun due other => act_eq ?_, fun early => act_eq ?_, fun sink => act_eq ?_,
    fun sink => act_eq ?_, fun n none => act_eq ?_, fun offers => act_eq ?_, fun silent => act_eq ?_⟩
  · exact pullupSeen_first up on first
  · exact pullupSeen_later up on later
  · exact pullupSeen_deaf deaf
  · exact pullupGone_early early up
  · exact pullupGone_other other
  · exact connected_ready due ready
  · exact connected_other due other
  · exact connected_early early
  · exact offerWindow_reset due reset
  · exact offerWindow_other due other
  · exact offerWindow_early early
  · exact offerEnd_hs open_ reset hs
  · exact offerEnd_ts open_ reset trunk
  · exact offerEnd_none closed
  · exact offerWindowEnd_reset due reset
  · exact offerWindowEnd_other due other
  · exact offerWindowEnd_early early
  · exact grantSeen_hs sink
  · exact grantSeen_ts sink
  · exact grantSeen_none none
  · exact makeOffer_offers offers
  · exact makeOffer_not silent
end

section
/-!
A reset seen by the hub as the sink of a link (R169, R173, R243).
-/
namespace Sys2Proof.Machine.Hub

/-- What a reset does to the link whose sink the hub is. -/
def linkReset (p : Nat) (h : Hub) : Hub :=
  ((((h.linkTo p 2).inc (Od.RESETS p)).restorePull p).clear
    [Reg.grant p, Tm.train p, Tm.noSymbol p, Reg.retrain p, Reg.inEp p]).downstreamReset p

section
variable {h : Hub} {p : Nat}

theorem resetSeen_upstreamEnd (up : h.downstreamEnd p = false) : h.resetSeen p = h := if_pos (by simp [up])

section
variable (down : h.downstreamEnd p = true)
include down

/-- Of the control upstream, the reset takes effect on the ports first. -/
theorem resetSeen_downstreamEnd :
    h.resetSeen p = (if h.rd Od.CONTROL_UPSTREAM = p then h.upstreamResetOnce else h).linkReset p :=
  if_neg (by simp [down])

theorem resetSeen_control (control : h.rd Od.CONTROL_UPSTREAM = p) : h.resetSeen p = h.upstreamResetOnce.linkReset p :=
  (resetSeen_downstreamEnd down).trans (by rw [if_pos control])

theorem resetSeen_other (other : h.rd Od.CONTROL_UPSTREAM ≠ p) : h.resetSeen p = h.linkReset p :=
  (resetSeen_downstreamEnd down).trans (by rw [if_neg other])

end

/-- A RESET frame resets a TS link alone, and only at its sink. -/
theorem resetFrame_ignored (ignored : h.rd (Od.LINK_CLASS p) ≠ 4 ∨ h.downstreamEnd p = false) :
    (if h.rd (Od.LINK_CLASS p) = 4 then h.resetSeen p else h) = h :=
  ite_eq_right_iff.2 fun ts => resetSeen_upstreamEnd (ignored.resolve_left (not_not_intro ts))

theorem restorePull_unapplied (unapplied : h.rd (Reg.pullApplied p) ≠ 1) : h.restorePull p = h := if_neg unapplied

end

end Sys2Proof.Machine.Hub

open Sys2Proof.Machine Sys2Proof.Machine.Hub

/-- Settles O39: each clause is a reset of the control upstream, of another link, or of none whose sink the hub is. -/
theorem resetSeen : Obligations.ResetSeen := by
  unfold Obligations.ResetSeen
  dsimp only [exec, execLinkResetSeen, execLinkResetFrame]
  intro t s p u
  refine ⟨fun down other => act_eq ?_, fun down control => act_eq ?_, fun up => act_eq ?_, fun ts down other => act_eq ?_,
    fun ts down control => act_eq ?_, fun ignored => act_eq ?_, fun h => restorePull_unapplied⟩
  · exact resetSeen_other down other
  · exact resetSeen_control down control
  · exact resetSeen_upstreamEnd up
  · exact (if_pos ts).trans (resetSeen_other down other)
  · exact (if_pos ts).trans (resetSeen_control down control)
  · exact resetFrame_ignored ignored
end

section
/-!
SOF at both ends of a link (R175 to R180, R208, R209, R238, R240, R268, R271).
-/
namespace Sys2Proof.Machine.Hub

section
variable {h : Hub} {p : Nat}

/-! ### A boundary at the upstream end (R175, R238, R271) -/

theorem sofTime_had {hs : Bool} (had : h.rd (Reg.lastSof p) = h.gridTime / 125000 + 1) : h.sofTime p hs = false := by
  simp [sofTime, had]

theorem sofTime_off {hs : Bool} (off : h.isOn 5 = false) : h.sofTime p hs = false := by simp [sofTime, off]

/-- The link runs at HS, or opens at HS with its next SOF. -/
abbrev sofAtHs (h : Hub) (p : Nat) : Bool := h.rd (Od.LINK_CLASS p) == 3 || (h.rd (Od.LINK_STATE p) == 2 && h.rd (Reg.grant p) == 3)

/-- A running port at a SOF time of its own. -/
abbrev sofSends (h : Hub) (p : Nat) : Prop :=
  h.upstreamEnd p = true ∧ h.phyOn p = true ∧ (h.rd (Od.PORT_STATE p) = 4 ∨ h.rd (Od.PORT_STATE p) = 5 ∨ h.rd (Od.PORT_STATE p) = 7) ∧
    h.sofTime p (h.sofAtHs p) = true

/-- The SOF time is taken, and a link that opens at it is ACTIVE. -/
def sofTaken (p : Nat) (h : Hub) : Hub := (h.wr (Reg.lastSof p) (h.gridTime / 125000 + 1)).sofOpens p

/-- A port to be suspended whose wire and slots are idle. -/
abbrev sofStops (h x : Hub) (p : Nat) : Prop :=
  h.rd (Od.PORT_STATE p) = 5 ∧ x.rd (Reg.suspendDue p) ≠ 0 ∧ x.onWire p = none ∧ x.slotsBusy p = false

/-- The first check of a boundary fails exactly on a port that sends. -/
theorem sofSends_iff : h.sofSends p ↔ ¬ ((!h.upstreamEnd p) = true ∨ (!h.phyOn p) = true ∨
    (h.rd (Od.PORT_STATE p) ≠ 4 ∧ h.rd (Od.PORT_STATE p) ≠ 5 ∧ h.rd (Od.PORT_STATE p) ≠ 7) ∨ (!h.sofTime p (h.sofAtHs p)) = true) := by
  have states : (h.rd (Od.PORT_STATE p) = 4 ∨ h.rd (Od.PORT_STATE p) = 5 ∨ h.rd (Od.PORT_STATE p) = 7) ↔
      ¬ (h.rd (Od.PORT_STATE p) ≠ 4 ∧ h.rd (Od.PORT_STATE p) ≠ 5 ∧ h.rd (Od.PORT_STATE p) ≠ 7) := by omega
  rw [sofSends, states]
  simp only [not_or, Bool.not_eq_true', Bool.not_eq_false]

theorem sofBoundary_silent (silent : ¬ h.sofSends p) : h.sofBoundary p = h := if_pos (not_not.1 (mt sofSends_iff.2 silent))

section
variable (sends : h.sofSends p)
include sends

theorem sofBoundary_taken : h.sofBoundary p =
    if (h.sofTaken p).rd (Od.LINK_STATE p) ≠ 4 then h.sofTaken p
    else if h.rd (Od.PORT_STATE p) = 5 ∧ (h.sofTaken p).rd (Reg.suspendDue p) ≠ 0 ∧ ((h.sofTaken p).onWire p).isNone = true ∧
        (h.sofTaken p).slotsBusy p = false then
      (h.sofTaken p).enterSuspended p ((h.sofTaken p).rd (Reg.suspendDue p))
    else (((h.sofTaken p).sendSof p).sofEnables p).afterSof p :=
  if_neg (sofSends_iff.1 sends)

theorem sofBoundary_inactive (inactive : (h.sofTaken p).rd (Od.LINK_STATE p) ≠ 4) : h.sofBoundary p = h.sofTaken p :=
  (sofBoundary_taken sends).trans (if_pos inactive)

section
variable (active : (h.sofTaken p).rd (Od.LINK_STATE p) = 4)
include active

theorem sofBoundary_stops (stops : h.sofStops (h.sofTaken p) p) :
    h.sofBoundary p = (h.sofTaken p).enterSuspended p ((h.sofTaken p).rd (Reg.suspendDue p)) :=
  (sofBoundary_taken sends).trans ((if_neg (not_not_intro active)).trans (if_pos (by rwa [Option.isNone_iff_eq_none])))

theorem sofBoundary_runs (runs : ¬ h.sofStops (h.sofTaken p) p) :
    h.sofBoundary p = (((h.sofTaken p).sendSof p).sofEnables p).afterSof p :=
  (sofBoundary_taken sends).trans ((if_neg (not_not_intro active)).trans (if_neg (by rwa [Option.isNone_iff_eq_none])))

end
end

/-! ### SOF at the sink (R180, R209, R240, R268) -/

/-- The sink of a link in RESET, ACTIVE or RESUMING, its PHY on. -/
abbrev hearsSof (h : Hub) (p : Nat) : Prop :=
  h.downstreamEnd p = true ∧ h.phyOn p = true ∧ (h.rd (Od.LINK_STATE p) = 2 ∨ h.rd (Od.LINK_STATE p) = 4 ∨ h.rd (Od.LINK_STATE p) = 6)

/-- The first check of a SOF fails exactly at a sink that hears it. -/
theorem hearsSof_iff : h.hearsSof p ↔ ¬ ((!h.downstreamEnd p) = true ∨ (!h.phyOn p) = true ∨
    (h.rd (Od.LINK_STATE p) ≠ 2 ∧ h.rd (Od.LINK_STATE p) ≠ 4 ∧ h.rd (Od.LINK_STATE p) ≠ 6)) := by
  have states : (h.rd (Od.LINK_STATE p) = 2 ∨ h.rd (Od.LINK_STATE p) = 4 ∨ h.rd (Od.LINK_STATE p) = 6) ↔
      ¬ (h.rd (Od.LINK_STATE p) ≠ 2 ∧ h.rd (Od.LINK_STATE p) ≠ 4 ∧ h.rd (Od.LINK_STATE p) ≠ 6) := by omega
  rw [hearsSof, states]
  simp only [not_or, Bool.not_eq_true', Bool.not_eq_false]

/-- A valid SOF counts, opens a link in RESET at its pull-up's class, and one that resumes. -/
def sofHeard (p : Nat) (h : Hub) : Hub :=
  if h.rd (Od.LINK_STATE p) = 2 then (h.heardPackets p 1).activeAt p (if (h.heardPackets p 1).rd (Od.CLASS_MAX p) = 1 then 1 else 2)
  else if h.rd (Od.LINK_STATE p) = 6 then
    (if (h.heardPackets p 1).rd (Od.LINK_CLASS p) = 3 then (h.heardPackets p 1).setPull p 0 else h.heardPackets p 1).linkTo p 4
  else h.heardPackets p 1

section
variable {body : Nat} {f : LineFault}

theorem sofReceived_deaf (deaf : ¬ h.hearsSof p) : h.sofReceived p body f = h := if_pos (not_not.1 (mt hearsSof_iff.2 deaf))

section
variable (hears : h.hearsSof p)
include hears

theorem sofReceived_faulty (faulty : f ≠ .good) : h.sofReceived p body f = h.countFault p f :=
  (if_neg (hearsSof_iff.1 hears)).trans (if_pos faulty)

theorem sofReceived_good : h.sofReceived p body .good =
    if hasBit body 15 then
      (h.sofHeard p).timeMessage p (bits body 79 16) (if bits body 95 80 = 0xFFFF then none else some (bits body 95 80 * 8)) (h.sofHeard p).timebase
    else h.sofHeard p :=
  (if_neg (hearsSof_iff.1 hears)).trans (if_neg (not_not_intro rfl))

theorem sofReceived_short (short : hasBit body 15 = false) : h.sofReceived p body .good = h.sofHeard p :=
  (sofReceived_good hears).trans (if_neg (by simp [short]))

section
variable (extended : hasBit body 15 = true)
include extended

theorem sofReceived_undelayed (unknown : bits body 95 80 = 0xFFFF) :
    h.sofReceived p body .good = (h.sofHeard p).timeMessage p (bits body 79 16) none (h.sofHeard p).timebase := by
  rw [sofReceived_good hears, if_pos extended, if_pos unknown]

theorem sofReceived_delayed (known : bits body 95 80 ≠ 0xFFFF) : h.sofReceived p body .good =
    (h.sofHeard p).timeMessage p (bits body 79 16) (some (bits body 95 80 * 8)) (h.sofHeard p).timebase := by
  rw [sofReceived_good hears, if_pos extended, if_neg known]

end
end
end
end

end Sys2Proof.Machine.Hub

open Sys2Proof.Machine Sys2Proof.Machine.Hub

/-- Settles O40: each clause is one case of a boundary at the upstream end, or of a SOF at the sink. -/
theorem timingGrid : Obligations.TimingGrid := by
  unfold Obligations.TimingGrid
  dsimp only [exec, execSofBoundary, execSofReceived]
  intro t s p body f
  refine ⟨fun sends active runs => act_eq ?_, fun sends active stops => act_eq ?_, fun sends inactive => act_eq ?_, fun silent => act_eq ?_,
    fun h => sofTime_had, fun h => sofTime_off, fun hears faulty => act_eq ?_, fun hears short => act_eq ?_,
    fun hears extended unknown => act_eq ?_, fun hears extended known => act_eq ?_, fun deaf => act_eq ?_⟩
  · exact sofBoundary_runs sends active runs
  · exact sofBoundary_stops sends active stops
  · exact sofBoundary_inactive sends inactive
  · exact sofBoundary_silent silent
  · exact sofReceived_faulty hears faulty
  · exact sofReceived_short hears short
  · exact sofReceived_undelayed hears extended unknown
  · exact sofReceived_delayed hears extended known
  · exact sofReceived_deaf deaf
end

section
/-!
Suspend, resume and wake of a link, case by case (R208 to R212, R239, R241, R242, R334).
-/
namespace Sys2Proof.Machine.Hub

section
variable {h : Hub} {p : Nat}

/-! ### Suspend (R208, R211) -/

/-- The sink of an ACTIVE packet link that has heard nothing for tSuspend. -/
abbrev linkSilent (h : Hub) (p : Nat) : Prop := h.answersOn p = true ∧ h.rd (Reg.heardAt p) + us 2900 ≤ h.now + 1

/-- The line of a silent link rests: HS signalling is over, and the pull-up is back. -/
def linkRested (p : Nat) (h : Hub) : Hub := if h.rd (Od.LINK_CLASS p) = 3 then h.restorePull p else h

theorem suspendDetected_heard {se0 : Bool} (heard : ¬ h.linkSilent p) : h.suspendDetected p se0 = h := by
  refine if_pos ?_
  by_cases answers : h.answersOn p = true
  · exact .inr (not_le.1 fun late => heard ⟨answers, late⟩)
  · exact .inl (by simpa using answers)

section
variable (silent : h.linkSilent p)
include silent

/-- A silent link passes the first check. -/
theorem linkSilent_passes : ¬ ((!h.answersOn p) = true ∨ h.now + 1 < h.rd (Reg.heardAt p) + us 2900) := by
  obtain ⟨answers, late⟩ := silent
  simp [answers, late]

theorem suspendDetected_j : h.suspendDetected p false = (h.linkRested p).suspendedDown p :=
  (if_neg (linkSilent_passes silent)).trans (if_neg Bool.false_ne_true)

theorem suspendDetected_se0 : h.suspendDetected p true = (h.linkRested p).resetSeen p :=
  (if_neg (linkSilent_passes silent)).trans (if_pos rfl)

end

theorem suspendFrame_sink (trunk : h.trunkActive p = true) (down : h.downstreamEnd p = true) :
    h.suspendFrame p = (h.sendLink p 6 0).suspendedDown p := if_pos (by simp [trunk, down])

theorem suspendFrame_other (other : h.trunkActive p = false ∨ h.downstreamEnd p = false) : h.suspendFrame p = h :=
  if_neg (by rcases other with off | off <;> simp [off])

/-! ### Resume (R209, R211) -/

theorem resumeDetected_other (other : h.downstreamEnd p = false ∨ h.rd (Od.LINK_STATE p) ≠ 5) : h.resumeDetected p = h :=
  if_pos (by simpa using other)

section
variable (down : h.downstreamEnd p = true) (suspended : h.rd (Od.LINK_STATE p) = 5)
include down suspended

/-- The sink of a SUSPENDED link passes the first check. -/
theorem suspendedSink_passes : ¬ ((!h.downstreamEnd p) = true ∨ h.rd (Od.LINK_STATE p) ≠ 5) := by simp [down, suspended]

theorem resumeDetected_packets (packets : (h.linkTo p 6).rd (Od.LINK_CLASS p) ≠ 4) : h.resumeDetected p = h.linkTo p 6 :=
  (if_neg (suspendedSink_passes down suspended)).trans (if_neg packets)

theorem resumeDetected_ts (ts : (h.linkTo p 6).rd (Od.LINK_CLASS p) = 4) :
    h.resumeDetected p = (((h.linkTo p 6).wr (Reg.retrain p) 1).emit (.train p 1)).arm (Tm.train p) (ms 11) :=
  (if_neg (suspendedSink_passes down suspended)).trans (if_pos ts)

end

theorem resumeEnd_resuming (due : h.due (Tm.resumeK p) = true) (resuming : (h.wr (Tm.resumeK p) 0).rd (Od.LINK_STATE p) = 6) :
    h.resumeEnd p = ((h.wr (Tm.resumeK p) 0).emit (.resumeEop p)).arm (Tm.firstSof p) (us 500) :=
  (expire_due h _ _ due).trans (if_pos resuming)

theorem resumeEnd_other (due : h.due (Tm.resumeK p) = true) (other : (h.wr (Tm.resumeK p) 0).rd (Od.LINK_STATE p) ≠ 6) :
    h.resumeEnd p = h.wr (Tm.resumeK p) 0 := (expire_due h _ _ due).trans (if_neg other)

theorem resumeEnd_early (early : h.due (Tm.resumeK p) = false) : h.resumeEnd p = h := expire_not_due h _ _ early

/-! ### Wake (R210, R241, R242) -/

/-- A SUSPENDED port that enables its wake. -/
abbrev takesWake (h : Hub) (p : Nat) : Prop := h.rd (Od.PORT_STATE p) = 6 ∧ h.rd (Od.WAKE_ENABLE p) = 1

section
variable {onset : Nat} {present : Bool}

theorem wakeSeen_sink (sink : h.upstreamEnd p = false) : h.wakeSeen p onset present = h := if_pos (by simp [sink])

section
variable (up : h.upstreamEnd p = true)
include up

/-- A wake at the upstream end is counted, and the port's state decides on it. -/
theorem wakeSeen_counted : h.wakeSeen p onset present =
    if (h.inc (Od.WAKES_RX p)).takesWake p then
      ((h.inc (Od.WAKES_RX p)).wr (Reg.wakeOnset p) (onset + 1)).wr (Reg.wakePresent p) (if present then 1 else 0)
    else if (h.inc (Od.WAKES_RX p)).rd (Od.PORT_STATE p) = 7 then h.inc (Od.WAKES_RX p)
    else (h.inc (Od.WAKES_RX p)).inc (Od.WAKES_IGNORED p) :=
  if_neg (by simp [up])

theorem wakeSeen_taken (takes : (h.inc (Od.WAKES_RX p)).takesWake p) : h.wakeSeen p onset present =
    ((h.inc (Od.WAKES_RX p)).wr (Reg.wakeOnset p) (onset + 1)).wr (Reg.wakePresent p) (if present then 1 else 0) :=
  (wakeSeen_counted up).trans (if_pos takes)

theorem wakeSeen_ignored (refuses : ¬ (h.inc (Od.WAKES_RX p)).takesWake p) (other : (h.inc (Od.WAKES_RX p)).rd (Od.PORT_STATE p) ≠ 7) :
    h.wakeSeen p onset present = (h.inc (Od.WAKES_RX p)).inc (Od.WAKES_IGNORED p) := by
  rw [wakeSeen_counted up, if_neg refuses, if_neg other]

theorem wakeSeen_resuming (resuming : (h.inc (Od.WAKES_RX p)).rd (Od.PORT_STATE p) = 7) :
    h.wakeSeen p onset present = h.inc (Od.WAKES_RX p) := by
  rw [wakeSeen_counted up, if_neg (by simp [resuming]), if_pos resuming]

end
end
end

end Sys2Proof.Machine.Hub

open Sys2Proof.Machine Sys2Proof.Machine.Hub

/-- Settles O45: each clause is one case of a suspend, of a resume or of a wake. -/
theorem suspendAndResume : Obligations.SuspendAndResume := by
  unfold Obligations.SuspendAndResume
  dsimp only [exec, execSuspendDetected, execLinkSuspend, execResumeDetected, execResumeKEnd, execWakeDetected]
  intro t s p u o b
  refine ⟨fun silent => act_eq ?_, fun silent => act_eq ?_, fun heard => act_eq ?_, fun trunk down => act_eq ?_, fun other => act_eq ?_,
    fun down suspended packets => act_eq ?_, fun down suspended ts => act_eq ?_, fun other => act_eq ?_, fun due resuming => act_eq ?_,
    fun due other => act_eq ?_, fun early => act_eq ?_, fun up takes => act_eq ?_, fun up refuses other => act_eq ?_,
    fun up resuming => act_eq ?_, fun sink => act_eq ?_⟩
  · exact suspendDetected_j silent
  · exact suspendDetected_se0 silent
  · exact suspendDetected_heard heard
  · exact suspendFrame_sink trunk down
  · exact suspendFrame_other other
  · exact resumeDetected_packets down suspended packets
  · exact resumeDetected_ts down suspended ts
  · exact resumeDetected_other other
  · exact resumeEnd_resuming due resuming
  · exact resumeEnd_other due other
  · exact resumeEnd_early early
  · exact wakeSeen_taken up takes
  · exact wakeSeen_ignored up refuses other
  · exact wakeSeen_resuming up resuming
  · exact wakeSeen_sink sink
end

section
/-!
The standard requests at the hub as the sink of an ACTIVE packet link, and CONTROL frames (R194, R197, R205, R224, R225, R284).
-/
namespace Sys2Proof.Machine

section
variable {t : Stamp} {s : State} {p : Cable} {i : BitVec 16} {k : Nat}

/-! ### GET_STATUS, SET_ADDRESS and IDENTIFY (R194, R225) -/

theorem execGetStatus_silent (silent : (s.arrive t).answersOn p = false) : execGetStatus t p i s = .next (s.settled (s.arrive t)) :=
  act_eq (if_pos (by simp [silent]))

theorem execSetAddress_silent (silent : (s.arrive t).answersOn p = false) : execSetAddress t p i s = .next (s.settled (s.arrive t)) :=
  act_eq (if_pos (by simp [silent]))

theorem execIdentify_silent (silent : (s.arrive t).answersOn p = false) : execIdentify t p s = .next (s.settled (s.arrive t)) :=
  act_eq (if_neg (by simp [silent]))

theorem execClearHalt_silent (silent : (s.arrive t).answersOn p = false) : execClearHalt t p i s = .next (s.settled (s.arrive t)) :=
  act_eq (if_pos (by simp [silent]))

section
variable (answers : (s.arrive t).answersOn p = true)
include answers

/-- The sink of an ACTIVE packet link passes the first check of a standard request. -/
theorem answersOn_passes : ¬ (!(s.arrive t).answersOn p) = true := by simp [answers]

theorem execGetStatus_known (known : Hub.haltKey i.toNat = some k) :
    execGetStatus t p i s = .next (s.settled ((s.arrive t).emit (.controlData p 4 ((s.arrive t).statusOf k)))) :=
  act_eq ((if_neg (answersOn_passes answers)).trans (by rw [known]))

theorem execGetStatus_unknown (unknown : Hub.haltKey i.toNat = none) :
    execGetStatus t p i s = .next (s.settled ((s.arrive t).sendStall p)) :=
  act_eq ((if_neg (answersOn_passes answers)).trans (by rw [unknown]))

theorem execSetAddress_taken (least : 1 ≤ i.toNat) (most : i.toNat ≤ 254) :
    execSetAddress t p i s = .next (s.settled (((s.arrive t).takeAddress p i.toNat).emit (.controlData p 0 0))) :=
  act_eq ((if_neg (answersOn_passes answers)).trans (if_pos ⟨least, most⟩))

theorem execSetAddress_reserved (reserved : i.toNat = 0 ∨ 254 < i.toNat) :
    execSetAddress t p i s = .next (s.settled ((s.arrive t).sendStall p)) :=
  act_eq ((if_neg (answersOn_passes answers)).trans (if_neg (by omega)))

theorem execIdentify_answers :
    execIdentify t p s = .next (s.settled ((s.arrive t).emit (.controlData p 32 (s.arrive t).identifyRecord))) :=
  act_eq (if_pos answers)

/-! ### CLEAR_HALT (R197) -/

theorem execClearHalt_stalled {x : Hub} (stalled : (s.arrive t).clearHalt p i.toNat = (true, x)) :
    execClearHalt t p i s = .next (s.settled (x.sendStall p)) :=
  act_eq ((if_neg (answersOn_passes answers)).trans (by rw [stalled]; exact if_pos rfl))

theorem execClearHalt_cleared {x : Hub} (cleared : (s.arrive t).clearHalt p i.toNat = (false, x)) :
    execClearHalt t p i s = .next (s.settled (x.emit (.controlData p 0 0))) :=
  act_eq ((if_neg (answersOn_passes answers)).trans (by rw [cleared]; exact if_neg Bool.false_ne_true))

end
end

namespace Hub

section
variable {h : Hub} {p i k : Nat}

theorem clearHalt_stalled (present : haltKey i = none ∨ h.haltCause i ≠ 0) : h.clearHalt p i = (true, h) := by
  unfold clearHalt
  cases key : haltKey i with
  | none => rfl
  | some k => exact if_pos (present.resolve_left (by simp [key]))

section
variable (known : haltKey i = some k) (ended : h.haltCause i = 0)
include known ended

/-- A halt whose cause has ended is cleared, with the sequence of its endpoint. -/
theorem clearHalt_cleared : h.clearHalt p i = (false,
    if p = 18 ∨ i % 16 = 0 then h.wr k 0
    else if hasBit i 7 then (h.wr k 0).wr (Reg.mySend p (i % 16)) 0 else (h.wr k 0).wr (Reg.myE p (i % 16)) 0) := by
  rw [clearHalt, known]
  exact if_neg (not_not_intro ended)

theorem clearHalt_control (control : i % 16 = 0) : h.clearHalt p i = (false, h.wr k 0) := by
  rw [clearHalt_cleared known ended, if_pos (.inr control)]

section
variable (link : p ≠ 18) (data : i % 16 ≠ 0)
include link data

theorem clearHalt_in (in_ : hasBit i 7 = true) : h.clearHalt p i = (false, (h.wr k 0).wr (Reg.mySend p (i % 16)) 0) := by
  rw [clearHalt_cleared known ended, if_neg (not_or.2 ⟨link, data⟩), if_pos in_]

theorem clearHalt_out (out : hasBit i 7 = false) : h.clearHalt p i = (false, (h.wr k 0).wr (Reg.myE p (i % 16)) 0) := by
  rw [clearHalt_cleared known ended, if_neg (not_or.2 ⟨link, data⟩), if_neg (by simp [out])]

end
end
end

/-! ### A CONTROL REQUEST (R205, R284) -/

/-- A REQUEST is kept as one being served, by its link, SRC and TAG. -/
def requestKept (port src tag r : Nat) (h : Hub) : Hub := { h with stored := ⟨src, port, tag, 2, 0, 0, keyEntry r⟩ :: h.stored }

/-- The RESPONSE belongs to the REQUEST of that link, SRC and TAG. -/
def answersRequest (port src tag : Nat) (z : StoredResponse) : Bool := z.port == port && z.src == src && z.tag == tag

/-- A payload that is no request: no setup record, one of a reserved kind, one of too long a transfer, or OUT data of another length. -/
abbrev badRequest (len r : Nat) : Prop := len < 8 ∨ 2 ≤ suKind r ∨ 1016 < suLen r ∨ len - 8 ≠ if suIn r then 0 else suLen r

section
variable {h : Hub} {port src tag len data : Nat} {busy good : Bool}

theorem controlRequest_answered {r : StoredResponse} (stored : h.storedOf port src tag = some r) (answered : r.result ≠ 2) :
    h.controlRequest port src tag len data busy good = h.sendResponse r := by
  simp [controlRequest, stored, answered]

theorem controlRequest_served {r : StoredResponse} (stored : h.storedOf port src tag = some r) (served : r.result = 2) :
    h.controlRequest port src tag len data busy good = h := by
  simp [controlRequest, stored, served]

section
variable (fresh : h.storedOf port src tag = none)
include fresh

theorem controlRequest_malformed (bad : badRequest len (data % 2 ^ 64)) : h.controlRequest port src tag len data busy good =
    (h.requestKept port src tag (data % 2 ^ 64)).answerFrame (answersRequest port src tag) true 0 0 := by
  rw [controlRequest, fresh]
  exact if_pos bad

section
variable (legal : ¬ badRequest len (data % 2 ^ 64))
include legal

/-- A standard request takes effect first, and its answer goes out from the hub that it leaves. -/
theorem controlRequest_standard (standard : suKind (data % 2 ^ 64) = 0) : h.controlRequest port src tag len data busy good =
    ((h.requestKept port src tag (data % 2 ^ 64)).standardFrame port (data % 2 ^ 64)).2.2.2.answerFrame (answersRequest port src tag)
      ((h.requestKept port src tag (data % 2 ^ 64)).standardFrame port (data % 2 ^ 64)).1
      ((h.requestKept port src tag (data % 2 ^ 64)).standardFrame port (data % 2 ^ 64)).2.1
      ((h.requestKept port src tag (data % 2 ^ 64)).standardFrame port (data % 2 ^ 64)).2.2.1 := by
  rw [controlRequest, fresh]
  exact (if_neg legal).trans (if_pos standard)

section
variable (od : suKind (data % 2 ^ 64) = 1)
include od

/-- A request to the dictionary is refused for its direction, or goes to the requests of its link. -/
theorem controlRequest_od (link : port ≠ 18) : h.controlRequest port src tag len data busy good =
    if !odDirOk (data % 2 ^ 64) then
      (h.requestKept port src tag (data % 2 ^ 64)).answerFrame (answersRequest port src tag) true 0 0
    else (h.requestKept port src tag (data % 2 ^ 64)).linkRequest port (suReq (data % 2 ^ 64)) (suIndex (data % 2 ^ 64))
      (suValue (data % 2 ^ 64)) (suLen (data % 2 ^ 64)) (data / 2 ^ 64 % 256 ^ (len - 8)) busy good false := by
  rw [controlRequest, fresh, if_neg link]
  exact (if_neg legal).trans (if_neg (by omega))

end
end
end

/-! ### Link-local and routed frames (R205, R284, R333) -/

theorem controlFrame_trunk (link : port ≠ 18) (trunk : h.trunkActive port = true) :
    h.controlFrame port src tag len data busy good = h.controlRequest port 0 tag len data busy good :=
  (if_neg link).trans (if_pos trunk)

theorem controlFrame_inactive (link : port ≠ 18) (inactive : h.trunkActive port = false) :
    h.controlFrame port src tag len data busy good = h :=
  (if_neg link).trans (if_neg (by simp [inactive]))

theorem controlFrame_routed (on : h.flintOn = true) (assigned : h.rd Od.HUB_ID_ASSIGNED = 1) :
    h.controlFrame 18 src tag len data busy good = h.controlRequest 18 src tag len data busy good :=
  (if_pos rfl).trans (if_pos (by simp [on, assigned]))

theorem controlFrame_unassigned (waits : h.flintOn = false ∨ h.rd Od.HUB_ID_ASSIGNED ≠ 1) :
    h.controlFrame 18 src tag len data busy good = h :=
  (if_pos rfl).trans (if_neg (by rcases waits with off | free <;> simp [*]))

end

/-! ### A CONTROL RESPONSE (R205, R224) -/

section
variable {h : Hub} {u tag len data : Nat}

theorem controlResponse_inactive {stall : Bool} (inactive : h.trunkActive (16 + u) = false) : h.controlResponse u tag stall len data = h :=
  if_pos (by simp [inactive])

section
variable {x : Txn} (trunk : h.trunkActive (16 + u) = true)
  (asked : (h.txnOf (16 + u)).filter (fun y => y.first == tag && y.result.isNone) = some x)
include trunk asked

theorem controlResponse_stall :
    h.controlResponse u tag true len data = h.startTxn { x with heard := true, result := some .stall } := by
  simp [controlResponse, trunk, asked]

theorem controlResponse_identify (identify : x.kind = .identify) : h.controlResponse u tag false len data =
    h.startTxn { x with heard := true, result := some (.data 0 1 len (data % 256 ^ len)) } := by
  simp [controlResponse, trunk, asked, identify]

theorem controlResponse_ack (other : x.kind ≠ .identify) :
    h.controlResponse u tag false len data = h.startTxn { x with heard := true, result := some (.ack 0) } := by
  simp [controlResponse, trunk, asked]

end
end

end Hub

/-- A trunk is not 18, which stands for the routed frames. -/
theorem trunkPort_ne (u : Trunk) : u.port ≠ 18 := by
  have bound : u.val < 2 := u.isLt
  simp only [Trunk.port]
  omega

end Sys2Proof.Machine

open Sys2Proof.Machine Sys2Proof.Machine.Hub

/-- Settles O43: each clause is one case of a standard request's effect, or of a CONTROL frame's. -/
theorem standardRequests : Obligations.StandardRequests := by
  unfold Obligations.StandardRequests
  dsimp only [exec]
  intro t s p u i k src tag len data b g stalls r x
  have link : p.val ≠ 18 := p.isLt.ne
  have trunkLink : u.port ≠ 18 := trunkPort_ne u
  refine ⟨execGetStatus_known, execGetStatus_unknown, execGetStatus_silent, fun ⟨answers, known, ended⟩ control => ?_,
    fun ⟨answers, known, ended⟩ endpoint in_ => ?_, fun ⟨answers, known, ended⟩ endpoint out => ?_, fun answers present => ?_,
    execClearHalt_silent, execSetAddress_taken, execSetAddress_reserved, execSetAddress_silent, execIdentify_answers, execIdentify_silent,
    fun trunk stored answered => act_eq ?_, fun trunk stored served => act_eq ?_, fun ⟨trunk, fresh⟩ bad => act_eq ?_,
    fun ⟨trunk, fresh⟩ legal standard => act_eq ?_, fun ⟨trunk, fresh⟩ legal od refused => act_eq ?_,
    fun ⟨trunk, fresh⟩ legal od directed => act_eq ?_, fun inactive => act_eq ?_, fun on assigned => act_eq ?_, fun waits => act_eq ?_,
    fun trunk asked => act_eq ?_, fun trunk asked identify => act_eq ?_, fun trunk asked other => act_eq ?_, fun inactive => act_eq ?_⟩
  · exact execClearHalt_cleared answers (clearHalt_control known ended control)
  · exact execClearHalt_cleared answers (clearHalt_in known ended link endpoint in_)
  · exact execClearHalt_cleared answers (clearHalt_out known ended link endpoint out)
  · exact execClearHalt_stalled answers (clearHalt_stalled present)
  · exact (controlFrame_trunk trunkLink trunk).trans (controlRequest_answered stored answered)
  · exact (controlFrame_trunk trunkLink trunk).trans (controlRequest_served stored served)
  · exact (controlFrame_trunk trunkLink trunk).trans (controlRequest_malformed fresh bad)
  · exact (controlFrame_trunk trunkLink trunk).trans (controlRequest_standard fresh legal standard)
  · exact (controlFrame_trunk trunkLink trunk).trans ((controlRequest_od fresh legal od trunkLink).trans (if_pos (by rw [refused, Bool.not_false])))
  · exact (controlFrame_trunk trunkLink trunk).trans ((controlRequest_od fresh legal od trunkLink).trans (if_neg (by rw [directed]; decide)))
  · exact controlFrame_inactive trunkLink inactive
  · exact controlFrame_routed on assigned
  · exact controlFrame_unassigned waits
  · exact controlResponse_stall trunk asked
  · exact controlResponse_identify trunk asked identify
  · exact controlResponse_ack trunk asked other
  · exact controlResponse_inactive inactive
end

section
/-!
The five port commands, state by state (R218, R238, R240).
-/
namespace Sys2Proof.Machine.Hub

section
variable {h : Hub} {p : Nat}

/-! ### Each command has its own effect (R218) -/

theorem portCmd_disable : h.portCmd p 1 = h.cmdDisable p := rfl

theorem portCmd_enable : h.portCmd p 2 = h.cmdEnable p := rfl

theorem portCmd_reset : h.portCmd p 3 = h.cmdReset p := rfl

theorem portCmd_suspend : h.portCmd p 4 = h.cmdSuspend p := rfl

theorem portCmd_resume : h.portCmd p 5 = h.cmdResume p := rfl

/-! ### DISABLE and RESET (Table 7-3) -/

theorem cmdDisable_running (running : 2 ≤ h.rd (Od.PORT_STATE p)) :
    h.cmdDisable p = ((h.movePort p 3 1).wr (Od.DISABLE_CAUSE p) 1).cmdResult p 1 := if_pos running

theorem cmdDisable_state (still : h.rd (Od.PORT_STATE p) < 2) : h.cmdDisable p = h.cmdResult p 2 := if_neg (Nat.not_le.2 still)

theorem cmdReset_up (up : h.rd (Od.PORT_STATE p) = 5 ∨ h.rd (Od.PORT_STATE p) = 6) :
    h.cmdReset p = (h.enterResetting p).cmdResult p 5 := if_pos up

theorem cmdReset_state (notEnabled : h.rd (Od.PORT_STATE p) ≠ 5) (notSuspended : h.rd (Od.PORT_STATE p) ≠ 6) :
    h.cmdReset p = h.cmdResult p 2 := if_neg (not_or.2 ⟨notEnabled, notSuspended⟩)

/-! ### ENABLE (Table 7-3) -/

/-- An alternate function holds the pair of the port. -/
abbrev alternates (h : Hub) (p : Nat) : Prop := p < 16 ∧ h.rd (Od.ALT_STATE p) ≠ 0

/-- A port in ERROR_HOLD, or disabled by command. -/
abbrev heldDown (h : Hub) (p : Nat) : Prop :=
  h.rd (Od.PORT_STATE p) = 8 ∨ (h.rd (Od.PORT_STATE p) = 3 ∧ h.rd (Od.DISABLE_CAUSE p) = 1)

/-- The pull-up of a far end was seen, and the port's PHY is ON. -/
abbrev farEndThere (h : Hub) (p : Nat) : Prop := h.rd (Reg.pullSeen p) ≠ 0 ∧ h.phyOn p = true

theorem cmdEnable_state (refused : h.alternates p ∨ ¬ h.heldDown p) : h.cmdEnable p = h.cmdResult p 2 := by
  by_cases alternate : h.alternates p
  · exact if_pos alternate
  · exact (if_neg alternate).trans (if_neg (refused.resolve_left alternate))

section
variable (free : ¬ h.alternates p) (held : h.heldDown p)
include free held

theorem cmdEnable_resets (there : h.farEndThere p) : h.cmdEnable p = (h.enterResetting p).cmdResult p 5 :=
  (if_neg free).trans ((if_pos held).trans (if_pos there))

theorem cmdEnable_disconnected (gone : ¬ h.farEndThere p) : h.cmdEnable p = (h.enterDisconnected p).cmdResult p 1 :=
  (if_neg free).trans ((if_pos held).trans (if_neg gone))

end

/-! ### SUSPEND (Table 7-3, R238) -/

theorem cmdSuspend_state (other : h.rd (Od.PORT_STATE p) ≠ 5) : h.cmdSuspend p = h.cmdResult p 2 := if_pos other

section
variable (enabled : h.rd (Od.PORT_STATE p) = 5)
include enabled

theorem cmdSuspend_slotsOpen (busy : h.slotsBusy p = true) : h.cmdSuspend p = h.cmdResult p 3 :=
  (if_neg (not_not.2 enabled)).trans (if_pos busy)

theorem cmdSuspend_awaitsSof (free : h.slotsBusy p = false) : h.cmdSuspend p = (h.wr (Reg.suspendDue p) 1).cmdResult p 1 :=
  (if_neg (not_not.2 enabled)).trans (if_neg (by simp [free]))

end

/-! ### RESUME (Table 7-3, R240) -/

theorem cmdResume_state (other : h.rd (Od.PORT_STATE p) ≠ 6) : h.cmdResume p = h.cmdResult p 2 := if_pos other

section
variable (suspended : h.rd (Od.PORT_STATE p) = 6)
include suspended

theorem cmdResume_domainOff (off : h.phyOn p = false) : h.cmdResume p = h.cmdResult p 4 :=
  (if_neg (not_not.2 suspended)).trans (if_pos (by simp [off]))

/-- With its PHY ON a SUSPENDED port listens, unless it listens already. -/
theorem cmdResume_domainOn (on : h.phyOn p = true) :
    h.cmdResume p = (if h.running (Tm.listen p) then h else h.startListen p 1).cmdResult p 5 :=
  (if_neg (not_not.2 suspended)).trans (if_neg (by simp [on]))

theorem cmdResume_listens (on : h.phyOn p = true) (idle : h.running (Tm.listen p) = false) :
    h.cmdResume p = (h.startListen p 1).cmdResult p 5 := by
  rw [cmdResume_domainOn suspended on, if_neg (by simp [idle])]

theorem cmdResume_listening (on : h.phyOn p = true) (listening : h.running (Tm.listen p) = true) : h.cmdResume p = h.cmdResult p 5 := by
  rw [cmdResume_domainOn suspended on, if_pos listening]

end
end

end Sys2Proof.Machine.Hub

open Sys2Proof.Machine Sys2Proof.Machine.Hub

/-- Settles O25: each clause is one port command in one of the states it tells apart. -/
theorem portCommands : Obligations.PortCommands := by
  unfold Obligations.PortCommands
  dsimp only [exec, execPortCmdDisable, execPortCmdEnable, execPortCmdReset, execPortCmdSuspend, execPortCmdResume]
  intro t s p
  refine ⟨fun writable running => act_writing writable ?_, fun writable still => act_writing writable ?_,
    fun writable free held there => act_writing writable ?_, fun writable free held gone => act_writing writable ?_,
    fun writable refused => act_writing writable ?_, fun writable up => act_writing writable ?_,
    fun writable notEnabled notSuspended => act_writing writable ?_, fun writable enabled free => act_writing writable ?_,
    fun writable enabled busy => act_writing writable ?_, fun writable other => act_writing writable ?_,
    fun writable suspended on idle => act_writing writable ?_, fun writable suspended on listening => act_writing writable ?_,
    fun writable suspended off => act_writing writable ?_, fun writable other => act_writing writable ?_⟩
  · exact portCmd_disable.trans (cmdDisable_running running)
  · exact portCmd_disable.trans (cmdDisable_state still)
  · exact portCmd_enable.trans (cmdEnable_resets free held there)
  · exact portCmd_enable.trans (cmdEnable_disconnected free held gone)
  · exact portCmd_enable.trans (cmdEnable_state refused)
  · exact portCmd_reset.trans (cmdReset_up up)
  · exact portCmd_reset.trans (cmdReset_state notEnabled notSuspended)
  · exact portCmd_suspend.trans (cmdSuspend_awaitsSof enabled free)
  · exact portCmd_suspend.trans (cmdSuspend_slotsOpen enabled busy)
  · exact portCmd_suspend.trans (cmdSuspend_state other)
  · exact portCmd_resume.trans (cmdResume_listens suspended on idle)
  · exact portCmd_resume.trans (cmdResume_listening suspended on listening)
  · exact portCmd_resume.trans (cmdResume_domainOff suspended off)
  · exact portCmd_resume.trans (cmdResume_state other)
end

section
/-!
The end of a resume listen, a wake that is taken over, the upstream's return and reset, and what the manager's path brings out (R110, R230,
R239 to R243, R332, R420).
-/
namespace Sys2Proof.Machine.Hub

section
variable {h : Hub} {p : Nat}

/-! ### The resume listen ends (R240, R242) -/

/-- The wake that was seen began within 2 us of the listen. -/
abbrev wakeCoincides (h : Hub) (p : Nat) : Prop :=
  h.rd (Reg.listenStart p) - 1 ≤ h.rd (Reg.wakeOnset p) - 1 + 2000 ∧ h.rd (Reg.wakeOnset p) - 1 < h.rd (Reg.listenStart p) - 1 + 2000

/-- The wake that was seen began before the listen, and it is present still. -/
abbrev wakeCameFirst (h : Hub) (p : Nat) : Prop :=
  h.rd (Reg.wakeOnset p) - 1 < h.rd (Reg.listenStart p) - 1 ∧ h.rd (Reg.wakePresent p) = 1

/-- The listen of a port is over. -/
abbrev listened (p : Nat) (h : Hub) : Hub := h.wr (Tm.listen p) 0

theorem listenEnd_early (early : h.due (Tm.listen p) = false) : h.listenEnd p = h := expire_not_due h _ _ early

section
variable (due : h.due (Tm.listen p) = true)
include due

theorem listenEnd_other (other : (h.listened p).rd (Od.PORT_STATE p) ≠ 6) : h.listenEnd p = h.listened p :=
  (expire_due h _ _ due).trans (if_pos other)

section
variable (suspended : (h.listened p).rd (Od.PORT_STATE p) = 6)
include suspended

theorem listenEnd_resumes (untaken : (h.listened p).rd (Reg.wakeOnset p) = 0 ∨
    (¬ (h.listened p).wakeCoincides p ∧ ¬ (h.listened p).wakeCameFirst p)) : h.listenEnd p = (h.listened p).driveResume p := by
  refine (expire_due h _ _ due).trans ((if_neg (not_not.2 suspended)).trans ?_)
  by_cases unseen : (h.listened p).rd (Reg.wakeOnset p) = 0
  · exact if_pos unseen
  · obtain ⟨apart, late⟩ := untaken.resolve_left unseen
    exact (if_neg unseen).trans ((if_neg apart).trans (if_neg late))

section
variable (seen : (h.listened p).rd (Reg.wakeOnset p) ≠ 0)
include seen

theorem listenEnd_coincides (near : (h.listened p).wakeCoincides p) : h.listenEnd p =
    (((h.listened p).wr (Od.COINCIDENT_WAKE p) 1).inc (Od.COINCIDENT_WAKES p)).driveResume p :=
  (expire_due h _ _ due).trans ((if_neg (not_not.2 suspended)).trans ((if_neg seen).trans (if_pos near)))

theorem listenEnd_takesWake (apart : ¬ (h.listened p).wakeCoincides p) (first : (h.listened p).wakeCameFirst p) : h.listenEnd p =
    (((((h.listened p).wr (Od.RESUME_CAUSE p) 2).settleCmd p 1).inc (Od.WAKES_TAKEN p)).driveResume p).passWake p :=
  (expire_due h _ _ due).trans
    ((if_neg (not_not.2 suspended)).trans ((if_neg seen).trans ((if_neg apart).trans (if_pos first))))

end
end
end

/-! ### A wake is taken over (R241, R242) -/

/-- A SUSPENDED port whose enabled wake is present may take it over while its PHY is ON and it does not listen. -/
abbrev mayTakeWake (h : Hub) (p : Nat) : Prop :=
  h.rd (Od.PORT_STATE p) = 6 ∧ h.rd (Od.WAKE_ENABLE p) = 1 ∧ h.rd (Reg.wakePresent p) = 1 ∧ h.phyOn p = true ∧
    h.running (Tm.listen p) = false

/-- The wake of a port has been taken as the cause of its resume. -/
abbrev wakeCounted (p : Nat) (h : Hub) : Hub := (h.wr (Od.RESUME_CAUSE p) 2).inc (Od.WAKES_TAKEN p)

theorem wakeTaken_not (barred : ¬ h.mayTakeWake p) : h.wakeTaken p = h := if_neg barred

section
variable (may : h.mayTakeWake p)
include may

theorem wakeTaken_resumes (linked : (h.wakeCounted p).rd (Od.LINK_STATE p) = 5) :
    h.wakeTaken p = ((h.wakeCounted p).driveResume p).passWake p := (if_pos may).trans (congrArg (passWake p) (if_pos linked))

theorem wakeTaken_resets (restarted : (h.wakeCounted p).rd (Od.LINK_STATE p) ≠ 5) :
    h.wakeTaken p = ((h.wakeCounted p).enterResetting p).passWake p := (if_pos may).trans (congrArg (passWake p) (if_neg restarted))

end

/-! ### The control upstream returns (R239, R427) or is reset (R243) -/

theorem upstreamResumed_not (waits : h.rd Reg.upSuspend = 0 ∨ h.rd (Od.LINK_STATE (h.rd Od.CONTROL_UPSTREAM)) ≠ 4) :
    h.upstreamResumed = h := if_pos waits

section
variable (suspended : h.rd Reg.upSuspend ≠ 0) (active : h.rd (Od.LINK_STATE (h.rd Od.CONTROL_UPSTREAM)) = 4)
include suspended active

theorem upstreamResumed_returns :
    h.upstreamResumed = if h.group.any (fun g => g.source == 2) then h.wr Reg.upSuspend 0 else h.resumeForUpstream :=
  if_neg (not_or.2 ⟨suspended, not_not.2 active⟩)

theorem upstreamResumed_resumes (free : h.group.any (fun g => g.source == 2) = false) : h.upstreamResumed = h.resumeForUpstream := by
  rw [upstreamResumed_returns suspended active, free, if_neg Bool.false_ne_true]

theorem upstreamResumed_armed (armed : h.group.any (fun g => g.source == 2) = true) : h.upstreamResumed = h.wr Reg.upSuspend 0 := by
  rw [upstreamResumed_returns suspended active, if_pos armed]

end

theorem upstreamResetOnce_first (first : h.rd Reg.lastUpReset ≠ h.now + 1) :
    h.upstreamResetOnce = h.upstreamReset.wr Reg.lastUpReset (h.now + 1) := if_neg first

theorem upstreamResetOnce_again (again : h.rd Reg.lastUpReset = h.now + 1) : h.upstreamResetOnce = h := if_pos again

end

/-! ### What each stage of the manager's path takes out (R110, R230, R332, R420) -/

/-- The records that wait for the manager's path: of ports, of the hierarchy, of a group command, and of held messages that expired. -/
structure HeldRecords where
  ports : List (Nat × Nat)
  hierarchy : Option Nat
  domain : Option Nat
  expired : List (Nat × Nat)

/-- The records that a hub holds. -/
def heldRecords (h : Hub) : HeldRecords := ⟨h.portHeld, h.hierHeld, h.domHeld, h.cfExpired⟩

section
variable {h : Hub}

theorem heldRecords_foldl {α : Type} {f : Hub → α → Hub} (kept : ∀ (x : Hub) (a : α), (f x a).heldRecords = x.heldRecords) (l : List α)
    (h : Hub) : (l.foldl f h).heldRecords = h.heldRecords := by
  induction l generalizing h with
  | nil => rfl
  | cons a r ih => exact (ih (f h a)).trans (kept h a)

theorem heldRecords_expiredRecordsOut (on : Nat → Bool) : (h.expiredRecordsOut on).heldRecords =
    { h.heldRecords with expired := h.cfExpired.filter (fun c => !on c.1) } := by
  refine heldRecords_foldl (fun x c => ?_) _ _
  rfl

theorem heldRecords_portRecordsOut (held : List (Nat × Nat)) : (h.portRecordsOut held).heldRecords = { h.heldRecords with ports := [] } := by
  refine heldRecords_foldl (fun x p => ?_) _ _
  split <;> rfl

theorem heldRecords_hierarchyRecordOut : h.hierarchyRecordOut.heldRecords = { h.heldRecords with hierarchy := none } := by
  unfold hierarchyRecordOut
  split
  next none => simp only [heldRecords, none]
  next => rfl

theorem heldRecords_domainRecordOut : h.domainRecordOut.heldRecords = { h.heldRecords with domain := none } := by
  unfold domainRecordOut
  split
  next none => simp only [heldRecords, none]
  next => rfl

theorem heldRecords_pumpManager : h.pumpManager.heldRecords = h.heldRecords := by
  unfold pumpManager
  split <;> rfl

/-- The deadlines of held messages that are over have been carried out. -/
def heldDeadlines (h : Hub) : Hub := (List.range 18).foldl (fun x p => if x.due (Tm.held p) then x.deadlines p else x) h

section
variable (on : h.managerPath = true)
include on

/-- The path brings out the held messages, then the records, in the order of their kinds. -/
theorem pathUp_stages :
    h.pathUp = ((((h.heldDeadlines.heldMessagesOut h.phyOn).expiredRecordsOut h.phyOn).portRecordsOut
      (h.heldDeadlines.heldMessagesOut h.phyOn).portHeld).hierarchyRecordOut.domainRecordOut).pumpManager := by
  rw [pathUp, if_neg (by simp [on]), ← heldDeadlines]
  generalize h.heldDeadlines = x
  rfl

/-- Once the path is ON nothing is held but the records of expired messages whose port's PHY is not ON. -/
theorem heldRecords_pathUp : h.pathUp.heldRecords =
    ⟨[], none, none, (h.heldDeadlines.heldMessagesOut h.phyOn).cfExpired.filter (fun c => !h.phyOn c.1)⟩ := by
  rw [pathUp_stages on, heldRecords_pumpManager, heldRecords_domainRecordOut, heldRecords_hierarchyRecordOut, heldRecords_portRecordsOut,
    heldRecords_expiredRecordsOut]

theorem pathUp_emptied : h.pathUp.portHeld = [] ∧ h.pathUp.hierHeld = none ∧ h.pathUp.domHeld = none ∧
    ∀ c ∈ h.pathUp.cfExpired, h.phyOn c.1 = false := by
  obtain ⟨ports, hierarchy, domain, expired⟩ := HeldRecords.mk.inj (heldRecords_pathUp on)
  refine ⟨ports, hierarchy, domain, fun c owed => ?_⟩
  rw [expired] at owed
  simpa using (List.mem_filter.1 owed).2

end
end

end Sys2Proof.Machine.Hub

open Sys2Proof.Machine Sys2Proof.Machine.Hub

/-- Settles O28: each clause is one case of a listen's end, of a wake, of the upstream's return or reset, or of the manager's path. -/
theorem resumeAndWake : Obligations.ResumeAndWake := by
  unfold Obligations.ResumeAndWake
  dsimp only [exec, execResumeListenEnd, execWakeTaken, execUpstreamResumed, execUpstreamReset, execManagerPathOn]
  intro t s p
  refine ⟨fun due suspended untaken => act_eq ?_, fun due suspended seen near => act_eq ?_,
    fun due suspended seen apart first => act_eq ?_, fun due other => act_eq ?_, fun early => act_eq ?_,
    fun may linked => act_eq ?_, fun may restarted => act_eq ?_, fun barred => act_eq ?_,
    fun suspended active free => act_eq ?_, fun suspended active armed => act_eq ?_, fun waits => act_eq ?_,
    fun first => act_eq ?_, fun again => act_eq ?_, fun on => ⟨act_eq rfl, pathUp_emptied on⟩, fun off => act_eq ?_⟩
  · exact listenEnd_resumes due suspended untaken
  · exact listenEnd_coincides due suspended seen near
  · exact listenEnd_takesWake due suspended seen apart first
  · exact listenEnd_other due other
  · exact listenEnd_early early
  · exact wakeTaken_resumes may linked
  · exact wakeTaken_resets may restarted
  · exact wakeTaken_not barred
  · exact upstreamResumed_resumes suspended active free
  · exact upstreamResumed_armed suspended active armed
  · exact upstreamResumed_not waits
  · exact upstreamResetOnce_first first
  · exact upstreamResetOnce_again again
  · exact pathUp_off off
end

section
/-!
Delegated polling, case by case (R249 to R253, R262, R264, R265): Quartz's commands, the micro-frame, a poll's end and a window's.
-/
namespace Sys2Proof.Machine.Hub

section
variable {h : Hub}

/-! ### The commands (R264, Table 8-8) -/

theorem quartzCmd_off {c : Nat} (off : h.isOn 5 = false) : h.quartzCmd c = h.wr Od.QUARTZ_CMD_RESULT 3 := if_pos (by simp [off])

section
variable (on : h.isOn 5 = true)
include on

/-- With PD5 ON the first check is passed. -/
theorem isOn_passes : ¬ (!h.isOn 5) = true := by simp [on]

theorem quartzCmd_start_pends (idle : h.rd Od.QUARTZ_STATE ≠ 1) (assigned : h.rd Od.HUB_ID_ASSIGNED ≠ 0) :
    h.quartzCmd 1 = (h.pendStart (if h.rd Od.QUARTZ_STATE = 0 then 1 else 2)).wr Od.QUARTZ_CMD_RESULT 1 :=
  (if_neg (isOn_passes on)).trans (if_neg (not_or.2 ⟨idle, assigned⟩))

theorem quartzCmd_start_state (refused : h.rd Od.QUARTZ_STATE = 1 ∨ h.rd Od.HUB_ID_ASSIGNED = 0) :
    h.quartzCmd 1 = h.wr Od.QUARTZ_CMD_RESULT 2 :=
  (if_neg (isOn_passes on)).trans (if_pos refused)

theorem quartzCmd_stop_leaves (left : h.rd Od.QUARTZ_STATE ≠ 0) : h.quartzCmd 2 = (h.quartzLeave 0 0).wr Od.QUARTZ_CMD_RESULT 1 := by
  have stops : h.quartzStop = h.quartzLeave 0 0 := if_neg left
  rw [← stops]
  exact (if_neg (isOn_passes on)).trans (if_neg left)

theorem quartzCmd_stop_state (stopped : h.rd Od.QUARTZ_STATE = 0) : h.quartzCmd 2 = h.wr Od.QUARTZ_CMD_RESULT 2 :=
  (if_neg (isOn_passes on)).trans (if_pos stopped)

theorem quartzCmd_pause_leaves (runs : h.rd Od.QUARTZ_STATE = 1) : h.quartzCmd 3 = (h.quartzLeave 2 1).wr Od.QUARTZ_CMD_RESULT 1 :=
  (if_neg (isOn_passes on)).trans (if_pos runs)

theorem quartzCmd_pause_state (rests : h.rd Od.QUARTZ_STATE ≠ 1) : h.quartzCmd 3 = h.wr Od.QUARTZ_CMD_RESULT 2 :=
  (if_neg (isOn_passes on)).trans (if_neg rests)

end

/-! ### A micro-frame begins (R251, R252, R264) -/

/-- The micro-frame that the timebase is in. -/
abbrev uframe (h : Hub) : Nat := h.timebase / uframeNs

/-- The micro-frame has begun: the writes before it have taken effect. -/
def uframeTaken (h : Hub) : Hub := (h.takeWrites h.uframe).wr Reg.lastUframe (h.uframe + 1)

/-- Quartz goes to RUNNING. -/
def quartzGoes (h : Hub) : Hub := ((h.wr Od.QUARTZ_STATE 1).wr Od.PAUSE_CAUSE 0).wr Reg.startPend 0

/-- No START takes effect in micro-frame k. -/
abbrev noStart (h : Hub) (k : Nat) : Prop := h.rd Reg.startPend = 0 ∨ k < h.rd Reg.startUframe

/-- A START that pends takes effect in micro-frame k. -/
def startTaken (k : Nat) (h : Hub) : Hub :=
  if h.noStart k then h else (if h.rd Reg.startPend = 1 then h.clearEntries else h).quartzGoes

/-- The polls due in micro-frame k are counted, then skipped or queued. -/
def queueDue (k : Nat) (h : Hub) : Hub := (h.dueIn k).foldl (fallDue k) (h.raisePeaks (h.dueIn k))

/-- Quartz's part in micro-frame k: due polls only where it runs. -/
def quartzRun (k : Nat) (h : Hub) : Hub := if h.rd Od.QUARTZ_STATE ≠ 1 then h else h.queueDue k

/-- The micro-frame that the timebase is in has not begun yet, and PD5 is ON. -/
abbrev uframeBegins (h : Hub) : Prop := h.isOn 5 = true ∧ h.rd Reg.lastUframe < h.uframe + 1

theorem microframe_not (waits : h.isOn 5 = false ∨ h.uframe + 1 ≤ h.rd Reg.lastUframe) : h.microframe = h :=
  if_pos (by simpa using waits)

theorem microframe_begins (begins : h.uframeBegins) : h.microframe = (h.uframeTaken.startTaken h.uframe).quartzRun h.uframe := by
  obtain ⟨on, new⟩ := begins
  exact if_neg (not_or.2 ⟨isOn_passes on, Nat.not_le.2 new⟩)

theorem quartzRun_runs {k : Nat} (runs : h.rd Od.QUARTZ_STATE = 1) : h.quartzRun k = h.queueDue k := if_neg (not_not.2 runs)

theorem rd_quartzGoes_state : h.quartzGoes.rd Od.QUARTZ_STATE = 1 := by
  rw [quartzGoes, rd_wr_ne _ _ _ _ (entry_ne_register (by decide) _ _), rd_wr_ne _ _ _ _ (by decide), rd_wr_self]

theorem startTaken_not {k : Nat} (none : h.noStart k) : h.startTaken k = h := if_pos none

section
variable {k : Nat} (time : h.rd Reg.startUframe ≤ k)
include time

theorem startTaken_stopped (pends : h.rd Reg.startPend = 1) : h.startTaken k = h.clearEntries.quartzGoes := by
  rw [startTaken, if_neg (by simp [pends, time]), if_pos pends]

theorem startTaken_paused (pends : h.rd Reg.startPend = 2) : h.startTaken k = h.quartzGoes := by
  rw [startTaken, if_neg (by simp [pends, time]), if_neg (by simp [pends])]

end

section
variable (begins : h.uframeBegins)
include begins

theorem microframe_rests (none : h.uframeTaken.noStart h.uframe) (rests : h.uframeTaken.rd Od.QUARTZ_STATE ≠ 1) :
    h.microframe = h.uframeTaken := by
  rw [microframe_begins begins, startTaken_not none]
  exact if_pos rests

theorem microframe_runs (none : h.uframeTaken.noStart h.uframe) (runs : h.uframeTaken.rd Od.QUARTZ_STATE = 1) :
    h.microframe = h.uframeTaken.queueDue h.uframe := by
  rw [microframe_begins begins, startTaken_not none, quartzRun_runs runs]

variable (time : h.uframeTaken.rd Reg.startUframe ≤ h.uframe)
include time

theorem microframe_starts (pends : h.uframeTaken.rd Reg.startPend = 1) :
    h.microframe = h.uframeTaken.clearEntries.quartzGoes.queueDue h.uframe := by
  rw [microframe_begins begins, startTaken_stopped time pends, quartzRun_runs rd_quartzGoes_state]

theorem microframe_resumes (pends : h.uframeTaken.rd Reg.startPend = 2) :
    h.microframe = h.uframeTaken.quartzGoes.queueDue h.uframe := by
  rw [microframe_begins begins, startTaken_paused time pends, quartzRun_runs rd_quartzGoes_state]

end

/-! ### A poll's end and a window's (R256, R262) -/

theorem completePoll_judged {p : Nat} {j : PollJob} (ended : h.polls.find? (fun x => x.port == p && x.stage == 3) = some j) :
    h.completePoll p =
      (({ h with polls := h.polls.filter (fun x => !(x.port == p && x.entry == j.entry && x.stage == 3)) } : Hub).judgePoll j).closeAfterPoll := by
  simp only [completePoll, ended]

theorem completePoll_none {p : Nat} (none : h.polls.find? (fun x => x.port == p && x.stage == 3) = none) : h.completePoll p = h := by
  simp only [completePoll, none]

theorem endWindow_closes (reports : h.batch ≠ []) (past : h.rd Reg.batchWin ≠ h.windowStart h.timebase + 1) : h.endWindow = h.closeBatch :=
  if_neg (not_or.2 ⟨by simpa using reports, past⟩)

theorem endWindow_not (stays : h.batch = [] ∨ h.rd Reg.batchWin = h.windowStart h.timebase + 1) : h.endWindow = h :=
  if_pos (by simpa using stays)

end

end Sys2Proof.Machine.Hub

open Sys2Proof.Machine Sys2Proof.Machine.Hub

/-- Settles O46: each clause is one command in one state, one case of a micro-frame's begin, or the end of a poll or of a window. -/
theorem quartzRuns : Obligations.QuartzRuns := by
  unfold Obligations.QuartzRuns
  dsimp only [exec, execPollEntryWrite, execQuartzStart, execQuartzStop, execQuartzPause, execMicroframeStart, execPollComplete,
    execReportWindowEnd]
  intro t s e v p j
  refine ⟨fun writable => act_writing writable rfl, fun on idle assigned => act_eq (congrArg (wrote _) ?_),
    fun on refused => act_eq (congrArg (wrote _) ?_), fun off => act_eq (congrArg (wrote _) (quartzCmd_off off)),
    fun on left => act_eq (congrArg (wrote _) ?_), fun on stopped => act_eq (congrArg (wrote _) ?_),
    fun off => act_eq (congrArg (wrote _) (quartzCmd_off off)), fun on runs => act_eq (congrArg (wrote _) ?_),
    fun on rests => act_eq (congrArg (wrote _) ?_), fun off => act_eq (congrArg (wrote _) (quartzCmd_off off)),
    fun waits => act_eq ?_, fun begins none rests => act_eq ?_, fun begins none runs => act_eq ?_, fun begins pends time => act_eq ?_,
    fun begins pends time => act_eq ?_, fun ended => act_eq ?_, fun none => act_eq ?_, fun reports past => act_eq ?_,
    fun stays => act_eq ?_⟩
  · exact quartzCmd_start_pends on idle assigned
  · exact quartzCmd_start_state on refused
  · exact quartzCmd_stop_leaves on left
  · exact quartzCmd_stop_state on stopped
  · exact quartzCmd_pause_leaves on runs
  · exact quartzCmd_pause_state on rests
  · exact microframe_not waits
  · exact microframe_rests begins none rests
  · exact microframe_runs begins none runs
  · exact microframe_starts begins time pends
  · exact microframe_resumes begins time pends
  · exact completePoll_judged ended
  · exact completePoll_none none
  · exact endWindow_closes reports past
  · exact endWindow_not stays
end

section
/-!
The timebase, case by case (R267 to R273): a time set or trimmed, a step and a slew, the lapse of alignment, and a delay probe.
-/
namespace Sys2Proof.Machine.Hub

section
variable {h : Hub}

/-! ### TIME_SET and TIME_TRIM (R267) -/

section
variable {v : Nat}

theorem timeSetCode_refused (refused : h.writeCode Od.TIME_SET v ≠ 0) : h.timeSetCode v = h.writeCode Od.TIME_SET v := if_pos refused

theorem timeTrimCode_refused (refused : h.writeCode Od.TIME_TRIM v ≠ 0) : h.timeTrimCode v = h.writeCode Od.TIME_TRIM v := if_pos refused

theorem timeSetCode_ok (writable : h.Writable Od.TIME_SET v) (source : h.rd Od.SYNC_STATE = 0) (ahead : h.timebase < v) :
    h.timeSetCode v = 0 :=
  (if_neg (not_not.2 writable)).trans (if_neg (not_or.2 ⟨not_not.2 source, Nat.not_le.2 ahead⟩))

theorem timeSetCode_state (writable : h.Writable Od.TIME_SET v) (state : h.rd Od.SYNC_STATE ≠ 0 ∨ v ≤ h.timebase) : h.timeSetCode v = 7 :=
  (if_neg (not_not.2 writable)).trans (if_pos state)

theorem timeTrimCode_ok (writable : h.Writable Od.TIME_TRIM v) (source : h.rd Od.SYNC_STATE = 0) : h.timeTrimCode v = 0 :=
  (if_neg (not_not.2 writable)).trans (if_neg (not_not.2 source))

theorem timeTrimCode_state (writable : h.Writable Od.TIME_TRIM v) (sink : h.rd Od.SYNC_STATE ≠ 0) : h.timeTrimCode v = 7 :=
  (if_neg (not_not.2 writable)).trans (if_pos sink)

end

/-- A write that is refused with a code other than OK answers with the code alone. -/
theorem judged_code {k v code c : Nat} {f : Hub → Hub} (judged : code = c) (refused : c ≠ 0) : h.judged code k v f = h.wrote c := by
  subst judged
  exact judged_refused refused

/-! ### A step (R269, R272) -/

/-- A step has reached its boundary. -/
abbrev stepFalls (h : Hub) : Prop := h.isOn 5 = true ∧ h.stepDue = true ∧ h.stepBoundary ≤ h.timebase

/-- The value that a step puts in the place of its boundary: that of TIME_SET, or the boundary plus the offset. -/
def stepTarget (h : Hub) : Nat := if h.rd Reg.stepTo ≠ 0 then h.rd Reg.stepTo - 1 else h.stepBoundary + h.rd Reg.stepBy

/-- No step waits any more. -/
def stepCleared (h : Hub) : Hub := h.clear [Reg.stepTo, Reg.stepBy, Reg.stepAt]

/-- A running Quartz skips the polls of the micro-frames from lo to hi. -/
def stepSkips (lo hi : Nat) (h : Hub) : Hub := if h.rd Od.QUARTZ_STATE = 1 then h.enabledEntries.foldl (skipStep lo hi) h else h

/-- The step has been taken: the polls passed over are skipped, the batch is closed, and the timebase goes on from the target. -/
def stepTaken (h : Hub) : Hub :=
  (((h.stepCleared.stepSkips (h.stepBoundary / uframeNs + 1) (h.stepTarget / uframeNs - 1)).closeBatch.setTimebase
      (h.stepTarget + (h.timebase - h.stepBoundary))).wr Reg.stepUframe (h.stepTarget / uframeNs + 1)).wr Reg.stepFrame
    (if h.stepBoundary % 1000000 = 0 then 1 else 0)

theorem stepFalls_iff : ¬ ((!h.isOn 5) = true ∨ (!h.stepDue) = true ∨ h.timebase < h.stepBoundary) ↔ h.stepFalls := by
  simp

theorem stepTimebase_not (waits : ¬ h.stepFalls) : h.stepTimebase = h := if_pos (not_not.1 (mt stepFalls_iff.1 waits))

section
variable (falls : h.stepFalls)
include falls

theorem stepTimebase_dropped (back : h.stepTarget ≤ h.stepBoundary) : h.stepTimebase = h.stepCleared :=
  (if_neg (stepFalls_iff.2 falls)).trans (if_pos back)

variable (forward : h.stepBoundary < h.stepTarget)
include forward

theorem stepTimebase_offset (offset : h.rd Reg.stepTo = 0) :
    h.stepTimebase = (h.stepTaken.inc Od.TIME_STEPS).wr Od.LAST_STEP (h.stepTarget - h.stepBoundary) :=
  (if_neg (stepFalls_iff.2 falls)).trans ((if_neg (Nat.not_le.2 forward)).trans (if_pos offset))

theorem stepTimebase_set (set : h.rd Reg.stepTo ≠ 0) : h.stepTimebase = h.stepTaken :=
  (if_neg (stepFalls_iff.2 falls)).trans ((if_neg (Nat.not_le.2 forward)).trans (if_neg set))

end

/-! ### A slew (R269) -/

/-- PD5 is ON, and 16 µs have passed since the last tick of the slew. -/
abbrev slewSpaced (h : Hub) : Prop := h.isOn 5 = true ∧ (h.rd Reg.lastSlew = 0 ∨ h.rd Reg.lastSlew + 16000 ≤ h.now + 1)

theorem slewSpaced_iff :
    ¬ ((!h.isOn 5) = true ∨ (h.rd Reg.lastSlew ≠ 0 ∧ h.now + 1 < h.rd Reg.lastSlew + 16000)) ↔ h.slewSpaced := by
  simp [or_iff_not_imp_left]

section
variable (spaced : h.slewSpaced)
include spaced

theorem slewTick_adds (up : 8 ≤ h.rd Reg.slewUp) : h.slewTick =
    ((h.setTimebase (h.timebase + 8)).wr Reg.slewUp (h.rd Reg.slewUp - 8)).wr Reg.lastSlew (h.now + 1) :=
  (if_neg (slewSpaced_iff.2 spaced)).trans (if_pos up)

theorem slewTick_omits (up : h.rd Reg.slewUp < 8) (down : 8 ≤ h.rd Reg.slewDown) : h.slewTick =
    (((h.setTimebase h.timebase).wr Reg.tbAt (h.now + 8)).wr Reg.slewDown (h.rd Reg.slewDown - 8)).wr Reg.lastSlew (h.now + 1) :=
  (if_neg (slewSpaced_iff.2 spaced)).trans ((if_neg (Nat.not_le.2 up)).trans (if_pos down))

theorem slewTick_done (up : h.rd Reg.slewUp < 8) (down : h.rd Reg.slewDown < 8) : h.slewTick = h :=
  (if_neg (slewSpaced_iff.2 spaced)).trans ((if_neg (Nat.not_le.2 up)).trans (if_neg (Nat.not_le.2 down)))

end

theorem slewTick_not (none : ¬ h.slewSpaced ∨ (h.rd Reg.slewUp < 8 ∧ h.rd Reg.slewDown < 8)) : h.slewTick = h := by
  by_cases spaced : h.slewSpaced
  · obtain ⟨up, down⟩ := none.resolve_left (not_not_intro spaced)
    exact slewTick_done spaced up down
  · exact if_pos (not_not.1 (mt slewSpaced_iff.1 spaced))

/-! ### The lapse of alignment (Table 8-9) -/

/-- A write of an internal register leaves the sync state. -/
theorem rd_stopSync_state : (h.wr Tm.sync 0).rd Od.SYNC_STATE = h.rd Od.SYNC_STATE :=
  rd_wr_ne _ _ _ _ (entry_ne_register (by decide) _ _)

theorem syncLapse_early (early : h.due Tm.sync = false) : h.syncLapse = h := expire_not_due h _ _ early

section
variable (due : h.due Tm.sync = true)
include due

theorem syncLapse_lapses (aligned : h.rd Od.SYNC_STATE = 2 ∨ h.rd Od.SYNC_STATE = 3) :
    h.syncLapse = ((h.wr Tm.sync 0).wr Od.SYNC_STATE 4).wr Reg.goodOffsets 0 :=
  (expire_due h _ _ due).trans (if_pos (by rwa [rd_stopSync_state]))

theorem syncLapse_other (notAligning : h.rd Od.SYNC_STATE ≠ 2) (notLocked : h.rd Od.SYNC_STATE ≠ 3) : h.syncLapse = h.wr Tm.sync 0 :=
  (expire_due h _ _ due).trans (if_neg (by rw [rd_stopSync_state]; exact not_or.2 ⟨notAligning, notLocked⟩))

end

/-! ### A delay probe (R268) -/

/-- PROBE_INTERVAL of link p has passed. -/
def probeFallen (p : Nat) (h : Hub) : Hub := h.wr (Tm.probeInterval p) 0

/-- An interval of so many ms to the next probe of link p begins. -/
def probeAgain (p interval : Nat) (h : Hub) : Hub := h.arm (Tm.probeInterval p) (ms interval)

section
variable {p : Cable}

theorem rd_probeFallen_entry {k : Nat} (entry : k < 2 ^ 24) : (h.probeFallen p).rd k = h.rd k :=
  rd_wr_ne _ _ _ _ (entry_ne_register entry _ _)

theorem rd_probeFallen_linkState : (h.probeFallen p).rd (Od.LINK_STATE p) = h.rd (Od.LINK_STATE p) :=
  rd_probeFallen_entry (by have := p.isLt; simp only [Od.LINK_STATE, Od.key]; omega)

theorem rd_probeFallen_linkClass : (h.probeFallen p).rd (Od.LINK_CLASS p) = h.rd (Od.LINK_CLASS p) :=
  rd_probeFallen_entry (by have := p.isLt; simp only [Od.LINK_CLASS, Od.key]; omega)

theorem probeDelay_early (early : h.due (Tm.probeInterval p) = false) : h.probeDelay p = h := expire_not_due h _ _ early

section
variable (due : h.due (Tm.probeInterval p) = true)
include due

theorem probeDelay_inactive (inactive : h.rd (Od.LINK_STATE p) ≠ 4) : h.probeDelay p = h.probeFallen p :=
  (expire_due h _ _ due).trans (if_pos (by rwa [← probeFallen, rd_probeFallen_linkState]))

variable (active : h.rd (Od.LINK_STATE p) = 4)
include active

/-- On an ACTIVE link the probe of the link's class goes out, and the interval starts again. -/
theorem probeDelay_active : h.probeDelay p =
    (if (h.probeFallen p).rd (Od.LINK_CLASS p) = 4 then (h.probeFallen p).sendLink p 3 (h.probeFallen p).timebase
      else if !(h.probeFallen p).givesTime p then h.probeFallen p
      else ((h.probeFallen p).wr (Reg.timeOwed p) 1).startTimePing p).probeAgain p ((h.probeFallen p).rd Od.PROBE_INTERVAL) :=
  (expire_due h _ _ due).trans (if_neg (by rw [← probeFallen, rd_probeFallen_linkState]; exact not_not.2 active))

theorem probeDelay_frame (ts : h.rd (Od.LINK_CLASS p) = 4) : h.probeDelay p =
    ((h.probeFallen p).sendLink p 3 (h.probeFallen p).timebase).probeAgain p ((h.probeFallen p).rd Od.PROBE_INTERVAL) := by
  rw [probeDelay_active due active, if_pos (rd_probeFallen_linkClass.trans ts)]

variable (packets : h.rd (Od.LINK_CLASS p) ≠ 4)
include packets

theorem probeDelay_ping (gives : (h.probeFallen p).givesTime p = true) : h.probeDelay p =
    (((h.probeFallen p).wr (Reg.timeOwed p) 1).startTimePing p).probeAgain p ((h.probeFallen p).rd Od.PROBE_INTERVAL) := by
  rw [probeDelay_active due active, if_neg (by rwa [rd_probeFallen_linkClass]), if_neg (by simp [gives])]

theorem probeDelay_silent (takes : (h.probeFallen p).givesTime p = false) :
    h.probeDelay p = (h.probeFallen p).probeAgain p ((h.probeFallen p).rd Od.PROBE_INTERVAL) := by
  rw [probeDelay_active due active, if_neg (by rwa [rd_probeFallen_linkClass]), if_pos (by simp [takes])]

end
end
end

end Sys2Proof.Machine.Hub

open Sys2Proof.Machine Sys2Proof.Machine.Hub

/-- Settles O47: each clause is one case of a write of the time, of a step, of the slew, of alignment's lapse, or of a delay probe. -/
theorem timebase : Obligations.Timebase := by
  unfold Obligations.Timebase
  dsimp only [exec, execTimeSet, execTimeTrim, execTimebaseStep, execTimebaseSlewTick, execSyncMessageTimeout, execProbeIntervalExpiry]
  intro t s v w p
  refine ⟨fun writable source ahead => act_eq ?_, fun writable state => act_eq ?_, fun refused => act_eq ?_, fun writable source => act_eq ?_,
    fun writable sink => act_eq ?_, fun refused => act_eq ?_, fun falls back => act_eq ?_, fun falls forward offset => act_eq ?_,
    fun falls forward set => act_eq ?_, fun waits => act_eq ?_, fun spaced up => act_eq ?_, fun spaced up down => act_eq ?_,
    fun none => act_eq ?_, fun due aligned => act_eq ?_, fun due notAligning notLocked => act_eq ?_, fun early => act_eq ?_,
    fun due active ts => act_eq ?_, fun due active packets gives => act_eq ?_, fun due active packets takes => act_eq ?_,
    fun due inactive => act_eq ?_, fun early => act_eq ?_⟩
  · exact judged_ok (timeSetCode_ok writable source ahead)
  · exact judged_code (timeSetCode_state writable state) (by decide)
  · exact judged_code (timeSetCode_refused refused) refused
  · exact judged_ok (timeTrimCode_ok writable source)
  · exact judged_code (timeTrimCode_state writable sink) (by decide)
  · exact judged_code (timeTrimCode_refused refused) refused
  · exact stepTimebase_dropped falls back
  · exact stepTimebase_offset falls forward offset
  · exact stepTimebase_set falls forward set
  · exact stepTimebase_not waits
  · exact slewTick_adds spaced up
  · exact slewTick_omits spaced up down
  · exact slewTick_not none
  · exact syncLapse_lapses due aligned
  · exact syncLapse_other due notAligning notLocked
  · exact syncLapse_early early
  · exact probeDelay_frame due active ts
  · exact probeDelay_ping due active packets gives
  · exact probeDelay_silent due active packets takes
  · exact probeDelay_inactive due inactive
  · exact probeDelay_early early
end

section
/-!
The switch, case by case (R279, R283 to R297, R301): a header, a frame's verdict, the begin and the end of a copy, a stalled CUT copy, an error of
Shale's memory, and the end of REJOIN_HOLD.
-/
namespace Sys2Proof.Machine.Hub

section
variable {h : Hub} {p : Nat}

/-! ### A header at a cable port (R283 to R290) -/

section
variable {n : Nat}

/-- Shale takes a header of port p: what its endpoint still held without an end leaves, its stream begins, and its LINK_SEQ is read. -/
def headerTaken (p n : Nat) (h : Hub) : Hub :=
  ((h.dropUntold p (h.frameEpIn p (hClass n))).putStream (h.streamOf p (h.frameEpIn p (hClass n)))).linkSeq p (h.frameEpIn p (hClass n)) n

/-- A header reaches Granite: port p takes frames in, the header passes its check, and it is no LINK frame. -/
abbrev reachesSwitch (h : Hub) (p n : Nat) : Prop := h.takesIn p = true ∧ withCheck n = n ∧ hFtype n ≠ 3

theorem headerReceived_ignored (ignored : h.takesIn p = false ∨ withCheck n ≠ n ∨ hFtype n = 3) : h.headerReceived p n = h := by
  unfold headerReceived
  rcases ignored with closed | bad
  · exact if_pos (by simp [closed])
  · exact ite_eq_left_iff.2 fun _ => if_pos bad

section
variable (reaches : h.reachesSwitch p n)
include reaches

/-- A header that reaches Granite is judged by what its link discards. -/
theorem headerReceived_reaches : h.headerReceived p n =
    if h.linkRefuses p n then h.returnCredit p (hClass n) (frameCost n)
    else if hHops n = 15 then ((h.headerTaken p n).inc (Od.HOPS_EXCEEDED p)).refuseFrame p n 14
    else if 1024 < hLen n ∨ !(hFtype n == 0 || hFtype n == 2) then (h.headerTaken p n).refuseFrame p n 9
    else ((h.headerTaken p n).enterFrame p n 0 0 false none 0).returnCredit p (hClass n) (frameCost n) := by
  obtain ⟨takes, checked, routed⟩ := reaches
  exact (if_neg (by simp [takes])).trans (if_neg (not_or.2 ⟨not_not.2 checked, routed⟩))

theorem headerReceived_discarded (refuses : h.linkRefuses p n = true) :
    h.headerReceived p n = h.returnCredit p (hClass n) (frameCost n) :=
  (headerReceived_reaches reaches).trans (if_pos refuses)

variable (passes : h.linkRefuses p n = false)
include passes

theorem headerReceived_hops (spent : hHops n = 15) :
    h.headerReceived p n = ((h.headerTaken p n).inc (Od.HOPS_EXCEEDED p)).refuseFrame p n 14 := by
  rw [headerReceived_reaches reaches, if_neg (by simp [passes]), if_pos spent]

variable (more : hHops n ≠ 15)
include more

theorem headerReceived_malformed (malformed : 1024 < hLen n ∨ (hFtype n ≠ 0 ∧ hFtype n ≠ 2)) :
    h.headerReceived p n = (h.headerTaken p n).refuseFrame p n 9 := by
  rw [headerReceived_reaches reaches, if_neg (by simp [passes]), if_neg more, if_pos (by simpa using malformed)]

theorem headerReceived_enters (known : hFtype n = 0 ∨ hFtype n = 2) (fits : hLen n ≤ 1024) : h.headerReceived p n =
    ((h.headerTaken p n).enterFrame p n 0 0 false none 0).returnCredit p (hClass n) (frameCost n) := by
  have wellFormed : ¬ (1024 < hLen n ∨ (!(hFtype n == 0 || hFtype n == 2)) = true) := by
    simpa [fits] using or_iff_not_imp_left.1 known
  rw [headerReceived_reaches reaches, if_neg (by simp [passes]), if_neg more, if_neg wellFormed]

end
end

/-! ### A frame that enters whole (R285) -/

section
variable {header payload named : Nat}

theorem injectFrame_enters (on : h.switchOn = true) :
    h.injectFrame p header payload named = h.enterFrame p header payload named true none 0 := if_pos on

theorem injectFrame_off (off : h.switchOn = false) : h.injectFrame p header payload named = h := if_neg (by simp [off])

end

/-! ### A frame's verdict (R293 to R295) -/

section
variable {ep len data tag crc : Nat} {fin : FrameFin} {f : Frame}

theorem verdictOf_none (none : h.receiving p ep = none) : h.verdictOf p ep len data tag crc fin = h := by
  rw [verdictOf, none]

section
variable (found : h.receiving p ep = some f)
include found

theorem verdictOf_good (good : h.frameJudged p f.header len data tag crc fin = true) : h.verdictOf p ep len data tag crc fin =
    (if ep = 0 then h else h.streamDone p ep (20 + hLen f.header)).frameGood f (h.plainOf p f.header len data tag) := by
  rw [verdictOf, found]
  exact if_pos good

theorem verdictOf_bad (bad : h.frameJudged p f.header len data tag crc fin = false) : h.verdictOf p ep len data tag crc fin =
    (if ep = 0 then h else h.streamDone p ep (20 + hLen f.header)).frameBad
      { f with
        payload := h.plainOf p f.header len data tag % 256 ^ min len (hLen f.header)
        got := min len (hLen f.header) } (fin == .truncated) := by
  rw [verdictOf, found]
  exact if_neg (by simp [bad])

end
end

/-! ### A copy's turn at an egress (R217, R232, R292, R302) -/

section
variable {f : Frame} {c : Copy} {cut : Bool}

/-- An egress is free to begin a copy: the switch and its PHY are ON, no copy is under way, and the serial function leaves the frames to it. -/
abbrev egressFree (h : Hub) (p : Nat) : Prop :=
  h.switchOn = true ∧ h.phyOn p = true ∧ h.begunCopy p = none ∧ h.serialTakes p 4 = false

/-- The copy leads to a device that is not assigned to the port (R232). -/
abbrev leadsAstray (h : Hub) (p : Nat) (f : Frame) : Prop :=
  p < 16 ∧ h.farIsHub p = false ∧ h.assignedTo p (hDest f.header % 4096 / 16) = false

theorem egressFree_iff :
    ¬ ((!h.switchOn) = true ∨ (!h.phyOn p) = true ∨ (h.begunCopy p).isSome = true ∨ h.serialTakes p 4 = true) ↔ h.egressFree p := by
  simp

theorem leadsAstray_iff :
    (p < 16 ∧ (!h.farIsHub p) = true ∧ (!h.assignedTo p (hDest f.header % 4096 / 16)) = true) ↔ h.leadsAstray p f := by
  simp

theorem copyStart_occupied (occupied : ¬ h.egressFree p) : h.copyStart p cut = h := if_pos (not_not.1 (mt egressFree_iff.1 occupied))

theorem copyStart_none (none : h.nextCopy p cut = none) : h.copyStart p cut = h := by
  rw [copyStart, none]
  exact ite_self _

section
variable (free : h.egressFree p) (next : h.nextCopy p cut = some (f, c))
include free next

/-- The copy that is next at a free egress is judged by its port, then by its address. -/
theorem copyStart_next : h.copyStart p cut =
    if !h.canTake p then (if h.engineRuns p then h else h.dropCopy 12 f.id p)
    else if p < 16 ∧ !h.farIsHub p ∧ !h.assignedTo p (hDest f.header % 4096 / 16) then h.dropCopy 12 f.id p
    else if p < 18 then (h.beginCopy f c).wr (Reg.outPk p) 0 else h.beginCopy f c := by
  rw [copyStart, if_neg (egressFree_iff.2 free), next]

section
variable (shut : h.canTake p = false)
include shut

theorem copyStart_gone (rests : h.engineRuns p = false) : h.copyStart p cut = h.dropCopy 12 f.id p := by
  rw [copyStart_next free next, if_pos (by simp [shut]), if_neg (by simp [rests])]

/-- Where the engine of the port runs, the copy stays queued while the port cannot take it (Table 7-2, Kept; log entry 30). -/
theorem copyStart_kept (runs : h.engineRuns p = true) : h.copyStart p cut = h := by
  rw [copyStart_next free next, if_pos (by simp [shut]), if_pos runs]

end

variable (ready : h.canTake p = true)
include ready

theorem copyStart_astray (astray : h.leadsAstray p f) : h.copyStart p cut = h.dropCopy 12 f.id p := by
  rw [copyStart_next free next, if_neg (by simp [ready]), if_pos (leadsAstray_iff.2 astray)]

theorem copyStart_cable (leads : ¬ h.leadsAstray p f) (cable : p < 18) :
    h.copyStart p cut = (h.beginCopy f c).wr (Reg.outPk p) 0 := by
  rw [copyStart_next free next, if_neg (by simp [ready]), if_neg (mt leadsAstray_iff.1 leads), if_pos cable]

theorem copyStart_inner (inner : 18 ≤ p) : h.copyStart p cut = h.beginCopy f c := by
  have leads : ¬ h.leadsAstray p f := fun ⟨port, _⟩ => absurd port (by omega)
  rw [copyStart_next free next, if_neg (by simp [ready]), if_neg (mt leadsAstray_iff.1 leads), if_neg (Nat.not_lt.2 inner)]

end

/-! ### A copy's end (R198, R232, R292, R294) -/

/-- DATA packets of the copy on a packet link of port p are still to be acknowledged. -/
abbrev packetsLeft (h : Hub) (p : Nat) (f : Frame) : Prop :=
  p < 18 ∧ h.rd (Od.LINK_CLASS p) ≠ 4 ∧ h.rd (Reg.outPk p) < packetsOf (h.portMax p) (childLen f)

theorem copyEnd_none (none : h.begunCopy p = none) : h.copyEnd p = h := by
  rw [copyEnd, none]

section
variable (begun : h.begunCopy p = some (f, c))
include begun

theorem copyEnd_finishes (told : f.verdict ≠ 0) (undelivered : h.deliveries.any (fun v => v.port == p) = false)
    (sent : ¬ h.packetsLeft p f) : h.copyEnd p = h.finishCopy f c := by
  rw [copyEnd, begun]
  exact if_neg (not_or.2 ⟨told, not_or.2 ⟨by simp [undelivered], sent⟩⟩)

theorem copyEnd_waits (waits : f.verdict = 0 ∨ h.deliveries.any (fun v => v.port == p) = true ∨ h.packetsLeft p f) : h.copyEnd p = h := by
  rw [copyEnd, begun]
  exact if_pos waits

end

/-! ### A CUT copy that stalls (R297) -/

/-- The frame of a CUT copy on a packet link has stood still for CUT_STALL before its end. -/
abbrev cutStands (h : Hub) (p : Nat) (f : Frame) (c : Copy) : Prop :=
  c.cut = true ∧ f.verdict = 0 ∧ h.rd (Od.LINK_CLASS p) ≠ 4 ∧
    (h.streamOf f.ingress (h.frameEpIn f.ingress (hClass f.header))).last + ms (h.rd Od.CUT_STALL) ≤ h.now

theorem cutStall_none (none : h.begunCopy p = none) : h.cutStall p = h := by
  rw [cutStall, none]

section
variable (begun : h.begunCopy p = some (f, c))
include begun

theorem cutStall_poisons (stands : h.cutStands p f c) : h.cutStall p = (h.poisonCopy (h.soFar f) c).countDrop 13 p := by
  rw [cutStall, begun]
  exact if_pos stands

theorem cutStall_goes (goes : ¬ h.cutStands p f c) : h.cutStall p = h := by
  rw [cutStall, begun]
  exact if_neg goes

end
end

/-! ### An error of Shale's memory (R279) -/

section
variable {bank cell : Nat}

/-- Only a write of BANK_MAP changes which frame holds a physical cell. -/
theorem cellHolder_wr {k v : Nat} (other : k ≠ Od.BANK_MAP) : (h.wr k v).cellHolder bank cell = h.cellHolder bank cell := by
  unfold cellHolder physCell
  rw [rd_wr_ne _ _ _ _ other.symm]
  rfl

theorem cellHolder_counted : (h.inc Od.ECC_UNCORRECTED).cellHolder bank cell = h.cellHolder bank cell := cellHolder_wr (by decide)

theorem eccError_corrected : h.eccError bank cell false = (h.inc Od.ECC_CORRECTED).report 0x01 (bank + cell * 65536) 0 := rfl

theorem eccError_unheld (unheld : h.cellHolder bank cell = none) :
    h.eccError bank cell true = (h.inc Od.ECC_UNCORRECTED).report 0x02 (bank + cell * 65536) 0 := by
  simp [eccError, unheld]

theorem eccError_held {f : Frame} (held : h.cellHolder bank cell = some f) : h.eccError bank cell true =
    ((h.inc Od.ECC_UNCORRECTED).report 0x02 (bank + cell * 65536) 0).badByEcc f.id := by
  simp [eccError, held]

end

/-! ### The end of REJOIN_HOLD (R301) -/

theorem rejoin_due (due : h.due (Tm.rejoin p) = true) : h.rejoin p = h.wr (Tm.rejoin p) 0 := expire_due h _ _ due

theorem rejoin_early (early : h.due (Tm.rejoin p) = false) : h.rejoin p = h := expire_not_due h _ _ early

end

end Sys2Proof.Machine.Hub

namespace Sys2Proof.Machine

/-- At a cable port the command is the header's reception there. -/
theorem execFrameHeaderReceived_cable {t : Stamp} {s : State} {p : Cable} {q named : SwPort} {header : BitVec 128} {payload : Nat} {x : Hub}
    (same : p.val = q.val) (received : (s.arrive t).headerReceived p header.toNat = x) :
    execFrameHeaderReceived t q header payload named s = .next (s.settled x) :=
  act_eq ((if_pos (same ▸ p.isLt)).trans (same ▸ received))

end Sys2Proof.Machine

open Sys2Proof.Machine Sys2Proof.Machine.Hub

/-- Settles O48: each clause is one case of a header, of a verdict, of a copy's begin, end or stall, of a memory error, or of REJOIN_HOLD. -/
theorem switchMoves : Obligations.SwitchMoves := by
  unfold Obligations.SwitchMoves
  dsimp only [exec, execFrameVerdict, execEgressCopyStart, execEgressCopyEnd, execCutStallTimeout, execEccError, execRejoinHoldExpiry]
  intro t s p q h pay f c cut bank cell ep len data tag crc fin named
  refine ⟨fun ⟨same, takes, checked, routed, clear⟩ spent => execFrameHeaderReceived_cable same ?_,
    fun ⟨same, takes, checked, routed, clear⟩ more malformed => execFrameHeaderReceived_cable same ?_,
    fun ⟨same, takes, checked, routed, clear⟩ more known fits => execFrameHeaderReceived_cable same ?_,
    fun same takes checked routed refuses => execFrameHeaderReceived_cable same ?_,
    fun same ignored => execFrameHeaderReceived_cable same ?_, fun on => act_eq ?_, fun on => act_eq ?_, fun off => act_eq ?_,
    fun found good => act_eq ?_, fun found bad => act_eq ?_, fun none => act_eq ?_,
    fun ⟨on, phy, idle, ours, next⟩ shut rests => act_eq ?_, fun ⟨on, phy, idle, ours, next⟩ shut runs => act_eq ?_,
    fun ⟨on, phy, idle, ours, next⟩ ready astray => act_eq ?_, fun ⟨on, phy, idle, ours, next⟩ ready leads cable => act_eq ?_,
    fun ⟨on, phy, idle, ours, next⟩ ready inner => act_eq ?_, fun rests => act_eq ?_,
    fun begun told undelivered sent => act_eq (congrArg (keyWorn q) ?_), fun begun waits => act_eq (congrArg (keyWorn q) ?_),
    fun none => act_eq (congrArg (keyWorn q) ?_), fun begun stands => act_eq ?_, fun begun goes => act_eq ?_, fun none => act_eq ?_,
    act_eq ?_, fun unheld => act_eq ?_, fun held => act_eq ?_, fun due => act_eq ?_, fun early => act_eq ?_⟩
  · exact headerReceived_hops ⟨takes, checked, routed⟩ clear spent
  · exact headerReceived_malformed ⟨takes, checked, routed⟩ clear more malformed
  · exact headerReceived_enters ⟨takes, checked, routed⟩ clear more known fits
  · exact headerReceived_discarded ⟨takes, checked, routed⟩ refuses
  · exact headerReceived_ignored ignored
  · exact injectFrame_enters on
  · exact injectFrame_enters on
  · exact injectFrame_off off
  · exact verdictOf_good found good
  · exact verdictOf_bad found bad
  · exact verdictOf_none none
  · exact copyStart_gone ⟨on, phy, idle, ours⟩ next shut rests
  · exact copyStart_kept ⟨on, phy, idle, ours⟩ next shut runs
  · exact copyStart_astray ⟨on, phy, idle, ours⟩ next ready astray
  · exact copyStart_cable ⟨on, phy, idle, ours⟩ next ready leads cable
  · exact copyStart_inner ⟨on, phy, idle, ours⟩ next ready inner
  · rcases rests with off | phyOff | busy | serial | none
    · exact copyStart_occupied fun ⟨on, _⟩ => by simp [on] at off
    · exact copyStart_occupied fun ⟨_, phy, _⟩ => by simp [phy] at phyOff
    · exact copyStart_occupied fun ⟨_, _, idle, _⟩ => busy idle
    · exact copyStart_occupied fun ⟨_, _, _, ours⟩ => by simp [ours] at serial
    · exact copyStart_none none
  · exact copyEnd_finishes begun told undelivered sent
  · exact copyEnd_waits begun waits
  · exact copyEnd_none none
  · exact cutStall_poisons begun stands
  · exact cutStall_goes begun goes
  · exact cutStall_none none
  · exact eccError_corrected
  · exact eccError_unheld (cellHolder_counted.symm.trans unheld)
  · exact eccError_held (cellHolder_counted.symm.trans held)
  · exact rejoin_due due
  · exact rejoin_early early
end

section
/-!
The tables and the audit, case by case (R312 to R314, R319 to R321): a PUBLISH and its instant, and the start and the end of an audit.
-/
namespace Sys2Proof.Machine.Hub

section
variable {h : Hub}

/-! ### PUBLISH (R313) and its instant (R314) -/

theorem publish_domainOff (off : h.isOn 2 = false) : h.publish = h.wr Od.PUBLISH_RESULT 3 := if_pos (by simp [off])

section
variable (on : h.isOn 2 = true)
include on

/-- While PD2 is ON, a PUBLISH is judged by one on its way, then by an epoch that drains. -/
theorem publish_judged : h.publish =
    if h.running Tm.publish then h.wr Od.PUBLISH_RESULT 2
    else if h.rd Od.EPOCH_DRAINING ≠ 0xFF then (h.wr Od.PUBLISH_RESULT 2).wr Reg.publishAt (h.now + 1)
    else h.publishDone := if_neg (by simp [on])

/-- Until its instant, a PUBLISH that is DONE makes a further one meet DRAINING (log entry 68). -/
theorem publish_onItsWay (running : h.running Tm.publish = true) : h.publish = h.wr Od.PUBLISH_RESULT 2 :=
  (publish_judged on).trans (if_pos running)

section
variable (idle : h.running Tm.publish = false)
include idle

theorem publish_draining (draining : h.rd Od.EPOCH_DRAINING ≠ 0xFF) :
    h.publish = (h.wr Od.PUBLISH_RESULT 2).wr Reg.publishAt (h.now + 1) := by
  rw [publish_judged on, if_neg (by simp [idle]), if_pos draining]

theorem publish_done (drained : h.rd Od.EPOCH_DRAINING = 0xFF) :
    h.publish = ((h.wr Od.PUBLISH_RESULT 1).inc Od.PUBLISHES).arm Tm.publish 0 := by
  rw [publish_judged on, if_neg (by simp [idle]), if_neg (not_not.2 drained), publishDone]

end
end

/-- The end of PUBLISH's timer leaves EPOCH_LIVE as it stood. -/
theorem rd_publishFallen_epoch : (h.wr Tm.publish 0).rd Od.EPOCH_LIVE = h.rd Od.EPOCH_LIVE := rd_wr_ne h _ 0 _ (by decide)

theorem publishEffect_due (due : h.due Tm.publish = true) : h.publishEffect =
    ((((h.wr Tm.publish 0).shadowToLive.wr Od.EPOCH_LIVE ((h.rd Od.EPOCH_LIVE + 1) % 4)).wr Od.EPOCH_DRAINING (h.rd Od.EPOCH_LIVE)).wr
      Od.PUBLISH_TIME (h.wr Tm.publish 0).stamp).refreshEpochs := by
  rw [publishEffect, expire_due h _ _ due, rd_publishFallen_epoch]

theorem publishEffect_early (early : h.due Tm.publish = false) : h.publishEffect = h := expire_not_due h _ _ early

/-! ### An audit's start (R320) and its end (R320, R321) -/

/-- The conditions under which an audit starts at a stamp. -/
abbrev auditStarts (h : Hub) : Prop :=
  h.rd Od.AUDIT_ENABLE = 1 ∧ h.isOn 2 = true ∧ h.running Tm.auditEnd = false ∧ h.auditFalls = true

theorem auditStart_starts (starts : h.auditStarts) : h.auditStart = h.arm Tm.auditEnd 0 := if_pos starts

theorem auditStart_not (waits : ¬ h.auditStarts) : h.auditStart = h := if_neg waits

/-- The orphans that an audit finds: the cells given to it that no frame holds and whose domain is ON, each with its tag. -/
def auditFound (orphans : List Nat) (h : Hub) : List Orphan :=
  (orphans.filter (fun c => !h.cellHeld (c / 512) (c % 512) && h.isOn (bankDomain (c / 512)))).map (fun c => (c, h.rd (Reg.cellTag c)))

/-- The orphans that the audit before found too, with the same tag. -/
def auditAgain (orphans : List Nat) (h : Hub) : List Orphan := (h.auditFound orphans).filter (fun o => h.orphans.contains o)

/-- An audit keeps what it found for the first time, and counts itself. -/
def auditNoted (orphans : List Nat) (h : Hub) : Hub :=
  ((({ h with orphans := (h.auditFound orphans).filter (fun o => !h.orphans.contains o) } : Hub).wr Od.LAST_AUDIT_TIME h.stamp).wr
    Od.ORPHANS_LAST (h.auditFound orphans).length).inc Od.AUDITS

/-- The orphans found twice return to the free lists of their domains, and are counted and reported. -/
def auditReclaimed (again : List Orphan) (h : Hub) : Hub :=
  (((h.reclaim 3 (again.filter (fun o => orphanDomain o == 3)).length).reclaim 4
    (again.filter (fun o => orphanDomain o == 4)).length).add Od.ORPHANS_RECLAIMED again.length).report 0x07 again.length 0

/-- Each cell doubly linked is counted and raised as a fault. -/
def doublesRaised (cells : List Nat) (h : Hub) : Hub := cells.foldl (fun v c => (v.inc Od.DOUBLE_LINKS).report 0x08 c 0) h

/-- The cells doubly linked that an audit classes: those of a domain that is ON. -/
def doublesClassed (doubles : List Nat) (h : Hub) : List Nat := doubles.filter (fun c => h.isOn (bankDomain (c / 512)))

section
variable {orphans doubles : List Nat}

theorem auditComplete_off (off : h.isOn 2 = false) : h.auditComplete orphans doubles = h := if_pos (by simp [off])

section
variable (on : h.isOn 2 = true) (due : h.due Tm.auditEnd = true)
include on due

/-- An audit's end notes what it found, reclaims what was found twice, and raises the double links. -/
theorem auditComplete_ends : h.auditComplete orphans doubles =
    doublesRaised ((h.wr Tm.auditEnd 0).doublesClassed doubles)
      (if ((h.wr Tm.auditEnd 0).auditAgain orphans).length = 0 then (h.wr Tm.auditEnd 0).auditNoted orphans
      else ((h.wr Tm.auditEnd 0).auditNoted orphans).auditReclaimed ((h.wr Tm.auditEnd 0).auditAgain orphans)) :=
  (if_neg (by simp [on])).trans (expire_due h _ _ due)

theorem auditComplete_notes (fresh : ((h.wr Tm.auditEnd 0).auditAgain orphans).length = 0) : h.auditComplete orphans doubles =
    doublesRaised ((h.wr Tm.auditEnd 0).doublesClassed doubles) ((h.wr Tm.auditEnd 0).auditNoted orphans) := by
  rw [auditComplete_ends on due, if_pos fresh]

theorem auditComplete_reclaims (again : ((h.wr Tm.auditEnd 0).auditAgain orphans).length ≠ 0) : h.auditComplete orphans doubles =
    doublesRaised ((h.wr Tm.auditEnd 0).doublesClassed doubles)
      (((h.wr Tm.auditEnd 0).auditNoted orphans).auditReclaimed ((h.wr Tm.auditEnd 0).auditAgain orphans)) := by
  rw [auditComplete_ends on due, if_neg again]

end
end
end

end Sys2Proof.Machine.Hub

open Sys2Proof.Machine Sys2Proof.Machine.Hub

/-- Settles O49: each clause is one case of a PUBLISH or its instant, of REVERT or RING_CLEAR, or of an audit's start or end. -/
theorem tablesAndAudit : Obligations.TablesAndAudit := by
  unfold Obligations.TablesAndAudit
  dsimp only [exec, execPublish, execPublishEffect, execRevert, execRingClear, execAuditStart, execAuditComplete]
  intro t s os ds
  refine ⟨fun on drained idle => act_eq (congrArg (wrote _) ?_), fun on draining idle => act_eq (congrArg (wrote _) ?_),
    fun on running => act_eq (congrArg (wrote _) ?_), fun off => act_eq (congrArg (wrote _) ?_), fun due => act_eq ?_,
    fun early => act_eq ?_, fun writable => act_writing writable rfl, fun writable => act_writing writable rfl,
    fun starts => act_eq ?_, fun waits => act_eq ?_, fun on due fresh => act_eq ?_, fun on due again => act_eq ?_,
    fun rests => act_eq ?_⟩
  · exact publish_done on idle drained
  · exact publish_draining on idle draining
  · exact publish_onItsWay on running
  · exact publish_domainOff off
  · exact publishEffect_due due
  · exact publishEffect_early early
  · exact auditStart_starts starts
  · exact auditStart_not waits
  · exact auditComplete_notes on due fresh
  · exact auditComplete_reclaims on due again
  · rcases rests with off | early
    · exact auditComplete_off off
    · exact auditComplete_early early
end

section
/-!
The commands that wait (R359, log entry 1): a step runs the one at the front, or idles.
-/
namespace Sys2Proof.Machine

theorem step_front {s : State} {c : Instr} {rest : List Instr} (front : s.pending = c :: rest) :
    step s = exec c { s with pending := rest } := by
  rw [step, front]

theorem step_idle {s : State} (none : s.pending = []) : step s = .next s := by
  rw [step, none]

end Sys2Proof.Machine

open Sys2Proof.Machine

/-- Settles O1: a step is told by the commands that wait, and a command's meaning keeps those behind it. -/
theorem stepRunsFront : Obligations.StepRunsFront := by
  unfold Obligations.StepRunsFront
  refine ⟨fun c s => step_front rfl, fun c rest s t front answers => ⟨(step_front front).trans answers, ?_⟩, fun s => step_idle⟩
  obtain ⟨u, next, kept⟩ := exec_next c { s with pending := rest }
  obtain rfl : u = t := Host.Outcome.next.inj (next.symm.trans answers)
  exact kept
end

section
/-!
Full resets (R471, R489 to R492, Table 17-2): what a full reset keeps, what it empties and what its cause says; and the reaction of level L5, whose
record is written first.
-/
namespace Sys2Proof.Machine

namespace Hub

/-- Where no step of a fold changes a part of the hub, the fold does not. -/
theorem foldl_keeps {α β : Type} {part : Hub → β} {f : Hub → α → Hub} (kept : ∀ (x : Hub) (a : α), part (f x a) = part x) (l : List α) (h : Hub) :
    part (l.foldl f h) = part h := by
  induction l generalizing h with
  | nil => rfl
  | cons a r ih => exact (ih (f h a)).trans (kept h a)

/-- The parts beside the cells that a full reset keeps, or empties (R489 to R491). -/
structure ResetParts where
  now : Nat
  flash : List (Nat × Nat)
  nv : List NvCopy
  log : List LogRec
  unacked : List Unacked
  frames : List Frame

/-- These parts of a hub. -/
def resetParts (h : Hub) : ResetParts := ⟨h.now, h.flash, h.nv, h.log, h.unacked, h.frames⟩

section
variable {h : Hub}

/-! ### What a full reset keeps (R489 to R492) -/

theorem resetParts_copyCells (src : Hub) (l : List Nat) (h : Hub) : (copyCells src l h).resetParts = h.resetParts := by
  induction l generalizing h with
  | nil => rfl
  | cons k r ih => exact ih (h.wr k (src.rd k))

theorem resetParts_enterHold (src : Hub) : (enterHold src h).resetParts = h.resetParts := by
  unfold enterHold
  split
  · rfl
  · refine foldl_keeps (part := resetParts) (fun x r => ?_) _ _
    split <;> rfl

theorem rd_enterHold_hold (src : Hub) : (enterHold src h).rd Reg.hold = 1 := by
  unfold enterHold
  split <;> exact rd_wr_self _ _ _

/-- The hub at its defaults, with what POWER_ON keeps beside the cells (R489, R491). -/
def resetBase (h : Hub) : Hub := { Hub.reset with now := h.now, out := h.out, nv := h.nv, flash := h.flash }

/-- What a reset other than POWER_ON keeps: Bedrock's retained cells, the log, and the timebase's value (R489). -/
def resetRetained (h : Hub) : Hub :=
  let x := copyCells h retainedKeys { copyCells h nvKeys h.resetBase with log := h.log }
  let y := x.wr Reg.evqQueued (h.rd Reg.evqDelivered)
  if h.isOn 5 then y.wr Reg.tbBase h.timebase |>.wr Reg.tbAt h.now else y

/-- The hub that a full reset leaves before the power die's hold and the cause. -/
def resetKept (cause : Nat) (h : Hub) : Hub :=
  if cause = 1 then (copyCells h nvKeys h.resetBase).wr Reg.rtcStart h.now |>.wr Reg.tbAt h.now else h.resetRetained

/-- A full reset notes its cause after what it keeps, stands at stage 0, and starts on the RC oscillator (R490, R493). -/
def resetNoted (cause now : Nat) (h : Hub) : Hub :=
  let x := h.wr Od.RESET_CAUSE cause |>.wr Od.BOOT_STAGE 0 |>.wr Reg.resetAt (now + 1)
  ((if cause = 2 then x.inc Od.BROWNOUTS else x).arm Tm.lfStart (ms 2000)).wr Od.LF_SOURCE 1

theorem fullReset_stages (cause : Nat) (h : Hub) : h.fullReset cause = (enterHold h (h.resetKept cause)).resetNoted cause h.now := rfl

theorem resetParts_log (l : List LogRec) (h : Hub) : ({ h with log := l } : Hub).resetParts = { h.resetParts with log := l } := rfl

theorem resetParts_wr (k v : Nat) (h : Hub) : (h.wr k v).resetParts = h.resetParts := rfl

theorem resetParts_resetRetained : h.resetRetained.resetParts = ⟨h.now, h.flash, h.nv, h.log, [], []⟩ := by
  have base : h.resetBase.resetParts = ⟨h.now, h.flash, h.nv, [], [], []⟩ := rfl
  simp only [resetRetained, apply_ite resetParts, resetParts_wr, resetParts_copyCells, resetParts_log, base, ite_self]

theorem resetParts_resetKept (cause : Nat) :
    (h.resetKept cause).resetParts = ⟨h.now, h.flash, h.nv, if cause = 1 then [] else h.log, [], []⟩ := by
  by_cases power : cause = 1
  · rw [resetKept, if_pos power, if_pos power]
    simp only [resetParts_wr, resetParts_copyCells]
    rfl
  · rw [resetKept, if_neg power, if_neg power]
    exact resetParts_resetRetained

theorem resetParts_resetNoted (cause now : Nat) : (h.resetNoted cause now).resetParts = h.resetParts := by
  unfold resetNoted
  split <;> rfl

theorem resetParts_fullReset (cause : Nat) :
    (h.fullReset cause).resetParts = ⟨h.now, h.flash, h.nv, if cause = 1 then [] else h.log, [], []⟩ := by
  rw [fullReset_stages, resetParts_resetNoted, resetParts_enterHold, resetParts_resetKept]

/-- The cells that the end of a full reset writes are its own. -/
theorem rd_resetNoted (cause now j : Nat) (h : Hub) (cause_ne : j ≠ Od.BROWNOUTS) (start : j ≠ Tm.lfStart) (source : j ≠ Od.LF_SOURCE) :
    (h.resetNoted cause now).rd j = if j = Reg.resetAt then now + 1 else if j = Od.BOOT_STAGE then 0 else if j = Od.RESET_CAUSE then cause else h.rd j := by
  unfold resetNoted
  rw [rd_wr_ne _ _ _ _ source, rd_arm, if_neg start]
  split
  · rw [rd_inc, if_neg cause_ne, rd_wr, rd_wr, rd_wr]
  · rw [rd_wr, rd_wr, rd_wr]

theorem rd_fullReset_cause (cause : Nat) (h : Hub) : (h.fullReset cause).rd Od.RESET_CAUSE = cause := by
  rw [fullReset_stages, rd_resetNoted _ _ _ _ (by decide) (by decide) (by decide), if_neg (by decide), if_neg (by decide), if_pos rfl]

theorem rd_fullReset_stage (cause : Nat) (h : Hub) : (h.fullReset cause).rd Od.BOOT_STAGE = 0 := by
  rw [fullReset_stages, rd_resetNoted _ _ _ _ (by decide) (by decide) (by decide), if_neg (by decide), if_pos rfl]

theorem rd_fullReset_hold (cause : Nat) (h : Hub) : (h.fullReset cause).rd Reg.hold = 1 := by
  rw [fullReset_stages, rd_resetNoted _ _ _ _ (by decide) (by decide) (by decide), if_neg (by decide), if_neg (by decide), if_neg (by decide)]
  exact rd_enterHold_hold h

/-- FULL_RESET waits for its delay and for the copies being written (R492). -/
theorem commandReset_resets (due : h.due Tm.fullReset = true) (saved : h.saving = none) (stored : h.running Tm.repairSave = false) :
    h.commandReset = h.fullReset 4 := if_pos (by simp [due, saved, stored])

/-! ### The log takes a record (R462, R471) -/

/-- A part of the hub that a report's record does not pass through: it tells no cell, no acknowledgement, no shadow, no word of EVQ and nothing sent
out. -/
structure ReportBlind {β : Type} (part : Hub → β) : Prop where
  wr : ∀ (x : Hub) (k v : Nat), part (x.wr k v) = part x
  unacked : ∀ (x : Hub) (l : List Unacked), part { x with unacked := l } = part x
  shadows : ∀ (x : Hub) (l : List Shadow), part { x with shadows := l } = part x
  evq : ∀ (x : Hub) (l : List FifoWord), part { x with evq := l } = part x
  out : ∀ (x : Hub) (l : List Emission), part { x with out := l } = part x

theorem reportBlind_log : ReportBlind Hub.log := ⟨fun _ _ _ => rfl, fun _ _ => rfl, fun _ _ => rfl, fun _ _ => rfl, fun _ _ => rfl⟩

theorem reportBlind_reactions : ReportBlind Hub.reactions := ⟨fun _ _ _ => rfl, fun _ _ => rfl, fun _ _ => rfl, fun _ _ => rfl, fun _ _ => rfl⟩

/-- The log with a record more: it holds the last 512. -/
def logWith (r : LogRec) (l : List LogRec) : List LogRec := if l.length < 512 then l ++ [r] else (l ++ [r]).drop 1

theorem mem_logWith (r : LogRec) (l : List LogRec) : r ∈ logWith r l := by
  unfold logWith
  split
  · simp
  · cases l <;> simp at *

section
variable {β : Type} {part : Hub → β} (blind : ReportBlind part)
include blind

theorem ReportBlind.appendLog (r : LogRec) (h : Hub) : part (h.appendLog r) = part { h with log := logWith r h.log } := by
  unfold Hub.appendLog logWith
  split
  · exact blind.wr _ _ _
  next full =>
    split
    next empty => simp [empty] at full
    · simp only [Hub.inc, apply_ite part, blind.wr, ite_self]
      exact blind.wr { h with log := (h.log ++ [r]).drop 1 } _ _

theorem ReportBlind.openShadow (s : Shadow) (h : Hub) : part (h.openShadow s) = part h := by
  unfold Hub.openShadow
  dsimp only
  split
  · exact blind.shadows _ _
  · exact (blind.wr _ _ _).trans (blind.shadows _ _)

theorem ReportBlind.pumpEvqN (n : Nat) (h : Hub) : part (h.pumpEvqN n) = part h := by
  induction n generalizing h with
  | zero => rfl
  | succ n ih =>
    unfold Hub.pumpEvqN
    split
    · rfl
    · split
      · rw [ih, blind.wr, blind.wr, blind.evq]
      · rfl

theorem ReportBlind.pumpManager (h : Hub) : part h.pumpManager = part h := by
  unfold Hub.pumpManager
  split
  · rw [blind.wr, blind.out]
  · rfl

end
end

/-- The record that a report handled normally writes (Table 16-2). -/
def normalRecord (h : Hub) (r : Report) : LogRec :=
  let row := sourceRow r.src
  let s := h.rd (Od.SOURCE r.src) % 8
  let lvl := h.appliedLevel r.cls row.fault s
  { seq := (h.rd Od.LOG_WRITTEN + 1) % 2 ^ 32, stamp := h.stamp, source := r.src, cls := r.cls, levelSet := s, applied := lvl,
    flags := (if row.fault then 1 else 0) + (if h.isOn 5 then 0 else 2) + (if r.forced then 4 else 0)
      + (if s < lvl then 16 else 0) + r.testFlags,
    verdict := r.verdict, parent := r.parent, detail := r.detail, value := r.value }

/-- What follows a record in the log: its escalation, its acknowledgement state and its shadows (R472, R473, R475). -/
def recordFollowed (r : Report) (h x : Hub) : Hub :=
  let row := sourceRow r.src
  let y := h.normalRecord r
  let h2 := if y.levelSet < y.applied then x.inc Od.ESCALATIONS else x
  let h3 := if row.fault then { h2 with unacked := h2.unacked ++ [⟨y.seq, r.cls, y.applied⟩] } else h2
  (h.reactionCovers row.target y.applied r.detail).foldl (fun x c => x.openShadow ⟨h.now, some (h.now + c.2), y.seq, c.1, none⟩) h3

/-- The reaction that a record at level L2 or higher owes (R464). -/
def owesReaction (r : Report) (y : LogRec) (h : Hub) : Hub :=
  if 2 ≤ y.applied then { h with reactions := h.reactions ++ [⟨y.seq, r.src, y.applied, r.detail⟩] } else h

section
variable {h : Hub} {r : Report}

theorem writeNormal_stages :
    h.writeNormal r = (((h.recordFollowed r (h.appendLog (h.normalRecord r))).owesReaction r (h.normalRecord r)).pumpEvq).pumpManager := rfl

theorem ReportBlind.recordFollowed {β : Type} {part : Hub → β} (blind : ReportBlind part) (x : Hub) :
    part (h.recordFollowed r x) = part x := by
  refine (foldl_keeps (fun y c => blind.openShadow _ y) _ _).trans ?_
  simp only [Hub.inc, apply_ite part, blind.unacked, blind.wr, ite_self]

theorem mem_log_writeNormal : h.normalRecord r ∈ (h.writeNormal r).log := by
  have owes : ∀ x : Hub, (x.owesReaction r (h.normalRecord r)).log = x.log := fun x => by
    unfold owesReaction
    split <;> rfl
  rw [writeNormal_stages, reportBlind_log.pumpManager, pumpEvq, reportBlind_log.pumpEvqN, owes, reportBlind_log.recordFollowed,
    reportBlind_log.appendLog]
  exact mem_logWith _ _

theorem mem_reactions_writeNormal (reacts : 2 ≤ (h.normalRecord r).applied) :
    (⟨(h.normalRecord r).seq, r.src, (h.normalRecord r).applied, r.detail⟩ : Reaction) ∈ (h.writeNormal r).reactions := by
  rw [writeNormal_stages, reportBlind_reactions.pumpManager, pumpEvq, reportBlind_reactions.pumpEvqN, owesReaction, if_pos reacts]
  exact List.mem_append_right _ List.mem_cons_self

end

/-! ### The reaction of level L5 (R471) -/

/-- The action of a reaction on its target (Table 16-4). -/
def targetActs (h : Hub) (x : Reaction) : Hub :=
  match (sourceRow x.source).target with
  | .none => h
  | .port => h.portReaction (x.detail % 256) x.level
  | .flint => h.flintReaction x
  | .granite => h.graniteReset

theorem react_five {h : Hub} {x : Reaction} (five : x.level = 5) (first : (h.targetActs x).safeState.running Tm.l5 = false) :
    h.react x = (h.targetActs x).safeState.arm Tm.l5 (ms 1) := by
  have safe : (if 4 ≤ x.level ∨ (x.level = 3 ∧ (sourceRow x.source).target = .granite) then (h.targetActs x).safeState else h.targetActs x)
      = (h.targetActs x).safeState := if_pos (.inl (by omega))
  refine (congrArg (fun y : Hub => if x.level = 5 ∧ !y.running Tm.l5 then y.arm Tm.l5 (ms 1) else y) safe).trans (if_pos ?_)
  simp [five, first]

end Hub

end Sys2Proof.Machine

open Sys2Proof.Machine Sys2Proof.Machine.Hub

/-- Settles O14: each reset is a full reset of its cause, and what one keeps is told part by part. -/
theorem fullResets : Obligations.FullResets := by
  unfold Obligations.FullResets
  dsimp only [exec, execVinPowerOn, execBrownout, execRstNReset, execFullResetDelay, execL5ResetDelay]
  intro t s
  refine ⟨act_eq rfl, act_eq rfl, act_eq rfl, fun due saved stored => act_eq (commandReset_resets due saved stored),
    fun due => act_eq (expire_due _ _ _ due), fun c => ?_⟩
  obtain ⟨now, flash, nv, log, unacked, frames⟩ := ResetParts.mk.inj (resetParts_fullReset (h := s.arrive t) c)
  exact ⟨rd_fullReset_cause c _, rd_fullReset_stage c _, rd_fullReset_hold c _, now, flash, nv, log, unacked, frames⟩

/-- Settles O10: the record and its reaction stand once it is written, and the reset that follows 1 ms later keeps the log. -/
theorem faultLevel5 : Obligations.FaultLevel5 := by
  unfold Obligations.FaultLevel5
  dsimp only [exec, execL5ResetDelay]
  intro t s r x
  refine ⟨fun five => ⟨⟨_, mem_log_writeNormal, rfl, rfl, five, rfl, rfl⟩, ?_⟩, fun five first => ⟨react_five five first, ?_⟩,
    fun due => act_eq (expire_due _ _ _ due), fun early => act_eq (expire_not_due _ _ _ early), rd_fullReset_cause 5 _,
    (ResetParts.mk.inj (resetParts_fullReset 5)).2.2.2.1⟩
  · have owed := mem_reactions_writeNormal (h := s.arrive t) (r := r) (by exact five.ge.trans' (by decide))
    rwa [show ((s.arrive t).normalRecord r).applied = 5 from five] at owed
  · rw [react_five five first, rd_arm, if_pos rfl]
    rfl
end

section
/-!
The start-up, case by case (R493, R499, R500, R501, Table 17-3): the stages and their own delays, the power die's events, and the crystal.
-/
namespace Sys2Proof.Machine.Hub

/-! ### Stamps (R18, R26, R271) -/

/-- The cells that a stamp is read from. -/
def stampCells : List Nat :=
  [Reg.stampAs, Od.DOMAIN_RECORD 5, Reg.tbBase, Reg.tbAt, Od.SYNC_STATE, Od.TIME_TRIM, Od.FREQ_CORR]

section
variable {h : Hub}

/-- A write of a cell that no stamp is read from leaves the stamp. -/
theorem stamp_wr {k v : Nat} (other : ∀ j ∈ stampCells, j ≠ k) : (h.wr k v).stamp = h.stamp := by
  have same : ∀ j ∈ stampCells, (h.wr k v).rd j = h.rd j := fun j mem => rd_wr_ne _ _ _ _ (other j mem)
  simp only [stampCells, List.forall_mem_cons] at same
  obtain ⟨late, domain, base, since, sync, trim, corr, -⟩ := same
  simp [stamp, timebase, tbNow, tbRate, mapped, isOn, dom, late, domain, base, since, sync, trim, corr]

/-! ### The stages (R493, Table 17-3) -/

theorem bootStage_early {f : Found} (runs : h.running Tm.bootStage = true) (early : h.due Tm.bootStage = false) : h.bootStage f = h :=
  if_pos ⟨runs, by simp [early]⟩

/-- The work of each stage at its end, and the stage that follows; stage 5 goes by how the load ended. -/
def stageEnded (f : Found) (stage : Nat) (h : Hub) : Hub :=
  match stage with
  | 0 => (h.wr Reg.resetAt (h.now + 1)).toStage 1
  | 1 => (h.inc Od.XO_STARTS).toStage 2
  | 2 => ((((h.bootClock 1).bootClock 2).bootOn 12).bootOn 11).gate400.toStage 3
  | 3 => ((if h.rd Reg.deriving = 1 then h.derived else h).bootOn 1).toStage 4
  | 4 => ((h.bootArray f).fwLoad false).toStage 5
  | 5 => if h.rd Od.FW_STATE = 2 then h.toStage 6 else if h.rd Od.FW_STATE = 0 then h.toStage 10 else h
  | 6 => (h.chooseConfig f.cfgA f.cfgB).bootRole.toStage 7
  | 7 => h.bootDomains.toStage 8
  | _ => h

section
variable {f : Found} (ended : h.running Tm.bootStage = false ∨ h.due Tm.bootStage = true)
include ended

/-- The delays of the stage under way are over. -/
theorem bootStage_not_waiting : ¬ ((h.running Tm.bootStage = true) ∧ (!h.due Tm.bootStage) = true) := by
  rcases ended with stopped | due
  · simp [stopped]
  · simp [due]

theorem bootStage_ended {k : Nat} (stage : h.rd Od.BOOT_STAGE = k) : h.bootStage f = h.stageEnded f k := by
  subst stage
  exact if_neg (bootStage_not_waiting ended)

end

/-! ### The crystal after a reset (R493) -/

theorem crystalGood_takesOver (rc : h.rd Od.LF_SOURCE = 1) (awaited : h.running Tm.lfStart = true) (early : h.due Tm.lfStart = false)
    (edges : h.rd Tm.lfStart + 31250000 ≤ h.now + 1 + ms 2000) : h.crystalGood = (h.wr Od.LF_SOURCE 0).wr Tm.lfStart 0 :=
  if_pos ⟨rc, awaited, early, edges⟩

theorem crystalLate_reports (rc : h.rd Od.LF_SOURCE = 1) (due : h.due Tm.lfStart = true) :
    h.crystalLate = (h.wr Tm.lfStart 0).report 0x41 0 0 :=
  (expire_due h _ _ due).trans (if_pos ((rd_wr_ne _ _ _ _ (by decide)).trans rc))

/-! ### A held port's detach (R496) -/

section
variable {p opened : Nat} {r : HoldRec} (held : h.holds.find? (fun x => x.port == p) = some r)
include held

theorem holdDetach_opens (attached : r.attached = true) (powered : r.power = 3) (none : r.event = 0) (long : opened + ms 9 ≤ h.now) :
    h.holdDetach p opened = { h with holds := putBy HoldRec.port { r with event := 1, opens := true } h.holds }.holdOpen p := by
  rw [holdDetach, held]
  exact if_pos (by simp [attached, powered, none, long])

theorem holdDetach_short (short : h.now < opened + ms 9) : h.holdDetach p opened = h := by
  rw [holdDetach, held]
  exact if_neg (by simp [short])

end

/-! ### The reset of the power die (R500) -/

theorem dieReset_unreleased (held : h.ready = false) : h.dieReset = (h.wr Reg.dieLost 0).inc Od.POWER_DIE_RESETS :=
  if_neg (ne_true_of_eq_false held)

/-! ### The presence pull-up (R173, R501) -/

theorem pullUp_applies {p : Nat} (worker : h.role ≠ 1) (flint : h.flintOn = true) (attached : h.rd (Od.ATTACH_STATE p) = 5)
    (open_ : h.rd (Od.PULLUP p) = 0) : h.pullUp p =
      if (h.applyPull p).rd Reg.upReady = 0 then
        ((h.applyPull p).wr Reg.upReady 1).wr Od.UPSTREAM_READY_TIME ((h.applyPull p).wr Reg.upReady 1).stamp
      else h.applyPull p := by
  rw [pullUp, if_pos ⟨worker, flint, attached, open_⟩, stamp_wr (by decide)]

end

end Sys2Proof.Machine.Hub

open Sys2Proof.Machine Sys2Proof.Machine.Hub

/-- Settles O15: each clause is one stage's end, one event of the power die or of the crystal, or the pull-up. -/
theorem startUp : Obligations.StartUp := by
  unfold Obligations.StartUp
  dsimp only [exec, execBootStageComplete, execPowerDieAnswer, execLfCrystalGood, execLfCrystalStartTimeout, execHoldDetach, execVauxLockout,
    execPowerDieResetReport, execUpstreamPullup]
  intro t s a b c d e f p u w o
  refine ⟨fun runs early => act_eq ?_, fun ended => ⟨fun stage => act_eq ?_, fun stage => act_eq ?_, fun stage => act_eq ?_,
      fun stage => act_eq ?_, fun stage => act_eq ?_, fun stage loaded => act_eq ?_, fun stage failed => act_eq ?_, fun stage => act_eq ?_,
      fun stage => act_eq ?_⟩, fun awaits => act_eq ?_, fun rc awaited early edges => act_eq ?_, fun rc due => act_eq ?_,
    fun r hold held attached powered none => ⟨fun long => act_eq ?_, fun short => act_eq ?_⟩, act_eq rfl, fun held => act_eq ?_,
    fun released => act_eq rfl, fun alive worker flint attached open_ => live_eq alive ?_⟩
  · exact bootStage_early runs early
  · exact (bootStage_ended ended stage).trans rfl
  · exact (bootStage_ended ended stage).trans rfl
  · exact (bootStage_ended ended stage).trans rfl
  · exact (bootStage_ended ended stage).trans rfl
  · exact (bootStage_ended ended stage).trans rfl
  · exact (bootStage_ended ended stage).trans (if_pos loaded)
  · exact (bootStage_ended ended stage).trans ((if_neg (by simp [failed])).trans (if_pos failed))
  · exact (bootStage_ended ended stage).trans rfl
  · exact (bootStage_ended ended stage).trans rfl
  · exact if_pos awaits
  · exact crystalGood_takesOver rc awaited early edges
  · exact crystalLate_reports rc due
  · exact (if_pos hold).trans (holdDetach_opens held attached powered none long)
  · exact (if_pos hold).trans (holdDetach_short held short)
  · exact dieReset_unreleased held
  · exact pullUp_applies worker flint attached open_
end

section
/-!
The detectors, case by case (R460 to R462, R500).
-/
namespace Sys2Proof.Machine.Hub

section
variable {h : Hub}

/-! ### Temperatures and supplies, each with a hysteresis (R460) -/

section
variable {i src detail : Nat} {fires again : Bool}

theorem hysteresis_fires (armed : h.rd (Reg.tempFired i) = 0) (reached : fires = true) :
    h.hysteresis i src detail fires again = (h.wr (Reg.tempFired i) 1).report src detail 0 :=
  (if_pos armed).trans (if_pos reached)

theorem hysteresis_below (armed : h.rd (Reg.tempFired i) = 0) (below : fires = false) : h.hysteresis i src detail fires again = h :=
  (if_pos armed).trans (if_neg (by simp [below]))

theorem hysteresis_fired (fired : h.rd (Reg.tempFired i) ≠ 0) :
    h.hysteresis i src detail fires again = if again = true then h.wr (Reg.tempFired i) 0 else h := if_neg fired

end

section
variable {v : Nat}

/-- A reading of the power die's temperature leaves what its detector holds. -/
theorem rd_powerDieTemp_fired : (h.wr Od.POWER_DIE_TEMP v).rd (Reg.tempFired 2) = h.rd (Reg.tempFired 2) := rd_wr_ne _ _ _ _ (by decide)

theorem powerDieTemp_fires (armed : h.rd (Reg.tempFired 2) = 0) (hot : 1350 ≤ toSigned 16 v) : h.powerDieTemp v =
    ((h.wr Od.POWER_DIE_TEMP v).wr (Reg.tempFired 2) 1).report 0x83 (ofSigned 32 (toSigned 16 v)) 0 :=
  hysteresis_fires (rd_powerDieTemp_fired.trans armed) (decide_eq_true hot)

theorem powerDieTemp_below (armed : h.rd (Reg.tempFired 2) = 0) (cool : toSigned 16 v < 1350) :
    h.powerDieTemp v = h.wr Od.POWER_DIE_TEMP v :=
  hysteresis_below (rd_powerDieTemp_fired.trans armed) (decide_eq_false (by omega))

theorem powerDieTemp_fired (fired : h.rd (Reg.tempFired 2) ≠ 0) : h.powerDieTemp v =
    if decide (toSigned 16 v ≤ 1300) = true then (h.wr Od.POWER_DIE_TEMP v).wr (Reg.tempFired 2) 0 else h.wr Od.POWER_DIE_TEMP v :=
  hysteresis_fired (rd_powerDieTemp_fired.trans_ne fired)

theorem supplyLevel_fires {aux : Bool} (armed : h.rd (Reg.tempFired (if aux then 4 else 3)) = 0)
    (low : v < if aux then h.rd Od.VAUX_LOW_MV else h.rd Od.VIN_LOW_MV) :
    h.supplyLevel aux v = (h.wr (Reg.tempFired (if aux then 4 else 3)) 1).report (if aux then 0x92 else 0x91) v 0 :=
  hysteresis_fires armed (decide_eq_true low)

theorem supplyLevel_fired {aux : Bool} (fired : h.rd (Reg.tempFired (if aux then 4 else 3)) ≠ 0) :
    h.supplyLevel aux v = if (if aux then h.rd Od.VAUX_LOW_MV else h.rd Od.VIN_LOW_MV) < v then h.wr (Reg.tempFired (if aux then 4 else 3)) 0
      else h := by
  refine (hysteresis_fired fired).trans ?_
  simp only [decide_eq_true_eq]

end

/-! ### Sources of Table 16-1, rails and the die link (R460, R500) -/

theorem detector_reports {src detail value : Nat} (known : sources.any (fun x => x.id == src) = true) :
    h.detector src detail value = h.report src detail value := if_pos known

theorem railLost_powers {p : Dn} {r : Nat} (powered : h.powered p = true) (onIt : h.rd (Reg.rail p) = r) : h.railLost r = h.report 0x93 r 0 :=
  if_pos (List.any_eq_true.2 ⟨p.val, List.mem_range.2 p.isLt, by simp [powered, onIt]⟩)

theorem railLost_unused {r : Nat} (unused : ∀ p : Dn, h.powered p = true → h.rd (Reg.rail p) ≠ r) : h.railLost r = h := by
  refine if_neg fun used => ?_
  obtain ⟨p, port, on⟩ := List.any_eq_true.1 used
  obtain ⟨powered, onIt⟩ := Bool.and_eq_true_iff.1 on
  exact unused ⟨p, List.mem_range.1 port⟩ powered (beq_iff_eq.1 onIt)

theorem dieLinkLost_first (there : h.rd Reg.dieLost ≠ 1) : h.dieLinkLost =
    ((h.wr Reg.dieLost 1).wr Reg.dieLostAt (h.wr Reg.dieLost 1).stamp).report 0x94 0 0 := by
  rw [stamp_wr (by decide)]
  exact if_neg there

/-! ### The record of a report that starts no test (R462) -/

theorem reportAs_plain {src detail value : Nat} {f : Bool} (open_ : h.coveringShadow src detail = none) (plain : h.testFor src detail = .nothing) :
    h.reportAs src detail value f = h.writeNormal ⟨src, (sourceRow src).cls, detail, value, f, 0, 0, 0⟩ := by
  simp only [reportAs, open_, plain]

end

end Sys2Proof.Machine.Hub

open Sys2Proof.Machine Sys2Proof.Machine.Hub

/-- Settles O16: each clause is one detector by what it held, or one source. -/
theorem detectorsReport : Obligations.DetectorsReport := by
  unfold Obligations.DetectorsReport
  dsimp only [exec, execFaultReport, execTempThreshold, execSupplyLow, execRailLost, execDieLinkLost, execDieLinkRestored, execLockstep, execWatchdog,
    execNvReadError, execLinkErrorBurstWindow]
  intro t s v detail value row r
  refine ⟨fun src known => act_eq (detector_reports known), fun armed hot => act_eq (powerDieTemp_fires armed hot),
    fun armed cool => act_eq (powerDieTemp_below armed cool), fun fired hot => act_eq ?_, fun fired cool => act_eq ?_, act_eq rfl,
    fun h i src det fires again => rfl, fun h src det val f => reportAs_plain, fun armed low => act_eq (supplyLevel_fires armed low),
    fun armed low => act_eq (supplyLevel_fires armed low), fun fired => act_eq (supplyLevel_fired fired),
    fun fired => act_eq (supplyLevel_fired fired), fun p powered onIt => act_eq (railLost_powers powered onIt),
    fun unused => act_eq (railLost_unused unused), fun there => act_eq (dieLinkLost_first there), act_eq rfl, act_eq rfl,
    fun flint => act_eq (if_pos flint), act_eq rfl, act_eq rfl⟩
  · exact (powerDieTemp_fired fired).trans (if_neg (by simp [hot]))
  · exact (powerDieTemp_fired fired).trans (if_pos (decide_eq_true cool))
end

section
/-!
The self-tests, case by case (R477 to R483).
-/
namespace Sys2Proof.Machine.Hub

section
variable {h : Hub}

/-! ### Records and verdicts leave the repair map (R462, R477) -/

theorem reportBlind_repair : ReportBlind Hub.repair := ⟨fun _ _ _ => rfl, fun _ _ => rfl, fun _ _ => rfl, fun _ _ => rfl, fun _ _ => rfl⟩

theorem repair_writeReport (r : Report) : (h.writeReport r).repair = h.repair := by
  unfold writeReport
  split
  · rw [writeConsequential, pumpEvq, reportBlind_repair.pumpEvqN, inc, reportBlind_repair.wr, reportBlind_repair.appendLog]
  · have owes : ∀ (x : Hub) (y : LogRec), (x.owesReaction r y).repair = x.repair := fun x y => by
      unfold owesReaction
      split <;> rfl
    rw [writeNormal_stages, reportBlind_repair.pumpManager, pumpEvq, reportBlind_repair.pumpEvqN, owes, reportBlind_repair.recordFollowed,
      reportBlind_repair.appendLog]

theorem repair_verdict (x : SelfTest) (v : Nat) : (h.verdict x v).repair = h.repair := repair_writeReport _

/-! ### Banks (R478, R479) -/

section
variable {b : Nat} {x : SelfTest} (test : h.testOf 1 b = some x)
include test

theorem bankCopied_out (stage : x.stage = 1) : h.bankCopied b = ((h.moveBank b x.spare).takeSpare x.spare).stageTest x 2 := by
  rw [bankCopied, test]
  exact if_pos stage

theorem bankCopied_back (stage : x.stage = 3) : h.bankCopied b =
    ((h.moveBank x.spare b).wr Od.SPARES_FREE (setBit (h.rd Od.SPARES_FREE) (spareBit x.spare))).endTest 1 b := by
  rw [bankCopied, test]
  exact (if_neg (by simp [stage])).trans (if_pos stage)

/-- The march has closed the test's shadow and given its verdict. -/
def marchJudged (x : SelfTest) (b v : Nat) (h : Hub) : Hub :=
  { h with shadows := h.shadows.filter (fun w => w.test != some (1, b)) }.verdict x v

variable (stage : x.stage = 2)
include stage

theorem bankMarched_transient : h.bankMarched b false =
    ({ (h.marchJudged x b 1) with sbeLast := putBy Prod.fst (b, (h.marchJudged x b 1).now) (h.marchJudged x b 1).sbeLast } : Hub).stageTest x 3 := by
  rw [bankMarched, test]
  exact (if_neg (not_not.2 stage)).trans rfl

theorem bankMarched_lasting : h.bankMarched b true =
    ((((((h.marchJudged x b 2).saveRepair { (h.marchJudged x b 2).repair with
      badBanks := setBit (h.marchJudged x b 2).repair.badBanks b, bankMap := (h.marchJudged x b 2).rd Od.BANK_MAP }).inc Od.BANK_REMAPS).childReport
        0xA2 x.cls x.parent (b + 256 * x.spare) 0).endTest 1 b).dropWaiting (bankDomain b)) := by
  rw [bankMarched, test]
  exact (if_neg (not_not.2 stage)).trans rfl

end

/-! ### Loopbacks (R481) -/

section
variable {p n : Nat} {k : Bool} {x : SelfTest} (test : h.testOf 3 p = some x)
include test

theorem looped_running (runs : ∀ n : Nat, h.loopTime p = some n → h.now + 1 < h.rd (Reg.loopFrom p) + n) : h.looped p k = h := by
  rw [looped, test]
  cases time : h.loopTime p with
  | none => rfl
  | some n => exact if_pos (runs n time)

variable (time : h.loopTime p = some n) (ended : h.rd (Reg.loopFrom p) + n ≤ h.now + 1)
include time ended

theorem looped_clean : h.looped p false = (h.verdict x 1).endTest 3 p := by
  rw [looped, test, time]
  exact (if_neg (Nat.not_lt.2 ended)).trans rfl

theorem looped_error : h.looped p true = (((h.verdict x 2).saveRepair { (h.verdict x 2).repair with
    phyFailed := setBit (h.verdict x 2).repair.phyFailed p }).childReport 0xA3 x.cls x.parent p 0).endTest 3 p := by
  rw [looped, test, time]
  exact (if_neg (Nat.not_lt.2 ended)).trans rfl

end

/-! ### Re-reads of a row (R482) -/

section
variable {row copy : Nat} {k : Bool} {x : SelfTest} (test : h.testOf 4 row = some x)
include test

theorem reread_clean : h.reread row true k copy = (if k then (h.verdict x 1).inc Od.NV_SCRUBS else h.verdict x 1).endTest 4 row := by
  rw [reread, test]
  rfl

theorem reread_spared (left : h.repair.rowsUsed < 32) : h.reread row false true copy =
    (((h.verdict x 2).saveRepair { (h.verdict x 2).repair with rowsUsed := (h.verdict x 2).repair.rowsUsed + 1 }).childReport 0xA2 x.cls x.parent
      (row % 256 + 256 * (h.verdict x 2).repair.rowsUsed) 0).endTest 4 row := by
  have spare : (h.verdict x 2).repair.rowsUsed < 32 := by rwa [repair_verdict]
  rw [reread, test]
  exact congrArg (endTest 4 row) (if_pos spare)

end

/-! ### The core test (R480) -/

section
variable {x : SelfTest} (test : h.testOf 2 0 = some x) (a : h.repair.pairA = 0) (b : h.repair.pairB = 1) (left : hasBit h.repair.retired 2 = false)
include test a b left

theorem coreTested_passes : h.coreTested (fun c => if c = 0 then true else if c = 1 then true else true) =
    ((h.endTest 2 0).verdict x 1).flintRestart := by
  simp [coreTested, test, spareCore, a, b, left]

theorem coreTested_replaces : h.coreTested (fun c => if c = 0 then true else if c = 1 then false else true) =
    ((({ (((h.endTest 2 0).verdict x 2).retireCore 1) with
      repair := { (((h.endTest 2 0).verdict x 2).retireCore 1).repair with
        pairA := if (((h.endTest 2 0).verdict x 2).retireCore 1).repair.pairA = 1 then 2 else (((h.endTest 2 0).verdict x 2).retireCore 1).repair.pairA,
        pairB := if (((h.endTest 2 0).verdict x 2).retireCore 1).repair.pairB = 1 then 2
          else (((h.endTest 2 0).verdict x 2).retireCore 1).repair.pairB } } : Hub).childReport 0xA2 x.cls x.parent (1 + 256 * 2) 0).flintRestart) := by
  simp [coreTested, test, spareCore, a, b, left]

end
end

end Sys2Proof.Machine.Hub

open Sys2Proof.Machine Sys2Proof.Machine.Hub

/-- Settles O18: each clause is the end of one stage of a test, by its verdict. -/
theorem selfTests : Obligations.SelfTests := by
  unfold Obligations.SelfTests
  dsimp only [exec, execBankCopyDone, execBankMarchDone, execLoopbackDone, execNvRereadDone, execCoreTestDone, execRepairMapSaved]
  intro t s b p row cp k x
  refine ⟨fun test stage => act_eq ?_, fun test stage => act_eq ?_, fun test stage => act_eq ?_, fun test stage => act_eq ?_,
    fun test runs => act_eq ?_, fun n test time ended => act_eq ?_, fun n test time ended => act_eq ?_, fun test => act_eq ?_,
    fun test left => act_eq ?_, fun test a b left => act_eq ?_, fun test a b left => act_eq ?_, fun due => act_eq ?_⟩
  · exact bankCopied_out test stage
  · exact bankMarched_transient test stage
  · exact bankCopied_back test stage
  · exact bankMarched_lasting test stage
  · exact looped_running test runs
  · exact looped_clean test time ended
  · exact looped_error test time ended
  · exact reread_clean test
  · exact reread_spared test left
  · exact coreTested_replaces test a b left
  · exact coreTested_passes test a b left
  · exact congrArg commandReset (expire_due _ _ _ due)
end

section
/-!
The hierarchy of hubs, case by case (R326 to R329, R333 to R338): the hub ID, relays, the control and the standby upstream, and reach notices.
-/
namespace Sys2Proof.Machine.Hub

section
variable {h : Hub}

/-! ### ASSIGN (R326) -/

section
variable {via v : Nat}

theorem assign_refused (refused : h.assignResult via ≠ 1) : h.assign via v = h.wr Od.ASSIGN_RESULT (h.assignResult via) := if_neg refused

theorem assign_done (done : h.assignResult via = 1) : h.assign via v = (h.wr Od.ASSIGN_RESULT 1).assigned via v := by
  rw [assign, if_pos done, done]

end

/-! ### Relay requests (R328, R329) -/

section
variable {src len v : Nat}

/-- A hub takes part in relays: Flint serves, and it has its ID. -/
abbrev takesRelays (h : Hub) : Prop := h.flintOn = true ∧ h.rd Od.HUB_ID_ASSIGNED ≠ 0

/-- A relay on the request's port carries its tag and its source. -/
abbrev sameRelay (h : Hub) (src v : Nat) : Option Relay := h.relayOn (byteAt v 2) (fun x => x.tag == field v 0 2 && x.src == src)

theorem relayRequest_ignored (absent : h.flintOn = false ∨ h.rd Od.HUB_ID_ASSIGNED = 0) : h.relayRequest src len v = h :=
  if_pos (by simpa using absent)

section
variable (takes : h.takesRelays)
include takes

theorem relayRequest_taken : h.relayRequest src len v = match h.sameRelay src v with
    | some r => if r.state = 3 then h.relayReply src r.tag r.port r.result r.outLen r.data else h
    | none => if h.relayCheck len v = 0 then h.relayStart src v else h.relayRefuse src v (h.relayCheck len v) := by
  obtain ⟨flint, assigned⟩ := takes
  exact (if_neg (by simp [flint, assigned])).trans rfl

theorem relayRequest_starts (new : h.sameRelay src v = none) (passes : h.relayCheck len v = 0) :
    h.relayRequest src len v = h.relayStart src v := by
  rw [relayRequest_taken takes, new]
  exact if_pos passes

theorem relayRequest_refused (new : h.sameRelay src v = none) (refused : h.relayCheck len v ≠ 0) :
    h.relayRequest src len v = h.relayRefuse src v (h.relayCheck len v) := by
  rw [relayRequest_taken takes, new]
  exact if_neg refused

section
variable {r : Relay} (again : h.sameRelay src v = some r)
include again

theorem relayRequest_repeated (ended : r.state = 3) :
    h.relayRequest src len v = h.relayReply src r.tag r.port r.result r.outLen r.data := by
  rw [relayRequest_taken takes, again]
  exact if_pos ended

theorem relayRequest_underWay (runs : r.state ≠ 3) : h.relayRequest src len v = h := by
  rw [relayRequest_taken takes, again]
  exact if_neg runs

end
end
end

/-! ### The child's answer, or none (R329) -/

section
variable {p len data : Nat} {stall : Bool} {r : Relay}

section
variable (waits : h.relayOn p (fun x => x.state == 2) = some r)
include waits

theorem relayAnswered_inTime (inTime : h.now < r.deadline) :
    h.relayAnswered p stall len data = if stall = true then h.relayEnd r 1 0 0 else h.relayEnd r 0 (min len 1008) data := by
  rw [relayAnswered, waits]
  exact if_pos inTime

theorem relayAnswered_late (late : r.deadline ≤ h.now) : h.relayAnswered p stall len data = h := by
  rw [relayAnswered, waits]
  exact if_neg (Nat.not_lt.2 late)

end

section
variable (open_ : h.relayOn p (fun x => x.state != 3) = some r)
include open_

theorem relayTimeout_ends (late : r.deadline ≤ h.now) : h.relayTimeout p = h.relayEnd r 4 0 0 := by
  rw [relayTimeout, open_]
  exact if_neg (Nat.not_lt.2 late)

theorem relayTimeout_early (early : h.now < r.deadline) : h.relayTimeout p = h := by
  rw [relayTimeout, open_]
  exact if_pos early

end
end

/-! ### The control and the standby upstream (R333 to R335) -/

/-- The standby upstream is ACTIVE, and can take the control over. -/
abbrev standbyReady (h : Hub) : Prop :=
  (h.rd Od.STANDBY_UPSTREAM = 16 ∨ h.rd Od.STANDBY_UPSTREAM = 17) ∧ h.sinkActive (h.rd Od.STANDBY_UPSTREAM) = true

theorem upstreamLoss_lost (gone : h.upstreamGone = true) : h.upstreamLoss = h.controlLost := if_pos gone

theorem upstreamLoss_not (there : h.upstreamGone = false) : h.upstreamLoss = h := if_neg (ne_true_of_eq_false there)

theorem controlLost_moves (ready : h.standbyReady) : h.controlLost =
    ((((((((h.wr Od.CONTROL_UPSTREAM (h.rd Od.STANDBY_UPSTREAM)).wr Od.STANDBY_UPSTREAM 0xFF).wr Od.LAST_CONTROL_MOVE h.stamp).wr Reg.upCtl 1).wr
      Od.LINK_ADDRESS (h.rd (Reg.myAddr (h.rd Od.STANDBY_UPSTREAM)))).inc Od.CONTROL_MOVES).dropControl (h.rd Od.CONTROL_UPSTREAM)).dropTrunkTxn
      (h.rd Od.CONTROL_UPSTREAM) 6).hierRecord 2 := if_pos ready

theorem controlLost_isolates (unready : ¬ h.standbyReady) : h.controlLost = (h.wr Reg.isolated 1).wr Reg.upCtl 0 := if_neg unready

/-- Trunk u may become the standby: it is ACTIVE as a sink, and the other trunk is the control upstream. -/
abbrev mayStandBy (h : Hub) (u : Trunk) : Prop :=
  h.hasUpstream = true ∧ h.rd Reg.isolated = 0 ∧ h.sinkActive u.port = true ∧ h.rd Od.CONTROL_UPSTREAM = 33 - u.port ∧
    h.rd Od.STANDBY_UPSTREAM ≠ u.port

/-- The control upstream is a trunk other than u exactly where it is the other trunk. -/
theorem other_trunk (u : Trunk) (c : Nat) : (c ≠ u.port ∧ (c = 16 ∨ c = 17)) ↔ c = 33 - u.port := by
  have := u.isLt
  simp only [Trunk.port]
  omega

theorem standbyUp_eq (u : Trunk) : h.standbyUp u.port = if h.mayStandBy u then (h.wr Od.STANDBY_UPSTREAM u.port).hierRecord 3 else h := by
  refine if_congr ?_ rfl rfl
  simp only [mayStandBy, ← other_trunk, Bool.and_eq_true, bne_iff_ne, beq_iff_eq, Bool.or_eq_true]
  tauto

section
variable {p : Nat}

theorem reconnected_ends (isolated : h.rd Reg.isolated = 1) (active : h.sinkActive p = true) : h.reconnected p =
    (((((h.wr Od.CONTROL_UPSTREAM p).wr Od.STANDBY_UPSTREAM (if h.rd Od.STANDBY_UPSTREAM = p then 0xFF else h.rd Od.STANDBY_UPSTREAM)).wr
      Reg.isolated 0).wr Reg.upCtl 1).wr Od.LINK_ADDRESS (h.rd (Reg.myAddr p))).hierRecord 5 := if_pos ⟨isolated, active⟩

theorem reconnected_not (other : h.rd Reg.isolated ≠ 1 ∨ h.sinkActive p = false) : h.reconnected p = h :=
  if_neg fun ⟨isolated, active⟩ => other.elim (· isolated) (ne_true_of_eq_false · active)

end

/-! ### Reach notices (R336 to R338) -/

section
variable {p len v : Nat}

/-- A LOCAL frame is a notice of the neighbour on port p. -/
abbrev fitsNotice (h : Hub) (p len v : Nat) : Prop := h.flintOn = true ∧ len = 260 ∧ byteAt v 0 = 1 ∧ h.farIsHub p = true

/-- The notice is no newer than the last one of its port (R14, R336). -/
abbrev oldNotice (h : Hub) (p v : Nat) : Prop := h.rd (Reg.noticeRx p) ≠ 0 ∧ newer 16 (h.rd (Reg.noticeRx p) - 1) (field v 2 2) = true

theorem noticeIn_halted (halted : h.flintOn = false) : h.noticeIn p len v = h := if_pos (by simp [halted])

theorem noticeIn_discarded (flint : h.flintOn = true) (other : len ≠ 260 ∨ byteAt v 0 ≠ 1 ∨ h.farIsHub p = false) :
    h.noticeIn p len v = h.inc Od.LOCAL_DISCARDED := (if_neg (by simp [flint])).trans (if_pos other)

section
variable (fits : h.fitsNotice p len v)
include fits

theorem noticeIn_fits : h.noticeIn p len v =
    if h.oldNotice p v ∨ h.isOn 2 = false then (h.inc Od.NOTICES_RX).arm (Tm.notices p) (ms 350)
    else (((h.inc Od.NOTICES_RX).arm (Tm.notices p) (ms 350)).wr (Od.REACH p) (field v 4 256)).wr (Reg.noticeRx p) (field v 2 2 + 1) := by
  obtain ⟨flint, length, version, hub⟩ := fits
  exact (if_neg (by simp [flint])).trans (if_neg (by simp [length, version, hub]))

theorem noticeIn_new (new : ¬ h.oldNotice p v) (on : h.isOn 2 = true) : h.noticeIn p len v =
    (((h.inc Od.NOTICES_RX).arm (Tm.notices p) (ms 350)).wr (Od.REACH p) (field v 4 256)).wr (Reg.noticeRx p) (field v 2 2 + 1) :=
  (noticeIn_fits fits).trans (if_neg (not_or.2 ⟨new, by simp [on]⟩))

theorem noticeIn_old (old : h.oldNotice p v) : h.noticeIn p len v = (h.inc Od.NOTICES_RX).arm (Tm.notices p) (ms 350) :=
  (noticeIn_fits fits).trans (if_pos (.inl old))

end
end

theorem noticeChange_sends (runs : h.noticesRun = true) (changed : h.noticePorts.any (fun q => h.rd (Reg.noticeSent q) != h.declared q + 1) = true) :
    h.noticeChange = h.sendNotices := if_pos (Bool.and_eq_true_iff.2 ⟨runs, changed⟩)

theorem noticeChange_not
    (rests : h.noticesRun = false ∨ h.noticePorts.any (fun q => h.rd (Reg.noticeSent q) != h.declared q + 1) = false) : h.noticeChange = h :=
  if_neg (ne_true_of_eq_false (Bool.and_eq_false_iff.2 rests))

theorem noticeRound_sends (runs : h.noticesRun = true) (falls : h.running Tm.noticeTimer = false ∨ h.due Tm.noticeTimer = true) :
    h.noticeRound = h.sendNotices.arm Tm.noticeTimer (ms 100) := if_pos (by simpa [runs] using falls)

theorem noticeRound_not (rests : h.noticesRun = false ∨ (h.running Tm.noticeTimer = true ∧ h.due Tm.noticeTimer = false)) :
    h.noticeRound = h := if_neg (by rcases rests with off | ⟨runs, early⟩ <;> simp [*])

end

end Sys2Proof.Machine.Hub

open Sys2Proof.Machine Sys2Proof.Machine.Hub

/-- Settles O23: each clause is one case of a write of the identity, of a relay's request or end, or of an upstream. -/
theorem hierarchyCommands : Obligations.HierarchyCommands := by
  unfold Obligations.HierarchyCommands
  dsimp only [exec, execAssign, execReleaseId, execRelayRequest, execRelayChildAnswer, execRelayTimeout, execControlUpstreamLost, execStandbyUp,
    execReconnected]
  intro t s via v p u src len pay stall r
  refine ⟨fun writable refused => act_writing writable (assign_refused refused), fun writable done => act_writing writable (assign_done done),
    fun ok => act_eq (judged_ok ok), fun refused => act_eq (judged_refused refused), fun flint assigned new passes => act_eq ?_,
    fun flint assigned new refused => act_eq ?_, fun flint assigned again ended => act_eq ?_, fun flint assigned again runs => act_eq ?_,
    fun absent => act_eq ?_, fun waits inTime => act_eq ?_, fun waits inTime => act_eq ?_, fun waits late => act_eq ?_,
    fun open_ late => act_eq ?_, fun open_ early => act_eq ?_, fun gone standby active => act_eq ?_, fun gone unready => act_eq ?_,
    fun there => act_eq ?_, fun may => act_eq ?_, fun isolated active => act_eq ?_, fun not => act_eq ?_, fun other => act_eq ?_⟩
  · exact relayRequest_starts ⟨flint, assigned⟩ new passes
  · exact relayRequest_refused ⟨flint, assigned⟩ new refused
  · exact relayRequest_repeated ⟨flint, assigned⟩ again ended
  · exact relayRequest_underWay ⟨flint, assigned⟩ again runs
  · exact relayRequest_ignored absent
  · exact relayAnswered_inTime waits inTime
  · exact relayAnswered_inTime waits inTime
  · exact relayAnswered_late waits late
  · exact relayTimeout_ends open_ late
  · exact relayTimeout_early open_ early
  · exact (upstreamLoss_lost gone).trans (controlLost_moves ⟨standby, active⟩)
  · exact (upstreamLoss_lost gone).trans (controlLost_isolates unready)
  · exact upstreamLoss_not there
  · exact (standbyUp_eq u).trans (if_pos may)
  · exact reconnected_ends isolated active
  · exact (standbyUp_eq u).trans (if_neg not)
  · exact reconnected_not other

/-- Settles O24: each clause is one case of a local frame, of a round of notices, or of a port's silence. -/
theorem reachNotices : Obligations.ReachNotices := by
  unfold Obligations.ReachNotices
  dsimp only [exec, execNoticeReceived, execNoticeSendOnChange, execNoticeTimer, execNoticesExpired]
  intro t s p len pay
  refine ⟨fun fits new on => act_eq ?_, fun fits old => act_eq ?_, fun flint other => act_eq ?_, fun halted => act_eq ?_,
    fun runs changed => act_eq ?_, fun rests => act_eq ?_, fun runs falls => act_eq ?_, fun rests => act_eq ?_, fun due => act_eq ?_,
    fun early => act_eq ?_⟩
  · exact noticeIn_new fits new on
  · exact noticeIn_old fits old
  · exact noticeIn_discarded flint other
  · exact noticeIn_halted halted
  · exact noticeChange_sends runs changed
  · exact noticeChange_not rests
  · exact noticeRound_sends runs falls
  · exact noticeRound_not rests
  · exact expire_due _ _ _ due
  · exact expire_not_due _ _ _ early
end

section
/-!
The fabric's neighbours and link-state advertisements, case by case (R340 to R343).
-/
namespace Sys2Proof.Machine.Hub

/-- A fabric link of a running fabric brings a frame. -/
abbrev hearsFabric (h : Hub) (p : Nat) : Prop := h.fabricRuns = true ∧ h.fabricLink p = true

section
variable {h : Hub} {p : Nat}

theorem hearsFabric_iff : ¬ ((!(h.fabricRuns && h.fabricLink p)) = true) ↔ h.hearsFabric p := by simp

/-! ### HELLO and silence (R341) -/

/-- A HELLO is to go out: none was sent yet, or its interval is over. -/
abbrev helloFalls (h : Hub) : Prop := h.running Tm.hello = false ∨ h.due Tm.hello = true

theorem helloRound_eq : h.helloRound =
    if h.fabricActive = true ∧ h.helloFalls then (h.fabricLinks.foldl (fun x p => x.sendHello p) h).arm Tm.hello (ms 240) else h :=
  if_congr (by simp) rfl rfl

section
variable {node serial : Nat} {heard : List Nat}

/-- The neighbour that a HELLO on port p renews. -/
def neighbourOf (h : Hub) (p node serial : Nat) (heard : List Nat) : Neighbour :=
  { port := p, node := node, serial := serial, twoWay := heard.contains h.node, last := h.now }

/-- The hub with that neighbour in place of what the port knew of its node. -/
def renewed (p node serial : Nat) (heard : List Nat) (h : Hub) : Hub :=
  { h with neighbours := h.neighbourOf p node serial heard :: h.neighbours.filter (fun x => !(x.port == p && x.node == node)) }

/-- The node was a two-way neighbour on the port. -/
def wasTwoWay (h : Hub) (p node : Nat) : Bool := h.neighbours.any (fun n => n.port == p && n.node == node && n.twoWay)

theorem helloIn_unheard (unheard : ¬ h.hearsFabric p) : h.helloIn p node serial heard = h := if_pos (not_not.1 (mt hearsFabric_iff.1 unheard))

section
variable (hears : h.hearsFabric p)
include hears

theorem helloIn_reserved (reserved : nodeOk node = false ∨ 16 < heard.length) : h.helloIn p node serial heard = h.inc (Od.HDR_CHECK_ERR p) :=
  (if_neg (hearsFabric_iff.2 hears)).trans (if_pos (by simpa using reserved))

theorem helloIn_heard (known : nodeOk node = true) (fits : heard.length ≤ 16) : h.helloIn p node serial heard =
    if heard.contains h.node = h.wasTwoWay p node then h.renewed p node serial heard
    else (h.renewed p node serial heard).neighbourChange :=
  (if_neg (hearsFabric_iff.2 hears)).trans (if_neg (by simp [known, fits]))

end
end

/-- The neighbours of a port that have been silent for 1,000 ms. -/
def silentOn (h : Hub) (p : Nat) : List Neighbour := h.neighbours.filter (fun n => n.port == p && decide (n.last + ms 1000 ≤ h.now))

/-- They are lost. -/
def lapsedOn (p : Nat) (h : Hub) : Hub :=
  { h with neighbours := h.neighbours.filter (fun n => !(n.port == p && decide (n.last + ms 1000 ≤ h.now))) }

theorem neighbourLapse_eq : h.neighbourLapse p =
    if (h.silentOn p).any (fun n => n.twoWay) = true then (h.lapsedOn p).neighbourChange else h.lapsedOn p := rfl

/-! ### An LSA of the hub's own (R342) -/

/-- An LSA is to be originated: one is owed, none was sent yet, or its refresh is due. -/
abbrev owesLsa (h : Hub) : Prop := h.rd Reg.lsaDue = 1 ∨ h.running Tm.lsaRefresh = false ∨ h.due Tm.lsaRefresh = true

/-- The sequence number that the hub's next LSA takes. -/
def nextLsaSeq (h : Hub) : Nat := (h.rd Reg.lsaSeq + 1) % 2 ^ 32

/-- The hub's own LSA. -/
def ownLsa (h : Hub) : Lsa := { node := h.node, seq := h.nextLsaSeq, serial := Config.serial, links := h.ownLinks, at_ := h.now }

/-- The hub once the LSA is no longer owed and its refresh is armed. -/
def lsaTaken (h : Hub) : Hub := ((h.wr Reg.lsaSeq h.nextLsaSeq).wr Reg.lsaDue 0).arm Tm.lsaRefresh (29 * 60 * ms 1000)

theorem originate_eq : h.originate =
    if h.fabricActive = true ∧ h.owesLsa then
      (h.lsaTaken.setLsdb (h.ownLsa :: dropBy Lsa.node h.node h.lsdb)).floodLsa h.ownLsa h.lsaTaken.fabricLinks
    else h :=
  if_congr (by simp [or_assoc]) rfl rfl

/-! ### An LSA received (R342, R343) -/

section
variable {x y : Lsa}

theorem lsaIn_unheard (unheard : ¬ h.hearsFabric p) : h.lsaIn p x = h := if_pos (not_not.1 (mt hearsFabric_iff.1 unheard))

section
variable (hears : h.hearsFabric p)
include hears

theorem lsaIn_reserved (reserved : nodeOk x.node = false) : h.lsaIn p x = h.inc (Od.HDR_CHECK_ERR p) :=
  (if_neg (hearsFabric_iff.2 hears)).trans (if_pos (by simp [reserved]))

variable (known : nodeOk x.node = true)
include known

/-- An LSA of a legal node is judged by the one that is stored. -/
theorem lsaIn_known : h.lsaIn p x = match h.lsdb.find? (fun y => y.node == x.node) with
    | none => if 256 ≤ h.lsdb.length then h.wr Od.FABRIC_STATE 3 else h.storeLsa p x
    | some y =>
      if newer 32 x.seq y.seq then h.storeLsa p x
      else if x.seq = y.seq then h.ackLsa p x.node x.seq
      else (h.ackLsa p x.node x.seq).sendLsa y p :=
  (if_neg (hearsFabric_iff.2 hears)).trans ((if_neg (by simp [known])).trans rfl)

theorem lsaIn_first (new : h.lsdb.find? (fun y => y.node == x.node) = none) :
    h.lsaIn p x = if 256 ≤ h.lsdb.length then h.wr Od.FABRIC_STATE 3 else h.storeLsa p x := by
  rw [lsaIn_known hears known, new]

section
variable (stored : h.lsdb.find? (fun y => y.node == x.node) = some y)
include stored

theorem lsaIn_stored : h.lsaIn p x =
    if newer 32 x.seq y.seq then h.storeLsa p x
    else if x.seq = y.seq then h.ackLsa p x.node x.seq
    else (h.ackLsa p x.node x.seq).sendLsa y p := by
  rw [lsaIn_known hears known, stored]

theorem lsaIn_newer (newer_ : newer 32 x.seq y.seq = true) : h.lsaIn p x = h.storeLsa p x :=
  (lsaIn_stored hears known stored).trans (if_pos newer_)

variable (old : newer 32 x.seq y.seq = false)
include old

theorem lsaIn_equal (equal : x.seq = y.seq) : h.lsaIn p x = h.ackLsa p x.node x.seq := by
  rw [lsaIn_stored hears known stored, if_neg (ne_true_of_eq_false old), if_pos equal]

theorem lsaIn_older (other : x.seq ≠ y.seq) : h.lsaIn p x = (h.ackLsa p x.node x.seq).sendLsa y p := by
  rw [lsaIn_stored hears known stored, if_neg (ne_true_of_eq_false old), if_neg other]

end
end
end

/-! ### An acknowledgement that does not come (R342) -/

section
variable {node : Nat} {w : LsaWait} {y : Lsa}

theorem lsaAgain_none (none : h.lsaWaits.find? (fun w => w.port == p && w.node == node) = none) : h.lsaAgain p node = h := by
  rw [lsaAgain, none]

section
variable (waits : h.lsaWaits.find? (fun w => w.port == p && w.node == node) = some w)
include waits

theorem lsaAgain_early (early : h.now < w.sent + ms 950) : h.lsaAgain p node = h := by
  rw [lsaAgain, waits]
  exact if_pos early

variable (late : w.sent + ms 950 ≤ h.now)
include late

theorem lsaAgain_stored (stored : h.lsdb.find? (fun y => y.node == node) = some y) :
    h.lsaAgain p node = if (h.fabricActive && h.fabricLink p) = true then h.sendLsa y p else h := by
  rw [lsaAgain, waits, stored]
  exact if_neg (Nat.not_lt.2 late)

theorem lsaAgain_gone (gone : h.lsdb.find? (fun y => y.node == node) = none) :
    h.lsaAgain p node = { h with lsaWaits := h.lsaWaits.filter (fun w => !(w.port == p && w.node == node)) } := by
  rw [lsaAgain, waits, gone]
  exact if_neg (Nat.not_lt.2 late)

end

/-! ### A stored LSA of 60 minutes (R342) -/

theorem lsaLapse_none (none : h.lsdb.find? (fun y => y.node == node) = none) : h.lsaLapse node = h := by
  rw [lsaLapse, none]

section
variable (stored : h.lsdb.find? (fun y => y.node == node) = some y)
include stored

theorem lsaLapse_removes (late : y.at_ + 60 * 60 * ms 1000 ≤ h.now) : h.lsaLapse node = h.setLsdb (dropBy Lsa.node node h.lsdb) := by
  rw [lsaLapse, stored]
  exact if_neg (Nat.not_lt.2 late)

theorem lsaLapse_early (early : h.now < y.at_ + 60 * 60 * ms 1000) : h.lsaLapse node = h := by
  rw [lsaLapse, stored]
  exact if_pos early

end
end
end

end Sys2Proof.Machine.Hub

open Sys2Proof.Machine Sys2Proof.Machine.Hub

/-- Settles O50: each clause is one case of a HELLO, of a neighbour's silence, of an LSA, or of its acknowledgement. -/
theorem fabricNeighbours : Obligations.FabricNeighbours := by
  unfold Obligations.FabricNeighbours
  dsimp only [exec, execHelloTimer, execHelloReceived, execNeighbourHoldExpiry, execLsaOriginate, execLsaReceived, execLsaAckReceived,
    execLsaRetransmit, execLsaLifetimeExpiry]
  intro t s p n q serial l k y w
  refine ⟨fun active sends => act_eq ?_, fun rests => act_eq ?_, fun ⟨hears, known⟩ fits same => act_eq ?_,
    fun ⟨hears, known⟩ fits changed => act_eq ?_, fun hears reserved => act_eq ?_, fun unheard => act_eq ?_, fun oneWay => act_eq ?_,
    fun twoWay => act_eq ?_, fun active owes => act_eq ?_, fun rests => act_eq ?_, fun ⟨hears, known⟩ new full => act_eq ?_,
    fun ⟨hears, known⟩ new room => act_eq ?_, fun ⟨hears, known⟩ stored newer_ => act_eq ?_, fun ⟨hears, known⟩ stored old equal => act_eq ?_,
    fun ⟨hears, known⟩ stored old other => act_eq ?_, fun hears reserved => act_eq ?_, fun unheard => act_eq ?_, act_eq rfl,
    fun waits late stored active link => act_eq ?_, fun waits late stored shut => act_eq ?_, fun waits late gone => act_eq ?_,
    fun waits early => act_eq ?_, fun none => act_eq ?_, fun stored late => act_eq ?_, fun stored early => act_eq ?_, fun none => act_eq ?_⟩
  · exact helloRound_eq.trans (if_pos ⟨active, sends⟩)
  · exact helloRound_eq.trans (if_neg fun ⟨active, sends⟩ => rests.elim (ne_true_of_eq_false · active) (· sends))
  · exact (helloIn_heard hears known fits).trans (if_pos same)
  · exact (helloIn_heard hears known fits).trans (if_neg changed)
  · exact helloIn_reserved hears reserved
  · exact helloIn_unheard unheard
  · exact neighbourLapse_eq.trans (if_neg (ne_true_of_eq_false oneWay))
  · exact neighbourLapse_eq.trans (if_pos twoWay)
  · exact originate_eq.trans (if_pos ⟨active, owes⟩)
  · exact originate_eq.trans (if_neg fun ⟨active, owes⟩ => rests.elim (ne_true_of_eq_false · active) (· owes))
  · exact (lsaIn_first hears known new).trans (if_pos full)
  · exact (lsaIn_first hears known new).trans (if_neg (Nat.not_le.2 room))
  · exact lsaIn_newer hears known stored newer_
  · exact lsaIn_equal hears known stored old equal
  · exact lsaIn_older hears known stored old other
  · exact lsaIn_reserved hears reserved
  · exact lsaIn_unheard unheard
  · exact (lsaAgain_stored waits late stored).trans (if_pos (Bool.and_eq_true_iff.2 ⟨active, link⟩))
  · exact (lsaAgain_stored waits late stored).trans (if_neg (ne_true_of_eq_false (Bool.and_eq_false_iff.2 shut)))
  · exact lsaAgain_gone waits late gone
  · exact lsaAgain_early waits early
  · exact lsaAgain_none none
  · exact lsaLapse_removes stored late
  · exact lsaLapse_early stored early
  · exact lsaLapse_none none
end

section
/-!
The frames of the fabric, case by case (R340, R343 to R346): owed paths, the second's rate, forwarding, EVENT, multicast, and frames of the tree.
-/
namespace Sys2Proof.Machine.Hub

section
variable {h : Hub} {p n payload : Nat}

/-! ### Paths (R344) -/

theorem computePaths_eq : h.computePaths =
    if h.fabricRuns = true ∧ h.rd Reg.pathDue = 1 then
      ({ h with
        nextHops := (pathRounds h.lsdb h.node h.lsdb.length h.firstPaths).filterMap
          (fun x : Path => (h.portToward x.2.2).map (fun p => (x.1, p))) } : Hub).wr Reg.pathDue 0
    else h :=
  if_congr (by simp) rfl rfl

/-! ### The rate of a second (R340) -/

/-- The second of the clock in which a frame falls, one up. -/
def fabricSecond (h : Hub) : Nat := h.now / 1000000000 + 1

/-- The frames taken in that second so far. -/
def fabricUsed (h : Hub) : Nat := if h.rd Reg.fabSec = h.fabricSecond then h.rd Reg.fabCount else 0

/-- One frame more has been taken in the second. -/
def fabricCounted (h : Hub) : Hub := (h.wr Reg.fabSec h.fabricSecond).wr Reg.fabCount (h.fabricUsed + 1)

theorem rateLimited_eq (f : Hub → Hub) :
    h.rateLimited f = if 20000 ≤ h.fabricUsed then h.inc Od.FABRIC_DROPPED else f h.fabricCounted := rfl

/-! ### Sending toward a node (R343, R344) -/

section
variable {transit : Bool} {r : Nat × Nat}

theorem e1Send_pathless (none : h.nextHops.find? (fun x => x.1 == e1Dest n) = none) : h.e1Send n payload transit = h.inc Od.FABRIC_DROPPED := by
  rw [e1Send, none]

section
variable (hop : h.nextHops.find? (fun x => x.1 == e1Dest n) = some r)
include hop

theorem e1Send_goes (clear : h.fabricLink r.2 = true ∧ (h.rd Od.FABRIC_STATE ≠ 2 ∨ e1Type n ≠ 1)) : h.e1Send n payload transit =
    if transit = true then (h.sendFabric r.2 n payload).inc Od.TRANSIT_FRAMES else h.sendFabric r.2 n payload := by
  rw [e1Send, hop]
  exact if_pos (by simpa using clear)

theorem e1Send_dropped (shut : ¬ (h.fabricLink r.2 = true ∧ (h.rd Od.FABRIC_STATE ≠ 2 ∨ e1Type n ≠ 1))) :
    h.e1Send n payload transit = h.inc Od.FABRIC_DROPPED := by
  rw [e1Send, hop]
  exact if_neg (by simpa using shut)

end

theorem e1Pass_spent (spent : e1Ttl n ≤ 1) : h.e1Pass n payload transit = h := if_pos spent

theorem e1Pass_goes (lives : 1 < e1Ttl n) : h.e1Pass n payload transit = h.e1Send (putField n 5 1 (e1Ttl n - 1)) payload transit :=
  if_neg (Nat.not_le.2 lives)

end

/-! ### DATA and EVENT frames (R343, R344, R346) -/

/-- A frame is for this node, by its ID or by the ID of all (log entry 34). -/
abbrev forNode (h : Hub) (n : Nat) : Prop := e1Dest n = h.node ∨ e1Dest n = 0xFFFF

/-- What a DATA frame does in its place of the second. -/
def dataTaken (n payload : Nat) (h : Hub) : Hub := if h.forNode n then h.e1Local n payload else h.e1Pass n payload true

/-- What an EVENT frame does in its place of the second. -/
def eventTaken (n payload : Nat) (h : Hub) : Hub :=
  if h.forNode n then
    if h.rd Od.COORDINATOR = h.node then
      let own := sysAddr h.ownHub 0 0
      let whole := n % 256 ^ 12 + 256 ^ 12 * (payload % 256 ^ e1Len n)
      if h.role = 2 then h.injectFrame 18 (mkTrunk 0 2 (12 + e1Len n) true own own 0) whole 19
      else h.injectFrame 18 (mkTrunk 0 2 (12 + e1Len n) false (h.rd Od.GATEWAY_UP_DEST % 2 ^ 24) own 0) whole 0
    else h
  else h.e1Pass n payload false

theorem dataIn_unheard (unheard : ¬ h.hearsFabric p) : h.dataIn p n payload = h := if_pos (not_not.1 (mt hearsFabric_iff.1 unheard))

theorem eventIn_unheard (unheard : ¬ h.hearsFabric p) : h.eventIn p n payload = h := if_pos (not_not.1 (mt hearsFabric_iff.1 unheard))

theorem mcastIn_eq : h.mcastIn p = if h.hearsFabric p then h.inc Od.MCAST_DISCARDED else h := if_congr (by simp) rfl rfl

section
variable (hears : h.hearsFabric p)
include hears

theorem dataIn_reserved (reserved : e1Ok n = false) : h.dataIn p n payload = h.inc (Od.HDR_CHECK_ERR p) :=
  (if_neg (hearsFabric_iff.2 hears)).trans (if_pos (by simp [reserved]))

theorem eventIn_reserved (reserved : e1Ok n = false) : h.eventIn p n payload = h.inc (Od.HDR_CHECK_ERR p) :=
  (if_neg (hearsFabric_iff.2 hears)).trans (if_pos (by simp [reserved]))

section
variable (legal : e1Ok n = true)
include legal

theorem dataIn_legal : h.dataIn p n payload = h.rateLimited (dataTaken n payload) :=
  (if_neg (hearsFabric_iff.2 hears)).trans (if_neg (by simp [legal]))

theorem eventIn_legal : h.eventIn p n payload = h.rateLimited (eventTaken n payload) :=
  (if_neg (hearsFabric_iff.2 hears)).trans (if_neg (by simp [legal]))

theorem dataIn_overRate (full : 20000 ≤ h.fabricUsed) : h.dataIn p n payload = h.inc Od.FABRIC_DROPPED := by
  rw [dataIn_legal hears legal, rateLimited_eq, if_pos full]

theorem eventIn_overRate (full : 20000 ≤ h.fabricUsed) : h.eventIn p n payload = h.inc Od.FABRIC_DROPPED := by
  rw [eventIn_legal hears legal, rateLimited_eq, if_pos full]

variable (room : h.fabricUsed < 20000)
include room

theorem dataIn_ours (ours : h.fabricCounted.forNode n) : h.dataIn p n payload = h.fabricCounted.e1Local n payload := by
  rw [dataIn_legal hears legal, rateLimited_eq, if_neg (Nat.not_le.2 room), dataTaken, if_pos ours]

theorem dataIn_other (other : ¬ h.fabricCounted.forNode n) : h.dataIn p n payload = h.fabricCounted.e1Pass n payload true := by
  rw [dataIn_legal hears legal, rateLimited_eq, if_neg (Nat.not_le.2 room), dataTaken, if_neg other]

theorem eventIn_other (other : ¬ h.fabricCounted.forNode n) : h.eventIn p n payload = h.fabricCounted.e1Pass n payload false := by
  rw [eventIn_legal hears legal, rateLimited_eq, if_neg (Nat.not_le.2 room), eventTaken, if_neg other]

section
variable (ours : h.fabricCounted.forNode n)
include ours

theorem eventIn_plain (plain : h.fabricCounted.rd Od.COORDINATOR ≠ h.fabricCounted.node) : h.eventIn p n payload = h.fabricCounted := by
  rw [eventIn_legal hears legal, rateLimited_eq, if_neg (Nat.not_le.2 room), eventTaken, if_pos ours, if_neg plain]

/-- The coordinator passes an EVENT frame on whole, from the hub's own address (R343). -/
theorem eventIn_coordinator (coordinates : h.fabricCounted.rd Od.COORDINATOR = h.fabricCounted.node) : h.eventIn p n payload =
    if h.fabricCounted.role = 2 then
      h.fabricCounted.injectFrame 18 (mkTrunk 0 2 (12 + e1Len n) true (sysAddr h.fabricCounted.ownHub 0 0) (sysAddr h.fabricCounted.ownHub 0 0) 0)
        (n % 256 ^ 12 + 256 ^ 12 * (payload % 256 ^ e1Len n)) 19
    else
      h.fabricCounted.injectFrame 18
        (mkTrunk 0 2 (12 + e1Len n) false (h.fabricCounted.rd Od.GATEWAY_UP_DEST % 2 ^ 24) (sysAddr h.fabricCounted.ownHub 0 0) 0)
        (n % 256 ^ 12 + 256 ^ 12 * (payload % 256 ^ e1Len n)) 0 := by
  rw [eventIn_legal hears legal, rateLimited_eq, if_neg (Nat.not_le.2 room), eventTaken, if_pos ours, if_pos coordinates]

end
end
end

/-! ### Frames of the tree (R346) -/

/-- The hub is a GATEWAY to a running fabric. -/
abbrev isGateway (h : Hub) : Prop := h.fabricRuns = true ∧ h.role = 3

/-- The entry of the fabric map for the device that a frame of the tree names. -/
def mapEntry (h : Hub) (n : Nat) : Nat := h.rd (Od.FABRIC_MAP (hDest n % 4096 / 16))

theorem isGateway_iff : ¬ ((!(h.fabricRuns && h.role == 3)) = true) ↔ h.isGateway := by simp

theorem treeFrame_not (other : ¬ h.isGateway) : h.treeFrame n payload = h := if_pos (not_not.1 (mt isGateway_iff.1 other))

section
variable (gateway : h.isGateway)
include gateway

theorem treeFrame_unmapped (unmapped : 512 < hLen n ∨ hasBit (h.mapEntry n) 31 = false) : h.treeFrame n payload = h.inc Od.UNMAPPED_DROPPED :=
  (if_neg (isGateway_iff.2 gateway)).trans (if_pos unmapped)

theorem treeFrame_mapped (fits : hLen n ≤ 512) (mapped : hasBit (h.mapEntry n) 31 = true) : h.treeFrame n payload =
    if 20000 ≤ h.fabricUsed then h.inc Od.FABRIC_DROPPED
    else h.fabricCounted.e1Send (e1Header (bits (h.mapEntry n) 23 8) h.fabricCounted.node 1 32 (hLen n)
      (sysAddr 0 (bits (h.mapEntry n) 7 0) (hDest n % 16)) 0) payload false :=
  (if_neg (isGateway_iff.2 gateway)).trans (if_neg (not_or.2 ⟨Nat.not_lt.2 fits, ne_false_of_eq_true mapped⟩))

end
end

end Sys2Proof.Machine.Hub

open Sys2Proof.Machine Sys2Proof.Machine.Hub

/-- Settles O51: each clause is one case of an owed computation, of a frame in its second, or of a frame of the tree. -/
theorem fabricFrames : Obligations.FabricFrames := by
  unfold Obligations.FabricFrames
  dsimp only [exec, execPathCompute, execFabricDataReceived, execFabricEventReceived, execMcastDiscard, execGatewayTreeFrame]
  intro t s p hd pay th r
  refine ⟨fun runs owed => act_eq ?_, fun rests => act_eq ?_, fun ⟨hears, legal⟩ full => act_eq ?_,
    fun ⟨hears, legal⟩ room ours => act_eq ?_, fun ⟨hears, legal⟩ room other spent => act_eq ?_,
    fun ⟨hears, legal⟩ room other lives none => act_eq ?_, fun ⟨hears, legal⟩ room other lives hop clear => act_eq ?_,
    fun ⟨hears, legal⟩ room other lives hop shut => act_eq ?_, fun hears reserved => act_eq ?_, fun unheard => act_eq ?_,
    fun ⟨hears, legal⟩ full => act_eq ?_, fun ⟨hears, legal⟩ room other spent => act_eq ?_,
    fun ⟨hears, legal⟩ room other lives hop clear => act_eq ?_, fun ⟨hears, legal⟩ room ours plain => act_eq ?_,
    fun ⟨hears, legal⟩ room ours coordinates fabric => act_eq ?_, fun ⟨hears, legal⟩ room ours coordinates tree => act_eq ?_,
    fun hears reserved => act_eq ?_, fun unheard => act_eq ?_, fun hears => act_eq ?_, fun unheard => act_eq ?_,
    fun gateway unmapped => act_eq ?_, fun gateway fits mapped full => act_eq ?_, fun gateway fits mapped room => act_eq ?_,
    fun other => act_eq ?_⟩
  · exact computePaths_eq.trans (if_pos ⟨runs, owed⟩)
  · exact computePaths_eq.trans (if_neg fun ⟨runs, owed⟩ => rests.elim (ne_true_of_eq_false · runs) (· owed))
  · exact dataIn_overRate hears legal full
  · exact dataIn_ours hears legal room ours
  · exact (dataIn_other hears legal room other).trans (e1Pass_spent spent)
  · exact (dataIn_other hears legal room other).trans ((e1Pass_goes lives).trans (e1Send_pathless none))
  · exact (dataIn_other hears legal room other).trans ((e1Pass_goes lives).trans (e1Send_goes hop clear))
  · exact (dataIn_other hears legal room other).trans ((e1Pass_goes lives).trans (e1Send_dropped hop shut))
  · exact dataIn_reserved hears reserved
  · exact dataIn_unheard unheard
  · exact eventIn_overRate hears legal full
  · exact (eventIn_other hears legal room other).trans (e1Pass_spent spent)
  · exact (eventIn_other hears legal room other).trans ((e1Pass_goes lives).trans (e1Send_goes hop clear))
  · exact eventIn_plain hears legal room ours plain
  · exact (eventIn_coordinator hears legal room ours coordinates).trans (if_pos fabric)
  · exact (eventIn_coordinator hears legal room ours coordinates).trans (if_neg tree)
  · exact eventIn_reserved hears reserved
  · exact eventIn_unheard unheard
  · exact mcastIn_eq.trans (if_pos hears)
  · exact mcastIn_eq.trans (if_neg unheard)
  · exact treeFrame_unmapped gateway unmapped
  · exact (treeFrame_mapped gateway fits mapped).trans (if_pos full)
  · exact (treeFrame_mapped gateway fits mapped).trans (if_neg (Nat.not_le.2 room))
  · exact treeFrame_not other
end

section
/-!
Attestation, ownership, key slots, sessions and the firmware slots, case by case (R432 to R437, R441 to R443, R445, R447, R454).
-/
namespace Sys2Proof.Machine

/-- The first byte of a packed value is its first field. -/
theorem byteAt_pack_first (x : Nat) (l : List (Nat × Nat)) : byteAt (pack ((1, x) :: l)) 0 = x % 256 := by
  simp only [byteAt, pack]
  omega

/-- A register write that its checks refuse answers with their code alone. -/
theorem act_refused {t : Stamp} {s : State} {k v : Nat} {f : Hub → Hub} (refused : (s.arrive t).writeCode k v ≠ 0) :
    act t s (Hub.writing k v f) = .next (s.settled ((s.arrive t).wrote ((s.arrive t).writeCode k v))) :=
  act_eq (Hub.judged_refused refused)

namespace Hub

section
variable {h : Hub} {v : Nat}

/-! ### CLAIM_RESULT (R435, R436) -/

/-- The claim's signature over the present challenge verifies under its own key. -/
def claimSigned (h : Hub) (v : Nat) : Bool :=
  Config.ecdsaVerify (field v 0 64) (digest (labelOf "CLM1" ++ serialBytes ++ toBytes 16 (h.rd Od.CLAIM_CHALLENGE) ++ toBytes 64 v)) (field v 64 64)

theorem claimResult_owned (owned : h.rd Od.SEC_STATE = 1) : h.claimResult v = 2 := if_pos owned

/-- Where no state of the owner decides a claim, its signature does. -/
theorem claimResult_bySignature (unowned : h.rd Od.SEC_STATE ≠ 1) (inTime : ¬ (h.rd Od.SEC_STATE = 2 ∧ h.rd Od.TRANSFER_DEADLINE ≤ h.stamp))
    (named : ¬ (h.rd Od.SEC_STATE = 2 ∧ h.rd Reg.transferTo ≠ ofBytes (digest (toBytes 64 (field v 0 64))))) :
    h.claimResult v = if h.claimSigned v then 1 else 3 := by
  have judged : h.claimResult v = if !h.claimSigned v then 3 else 1 :=
    (if_neg unowned).trans ((if_neg inTime).trans ((if_neg named).trans rfl))
  rw [judged]
  cases h.claimSigned v <;> rfl

theorem claimResult_unowned (unowned : h.rd Od.SEC_STATE = 0) : h.claimResult v = if h.claimSigned v then 1 else 3 :=
  claimResult_bySignature (by simp [unowned]) (by simp [unowned]) (by simp [unowned])

section
variable (pending : h.rd Od.SEC_STATE = 2)
include pending

theorem claimResult_expired (late : h.rd Od.TRANSFER_DEADLINE ≤ h.stamp) : h.claimResult v = 5 :=
  (if_neg (by simp [pending])).trans (if_pos ⟨pending, late⟩)

/-- While a transfer is pending the new owner's key is checked, then the signature. -/
theorem claimResult_pending (inTime : h.stamp < h.rd Od.TRANSFER_DEADLINE) : h.claimResult v =
    if h.rd Reg.transferTo ≠ ofBytes (digest (toBytes 64 (field v 0 64))) then 4 else if h.claimSigned v then 1 else 3 := by
  have open_ : ¬ (h.rd Od.SEC_STATE = 2 ∧ h.rd Od.TRANSFER_DEADLINE ≤ h.stamp) := fun ⟨_, late⟩ => Nat.not_le.2 inTime late
  split
  next other => exact (if_neg (by simp [pending])).trans ((if_neg open_).trans (if_pos ⟨pending, other⟩))
  next named => exact claimResult_bySignature (by simp [pending]) open_ fun ⟨_, other⟩ => named other

end

/-! ### OWNER_CLAIM (R435) -/

/-- A judged claim shows its result, renews the challenge and raises the event. -/
def claimRaised (n : Nat) (h : Hub) : Hub := ((h.wr Od.CLAIM_RESULT n).renew Od.CLAIM_CHALLENGE 16).secEvent 1

/-- A claim that the entry takes ends by its result. -/
theorem ownerClaim_judged (writable : h.Writable Od.OWNER_CLAIM v) : outcome (h.ownerClaim v) =
    if h.claimResult v = 1 then (((h.keep Od.OWNER_CLAIM v).claimDone v).claimRaised 1).wrote 0
    else if h.claimResult v = 3 then (h.claimRaised 3).wrote 4
    else if h.claimResult v = 5 then (h.refreshSecState.claimRaised 5).wrote 7
    else (h.claimRaised (h.claimResult v)).wrote 7 := by
  refine (congrArg outcome (if_neg (not_not.2 writable))).trans ?_
  generalize h.claimResult v = r
  by_cases done : r = 1
  · subst done
    rfl
  by_cases unsigned : r = 3
  · subst unsigned
    rfl
  by_cases expired : r = 5
  · subst expired
    rfl
  simp only [outcome, if_neg done, if_neg unsigned, if_neg expired]
  rfl

theorem ownerClaim_refused (refused : h.writeCode Od.OWNER_CLAIM v ≠ 0) :
    outcome (h.ownerClaim v) = h.wrote (h.writeCode Od.OWNER_CLAIM v) := by
  rw [ownerClaim, if_pos refused, outcome]

/-! ### TRANSFER and its deadline (R436) -/

theorem transferWrite_starts (target : field v 0 32 ≠ 0) : h.transferWrite v =
    (((h.wr Od.SEC_STATE 2).wr Reg.transferTo (field v 0 32)).wr Reg.transferErase (byteAt v 32 % 2)).wr Od.TRANSFER_DEADLINE
      ((h.stamp + h.rd Od.TRANSFER_WINDOW * 1000000000) % 2 ^ 64) := if_neg target

theorem transferWrite_cancels (zero : field v 0 32 = 0) : h.transferWrite v = if h.rd Od.SEC_STATE = 2 then h.refreshSecState else h :=
  if_pos zero

theorem transferLapse_ends (pending : h.rd Od.SEC_STATE = 2) (late : h.rd Od.TRANSFER_DEADLINE ≤ h.stamp) :
    h.transferLapse = h.refreshSecState := if_pos ⟨pending, late⟩

theorem transferLapse_not (rests : h.rd Od.SEC_STATE ≠ 2 ∨ h.stamp < h.rd Od.TRANSFER_DEADLINE) : h.transferLapse = h :=
  if_neg fun ⟨pending, late⟩ => rests.elim (· pending) (Nat.not_lt.2 late)

/-! ### SLOT_CMD (R437) -/

theorem slotCmd_refused (refused : h.slotResult v ≠ 1) : h.slotCmd v = h.wr Od.SLOT_RESULT (h.slotResult v) := if_pos refused

/-- A slot command that is DONE writes its slot, raises the event and closes the slot's sessions. -/
theorem slotCmd_done (done : h.slotResult v = 1) : h.slotCmd v =
    ((((h.wr Od.SLOT_RESULT 1).wr (Od.KEY_SLOT (byteAt v 1)) (if byteAt v 0 = 1 then
        pack [(1, 1), (1, if byteAt v 1 ≤ 4 then 1 else 2), (2, 0), (32, ofBytes (digest (toBytes 64 (field v 4 64))))]
      else putField ((h.wr Od.SLOT_RESULT 1).rd (Od.KEY_SLOT (byteAt v 1))) 0 1 2)).slotsChanged).secEvent 2).closeSessions
      (fun r => seSlot r == byteAt v 1) := by
  rw [slotCmd, if_neg (not_not.2 done), done]

theorem slotCmd_installs (install : byteAt v 0 = 1) (done : h.slotResult v = 1) : h.slotCmd v =
    ((((h.wr Od.SLOT_RESULT 1).wr (Od.KEY_SLOT (byteAt v 1))
        (pack [(1, 1), (1, if byteAt v 1 ≤ 4 then 1 else 2), (2, 0), (32, ofBytes (digest (toBytes 64 (field v 4 64))))])).slotsChanged).secEvent
      2).closeSessions (fun r => seSlot r == byteAt v 1) := by
  rw [slotCmd_done done, if_pos install]

theorem slotCmd_revokes (revoke : byteAt v 0 ≠ 1) (done : h.slotResult v = 1) : h.slotCmd v =
    ((((h.wr Od.SLOT_RESULT 1).wr (Od.KEY_SLOT (byteAt v 1))
        (putField ((h.wr Od.SLOT_RESULT 1).rd (Od.KEY_SLOT (byteAt v 1))) 0 1 2)).slotsChanged).secEvent 2).closeSessions
      (fun r => seSlot r == byteAt v 1) := by
  rw [slotCmd_done done, if_neg revoke]

/-! ### SESSION_OPEN (R441, R442) -/

/-- A SESSION_OPEN that fails its checks is counted and renews the challenge. -/
def openFailed (h : Hub) : Hub := (h.inc Od.SESSION_OPEN_FAILS).renew Od.SESSION_CHALLENGE 16

theorem sessionOpenWrite_barred (barred : h.writeCode Od.SESSION_OPEN v = 6 ∨ h.writeCode Od.SESSION_OPEN v = 8) :
    outcome (h.sessionOpenWrite v) = h.wrote (h.writeCode Od.SESSION_OPEN v) := by
  have code : h.openCode v = h.writeCode Od.SESSION_OPEN v := if_pos (by omega)
  simp only [sessionOpenWrite, code, if_pos barred, outcome]

section
variable (writable : h.Writable Od.SESSION_OPEN v)
include writable

theorem openCode_writable : h.openCode v = if !h.openChecks v then 4 else if 8 ≤ h.sessionsOpen then 7 else 0 := if_neg (not_not.2 writable)

theorem sessionOpenWrite_unsigned (unsigned : h.openChecks v = false) : outcome (h.sessionOpenWrite v) = h.openFailed.wrote 4 := by
  have code : h.openCode v = 4 := (openCode_writable writable).trans (if_pos (by simp [unsigned]))
  rw [sessionOpenWrite, code]
  rfl

section
variable (signed : h.openChecks v = true)
include signed

theorem sessionOpenWrite_full (full : 8 ≤ h.sessionsOpen) : outcome (h.sessionOpenWrite v) = h.openFailed.wrote 7 := by
  have code : h.openCode v = 7 := (openCode_writable writable).trans ((if_neg (by simp [signed])).trans (if_pos full))
  rw [sessionOpenWrite, code]
  rfl

theorem sessionOpenWrite_opens (room : h.sessionsOpen < 8) : outcome (h.sessionOpenWrite v) =
    (((h.keep Od.SESSION_OPEN v).openSession ((firstFrom 1 8 (fun j => !h.sessionOpen j)).getD 1) v).renew Od.SESSION_CHALLENGE 16).wrote 0 := by
  have code : h.openCode v = 0 := (openCode_writable writable).trans ((if_neg (by simp [signed])).trans (if_neg (Nat.not_le.2 room)))
  rw [sessionOpenWrite, code]
  rfl

end

theorem sessionOpenWrite_judged : outcome (h.sessionOpenWrite v) =
    if h.openChecks v = false then h.openFailed.wrote 4
    else if 8 ≤ h.sessionsOpen then h.openFailed.wrote 7
    else (((h.keep Od.SESSION_OPEN v).openSession ((firstFrom 1 8 (fun j => !h.sessionOpen j)).getD 1) v).renew Od.SESSION_CHALLENGE 16).wrote 0 := by
  split
  next unsigned => exact sessionOpenWrite_unsigned writable unsigned
  next signed =>
    split
    next full => exact sessionOpenWrite_full writable (by simpa using signed) full
    next room => exact sessionOpenWrite_opens writable (by simpa using signed) (Nat.not_le.1 room)

end

/-! ### SESSION_CLOSE and idle sessions (R443) -/

section
variable {writer id n : Nat}

theorem closeCode_refused (refused : h.writeCode Od.SESSION_CLOSE id ≠ 0) : h.closeCode writer id = h.writeCode Od.SESSION_CLOSE id :=
  if_pos refused

section
variable (writable : h.Writable Od.SESSION_CLOSE id)
include writable

theorem closeCode_noWriter (closed : h.sessionOf writer = none) : h.closeCode writer id = 4 :=
  (if_neg (not_not.2 writable)).trans (if_pos (by simp [closed]))

variable (writes : (h.sessionOf writer).isSome = true)
include writes

theorem closeCode_noSession (closed : h.sessionOf id = none) : h.closeCode writer id = 7 :=
  (if_neg (not_not.2 writable)).trans ((if_neg (by simpa [Option.isSome_iff_ne_none] using writes)).trans (if_pos (by simp [closed])))

variable (named : (h.sessionOf id).isSome = true)
include named

theorem closeCode_named : h.closeCode writer id = if writer ≠ id ∧ h.sessionRole writer ≠ 1 then 3 else 0 :=
  (if_neg (not_not.2 writable)).trans ((if_neg (by simpa [Option.isSome_iff_ne_none] using writes)).trans (if_neg (by simpa [Option.isSome_iff_ne_none] using named)))

theorem closeCode_other (other : writer ≠ id) (operator : h.sessionRole writer ≠ 1) : h.closeCode writer id = 3 :=
  (closeCode_named writable writes named).trans (if_pos ⟨other, operator⟩)

theorem closeCode_ok (may : writer = id ∨ h.sessionRole writer = 1) : h.closeCode writer id = 0 :=
  (closeCode_named writable writes named).trans (if_neg fun ⟨other, operator⟩ => may.elim other operator)

end

theorem closeById_open (place : h.sessionOf id = some n) : h.closeById id = h.closeSession n := by
  rw [closeById, place]

/-- SESSION_IDLE has passed since the last use of session place n. -/
abbrev idleFor (h : Hub) (n : Nat) : Prop := seLastUse (h.sessionRec n) + h.rd Od.SESSION_IDLE * 1000000000 ≤ h.stamp

theorem sessionIdle_closes (stands : h.sessionOpen n = true) (idle : h.idleFor n) : h.sessionIdle n = h.closeSession n :=
  if_pos (Bool.and_eq_true_iff.2 ⟨stands, decide_eq_true idle⟩)

theorem sessionIdle_not (rests : h.sessionOpen n = false ∨ ¬ h.idleFor n) : h.sessionIdle n = h :=
  if_neg (ne_true_of_eq_false (Bool.and_eq_false_iff.2 (rests.imp_right decide_eq_false)))

end

/-! ### The firmware slots (R445, R447) -/

section
variable {good : Bool} {c : Nat}

theorem fwWriteCode_refused (refused : h.writeCode Od.FW_WRITE_DATA v ≠ 0) : h.fwWriteCode v = h.writeCode Od.FW_WRITE_DATA v := if_pos refused

section
variable (writable : h.Writable Od.FW_WRITE_DATA v)
include writable

theorem fwWriteCode_off (off : h.isOn 12 = false) : h.fwWriteCode v = 8 := (if_neg (not_not.2 writable)).trans (if_pos (by simp [off]))

variable (on : h.isOn 12 = true)
include on

theorem fwWriteCode_checking (checking : h.rd Od.FW_RESULT = 2) : h.fwWriteCode v = 7 :=
  (if_neg (not_not.2 writable)).trans ((if_neg (by simp [on])).trans (if_pos checking))

theorem fwWriteCode_ok (free : h.rd Od.FW_RESULT ≠ 2) : h.fwWriteCode v = 0 :=
  (if_neg (not_not.2 writable)).trans ((if_neg (by simp [on])).trans (if_neg free))

end

theorem fwWrite_past (past : 523776 < h.rd Od.FW_WRITE_AT) : h.fwWrite v good = h.wr Od.FW_RESULT 3 := if_pos past

theorem fwWrite_good (inside : h.rd Od.FW_WRITE_AT ≤ 523776) : h.fwWrite v true =
    (((h.wr Reg.fwChecked 0).putFlash (h.wr Reg.fwChecked 0).inactive (h.rd Od.FW_WRITE_AT / 512) v).wr Od.FW_WRITE_AT
      (h.rd Od.FW_WRITE_AT + 512)).wr Od.FW_RESULT 1 := if_neg (Nat.not_lt.2 inside)

theorem fwWrite_bad (inside : h.rd Od.FW_WRITE_AT ≤ 523776) : h.fwWrite v false =
    ((h.wr Reg.fwChecked 0).fresh.2.putFlash (h.wr Reg.fwChecked 0).fresh.2.inactive (h.rd Od.FW_WRITE_AT / 512)
      ((h.wr Reg.fwChecked 0).fresh.1 % 256 ^ 512)).wr Od.FW_RESULT 9 := if_neg (Nat.not_lt.2 inside)

theorem fwCmdCode_refused (refused : h.writeCode Od.FW_CMD c ≠ 0) : h.fwCmdCode c = h.writeCode Od.FW_CMD c := if_pos refused

theorem fwCmdCode_checking (writable : h.Writable Od.FW_CMD c) (checking : h.rd Od.FW_RESULT = 2) : h.fwCmdCode c = 7 :=
  (if_neg (not_not.2 writable)).trans (if_pos checking)

theorem fwCmdCode_ok (writable : h.Writable Od.FW_CMD c) (free : h.rd Od.FW_RESULT ≠ 2) : h.fwCmdCode c = 0 :=
  (if_neg (not_not.2 writable)).trans (if_neg free)

theorem fwChecked_ends (checking : h.rd Od.FW_RESULT = 2) : h.fwChecked =
    ((h.wr Od.FW_RESULT (if h.fwVerdict h.inactive = 0 then 1 else h.fwVerdict h.inactive)).wr Reg.secOp 0).wr Reg.fwChecked
      (if h.fwVerdict h.inactive = 0 then 1 else 0) := if_pos checking

theorem fwChecked_not (idle : h.rd Od.FW_RESULT ≠ 2) : h.fwChecked = h := if_neg idle

theorem fwPrefer_checked (checked : h.rd Reg.fwChecked = 1) :
    h.fwPrefer = ((h.wr Od.FW_PREFERRED h.inactive).wr Od.FW_RESULT 1).saveSecurity := if_pos checked

theorem fwPrefer_unchecked (unchecked : h.rd Reg.fwChecked ≠ 1) : h.fwPrefer = h.wr Od.FW_RESULT 3 := if_neg unchecked

end
end

end Hub

/-- A firmware command that the entry refuses, or that comes during a check, answers with its code alone. -/
theorem act_fwCmd_refused {t : Stamp} {s : State} {c : Nat} {f : Hub → Hub} :
    ((s.arrive t).writeCode Od.FW_CMD c ≠ 0 →
      act t s (fun h => h.judged (h.fwCmdCode c) Od.FW_CMD c f) = .next (s.settled ((s.arrive t).wrote ((s.arrive t).writeCode Od.FW_CMD c)))) ∧
    ((s.arrive t).Writable Od.FW_CMD c → (s.arrive t).rd Od.FW_RESULT = 2 →
      act t s (fun h => h.judged (h.fwCmdCode c) Od.FW_CMD c f) = .next (s.settled ((s.arrive t).wrote 7))) :=
  ⟨fun refused => act_eq (Hub.judged_code (Hub.fwCmdCode_refused refused) refused),
    fun writable checking => act_eq (Hub.judged_code (Hub.fwCmdCode_checking writable checking) (by decide))⟩

/-- A firmware command that is taken has its effect. -/
theorem act_fwCmd {t : Stamp} {s : State} {c : Nat} {f : Hub → Hub} {x : Hub}
    (taken : (s.arrive t).Writable Od.FW_CMD c ∧ (s.arrive t).rd Od.FW_RESULT ≠ 2) (e : f ((s.arrive t).keep Od.FW_CMD c) = x) :
    act t s (fun h => h.judged (h.fwCmdCode c) Od.FW_CMD c f) = .next (s.settled (x.wrote 0)) :=
  act_eq ((Hub.judged_ok (Hub.fwCmdCode_ok taken.1 taken.2)).trans (congrArg (Hub.wrote 0) e))

end Sys2Proof.Machine

open Sys2Proof.Machine Sys2Proof.Machine.Hub

/-- Settles O57: each clause is one write by its result, or a result by the state of the owner. -/
theorem ownershipAndSlots : Obligations.OwnershipAndSlots := by
  unfold Obligations.OwnershipAndSlots
  dsimp only [exec, execAttestNonce, execOwnerClaim, execTransfer, execTransferDeadline, execSlotInstall, execSlotRevoke]
  intro t s v c x i key
  refine ⟨fun writable => act_writing writable rfl, act_refused, fun refused => act_eq (ownerClaim_refused refused), act_refused, act_refused,
    act_refused, fun writable => act_eq (ownerClaim_judged writable), claimResult_owned, claimResult_expired, claimResult_pending,
    claimResult_unowned, fun writable target => act_writing writable (transferWrite_starts target),
    fun writable zero => act_writing writable (transferWrite_cancels zero), fun pending late => act_eq (transferLapse_ends pending late),
    fun rests => act_eq (transferLapse_not rests), fun writable => ?_, fun writable done => act_writing writable (slotCmd_revokes ?_ done),
    fun writable refused => act_writing writable (slotCmd_refused refused)⟩
  · split
    next done => exact act_writing writable (slotCmd_installs (byteAt_pack_first 1 _) done)
    next refused => exact act_writing writable (slotCmd_refused refused)
  · rw [byteAt_pack_first]
    decide

/-- Settles O58: each clause is one write by the code of its checks, or the end of a time. -/
theorem sessionCommands : Obligations.SessionCommands := by
  unfold Obligations.SessionCommands
  dsimp only [exec, execSessionOpen, execSessionClose, execSessionIdleExpiry, execZeroise, execIdentityDerived]
  intro t s v a b i n
  refine ⟨fun writable => act_eq (sessionOpenWrite_judged writable), fun barred => act_eq (sessionOpenWrite_barred barred),
    fun writable writes named may place => act_eq ?_, fun writable writes named other operator => act_eq ?_,
    fun writable closed => act_eq ?_, fun writable writes closed => act_eq ?_, fun refused => act_eq ?_,
    fun stands idle => act_eq (sessionIdle_closes stands idle), fun rests => act_eq (sessionIdle_not rests),
    fun writable => act_eq (if_pos writable), fun refused => act_eq (if_neg refused), fun due => act_eq (expire_due _ _ _ due),
    fun early => act_eq (expire_not_due _ _ _ early)⟩
  · exact (judged_ok (closeCode_ok writable writes named may)).trans (congrArg (Hub.wrote 0) (closeById_open place))
  · exact judged_code (closeCode_other writable writes named other operator) (by decide)
  · exact judged_code (closeCode_noWriter writable closed) (by decide)
  · exact judged_code (closeCode_noSession writable writes closed) (by decide)
  · exact judged_code (closeCode_refused refused) refused

/-- Settles O59: each clause is one write by the code of its checks and the slot's state, or the end of a check. -/
theorem firmwareSlots : Obligations.FirmwareSlots := by
  unfold Obligations.FirmwareSlots
  dsimp only [exec, execFwWriteData, execEraseInactive, execCheckInactive, execFwCheckComplete, execPreferInactive, execCommitSvn]
  intro t s v g
  refine ⟨fun ⟨writable, on, free⟩ inside => act_eq ?_, fun ⟨writable, on, free⟩ inside => act_eq ?_,
    fun ⟨writable, on, free⟩ past => act_eq ?_, fun writable off => act_eq ?_, fun writable on checking => act_eq ?_,
    fun refused => act_eq ?_, ?_, fun taken => act_fwCmd taken rfl, fun taken => act_fwCmd taken rfl,
    fun checking => act_eq (fwChecked_ends checking), fun idle => act_eq (fwChecked_not idle),
    fun taken checked => act_fwCmd taken (fwPrefer_checked checked), fun taken unchecked => act_fwCmd taken (fwPrefer_unchecked unchecked),
    fun taken => act_fwCmd taken rfl⟩
  · exact (judged_ok (fwWriteCode_ok writable on free)).trans (congrArg (Hub.wrote 0) (fwWrite_good inside))
  · exact (judged_ok (fwWriteCode_ok writable on free)).trans (congrArg (Hub.wrote 0) (fwWrite_bad inside))
  · exact (judged_ok (fwWriteCode_ok writable on free)).trans (congrArg (Hub.wrote 0) (fwWrite_past past))
  · exact judged_code (fwWriteCode_off writable off) (by decide)
  · exact judged_code (fwWriteCode_checking writable on checking) (by decide)
  · exact judged_code (fwWriteCode_refused refused) refused
  · refine List.forall_mem_cons.2 ⟨act_fwCmd_refused, List.forall_mem_cons.2 ⟨act_fwCmd_refused, List.forall_mem_cons.2 ⟨act_fwCmd_refused, ?_⟩⟩⟩
    exact List.forall_mem_singleton.2 act_fwCmd_refused
end

section
/-!
Key exchanges of trunks, case by case (R448 to R453).
-/
namespace Sys2Proof.Machine

/-- A trunk as the cable port that it is. -/
def Trunk.cable (u : Trunk) : Cable := ⟨16 + u, by omega⟩

/-- Registers of a trunk under different numbers are different cells. -/
theorem trunkRegister_ne {i j : Nat} (u : Trunk) (other : i ≠ j) : rkey i u ≠ rkey j u :=
  register_ne_register (cable_small (u.castLE (by decide)) (u.castLE (by decide))) other

namespace Hub

section
variable {h : Hub} {u v : Nat}

/-! ### The upstream end (R448, R452) -/

/-- The upstream end may begin an exchange on trunk u: an ACTIVE TS link without one, with PD11 ON and Flint to serve. -/
abbrev mayExchange (h : Hub) (u : Nat) : Prop := h.keyxUpstream u = true ∧ h.keyxOf u = none ∧ h.isOn 11 = true ∧ h.flintOn = true

theorem keyxStart_eq : h.keyxStart u =
    if h.rd (Reg.keyxDue u) = 1 ∧ h.rd Od.TRUNK_ENC ≠ 0 ∧ h.mayExchange u then (h.wr (Reg.keyxDue u) 0).beginKeyx u 1 else h := by
  refine if_congr ?_ rfl rfl
  rw [Option.isNone_iff_eq_none]
  tauto

/-- The keys of trunk u are worn: their interval has passed, or one of them has carried 2^30 frames. -/
abbrev keysWorn (h : Hub) (u : Nat) : Prop := h.due (Tm.rekey u) = true ∨ 2 ^ 30 ≤ h.rd (Reg.keyE u) ∨ 2 ^ 30 ≤ h.rd (Reg.keyFramesRx u)

theorem rekeyDue_eq : h.rekeyDue u =
    if h.rd (Reg.keyTx u) = 1 ∧ h.keysWorn u ∧ h.mayExchange u then (h.wr (Tm.rekey u) 0).beginKeyx u 2 else h := by
  refine if_congr ?_ rfl rfl
  simp only [Bool.and_eq_true, Bool.or_eq_true, beq_iff_eq, decide_eq_true_eq, Option.isNone_iff_eq_none]
  tauto

/-! ### LINK_KEYX at the child (R449, R452) -/

/-- The child's end of an ACTIVE TS link on trunk u. -/
abbrev childLink (h : Hub) (u : Nat) : Prop :=
  h.downstreamEnd (16 + u) = true ∧ h.rd (Od.LINK_STATE (16 + u)) = 4 ∧ h.rd (Od.LINK_CLASS (16 + u)) = 4

/-- The exchange that a request opens at the child. -/
def keyxOpened (u v : Nat) (h : Hub) : Hub :=
  ({ h with keyx := putBy KeyExchange.trunk ⟨u, false, byteAt v 0, 0, 0, 0, 0, v⟩ h.keyx } : Hub).wr (Reg.keyxReply u) 1

theorem keyxCode_refused (refused : h.writeCode Od.LINK_KEYX v ≠ 0) : h.keyxCode u v = h.writeCode Od.LINK_KEYX v := if_pos refused

section
variable (writable : h.Writable Od.LINK_KEYX v)
include writable

theorem keyxCode_writable : h.keyxCode u v = if h.childLink u ∧ h.keyxOf u = none then 0 else 7 := by
  refine (if_neg (not_not.2 writable)).trans ?_
  by_cases link : h.childLink u
  · obtain ⟨down, active, ts⟩ := link
    cases h.keyxOf u <;> simp [down, active, ts]
  · exact (if_pos (by simpa [imp_iff_not_or, or_assoc] using link)).trans (if_neg fun ⟨stands, _⟩ => link stands).symm

theorem keyxCode_ok (link : h.childLink u) (free : h.keyxOf u = none) : h.keyxCode u v = 0 := (keyxCode_writable writable).trans (if_pos ⟨link, free⟩)

theorem keyxCode_deaf (deaf : h.downstreamEnd (16 + u) = false ∨ h.rd (Od.LINK_STATE (16 + u)) ≠ 4 ∨ h.rd (Od.LINK_CLASS (16 + u)) ≠ 4 ∨
    h.keyxOf u ≠ none) : h.keyxCode u v = 7 := by
  refine (keyxCode_writable writable).trans (if_neg ?_)
  rintro ⟨⟨down, active, ts⟩, free⟩
  simp [down, active, ts, free] at deaf

end

theorem keyxWrite_refuses (off : h.rd Od.TRUNK_ENC = 0) : h.keyxWrite u v = h.wr (Reg.keyxReply u) 259 := if_pos off

section
variable (on : h.rd Od.TRUNK_ENC ≠ 0)
include on

theorem keyxWrite_agree (agree : byteAt v 0 = 1) : h.keyxWrite u v = (h.keyxOpened u v).wr (Od.UA_SEC_STATE + u) 1 := by
  rw [keyxWrite, if_neg on, agree]
  rw [keyxOpened, agree]
  rfl

theorem keyxWrite_rekey (rekey : byteAt v 0 = 2) : h.keyxWrite u v = ((h.keyxOpened u v).wr (Od.UA_SEC_STATE + u) 3).rotation u true := by
  rw [keyxWrite, if_neg on, rekey]
  rw [keyxOpened, rekey]
  rfl

end

/-! ### The child's reply (R449, R451) -/

section
variable {cert ca : Nat} {k : KeyExchange}

/-- The upstream end's signature in an exchange's message verifies under its certificate. -/
def messageSigned (k : KeyExchange) (cert : Nat) : Bool :=
  Config.ecdsaVerify (Config.certKey cert) (digest (labelOf "LKX1" ++ serialBytes ++ toBytes 84 k.message)) (field k.message 84 64)

/-- The reply that the child fills, with its nonce, its ephemeral key and its signature, and the keys held as next keys. -/
def keyxReplied (u cert : Nat) (k : KeyExchange) (h : Hub) : Hub :=
  let f := h.fresh
  let g := f.2.fresh
  let z := g.2.fresh
  let head := pack [(1, 2), (3, 0), (16, f.1), (64, Config.ecdhPublic g.1)]
  let sig := Config.ecdsaSign (digest (labelOf "LKX2" ++ toBytes 8 (Config.certSerial cert) ++ toBytes 84 k.message ++ toBytes 84 head)) z.1
  let dk := deriveLink (Config.ecdh g.1 (field k.message 20 64)) (field k.message 4 16) (f.1 % 256 ^ 16)
  let kk : LinkKey := { z.2.linkKeyOf u with rxNext := some dk.down, txNext := some dk.up }
  ((({ z.2 with linkKeys := putBy LinkKey.trunk kk z.2.linkKeys } : Hub).endKeyx u).wr (Reg.keyxReply u) (pack [(84, head), (64, sig)])).rotation u
    false

theorem keyxReply_none (none : h.keyxOf u = none) : h.keyxReply u cert ca = h := by
  rw [keyxReply, none]

section
variable (exchange : h.keyxOf u = some k)
include exchange

theorem keyxReply_upstream (upstream : k.upstream = true) : h.keyxReply u cert ca = h := by
  rw [keyxReply, exchange]
  exact if_pos upstream

/-- The child judges the certificates, then the signature, and fills its reply. -/
theorem keyxReply_child (child : k.upstream = false) : h.keyxReply u cert ca =
    if Config.certValid cert ca (h.rd Od.ID_ROOT_HASH) = false then h.keyxRefuse k 2
    else if messageSigned k cert = false then h.keyxRefuse k 3
    else if k.op = 2 then (h.keyxReplied u cert k).inc Od.REKEYS else h.keyxReplied u cert k := by
  rw [keyxReply, exchange]
  refine (if_neg (ne_true_of_eq_false child)).trans ?_
  refine if_congr (by simp) rfl ?_
  exact if_congr (by simp [messageSigned]) rfl rfl

end
end
end

/-! ### 100 ms without keys, and 60 s after a failure (R453) -/

section
variable {h : Hub} {u : Trunk}

/-- The end of tKeyAgree on trunk u. -/
def keyAgreeFallen (u : Trunk) (h : Hub) : Hub := h.wr (Tm.keyAgree u) 0

/-- The end of the wait before a further AGREE on trunk u. -/
def keyRetryFallen (u : Trunk) (h : Hub) : Hub := h.wr (Tm.keyRetry u) 0

/-- A link under REQUIRED without keys, whose upstream end the hub is, past its reset. -/
abbrev unkeyed (h : Hub) (u : Trunk) : Prop :=
  h.rd Od.TRUNK_ENC = 2 ∧ h.rd (Reg.keyTx u) = 0 ∧ (h.keyAgreeFallen u).upstreamEnd (16 + u) = true ∧ 4 ≤ h.rd (Od.PORT_STATE (16 + u))

theorem rd_trunkTimer_enc (i : Nat) : (h.wr (rkey i u) 0).rd Od.TRUNK_ENC = h.rd Od.TRUNK_ENC :=
  rd_wr_ne _ _ _ _ (entry_ne_register (by decide) i u)

theorem rd_trunkTimer_register {i j : Nat} (other : j ≠ i) : (h.wr (rkey i u) 0).rd (rkey j u) = h.rd (rkey j u) :=
  rd_wr_ne _ _ _ _ (trunkRegister_ne u other)

theorem rd_trunkTimer_state (i : Nat) : (h.wr (rkey i u) 0).rd (Od.PORT_STATE (16 + u)) = h.rd (Od.PORT_STATE (16 + u)) :=
  rd_wr_ne _ _ _ _ (portEntry_ne_register (Trunk.cable u) (by decide))

theorem keyAgreeLapse_due (due : h.due (Tm.keyAgree u) = true) : h.keyAgreeLapse u =
    if h.unkeyed u then (((h.keyAgreeFallen u).endKeyx u).enterResetting (16 + u)).egressGone (16 + u) else h.keyAgreeFallen u := by
  refine (expire_due h _ _ due).trans (if_congr ?_ rfl rfl)
  rw [rd_trunkTimer_enc, rd_trunkTimer_register (by decide), rd_trunkTimer_state]
  rfl

theorem keyxRetry_due (due : h.due (Tm.keyRetry u) = true) : h.keyxRetry u =
    if h.rd Od.TRUNK_ENC = 1 ∧ h.rd (Reg.keyTx u) = 0 then ((h.keyRetryFallen u).wr (Reg.keyxDue u) 1).keyxStart u else h.keyRetryFallen u := by
  refine (expire_due h _ _ due).trans (if_congr ?_ rfl rfl)
  rw [rd_trunkTimer_enc, rd_trunkTimer_register (by decide)]

end

end Hub

end Sys2Proof.Machine

open Sys2Proof.Machine Sys2Proof.Machine.Hub

/-- Settles O60: each clause is one case of an exchange's begin, of LINK_KEYX, of the reply, or of a timer's end. -/
theorem keyExchanges : Obligations.KeyExchanges := by
  unfold Obligations.KeyExchanges
  dsimp only [exec, execKeyxStart, execLinkKeyxAgree, execLinkKeyxRekey, execKeyxReplyReady, execRekeyDue, execKeyAgreeTimeout,
    execKeyxRetryTimer]
  intro t s u body cert ca k
  refine ⟨fun starts => act_eq ?_, fun rests => act_eq ?_, fun writable ⟨down, active, ts, free⟩ on agree => act_eq ?_,
    fun writable ⟨down, active, ts, free⟩ off => act_eq ?_, fun writable deaf => act_eq ?_,
    fun writable ⟨down, active, ts, free⟩ on rekey => act_eq ?_, fun writable deaf => act_eq ?_,
    fun writable ⟨down, active, ts, free⟩ off => act_eq ?_, fun refused => act_eq ?_, fun refused => act_eq ?_,
    fun exchange child => act_eq ?_, fun exchange upstream => act_eq ?_, fun none => act_eq ?_, fun rekeys => act_eq ?_,
    fun rests => act_eq ?_, fun due unkeyed => act_eq ?_, fun due keyed => act_eq ?_, fun early => act_eq ?_,
    fun due preferred unkeyed => act_eq ?_, fun due rests => act_eq ?_, fun early => act_eq ?_⟩
  · exact keyxStart_eq.trans (if_pos starts)
  · exact keyxStart_eq.trans (if_neg rests)
  · exact (judged_ok (keyxCode_ok writable ⟨down, active, ts⟩ free)).trans (congrArg (Hub.wrote 0) (keyxWrite_agree on agree))
  · exact (judged_ok (keyxCode_ok writable ⟨down, active, ts⟩ free)).trans (congrArg (Hub.wrote 0) (keyxWrite_refuses off))
  · exact judged_code (keyxCode_deaf writable deaf) (by decide)
  · exact (judged_ok (keyxCode_ok writable ⟨down, active, ts⟩ free)).trans (congrArg (Hub.wrote 0) (keyxWrite_rekey on rekey))
  · exact judged_code (keyxCode_deaf writable deaf) (by decide)
  · exact (judged_ok (keyxCode_ok writable ⟨down, active, ts⟩ free)).trans (congrArg (Hub.wrote 0) (keyxWrite_refuses off))
  · exact judged_code (keyxCode_refused refused) refused
  · exact judged_code (keyxCode_refused refused) refused
  · exact keyxReply_child exchange child
  · exact keyxReply_upstream exchange upstream
  · exact keyxReply_none none
  · exact rekeyDue_eq.trans (if_pos rekeys)
  · exact rekeyDue_eq.trans (if_neg rests)
  · exact (keyAgreeLapse_due due).trans (if_pos unkeyed)
  · exact (keyAgreeLapse_due due).trans (if_neg keyed)
  · exact expire_not_due _ _ _ early
  · exact (keyxRetry_due due).trans (if_pos ⟨preferred, unkeyed⟩)
  · exact (keyxRetry_due due).trans (if_neg fun ⟨preferred, unkeyed⟩ => rests.elim (· preferred) (· unkeyed))
  · exact expire_not_due _ _ _ early
end

section
/-!
Power domains, clocks and the firmware load, case by case (R408 to R427, R446).
-/
namespace Sys2Proof.Machine.Hub

section
variable {h : Hub} {g : GroupCmd}

/-! ### DOMAIN_CMD and DOMAIN_CANCEL (R408, R409, R421) -/

section
variable {v : Nat}

theorem domainCmdCode_refused (refused : h.writeCode Od.DOMAIN_CMD v ≠ 0) : h.domainCmdCode v = h.writeCode Od.DOMAIN_CMD v := if_pos refused

theorem domainCmdCode_writable (writable : h.Writable Od.DOMAIN_CMD v) : h.domainCmdCode v = if h.group.isSome then 7 else 0 :=
  if_neg (not_not.2 writable)

theorem domainCmdCode_ok (writable : h.Writable Od.DOMAIN_CMD v) (idle : h.group = none) : h.domainCmdCode v = 0 := by
  rw [domainCmdCode_writable writable, idle]
  rfl

theorem domainCmdCode_busy (writable : h.Writable Od.DOMAIN_CMD v) (runs : h.group = some g) : h.domainCmdCode v = 7 := by
  rw [domainCmdCode_writable writable, runs]
  rfl

end

theorem cancelCode_none (idle : h.group = none) : h.cancelCode = 7 := by
  rw [cancelCode, idle]
  rfl

theorem cancelCode_running (runs : h.group = some g) : h.cancelCode = if g.source ≠ 3 then 0 else 7 := by
  rw [cancelCode, runs]
  exact if_congr (by simp) rfl rfl

theorem cancelCode_ok (runs : h.group = some g) (source : g.source ≠ 3) : h.cancelCode = 0 := (cancelCode_running runs).trans (if_pos source)

theorem cancelCode_reaction (runs : h.group = some g) (source : g.source = 3) : h.cancelCode = 7 :=
  (cancelCode_running runs).trans (if_neg (not_not.2 source))

section
variable {outcome : Nat} (runs : h.group = some g)
include runs

theorem stopGroup_rollingBack (back : g.phase = 4) : h.stopGroup outcome = h := by
  rw [stopGroup, runs]
  exact if_pos back

theorem stopGroup_queued (queued : g.phase = 2) : h.stopGroup outcome = (h.withdraw false g.at_).rollback { g with outcome := outcome } := by
  rw [stopGroup, runs]
  exact (if_neg (by simp [queued])).trans (if_pos queued)

theorem stopGroup_later (queued : g.phase ≠ 2) (back : g.phase ≠ 4) : h.stopGroup outcome = { h with group := some { g with stop := outcome } } := by
  rw [stopGroup, runs]
  exact (if_neg back).trans (if_neg queued)

end

/-! ### A visit (R410, R412, R419) -/

theorem visit_idle (idle : h.group = none) : h.visit = h := by
  rw [visit, idle]

section
variable (runs : h.group = some g)
include runs

theorem visit_waits (waits : g.phase ≠ 0 ∨ h.edge = false) : h.visit = h := by
  rw [visit, runs]
  exact if_pos (by simpa using waits)

section
variable (between : g.phase = 0) (edge : h.edge = true)
include between edge

theorem visit_between : h.visit = if g.stop ≠ 0 then h.rollback { g with outcome := g.stop } else visitN 13 g h := by
  rw [visit, runs]
  exact if_neg (by simp [between, edge])

theorem visit_stopped (stopped : g.stop ≠ 0) : h.visit = h.rollback { g with outcome := g.stop } :=
  (visit_between runs between edge).trans (if_pos stopped)

theorem visit_ends (goes : g.stop = 0) (done : g.todo = []) : h.visit = h.endGroup g := by
  rw [visit_between runs between edge, if_neg (not_not.2 goes), visitN, done]

end
end

/-! ### The end of a domain's delay (R412, R419) -/

/-- The delay under way has fallen due. -/
def delayFallen (h : Hub) : Hub := h.wr Tm.domDelay 0

theorem delayEnd_idle (idle : h.group = none) : h.delayEnd = h := by
  rw [delayEnd, idle]

/-- The last domain of a command, other than PD1, has woken: it is HELD, and the command ends. -/
theorem delayEnd_lastWoken (runs : h.group = some g) (moves : g.phase = 1) (other : g.at_ ≠ 1) (waking : h.dom g.at_ = 3) (goes : g.stop = 0)
    (done : g.todo = []) : h.delayEnd = (h.setDom g.at_ 4 g.source true).endGroup { g with phase := 0 } := by
  rw [delayEnd, runs]
  refine (if_pos moves).trans ?_
  simp only [if_pos waking, if_neg (fun both : g.at_ = 1 ∧ _ => other both.1), goes, done]
  rfl

theorem domainDelay_ends (edge : h.edge = true) (due : h.due Tm.domDelay = true) :
    (if h.edge = true then h.expire Tm.domDelay delayEnd else h) = h.delayFallen.delayEnd := (if_pos edge).trans (expire_due h _ _ due)

theorem domainDelay_not (rests : h.edge = false ∨ h.due Tm.domDelay = false) :
    (if h.edge = true then h.expire Tm.domDelay delayEnd else h) = h :=
  rests.elim (fun off => if_neg (ne_true_of_eq_false off)) domainDelay_early

/-! ### Clocks (R423 to R425) -/

section
variable {n : Nat}

/-- The clock being started is not good yet, or no longer in time. -/
abbrev clockUntimely (h : Hub) (n : Nat) : Prop := h.due Tm.clock = true ∨ h.now + 1 + clockMax n < h.rd Tm.clock + clockMin n

theorem clockGood_idle (idle : h.group = none) : h.clockGood n = h.clockBack n := by
  rw [clockGood, idle]

section
variable (runs : h.group = some g)
include runs

theorem clockGood_other (other : g.phase ≠ 3 ∨ g.clocks.head? ≠ some n) : h.clockGood n = h.clockBack n := by
  rw [clockGood, runs]
  exact if_neg fun ⟨starts, first⟩ => other.elim (· starts) (· first)

section
variable (starts : g.phase = 3) (first : g.clocks.head? = some n)
include starts first

theorem clockGood_starting : h.clockGood n = if h.clockUntimely n then h else
    ((h.wrBit Od.CLOCK_STATE (clockBit n) true).wr Tm.clock 0).startClocks { g with clocks := g.clocks.drop 1 } := by
  rw [clockGood, runs]
  exact if_pos ⟨starts, first⟩

end
end

theorem clockFailed_idle (idle : h.group = none) : h.clockFailed = h := by
  rw [clockFailed, idle]

theorem clockFailed_refuses {cs : List Nat} (runs : h.group = some g) (starts : g.phase = 3) (clocks : g.clocks = n :: cs) : h.clockFailed =
    (((h.wrBit Od.CLOCK_STATE (clockBit n) false).inc Od.CLOCK_FAILS).report 0x42 n 0).refuseVisit g g.at_ 14 n := by
  rw [clockFailed, runs]
  dsimp only
  rw [starts, clocks]
  rfl

theorem lockLost_runs (runs : hasBit (h.rd Od.CLOCK_STATE) (clockBit n) = true) :
    h.lockLost n = (h.wrBit Od.CLOCK_STATE (clockBit n) false).report 0x43 n 0 := if_pos runs

theorem lockLost_stopped (stopped : hasBit (h.rd Od.CLOCK_STATE) (clockBit n) = false) : h.lockLost n = h := if_neg (ne_true_of_eq_false stopped)

end

theorem crystalLost_moves (crystal : h.rd Od.LF_SOURCE ≠ 1) : h.crystalLost = (h.wr Od.LF_SOURCE 1).report 0x41 0 0 := if_neg crystal

theorem crystalLost_again (rc : h.rd Od.LF_SOURCE = 1) : h.crystalLost = h := if_pos rc

/-! ### The armed triggers (R422, R427) -/

section
variable {j : Nat}

/-- ARMED_CMD holds a command, and its bit j of TRIGGERS is set. -/
abbrev armedFor (h : Hub) (j : Nat) : Prop := byteAt (h.rd Od.ARMED_CMD) 4 ≠ 0 ∧ hasBit (byteAt (h.rd Od.ARMED_CMD) 5) j = true

/-- The command of ARMED_CMD begins. -/
def armedRuns (h : Hub) : Hub :=
  (h.inc Od.ARMED_RUNS).beginGroup (field (h.rd Od.ARMED_CMD) 0 4) 2 (cmdPairs (h.rd Od.ARMED_CMD)) [] none

theorem armedTrigger_unarmed (unarmed : ¬ h.armedFor j) : h.armedTrigger j = h := by
  refine if_pos ?_
  rw [not_and_or, not_not] at unarmed
  simpa using unarmed

section
variable (armed : h.armedFor j)
include armed

theorem armedTrigger_armed : h.armedTrigger j =
    if h.group.isNone = true then h.armedRuns else if h.rd Reg.armedHeld = 1 then h.inc Od.ARMED_DROPPED else h.wr Reg.armedHeld 1 :=
  if_neg (by simpa using armed)

theorem armedTrigger_begins (idle : h.group = none) : h.armedTrigger j = h.armedRuns :=
  (armedTrigger_armed armed).trans (if_pos (by simp [idle]))

theorem armedTrigger_running (runs : h.group = some g) :
    h.armedTrigger j = if h.rd Reg.armedHeld = 1 then h.inc Od.ARMED_DROPPED else h.wr Reg.armedHeld 1 :=
  (armedTrigger_armed armed).trans (if_neg (by simp [runs]))

end

theorem armedHost_falls (off : h.isOn 12 = false) : h.armedHost = h.armedTrigger 1 := if_neg (ne_true_of_eq_false off)

theorem armedHost_not (rests : h.isOn 12 = true ∨ ¬ h.armedFor 1) : h.armedHost = h := by
  unfold armedHost
  split
  · rfl
  next off => exact armedTrigger_unarmed (rests.resolve_left off)

/-- Activity on UA fires the trigger where it is the control upstream, and suspended. -/
theorem armedUpstream_wakes (control : h.rd Od.CONTROL_UPSTREAM = 16) (suspended : h.rd (Od.LINK_STATE 16) = 5) :
    h.armedUpstream = h.armedTrigger 0 := if_pos (by simp [control, suspended])

theorem armedUpstream_unarmed (unarmed : ¬ h.armedFor 0) : h.armedUpstream = h := by
  unfold armedUpstream
  dsimp only
  split
  · exact armedTrigger_unarmed unarmed
  · rfl

end

/-! ### The end of a firmware load (R426, R446) -/

/-- A load of the image has failed with a verdict: counted and reported. -/
def loadFailed (h : Hub) (slot verdict : Nat) : Hub :=
  (((({ h with shadows := h.shadows.filter (fun x => x.test != some (2, 0)) } : Hub).wr Od.FW_STATE 0).wr Od.FW_LAST_FAIL verdict).inc
    Od.FW_LOAD_FAILS).report 0x61 (verdict + 256 * slot) 0

theorem fwLoaded_not (other : h.rd Od.FW_STATE ≠ 1) : h.fwLoaded = h := if_pos other

section
variable (loading : h.rd Od.FW_STATE = 1)
include loading

theorem fwLoaded_warm (warm : h.rd Reg.fwWarm = 1) : h.fwLoaded =
    if h.codeDigest (h.rd Reg.fwSlot) = h.rd Od.FW_DIGEST then h.fwRuns (h.rd Reg.fwSlot) else h.warmLost.flintLost.fwLoad false :=
  (if_neg (not_not.2 loading)).trans (if_pos warm)

/-- A full load runs its image, and prefers the second slot it tried, or tries the other slot once. -/
theorem fwLoaded_full (full : h.rd Reg.fwWarm ≠ 1) : h.fwLoaded =
    if h.fwVerdict (h.rd Reg.fwSlot) = 0 then
      (if (h.fwRuns (h.rd Reg.fwSlot)).rd Reg.fwTries = 0 then h.fwRuns (h.rd Reg.fwSlot)
        else ((h.fwRuns (h.rd Reg.fwSlot)).wr Od.FW_PREFERRED (h.rd Reg.fwSlot)).saveSecurity)
    else if (h.loadFailed (h.rd Reg.fwSlot) (h.fwVerdict (h.rd Reg.fwSlot))).rd Reg.fwTries = 0 then
      (((h.loadFailed (h.rd Reg.fwSlot) (h.fwVerdict (h.rd Reg.fwSlot))).wr Od.FW_STATE 1).wr Reg.fwTries 1).wr Reg.fwSlot (1 - h.rd Reg.fwSlot)
    else h.loadFailed (h.rd Reg.fwSlot) (h.fwVerdict (h.rd Reg.fwSlot)) :=
  (if_neg (not_not.2 loading)).trans (if_neg full)

end
end

end Sys2Proof.Machine.Hub

open Sys2Proof.Machine Sys2Proof.Machine.Hub

/-- Settles O56: each clause is one case of a group command's write, of a visit, of a delay's end, of a clock, of a trigger, or of a load's end. -/
theorem domainsAndClocks : Obligations.DomainsAndClocks := by
  unfold Obligations.DomainsAndClocks
  dsimp only [exec, execDomainCmd, execDomainCancel, execSequencerVisit, execDomainDelayEnd, execClockGood, execClockStartTimeout,
    execClockLockLoss, execLfCrystalLoss, execArmedHostSelectTrigger, execArmedUpstreamTrigger, execFwLoadComplete]
  intro t s v g c cs b
  refine ⟨fun writable idle => act_eq (judged_ok (domainCmdCode_ok writable idle)),
    fun writable runs => act_eq (judged_code (domainCmdCode_busy writable runs) (by decide)),
    fun refused => act_eq (judged_code (domainCmdCode_refused refused) refused), fun runs source kept queued back => act_eq ?_,
    fun runs source kept queued => act_eq ?_, fun runs source kept back => act_eq ?_,
    fun runs source => act_eq (judged_code (cancelCode_reaction runs source) (by decide)),
    fun idle => act_eq (judged_code (cancelCode_none idle) (by decide)), fun idle => act_eq (visit_idle idle),
    fun runs waits => act_eq (visit_waits runs waits), fun runs between edge goes done => act_eq (visit_ends runs between edge goes done),
    fun runs between edge stopped => act_eq (visit_stopped runs between edge stopped),
    fun edge due runs moves other waking goes done => act_eq ?_, fun edge due idle => act_eq ?_, fun rests => act_eq (domainDelay_not rests),
    fun runs starts first timely => act_eq ?_, fun runs starts first untimely => act_eq ?_,
    fun runs other => act_eq (clockGood_other runs other), fun idle => act_eq (clockGood_idle idle), fun due runs starts clocks => act_eq ?_,
    fun due idle => act_eq ?_, fun early => act_eq (expire_not_due _ _ _ early), fun runs => act_eq (lockLost_runs runs),
    fun stopped => act_eq (lockLost_stopped stopped), fun crystal => act_eq (crystalLost_moves crystal), fun rc => act_eq (crystalLost_again rc),
    fun off armed idle => act_eq ?_, fun rests => act_eq (armedHost_not rests), fun ⟨control, suspended⟩ armed idle => act_eq ?_,
    fun ⟨control, suspended⟩ armed runs free => act_eq ?_, fun ⟨control, suspended⟩ armed runs held => act_eq ?_,
    fun unarmed => act_eq (armedUpstream_unarmed unarmed), fun loading warm same => act_eq ?_, fun loading warm changed => act_eq ?_,
    fun loading full => act_eq (fwLoaded_full loading full), fun other => act_eq (fwLoaded_not other)⟩
  · exact (judged_ok (cancelCode_ok runs source)).trans (congrArg (Hub.wrote 0) (stopGroup_later kept queued back))
  · exact (judged_ok (cancelCode_ok runs source)).trans (congrArg (Hub.wrote 0) (stopGroup_queued kept queued))
  · exact (judged_ok (cancelCode_ok runs source)).trans (congrArg (Hub.wrote 0) (stopGroup_rollingBack kept back))
  · exact (domainDelay_ends edge due).trans (delayEnd_lastWoken runs moves other waking goes done)
  · exact (domainDelay_ends edge due).trans (delayEnd_idle idle)
  · exact (clockGood_starting runs starts first).trans (if_neg timely)
  · exact (clockGood_starting runs starts first).trans (if_pos untimely)
  · exact (expire_due _ _ _ due).trans (clockFailed_refuses runs starts clocks)
  · exact (expire_due _ _ _ due).trans (clockFailed_idle idle)
  · exact (armedHost_falls off).trans (armedTrigger_begins armed idle)
  · exact (armedUpstream_wakes control suspended).trans (armedTrigger_begins armed idle)
  · exact (armedUpstream_wakes control suspended).trans ((armedTrigger_running armed runs).trans (if_neg free))
  · exact (armedUpstream_wakes control suspended).trans ((armedTrigger_running armed runs).trans (if_pos held))
  · exact (fwLoaded_warm loading warm).trans (if_pos same)
  · exact (fwLoaded_warm loading warm).trans (if_neg changed)
end


section
/-!
Device-wide commands (Sys2Proof/Machine/OdOps.lean, Dictionary.lean): what a direct write of each does, and how a save ends.
-/
namespace Sys2Proof.Machine.Hub

section
variable {h : Hub}

/-! ### The four commands (R373, R379) -/

/-- Where a write at 0xF000 comes from no requester. -/
abbrev directCtx : WriteCtx := ⟨0, 0, false, true, []⟩

theorem deviceCode_save (h : Hub) : h.deviceCode Od.CMD_SAVE 1 = 0 := rfl

theorem deviceWrite_factoryDefaults (h : Hub) (c : WriteCtx) :
    h.deviceWrite c Od.CMD_FACTORY_DEFAULTS 1 = (some 0, (h.keep Od.CMD_FACTORY_DEFAULTS 1).factoryDefaults c) := rfl

theorem deviceWrite_clearStore (h : Hub) (c : WriteCtx) :
    h.deviceWrite c Od.CMD_CLEAR_STORE 1 = (some 0, (h.keep Od.CMD_CLEAR_STORE 1).clearStore) := rfl

theorem deviceWrite_fullReset (h : Hub) (c : WriteCtx) :
    h.deviceWrite c Od.CMD_FULL_RESET 1 = (some 0, (h.keep Od.CMD_FULL_RESET 1).arm Tm.fullReset (ms 10)) := rfl

theorem deviceCommand_off (k v : Nat) (off : h.flintOn = false) : h.deviceCommand k v = h := if_pos (by simp [off])

theorem deviceCommand_halted (k v : Nat) (on : h.flintOn = true) (busy : h.rd Reg.committing = 1) : h.deviceCommand k v = h.wrote 9 :=
  (if_neg (by simp [on])).trans (if_pos busy)

theorem deviceCommand_free (k v : Nat) (on : h.flintOn = true) (free : h.rd Reg.committing ≠ 1) : h.deviceCommand k v =
    match (h.deviceWrite directCtx k v).1 with
    | some x => (h.deviceWrite directCtx k v).2.wrote x
    | none => (h.deviceWrite directCtx k v).2 :=
  (if_neg (by simp [on])).trans (if_neg free)

/-- A command that is done at once shows its code. -/
theorem deviceCommand_done {k v x : Nat} {y : Hub} (on : h.flintOn = true) (free : h.rd Reg.committing ≠ 1)
    (done : h.deviceWrite directCtx k v = (some x, y)) : h.deviceCommand k v = y.wrote x := by
  rw [deviceCommand_free k v on free, done]

/-- A command that begins a save is answered at its end. -/
theorem deviceCommand_begins {k v : Nat} {y : Hub} (on : h.flintOn = true) (free : h.rd Reg.committing ≠ 1)
    (begins : h.deviceWrite directCtx k v = (none, y)) : h.deviceCommand k v = y := by
  rw [deviceCommand_free k v on free, begins]

theorem deviceCommand_save_full (on : h.flintOn = true) (free : h.rd Reg.committing ≠ 1)
    (full : 65484 < recordsLength (h.keep Od.CMD_SAVE 1).savedRecords) :
    h.deviceCommand Od.CMD_SAVE 1 = ((h.keep Od.CMD_SAVE 1).wr Od.SAVE_RESULT 3).wrote 16 :=
  deviceCommand_done on free ((deviceWrite_save h directCtx (deviceCode_save h)).trans (if_pos full))

/-! ### The end of a save (R375) -/

section
variable {j : SaveJob}

/-- What the target copy became: `first` and `second` are the statuses that the readbacks found. -/
def saveChecked (j : SaveJob) (first second : Nat) (h : Hub) : Hub :=
  if first = 0 then h.saveDone j
  else if second = 0 then (h.eraseTarget j.target).saveDone j else (h.eraseTarget j.target).saveFailed j second

/-- A save's job closes, and a requester other than a window hears of it: the code of its end is noted and answered. -/
def saveEnds (j : SaveJob) (code : Nat) (h : Hub) : Hub :=
  let x := (({ h with saving := none } : Hub).wr Reg.committing 0).refreshOdOpen
  ((if j.who = 0 then x else x.noteRequest j.who code (x.requester j.who).request (x.requester j.who).index (x.requester j.who).sub).answer
    j.who 0x11 code 0 0).commandReset

theorem saveComplete_idle (a b : Nat) (idle : h.saving = none) : h.saveComplete a b = h := by
  rw [saveComplete, idle]

theorem saveComplete_saving (a b : Nat) (saving : h.saving = some j) :
    h.saveComplete a b = (h.saveChecked j a b).saveEnds j (if a = 0 ∨ b = 0 then 0 else 16) := by
  rw [saveComplete, saving]
  rfl

theorem saveComplete_first (b : Nat) (saving : h.saving = some j) : h.saveComplete 0 b = (h.saveDone j).saveEnds j 0 :=
  saveComplete_saving 0 b saving

theorem saveComplete_second {a : Nat} (saving : h.saving = some j) (failed : a ≠ 0) :
    h.saveComplete a 0 = ((h.eraseTarget j.target).saveDone j).saveEnds j 0 := by
  rw [saveComplete_saving a 0 saving, saveChecked, if_neg failed, if_pos rfl, if_pos (.inr rfl)]

theorem saveComplete_fails {a b : Nat} (saving : h.saving = some j) (failed : a ≠ 0) (again : b ≠ 0) :
    h.saveComplete a b = ((h.eraseTarget j.target).saveFailed j b).saveEnds j 16 := by
  rw [saveComplete_saving a b saving, saveChecked, if_neg failed, if_neg again, if_neg (not_or.2 ⟨failed, again⟩)]

end
end

end Sys2Proof.Machine.Hub

open Sys2Proof.Machine Sys2Proof.Machine.Hub

/-- Settles O54: each command by its own write where Flint serves and nothing runs, and a save's end by what its two readbacks find. -/
theorem deviceCommands : Obligations.DeviceCommands := by
  unfold Obligations.DeviceCommands
  dsimp only [exec, execSave, execSaveComplete, execFactoryDefaults, execClearStore, execFullReset]
  intro t s j a b
  refine ⟨fun ⟨on, free⟩ => act_eq ?_, fun saving => act_eq (saveComplete_first b.val saving),
    fun saving failed => act_eq (saveComplete_second saving (Fin.val_ne_of_ne failed)),
    fun saving failed again => act_eq (saveComplete_fails saving (Fin.val_ne_of_ne failed) (Fin.val_ne_of_ne again)),
    fun idle => act_eq (saveComplete_idle a.val b.val idle),
    fun ⟨on, free⟩ => act_eq (deviceCommand_done on free (deviceWrite_factoryDefaults _ _)),
    fun ⟨on, free⟩ => act_eq (deviceCommand_done on free (deviceWrite_clearStore _ _)),
    fun ⟨on, free⟩ => act_eq (deviceCommand_done on free (deviceWrite_fullReset _ _)), fun on busy => ?_, fun off => ?_⟩
  · split
    next full => exact deviceCommand_save_full on free full
    next fits =>
      exact deviceCommand_begins on free ((deviceWrite_save _ directCtx (deviceCode_save _)).trans (saveBegin_of_fits 0 _ fits))
  · have halted (k : Nat) : act t s (deviceCommand k 1) = .next (s.settled ((s.arrive t).wrote 9)) := act_eq (deviceCommand_halted k 1 on busy)
    exact List.forall_mem_cons.2 ⟨halted _, List.forall_mem_cons.2 ⟨halted _, List.forall_mem_cons.2 ⟨halted _, List.forall_mem_singleton.2
      (halted _)⟩⟩⟩
  · have silent (k : Nat) : act t s (deviceCommand k 1) = .next (s.settled (s.arrive t)) := act_eq (deviceCommand_off k 1 off)
    exact List.forall_mem_cons.2 ⟨silent _, List.forall_mem_cons.2 ⟨silent _, List.forall_mem_cons.2 ⟨silent _, List.forall_mem_singleton.2
      (silent _)⟩⟩⟩
end


section
/-!
The ends of a transaction and a write through none (Sys2Proof/Machine/OdOps.lean, Dictionary.lean), a case at a time.
-/
namespace Sys2Proof.Machine.Hub

section
variable {h : Hub} {x : OdTxn} {b g : Bool}

/-! ### The commit point and the apply phase (R368 to R370) -/

/-- What the writes of a transaction come with at its commit point. -/
abbrev commitCtx (x : OdTxn) (b g : Bool) : WriteCtx := ⟨x.who, x.session, b, g, barredBy x.staged⟩

/-- The staged writes have taken effect in their order, and count as operations with the COMMIT itself. -/
def committedAll (x : OdTxn) (c : WriteCtx) (h : Hub) : Hub :=
  ((((h.recordEnd x 1 0 x.staged.length).putTxn { x with stage := 2 }).applyStaged c x.staged).add Od.OD_WRITES x.staged.length).opsDone x.who
    (x.staged.length + 1)

/-- The transaction is gone, with the code and the number of the write that was refused. -/
def commitRefused (x : OdTxn) (code n : Nat) (h : Hub) : Hub :=
  (({ h with odTxns := dropBy OdTxn.who x.who h.odTxns } : Hub).recordEnd x 2 code n).refreshOdOpen

theorem commitPoint_none (b g : Bool) (idle : h.odTxns.find? (fun y => y.stage == 1) = none) : h.commitPoint b g = h := by
  rw [commitPoint, idle]

theorem commitPoint_applies (commits : h.odTxns.find? (fun y => y.stage == 1) = some x)
    (valid : (h.wr Reg.committing 0).validate (commitCtx x b g) [] 1 x.staged = none) : h.commitPoint b g =
      (((h.wr Reg.committing 0).committedAll x (commitCtx x b g)).refreshOdOpen.answer x.who 0x13 0 0 0).zeroiseDue := by
  rw [commitPoint, commits]
  dsimp only
  rw [valid]
  rfl

theorem commitPoint_refused {c n : Nat} (commits : h.odTxns.find? (fun y => y.stage == 1) = some x)
    (refused : (h.wr Reg.committing 0).validate (commitCtx x b g) [] 1 x.staged = some (c, n)) :
    let R := (h.wr Reg.committing 0).commitRefused x c n
    h.commitPoint b g = (R.noteRequest x.who c (R.requester x.who).request (R.requester x.who).index (R.requester x.who).sub).answer x.who 0x13 c
      0 0 := by
  intro R
  rw [commitPoint, commits]
  dsimp only
  rw [refused]
  rfl

/-! ### An idle transaction (R371) -/

section
variable {w : Nat}

theorem txnIdle_none (absent : h.odTxns.find? (fun y => y.who == w && y.stage == 0) = none) : h.txnIdle w = h := by
  rw [txnIdle, absent]

theorem txnIdle_lapses (open_ : h.odTxns.find? (fun y => y.who == w && y.stage == 0) = some x)
    (ended : x.last + h.rd Od.TXN_IDLE_TIMEOUT * 1000000000 ≤ h.now) : h.txnIdle w = h.dropTxn x 5 := by
  rw [txnIdle, open_]
  exact if_pos ended

theorem txnIdle_stays (open_ : h.odTxns.find? (fun y => y.who == w && y.stage == 0) = some x)
    (early : h.now < x.last + h.rd Od.TXN_IDLE_TIMEOUT * 1000000000) : h.txnIdle w = h := by
  rw [txnIdle, open_]
  exact if_neg (Nat.not_le.2 early)

end

/-! ### A live write, and a write through no transaction (R364, R366) -/

section
variable {c : WriteCtx} {k v : Nat} (session : k ≠ Od.SESSION_OPEN) (claim : k ≠ Od.OWNER_CLAIM)
include session claim

theorem liveWrite_plain : h.liveWrite c k v =
    (h.liveCode c h.rd k v, if h.liveCode c h.rd k v = 0 then h.applyPlain c k v else h.refusedEffect k (h.liveCode c h.rd k v)) :=
  (if_neg session).trans (if_neg claim)

theorem liveWrite_takes (passes : h.liveCode c h.rd k v = 0) : h.liveWrite c k v = (0, h.applyPlain c k v) := by
  rw [liveWrite_plain session claim, if_pos passes, passes]

theorem liveWrite_refused (refused : h.liveCode c h.rd k v ≠ 0) :
    h.liveWrite c k v = (h.liveCode c h.rd k v, h.refusedEffect k (h.liveCode c h.rd k v)) := by
  rw [liveWrite_plain session claim, if_neg refused]

end

section
variable {o : Bool} {idx sub len : Nat} (v : Nat) (b g : Bool)

/-- The right that a direct write has as its role. -/
abbrev directRight (o : Bool) (idx sub : Nat) : Nat := rightCode idx sub (if o then 1 else 2) 1

theorem registerWrite_noEntry (absent : odExists idx sub = false) : h.registerWrite o idx sub len v b g = h.wrote 1 := if_pos (by simp [absent])

section
variable (exists_ : odExists idx sub = true)
include exists_

theorem registerWrite_noRight (refused : directRight o idx sub ≠ 0) :
    h.registerWrite o idx sub len v b g = h.wrote (directRight o idx sub) :=
  (if_neg (by simp [exists_])).trans (if_pos refused)

variable (right : directRight o idx sub = 0)
include right

theorem registerWrite_badLength (bad : lengthCode idx sub 0 len ≠ 0) : h.registerWrite o idx sub len v b g = h.wrote 5 :=
  (if_neg (by simp [exists_])).trans ((if_neg (not_not.2 right)).trans (if_pos bad))

variable (fits : lengthCode idx sub 0 len = 0)
include fits

theorem registerWrite_device (device : idx = 0xF000) :
    h.registerWrite o idx sub len v b g = h.deviceCommand (idx * 256 + sub) (v % 256 ^ len) :=
  (if_neg (by simp [exists_])).trans ((if_neg (not_not.2 right)).trans ((if_neg (not_not.2 fits)).trans (if_pos device)))

theorem registerWrite_live (other : idx ≠ 0xF000) :
    h.registerWrite o idx sub len v b g = outcome (h.liveWrite ⟨0, 0, b, g, []⟩ (idx * 256 + sub) (v % 256 ^ len)) :=
  (if_neg (by simp [exists_])).trans ((if_neg (not_not.2 right)).trans ((if_neg (not_not.2 fits)).trans (if_neg other)))

end
end
end

end Sys2Proof.Machine.Hub

open Sys2Proof.Machine Sys2Proof.Machine.Hub

/-- Settles O53: the commit point by the outcome of its validation, the idle timer by its transaction, and a direct write check by check. -/
theorem commitAndApply : Obligations.CommitAndApply := by
  unfold Obligations.CommitAndApply
  dsimp only [exec, execCommitPoint, execApplyEnd, execTxnIdleExpiry, execRegisterWrite]
  intro t s x b g c n q i len sub v o
  exact ⟨fun commits valid => act_eq (commitPoint_applies commits valid), fun commits refused => act_eq (commitPoint_refused commits refused),
    fun idle => act_eq (commitPoint_none b g idle), act_eq rfl, fun open_ ended => act_eq (txnIdle_lapses open_ ended),
    fun open_ early => act_eq (txnIdle_stays open_ early), fun absent => act_eq (txnIdle_none absent),
    fun absent => act_eq (registerWrite_noEntry v b g absent), fun exists_ refused => act_eq (registerWrite_noRight v b g exists_ refused),
    fun exists_ right bad => act_eq (registerWrite_badLength v b g exists_ right bad),
    fun ⟨⟨exists_, right, fits⟩, other, session, claim⟩ passes => act_eq ((registerWrite_live v b g exists_ right fits other).trans
      (congrArg outcome (liveWrite_takes session claim passes))),
    fun ⟨⟨exists_, right, fits⟩, other, session, claim⟩ refused => act_eq ((registerWrite_live v b g exists_ right fits other).trans
      (congrArg outcome (liveWrite_refused session claim refused))),
    fun ⟨exists_, right, fits⟩ device => act_eq (registerWrite_device v b g exists_ right fits device)⟩
end


section
/-!
The host link (Sys2Proof/Machine/HostLink.lean): its windows, its mailbox and its packet FIFOs, a case at a time.
-/
namespace Sys2Proof.Machine.Hub

section
variable {h : Hub}

theorem hosted_on (f : Hub → Hub) (on : h.isOn 12 = true) : h.hosted f = f h := if_pos on

theorem hosted_off (f : Hub → Hub) (off : h.isOn 12 = false) : h.hosted f = h := if_neg (ne_true_of_eq_false off)

/-! ### Windows (R358, R391 to R395) -/

section
variable {idx sub word : Nat} (count : Nat)

theorem winRead_unwindowed (outside : windowed idx sub = false) :
    h.winRead idx sub word count = h.emit (.hostWords (List.replicate count 0)) := if_pos (by simp [outside])

section
variable (inside : windowed idx sub = true)
include inside

theorem winRead_off (owned : odDomain idx sub ≠ 0) (off : h.isOn (odDomain idx sub) = false) :
    h.winRead idx sub word count = h.emit (.hostWords (List.replicate count (0xDEAD0000 + odDomain idx sub))) :=
  (if_neg (by simp [inside])).trans (if_pos ⟨owned, by simp [off]⟩)

variable (serves : odDomain idx sub = 0 ∨ h.isOn (odDomain idx sub) = true)
include serves

theorem winRead_value (within : word < windowCount idx sub) :
    h.winRead idx sub word count = h.emit (.hostWords ((List.range count).map (fun j =>
      (windowWords (windowCount idx sub) (h.view 0 idx sub)).getD ((word + j) % windowCount idx sub) 0))) :=
  (if_neg (by simp [inside])).trans ((if_neg (by simpa [or_iff_not_imp_left] using serves)).trans (if_neg (Nat.not_le.2 within)))

/-- The words of a burst that starts past the value's end, and the hub that gave them. -/
def freeWords (count : Nat) (h : Hub) : List Nat × Hub :=
  (List.range count).foldl (fun (x : List Nat × Hub) _ => (x.1 ++ [x.2.fresh.1 % 2 ^ 32], x.2.fresh.2)) ([], h)

theorem winRead_past (past : windowCount idx sub ≤ word) :
    h.winRead idx sub word count = (h.freeWords count).2.emit (.hostWords (h.freeWords count).1) :=
  (if_neg (by simp [inside])).trans ((if_neg (by simpa [or_iff_not_imp_left] using serves)).trans (if_pos past))

end
end

section
variable {idx sub v : Nat} {ok : Bool}

theorem windowWrite_takes (passes : h.windowCode idx sub ok v = 0) :
    h.windowWrite idx sub ok v = (h.windowTake (idx * 256 + sub) v).wrote 0 := if_pos passes

theorem windowWrite_refused (refused : h.windowCode idx sub ok v ≠ 0) :
    h.windowWrite idx sub ok v = (((h.inc Od.WINDOW_REFUSED).wr Od.WINDOW_LAST_REFUSED
      (idx * 65536 + sub * 256 + h.windowCode idx sub ok v)).refusedEffect (idx * 256 + sub) (h.windowCode idx sub ok v)).wrote
        (h.windowCode idx sub ok v) := if_neg refused

end

theorem winWrite_empty {idx sub : Nat} (word : Nat) (one : windowCount idx sub = 1) : h.winWrite idx sub word [] = h := if_pos ⟨one, rfl⟩

theorem winWrite_words {idx sub word : Nat} {ws : List Nat} (carries : windowCount idx sub ≠ 1 ∨ ws ≠ []) :
    h.winWrite idx sub word ws = h.windowWrite idx sub (word == 0 && decide (windowCount idx sub ≤ ws.length))
      (pack ((ws.take (windowCount idx sub)).map (fun w => (4, w))) % 256 ^ entrySize idx sub) :=
  if_neg (not_and_or.2 carries)

/-! ### The mailbox (R388 to R390, R402) -/

section
variable {len data : Nat}

theorem odRequest_overrun (busy : h.odState = 1 ∨ h.odState = 3) : h.odRequest len data = h.inc Od.OD_OVERRUNS := if_pos busy

/-- The request lies in the mailbox, with no response to it yet. -/
def requestHeld (len data : Nat) (h : Hub) : Hub :=
  (({ h with odReq := some (len, data), odResp := none } : Hub).inc Od.OD_REQUESTS).wr Reg.odNotice 0 |>.wr Reg.hostTaken 0

section
variable (free : h.odState ≠ 1) (unread : h.odState ≠ 3)
include free unread

theorem odRequest_badLength (bad : len ≠ 12 + field data 8 2 ∨ 1016 < field data 8 2) :
    h.odRequest len data = ((h.requestHeld len data).hostAnswer 5 (byteAt data 0) 0 0).holdResponse :=
  (if_neg (not_or.2 ⟨free, unread⟩)).trans (if_pos bad)

theorem odRequest_serves (fits : len = 12 + field data 8 2) (short : field data 8 2 ≤ 1016) :
    h.odRequest len data = ((h.requestHeld len data).wr Reg.mailbox 1).hostServe :=
  (if_neg (not_or.2 ⟨free, unread⟩)).trans (if_neg (not_or.2 ⟨not_not.2 fits, Nat.not_lt.2 short⟩))

end
end

theorem odResponseReady_holds (ready : h.hostServe.odState = 1 ∧ h.hostServe.odResp.isSome = true) :
    h.odResponseReady = h.hostServe.holdResponse := if_pos ready

theorem odResponseReady_waits (not : ¬ (h.hostServe.odState = 1 ∧ h.hostServe.odResp.isSome = true)) :
    h.odResponseReady = h.hostServe := if_neg not

/-- The response that an OD_RESPONSE reads: 0 where none is held. -/
def heldResponse (h : Hub) : Nat := if h.rd Reg.mailbox = 2 then (match h.odResp with | some r => r.2 % 256 ^ r.1 | none => 0) else 0

theorem heldResponse_none (none : h.rd Reg.mailbox ≠ 2 ∨ h.odResp = none) : h.heldResponse = 0 := by
  unfold heldResponse
  split
  next mailbox => rw [none.resolve_left (not_not.2 mailbox)]
  · rfl

theorem heldResponse_some {r : Nat × Nat} (mailbox : h.rd Reg.mailbox = 2) (held : h.odResp = some r) :
    h.heldResponse = r.2 % 256 ^ r.1 := by
  rw [heldResponse, if_pos mailbox, held]

section
variable {offset n : Nat}

/-- The bytes of a value that an OD_RESPONSE gives. -/
abbrev responseBytes (offset n v : Nat) : Emission := .hostWords ((List.range n).map (fun j => byteAt v (offset + j)))

section
variable {v : Nat} (holds : h.heldResponse = v)
include holds

theorem odResponse_first (start : offset = 0) (some_ : 1 ≤ n) (mailbox : h.rd Reg.mailbox = 2) :
    h.odResponse offset n = (h.emit (responseBytes offset n v)).wr Reg.odNotice 0 := by
  subst holds
  exact if_pos ⟨start, some_, mailbox⟩

theorem odResponse_rest (rest : offset ≠ 0 ∨ n = 0 ∨ h.rd Reg.mailbox ≠ 2) : h.odResponse offset n = h.emit (responseBytes offset n v) := by
  subst holds
  exact if_neg (fun ⟨start, some_, mailbox⟩ => by omega)

end
end

/-! ### Packet FIFOs (R397 to R400) -/

theorem fifoRead_empty {sel : Nat} (empty : h.fifo sel = []) : h.fifoRead sel 1 = h.emit (.hostWords [0]) := by
  simp [fifoRead, fifoReadN, empty]

theorem fifoRead_word {sel : Nat} {f : FifoWord} {r : List FifoWord} (word : h.fifo sel = f :: r) :
    h.fifoRead sel 1 = (h.consumeWord sel f r).emit (.hostWords [fifoBits f]) := by
  simp [fifoRead, fifoReadN, word]

section
variable {v : Nat}

/-- TXQ before a taken word joins it: an SOP word discards the open packet that it cuts short. -/
def txReady (v : Nat) (h : Hub) : Hub :=
  (if hasBit v 38 = true ∧ openWords h.txq ≠ [] then h.dropOpen.txDiscard 2 else h).wr Reg.txqSkip 0

theorem takeTxWord_invalid (invalid : hasBit v 39 = false) : h.takeTxWord v = h := if_pos (by simp [invalid])

section
variable (valid : hasBit v 39 = true)
include valid

theorem takeTxWord_skips (inner : hasBit v 38 = false) (skip : h.rd Reg.txqSkip = 1) : h.takeTxWord v = h :=
  (if_neg (by simp [valid])).trans (if_pos (by simp [fifoWord, inner, skip]))

theorem takeTxWord_unopened (inner : hasBit v 38 = false) (keeps : h.rd Reg.txqSkip ≠ 1) (closed : ¬ openWords h.txq ≠ []) :
    h.takeTxWord v = h.txDiscard 1 :=
  (if_neg (by simp [valid])).trans ((if_neg (by simp [keeps])).trans (if_pos (by simpa [fifoWord, inner] using closed)))

variable (taken : hasBit v 38 = true ∨ (h.rd Reg.txqSkip ≠ 1 ∧ openWords h.txq ≠ []))
include taken

theorem takeTxWord_taken : h.takeTxWord v =
    if hasBit v 36 = true then (h.txReady v).dropOpen.txDiscard 3
    else if (h.txReady v).txqFree = 0 then ((h.txReady v).dropOpen.txDiscard 4).wr Reg.txqSkip 1
    else (h.txReady v).joinTxq (fifoWord v) := by
  have ready : (if (hasBit v 38 && openWords h.txq != []) = true then h.dropOpen.txDiscard 2 else h).wr Reg.txqSkip 0 = h.txReady v := by
    simp [txReady]
  refine (if_neg (by simp [valid])).trans ((if_neg ?_).trans ((if_neg ?_).trans ?_))
  · rcases taken with sop | ⟨keeps, opened⟩
    · simp [fifoWord, sop]
    · simp [keeps]
  · rcases taken with sop | ⟨keeps, opened⟩
    · simp [fifoWord, sop]
    · simp [opened]
  · rw [← ready]
    rfl

end
end
end

end Sys2Proof.Machine.Hub

open Sys2Proof.Machine Sys2Proof.Machine.Hub

/-- Settles O55: PD12 decides whether a command of the host acts at all; then each clause is one case of a window, of the mailbox or of a FIFO. -/
theorem hostLinkCommands : Obligations.HostLinkCommands := by
  unfold Obligations.HostLinkCommands
  dsimp only [exec, execReadStatus, execWinRead, execWinWrite, execOdRequest, execOdResponseReady, execOdResponse, execFifoRead, execFifoWrite,
    execEnterQuad, execExitQuad, execBadCommand]
  intro t s n i sub word cnt off len ws bs sel w f r held
  have acts (g : Hub → Hub) (y : Hub) (on : (s.arrive t).isOn 12 = true) (does : g (s.arrive t) = y) :
      act t s (hosted g) = .next (s.settled y) := act_eq ((hosted_on g on).trans does)
  refine ⟨fun off => ?_, fun on => acts _ _ on rfl, fun on outside => acts _ _ on (winRead_unwindowed _ outside),
    fun on inside owned off => acts _ _ on (winRead_off _ inside owned off),
    fun on ⟨inside, serves⟩ within => acts _ _ on (winRead_value _ inside serves within),
    fun on ⟨inside, serves⟩ past => acts _ _ on (winRead_past _ inside serves past), fun on carries passes => acts _ _ on ?_,
    fun on carries refused => acts _ _ on ?_, fun on one => acts _ _ on (winWrite_empty _ one),
    fun on busy => acts _ _ on (odRequest_overrun busy), fun on free unread bad => acts _ _ on (odRequest_badLength free unread bad),
    fun on free unread fits short => acts _ _ on (odRequest_serves free unread fits short),
    fun on ready => acts _ _ on (odResponseReady_holds ready), fun on waits => acts _ _ on (odResponseReady_waits waits),
    fun on none rest => acts _ _ on (odResponse_rest (heldResponse_none none) rest), fun on mailbox holds start some_ => acts _ _ on
      (odResponse_first (heldResponse_some mailbox holds) start some_ mailbox),
    fun on mailbox holds rest => acts _ _ on (odResponse_rest (heldResponse_some mailbox holds) (rest.imp_right .inl)),
    fun on empty => acts _ _ on (fifoRead_empty empty), fun on word => acts _ _ on (fifoRead_word word),
    fun on invalid => acts _ _ on (takeTxWord_invalid invalid), fun ⟨on, valid⟩ inner skip => acts _ _ on (takeTxWord_skips valid inner skip),
    fun ⟨on, valid⟩ inner keeps closed => acts _ _ on (takeTxWord_unopened valid inner keeps closed),
    fun ⟨⟨on, valid⟩, taken⟩ err => acts _ _ on ((takeTxWord_taken valid taken).trans (if_pos err)),
    fun ⟨⟨on, valid⟩, taken⟩ whole full => acts _ _ on
      ((takeTxWord_taken valid taken).trans ((if_neg (ne_true_of_eq_false whole)).trans (if_pos full))),
    fun ⟨⟨on, valid⟩, taken⟩ whole room => acts _ _ on
      ((takeTxWord_taken valid taken).trans ((if_neg (ne_true_of_eq_false whole)).trans (if_neg room))),
    fun on => acts _ _ on rfl, fun on => acts _ _ on rfl, fun on => acts _ _ on rfl⟩
  · have silent (g : Hub → Hub) : act t s (hosted g) = .next (s.settled (s.arrive t)) := act_eq (hosted_off g off)
    exact List.forall_mem_cons.2 ⟨silent _, List.forall_mem_cons.2 ⟨silent _, List.forall_mem_cons.2 ⟨silent _, List.forall_mem_cons.2 ⟨silent _,
      List.forall_mem_cons.2 ⟨silent _, List.forall_mem_cons.2 ⟨silent _, List.forall_mem_cons.2 ⟨silent _, List.forall_mem_cons.2 ⟨silent _,
        List.forall_mem_cons.2 ⟨silent _, List.forall_mem_cons.2 ⟨silent _, List.forall_mem_singleton.2 (silent _)⟩⟩⟩⟩⟩⟩⟩⟩⟩⟩
  · exact (winWrite_words (carries.imp_right (mt List.map_eq_nil_iff.1))).trans (windowWrite_takes passes)
  · exact (winWrite_words (carries.imp_right (mt List.map_eq_nil_iff.1))).trans (windowWrite_refused refused)
end


section
/-!
Requests of the dictionary on a link (Sys2Proof/Machine/OdOps.lean): which reach Flint, what each check of a request answers, and what a request
that passes does.
-/
namespace Sys2Proof.Machine.Hub

section
variable {h : Hub}

/-! ### A request on a link (R194, R333, R359, R362, R372) -/

section
variable {w : Nat} (req i v l d : Nat) (b g a : Bool)

section
variable (trunk : w = 16 ∨ w = 17)
include trunk

theorem linkRequest_dark (off : h.isOn 6 = false) : h.linkRequest w req i v l d b g a = h := (if_pos trunk).trans (if_pos (by simp [off]))

theorem linkRequest_stalls (on : h.isOn 6 = true) (refuses : h.flintOn = false ∨ h.rd Od.STANDBY_UPSTREAM = w) :
    h.linkRequest w req i v l d b g a = h.answer w req 9 0 0 :=
  (if_pos trunk).trans ((if_neg (by simp [on])).trans (if_pos (by simpa using refuses)))

end

theorem linkRequest_unrouted (notA : w ≠ 16) (notB : w ≠ 17) (refuses : h.flintOn = false ∨ h.rd Od.HUB_ID_ASSIGNED ≠ 1) :
    h.linkRequest w req i v l d b g a = h :=
  (if_neg (not_or.2 ⟨notA, notB⟩)).trans (if_neg (by rcases refuses with off | unassigned <;> simp [*]))

end

/-- The outcome of a request is recorded for its requester and answered. -/
def answered (w req i v code n d : Nat) (h : Hub) : Hub := ((h.noteRequest w code req i (v % 256)).answer w req code n d).zeroiseDue

section
variable {w req i v l d : Nat} {b g : Bool} {y : Hub}

/-- A request that Flint serves, with its reply. -/
theorem linkRequest_serve (serves : h.Serves w) : h.linkRequest w req i v l d b g false =
    match ((h.touchTxn w).serve w req i v l d b g false).1 with
    | none => ((h.touchTxn w).serve w req i v l d b g false).2.noteRequest w 0 req i (v % 256)
    | some (code, n, z) =>
      ((if req = 0x15 then ((h.touchTxn w).serve w req i v l d b g false).2
        else ((h.touchTxn w).serve w req i v l d b g false).2.noteRequest w code req i (v % 256)).answer w req code n z).zeroiseDue :=
  linkRequest_of_serves h w req i v l d b g false serves

theorem linkRequest_replies {c n z : Nat} (serves : h.Serves w) (other : req ≠ 0x15)
    (reply : (h.touchTxn w).serve w req i v l d b g false = (some (c, n, z), y)) :
    h.linkRequest w req i v l d b g false = y.answered w req i v c n z := by
  rw [linkRequest_serve serves, reply]
  dsimp only
  rw [if_neg other]
  rfl

/-- The answer of a COMMIT and of a SAVE waits for the end of what it began. -/
theorem linkRequest_waits (serves : h.Serves w) (reply : (h.touchTxn w).serve w req i v l d b g false = (none, y)) :
    h.linkRequest w req i v l d b g false = y.noteRequest w 0 req i (v % 256) := by
  rw [linkRequest_serve serves, reply]

/-- A request under a halt is answered HALTED. -/
theorem linkRequest_halted (other : req ≠ 0x15) (halted : h.Serves w ∧ (h.touchTxn w).haltedFor w req i v = true) :
    h.linkRequest w req i v l d b g false = (h.touchTxn w).answered w req i v 9 0 0 :=
  linkRequest_replies halted.1 other (if_pos (by simpa using halted.2))

/-- A request under no halt goes to its own operation. -/
theorem serve_unhalted (free : h.haltedFor w req i v = false) : h.serve w req i v l d b g false =
    if req = 0x10 then (some (h.odRead w i v l), h)
    else if req = 0x11 then plainReply (h.odWrite w i v l d b g)
    else if req = 0x12 then plainReply (some (h.odBegin w i v l d).1, (h.odBegin w i v l d).2)
    else if req = 0x13 then plainReply (h.odCommit w i v l d)
    else if req = 0x14 then plainReply (some (h.odAbort w i v l d).1, (h.odAbort w i v l d).2)
    else if req = 0x15 then (some (0, 16, h.statusRecord w), h)
    else if req = 0x16 then (if odExists i (v % 256) then (some (0, 16, odDescriptor h i (v % 256)), h) else (some (1, 0, 0), h))
    else (some (6, 0, 0), h) := if_neg (by simp [free])

end

section
variable {w i v l d c : Nat} {b g : Bool} {y : Hub}

theorem linkRequest_read (served : h.Serves w ∧ (h.touchTxn w).haltedFor w 0x10 i v = false) :
    h.linkRequest w 0x10 i v l d b g false = (h.touchTxn w).answered w 0x10 i v ((h.touchTxn w).odRead w i v l).1
      ((h.touchTxn w).odRead w i v l).2.1 ((h.touchTxn w).odRead w i v l).2.2 :=
  linkRequest_replies served.1 (by decide) (serve_unhalted served.2)

theorem linkRequest_write (served : h.Serves w ∧ (h.touchTxn w).haltedFor w 0x11 i v = false)
    (writes : (h.touchTxn w).odWrite w i v l d b g = (some c, y)) :
    h.linkRequest w 0x11 i v l d b g false = y.answered w 0x11 i v c 0 0 :=
  linkRequest_replies served.1 (by decide) ((serve_unhalted served.2).trans (congrArg plainReply writes))

theorem linkRequest_write_waits (served : h.Serves w ∧ (h.touchTxn w).haltedFor w 0x11 i v = false)
    (writes : (h.touchTxn w).odWrite w i v l d b g = (none, y)) :
    h.linkRequest w 0x11 i v l d b g false = y.noteRequest w 0 0x11 i (v % 256) :=
  linkRequest_waits served.1 ((serve_unhalted served.2).trans (congrArg plainReply writes))

theorem linkRequest_begin (served : h.Serves w ∧ (h.touchTxn w).haltedFor w 0x12 i v = false)
    (begins : (h.touchTxn w).odBegin w i v l d = (c, y)) :
    h.linkRequest w 0x12 i v l d b g false = y.answered w 0x12 i v c 0 0 :=
  linkRequest_replies served.1 (by decide)
    ((serve_unhalted served.2).trans (congrArg (fun r : Nat × Hub => plainReply (some r.1, r.2)) begins))

theorem linkRequest_commit (served : h.Serves w ∧ (h.touchTxn w).haltedFor w 0x13 i v = false)
    (refuses : (h.touchTxn w).odCommit w i v l d = (some c, y)) :
    h.linkRequest w 0x13 i v l d b g false = y.answered w 0x13 i v c 0 0 :=
  linkRequest_replies served.1 (by decide) ((serve_unhalted served.2).trans (congrArg plainReply refuses))

theorem linkRequest_commit_waits (served : h.Serves w ∧ (h.touchTxn w).haltedFor w 0x13 i v = false)
    (commits : (h.touchTxn w).odCommit w i v l d = (none, y)) :
    h.linkRequest w 0x13 i v l d b g false = y.noteRequest w 0 0x13 i (v % 256) :=
  linkRequest_waits served.1 ((serve_unhalted served.2).trans (congrArg plainReply commits))

theorem linkRequest_abort (served : h.Serves w ∧ (h.touchTxn w).haltedFor w 0x14 i v = false)
    (aborts : (h.touchTxn w).odAbort w i v l d = (c, y)) :
    h.linkRequest w 0x14 i v l d b g false = y.answered w 0x14 i v c 0 0 :=
  linkRequest_replies served.1 (by decide)
    ((serve_unhalted served.2).trans (congrArg (fun r : Nat × Hub => plainReply (some r.1, r.2)) aborts))

/-- OD_STATUS is served under every halt, and leaves no outcome of its own. -/
theorem linkRequest_status (serves : h.Serves w) : h.linkRequest w 0x15 i v l d b g false =
    ((h.touchTxn w).answer w 0x15 0 16 ((h.touchTxn w).statusRecord w)).zeroiseDue := by
  have reply : (h.touchTxn w).serve w 0x15 i v l d b g false = (some (0, 16, (h.touchTxn w).statusRecord w), h.touchTxn w) :=
    serve_unhalted rfl
  rw [linkRequest_serve serves, reply]
  rfl

theorem linkRequest_describe (served : h.Serves w ∧ (h.touchTxn w).haltedFor w 0x16 i v = false) (exists_ : odExists i (v % 256) = true) :
    h.linkRequest w 0x16 i v l d b g false =
      (h.touchTxn w).answered w 0x16 i v 0 16 (odDescriptor (h.touchTxn w) i (v % 256)) :=
  linkRequest_replies served.1 (by decide) ((serve_unhalted served.2).trans (if_pos exists_))

theorem linkRequest_describe_absent (served : h.Serves w ∧ (h.touchTxn w).haltedFor w 0x16 i v = false)
    (absent : odExists i (v % 256) = false) : h.linkRequest w 0x16 i v l d b g false = (h.touchTxn w).answered w 0x16 i v 1 0 0 :=
  linkRequest_replies served.1 (by decide) ((serve_unhalted served.2).trans (if_neg (ne_true_of_eq_false absent)))

end
end

end Sys2Proof.Machine.Hub
end


section
/-!
OD_WRITE, OD_BEGIN, OD_COMMIT and OD_ABORT (Sys2Proof/Machine/OdOps.lean): their checks in order, and what a request that passes them does.
-/
namespace Sys2Proof.Machine.Hub

section
variable {h : Hub}

/-! ### A write past its trailer (R364, R366) -/

section
variable {c : WriteCtx} {idx val n v : Nat}

/-- The session of a write has the right to its entry. -/
abbrev hasRight (h : Hub) (c : WriteCtx) (idx val : Nat) : Prop := rightCode idx (val % 256) (h.sessionRole c.session) c.session = 0

/-- A write has the length of its entry. -/
abbrev hasLength (idx val n : Nat) : Prop := lengthCode idx (val % 256) (val / 256 % 256) n = 0

theorem writeChecked_noRight (refused : ¬ h.hasRight c idx val) :
    h.writeChecked c idx val n v = (some (rightCode idx (val % 256) (h.sessionRole c.session) c.session), h) := if_pos refused

section
variable (right : h.hasRight c idx val)
include right

theorem writeChecked_noStage {x : OdTxn} (open_ : h.txnBefore c.who = some x) (live : odNoStage idx (val % 256) = true) :
    h.writeChecked c idx val n v = (some 14, h) :=
  (if_neg (not_not.2 right)).trans (if_pos ⟨by simp [open_], live⟩)

section
variable (goes : h.txnBefore c.who = none ∨ odNoStage idx (val % 256) = false)
include goes

theorem writeChecked_badLength (bad : ¬ hasLength idx val n) : h.writeChecked c idx val n v = (some 5, h) :=
  (if_neg (not_not.2 right)).trans ((if_neg (by rcases goes with none | staged <;> simp [*])).trans (if_pos bad))

variable (fits : hasLength idx val n)
include fits

/-- A write past its checks is staged where its requester has a transaction, and is live otherwise. -/
theorem writeChecked_fits : h.writeChecked c idx val n v =
    match h.txnBefore c.who with
    | some x => (some (h.stageWrite x ⟨idx * 256 + val % 256, n, v⟩).1, (h.stageWrite x ⟨idx * 256 + val % 256, n, v⟩).2)
    | none =>
      if idx = 0xF000 then
        ((h.deviceWrite c (idx * 256 + val % 256) v).1,
          if (h.deviceWrite c (idx * 256 + val % 256) v).1 = some 0 ∨ (h.deviceWrite c (idx * 256 + val % 256) v).1 = none then
            ((h.deviceWrite c (idx * 256 + val % 256) v).2.inc Od.OD_WRITES).opsDone c.who 1
          else (h.deviceWrite c (idx * 256 + val % 256) v).2)
      else
        (some (h.liveWrite c (idx * 256 + val % 256) v).1,
          if (h.liveWrite c (idx * 256 + val % 256) v).1 = 0 then
            ((h.liveWrite c (idx * 256 + val % 256) v).2.inc Od.OD_WRITES).opsDone c.who 1
          else (h.liveWrite c (idx * 256 + val % 256) v).2) :=
  (if_neg (not_not.2 right)).trans ((if_neg (by rcases goes with none | staged <;> simp [*])).trans
    ((if_neg (not_not.2 fits)).trans rfl))

end

section
variable (fits : hasLength idx val n)
include fits

theorem writeChecked_stages {x : OdTxn} {code : Nat} {y : Hub} (open_ : h.txnBefore c.who = some x)
    (staged : odNoStage idx (val % 256) = false) (result : h.stageWrite x ⟨idx * 256 + val % 256, n, v⟩ = (code, y)) :
    h.writeChecked c idx val n v = (some code, y) := by
  rw [writeChecked_fits right (.inr staged) fits, open_]
  dsimp only
  rw [result]

variable (none_ : h.txnBefore c.who = none)
include none_

section
variable (other : idx ≠ 0xF000)
include other

theorem writeChecked_live : h.writeChecked c idx val n v =
    (some (h.liveWrite c (idx * 256 + val % 256) v).1,
      if (h.liveWrite c (idx * 256 + val % 256) v).1 = 0 then ((h.liveWrite c (idx * 256 + val % 256) v).2.inc Od.OD_WRITES).opsDone c.who 1
      else (h.liveWrite c (idx * 256 + val % 256) v).2) := by
  rw [writeChecked_fits right (.inl none_) fits, none_]
  exact if_neg other

theorem writeChecked_takes {y : Hub} (takes : h.liveWrite c (idx * 256 + val % 256) v = (0, y)) :
    h.writeChecked c idx val n v = (some 0, (y.inc Od.OD_WRITES).opsDone c.who 1) := by
  rw [writeChecked_live right fits none_ other, takes]
  rfl

theorem writeChecked_refused {code : Nat} {y : Hub} (refuses : h.liveWrite c (idx * 256 + val % 256) v = (code, y)) (refused : code ≠ 0) :
    h.writeChecked c idx val n v = (some code, y) := by
  rw [writeChecked_live right fits none_ other, refuses]
  dsimp only
  rw [if_neg refused]

end

/-- A device-wide command counts as done once it is not refused. -/
theorem writeChecked_device (device : idx = 0xF000) : h.writeChecked c idx val n v =
    ((h.deviceWrite c (idx * 256 + val % 256) v).1,
      if (h.deviceWrite c (idx * 256 + val % 256) v).1 = some 0 ∨ (h.deviceWrite c (idx * 256 + val % 256) v).1 = none then
        ((h.deviceWrite c (idx * 256 + val % 256) v).2.inc Od.OD_WRITES).opsDone c.who 1
      else (h.deviceWrite c (idx * 256 + val % 256) v).2) := by
  rw [writeChecked_fits right (.inl none_) fits, none_]
  exact if_pos device

theorem writeChecked_device_done (device : idx = 0xF000) (done : (h.deviceWrite c (idx * 256 + val % 256) v).1 = some 0) :
    h.writeChecked c idx val n v = (some 0, ((h.deviceWrite c (idx * 256 + val % 256) v).2.inc Od.OD_WRITES).opsDone c.who 1) := by
  rw [writeChecked_device right fits none_ device, done, if_pos (.inl rfl)]

theorem writeChecked_device_waits (device : idx = 0xF000) (waits : (h.deviceWrite c (idx * 256 + val % 256) v).1 = none) :
    h.writeChecked c idx val n v = (none, ((h.deviceWrite c (idx * 256 + val % 256) v).2.inc Od.OD_WRITES).opsDone c.who 1) := by
  rw [writeChecked_device right fits none_ device, waits, if_pos (.inr rfl)]

theorem writeChecked_device_refused {code : Nat} (device : idx = 0xF000)
    (refused : (h.deviceWrite c (idx * 256 + val % 256) v).1 = some (code + 1)) :
    h.writeChecked c idx val n v = (some (code + 1), (h.deviceWrite c (idx * 256 + val % 256) v).2) := by
  rw [writeChecked_device right fits none_ device, refused, if_neg (by simp)]

end
end
end

/-! ### Staging (R365, R366) -/

section
variable {x : OdTxn} {w : Staged}

/-- A transaction holds 256 writes and 16384 bytes. -/
abbrev tooBig (l : List Staged) : Prop := 256 < l.length ∨ 16384 < (l.map (fun y : Staged => y.len)).foldl (· + ·) 0

theorem stageWrite_range (out : rangeOk (h.overlay x.staged) w.key w.value = false) : h.stageWrite x w = (6, h) := if_pos (by simp [out])

theorem stageWrite_full (in_ : rangeOk (h.overlay x.staged) w.key w.value = true) (full : tooBig (stageIn x.staged w)) :
    h.stageWrite x w = (13, h) := (if_neg (by simp [in_])).trans (if_pos full)

theorem stageWrite_joins (in_ : rangeOk (h.overlay x.staged) w.key w.value = true) (fits : ¬ tooBig (stageIn x.staged w)) :
    h.stageWrite x w = (0, h.putTxn { x with staged := stageIn x.staged w }) := (if_neg (by simp [in_])).trans (if_neg fits)

end

/-! ### OD_WRITE and its trailer (R364, R440) -/

section
variable {w i v l d : Nat} {b g : Bool}

/-- The trailer of an OD_WRITE is good. -/
abbrev writeSigned (h : Hub) (w i v l d : Nat) : Bool :=
  h.trailerOk 0x11 i v l (toBytes (l - 40) d) (field d (l - 40) 40) (some (i * 256 + v % 256)) ((h.txnBefore w).map (·.session))

/-- What a write with this trailer comes with. -/
abbrev linkCtx (w l d : Nat) (b g : Bool) : WriteCtx := ⟨w, trSession (field d (l - 40) 40), b, g, []⟩

theorem odWrite_noEntry (absent : odExists i (v % 256) = false) : h.odWrite w i v l d b g = (some 1, h) := if_pos (by simp [absent])

section
variable (exists_ : odExists i (v % 256) = true)
include exists_

theorem odWrite_unsigned (bad : l < 40 ∨ h.writeSigned w i v l d = false) : h.odWrite w i v l d b g = (some 4, h) :=
  (if_neg (by simp [exists_])).trans (if_pos (by simpa using bad))

/-- A write whose trailer passed takes it, and closes the session whose counter it spends. -/
theorem odWrite_signed {r : Option Nat} {y : Hub} (whole : 40 ≤ l) (signed : h.writeSigned w i v l d = true)
    (checked : (h.trailerTaken (field d (l - 40) 40)).writeChecked (linkCtx w l d b g) i v (l - 40) (d % 256 ^ (l - 40)) = (r, y)) :
    h.odWrite w i v l d b g = (r, y.counterSpent (field d (l - 40) 40)) :=
  (if_neg (by simp [exists_])).trans ((if_neg (by simpa [signed] using whole)).trans
    (congrArg (fun r : Option Nat × Hub => (r.1, r.2.counterSpent (field d (l - 40) 40))) checked))

end
end

/-! ### OD_BEGIN (R365, R366) -/

section
variable {w i v l d : Nat}

/-- The trailer of an OD_BEGIN is good. -/
abbrev beginSigned (h : Hub) (i v l d : Nat) : Bool := h.trailerOk 0x12 i v l (toBytes 4 d) (field d 4 40) none none

theorem odBegin_badLength (bad : l ≠ 44) : h.odBegin w i v l d = (5, h) := if_pos bad

section
variable (whole : l = 44)
include whole

theorem odBegin_unsigned (unsigned : h.beginSigned i v l d = false) : h.odBegin w i v l d = (4, h) :=
  (if_neg (not_not.2 whole)).trans (if_pos (by simp [unsigned]))

section
variable (signed : h.beginSigned i v l d = true)
include signed

theorem odBegin_signed : h.odBegin w i v l d =
    let B := h.trailerTaken (field d 4 40)
    let r : Nat × Hub :=
      if (B.txnBefore w).isSome then (11, B)
      else if 4 ≤ (B.odTxns.filter (fun x => x.stage != 2)).length then (12, B)
      else (0, { B with odTxns := B.odTxns ++ [(⟨w, trSession (field d 4 40), field d 0 4, [], B.now, 0⟩ : OdTxn)] }.refreshOdOpen)
    (r.1, r.2.counterSpent (field d 4 40)) :=
  (if_neg (not_not.2 whole)).trans (if_neg (by simp [signed]))

theorem odBegin_twice {x : OdTxn} (open_ : (h.trailerTaken (field d 4 40)).txnBefore w = some x) :
    h.odBegin w i v l d = (11, (h.trailerTaken (field d 4 40)).counterSpent (field d 4 40)) := by
  rw [odBegin_signed whole signed]
  dsimp only
  rw [if_pos (by simp [open_])]

variable (none_ : (h.trailerTaken (field d 4 40)).txnBefore w = none)
include none_

theorem odBegin_full (full : 4 ≤ ((h.trailerTaken (field d 4 40)).odTxns.filter (fun x => x.stage != 2)).length) :
    h.odBegin w i v l d = (12, (h.trailerTaken (field d 4 40)).counterSpent (field d 4 40)) := by
  rw [odBegin_signed whole signed]
  dsimp only
  rw [if_neg (by simp [none_]), if_pos full]

/-- A transaction is open for a requester. -/
def opened (x : OdTxn) (h : Hub) : Hub := ({ h with odTxns := h.odTxns ++ [x] } : Hub).refreshOdOpen

theorem odBegin_opens (room : ((h.trailerTaken (field d 4 40)).odTxns.filter (fun x => x.stage != 2)).length < 4) :
    h.odBegin w i v l d = (0, ((h.trailerTaken (field d 4 40)).opened
      ⟨w, trSession (field d 4 40), field d 0 4, [], (h.trailerTaken (field d 4 40)).now, 0⟩).counterSpent (field d 4 40)) := by
  rw [odBegin_signed whole signed]
  dsimp only
  rw [if_neg (by simp [none_]), if_neg (Nat.not_le.2 room)]
  rfl

end
end
end

/-! ### OD_COMMIT and OD_ABORT (R368, R371) -/

section
variable {w i v l d req : Nat} {x : OdTxn}

theorem txnTrailer_badLength (bad : l ≠ 40) : h.txnTrailer w req i v l d = .error 5 := if_pos bad

section
variable (whole : l = 40)
include whole

theorem txnTrailer_none (none_ : h.txnBefore w = none) : h.txnTrailer w req i v l d = .error 10 := by
  rw [txnTrailer, if_neg (not_not.2 whole), none_]

section
variable (open_ : h.txnBefore w = some x)
include open_

theorem txnTrailer_some : h.txnTrailer w req i v l d =
    if h.trailerOk req i v l [] (d % 256 ^ 40) none (some x.session) = true then .ok x else .error 4 := by
  rw [txnTrailer, if_neg (not_not.2 whole), open_]

theorem txnTrailer_ok (signed : h.trailerOk req i v l [] (d % 256 ^ 40) none (some x.session) = true) :
    h.txnTrailer w req i v l d = .ok x := (txnTrailer_some whole open_).trans (if_pos signed)

theorem txnTrailer_unsigned (unsigned : h.trailerOk req i v l [] (d % 256 ^ 40) none (some x.session) = false) :
    h.txnTrailer w req i v l d = .error 4 := (txnTrailer_some whole open_).trans (if_neg (ne_true_of_eq_false unsigned))

end
end

/-- The trailer of a COMMIT or an ABORT has been taken. -/
abbrev signedOff (d : Nat) (h : Hub) : Hub := (h.trailerTaken (d % 256 ^ 40)).counterSpent (d % 256 ^ 40)

section
variable {c : Nat}

theorem odCommit_error (error : h.txnTrailer w 0x13 i v l d = .error c) : h.odCommit w i v l d = (some c, h) := by
  rw [odCommit, error]

theorem odAbort_error (error : h.txnTrailer w 0x14 i v l d = .error c) : h.odAbort w i v l d = (c, h) := by
  rw [odAbort, error]

end

theorem odCommit_begins (ok : h.txnTrailer w 0x13 i v l d = .ok x) : h.odCommit w i v l d =
    (none, ((((h.signedOff d).putTxn { x with stage := 1, last := (h.signedOff d).now }).wr Reg.committing 1).refreshHalts).refreshOdOpen) := by
  rw [odCommit, ok]

theorem odAbort_ends (ok : h.txnTrailer w 0x14 i v l d = .ok x) : h.odAbort w i v l d = (0, (h.signedOff d).dropTxn x 3) := by
  rw [odAbort, ok]

end
end

end Sys2Proof.Machine.Hub

open Sys2Proof.Machine Sys2Proof.Machine.Hub

/-- Settles O52: a request reaches Flint or is refused on its link; a halt refuses it; then each clause is one check of its operation, or the
effect of a request that passed them all. -/
theorem dictionaryRequests : Obligations.DictionaryRequests := by
  unfold Obligations.DictionaryRequests
  dsimp only [exec, execOdRead, execOdWrite, execOdBegin, execOdCommit, execOdAbort, execOdStatus, execOdDescribe]
  intro t s q i v len data b g x
  have silent (none : ∀ req i v l d b g, (s.arrive t).linkRequest q.code req i v l d b g false = s.arrive t) (req i v l d : Nat) (b g : Bool) :
      act t s (linkRequest q.code req i v l d b g false) = .next (s.settled (s.arrive t)) := act_eq (none req i v l d b g)
  refine ⟨fun u on refuses => ?_, fun trunk off => ?_, fun notA notB refuses => ?_, fun halted => act_eq (linkRequest_halted (by decide) halted),
    fun served => act_eq (linkRequest_read served), fun serves => act_eq (linkRequest_status serves),
    fun halted => act_eq (linkRequest_halted (by decide) halted), fun served exists_ => act_eq (linkRequest_describe served exists_),
    fun served absent => act_eq (linkRequest_describe_absent served absent), fun halted => act_eq (linkRequest_halted (by decide) halted),
    fun served absent => act_eq (linkRequest_write served (odWrite_noEntry absent)),
    fun served exists_ short => act_eq (linkRequest_write served (odWrite_unsigned exists_ (.inl short))),
    fun ⟨served, exists_, whole⟩ unsigned =>
      act_eq (linkRequest_write served (odWrite_unsigned exists_ (.inr (eq_false_of_ne_true unsigned)))),
    fun ⟨served, exists_, whole⟩ signed refused =>
      act_eq (linkRequest_write served (odWrite_signed exists_ whole signed (writeChecked_noRight refused))),
    fun ⟨⟨served, exists_, whole⟩, signed, right⟩ open_ live =>
      act_eq (linkRequest_write served (odWrite_signed exists_ whole signed (writeChecked_noStage right open_ live))),
    fun ⟨⟨served, exists_, whole⟩, signed, right⟩ goes bad =>
      act_eq (linkRequest_write served (odWrite_signed exists_ whole signed (writeChecked_badLength right goes bad))),
    fun ⟨⟨⟨served, exists_, whole⟩, signed, right⟩, open_, staged, fits⟩ out => act_eq (linkRequest_write served
      (odWrite_signed exists_ whole signed (writeChecked_stages right fits open_ staged (stageWrite_range out)))),
    fun ⟨⟨⟨served, exists_, whole⟩, signed, right⟩, open_, staged, fits⟩ in_ full => act_eq (linkRequest_write served
      (odWrite_signed exists_ whole signed (writeChecked_stages right fits open_ staged (stageWrite_full in_ full)))),
    fun ⟨⟨⟨served, exists_, whole⟩, signed, right⟩, open_, staged, fits⟩ in_ room => act_eq (linkRequest_write served
      (odWrite_signed exists_ whole signed (writeChecked_stages right fits open_ staged (stageWrite_joins in_ room)))),
    fun ⟨⟨⟨served, exists_, whole⟩, signed, right⟩, none_, fits, other, session, claim⟩ passes => act_eq (linkRequest_write served
      (odWrite_signed exists_ whole signed (writeChecked_takes right fits none_ other (liveWrite_takes session claim passes)))),
    fun ⟨⟨⟨served, exists_, whole⟩, signed, right⟩, none_, fits, other, session, claim⟩ refused => act_eq (linkRequest_write served
      (odWrite_signed exists_ whole signed (writeChecked_refused right fits none_ other (liveWrite_refused session claim refused) refused))),
    fun ⟨⟨⟨served, exists_, whole⟩, signed, right⟩, none_, fits, device⟩ => ?_,
    fun halted => act_eq (linkRequest_halted (by decide) halted), fun served bad => act_eq (linkRequest_begin served (odBegin_badLength bad)),
    fun served whole unsigned => act_eq (linkRequest_begin served (odBegin_unsigned whole unsigned)),
    fun ⟨served, whole, signed⟩ open_ => act_eq (linkRequest_begin served (odBegin_twice whole signed open_)),
    fun ⟨served, whole, signed⟩ none_ full => act_eq (linkRequest_begin served (odBegin_full whole signed none_ full)),
    fun ⟨served, whole, signed⟩ none_ room => act_eq (linkRequest_begin served (odBegin_opens whole signed none_ room)),
    fun halted => act_eq (linkRequest_halted (by decide) halted),
    fun served bad => act_eq (linkRequest_commit served (odCommit_error (txnTrailer_badLength bad))),
    fun served whole none_ => act_eq (linkRequest_commit served (odCommit_error (txnTrailer_none whole none_))),
    fun ⟨served, whole, open_⟩ signed => act_eq (linkRequest_commit_waits served (odCommit_begins (txnTrailer_ok whole open_ signed))),
    fun ⟨served, whole, open_⟩ unsigned => act_eq (linkRequest_commit served (odCommit_error (txnTrailer_unsigned whole open_ unsigned))),
    fun halted => act_eq (linkRequest_halted (by decide) halted),
    fun served bad => act_eq (linkRequest_abort served (odAbort_error (txnTrailer_badLength bad))),
    fun served whole none_ => act_eq (linkRequest_abort served (odAbort_error (txnTrailer_none whole none_))),
    fun ⟨served, whole, open_⟩ signed => act_eq (linkRequest_abort served (odAbort_ends (txnTrailer_ok whole open_ signed))),
    fun ⟨served, whole, open_⟩ unsigned => act_eq (linkRequest_abort served (odAbort_error (txnTrailer_unsigned whole open_ unsigned)))⟩
  · have trunk : (Sys2Proof.Requester.trunk u).code = 16 ∨ (Sys2Proof.Requester.trunk u).code = 17 := by simp only [Sys2Proof.Requester.code]; omega
    have stalls (req i v l d : Nat) (b g : Bool) : act t s (linkRequest (Sys2Proof.Requester.trunk u).code req i v l d b g false)
        = .next (s.settled ((s.arrive t).answer (16 + u.val) req 9 0 0)) := act_eq (linkRequest_stalls _ _ _ _ _ _ _ _ trunk on refuses)
    exact ⟨stalls _ _ _ _ _ _ _, stalls _ _ _ _ _ _ _, stalls _ _ _ _ _ _ _, stalls _ _ _ _ _ _ _, stalls _ _ _ _ _ _ _, stalls _ _ _ _ _ _ _,
      stalls _ _ _ _ _ _ _⟩
  · have dark := silent (fun req i v l d b g => linkRequest_dark req i v l d b g false trunk off)
    exact List.forall_mem_cons.2 ⟨dark _ _ _ _ _ _ _, List.forall_mem_cons.2 ⟨dark _ _ _ _ _ _ _, List.forall_mem_cons.2 ⟨dark _ _ _ _ _ _ _,
      List.forall_mem_cons.2 ⟨dark _ _ _ _ _ _ _, List.forall_mem_cons.2 ⟨dark _ _ _ _ _ _ _, List.forall_mem_cons.2 ⟨dark _ _ _ _ _ _ _,
        List.forall_mem_singleton.2 (dark _ _ _ _ _ _ _)⟩⟩⟩⟩⟩⟩
  · have lost := silent (fun req i v l d b g => linkRequest_unrouted req i v l d b g false notA notB refuses)
    exact List.forall_mem_cons.2 ⟨lost _ _ _ _ _ _ _, List.forall_mem_cons.2 ⟨lost _ _ _ _ _ _ _, List.forall_mem_cons.2 ⟨lost _ _ _ _ _ _ _,
      List.forall_mem_cons.2 ⟨lost _ _ _ _ _ _ _, List.forall_mem_cons.2 ⟨lost _ _ _ _ _ _ _, List.forall_mem_cons.2 ⟨lost _ _ _ _ _ _ _,
        List.forall_mem_singleton.2 (lost _ _ _ _ _ _ _)⟩⟩⟩⟩⟩⟩
  · split
    next done =>
      exact act_eq (linkRequest_write served (odWrite_signed exists_ whole signed (writeChecked_device_done right fits none_ device done)))
    next code refused =>
      exact act_eq (linkRequest_write served (odWrite_signed exists_ whole signed (writeChecked_device_refused right fits none_ device refused)))
    next waits =>
      exact act_eq (linkRequest_write_waits served (odWrite_signed exists_ whole signed
        (writeChecked_device_waits right fits none_ device waits)))
end
